-- ==== Sys2Proof/Word.lean ====
section
/-!
DEFINITION. The word types of the block: what the spec treats as bits is a bit vector, everything else is not.
-/

namespace Sys2Proof

/-- One byte of a message or of an object value (R383: multi-byte values are little-endian on every path). -/
abbrev Byte := BitVec 8

/-- A 16-bit field. -/
abbrev W16 := BitVec 16

/-- A 32-bit status word (the field maps of the spec). -/
abbrev W32 := BitVec 32

/-- Module time and times of module time, in nanoseconds (R360). -/
abbrev Nanos := Nat

end Sys2Proof
end

