-- ==== Sys2Proof/Syntax.lean ====
section
/-!
DEFINITION. The commands of the block: one constructor of Instr per row of spec/opcode_table.json, with the operands
the row's rule gives it, and the types of those operands.
-/

namespace Sys2Proof

/-- The two traction ports (R1). -/
inductive PortId where
  | a | b
  deriving DecidableEq, Repr

/-- Port number: 0 port A, 1 port B (Table 15.16). -/
def PortId.num : PortId → Nat
  | .a => 0
  | .b => 1

/-- The three phases of a traction port, in the order U, V, W (R75). -/
inductive Phase where
  | u | v | w
  deriving DecidableEq, Repr

def Phase.num : Phase → Nat
  | .u => 0
  | .v => 1
  | .w => 2

/-- Stage groups, in the numbering sg = 0-7 of Table 2.14 (R74). -/
inductive StageGroup where
  | portA | portB | conv | grid | llcPri | llcSec | aux | act
  deriving DecidableEq, Repr

def StageGroup.num : StageGroup → Nat
  | .portA => 0
  | .portB => 1
  | .conv => 2
  | .grid => 3
  | .llcPri => 4
  | .llcSec => 5
  | .aux => 6
  | .act => 7

/-- The four enable pins and their groups (Table 2.9), in the numbering of Table 15.16. -/
inductive EnableGroup where
  | enA | enB | enConv | enAux
  deriving DecidableEq, Repr

def EnableGroup.num : EnableGroup → Nat
  | .enA => 0
  | .enB => 1
  | .enConv => 2
  | .enAux => 3

/-- The three CAN ports (Table 14.1). -/
inductive CanPort where
  | canA | canB | canC
  deriving DecidableEq, Repr

def CanPort.num : CanPort → Nat
  | .canA => 0
  | .canB => 1
  | .canC => 2

/-- The five network ports, in the numbering of Table 15.16. -/
inductive NetPort where
  | can (p : CanPort) | eth1 | eth2
  deriving DecidableEq, Repr

def NetPort.num : NetPort → Nat
  | .can p => p.num
  | .eth1 => 3
  | .eth2 => 4

/-- The event scopes of Table 15.16 (R394). -/
inductive Scope where
  | module
  | stage (sg : StageGroup)
  | port (p : PortId)
  | channel (n : Nat)
  | conn (n : Nat)
  | wheel (n : Nat)
  | bothPorts
  | slot (n : Nat)
  | output (n : Nat)
  | net (p : NetPort)
  | inputFn (n : Nat)
  | group (g : EnableGroup)
  | actuator (n : Nat)
  | backup (n : Nat)
  | pin (n : Nat)
  deriving DecidableEq, Repr

/-- SCOPE of Table 15.16. -/
def Scope.code : Scope → Nat
  | .module => 0
  | .stage _ => 1
  | .port _ => 2
  | .channel _ => 3
  | .conn _ => 4
  | .wheel _ => 5
  | .bothPorts => 6
  | .slot _ => 7
  | .output _ => 8
  | .net _ => 9
  | .inputFn _ => 10
  | .group _ => 11
  | .actuator _ => 12
  | .backup _ => 13
  | .pin _ => 14

/-- NUMBER of Table 15.16: the number within the scope. -/
def Scope.number : Scope → Nat
  | .module => 0
  | .stage sg => sg.num
  | .port p => p.num
  | .channel n => n
  | .conn n => n
  | .wheel n => n
  | .bothPorts => 0
  | .slot n => n
  | .output n => n
  | .net p => p.num
  | .inputFn n => n
  | .group g => g.num
  | .actuator n => n
  | .backup n => n
  | .pin n => n

/-- A host path (R387): a USDO client by its port (CANA or CANB) and node, CANC as one path, or a Hokuith source
address and port. -/
inductive Path where
  | usdo (onB : Bool) (node : Fin 128)
  | canc
  | hk (ip : BitVec 32) (port : BitVec 16)
  deriving DecidableEq, Repr

/-- The control-plane computations of Table 1.3 that the late-beat monitor checks (R17). -/
inductive Computation where
  | traction (p : PortId)
  | slot (k : Fin 32)
  | reed (island : Fin 64)
  deriving DecidableEq, Repr

/-- One clock of a modulator (R156): its bit, and its over-range comparator (R167). -/
structure ModClock where
  bit  : Bool
  ovr  : Bool := false
  deriving DecidableEq, Repr

/-- The bitstream of a channel, oldest clock first, up to and with the clock at which it is used (R156, R157). -/
structure BitStream where
  ch     : Fin 48
  clocks : List ModClock
  deriving DecidableEq, Repr

/-- What a self-calibration measured (Table 6.6): modulator offsets of step 2, sensor offsets of step 3 (fine codes),
gains of step 4 (units of 2^-30), and the zero-current condition of each port (R174). -/
structure CalMeas where
  modOff : List (Fin 48 × Int) := []
  sensor : List (Fin 48 × Int) := []
  gain   : List (Fin 48 × Int) := []
  zeroA  : Bool := true
  zeroB  : Bool := true
  deriving DecidableEq, Repr


/-- The faults the fault tables of the spec name (R73, R106, R132, R153, R176, R203, R233, R255, R272, R291,
R316, R341, R379, R407, R432, R455, R477): one constructor per name. -/
inductive FaultName where
  | coreSupply
  | ascUnavailable
  | partnerLost
  | roleConflict
  | handoverAbort
  | desat
  | didtShort
  | multiPos
  | tripDirect
  | gateUv
  | dieLost
  | warpNoack
  | warpSilent
  | enableLow
  | seqInterlock
  | platTimeout
  | reedSaturated
  | actBoot
  | bootUv
  | auxPhaseShed
  | npDevWarn
  | npDevHigh
  | fluxBuildFail
  | initAngleFail
  | fluxDiverge
  | idifHigh
  | fswDwellExt
  | idleAsc
  | curveSrcInvalid
  | catchFail
  | stopTimeout
  | locked
  | obsLost
  | obsRepeat
  | twSignal
  | twSync
  | twPw
  | twPlaus
  | modFail
  | linkDisagree
  | isum
  | measTestFail
  | calFail
  | calChannel
  | calDeferred
  | dieTsense
  | isoWarn
  | isoAlarm
  | compExit
  | overrun
  | compInput
  | convFcDev
  | fcPrechargeFail
  | batLimitsStale
  | linkUv
  | linkHigh
  | linkTrip
  | linkDischHot
  | llcOc
  | bus54Ov
  | bus54Uv
  | llcRetry
  | auxSynclost
  | auxOv
  | batauxOc
  | batauxLow
  | gridUv
  | gridOv
  | gridFreq
  | gridUnbal
  | gridPll
  | gridLinkLow
  | gridRetry
  | tbatLost
  | chgWdExpired
  | batauxLost
  | batauxDead
  | batauxHot
  | batauxTsense
  | chgtime
  | lampOc
  | actOc
  | actOcRepeat
  | hallFault
  | actStall
  | actTimeout
  | actHot
  | shiftFail
  | dieTDerate
  | dieDtdt
  | dieOt
  | ctrlTsense
  | ctrlOt
  | coolantHot
  | coolantTsense
  | coolantFlow
  | lctHot
  | lctTsense
  | wtHot
  | wtTsense
  | refTsense
  | scFail
  | scWdog
  | stoReadback
  | siTest
  | siDisc
  | resetStuck
  | speedXchk
  | safeSpeedInv
  | ss1RampViol
  | slsViol
  | sdiViol
  | soFault
  | safetySto
  | doridExpired
  | doridErrrate
  | doridPairExpired
  | doridTimeLost
  | otpBurnFail
  | proofTest
  | canWarn
  | canPassive
  | canBusoff
  | canLoadHigh
  | isoNoAddr
  | timeRankDup
  | timeOffset
  | timeLost
  | glTimeErr
  | eth1Link
  | commitMissed
  | sessLockout
  | xingTimeout
  | timebaseFail
  | bistWarp
  | bistFabric
  | bistGuy
  | bistPin
  | bistGate
  | bistOverdue
  | otpIntegrity
  deriving DecidableEq, Repr


/-- What the surroundings present at tick 0 of a beat (R18): the fast-path evaluations, the levels of the pins, the
reading of the fabric speed monitor (R16) and the unlatched causes that have ended since the last beat (R26). -/
structure BeatInput where
  evals       : List BitStream := []
  fabricPct   : Nat := 100
  serviceNLow : Bool := false
  pairOkIn    : Bool := false
  pairStoIn   : Bool := false
  enA         : Bool := false
  enB         : Bool := false
  enConv      : Bool := false
  enAux       : Bool := false
  ended       : List (FaultName × Scope) := []
  deriving DecidableEq, Repr

/-- Safe preset classes of Table 2.5 (R57). -/
inductive PresetClass where
  | a | b | c
  deriving DecidableEq, Repr

/-- A run of samples of a tooth-wheel input, 25 ns apart (R136): the levels of the timing track and of the second track, and how many
samples show them. -/
structure TrackRun where
  a     : Bool
  b     : Bool := false
  count : Nat
  deriving DecidableEq, Repr

/-- What an island's heddle observed on one edge of a die: the slope share of a turn-on edge in per cent (R68), a gate
that did not pass its level in time (gate short), a turn-on edge with no plateau sensed (R70), and when the plateau exit was
sensed, ns after the pre-charge (R48). -/
structure EdgeObs where
  die       : Fin 8
  share     : Option Rat := none
  gateShort : Bool := false
  noPlateau : Bool := false
  exitNs    : Option Nat := none
  deriving DecidableEq, Repr

/-- What a credited setting write carries (Table 2.4): a parameter of the inactive bank, a trim pair or a test. -/
inductive SettingWrite where
  | param (key value : Nat)
  | trim (die : Fin 8) (on off : Int)
  | test (code : Nat)
  deriving DecidableEq, Repr

/-- A warp frame from the controller to an island (Table 2.4); the spec lays out no bits, so its CRC-8 stands as a
verdict beside it (log entry 10). -/
structure WarpDown where
  epoch    : BitVec 4
  frame    : Fin 4
  cmd      : List (Fin 8 × Bool × Fin 50) := []
  presetOn : Bool := false
  cls      : PresetClass := .a
  enable   : Bool := true
  clear    : Bool := false
  bank     : Bool := false
  set      : Option SettingWrite := none
  deriving DecidableEq, Repr

/-- A warp frame from an island to the controller (Table 2.4): a fault flag names the die, whether the di/dt detector (not the
desaturation one) fired, and its tick; a lock-out flag the die, the -4 V rail (not the other one), and whether it is locked out. -/
structure WarpUp where
  epoch  : BitVec 4
  frame  : Fin 4
  ack    : List (Fin 8) := []
  flt    : List (Fin 8 × Bool × Fin 200) := []
  uv     : List (Fin 8 × Bool × Bool) := []
  temp   : Option (Fin 8 × Option Int) := none
  credit : Nat := 0
  deriving DecidableEq, Repr

/-- A warp frame in either direction. -/
inductive WarpFrame where
  | down (f : WarpDown)
  | up (f : WarpUp)
  deriving DecidableEq, Repr

/-- The three-level legs (R59): a phase of a traction port, or a phase of the battery converter. -/
inductive ThreeLevelLeg where
  | port (p : PortId) (ph : Phase)
  | conv (n : Fin 3)
  deriving DecidableEq, Repr

/-- The grid supply checks of Table 9.1 that raise a fault (R236). -/
inductive GridCheck where
  | linkLow | uv | uvDeep | ov | ovPeak | freq | unbal | pll
  deriving DecidableEq, Repr

/-- The three conditions that end FAST (R247): -dV with the 10 s mean that met it, dT/dt, ceiling. -/
inductive FastEnd where
  | dv | dtdt | ceiling
  deriving DecidableEq, Repr

/-- The battery limits of R217. -/
inductive BatLimit where
  | chargeCurrent | dischargeCurrent | voltMin | voltMax
  deriving DecidableEq, Repr

/-- A data frame received on a CAN port: identifier, format bits, SDU type (CAN XL) and data (R354, R355). -/
structure CanFrame where
  ident : Nat
  ext   : Bool := false
  fd    : Bool := true
  brs   : Bool := false
  xl    : Bool := false
  data  : List Byte := []
  deriving DecidableEq, Repr

/-- The head of an IPv4 datagram received on ETH1 (R348): destination address and UDP port, the VID of its tag (0 without one), and
whether it is a fragment. -/
structure UdpHead where
  dest     : BitVec 32
  destPort : BitVec 16 := 4980
  vid      : BitVec 12 := 0
  fragment : Bool := false
  deriving DecidableEq, Repr

/-- The transfers of USDO (R389): an expedited or segmented read or write, a next segment, an abort. -/
inductive UsdoRequest where
  | read (index : BitVec 16) (sub : BitVec 8)
  | write (index : BitVec 16) (sub : BitVec 8) (data : List Byte)
  | writeStart (index : BitVec 16) (sub : BitVec 8) (total : Nat) (data : List Byte)
  | segment (data : List Byte) (last : Bool)
  | readSegment
  | abort
  | badSpecifier
  deriving DecidableEq, Repr

/-- A management message on the guy line's message channel (R368, R402, R35, R38). -/
inductive GuyMsg where
  | announce (t : Nat) (id : W32)
  | withdraw (t : Nat)
  deriving DecidableEq, Repr


/-- The commands (the rows of spec/opcode_table.json, in its order). -/
inductive Instr where
  /-- LOGIC_IN_RISE (R433). -/
  | logicInRise
  /-- LOGIC_IN_LOSS (R21). -/
  | logicInLoss
  /-- CORE_SUPPLY (R8). -/
  | coreSupply
  /-- BEAT_START (R18). -/
  | beatStart (b : BeatInput)
  /-- TRACTION_DECISION (R102). -/
  | tractionDecision (p : PortId) (ticks : Nat)
  /-- OUTPUT_TICK (R17). -/
  | outputTick (p : PortId)
  /-- OVERRUN (R17). -/
  | overrun (c : Computation)
  /-- LATE_RESULT_DISCARD (R17). -/
  | lateResultDiscard (c : Computation)
  /-- DEAD_T_TURN_ON (R51). -/
  | deadTTurnOn (p : PortId) (ph : Phase)
  /-- MODULE_CMD_READY (R21). -/
  | moduleCmdReady (path : Path)
  /-- MODULE_CMD_RUN (R21). -/
  | moduleCmdRun (path : Path)
  /-- MODULE_CMD_STOP (R21). -/
  | moduleCmdStop (path : Path)
  /-- MODULE_CMD_STANDBY (R21). -/
  | moduleCmdStandby (path : Path)
  /-- MODULE_CMD_SERVICE (R21). -/
  | moduleCmdService (path : Path)
  /-- MODULE_CMD_LEAVE_SERVICE (R21). -/
  | moduleCmdLeaveService (path : Path)
  /-- MODULE_CMD_HANDOVER (R35). -/
  | moduleCmdHandover (path : Path)
  /-- MODULE_CMD_RESET (R21). -/
  | moduleCmdReset (path : Path)
  /-- MODULE_CMD_CLEAR_OVERRUN (R40). -/
  | moduleCmdClearOverrun (path : Path)
  /-- LINK_LOW_IN_READY (R21). -/
  | linkLowInReady
  /-- SERVICE_N_HIGH (R22). -/
  | serviceNHigh
  /-- FAULT_REPORT (R24). -/
  | faultReport (f : FaultName) (sc : Scope) (r : Fin 5)
  /-- F2_ESCALATION (R25). -/
  | f2Escalation (p : PortId)
  /-- ASC_EXIT (R28). -/
  | ascExit (p : PortId)
  /-- GUY_FRAME_TX (R365). -/
  | guyFrameTx
  /-- GUY_FRAME_RX (R365). -/
  | guyFrameRx (tick : Fin 200) (bytes : List Byte) (fcsOk : Bool)
  /-- PARTNER_FLUX_EXTRAP_END (R32). -/
  | partnerFluxExtrapEnd
  /-- PARTNER_ABSENT (R32). -/
  | partnerAbsent (late : Bool)
  /-- GUY_FRAME_TIMEOUT_FOLLOWER (R37). -/
  | guyFrameTimeoutFollower (late : Bool)
  /-- PAIR_STO_IN_HIGH (R33). -/
  | pairStoInHigh
  /-- HANDOVER_TIME (R35). -/
  | handoverTime
  /-- HANDOVER_ABORT (R35). -/
  | handoverAbort (late : Bool)
  /-- JOIN_TIME (R38). -/
  | joinTime
  /-- SHARE_RAMP_DONE (R38). -/
  | shareRampDone
  /-- GATE_COMMAND (R9). -/
  | gateCommand (isl : Fin 64) (cmds : List (Fin 8 × Bool)) (frame : Fin 4) (tick : Fin 50) (obs : List EdgeObs)
  /-- PLAT_TIMEOUT (R48). -/
  | platTimeout (g : Fin 512)
  /-- GATE_UV_LOCKOUT (R45). -/
  | gateUvLockout (g : Fin 512) (neg : Bool)
  /-- GATE_UV_RELEASE (R45). -/
  | gateUvRelease (g : Fin 512) (neg : Bool)
  /-- WARP_FRAME (R53). -/
  | warpFrame (isl : Fin 64) (f : WarpFrame) (crcOk : Bool)
  /-- WARP_ACK_TIMEOUT (R55). -/
  | warpAckTimeout (isl : Fin 64) (frame : Fin 4)
  /-- SAFE_PRESET_UPDATE (R56). -/
  | safePresetUpdate
  /-- WARP_SILENT (R57). -/
  | warpSilent (isl : Fin 64) (late : Bool)
  /-- PRESET_CLASS_B_OFF (R57). -/
  | presetClassBOff (isl : Fin 64)
  /-- PRESET_CLASS_C_ON (R57). -/
  | presetClassCOn (isl : Fin 64)
  /-- INNER_TURN_OFF (R59). -/
  | innerTurnOff (leg : ThreeLevelLeg)
  /-- ISLAND_TRAINED (R436). -/
  | islandTrained (isl : Fin 64)
  /-- ISLAND_REARM (R58). -/
  | islandRearm (isl : Fin 64)
  /-- DESAT_BLANK_END (R61). -/
  | desatBlankEnd (g : Fin 512)
  /-- DESAT_DETECT (R63). -/
  | desatDetect (g : Fin 512) (tick : Fin 200)
  /-- DIDT_DETECT (R62). -/
  | didtDetect (g : Fin 512) (tick : Fin 200)
  /-- SOFT_T_END (R63). -/
  | softTEnd (isl : Fin 64) (tick : Fin 200)
  /-- ENABLE_LOW (R67). -/
  | enableLow (e : EnableGroup)
  /-- ENABLE_RISE (R67). -/
  | enableRise (e : EnableGroup) (lowNs : Nat) (still : List (FaultName × Scope))
  /-- REED_UPDATE (R68). -/
  | reedUpdate
  /-- REED_SATURATED (R69). -/
  | reedSaturated (g : Fin 512)
  /-- GATE_LEAK_WINDOW (R70). -/
  | gateLeakWindow (high unmeasured : List (Fin 512))
  /-- DIE_RETEST (R72). -/
  | dieRetest (path : Path)
  /-- DIE_RETEST_DONE (R72). -/
  | dieRetestDone (passed : List (Fin 512))
  /-- FSW_LIMITER (R96). -/
  | fswLimiter (p : PortId)
  /-- FSW_DWELL_EXT (R96). -/
  | fswDwellExt (p : PortId)
  /-- VLIM_ENTER (R97). -/
  | vlimEnter (p : PortId)
  /-- VLIM_EXIT (R97). -/
  | vlimExit (p : PortId)
  /-- NP_DEV_WARN (R90). -/
  | npDevWarn
  /-- NP_DEV_HIGH (R90). -/
  | npDevHigh
  /-- FLUX_BUILD_FAIL (R99). -/
  | fluxBuildFail (p : PortId)
  /-- ANGLE_TEST_PULSE_END (R100). -/
  | angleTestPulseEnd (p : PortId)
  /-- ANGLE_TEST_PAUSE_END (R100). -/
  | angleTestPauseEnd (p : PortId)
  /-- IDIF_HIGH (R104). -/
  | idifHigh (p : PortId)
  /-- FLUX_DIVERGE (R106). -/
  | fluxDiverge (p : PortId)
  /-- DRAFT_RESTORE (R94). -/
  | draftRestore (path : Path) (p : PortId)
  /-- OBS_REPEAT (R127). -/
  | obsRepeat (p : PortId)
  /-- DRIVE_REQUEST_WRITE (R113). -/
  | driveRequestWrite (path : Path) (p : PortId) (v : BitVec 8)
  /-- SPEED_INPUT_WRITE (R114). -/
  | speedInputWrite (path : Path) (p : PortId) (v : W32)
  /-- SPEED_INPUT_TIMEOUT (R114). -/
  | speedInputTimeout (p : PortId) (late : Bool)
  /-- FIN_TIMEOUT (R114). -/
  | finTimeout (late : Bool)
  /-- FIN_EDGE (R114). -/
  | finEdge (period : Nat)
  /-- CATCH_WINDOW_END (R119). -/
  | catchWindowEnd (p : PortId)
  /-- CATCH_FAIL (R122). -/
  | catchFail (p : PortId)
  /-- STANDSTILL_HELD (R123). -/
  | standstillHeld (p : PortId)
  /-- STOP_TIMEOUT (R123). -/
  | stopTimeout (p : PortId) (late : Bool)
  /-- F2_STOP_END (R123). -/
  | f2StopEnd (p : PortId)
  /-- LOCKED_ROTOR (R124). -/
  | lockedRotor (p : PortId)
  /-- LOCKED_CLEAR (R125). -/
  | lockedClear (p : PortId)
  /-- TERMINAL_SPEED_UPDATE (R128). -/
  | terminalSpeedUpdate (p : PortId)
  /-- TW_EDGE (R137). -/
  | twEdge (n : Fin 4) (start : Nat) (runs : List TrackRun)
  /-- TW_PULSE_END (R138). -/
  | twPulseEnd (n : Fin 4) (start : Nat) (runs : List TrackRun)
  /-- TW_ZERO_TIMEOUT (R144). -/
  | twZeroTimeout (n : Fin 4) (late : Bool)
  /-- TW_SIGNAL (R153). -/
  | twSignal (n : Fin 4)
  /-- TW_PLAUS (R149). -/
  | twPlaus (n : Fin 4)
  /-- FAST_WORD_PUBLISH (R159). -/
  | fastWordPublish (streams : List BitStream)
  /-- COMP_EXIT (R160). -/
  | compExit (ch : Fin 48) (eval : Fin 10) (streams : List BitStream)
  /-- FINE_RESULT_PUBLISH (R164). -/
  | fineResultPublish (ch : Fin 48) (clock : Fin 40) (clocks : List ModClock)
  /-- FINE_RESULT_READ (R168). -/
  | fineResultRead (path : Path) (ch : Fin 48)
  /-- MUX_VISIT_END (R171). -/
  | muxVisitEnd
  /-- SELF_CAL (R173). -/
  | selfCal (path : Path)
  /-- CALIBRATION_DONE (R175). -/
  | calibrationDone (m : CalMeas)
  /-- OFFSET_REMEASURE_START (R174). -/
  | offsetRemeasureStart (p : PortId)
  /-- OFFSET_REMEASURE_DONE (R174). -/
  | offsetRemeasureDone (p : PortId) (offsets : List Int)
  /-- MOD_FAIL (R176). -/
  | modFail (ch : Fin 48) (clocks : Option (List ModClock))
  /-- MOD_FAIL_CLEAR (R176). -/
  | modFailClear (ch : Fin 48) (clocks : List ModClock)
  /-- LINK_DISAGREE (R177). -/
  | linkDisagree
  /-- ISUM (R178). -/
  | isum (p : PortId)
  /-- TESTV_SLICE_START (R179). -/
  | testvSliceStart (ch : Fin 8)
  /-- TESTV_SLICE_END (R181). -/
  | testvSliceEnd (plus minus : List ModClock)
  /-- TESTV_SLICE_ABORT (R183). -/
  | testvSliceAbort
  /-- ISO_RESULT (R187). -/
  | isoResult (r c : Rat)
  /-- ISO_RESUME (R186). -/
  | isoResume
  /-- SLOT_SAMPLE (R197). -/
  | slotSample (k : Fin 32) (evals : List BitStream)
  /-- SLOT_OUTPUT_APPLY (R197). -/
  | slotOutputApply (k : Fin 32)
  /-- SLOT_OVERRUN (R198). -/
  | slotOverrun (k : Fin 32)
  /-- COMP_INPUT (R196). -/
  | compInput (k : Fin 32)
  /-- SLOT_CMD_OPEN (R200). -/
  | slotCmdOpen (path : Path) (k : Fin 32)
  /-- SLOT_CMD_CLOSE (R200). -/
  | slotCmdClose (path : Path) (k : Fin 32)
  /-- SUPPLY_CMD_START (R209). -/
  | supplyCmdStart (path : Path)
  /-- SUPPLY_CMD_STOP (R209). -/
  | supplyCmdStop (path : Path)
  /-- LINK_PRECHARGE_CONFIRMED (R209). -/
  | linkPrechargeConfirmed
  /-- LLC_SOFT_START_DONE (R220). -/
  | llcSoftStartDone
  /-- FC_PRECHARGE_DONE (R214). -/
  | fcPrechargeDone (n : Fin 3)
  /-- FC_PRECHARGE_FAIL (R214). -/
  | fcPrechargeFail (n : Fin 3) (late : Bool)
  /-- LINK_RAMP_DONE (R212). -/
  | linkRampDone
  /-- CONV_CARRIER_PEAK (R213). -/
  | convCarrierPeak (n : Fin 3)
  /-- CONV_FC_DEV (R213). -/
  | convFcDev (n : Fin 3)
  /-- CONV_PHASE_SHED (R215). -/
  | convPhaseShed
  /-- CONV_PHASE_RETURN (R215). -/
  | convPhaseReturn
  /-- OVERLOAD_ACCOUNT_FULL (R216). -/
  | overloadAccountFull
  /-- BAT_LIMIT_WRITE (R217). -/
  | batLimitWrite (path : Path) (l : BatLimit) (v : BitVec 16)
  /-- BAT_LIMITS_STALE (R217). -/
  | batLimitsStale (late : Bool)
  /-- LINK_UV (R218). -/
  | linkUv
  /-- LINK_HIGH (R218). -/
  | linkHigh
  /-- DISCHARGE_ON (R219). -/
  | dischargeOn
  /-- DISCHARGE_OFF (R219). -/
  | dischargeOff
  /-- LINK_TRIP (R218). -/
  | linkTrip
  /-- LINK_DISCHARGE (R219). -/
  | linkDischarge (path : Path)
  /-- LINK_DISCH_HOT (R219). -/
  | linkDischHot
  /-- BUS54_OV (R221). -/
  | bus54Ov
  /-- BUS54_UV (R221). -/
  | bus54Uv
  /-- LLC_RESTART (R221). -/
  | llcRestart
  /-- AUX_V_SET_WRITE (R222). -/
  | auxVSetWrite (path : Path) (v : BitVec 16)
  /-- SYNC_IN_EDGE (R223). -/
  | syncInEdge (stamp : Nat)
  /-- AUX_SYNCLOST (R223). -/
  | auxSynclost (edge : Bool)
  /-- AUX_SHED_LIGHT_LOAD (R224). -/
  | auxShedLightLoad
  /-- AUX_PHASE_ADD (R224). -/
  | auxPhaseAdd
  /-- AUX_LOAD_STEP (R224). -/
  | auxLoadStep
  /-- AUX_SHED_HOLD_END (R224). -/
  | auxShedHoldEnd
  /-- IDEAL_DIODE_ON (R228). -/
  | idealDiodeOn
  /-- IDEAL_DIODE_OFF (R228). -/
  | idealDiodeOff
  /-- BATAUX_OC (R228). -/
  | batauxOc
  /-- BATAUX_RETRY (R228). -/
  | batauxRetry
  /-- BATAUX_LOW (R228). -/
  | batauxLow
  /-- POWER_ARBITRATION (R230). -/
  | powerArbitration
  /-- BUS54_GRANT (R231). -/
  | bus54Grant
  /-- CHG_CMD_START (R237). -/
  | chgCmdStart (path : Path)
  /-- CHG_CMD_STOP (R240). -/
  | chgCmdStop (path : Path)
  /-- CHG_CMD_REARM (R237). -/
  | chgCmdRearm (path : Path)
  /-- GRID_V_UPDATE (R236). -/
  | gridVUpdate (f : Rat)
  /-- GRID_ACCEPTANCE (R236). -/
  | gridAcceptance
  /-- GRID_SUPPLY_CHECK_FAIL (R236). -/
  | gridSupplyCheckFail (c : GridCheck)
  /-- PLL_LOCKED (R237). -/
  | pllLocked
  /-- PLL_LOCK_TIMEOUT (R237). -/
  | pllLockTimeout (late : Bool)
  /-- GRID_RESTART (R237). -/
  | gridRestart
  /-- CHARGE_COMPLETE (R240). -/
  | chargeComplete
  /-- CHG_WD_REFRESH (R243). -/
  | chgWdRefresh (path : Path) (v : BitVec 8)
  /-- CHG_I_SET_WRITE (R242). -/
  | chgISetWrite (path : Path) (v : BitVec 16)
  /-- CHG_V_SET_WRITE (R242). -/
  | chgVSetWrite (path : Path) (v : BitVec 16)
  /-- CHG_WD_EXPIRED (R242). -/
  | chgWdExpired (refresh : Option Bool)
  /-- TBAT_LOST (R244). -/
  | tbatLost
  /-- BATAUX_TEMP_READ (R245). -/
  | batauxTempRead (r : Option Rat)
  /-- BATAUX_DEAD (R246). -/
  | batauxDead
  /-- BCHG_RESTART_FAST (R246). -/
  | bchgRestartFast
  /-- BCHG_FAST_END (R247). -/
  | bchgFastEnd (c : FastEnd)
  /-- BCHG_SAFETY_TIMER_EXPIRY (R250). -/
  | bchgSafetyTimerExpiry (endSeen : Bool)
  /-- BCHG_CEILING_TIMER_EXPIRY (R250). -/
  | bchgCeilingTimerExpiry (endSeen : Bool)
  /-- BATAUX_LOST (R251). -/
  | batauxLost
  /-- BATAUX_PRESENT (R252). -/
  | batauxPresent
  /-- BCHG_CMD_FORCE_FAST (R246). -/
  | bchgCmdForceFast (path : Path)
  /-- BCHG_CMD_REARM (R252). -/
  | bchgCmdRearm (path : Path)
  /-- LAMP_OC (R253). -/
  | lampOc (fault : Bool)
  /-- LAMP_RETRY (R253). -/
  | lampRetry (fault : Bool) (still : Bool)
  /-- LAMP_TEST_END (R253). -/
  | lampTestEnd
  /-- HALL_EDGE (R257). -/
  | hallEdge (n : Fin 4) (h : Fin 8)
  /-- HALL_FAULT (R257). -/
  | hallFault (n : Fin 4)
  /-- ACT_OC_RECOVER (R260). -/
  | actOcRecover (n : Fin 4)
  /-- ACT_CMD_TARGET (R266). -/
  | actCmdTarget (path : Path) (n : Fin 4) (k : Fin 4)
  /-- ACT_CMD_HOME (R265). -/
  | actCmdHome (path : Path) (n : Fin 4)
  /-- ACT_CMD_STOP (R266). -/
  | actCmdStop (path : Path) (n : Fin 4)
  /-- ACT_STALL_DETECT (R264). -/
  | actStallDetect (n : Fin 4)
  /-- ACT_TIMEOUT (R263). -/
  | actTimeout (n : Fin 4) (endStop : Bool)
  /-- DIFF_WAIT_TIMEOUT (R266). -/
  | diffWaitTimeout (n : Fin 4) (late : Bool)
  /-- SHIFT_SYNC_REACHED (R267). -/
  | shiftSyncReached (n : Fin 4)
  /-- SHIFT_STEP_TIMEOUT (R268). -/
  | shiftStepTimeout (n : Fin 4) (late : Bool)
  /-- ACT_PAUSE_END (R271). -/
  | actPauseEnd (n : Fin 4)
  /-- ACT_THERMAL_UPDATE (R271). -/
  | actThermalUpdate (n : Fin 4)
  /-- DIE_TEMP_EVAL (R278). -/
  | dieTempEval (temps : List (Fin 512 × Option Int))
  /-- DIE_OT (R282). -/
  | dieOt (g : Fin 512)
  /-- DIE_OT_ISLAND_PRESET (R282). -/
  | dieOtIslandPreset (isl : Fin 64)
  /-- DIE_OT_COOLDOWN (R283). -/
  | dieOtCooldown (sg : StageGroup) (again : Bool)
  /-- CTRL_TJ_UPDATE (R285). -/
  | ctrlTjUpdate (a b : Option Rat)
  /-- CTRL_TSENSE (R284). -/
  | ctrlTsense
  /-- CTRL_OT (R286). -/
  | ctrlOt
  /-- COOLANT_HOT (R287). -/
  | coolantHot
  /-- COOLANT_FLOW (R287). -/
  | coolantFlow
  /-- LCT_HOT (R288). -/
  | lctHot
  /-- WT_TSENSE (R276). -/
  | wtTsense (k : Fin 4)
  /-- TIMEBASE_CORRECTION (R290). -/
  | timebaseCorrection (xtal ref : Option Rat)
  /-- SAFETY_CYCLE (R293). -/
  | safetyCycle (ecc : Nat)
  /-- SI_LEVEL_ACCEPTED (R298). -/
  | siLevelAccepted (n : Fin 16) (high : Bool)
  /-- TEST_PULSE (R299). -/
  | testPulse (k : Fin 8) (low : List (Fin 16))
  /-- SI_DISC (R302). -/
  | siDisc (k : Fin 16)
  /-- TWO_HAND_TIMEOUT (R303). -/
  | twoHandTimeout (k : Fin 16)
  /-- RESET_STUCK (R306). -/
  | resetStuck
  /-- SPEED_XCHK (R307). -/
  | speedXchk (p : PortId)
  /-- SS1_STANDSTILL_REACHED (R310). -/
  | ss1StandstillReached (p : PortId)
  /-- SS1_TIMEOUT (R310). -/
  | ss1Timeout (p : PortId)
  /-- STO_READBACK (R308). -/
  | stoReadback (p : PortId)
  /-- SBC_OFF (R313). -/
  | sbcOff (p : PortId)
  /-- SBC_RELEASE_WAIT_END (R313). -/
  | sbcReleaseWaitEnd (p : PortId)
  /-- SO_PULSE_TEST (R315). -/
  | soPulseTest (n : Fin 4) (ret : Bool) (seen : Bool)
  /-- SO_FAULT (R315). -/
  | soFault (n : Fin 4)
  /-- SC_FAIL (R297). -/
  | scFail
  /-- SC_WDOG (R297). -/
  | scWdog
  /-- DORID_PRODUCE (R325). -/
  | doridProduce (c : Fin 256)
  /-- DORID_FRAME_RX (R327). -/
  | doridFrameRx (port : Fin 5) (net : W32) (bytes : List Byte)
  /-- DORID_EXPIRED (R328). -/
  | doridExpired (c : Fin 256) (frame : Bool)
  /-- DORID_ERRRATE_HOLD_END (R329). -/
  | doridErrrateHoldEnd (c : Fin 256)
  /-- DORID_TIME_LOST (R330). -/
  | doridTimeLost
  /-- COMM_CONN_OPEN (R335). -/
  | commConnOpen (path : Path) (tool : BitVec 9)
  /-- COMM_CONN_EXPIRED (R335). -/
  | commConnExpired (confirmLost : Bool)
  /-- COMM_IDLE (R336). -/
  | commIdle (xact : BitVec 8)
  /-- COMM_WRITE (R337). -/
  | commWrite (xact : BitVec 8) (index : BitVec 16) (sub : BitVec 8) (data : List Byte)
  /-- COMM_READ (R336). -/
  | commRead (xact : BitVec 8) (index : BitVec 16) (sub : BitVec 8)
  /-- COMM_CHECK (R337). -/
  | commCheck (xact : BitVec 8)
  /-- COMM_CONFIRM (R337). -/
  | commConfirm (xact : BitVec 8) (value : W32)
  /-- COMM_DISCARD (R337). -/
  | commDiscard (xact : BitVec 8)
  /-- PROOF_TEST_ENTER (R340). -/
  | proofTestEnter (xact : BitVec 8)
  /-- PROOF_TEST_LEAVE (R340). -/
  | proofTestLeave (xact : BitVec 8)
  /-- COMM_BURN_DONE (R338). -/
  | commBurnDone (good : Bool)
  /-- PROOF_T_EXPIRY (R340). -/
  | proofTExpiry (late : Bool)
  /-- TXQ_ENQUEUE (R350). -/
  | txqEnqueue (cls : Fin 14) (data : List Byte)
  /-- FRAME_SENT (R349). -/
  | frameSent (q : Fin 16)
  /-- CAN_FRAME_RX (R355). -/
  | canFrameRx (p : CanPort) (f : CanFrame) (sof : Nat)
  /-- RX_ENTRY_READ (R355). -/
  | rxEntryRead (path : Path) (r : Fin 2048)
  /-- CAN_ERROR_STATE_CHANGE (R357). -/
  | canErrorStateChange (p : CanPort) (tec rec : Nat)
  /-- CAN_RECOVER (R358). -/
  | canRecover (path : Path) (mask : BitVec 8)
  /-- CAN_BUSOFF_RECOVERED (R358). -/
  | canBusoffRecovered (p : CanPort)
  /-- CAN_LOAD_MEASURE (R359). -/
  | canLoadMeasure (p : CanPort) (load : Nat)
  /-- ISO_ADDRESS_CLAIM (R346). -/
  | isoAddressClaim (heard : Option (BitVec 8 × BitVec 64))
  /-- ISO_PROP_READ (R346). -/
  | isoPropRead (item seq source : BitVec 8)
  /-- ISO_PROP_WRITE (R346). -/
  | isoPropWrite (item seq source : BitVec 8) (v : W32)
  /-- NMT_COMMAND (R345). -/
  | nmtCommand (onB : Bool) (cmd : BitVec 8) (node : BitVec 8)
  /-- HEARTBEAT_TX (R345). -/
  | heartbeatTx (onB : Bool)
  /-- HEARTBEAT_LOST (R345). -/
  | heartbeatLost (k : Fin 16) (late : Bool)
  /-- RPDO_RX (R387). -/
  | rpdoRx (j : Fin 32) (data : List Byte)
  /-- TPDO_TX (R405). -/
  | tpdoTx (j : Fin 32)
  /-- ETH1_ARP_REQUEST (R348). -/
  | eth1ArpRequest (vid : BitVec 12) (ip : BitVec 32)
  /-- ETH1_ICMP_ECHO (R348). -/
  | eth1IcmpEcho (h : UdpHead) (ip : BitVec 32) (data : List Byte)
  /-- ETH1_LINK (R379). -/
  | eth1Link
  /-- TIME_REF_TX (R361). -/
  | timeRefTx
  /-- TIME_REF_RX (R363). -/
  | timeRefRx (bytes : List Byte) (ident : Nat) (sof : Nat)
  /-- TIME_REF_MISSED (R362). -/
  | timeRefMissed (arrival : Bool)
  /-- TIME_OFFSET (R363). -/
  | timeOffset
  /-- TIME_LOST (R364). -/
  | timeLost (late : Bool)
  /-- GL_TIME_ERR (R367). -/
  | glTimeErr
  /-- GL_MSG_RETRANSMIT (R368). -/
  | glMsgRetransmit
  /-- GUY_LINK_DOWN (R368). -/
  | guyLinkDown
  /-- GUY_LINK_UP (R368). -/
  | guyLinkUp
  /-- CAPTURE_ITEM (R373). -/
  | captureItem (typ : Fin 16) (source : Fin 1024) (taken : Bool)
  /-- CAP_PACKET_TIMEOUT (R371). -/
  | capPacketTimeout (n : Fin 16)
  /-- CAP_RELEASE (R374). -/
  | capRelease (path : Path) (n : Fin 16) (bytes : W32)
  /-- CAP_STREAM_SEND (R374). -/
  | capStreamSend (n : Fin 16)
  /-- HK_READ (R377). -/
  | hkRead (h : UdpHead) (ip : BitVec 32) (port : BitVec 16) (bytes : List Byte)
  /-- HK_WRITE (R377). -/
  | hkWrite (h : UdpHead) (ip : BitVec 32) (port : BitVec 16) (bytes : List Byte)
  /-- HK_READ_BLOCK (R377). -/
  | hkReadBlock (h : UdpHead) (ip : BitVec 32) (port : BitVec 16) (bytes : List Byte)
  /-- HK_SESSION_OPEN_REQUEST (R390). -/
  | hkSessionOpenRequest (h : UdpHead) (ip : BitVec 32) (port : BitVec 16) (bytes : List Byte)
  /-- HK_SESSION_PROOF (R390). -/
  | hkSessionProof (h : UdpHead) (ip : BitVec 32) (port : BitVec 16) (bytes : List Byte)
  /-- HK_SESSION_CLOSE (R392). -/
  | hkSessionClose (h : UdpHead) (ip : BitVec 32) (port : BitVec 16) (bytes : List Byte)
  /-- USDO_REQUEST (R389). -/
  | usdoRequest (onB : Bool) (node : Fin 128) (r : UsdoRequest)
  /-- USDO_TIMEOUT (R389). -/
  | usdoTimeout (onB : Bool) (node : Fin 128) (late : Bool)
  /-- STAGED_WRITE (R395). -/
  | stagedWrite (path : Path) (index : BitVec 16) (sub : BitVec 8) (data : List Byte)
  /-- LIVE_WRITE (R384). -/
  | liveWrite (path : Path) (index : BitVec 16) (sub : BitVec 8) (data : List Byte)
  /-- COMMIT_CHECK (R397). -/
  | commitCheck (path : Path)
  /-- CHECK_DONE (R397). -/
  | checkDone
  /-- COMMIT_NOW (R397). -/
  | commitNow (path : Path)
  /-- COMMIT_ALIGNED (R397). -/
  | commitAligned (path : Path)
  /-- COMMIT_AT (R397). -/
  | commitAt (path : Path)
  /-- COMMIT_DISCARD (R397). -/
  | commitDiscard (path : Path)
  /-- COMMIT_LOAD_START (R397). -/
  | commitLoadStart
  /-- COMMIT_LOADED (R398). -/
  | commitLoaded
  /-- COMMIT_APPLY (R399). -/
  | commitApply
  /-- COMMIT_LATE_LIMIT (R397). -/
  | commitLateLimit
  /-- SHADOW_LOCK_TIMEOUT (R395). -/
  | shadowLockTimeout (late : Bool)
  /-- COMMIT_ANNOUNCE_RX (R402). -/
  | commitAnnounceRx (m : GuyMsg)
  /-- COMMIT_IDENTITY_COMPARE (R403). -/
  | commitIdentityCompare
  /-- SETTINGS_STORE_WRITE (R439). -/
  | settingsStoreWrite
  /-- SESS_OPEN (R390). -/
  | sessOpen (path : Path) (data : List Byte)
  /-- SESS_PROOF (R390). -/
  | sessProof (path : Path) (data : List Byte)
  /-- SESS_CLOSE (R392). -/
  | sessClose (path : Path)
  /-- SESS_CHALLENGE_LAPSE (R390). -/
  | sessChallengeLapse (path : Path) (late : Bool)
  /-- SESSION_IDLE (R392). -/
  | sessionIdle (path : Path) (late : Bool)
  /-- SESS_LOCKOUT (R391). -/
  | sessLockout (path : Path)
  /-- SESS_LOCKOUT_END (R391). -/
  | sessLockoutEnd (path : Path)
  /-- KEY_PROVISION (R390). -/
  | keyProvision (path : Path) (data : List Byte)
  /-- KEY_REVOKE (R390). -/
  | keyRevoke (path : Path) (slot : BitVec 8)
  /-- EVENT_POP (R394). -/
  | eventPop (path : Path)
  /-- XING_TIMEOUT (R411). -/
  | xingTimeout (x : Fin 54) (edge : Bool) (down up : List Nat)
  /-- CROSSING_RESYNC (R410). -/
  | crossingResync (x : Fin 54) (down up : List Nat)
  /-- CROSSING_HOLD_TIMEOUT (R412). -/
  | crossingHoldTimeout (x : Fin 54)
  /-- TIMEBASE_FAIL (R414). -/
  | timebaseFail
  /-- TIMEBASE_LOCK_HELD (R414). -/
  | timebaseLockHeld
  /-- BIST_PASS_START (R425). -/
  | bistPassStart
  /-- BIST_WARP_SLICE (R421). -/
  | bistWarpSlice (isl : Fin 64) (pass : Bool)
  /-- BIST_FABRIC_SLICE (R421). -/
  | bistFabricSlice (l : Fin 96) (pass : Bool)
  /-- BIST_GUY_SLICE (R424). -/
  | bistGuySlice (l : Fin 4) (pass : Bool)
  /-- BIST_PIN_IN_SLICE (R422). -/
  | bistPinInSlice (n : Nat) (pass : Bool)
  /-- BIST_PIN_OUT_SLICE (R422). -/
  | bistPinOutSlice (n : Nat) (pass : Bool)
  /-- BIST_GATE_SLICE (R423). -/
  | bistGateSlice (g : Fin 512) (inBand readBack : Bool)
  /-- BIST_OVERDUE (R425). -/
  | bistOverdue
  /-- INJ_ARM (R428). -/
  | injArm (path : Path)
  /-- INJ_WITHDRAW (R429). -/
  | injWithdraw (path : Path)
  /-- INJ_WITHDRAW_ALL (R429). -/
  | injWithdrawAll (path : Path)
  /-- INJ_DURATION_END (R429). -/
  | injDurationEnd (k : Fin 8)
  /-- OTP_READ_DONE (R445). -/
  | otpReadDone (factoryOk : Bool)
  /-- SYNTH_LOCKED (R433). -/
  | synthLocked
  /-- SC_STARTUP_TEST_DONE (R437). -/
  | scStartupTestDone (good : Bool)
  /-- FW_BANK_SELECT (R450). -/
  | fwBankSelect
  /-- FW_START (R438). -/
  | fwStart (idMatch : Bool)
  /-- AUTO_READY (R434). -/
  | autoReady
  /-- OTP_INTEGRITY_CHECK (R445). -/
  | otpIntegrityCheck (factoryOk : Bool) (recordOk : Bool)
  /-- FW_CMD_OPEN (R451). -/
  | fwCmdOpen (path : Path)
  /-- FW_ERASE_DONE (R451). -/
  | fwEraseDone
  /-- FW_CHUNK (R451). -/
  | fwChunk (path : Path) (data : List Byte)
  /-- FW_CMD_VERIFY (R451). -/
  | fwCmdVerify (path : Path)
  /-- FW_VERIFY_DONE (R449). -/
  | fwVerifyDone
  /-- FW_CMD_SELECT (R451). -/
  | fwCmdSelect (path : Path)
  /-- FW_CMD_ACCEPT (R447). -/
  | fwCmdAccept (path : Path) (steps : Nat) (burned : Bool)
  /-- FW_CMD_ABANDON (R451). -/
  | fwCmdAbandon (path : Path)
  /-- ATTEST_NONCE (R453). -/
  | attestNonce (path : Path) (nonce : List Byte)
  /-- ATTEST_QUOTE_READY (R453). -/
  | attestQuoteReady
  /-- CORE_SUPPLY_OK (R8). -/
  | coreSupplyOk
  /-- TIMEBASE_RUNS_AGAIN (R414). -/
  | timebaseRunsAgain
  /-- LINK_OV_RELEASE (R218). -/
  | linkOvRelease
  /-- DISCH_HOT_CLEAR (R219). -/
  | dischHotClear
  /-- COMPARATOR_REARM (R160). -/
  | comparatorRearm (ch : Fin 48) (streams : List BitStream)
  /-- ETH1_LINK_UP (R379). -/
  | eth1LinkUp
  /-- BURDEN_DISCONNECT (R468). -/
  | burdenDisconnect (n : Fin 4)
  /-- BURDEN_RECONNECT (R468). -/
  | burdenReconnect (n : Fin 4)
  /-- BIST_PASS_OVERDUE (R425). -/
  | bistPassOverdue
  /-- DV_ARMED (R247). -/
  | dvArmed
  /-- CHAN_STATUS_READ (R167). -/
  | chanStatusRead (path : Path) (ch : Fin 48)
  deriving DecidableEq, Repr

end Sys2Proof
end

