-- ==== Sys2Proof/Decode.lean ====
section
/-!
DEFINITION. The table gives no row any bits (every "fields" list of spec/opcode_table.json is empty): no word spells a
command.
-/

namespace Sys2Proof

/-- The command a word spells by the table's bits: the table gives none, so no word spells one (log entry 1). -/
def decodeTableWord (_nbits _w : Nat) : Option Instr := none

end Sys2Proof
end

