-- ==== Sys2Proof/Config.lean ====
section
/-!
DEFINITION. What an implementation fixes and the values the spec leaves open: every constant here is opaque, so no
proof can see a value of it. Functions of the fabric whose arithmetic the spec does not lay down (square root,
arc tangent, sine, cosine) stand here too, beside the standard cryptographic functions the spec names.
-/

namespace Sys2Proof.Config

/-- A fresh free value: the spec leaves it open. The argument is the counter `fresh` of the state (log entry 3). -/
opaque freeNat : Nat → Nat

/-- A fresh free bit. -/
opaque freeBool : Nat → Bool

/-- What a byte of erased flash reads as: the spec does not say. -/
opaque erasedByte : BitVec 8

/-- The bytes of the factory firmware image both banks are shipped with (R7): its contents are not of the spec. -/
opaque factoryByte : Nat → BitVec 8

/-- A fresh free rational value. -/
opaque freeRat : Nat → Rat

/-- Sixteen bytes of the module's random source (R390, NM); the argument is the counter `fresh` of the state. -/
opaque randomBytes : Nat → List Byte

/-- Numeric codes of the faults: the spec names every fault and gives no numeric code (log entry 6). -/
opaque faultCode : Nat → BitVec 16

/-- The square root the fabric computes (R82, R119; its precision is not specified). -/
opaque sqrt : Rat → Rat

/-- The angle of the vector (x, y) in degrees (R82, R85, R119). -/
opaque angleDeg : Rat → Rat → Rat

/-- Cosine and sine of an angle in degrees. -/
opaque cosDeg : Rat → Rat
opaque sinDeg : Rat → Rat

/-- The circle constant as the fabric holds it. -/
opaque pi : Rat

/-- Rounding of a computed value to the bits of a REAL32 object (the spec names IEEE 754 binary32, R383, and no
rounding mode). -/
opaque realBits : Rat → BitVec 32

/-- KMAC256 of NIST SP 800-185: key, message, output length in bits, customisation string (R390). -/
opaque kmac256 : List Byte → List Byte → Nat → List Byte → List Byte

/-- SHAKE256: message and output length in bits (R449). -/
opaque shake256 : List Byte → Nat → List Byte

/-- Verification of an SLH-DSA-SHAKE-256s signature: public key, message, signature (R449, R452). -/
opaque slhVerify : List Byte → List Byte → List Byte → Bool

/-- Signing with SLH-DSA-SHAKE-128f under the module's attestation key (R453). -/
opaque slhSign : List Byte → List Byte

/-- What the factory programs: serial number, hardware issue, production date (R405). -/
opaque serialNumber : BitVec 32
opaque hwIssue : BitVec 16
opaque productionDate : BitVec 32

/-- The manufacturer code registered for Clernagor under ISO 11783-1, fixed in the firmware (R347). -/
opaque manufacturerCode : BitVec 11

/-- The factory calibration table in OTP: offset in fine codes and gain in units of 2^-30, per channel (R172). -/
opaque factoryOffset : Nat → Int
opaque factoryGain : Nat → Nat

/-- The coefficients b0, b1, b2, a1, a2 of the notch stage at a frequency in Hz, a quality factor and a result rate in Hz: the
spec names a second-order notch and gives it no coefficients (R163). -/
opaque notchCoef : Rat → Rat → Rat → List Rat

/-- The reference temperature coefficients of each channel from OTP (R172). -/
opaque refK1 : Nat → Rat
opaque refK2 : Nat → Rat

/-- The stray inductance of each die from the factory table in OTP (R62). -/
opaque strayInductance : Nat → Rat

/-- Coefficients of a firmware compensator slot k for a set of settings, before their normal form: b0-b3 and a1-a3. The spec
states the loops these slots close and their tuning objects, not how the firmware turns the tuning into coefficients. -/
opaque loopB : Nat → List (Nat × Nat) → List Rat
opaque loopA : Nat → List (Nat × Nat) → List Rat

/-- The source code (128-255, Table 7.1) that the owner of firmware slot k sets in the field of a subindex: the spec leaves these
signals to the owning stage and numbers none. -/
opaque loopSource : Nat → Nat → BitVec 7

/-- Scaling of a firmware slot, which the spec leaves to the firmware: the signal code of a physical quantity at its
input and at its clamp, and the physical quantity of an output code. -/
opaque loopIn : Nat → Rat → Int
opaque loopCode : Nat → Rat → Int
opaque loopOut : Nat → Int → Rat

/-- Temperature in degC of a PT1000 of a resistance in ohm: the Callendar-Van Dusen relation of IEC 60751 (R275). -/
opaque pt1000 : Rat → Rat

/-- Temperature of a silicon PTC beyond the ends of PTC_TABLE, which the spec does not give (R275). -/
opaque ptcBeyond : List Nat → Rat → Rat

/-- The factory temperature table of the timebase in OTP, ppb at -40 + 5k degC, and the correction beyond its ends
(R290). -/
opaque tbTable : Nat → Rat
opaque tbBeyond : Rat → Rat

/-- The module time at which a lamp's pattern of a code begins, ns: the spec gives the patterns and no phase (Table 9.5, R254). -/
opaque lampPhase : Nat → Nat

/-- The natural logarithm, in the relation of an NTC between its resistance and its temperature (R245). -/
opaque ln : Rat → Rat

/-- TXQ_TMAX of a port for a set of settings: the longest frame time with worst-case bit stuffing, of which the spec gives
one example and no formula (R352). -/
opaque txqTmax : Nat → List (Nat × Nat) → Nat

/-- The body of the identity certificate as stored at production (R452). -/
opaque idCert : List (BitVec 8)

/-- The firmware public keys 0 and 1 in OTP (Table 17.4). -/
opaque firmwareKey : Nat → List (BitVec 8)

/-- The digest (SHAKE256, 256 bits) over OTP 0x0000-0x410F for the burned key area and fuses (Table 17.9): the factory
area it covers is fixed at production. -/
opaque otpDigest : List (BitVec 256) → Nat → Nat → List (BitVec 8)

/-- The bytes of a management message on the guy line: 0 an announcement or 1 a withdrawal, a time and an identity. The
spec names what the messages say and gives them no layout (R368, R402). -/
opaque guyMessage : Nat → Nat → Nat → List (BitVec 8)

/-- Whether a computed value between two codes takes the upper one, where the spec names no rounding. -/
opaque roundUp : Rat → Bool

end Sys2Proof.Config
end

