-- ==== Sys2Proof/Machine/Operands.lean ====
section
/-!
DEFINITION. What the operands of the commands stand for: the groups, islands and ports a scope or a stage names, the
properties of the faults the fault tables give, the message class of a path.
-/

namespace Sys2Proof.Machine

/-! ## Filters over a modulator's bitstream (R157, R163) -/

/-- The clocks of a bitstream as +1 and -1: a stream of ones only stands for +100 % of range. -/
def pulses (l : List ModClock) : List Int := l.map fun c => if c.bit then 1 else -1

/-- Sums of the last r entries at every position: one stage of a sinc filter, whose registers start at 0. -/
def runSum (r : Nat) (l : List Int) : List Int :=
  (List.range l.length).map fun i => ((l.drop (i + 1 - r)).take (min r (i + 1))).sum

/-- A sinc filter of an order and a window of r clocks at every clock, times r to the order. -/
def sincRun (r : Nat) : Nat → List Int → List Int
  | 0, l => l
  | n + 1, l => runSum r (sincRun r n l)

/-- The fast path's filter at the last clock, in shares of the range (R157). -/
def fastFilter (l : List ModClock) : Rat := (((sincRun 16 3 (pulses l)).getLastD 0 : Int) : Rat) / 4096

/-- The bitstream as it stood n clocks before. -/
def clocksBefore (n : Nat) (l : List ModClock) : List ModClock := l.take (l.length - n)

/-- The sinc and averager stages of the fine path at the last clock, in shares of the range (R163). -/
def fineSinc (order osr avg : Nat) (l : List ModClock) : Rat :=
  let run := (sincRun osr order (pulses l)).reverse
  ((((List.range avg).map fun j => run.getD (j * osr) 0).sum : Int) : Rat) / (avg * osr ^ order : Nat)

/-- The over-range comparator was active at one of the last n clocks (R167). -/
def overRange (n : Nat) (l : List ModClock) : Bool := (l.reverse.take n).any ModClock.ovr

/-- The last 64 bits are equal with the over-range comparator inactive (R176). -/
def stuckBits (l : List ModClock) : Bool :=
  let w := l.reverse.take 64
  w.length == 64 && !(w.any ModClock.ovr) && (w.all ModClock.bit || !(w.any ModClock.bit))

/-- The bitstream has been healthy for 10 us, that is 400 clocks (R176). -/
def healthyBits (l : List ModClock) : Bool :=
  decide (400 ≤ l.length) && !((List.range 337).any fun j => stuckBits (clocksBefore j l))

end Sys2Proof.Machine

namespace Sys2Proof

/-- The stage groups of an enable group (Table 2.9). -/
def EnableGroup.stages : EnableGroup → List StageGroup
  | .enA => [.portA]
  | .enB => [.portB]
  | .enConv => [.conv, .grid, .llcPri, .llcSec, .act]
  | .enAux => [.aux]

/-- The enable group of a stage group. -/
def StageGroup.group : StageGroup → EnableGroup
  | .portA => .enA
  | .portB => .enB
  | .aux => .enAux
  | _ => .enConv

def PortId.stage : PortId → StageGroup
  | .a => .portA
  | .b => .portB

def StageGroup.port? : StageGroup → Option PortId
  | .portA => some .a
  | .portB => some .b
  | _ => none

/-- The stage of an island (Table 2.1). -/
def stageOfIsland (i : Nat) : StageGroup :=
  if i < 18 then .portA else if i < 36 then .portB else if i < 48 then .conv else if i < 54 then .grid
  else if i < 58 then .llcPri else if i < 59 then .llcSec else if i < 61 then .aux else .act

/-- The stage of a gate channel. -/
def stageOfChan (g : Nat) : StageGroup := stageOfIsland (g / 8)

/-- The islands of a stage group: first island and how many (Table 2.1). -/
def StageGroup.islands : StageGroup → List Nat
  | .portA => List.range 18
  | .portB => (List.range 18).map (· + 18)
  | .conv => (List.range 12).map (· + 36)
  | .grid => (List.range 6).map (· + 48)
  | .llcPri => [54, 55, 56, 57]
  | .llcSec => [58]
  | .aux => [59, 60]
  | .act => [61, 62, 63]

/-- The stages a scope touches; every one for the module (R24, Table 1.7). -/
def Scope.stages : Scope → List StageGroup
  | .module => [.portA, .portB, .conv, .grid, .llcPri, .llcSec, .aux, .act]
  | .stage sg => [sg]
  | .port p => [p.stage]
  | .bothPorts => [.portA, .portB]
  | .group g => g.stages
  | _ => []

def Scope.touches (sc : Scope) (sg : StageGroup) : Bool := sc.stages.contains sg

/-- The "Latched" column of the fault tables: a latched fault stays until the rule its table names clears it.
DIE_LOST is held by the die map (R72), not by the fault manager. -/
def FaultName.latched : FaultName → Bool
  | .coreSupply => false
  | .ascUnavailable => false
  | .partnerLost => false
  | .roleConflict => false
  | .handoverAbort => false
  | .desat => true
  | .didtShort => true
  | .multiPos => true
  | .tripDirect => true
  | .gateUv => false
  | .dieLost => false
  | .warpNoack => false
  | .warpSilent => false
  | .enableLow => false
  | .seqInterlock => false
  | .platTimeout => false
  | .reedSaturated => false
  | .actBoot => false
  | .bootUv => false
  | .auxPhaseShed => false
  | .npDevWarn => false
  | .npDevHigh => false
  | .fluxBuildFail => false
  | .initAngleFail => false
  | .fluxDiverge => false
  | .idifHigh => false
  | .fswDwellExt => false
  | .idleAsc => false
  | .curveSrcInvalid => false
  | .catchFail => false
  | .stopTimeout => false
  | .locked => false
  | .obsLost => false
  | .obsRepeat => false
  | .twSignal => false
  | .twSync => false
  | .twPw => false
  | .twPlaus => false
  | .modFail => false
  | .linkDisagree => false
  | .isum => false
  | .measTestFail => false
  | .calFail => false
  | .calChannel => false
  | .calDeferred => false
  | .dieTsense => false
  | .isoWarn => false
  | .isoAlarm => false
  | .compExit => false
  | .overrun => false
  | .compInput => false
  | .convFcDev => false
  | .fcPrechargeFail => false
  | .batLimitsStale => false
  | .linkUv => false
  | .linkHigh => false
  | .linkTrip => false
  | .linkDischHot => false
  | .llcOc => false
  | .bus54Ov => false
  | .bus54Uv => false
  | .llcRetry => false
  | .auxSynclost => false
  | .auxOv => true
  | .batauxOc => false
  | .batauxLow => false
  | .gridUv => false
  | .gridOv => false
  | .gridFreq => false
  | .gridUnbal => false
  | .gridPll => false
  | .gridLinkLow => false
  | .gridRetry => true
  | .tbatLost => true
  | .chgWdExpired => false
  | .batauxLost => true
  | .batauxDead => true
  | .batauxHot => false
  | .batauxTsense => false
  | .chgtime => true
  | .lampOc => false
  | .actOc => false
  | .actOcRepeat => true
  | .hallFault => false
  | .actStall => false
  | .actTimeout => false
  | .actHot => false
  | .shiftFail => false
  | .dieTDerate => false
  | .dieDtdt => false
  | .dieOt => true
  | .ctrlTsense => false
  | .ctrlOt => false
  | .coolantHot => false
  | .coolantTsense => false
  | .coolantFlow => false
  | .lctHot => false
  | .lctTsense => false
  | .wtHot => false
  | .wtTsense => false
  | .refTsense => false
  | .scFail => true
  | .scWdog => true
  | .stoReadback => true
  | .siTest => true
  | .siDisc => true
  | .resetStuck => false
  | .speedXchk => true
  | .safeSpeedInv => true
  | .ss1RampViol => true
  | .slsViol => true
  | .sdiViol => true
  | .soFault => true
  | .safetySto => false
  | .doridExpired => false
  | .doridErrrate => false
  | .doridPairExpired => true
  | .doridTimeLost => false
  | .otpBurnFail => false
  | .proofTest => false
  | .canWarn => false
  | .canPassive => false
  | .canBusoff => false
  | .canLoadHigh => false
  | .isoNoAddr => false
  | .timeRankDup => false
  | .timeOffset => false
  | .timeLost => false
  | .glTimeErr => false
  | .eth1Link => false
  | .commitMissed => false
  | .sessLockout => false
  | .xingTimeout => false
  | .timebaseFail => false
  | .bistWarp => false
  | .bistFabric => false
  | .bistGuy => false
  | .bistPin => false
  | .bistGate => false
  | .bistOverdue => false
  | .otpIntegrity => true

/-- Faults a table clears by "port re-armed" or by the islands' re-arming: they hold no port in its safe state, and the
arming that follows clears them (log entry 21). -/
def FaultName.rearmCleared : FaultName → Bool
  | .catchFail | .stopTimeout | .obsRepeat | .initAngleFail | .fluxBuildFail | .fluxDiverge | .isum | .overrun
  | .warpNoack | .warpSilent | .npDevHigh => true
  | _ => false

/-- The numeric code of a fault: the spec gives none (log entry 6). -/
def FaultName.code (f : FaultName) : W16 := Config.faultCode f.ctorIdx

/-- The thermal faults and the network faults (ERROR_REGISTER bits 3 and 4). -/
def FaultName.thermal : FaultName → Bool
  | .dieTDerate | .dieDtdt | .dieOt | .ctrlTsense | .ctrlOt | .coolantHot | .coolantTsense | .coolantFlow | .lctHot
  | .lctTsense | .wtHot | .wtTsense | .refTsense => true
  | _ => false

def FaultName.network : FaultName → Bool
  | .canWarn | .canPassive | .canBusoff | .canLoadHigh | .isoNoAddr | .timeRankDup | .timeOffset | .timeLost
  | .glTimeErr | .eth1Link => true
  | _ => false

/-- The injection point of a fault (Table 16.6); PROOF_TEST has none. -/
def FaultName.injPoint : FaultName → Nat
  | .coreSupply => 0x0101
  | .overrun => 0x0102
  | .partnerLost => 0x0103
  | .roleConflict | .handoverAbort => 0x0104
  | .ascUnavailable => 0x0105
  | .desat => 0x0201
  | .didtShort => 0x0202
  | .multiPos => 0x0203
  | .gateUv => 0x0204
  | .dieLost => 0x0205
  | .warpNoack => 0x0206
  | .warpSilent => 0x0207
  | .enableLow => 0x0208
  | .seqInterlock => 0x0209
  | .platTimeout | .reedSaturated => 0x020A
  | .actBoot | .bootUv | .auxPhaseShed => 0x020B
  | .npDevWarn | .npDevHigh => 0x0301
  | .fluxBuildFail | .initAngleFail | .fluxDiverge => 0x0302
  | .idifHigh | .fswDwellExt => 0x0303
  | .catchFail | .stopTimeout | .obsRepeat => 0x0401
  | .idleAsc | .curveSrcInvalid | .locked | .obsLost => 0x0402
  | .twSignal | .twSync | .twPw | .twPlaus => 0x0501
  | .modFail => 0x0601
  | .tripDirect | .compExit => 0x0602
  | .linkDisagree | .isum => 0x0603
  | .measTestFail => 0x0604
  | .calFail | .calChannel | .calDeferred => 0x0605
  | .dieTsense => 0x0606
  | .isoWarn | .isoAlarm => 0x0607
  | .compInput => 0x0701
  | .convFcDev | .fcPrechargeFail => 0x0801
  | .batLimitsStale | .linkDischHot => 0x0802
  | .linkUv | .linkHigh | .linkTrip => 0x0803
  | .llcOc | .bus54Ov | .bus54Uv | .llcRetry => 0x0804
  | .auxOv => 0x0805
  | .auxSynclost | .batauxOc | .batauxLow => 0x0806
  | .gridUv | .gridOv | .gridFreq | .gridUnbal | .gridPll | .gridLinkLow | .gridRetry => 0x0901
  | .tbatLost => 0x0902
  | .chgWdExpired => 0x0903
  | .batauxLost | .batauxDead | .batauxHot | .batauxTsense | .chgtime | .lampOc => 0x0904
  | .actOc | .actOcRepeat | .hallFault => 0x0A01
  | .actStall | .actTimeout | .actHot | .shiftFail => 0x0A02
  | .dieTDerate | .dieDtdt => 0x0B01
  | .dieOt => 0x0B02
  | .ctrlTsense | .ctrlOt => 0x0B03
  | .coolantHot | .coolantTsense | .coolantFlow | .lctHot | .lctTsense | .wtHot | .wtTsense | .refTsense => 0x0B04
  | .scFail => 0x0C01
  | .scWdog => 0x0C02
  | .stoReadback => 0x0C03
  | .siTest | .siDisc | .resetStuck => 0x0C04
  | .speedXchk | .safeSpeedInv => 0x0C05
  | .ss1RampViol | .slsViol | .sdiViol => 0x0C06
  | .soFault => 0x0C07
  | .safetySto => 0x0C08
  | .doridExpired | .doridErrrate | .doridPairExpired => 0x0D01
  | .doridTimeLost => 0x0D02
  | .otpBurnFail => 0x0D03
  | .canWarn | .canPassive | .canBusoff | .canLoadHigh => 0x0E01
  | .isoNoAddr | .eth1Link => 0x0E02
  | .timeRankDup | .timeOffset | .timeLost | .glTimeErr => 0x0E03
  | .commitMissed => 0x0F01
  | .sessLockout => 0x0F02
  | .xingTimeout | .timebaseFail => 0x1001
  | .bistWarp | .bistFabric | .bistGuy | .bistPin | .bistGate => 0x1002
  | .bistOverdue => 0x1003
  | .otpIntegrity => 0x1101
  | .proofTest => 0

/-- The injection points of Table 16.6, and those it marks S. -/
def injPoints : List Nat :=
  [0x0101, 0x0102, 0x0103, 0x0104, 0x0105, 0x0201, 0x0202, 0x0203, 0x0204, 0x0205, 0x0206, 0x0207, 0x0208,
   0x0209, 0x020A, 0x020B, 0x0301, 0x0302, 0x0303, 0x0401, 0x0402, 0x0501, 0x0601, 0x0602, 0x0603, 0x0604,
   0x0605, 0x0606, 0x0607, 0x0701, 0x0801, 0x0802, 0x0803, 0x0804, 0x0805, 0x0806, 0x0901, 0x0902, 0x0903,
   0x0904, 0x0A01, 0x0A02, 0x0B01, 0x0B02, 0x0B03, 0x0B04, 0x0C01, 0x0C02, 0x0C03, 0x0C04, 0x0C05, 0x0C06,
   0x0C07, 0x0C08, 0x0D01, 0x0D02, 0x0D03, 0x0E01, 0x0E02, 0x0E03, 0x0F01, 0x0F02, 0x1001, 0x1002, 0x1003,
   0x1004, 0x1101]

def injPointsS : List Nat :=
  [0x0101, 0x0102, 0x0103, 0x0105, 0x0201, 0x0202, 0x0203, 0x0204, 0x0205, 0x0206, 0x0207, 0x0208, 0x0209,
   0x0301, 0x0302, 0x0401, 0x0501, 0x0601, 0x0602, 0x0603, 0x0604, 0x0605, 0x0607, 0x0801, 0x0803, 0x0804,
   0x0805, 0x0901, 0x0902, 0x0A01, 0x0B02, 0x0B03, 0x0B04, 0x0C01, 0x0C02, 0x0C03, 0x0C04, 0x0C05, 0x0C06,
   0x0C07, 0x0C08, 0x0D01, 0x0D02, 0x0F01, 0x1001, 0x1002, 0x1003, 0x1101]

/-- The kind of a path as an injection's argument numbers it (log entry 57). -/
def Path.num : Path → Nat
  | .usdo false _ => 0
  | .usdo true _ => 1
  | .canc => 2
  | .hk _ _ => 3

/-- The class of the frames that answer a path (Table 14.3). -/
def Path.cls : Path → Nat
  | .usdo false _ => 8
  | .usdo true _ => 9
  | .canc => 12
  | .hk _ _ => 13

def phases : List Phase := [.u, .v, .w]

def ports : List PortId := [.a, .b]


end Sys2Proof
end

