-- ==== Sys2Proof/Machine/State.lean ====
section
/-!
DEFINITION. The state of the block as plain data: every register, counter, mode, queue and buffer the spec names, each
with its value at reset as its default. One structure per chapter of the spec, gathered in Device and State.
-/

namespace Sys2Proof.Machine

/-! ## Module control (chapter 1) -/

/-- The module states of Table 1.5 (R19). -/
inductive ModState where
  | off | boot | calibrating | standby | ready | run | stopping | safe | fault | service
  deriving DecidableEq, Repr

/-- One active fault of the fault manager (R24): its name, the scope of its event, its reactions with the scope each
acts on, and when it was raised. -/
structure FaultEntry where
  name     : FaultName
  scope    : Scope
  reaction : Nat
  /-- Where the reaction acts, when that is not the scope of the event (MOD_FAIL and COMP_EXIT act on the owner of
  the channel, TBAT_LOST on the grid port, the converter and the module). -/
  acts     : List (Scope × Nat)
  time     : Nanos
  deriving DecidableEq, Repr

/-- One entry of the event object, Table 15.7 (R394). -/
structure Event where
  time       : Nanos
  code       : W16
  reaction   : Nat
  /-- 0 raised, 1 cleared, 2 report. -/
  kind       : Nat
  lostBefore : Bool
  scope      : Nat
  number     : Nat
  deriving DecidableEq, Repr

/-- The partner's data of one guy frame, as the control plane latches it (R105, Table 14.7). -/
structure PartnerData where
  /-- Module time of the frame's transmission (TX_TIME). -/
  txTime     : Nanos := 0
  state      : Nat := 0
  lead       : Bool := false
  pairPos    : Nat := 0
  checkId    : W32 := 0
  settingsId : W32 := 0
  /-- Flux of the partner's winding set, motor 0 and 1: alpha and beta (Vs). -/
  psi0       : Rat × Rat := (0, 0)
  psi1       : Rat × Rat := (0, 0)
  share0     : Rat := 0
  share1     : Rat := 0
  machine0   : Rat := 0
  machine1   : Rat := 0
  ceiling0   : Rat := 0
  ceiling1   : Rat := 0
  speedRef0  : Rat := 0
  speedRef1  : Rat := 0
  portState0 : Nat := 0
  portState1 : Nat := 0
  engaged0   : Bool := false
  engaged1   : Bool := false
  deriving DecidableEq, Repr

/-- Module control: the state machine of R21, the pair of R30-R38 and the objects of R40. -/
structure ModuleCtl where
  /-- Module time, ns (R360; starts at 0 on entry to BOOT). -/
  now              : Nanos := 0
  /-- MODULE_STATUS.STATE (R19, Table 1.10; reset 0x1, BOOT). -/
  state            : ModState := .boot
  /-- MODULE_STATUS.LEAD (R34, R36). -/
  lead             : Bool := false
  /-- MODULE_STATUS.PARTNER_PRESENT (R32). -/
  partnerPresent   : Bool := false
  /-- MODULE_STATUS.HANDOVER_PENDING (R35). -/
  handoverPending  : Bool := false
  /-- MODULE_STATUS.CORE_SUPPLY_OK (R8). -/
  coreSupplyOk     : Bool := false
  /-- MODULE_STATUS.OVERRUN (R17). -/
  overrun          : Bool := false
  /-- MODULE_STATUS.FABRIC_SPEED, per cent (R16). -/
  fabricSpeed      : Nat := 0
  /-- The traction margins of the last second that can still be the smallest: module time and ticks (R16). -/
  margins          : List (Nanos × Nat) := []
  /-- LATE_COUNT_PORTA, LATE_COUNT_PORTB, LATE_COUNT_OTHER (R40), 32 bits, wrapping. -/
  latePortA        : Nat := 0
  latePortB        : Nat := 0
  lateOther        : Nat := 0
  /-- PARTNER_LOSS_COUNT (R40), 16 bits. -/
  partnerLossCount : Nat := 0
  /-- Pins as sampled at tick 0: SERVICE_N low, PAIR_OK_IN, and the four enable pins (R22, R31, R66). -/
  serviceNLow      : Bool := false
  pairOkIn         : Bool := false
  enA              : Bool := false
  enB              : Bool := false
  enConv           : Bool := false
  enAux            : Bool := false
  /-- The first arrival in STANDBY after a start has been served by AUTO_READY (R434). -/
  firstStandbyDone : Bool := false
  /-- RUN is to be left to READY once every port has reached DISABLED, STO or ASC (R37, R424). -/
  fallbackReady    : Bool := false
  /-- The hand-over this module has requested as lead: time T (R35), and whether it is acknowledged. -/
  handoverT        : Option Nanos := none
  handoverAcked    : Bool := false
  /-- The hand-over this module has acknowledged as follower: time T (R35). -/
  handoverGiven    : Option Nanos := none
  /-- The join time T sent or received (R38), and whether this module sent it. -/
  joinT            : Option Nanos := none
  /-- The lead's ramp of the torque shares to 50/50 (R38, step 4): the module time it started. -/
  shareRampStart   : Option Nanos := none
  /-- Partner-absent mode (R36). -/
  partnerAbsent    : Bool := false
  /-- Partner data latched at tick 0 (R105) and the newest frame received since (R105: it serves from the next beat). -/
  partner          : PartnerData := {}
  partnerNext      : Option PartnerData := none
  /-- The partner counts as lost although its frames go on: its identity parted from this module's at a commit (R403). -/
  identityLost     : Bool := false
  /-- Module time of the last valid guy frame (R32), if any. -/
  lastGuy          : Option Nanos := none
  /-- The partner flux has been extrapolated for 20 us (R32): the engine runs on its own flux from the next beat. -/
  extrapEnded      : Bool := false
  /-- The engine uses the partner's flux in this beat (R32, R105), as decided at its tick 0. -/
  pairFlux         : Bool := false
  /-- Offset of the module times as the last frame that gave one showed it, ns: own time less the partner's (R38, R367). -/
  guyOffset        : Option Int := none
  /-- PAIR_STO_IN as last evaluated (R33). -/
  pairStoIn        : Bool := false
  deriving DecidableEq, Repr

/-- The fault manager and the event object (R24, R394). -/
structure FaultMgr where
  /-- Active faults, oldest first. -/
  active    : List FaultEntry := []
  /-- The event queue, oldest first, at most 64 (R394). -/
  events    : List Event := []
  /-- EVENT_LOST (R406), 32 bits, wrapping. -/
  lost      : Nat := 0
  /-- Fault code and reaction of the last report: what the fault-record tap offers (Table 14.9). -/
  lastReport : W16 × Nat := (0, 0)
  /-- An event has been lost since the last one stored (LOST_BEFORE, R394). -/
  lostFlag  : Bool := false
  /-- HOST_ATTN_N held low by a notice of R357 until every pending event has been read. -/
  attnHeld  : Bool := false
  deriving DecidableEq, Repr

/-! ## Gate islands (chapter 2) -/

/-- A soft turn-off under way on a die (R60, R63, R65). -/
structure SoftOff where
  /-- Module time at which it was declared. -/
  start      : Nanos
  /-- An inner position: it waits for its outer one to acknowledge (R60). -/
  inner      : Bool
  outerAcked : Bool := false
  deriving DecidableEq, Repr

/-- One gate channel: CH_STATUS of Table 2.16 and what the heddle and the die-loss tests keep (R45-R70). -/
structure GateChan where
  disabled    : Bool := false
  latched     : Bool := false
  desat       : Bool := false
  didt        : Bool := false
  uvPos       : Bool := false
  uvNeg       : Bool := false
  gateLeak    : Bool := false
  openDie     : Bool := false
  shorted     : Bool := false
  platTimeout : Bool := false
  gateOn      : Bool := false
  /-- TRIM_OFF and TRIM_ON in force, in steps of 250 ps (R68). -/
  trimOff     : Int := 0
  trimOn      : Int := 0
  /-- The last command accepted (on), which the channel follows when it is not held off (R45, R70). -/
  cmdOn       : Bool := false
  /-- Module time of the last command accepted (R51), and the times by which its edge has left its pre-charge and has reached its
  hold phase (R48, R50). -/
  cmdAt       : Option Nanos := none
  preEnd      : Nanos := 0
  holdAt      : Nanos := 0
  /-- A command that came before the hold phase of the edge before it, and when it is carried out (R50). -/
  later       : Option (Nanos × Bool) := none
  /-- Time of the last edge at the die in steps of 250 ps: the delay of R9 and the reed trim on top of the command (R52). -/
  edgeQ       : Int := 0
  /-- A soft turn-off under way (R60, R63). -/
  soft        : Option SoftOff := none
  /-- Latched off with its position by a short-circuit or direct trip, until the enable pin clears it (R63, R67). -/
  heldOff     : Bool := false
  /-- The desaturation detector is enabled: DESAT_BLANK has passed since the turn-on edge (R61). -/
  desatArmed  : Bool := false
  /-- Consecutive gate-leakage measurements above 1.0 mA, gate-short edges and open-die edges (Table 2.11). -/
  leakRun     : Nat := 0
  shortRun    : Nat := 0
  openRun     : Nat := 0
  /-- Module times of the PLAT_TMAX edges of the last second (R48, Table 2.13). -/
  platTimes   : List Nanos := []
  /-- The trims last sent to the channel, turn-on and turn-off; those the island has received and takes up at its next edge;
  those a reed update has computed and that wait for their output tick (R14, R68). -/
  reedOn      : Int := 0
  reedOff     : Int := 0
  trimNext    : Option (Int × Int) := none
  reedHold    : Option (Int × Int) := none
  /-- On the first channel of a position: short-circuit trips of the position within the present RUN period (Table 2.11). -/
  posTrips    : Nat := 0
  /-- The die has reached DIE_OT (R281); it shows on the shared islands which drive is concerned. -/
  ot          : Bool := false
  /-- Module time since which the trim stays at a limit with the error outside the deadband (R69). -/
  satSince    : Option Nanos := none
  /-- DIE_TEMP in 1/8 degC (R184); none where no valid sample exists (object value 0x8000). -/
  temp        : Option Int := none
  /-- Module time of the last temperature the island has sent of the die (R184). -/
  tempAt      : Option Nanos := none
  /-- The last 25 samples of DIE_TEMP, newest first, for the rate of rise (R278). -/
  tempPrev    : List Int := []
  /-- Turn-on slope share of the last turn-on edge, per cent of the position total (R68, R70). -/
  slopeShare  : Rat := 0
  deriving DecidableEq, Repr


/-- One gate island: ISLAND_STATUS of Table 2.15 and its preset, link and credit state (R53-R58). -/
structure Island where
  /-- LINK: 0 untrained, 1 training, 2 up, 3 in preset after silence or reset. -/
  link        : Nat := 0
  armed       : Bool := false
  safe        : Bool := true
  presetOn    : Bool := false
  supplyOk    : Bool := false
  enable      : Bool := false
  crcErr      : Nat := 0
  noack       : Nat := 0
  /-- Class of the present preset (Table 2.5). -/
  cls         : PresetClass := .a
  /-- When the preset was started, by link silence (after 5 us) or by an immediate start, while the position has not yet taken its
  class time. -/
  presetDue   : Option Nanos := none
  /-- Link epoch (4 bits, R53). -/
  epoch       : Nat := 0
  /-- Setting credits the controller holds for the island (R54). -/
  credits     : Nat := 4
  /-- Setting writes that wait for a frame and a credit: class, requester and write; the requester served last of each class
  (Table 16.3, R419). -/
  writes      : List (Nat × Nat × SettingWrite) := []
  served      : List (Nat × Nat) := []
  /-- Parameter bank in use (R49) and the bank loaded for the next switch. -/
  bank        : Bool := false
  /-- The commanded on/off of the position still unacknowledged by the island, and how often it was sent (R55). -/
  unacked     : Option (List (Fin 8 × Bool) × Nat) := none
  /-- Acknowledgements that missed their frame: die, frame number and time; each is discarded and counted when it comes (R55). -/
  missed      : List (Fin 8 × Fin 4 × Nanos) := []
  /-- The last command the sequencer planned for the position: its time and whether it was on (R50). -/
  issued      : Option (Nanos × Bool) := none
  /-- WARP_SILENT and WARP_NOACK stand because of this island (Table 2.13). -/
  silent      : Bool := false
  notAcked    : Bool := false
  /-- Contents of the two parameter banks as setting writes have loaded them (R49). -/
  params0     : List (Nat × Nat) := []
  params1     : List (Nat × Nat) := []
  /-- The island's over-temperature declaration of R282, awaiting a stage turn-off. -/
  otPending   : Bool := false
  /-- Module time of the DIE_OT that stands (R282). -/
  otAt        : Nanos := 0

  chans       : List GateChan := List.replicate 8 {}
  deriving DecidableEq, Repr

/-- One stage group: STAGE_STATUS (R74) and what its fault sequence keeps. -/
structure Stage where
  multiPos   : Bool := false
  latched    : Bool := false
  /-- Order step: 0 running, 1 outer off, 2 all off, 3 safe state (R74). -/
  order      : Nat := 0
  /-- Position faults of the stage: first channel of the position and island timestamp (R64). -/
  lastPos    : List (Nat × Nanos) := []
  /-- The stage is running (its gates switch). -/
  running    : Bool := false
  /-- An F2 ramps the stage to zero power, after which its gates turn off (R24). -/
  ramping    : Bool := false
  deriving DecidableEq, Repr

/-- The gate islands and the stages. -/
structure Gates where
  /-- I00-I63 (R41). -/
  islands   : List Island := List.replicate 64 {}
  /-- Stage groups 0-7 (R74). -/
  stages    : List Stage := List.replicate 8 {}
  /-- EARLY_CMD (R50, R74). -/
  earlyCmd  : Nat := 0
  /-- DIE_RETEST_STATE and DIE_RETEST_RESULT (R72). -/
  retestState  : Nat := 0
  retestResult : Nat := 0
  /-- Islands whose reed update is late: its result is discarded and counted when it completes (R17). -/
  reedLate  : List Nat := []
  deriving DecidableEq, Repr

/-! ## Torque and flux engine (chapter 3) -/

/-- What a phase of a traction port is connected to: the levels of Table 3.2 (R76), all positions off, or only the
inner and clamp positions on, during the turn-off order of R59, after the outer position of the upper rail, of the lower
rail or of neither has turned off (R78). -/
inductive PhaseLevel where
  | allOff | p | oPlus | oMinus | n | innerP | innerO | innerN
  deriving DecidableEq, Repr

/-- The gate sequencer's plan for one phase leg (R77): the level in force, the levels still to be stepped through, and
the turn-on that waits for DEAD_T, with the module time at which it is due and the time of its turn-off. -/
structure Leg where
  level   : PhaseLevel := .allOff
  plan    : List PhaseLevel := []
  /-- Positions to be turned on (0-5 of Table 2.1), due time and time of the turn-off command. -/
  pending : Option (List Nat × Nanos × Nanos) := none
  /-- When the outer positions were turned off by the order of R59, while the inner ones are still on. -/
  outerAt : Option Nanos := none
  deriving DecidableEq, Repr

/-- The selection state of a port (R102): torque level, flux level, balance bit and sector. -/
structure Selection where
  /-- tl, -2 to +2 (R86). -/
  tl     : Int := 0
  /-- fl is +1 (R87, reset 1). -/
  fl     : Bool := true
  /-- NPB (R89). -/
  npb    : Bool := false
  /-- Sector 0-11 (R85). -/
  sector : Nat := 0
  deriving DecidableEq, Repr

/-- A completed decision in the output holding register (R14, R102). -/
structure Decision where
  sel       : Selection
  /-- The sector has changed: a commutation event (R85). -/
  commute   : Bool
  /-- The switching state to apply, a code of Table 3.1; none where the engine selects nothing (R101). -/
  code      : Option Nat
  dwellHold : Bool
  deriving DecidableEq, Repr

/-- The angle test of R100: the pulse under way, whether its pause runs, and the peaks recorded so far. -/
structure AngleTest where
  pulse  : Nat := 0
  pausing : Bool := false
  /-- Start of the pulse or the pause under way, and the largest current of the pulse so far. -/
  start  : Nanos := 0
  peak   : Rat := 0
  peaks  : List Rat := []
  deriving DecidableEq, Repr

/-- The torque and flux engine of one port. -/
structure Engine where
  /-- psi and psi_r, stator frame (Vs) (R79, R81). -/
  psi        : Rat × Rat := (0, 0)
  psiR       : Rat × Rat := (0, 0)
  /-- i_s latched at tick 0 of this beat and of the beat before (A) (R79). -/
  iNow       : Rat × Rat := (0, 0)
  iPrev      : Rat × Rat := (0, 0)
  /-- Phase currents U, V, W latched at tick 0 (R158). -/
  iPhase     : Rat × Rat × Rat := (0, 0, 0)
  fastValid  : Bool := false
  /-- TORQUE_EST, FLUX_EST, FLUX_ANGLE, w_e, w_slip, SPEED_EST (R82). -/
  torque     : Rat := 0
  flux       : Rat := 0
  theta      : Rat := 0
  we         : Rat := 0
  wslip      : Rat := 0
  speed      : Rat := 0
  /-- The angles of psi of the last 50 beats, newest first (R82). -/
  angles     : List Rat := []
  /-- |psi_v - psi_cm| of the beats of the last 1 ms, newest first (R84). -/
  eps        : List Rat := []
  /-- OBS_CONF, per cent (R84). -/
  obsConf    : Rat := 0
  sel        : Selection := {}
  /-- STATE code in force (R75) and the module time of the output tick at which it was applied (R95). -/
  code       : Nat := 0
  applied    : Nanos := 0
  /-- ENGINE_STATUS.VLIM, FLUX_BUILD, DWELL_HOLD (R97, R99, R95). -/
  vlim       : Bool := false
  fluxBuild  : Bool := false
  fluxSince  : Option Nanos := none
  dwellHold  : Bool := false
  /-- FSW_SCALE in 1/64 (R96). -/
  fswScale   : Nat := 64
  /-- DWELL_EXT, us (R96). -/
  dwellExt   : Nat := 0
  /-- Level steps of the last fifty 10 us intervals, newest first, and of the present interval (R96). -/
  stepHist   : List Nat := []
  stepsNow   : Nat := 0
  /-- f_avg in Hz (R96). -/
  fAvg       : Nat := 0
  /-- COMM_COUNT (R85), 32 bits, wrapping, and the module time of the last commutation event (R124). -/
  commCount  : Nat := 0
  lastComm   : Nanos := 0
  /-- NP_DEV (R89). -/
  npDev      : Rat := 0
  /-- V_UP, V_LO and V_LINK latched at tick 0 (R78). -/
  vUp        : Rat := 0
  vLo        : Rat := 0
  /-- IDIF_EST (R104), combined flux psi_c, and PARTNER_FLUX_AGE in us (R103). -/
  idif       : Rat := 0
  psiC       : Rat × Rat := (0, 0)
  pairDec    : Bool := false
  fluxAge    : Nat := 0
  /-- The estimator has been initialised and selection runs (R101), with the time it started. -/
  selecting  : Bool := false
  /-- The estimator has been initialised by catching; selection starts in the next beat (R100, R121). -/
  initDone   : Bool := false
  selStart   : Option Nanos := none
  /-- Flux-build beat parity: tl is +1 in this beat (R99). -/
  buildUp    : Bool := true
  /-- T* in force from tick 0 of the present beat (R116). -/
  tStar      : Rat := 0
  /-- The output holding register (R14). -/
  holding    : Option Decision := none
  /-- A decision has lost to its output tick and its late result is awaited (R17). -/
  late       : Bool := false
  angleTest  : Option AngleTest := none
  /-- Legs U, V, W. -/
  legU       : Leg := {}
  legV       : Leg := {}
  legW       : Leg := {}
  /-- Levels at the start of the previous beat, phases U, V, W, and its level changes: phase, half-ticks from its
  tick 0, new level, oldest first (R78); and the changes of the present beat. -/
  lvlPrev    : List PhaseLevel := [.allOff, .allOff, .allOff]
  changes    : List (Nat × Nat × PhaseLevel) := []
  changesNow : List (Nat × Nat × PhaseLevel) := []
  deriving DecidableEq, Repr

/-! ## Traction ports (chapter 4) -/

/-- The port states of Table 4.1 (R108). -/
inductive PortState where
  | disabled | armed | catching | running | stopping | sto | asc | fault
  deriving DecidableEq, Repr

/-- Why a port is STOPPING (R109, R123). -/
inductive StopCause where
  | none | release | disable | command | f2 | ss1
  deriving DecidableEq, Repr

/-- One traction port: PORT_STATUS of Table 4.9, its references and the records of chapter 4. -/
structure Port where
  /-- PORT_STATE (R108). -/
  state        : PortState := .disabled
  stop         : StopCause := .none
  /-- Module time at which the stop (or the F2 reaction, R123) began. -/
  stopStart    : Option Nanos := none
  /-- Module time since which |SPEED_EST| is below STANDSTILL_SPEED (R123). -/
  stillSince   : Option Nanos := none
  /-- LIMSRC, REFUSED, ENGAGED, LOCKED, OBS_FALLBACK, REVERSING, PA_LIMIT, ASC_UPPER (Table 4.9). -/
  limsrc       : Nat := 0
  refused      : Bool := false
  engaged      : Bool := false
  locked       : Bool := false
  obsFallback  : Bool := false
  reversing    : Bool := false
  paLimit      : Bool := false
  ascUpper     : Bool := false
  /-- In FAULT, the safe state held is ASC (SAFE_ASC, R109). -/
  faultAsc     : Bool := false
  /-- CATCH_STEP (Table 4.9). -/
  catchStep    : Nat := 0
  /-- TW_SPEED (Table 4.9). -/
  twSpeed      : Bool := false
  /-- INPUT_INVALID (R114). -/
  inputInvalid : Bool := false
  /-- The drive request must be met afresh: the filtered value must lie below OFF_THR first (R114). -/
  afresh       : Bool := false
  /-- CURVE_INPUT: filtered source value (R113). -/
  curveInput   : Rat := 0
  /-- SPEED_REF: ramped reference (R115). -/
  speedRef     : Rat := 0
  /-- TORQUE_CMD, TORQUE_CEILING (R117). -/
  torqueCmd    : Rat := 0
  ceiling      : Rat := 0
  /-- T* before the arbiter's grant (R230). -/
  torqueReq    : Rat := 0
  /-- Torque reference of the speed slot or of torque mode that the next tick 0 takes (R116, R118). -/
  torqueNext   : Rat := 0
  /-- The torque share received from the lead (R34), kept while frames are missing (R32); as lead, the share it sends. -/
  share        : Rat := 0
  shareOut     : Rat := 0
  /-- The lead's machine torque reference T*_m of the motor (R130). -/
  machine      : Rat := 0
  /-- The locked-rotor ceiling of R124, slewing to LR_HOLD, per cent of RATED_TORQUE. -/
  lockCeil     : Rat := 0
  /-- LR_COUNT, RECATCH_COUNT (R124, R126), 16 bits. -/
  lrCount      : Nat := 0
  recatchCount : Nat := 0
  /-- Module times of the entries to CATCHING through step 2 of R126 (R127). -/
  recatches    : List Nanos := []
  /-- CATCH_SPEED (R119). -/
  catchSpeed   : Rat := 0
  /-- Module time of the entry to CATCHING (R119). -/
  catchStart   : Option Nanos := none
  /-- Terminal-voltage speed (R128), electrical angle of E at its last update, and whether a whole 1 ms window with
  all gates off has passed. -/
  termSpeed    : Rat := 0
  termAngle    : Rat := 0
  termValid    : Bool := false
  /-- The line-to-line voltages UV and VW of the fine path of the last 1 ms with all gates off, newest first, each with the
  module time from which it stood (R119, R128). -/
  emfHist      : List (Nanos × Rat × Rat) := []
  /-- The last speed used before the gates stopped switching (R128). -/
  lastSpeed    : Rat := 0
  /-- Module time since which the exit conditions of R28 hold. -/
  ascOkSince   : Option Nanos := none
  /-- Module time since which the port speed lies below SS1_STANDSTILL in an F2 stop (R123). -/
  slowSince    : Option Nanos := none
  /-- Module time since which |T*| exceeds LR_TORQUE, and since which it lies below (R124, R125). -/
  lrAboveSince : Option Nanos := none
  lrBelowSince : Option Nanos := none
  /-- The speed slot has closed for reverse braking and stays CLOSED into RUNNING (R116). -/
  revLoop      : Bool := false
  /-- STO was reached without an F2-F4 reaction, from the catching or observer rule (R109). -/
  stoByRule    : Bool := false
  /-- Step 2 of R126 is under way: T* = 0 has been applied and the gates turn off one beat later. -/
  obsDrop      : Nat := 0
  /-- An offset measurement of R174 runs on the port, and the module time at which it started. -/
  offsetMeas   : Bool := false
  offsetSince  : Option Nanos := none

  /-- Module time of the last write of SPEED_INPUT or DRIVE_REQUEST (R114), if one has come since the start. -/
  lastInput    : Option Nanos := none
  /-- A coasting release: T* slews to 0 before the gates turn off (R115, R118). -/
  coasting     : Bool := false
  /-- The stop is carried out under speed regulation although the port is in torque mode (R118). -/
  speedReg     : Bool := false
  /-- The torque ceiling of a shift step on the port, and the speed it holds by R267, while an actuator owns it. -/
  shiftCeil    : Option Rat := none
  shiftRef     : Option Rat := none
  eng          : Engine := {}
  deriving DecidableEq, Repr

/-- The frequency input FIN (R114): the last edge, the frequency of the last complete period in Hz and whether it has
fallen silent. -/
structure FreqInput where
  lastEdge : Option Nanos := none
  freq     : Rat := 0
  /-- No edge for 1 s (FIN_TIMEOUT): invalid, or 0 Hz (R114). -/
  silent   : Bool := false
  deriving DecidableEq, Repr

/-! ## Tooth-wheel inputs (chapter 5) -/

/-- One tooth-wheel input: TW_STATUS of Table 5.5 and the records of R136-R153. -/
structure Wheel where
  /-- READING_VALID, ANGLE_VALID (R146), SIGNAL_OK, DIRCHG, REVERSE, STANDSTILL, SYNC_SEARCH, TRACK_B (the accepted level of the
  second track). -/
  readingValid : Bool := false
  angleValid   : Bool := false
  signalOk     : Bool := false
  dirchg       : Bool := false
  reverse      : Bool := false
  standstill   : Bool := false
  syncSearch   : Bool := true
  trackB       : Bool := false
  /-- PASS_MODE in force (reset 0b01, raw) and the level of TWn_OUT (R150, R151); the output waits for the new source
  to reach its level. -/
  passMode     : Nat := 1
  outHigh      : Bool := false
  outWaits     : Bool := false
  /-- Level of the timing track, accepted (R136). -/
  levelA       : Bool := false
  /-- Sampled levels of both tracks before the filter, and the time of the first sample of the present level (R136). -/
  rawA         : Bool := false
  rawASince    : Nanos := 0
  rawB         : Bool := false
  rawBSince    : Nanos := 0
  /-- READING_VALID and ANGLE_VALID as latched at tick 0: they serve the whole beat (R148). -/
  beatReading  : Bool := false
  beatAngle    : Bool := false
  /-- Module time since which the input takes edges: it was enabled, or its settings changed (R146). -/
  since        : Nanos := 0
  /-- TOOTH_INDEX. -/
  index        : Nat := 0
  /-- TW_SPEED as last computed at a taken tooth, signed, rpm (R143). -/
  lastSpeed    : Rat := 0
  /-- TW_SPEED at the present beat (R144). -/
  speed        : Rat := 0
  /-- TW_ANGLE, degrees (R145). -/
  angle        : Rat := 0
  /-- REV_COUNT (signed, wrapping). -/
  revs         : Int := 0
  /-- LAST_EDGE_TIME, ns; none before the first taken edge. -/
  lastEdge     : Option Nanos := none
  /-- PW_ERR_COUNT, SYNC_ERR_COUNT, DIRCHG_COUNT, LAST_PW (0.1 us). -/
  pwErr        : Nat := 0
  syncErr      : Nat := 0
  dirchgCount  : Nat := 0
  lastPw       : Nat := 0
  /-- The discarded pulses of the last second (R153). -/
  pwTimes      : List Nanos := []
  /-- The leading edge awaiting its trailing edge (DIR_MODE 1, R138). -/
  leading      : Option Nanos := none
  /-- An edge that may be the extra tooth: the next edge decides (R141). -/
  extra        : Option Nanos := none
  /-- No edge has been taken since a commit that changed the wheel (R152): the next edge ends no interval. -/
  afresh       : Bool := false
  /-- Intervals between consecutive timing edges, newest first: length in ns; none where the interval takes no part
  in reference detection (R142, R144, R147). -/
  intervals    : List (Option Nat) := []
  /-- The averaging window of R143: edges of the present direction, newest first: module time and positions from the
  edge before it. -/
  window       : List (Nanos × Nat) := []
  /-- Tooth positions counted since the last reference (R142), if one has been found. -/
  sinceRef     : Option Int := none
  /-- The last single-pitch interval, ns (R145). -/
  lastPitch    : Option Nat := none
  /-- One complete interval has been taken since the input was last enabled (R146). -/
  intervalSeen : Bool := false
  deriving DecidableEq, Repr

/-! ## Measurement (chapter 6) -/

/-- Settings of a fine path: sinc order, oversampling ratio, averager, notch frequency in Hz and quality factor (R163). -/
structure FineSet where
  order : Nat
  osr   : Nat
  avg   : Nat
  notch : Option (Rat × Rat) := none
  deriving DecidableEq, Repr

/-- One modulator channel: its fast and fine words, comparator and calibration (R155-R178). -/
structure MeasChan where
  /-- CHAN_STATUS.MOD_OK (reset 0) and the MOD_FAIL in force (R176). -/
  modOk        : Bool := false
  modFail      : Bool := false
  /-- FAST_RESULT (Table 6.2): SEQ, VALID, OVR, SUBST, TEST, VALUE. -/
  fastSeq      : Nat := 0
  fastValid    : Bool := false
  fastOvr      : Bool := false
  fastSubst    : Bool := false
  fastTest     : Bool := false
  fastValue    : Int := -32768
  /-- Modulator clocks since the modulator start or the end of self-calibration have reached 48 (R159): the words left
  to publish with VALID = 0. -/
  fastSettle   : Nat := 3
  /-- Value latched at the last sample tick by R158, 16-bit code. -/
  latched      : Int := 0
  latchedOk    : Bool := false
  /-- FINE_RESULT (Table 6.5): SEQ, OVERRUN, VALID, OVR, RESULT; whether a host path has read it (R168). -/
  fineSeq      : Nat := 0
  fineOverrun  : Bool := false
  fineValid    : Bool := false
  fineOvr      : Bool := false
  fineResult   : Int := -8388608
  fineRead     : Bool := true
  /-- Results left with VALID = 0 after a change (R165). -/
  fineSettle   : Nat := 0
  /-- The window of the next result overlaps steps 1-5 of a slice (R180). -/
  fineTainted  : Bool := false
  /-- MEAS_VALUE (R169), channel unit. -/
  value        : Rat := 0
  /-- OUT_HI, OUT_LO, OVR_SEEN (R160, R167). -/
  outHi        : Bool := false
  outLo        : Bool := false
  ovrSeen      : Bool := false
  /-- TEST and SUBST: modulator input on the test DAC, value substituted (R180, R182). -/
  test         : Bool := false
  subst        : Bool := false
  /-- CAL_STORED, CAL_FAIL (R174, R175). -/
  calStored    : Bool := false
  calFail      : Bool := false
  /-- EXIT_COUNT, OVERRUN_COUNT, saturating at 0xFF. -/
  exitCount    : Nat := 0
  overrunCount : Nat := 0
  /-- MOD_FAIL has occurred since the last self-calibration started (R175). -/
  calModFail   : Bool := false
  /-- The last exit reported: the value, a 16-bit code, and the module time of the first outside evaluation (R160). -/
  exitValue    : Int := 0
  exitAt       : Option Nanos := none
  /-- Fine-path settings still in force after a commit, and the window boundary up to which they publish (R164). -/
  filtOld      : Option (FineSet × Nanos) := none
  /-- Memory of the notch stage: its last two inputs and its last two outputs, newest first (R163). -/
  notchX       : Rat × Rat := (0, 0)
  notchY       : Rat × Rat := (0, 0)
  /-- CAL_OFFSET (fine code) and CAL_GAIN (2^-30) in use (R172). -/
  calOffset    : Int := 0
  calGain      : Nat := 0x40000000
  deriving DecidableEq, Repr

/-- One multiplexed temperature input of M41: TEMP_IN_RESULT (R171). -/
structure TempIn where
  seq      : Nat := 0
  overrun  : Bool := false
  valid    : Bool := false
  ovr      : Bool := false
  result   : Int := -8388608
  read     : Bool := true
  deriving DecidableEq, Repr

/-- The test-voltage slice under way (R180). -/
structure Slice where
  ch    : Nat
  start : Nanos
  /-- The sensor has been reconnected by an abort: substitution ends 1.2 us later (R183). -/
  aborted : Option Nanos := none
  deriving DecidableEq, Repr

/-- The insulation monitor (R185-R187). -/
structure IsoMon where
  /-- Module time since which the grid port's gates are off while the monitor is suspended (R186). -/
  offSince  : Option Nanos := none
  r          : Rat := 0
  c          : Rat := 0
  valid      : Bool := false
  suspended  : Bool := false
  above      : Bool := false
  below      : Bool := false
  warn       : Bool := false
  alarm      : Bool := false
  mode       : Nat := 0
  /-- Consecutive results above 1.25 times the warning and the alarm threshold (R187). -/
  warnOk     : Nat := 0
  alarmOk    : Nat := 0
  deriving DecidableEq, Repr

/-- The measurement subsystem. -/
structure Meas where
  /-- M00-M47. -/
  chans      : List MeasChan := List.replicate 48 {}
  /-- WT0-WT3, LCT0-LCT3 (R170) and the input M41 is connected to. -/
  temps      : List TempIn := List.replicate 8 {}
  /-- The visit of M41 under way: sum and number of its valid results, OR of their OVR (R171). -/
  visitSum   : Int := 0
  visitN     : Nat := 0
  /-- Results published in the visit, valid or not (R170). -/
  visitCount : Nat := 0
  visitOvr   : Bool := false
  muxInput   : Nat := 0
  /-- CAL_STATE: 0 idle, 1 running, 2 done, 3 done with stored offsets, 4 failed (R189). -/
  calState   : Nat := 0
  /-- Module time at which the last self-calibration started (R173). -/
  calSince   : Option Nanos := none

  /-- The first calibration has completed (R165). -/
  calibrated : Bool := false
  /-- Ports whose phase-current offsets are deferred (R174). -/
  deferA     : Bool := false
  deferB     : Bool := false
  slice      : Option Slice := none
  lastSlice  : Option Nanos := none
  /-- TEST_PASS_COUNT, TEST_ABORT_COUNT, TEST_DEFER_COUNT. -/
  passCount  : Nat := 0
  abortCount : Nat := 0
  deferCount : Nat := 0
  iso        : IsoMon := {}
  /-- Burdens of the 4-20 mA inputs AIN0-AIN3 that are disconnected, with the time since which they are (R468). -/
  burdenOff  : List (Option Nanos) := [none, none, none, none]
  deriving DecidableEq, Repr

/-! ## Compensator engine (chapter 7) -/

/-- SLOT_STATUS.MODE (Table 7.7). -/
inductive SlotMode where
  | off | opened | closed | closePending
  deriving DecidableEq, Repr

/-- One compensator slot (R190-R203): signals are 24-bit codes in units of 2^-23. -/
structure Slot where
  mode       : SlotMode := .off
  firmware   : Bool := false
  clamped    : Bool := false
  saturated  : Bool := false
  late       : Bool := false
  inputInvalid : Bool := false
  /-- OWNER: stage group, 0xFF none. -/
  owner      : Nat := 255
  coefGen    : Nat := 0
  sampleSeq  : Nat := 0
  /-- Histories x[n-1..n-3] and y[n-1..n-3] (R194). -/
  x          : List Int := [0, 0, 0]
  y          : List Int := [0, 0, 0]
  /-- SLOT_OUTPUT: the last output applied (R197), the one before it, and the output tick of the last one as a module time: a
  reader at that tick still takes the one before (R195). -/
  output     : Int := 0
  outputPrev : Int := 0
  outputAt   : Nanos := 0
  /-- Output tick S + L of the result in the holding register, as a module time (R197). -/
  outputDue  : Nanos := 0
  /-- SLOT_LATE, 16 bits, wrapping. -/
  lateCount  : Nat := 0
  /-- The result in the output holding register: output code, histories that go with it, and its flags (R14). -/
  holding    : Option (Int × List Int × List Int × Bool × Bool) := none
  /-- An overrun's late result is awaited (R198). -/
  lateAwait  : Bool := false
  /-- SLOT_CMD pending: 1 open, 2 close (R200). -/
  cmd        : Nat := 0
  /-- Module time of the first SLOT_CMD that waits: at the first sample of a later beat the last one written takes effect. -/
  cmdAt      : Nanos := 0
  /-- Consecutive samples with an invalid input while CLOSED (R196). -/
  invalidRun : Nat := 0
  /-- Clamp limits the owner drives on a firmware slot (R203). -/
  ownHi      : Int := 0x7FFFFF
  ownLo      : Int := -0x800000
  deriving DecidableEq, Repr

/-! ## Supply chain and power arbiter (chapter 8) -/

/-- The supply chain's place in Table 8.1 (R209): 0 stopped, 1 waiting for 560 V on the link, 3 LLC soft start,
5 buck ramp and flying-capacitor precharge, 6 link ramp, 7 complete. -/
abbrev ChainStep := Nat

/-- One battery converter phase (R210-R215). -/
structure ConvPhase where
  active     : Bool := false
  /-- When the outer positions were turned off by the order of R59, while the inner ones are still on. -/
  outerAt    : Option Nanos := none
  /-- Its flying capacitor is being precharged (R214), and since when. -/
  precharging : Bool := false
  preStart   : Option Nanos := none
  /-- The phase has been shed (R215); its reference ramps to 0 before its gates turn off. -/
  shed       : Bool := false
  /-- Module time at which it was shed: its current reference ramps to 0 over 200 us (R215); it returns at its next carrier
  peak. -/
  shedAt     : Option Nanos := none
  returning  : Bool := false
  /-- Module time of its last carrier peak, and the commands of its cells that lie ahead: time, position, on; the flag marks those
  of the half period after the valley, which take up a duty applied before it (R210). -/
  peakAt     : Option Nanos := none
  edges      : List (Bool × Nanos × Nat × Bool) := []
  /-- Duty in force (fraction of the period, 2^-23) and the balance shift in 0.01 degrees (R210, R213). -/
  duty       : Int := 0
  dutyNext   : Int := 0
  shift      : Rat := 0
  deriving DecidableEq, Repr

/-- The battery converter: CONV_STATUS of Table 8.7 and its records. -/
structure Conv where
  limsrc      : Nat := 0
  refused     : Bool := false
  running     : Bool := false
  /-- The outer loop in force: 0 off, 1 link voltage, 2 battery current (R211). -/
  loop        : Nat := 0
  overFull    : Bool := false
  batStale    : Bool := false
  linkHigh    : Bool := false
  discharging : Bool := false
  dischHot    : Bool := false
  /-- The path was switched on by LINK_DISCHARGE (R219): it stays on until 60 V. -/
  dischCmd    : Bool := false
  phases      : List ConvPhase := List.replicate 3 {}
  /-- A carrier peak of the phase numbered 0, from which all carriers count (R210). -/
  carrier     : Option Nanos := none
  /-- CONV_MODE 0 has kept the gates off (R211). -/
  modeOff     : Bool := false
  /-- The phase shed first last time (R215). -/
  lastShed    : Option Nat := none
  /-- CONV_POWER (kW, 1 ms mean), OVERLOAD_ACC and DISCH_ACC in joules. -/
  power       : Rat := 0
  overload    : Rat := 0
  dischAcc    : Rat := 0
  /-- The effective link setpoint and its ramp value, V (R212). -/
  setpoint    : Rat := 0
  ramp        : Rat := 0
  /-- The last write of a battery limit (R217), if one has come since the start. -/
  lastLimit   : Option Nanos := none
  deriving DecidableEq, Repr

/-- The LLC and the 54 V bus: LLC_STATUS and its records (R220, R221). -/
structure Llc where
  running   : Bool := false
  burst     : Bool := false
  startConv : Bool := false
  lowLink   : Bool := false
  limsrc    : Nat := 0
  refused   : Bool := false
  /-- Switching frequency, kHz. -/
  freq      : Nat := 0
  /-- The 54 V bus lies within 52.92-55.08 V and step 3 of Table 8.1 has completed. -/
  inRange   : Bool := false
  /-- In burst mode: bursts are under way, from 53.7 V until 54.3 V (R220). -/
  bursting  : Bool := false
  /-- F3 stops of the last 10 s (R221) and the module time of the last one awaiting its restart; the restarts. -/
  stops     : List Nanos := []
  restart   : Option Nanos := none
  restarts  : List Nanos := []
  deriving DecidableEq, Repr

/-- The auxiliary buck: AUX_STATUS of Table 8.8 and its records (R222-R226). -/
structure AuxBuck where
  limsrc     : Nat := 0
  refused    : Bool := false
  running    : Bool := false
  syncLocked : Bool := false
  syncLost   : Bool := false
  ovLatched  : Bool := false
  stepAbort  : Bool := false
  shedHold   : Bool := false
  /-- Phases active, phases 0-7. -/
  active     : List Bool := List.replicate 8 false
  /-- Phases permanently shed (R71). -/
  lostPh     : List Bool := List.replicate 8 false
  /-- Ramp value, V, and whether it differs from AUX_V_SET (R222). -/
  ramp       : Rat := 0
  /-- The crowbar is applied (R226). -/
  crowbar    : Bool := false
  /-- SYNC_IN: consecutive counted periods, last edge, last locked period in ns, SYNC_FREQ kHz, SYNC_LATE (R223). -/
  syncCount  : Nat := 0
  lastSync   : Option Nanos := none
  syncPeriod : Nat := 0
  syncFreq   : Nat := 0
  syncLate   : Nat := 0
  /-- Module time of the last counted edge (R223). -/
  lastCounted : Option Nanos := none
  /-- Turn-on of each phase within the period, in 1/64 tick after the edge, or after the turn-on of phase 0 (R223). -/
  turnOn     : List Nat := List.replicate 8 0
  /-- Module times of the last shed and of the load step that holds shedding; the last three latched values of M26, newest first (R224). -/
  shedLast   : Option Nanos := none
  holdSince  : Option Nanos := none
  iLast      : List Rat := []
  /-- The buck starts as soon as its stage can run (R209 step 4, R226). -/
  startDue   : Bool := false
  /-- Ramp values of the last 1 ms that can still be the highest (R226): module time and value. -/
  rampTop    : List (Nanos × Rat) := []
  /-- I_out averaged over 100 us, A, and the sum and number of the samples of the present window (R224). -/
  iOut       : Rat := 0
  iAcc       : Rat × Nat := (0, 0)
  /-- Grant of the 54 V budget, kW (R231). -/
  grant      : Rat := 0
  deriving DecidableEq, Repr

/-- The backup path: BACKUP_PATH (R228). -/
structure BackupPath where
  diodeOn  : Bool := false
  heldOpen : Bool := false
  /-- Cause of opening: 0 none, 1 crowbar, 2 over-current, 3 low battery, 4 removed. -/
  cause    : Nat := 0
  /-- Module times of the openings by over-current of the last 60 s. -/
  openings : List Nanos := []
  deriving DecidableEq, Repr

/-- Grants of the link computed by the arbiter, which take effect at the next tick 0 (R229, R230). -/
structure LinkGrants where
  driveCap   : Rat
  brakeCap   : Rat
  gridGrant  : Rat
  arbA       : Option Rat
  arbB       : Option Rat
  arbSrcA    : Nat
  arbSrcB    : Nat
  arbSrcGrid : Nat
  refuseA    : Bool
  refuseB    : Bool
  refuseGrid : Bool
  deriving DecidableEq, Repr

/-- Grants of the 54 V bus that take effect at the next tick 0: budget left, share of the actuators' requests, backup grant, grant
of the 24 V bus, and whether the 24 V bus and the charger are reduced and refused (R231). -/
structure BusGrants where
  left    : Rat
  share   : Rat
  backup  : Rat
  aux24   : Rat
  auxLow  : Bool
  auxNone : Bool
  bkLow   : Bool
  bkNone  : Bool
  deriving DecidableEq, Repr

/-- The supply chain and the arbiter's grants (R229-R231). -/
structure Supply where
  /-- Grants that wait for tick 0. -/
  linkNext   : Option LinkGrants := none
  busNext    : Option BusGrants := none
  chain      : ChainStep := 0
  /-- The chain is stopped for the duration of a SELF_CAL (R207) and starts again after it. -/
  calPause   : Bool := false
  conv       : Conv := {}
  llc        : Llc := {}
  aux        : AuxBuck := {}
  backup     : BackupPath := {}
  /-- GRANT_DRIVE, GRANT_BRAKE, GRANT_GRID, GRANT_54V_LEFT in kW (R230, R231). -/
  driveCap   : Rat := 0
  brakeCap   : Rat := 0
  gridGrant  : Rat := 0
  left54     : Rat := 0
  /-- Torque ceilings by the arbiter of ports A and B (Nm); none where the scale is 1 (R230); the LIMSRC that goes
  with them; the refusals. -/
  arbA       : Option Rat := none
  arbB       : Option Rat := none
  arbSrcA    : Nat := 0
  arbSrcB    : Nat := 0
  arbSrcGrid : Nat := 0
  refuseA    : Bool := false
  refuseB    : Bool := false
  refuseGrid : Bool := false
  /-- Actuator grants as a share of their requests (R231). -/
  actShare   : Rat := 1
  backupGrant : Rat := 0
  /-- Means over the last 10 us (R230, R238), kW: motoring, generating, the battery converter's draw in charge. -/
  meanM      : Rat := 0
  meanG      : Rat := 0
  meanChg    : Rat := 0
  /-- Means under way: converter power over 1 ms (kW, samples); powers of port A, port B and the grid over 10 us (kW,
  samples); the LLC input power over the last ten 10 us windows and in the present one (R215, R230). -/
  convAcc     : Rat × Nat := (0, 0)
  powA        : Rat := 0
  powB        : Rat := 0
  powGrid     : Rat := 0
  powLlc      : Rat := 0
  powChg      : Rat := 0
  powN        : Nat := 0
  llcHist     : List Rat := []
  deriving DecidableEq, Repr

/-! ## Charging and status lamps (chapter 9) -/

/-- CHG_STATUS.STATE (Table 9.9). -/
inductive ChgState where
  | idle | gridCheck | sync | cc | cv | complete | retryWait | lockedOut
  deriving DecidableEq, Repr

/-- The grid port and the traction charge (R234-R244): CHG_STATUS of Table 9.9 and its records. -/
structure Charge where
  state       : ChgState := .idle
  limsrc      : Nat := 0
  refused     : Bool := false
  gridOk      : Bool := false
  pllLocked   : Bool := false
  /-- WD_FALLBACK of both charge status words (R242). -/
  fallback    : Bool := false
  /-- CHG_CMD 0x01 is in force (R237). -/
  commanded   : Bool := false
  /-- A CHG_CMD 0x02 or an end of charge ramps the current to 0; true where it ends in COMPLETE (R240). -/
  ending      : Option Bool := none
  /-- Module times of the restarts of the last 10 min (R237); RESTARTS is their number. -/
  restarts    : List Nanos := []
  /-- Step of Table 9.2 reached and its start. -/
  step        : Nat := 0
  stepStart   : Nanos := 0
  /-- The grid port switches. -/
  switching   : Bool := false
  /-- GRID_V (V rms), GRID_F (Hz), negative sequence as a share of the positive one (R236). -/
  gridV       : Rat := 0
  gridF       : Rat := 0
  unbalance   : Rat := 0
  /-- GRID_P, mean power from the supply, W; VREG_SCALE, 24-bit code (R238, R241). -/
  gridP       : Rat := 0
  vregScale   : Int := 0x7FFFFF
  /-- p_gmax and the current references i_d*, i_q* of the last CS07 sample (R238). -/
  pGmax       : Rat := 0
  idRef       : Rat := 0
  iqRef       : Rat := 0
  /-- i_cmd of R239 as slewed, A, and the output of CS09, A. -/
  iCmd        : Rat := 0
  /-- Sums over the grid period under way: the positive-sequence components of the line-to-line voltage in the frame that turns
  with GRID_F, and the negative-sequence ones; the beats summed (R236). -/
  gridPos     : Rat × Rat := (0, 0)
  gridNeg     : Rat × Rat := (0, 0)
  gridN       : Nat := 0
  /-- TBAT_LOST keeps the battery converter and the grid port stopped until the module passes to STANDBY (R244). -/
  lostHold    : Bool := false
  /-- Module time of the last refresh of the host watchdog, if one has come since the start (R242); CHG_WD_LATE. -/
  lastRefresh : Option Nanos := none
  wdLate      : Nat := 0
  /-- The mean of the grid power over 10 ms under way: sum in kW and samples. -/
  pAcc        : Rat × Nat := (0, 0)
  deriving DecidableEq, Repr

/-- BCHG_STATUS.STATE (Table 9.10). -/
inductive BchgState where
  | off | precharge | fast | trickle | waitTemp | paused | stopped | lost
  deriving DecidableEq, Repr

/-- The backup charger (R245-R252). -/
structure BackupCharger where
  state       : BchgState := .off
  limsrc      : Nat := 0
  refused     : Bool := false
  timerPaused : Bool := false
  dvArmed     : Bool := false
  /-- BAT_PRESENT (R245, R252). -/
  present     : Bool := false
  /-- END_CAUSE. -/
  endCause    : Nat := 0
  /-- The phase it re-enters after a pause (R245). -/
  resume      : BchgState := .off
  /-- BAT_TEMP: battery temperature in degC, none while the sensor is invalid (R245). -/
  temp        : Option Rat := none
  /-- BATAUX_HOT holds the current at 0 until the temperature is below BCHG_T_MAX - 5 K (R248). -/
  hotHold     : Bool := false
  /-- Start of the phase under way (PRECHARGE 30 min, FAST). -/
  phaseStart  : Nanos := 0
  /-- Safety and ceiling timers of R249: nanoseconds run so far, and since when they run (none while held). -/
  safetyRun   : Nat := 0
  safetySince : Option Nanos := none
  ceilRun     : Nat := 0
  ceilSince   : Option Nanos := none
  /-- BCHG_END_RECORD (Table 9.11): cause, FOLDBACK, TIMER_PAUSED, temperature, duration in minutes. -/
  recCause    : Nat := 0
  recFold     : Bool := false
  recPaused   : Bool := false
  recTemp     : Int := 0
  recMin      : Nat := 0
  /-- BCHG_LATE (R250). -/
  late        : Nat := 0
  /-- Current in force, A, and the current the charger asks for. -/
  current     : Rat := 0
  demand      : Rat := 0
  /-- The 10 s window of M27 under way: sum in V, beats, whether it broke a rule of R247; the mean of the last window and the
  highest one of this FAST phase. -/
  vSum        : Rat := 0
  vN          : Nat := 0
  vBad        : Bool := false
  vMean       : Option Rat := none
  vPeak       : Option Rat := none
  /-- Battery temperatures of the last 60 s, newest first, each with its module time (R247). -/
  temps       : List (Nanos × Rat) := []
  /-- Module time at which M27 was last below the ceiling (R251). -/
  belowCeil   : Option Nanos := none
  deriving DecidableEq, Repr

/-- A lamp output (R253): it works unless over-current has turned it off. -/
structure Lamp where
  off   : Bool := false
  /-- Module time of the last turn-off or retry (R253). -/
  offAt : Nanos := 0
  deriving DecidableEq, Repr

/-- The lamps: LAMP_CHG, LAMP_FLT and the lamp test at BOOT (R253). -/
structure Lamps where
  chg  : Lamp := {}
  flt  : Lamp := {}
  test : Bool := true
  deriving DecidableEq, Repr

/-! ## Gearbox actuators (chapter 10) -/

/-- ACT_STATUS.OP_STATE (Table 10.7). -/
inductive OpState where
  | idle | pause | moving | seating | holding | backingOff | failed | disabled
  deriving DecidableEq, Repr

/-- One actuator drive: ACT_STATUS of Table 10.7 and its records (R257-R271). -/
structure Actuator where
  limsrc     : Nat := 0
  refused    : Bool := false
  op         : OpState := .idle
  /-- SHIFT_STEP: 0 none, 1-6 of Table 10.3, 7 aborted. -/
  shift      : Nat := 0
  /-- TARGET of the last operation. -/
  target     : Nat := 0
  homed      : Bool := false
  atTarget   : Bool := false
  endReached : Bool := false
  stall      : Bool := false
  hot        : Bool := false
  /-- Hall code h (R257), and the module time since which a code of 0 or 7 has been read. -/
  hall       : Nat := 0
  hallBadSince : Option Nanos := some 0
  /-- ACT_POS, Hall edges, signed 32 bits. -/
  pos        : Int := 0
  /-- The estimate E of R271 (starts at 0.50). -/
  therm      : Rat := 1 / 2
  /-- HALL_SKIP (16 bits), ACT_LATE and CMD_BUSY (8 bits each), all wrapping, and the skips within the operation. -/
  hallSkip   : Nat := 0
  actLate    : Nat := 0
  cmdBusy    : Nat := 0
  skipsOp    : Nat := 0
  /-- The operation is homing; the operation waits for the speeds of the differential lock (R266). -/
  homing     : Bool := false
  diffWait   : Bool := false
  /-- ACT_CMD written, taken at the next tick 0 (R266). -/
  cmd        : Option Nat := none
  /-- Tries made after stalls (R264), engage retries (R268), gear target of the shift and the target it started
  from. -/
  retries    : Nat := 0
  engRetries : Nat := 0
  gear       : Nat := 0
  fromGear   : Nat := 0
  /-- The fork returns to neutral before step 4 is repeated (R268), or by R269. -/
  returning  : Bool := false
  /-- A plain fork move: steps 3 and 5 only (R267). -/
  plain      : Bool := false
  /-- The shift has failed a step: what follows only brings the fork to its place and the ceiling back (R268). -/
  shiftBad   : Bool := false
  /-- Sum of the squares and number of the current samples since the last thermal update, A^2, and its module time (R271). -/
  iSq        : Rat := 0
  iN         : Nat := 0
  thermAt    : Option Nanos := none
  /-- Start of the move and of the shift step. -/
  opStart    : Nanos := 0
  stepStart  : Nanos := 0
  /-- Module time since which |SPEED_EST - target| is below SYNC_TOL (R267). -/
  syncSince  : Option Nanos := none
  /-- Module time of the last Hall edge (R264). -/
  lastEdge   : Nanos := 0
  /-- Current reference in force, A (R259). -/
  iRef       : Rat := 0
  /-- Duty in force, 2^-23 (R259). -/
  duty       : Int := 0
  /-- The position the present move goes to, and whether it is an end-stop target (R262, R263). -/
  goal       : Int := 0
  goalEnd    : Bool := false
  /-- The position a back-off moves to (R264). -/
  backTo     : Int := 0
  /-- The last valid Hall code, 0 before the first (R257). -/
  hallLast   : Nat := 0
  /-- Module time at which the thermal pause of the operation ends (R271). -/
  pauseUntil : Nanos := 0
  /-- ACT_OC times of the last 10 s (R260). -/
  ocTimes    : List Nanos := []
  /-- The position kept in the diagnostic store: set while the last operation has completed (R265). -/
  stored     : Option Int := none
  /-- Module time since which valid Hall codes have been read after HALL_FAULT (Table 10.5). -/
  hallOkFrom : Option Nanos := none
  deriving DecidableEq, Repr

/-! ## Thermal management (chapter 11) -/

/-- Temperatures, factors and the timebase correction (R274-R290). -/
structure Thermal where
  /-- TJ_A, TJ_B in degC; none where the sensor has failed (R284). -/
  tjA        : Option Rat := some 0
  tjB        : Option Rat := some 0
  /-- MODULE_STATUS.THROTTLED and q (R285). -/
  throttled  : Bool := false
  q          : Rat := 0
  /-- Throttling factor of R286. -/
  ctrlFactor : Rat := 1
  /-- COOLANT_IN, COOLANT_OUT in degC; none where invalid (R275). -/
  coolIn     : Option Rat := some 0
  coolOut    : Option Rat := some 0
  /-- LCT_TEMP, WT_TEMP in degC; none where invalid (R275). -/
  lct        : List (Option Rat) := [some 0, some 0, some 0, some 0]
  wt         : List (Option Rat) := [some 0, some 0, some 0, some 0]
  /-- The winding temperature used by R83 while WT_TSENSE is raised is 100 degC (R276): the latest valid one, or none
  after WT_TSENSE. -/
  wtUsed     : List (Option Rat) := [some 0, some 0, some 0, some 0]
  /-- Coolant and link capacitor factors (R287, R288). -/
  coolFactor : Rat := 1
  lctFactor  : Rat := 1
  /-- Winding factor per port (R289). -/
  wtFactorA  : Rat := 1
  wtFactorB  : Rat := 1
  /-- The 64-result means of M42 and M43 under way: results seen, valid ones, their sum (Table 11.1). -/
  coolAcc    : List (Nat × Nat × Int) := [(0, 0, 0), (0, 0, 0)]
  /-- Die temperature factor and rate factor per position, listed at the position's first channel (R277, R278). -/
  dieFactor  : List Rat := List.replicate 512 1
  rateFactor : List Rat := List.replicate 512 1
  /-- Consecutive evaluations above DTDT_LIM per position (R278). -/
  rateRun    : List Nat := List.replicate 512 0
  /-- HOTTEST_DIE per stage group: g and its temperature in 1/8 degC, none before any valid sample; MAX_DTDT per stage
  group, 0.01 K/ms. -/
  hottest    : List (Option (Nat × Int)) := List.replicate 8 none
  maxDtdt    : List Int := List.replicate 8 0
  /-- P_loss of R287, kW: an estimate the spec does not give. -/
  pLoss      : Rat := 0
  /-- Module times of the last die evaluation, controller reading and timebase correction (Table 11.1). -/
  dieAt      : Option Nanos := none
  tjAt       : Option Nanos := none
  tbAt       : Option Nanos := none
  /-- Module times since which: the two controller sensors have differed by more than 5 K (R284); the inlet has been at 72 degC or
  more; the coolant has warmed more than R287 allows; every die of a stage group with a valid sensor has been below 140 degC
  (R283). -/
  tjSince    : Option Nanos := none
  inletSince : Option Nanos := none
  flowSince  : Option Nanos := none
  coolSince  : List (Option Nanos) := List.replicate 8 none
  /-- Module time of the last valid reading of each winding input (R276). -/
  wtAt       : List Nanos := [0, 0, 0, 0]
  /-- TIMEBASE_CORR, 0.1 ppb, and its temperature part (R290). -/
  tbCorr     : Int := 0
  tbTemp     : Int := 0
  /-- Modulator reference temperature, degC, none where the sensor is invalid (R172, R290). -/
  refTemp    : Option Rat := some 25
  deriving DecidableEq, Repr

/-! ## Safety core (chapter 12) -/

/-- SAFETY_STATUS.SC_STATE (R296). -/
inductive ScState where
  | start | uncommissioned | run | fail
  deriving DecidableEq, Repr

/-- One safety input SIn (R298-R300): filtered level, SI_TEST, and the test-pulse results. -/
structure SafeInput where
  level    : Bool := false
  /-- SI_TEST latched. -/
  test     : Bool := false
  /-- Consecutive periods failed and passed (R300). -/
  failRun  : Nat := 0
  passRun  : Nat := 0
  /-- It has read low in a window of another test-pulse output in the present period (R299). -/
  cross    : Bool := false
  /-- Module time at which the filtered level last changed (R298). -/
  levelAt  : Option Nanos := none
  /-- Since SI_TEST was latched both channels of its function have been in their safe state in one cycle (R300). -/
  safeSeen : Bool := false
  deriving DecidableEq, Repr

/-- One input function IFk: IF_STATUS of Table 12.9 and its records (R301-R306). -/
structure InputFn where
  demand    : Bool := true
  waitReset : Bool := false
  disc      : Bool := false
  netLost   : Bool := false
  /-- CH_ACTIVE, bit c. -/
  active    : List Bool := [false, false, false, false]
  /-- Two-hand control (R303): both hands have been released; the time of the first actuation. -/
  handsReady : Bool := false
  firstHand  : Option Nanos := none
  /-- Module times since which the channels disagree, or the first hand is in neither state; since which the second hand is
  (R302, R303). -/
  discSince  : Option Nanos := none
  handSince  : Option Nanos := none
  /-- A demand of the partner's connection that was in force when the partner was lost: it ends with a reset only (R318). -/
  lossHold   : Bool := false
  deriving DecidableEq, Repr

/-- The drive functions of one port: PORT_SAFETY of Table 12.8 and its records (R307-R314). -/
structure PortSafety where
  sto       : Bool := true
  ss1       : Bool := false
  ss1Mon    : Bool := false
  sls       : Bool := false
  slsLevel  : Nat := 0
  sdi       : Bool := false
  /-- SDI_DIR: false positive allowed, true negative allowed. -/
  sdiNeg    : Bool := false
  /-- Both directions are demanded at once: none is allowed. -/
  sdiBoth   : Bool := false
  speedOk   : Bool := false
  xchk      : Bool := false
  restartBlock : Bool := false
  /-- Violations of R310-R312 and faults of R307 latched: SS1_RAMP_VIOL, SLS_VIOL, SDI_VIOL, SPEED_XCHK,
  SAFE_SPEED_INV. -/
  ss1Viol   : Bool := false
  slsViol   : Bool := false
  sdiViol   : Bool := false
  xchkFault : Bool := false
  invFault  : Bool := false
  /-- FORBIDDEN_TRAVEL in 0.1 degrees (R312). -/
  travel    : Rat := 0
  /-- SDI monitoring has started; its braking began (R312). -/
  sdiMon    : Bool := false
  sdiStart  : Option Nanos := none
  /-- SAFE_SPEED, rpm (R307). -/
  speed     : Rat := 0
  /-- Time of the SS1 demand, n_0, and consecutive cycles above the limit (R310). -/
  ss1Start  : Option Nanos := none
  ss1N0     : Rat := 0
  ss1Over   : Nat := 0
  /-- SS1 has reached its STO demand: standstill or SS1_TIME (R310). -/
  ss1Done   : Bool := false
  /-- Start of the SLS demand, the speed it began with, and consecutive cycles above the limit (R311). -/
  slsStart  : Option Nanos := none
  slsN0     : Rat := 0
  slsOver   : Nat := 0
  /-- The STO demand started at (R308), for the read-back after 10 ms and SBC_DELAY. -/
  stoSince  : Option Nanos := some 0
  /-- SBC_RELEASE_T is running or not yet over after the output turned on (R313). -/
  sbcWait   : Bool := false
  sbcOnAt   : Option Nanos := none
  /-- Module times since which the safe speed has differed from the second speed (R307), and since which its magnitude has been
  below SS1_STANDSTILL (R310). -/
  xchkSince : Option Nanos := none
  slowSince : Option Nanos := none
  deriving DecidableEq, Repr

/-- One safety output SOn (R313, R315). -/
structure SafeOutput where
  on     : Bool := false
  fault  : Bool := false
  /-- 1 s of healthy read-back has passed since SO_FAULT (R315). -/
  healthy : Bool := false
  /-- Module time of the last off pulse of the high side, of the turn-on before the first one; the return switch has been tested
  since (R315). -/
  pulseAt : Nanos := 0
  retDone : Bool := false
  deriving DecidableEq, Repr

/-- The safety core (R293-R320): SAFETY_STATUS of Table 12.7 and the rest. -/
structure Safety where
  sc        : ScState := .start
  /-- STO_LINE_A and STO_LINE_B (reset asserted). -/
  lineA     : Bool := true
  lineB     : Bool := true
  /-- PAIR_STO_OUT and PAIR_STO_IN as evaluated (R33). -/
  pairOut   : Bool := false
  pairIn    : Bool := false
  resetStuck : Bool := false
  /-- The reset input has gone high at; a press waits for its fall (R306). -/
  resetHigh : Option Nanos := none
  /-- After RESET_STUCK, no reset until the input has been low (R306). -/
  resetHold : Bool := false
  /-- A reset of RESET_SI or RESET_DORID is to be taken in the next cycle; the reset bit of RESET_DORID was set. -/
  resetDue  : Bool := false
  dorResetSeen : Bool := false
  inputs    : List SafeInput := List.replicate 16 {}
  fns       : List InputFn := List.replicate 16 {}
  portA     : PortSafety := {}
  portB     : PortSafety := {}
  outs      : List SafeOutput := List.replicate 4 {}
  /-- Demands taken from PAIR_STO_IN and from the partner's Dorid connection, held until a reset (R317, R318): STO, SS1,
  SLS level 0-3, SDI positive, SDI negative. -/
  pairSto   : Bool := false
  pairDem   : List Bool := List.replicate 8 false
  /-- Which of them wait for a manual reset after their end. -/
  pairWait  : Bool := false
  /-- STO by DORID_PAIR_EXPIRED or by a failed PAIR_STO_IN slice, held until a reset (R333, R424). -/
  dorPairSto : Bool := false
  guySto     : Bool := false
  /-- The guy-line consumer has expired since the last cycle, which judges it (R333). -/
  pairExpired : Bool := false
  /-- Payloads accepted and delivered at the start of the next cycle: connection and bytes (R327). -/
  payloads  : List (Nat × List Byte) := []
  /-- A taken reset is sent for one frame (Table 13.3). -/
  resetOut  : Bool := false
  /-- ECC_CORR, SAFE_LATE. -/
  eccCorr   : Nat := 0
  safeLate  : Nat := 0
  /-- Module time of the last cycle (R293), and of the last pulse of each test-pulse output (R299). -/
  cycleAt   : Option Nanos := none
  tpAt      : List (Option Nanos) := List.replicate 8 none
  /-- The STO lines are asserted by the window watchdog (R297, R414). -/
  wdogLines : Bool := false
  /-- The safety image in force: object values by key (R334). -/
  image     : List (Nat × Nat) := []
  deriving DecidableEq, Repr

/-! ## Dorid connections and commissioning (chapter 13) -/

/-- DORID_STATUS.STATE (Table 13.10). -/
inductive DoridPhase where
  | unused | starting | run | expired
  deriving DecidableEq, Repr

/-- One Dorid connection (R325-R333): DORID_STATUS of Table 13.10, its counters and records. -/
structure DoridConn where
  state     : DoridPhase := .unused
  errrate   : Bool := false
  late      : Nat := 0
  /-- Last SEQ sent or accepted. -/
  seq       : Nat := 0
  /-- CRC_ERR, ID_ERR, SEQ_ERR, AGE_ERR, each saturating at 0xFF. -/
  crcErr    : Nat := 0
  idErr     : Nat := 0
  seqErr    : Nat := 0
  ageErr    : Nat := 0
  /-- Deadline (R328). -/
  deadline  : Option Nanos := none
  /-- In EXPIRED, the first good frame has set the sequence reference (R329); the frame before was accepted. -/
  rejoin    : Bool := false
  oneGood   : Bool := false
  /-- Module times of the discards of the last second; when the hold of R329 began. -/
  discards  : List Nanos := []
  holdFrom  : Option Nanos := none
  /-- Last accepted payload (consumer) or last payload sent (producer). -/
  payload   : List Byte := []
  /-- The producer has sent its first frame, and the time of its last one (R325). -/
  started   : Bool := false
  lastSent  : Nanos := 0
  deriving DecidableEq, Repr

/-- COMM_STATE (Table 13.9). -/
inductive CommState where
  | none | editing | checked | burning | proof
  deriving DecidableEq, Repr

/-- Commissioning (R335-R340). -/
structure Comm where
  state     : CommState := .none
  /-- The commissioning connection: the path of the tool's expert session and the tool's system node number. -/
  conn      : Option (Path × Nat) := Option.none
  /-- Last TRANS acted on. -/
  trans     : Option Nat := Option.none
  /-- Last response: OPCODE, TRANS, RESULT, RULE, INDEX, SUB, DATA. -/
  opcode    : Nat := 0
  rTrans    : Nat := 0
  result    : Nat := 0
  rule      : Nat := 0
  index     : Nat := 0
  sub       : Nat := 0
  data      : List Byte := []
  /-- CHECK of the last response: the check value of the shadow set after a check (Table 13.6). -/
  showShadow : Bool := false
  /-- The commissioning shadow set: differences from the defaults (R337), and its PAIR_POSITION. -/
  shadow    : List (Nat × Nat) := []
  pairPos   : Nat := 0
  /-- CHECK_VALUE, SHADOW_CHECK, GENERATION (R337). -/
  check     : W32 := 0
  shadowCheck : W32 := 0
  generation : Nat := 0
  /-- The image being burned, the generation, PAIR_POSITION and the tool's node (R338, R339). -/
  burning   : Option (List (Nat × Nat) × Nat × Nat × Nat) := Option.none
  /-- Start of proof-test mode (R340). -/
  proofStart : Nanos := 0
  /-- DORID_UNKNOWN (R331). -/
  unknown   : Nat := 0
  /-- DORID_TIME_LOST: the holdover has passed without a reference (R330). -/
  timeLost  : Bool := false
  deriving DecidableEq, Repr

/-! ## Networks, time and queues (chapter 14) -/

/-- One frame in a transmit queue: its message class of Table 14.3, identifier (CAN; bit 31 marks a 29-bit one) or
destination (ETH1), bytes, and the module time at which it entered. Frames that pass no queue carry a number of the
model's own: 14 ARP and ICMP answers, 15 guy frames, 16 capture packets. -/
structure TxFrame where
  cls    : Nat
  ident  : Nat := 0
  destIp : BitVec 32 := 0
  destPort : BitVec 16 := 0
  /-- The UDP source port (R348). -/
  srcPort : BitVec 16 := 0
  data   : List Byte := []
  time   : Nanos := 0
  deriving DecidableEq, Repr

/-- One transmit queue TXQn (R349): up to 64 frames, head first; TXQ_STATUS.FULL and TXQ_DROP. -/
structure TxQueue where
  frames : List TxFrame := []
  full   : Bool := false
  drop   : Nat := 0
  deriving DecidableEq, Repr

/-- One CAN port: CAN_STATUS of Table 14.14 and RX_UNMATCHED. CONF_STATE: 0 error-active, 1 error-passive, 2 bus-off,
3 off (reset). -/
structure CanState where
  tec       : Nat := 0
  rec_      : Nat := 0
  conf      : Nat := 3
  load      : Nat := 0
  /-- Consecutive measurements of 100 ms above and below 90 % (R359), up to 10. -/
  loadHigh  : Nat := 0
  loadLow   : Nat := 0
  unmatched : Nat := 0
  /-- CAN_RECOVER has been written, or recovery needs no write (R358). -/
  recovering : Bool := false
  /-- Module times of the last load measurement (R359) and of the last heartbeat sent on the port (R345). -/
  loadAt    : Option Nanos := none
  hbAt      : Option Nanos := none
  /-- The last frame received: what the port's capture tap offers (Table 14.9). -/
  lastRx    : Option CanFrame := none
  /-- CANopen state of the NMT slave on the port (R345): 0 initialising, 4 stopped, 5 operational,
  127 pre-operational. -/
  nmt       : Nat := 127
  deriving DecidableEq, Repr

/-- One receive object's content (R355, Table 14.4). -/
structure RxObject where
  isNew     : Bool := false
  lost      : Bool := false
  lostCount : Nat := 0
  xl        : Bool := false
  fd        : Bool := false
  brs       : Bool := false
  time      : Nanos := 0
  data      : List Byte := []
  deriving DecidableEq, Repr

/-- Module time distribution: TIME_STATUS of Table 14.15 and the records of R361-R364. -/
structure TimeState where
  /-- ROLE: 0 free-running, 1 locked to CANA, 2 master, 3 holdover, 4 locked to the partner. -/
  role         : Nat := 0
  masterRank   : Nat := 0
  stepped      : Bool := false
  firstPending : Bool := false
  missed       : Nat := 0
  master       : Nat := 0
  /-- TIME_OFFSET (R363, R367). -/
  offset       : Int := 0
  /-- TIME_LATE (R362). -/
  late         : Nat := 0
  /-- This module sends a reference at the next 1 ms boundary: it is master, or has missed three references (R362); and
  that reference carries FIRST = 1. -/
  refPending   : Bool := false
  first        : Bool := true
  /-- SEQ of the next reference sent and start-of-frame time of the last one sent (R361). -/
  seq          : Nat := 0
  sofSent      : Nanos := 0
  /-- Start-of-frame time captured for the last reference received (R363). -/
  sofSeen      : Option Nanos := none
  /-- The last reference received: its module time of arrival (R362). -/
  lastRef      : Option Nanos := none
  /-- Start of the holdover (R364). -/
  holdover     : Option Nanos := none
  /-- Module time up to which the module has had a time reference: one received, its own as master, the partner's (R330). -/
  refAt        : Nanos := 0
  /-- Module times since which the offset has been above 1 ms (R363), and the times of the pair have differed by more than 100 ns
  (R367). -/
  offSince     : Option Nanos := none
  glSince      : Option Nanos := none
  /-- Network-time trim in force (R290, R363), 0.1 ppb, and its frequency integrator. -/
  trim         : Int := 0
  integrator   : Int := 0
  /-- Time of the last duplicate rank seen (R362). -/
  dupSeen      : Option Nanos := none
  deriving DecidableEq, Repr

/-- A message not yet acknowledged: its number, whether its segment has been sent, and the frames since (R368). -/
structure OutMsg where
  number  : Nat
  msg     : GuyMsg
  /-- It holds its credit. -/
  started : Bool := false
  sent    : Bool := false
  frames  : Nat := 0
  deriving DecidableEq, Repr

/-- The guy line (R365-R369). -/
structure GuyState where
  up        : Bool := false
  epoch     : Nat := 0
  fseq      : Nat := 0
  /-- RX_TIME and RX_FSEQ of the last partner frame. -/
  rxTime    : Nanos := 0
  rxFseq    : Nat := 0
  /-- GL_ERR. -/
  err       : Nat := 0
  /-- Credits held for sending messages and credits to be returned (R368). -/
  credits   : Nat := 8
  owed      : Nat := 0
  out       : List OutMsg := []
  nextMsg   : Nat := 0
  /-- MSG_ACK: the sequence of the last segment accepted. -/
  msgAck    : Nat := 0
  /-- The Dorid frame due in the next guy frame (R369). -/
  dorid     : Option (List Byte) := none
  /-- EVENT_T and the request and acknowledgement bits of the next frame (Table 14.7). -/
  eventT    : Nanos := 0
  hoReq     : Bool := false
  hoAck     : Bool := false
  join      : Bool := false
  /-- Messages completed with the ABSENT error at their requester (R368). -/
  absent    : Nat := 0
  /-- FSEQ and TX_TIME of the last frames sent, newest first (R367). -/
  sentTimes : List (Nat × Nanos) := []
  deriving DecidableEq, Repr

/-- One capture item (Table 14.9): type, source, module time and the words after the header and OFFSET. -/
structure CapItem where
  typ    : Nat
  source : Nat
  time   : Nanos
  words  : List W32
  deriving DecidableEq, Repr

/-- One packet of a capture ring (Table 14.8). -/
structure CapPacket where
  pseq   : Nat
  base   : Nanos
  items  : List CapItem
  closed : Bool
  deriving DecidableEq, Repr

/-- One capture ring CAPn (R370-R374). -/
structure CapRing where
  running  : Bool := false
  packets  : List CapPacket := []
  pseq     : Nat := 0
  dropped  : Nat := 0
  /-- The gap pending: time of the first and the last dropped item and their count (R373). -/
  gap      : Option (Nanos × Nanos × Nat) := none
  /-- Items seen of each source since the last one taken (DECIM, R370). -/
  decim    : List Nat := List.replicate 16 0
  deriving DecidableEq, Repr

/-- A segmented USDO transfer under way (R389). -/
structure UsdoTransfer where
  key    : Nat
  write  : Bool
  /-- Bytes received so far (write) or still to be sent (read). -/
  buffer : List Byte
  total  : Nat
  /-- Module time of the last segment. -/
  at_    : Nanos := 0
  deriving DecidableEq, Repr

/-- A frame the module has sent, as its port transmitted it. -/
structure Sent where
  port  : Nat
  frame : TxFrame
  /-- CAN XL format (R344). -/
  xl    : Bool := false
  /-- VID and PCP of the tag on ETH1; VID 0 without one (R348). -/
  vid   : Nat := 0
  pcp   : Nat := 0
  deriving DecidableEq, Repr

/-- The networks of the module. -/
structure Net where
  /-- TXQ0-TXQ15 (R349). -/
  txq       : List TxQueue := List.replicate 16 {}
  /-- Responses that wait in the management plane for room in their queue (R350), oldest first. -/
  waiting   : List TxFrame := []
  /-- The frame last transmitted (FRAME_SENT, CAP_STREAM_SEND). -/
  lastSent  : Option Sent := none
  canA      : CanState := {}
  canB      : CanState := {}
  canC      : CanState := {}
  /-- Receive objects that have held a frame: record number and content (R354). -/
  rx        : List (Nat × RxObject) := []
  /-- RX_LONG (R344). -/
  rxLong    : Nat := 0
  time      : TimeState := {}
  guy       : GuyState := {}
  /-- CAP0-CAP15. -/
  rings     : List CapRing := List.replicate 16 {}
  /-- ETH1 link up (R379). -/
  eth1Up    : Bool := false
  /-- HK_DISCARD, ETH_DISCARD. -/
  hkDiscard  : Nat := 0
  ethDiscard : Nat := 0
  /-- ISO 11783: address claimed on CANC (R346). -/
  isoAddr   : Option Nat := none
  /-- Addresses of 128-247 known to be taken by others. -/
  isoTaken  : List Nat := []
  /-- Heartbeat producers counted as lost: port B?, node (R345); and the module times of the last heartbeats of consumed nodes. -/
  hbLost    : List (Bool × Nat) := []
  hbSeen    : List ((Bool × Nat) × Nanos) := []
  deriving DecidableEq, Repr

/-! ## Object dictionary, sessions and commits (chapter 15) -/

/-- Object settings by key (index * 256 + subindex) as raw little-endian values; sorted by key; an object that is not
listed holds its default. -/
abbrev Settings := List (Nat × Nat)

/-- A session of a path (R390). -/
structure Session where
  /-- 1 expert, 2 service. -/
  level   : Nat
  slot    : Nat
  handle  : W32
  key     : List Byte
  lastUse : Nanos
  deriving DecidableEq, Repr

/-- A challenge issued to a path, awaiting PH (R390, step 2). -/
structure Challenge where
  slot   : Nat
  level  : Nat
  nh     : List Byte
  nm     : List Byte
  handle : W32
  time   : Nanos
  deriving DecidableEq, Repr

/-- A Hokuith response as it was answered (Table 14.10), without its tag. -/
structure HkAnswer where
  opcode  : Nat
  session : Nat
  reqId   : Nat
  items   : Nat
  status  : Nat
  body    : List Byte
  deriving DecidableEq, Repr

/-- What the module keeps per host path (R387, R390-R392, R396). -/
structure PathState where
  session     : Option Session := none
  challenge   : Option Challenge := none
  /-- PM of the last opening (SESS_MODULE_PROOF). -/
  proof       : List Byte := []
  /-- Module times of the failed openings of the last 60 s (R391). -/
  failures    : List Nanos := []
  lockedOut   : Bool := false
  /-- Module time at which the lockout began. -/
  lockedAt    : Nanos := 0
  /-- SHADOW_VIEW (R396). -/
  shadowView  : Bool := false
  /-- INJ_POINT, INJ_ARG, INJ_VALUE, INJ_DURATION of the path (R432). -/
  injPoint    : Nat := 0
  injArg      : Nat := 0
  injValue    : Int := 0
  injDuration : Nat := 0
  /-- Hokuith responses to the last 8 requests with their times (R375), newest first. -/
  cached      : List (HkAnswer × Nanos) := []
  /-- The answer the module gave last on the path: the abort code (0 on success) and the bytes of each item. -/
  last        : List (W32 × List Byte) := []
  /-- The segmented USDO transfer under way (R389). -/
  transfer    : Option UsdoTransfer := none
  deriving DecidableEq, Repr

/-- COMMIT_STATUS.STATE (Table 15.13). -/
inductive CommitState where
  | idle | editing | checking | checked | pending | done | refused | cancelled
  deriving DecidableEq, Repr

/-- The object dictionary: settings in force, the shadow set and the commit machinery (R395-R403). -/
structure ObjDict where
  /-- Values in force that differ from their defaults. -/
  inForce     : Settings := []
  /-- The settings as the beat uses them: read once, at its tick 0 (R13). -/
  inBeat      : Settings := []
  /-- Live writes accepted and not yet in force (R384): key and value, oldest first. -/
  live        : Settings := []
  /-- The shadow set and the path that holds its lock (R395): the objects staged with their values; every other object
  of the set has the value in force. -/
  shadow      : Option Settings := none
  lock        : Option Path := none
  staged      : List Nat := []
  lastStaged  : Nanos := 0
  /-- COMMIT_STATUS: STATE, MODE, PARTNER_MATCH, MISSED, LATE_BEATS, RULE (Table 15.13). -/
  state       : CommitState := .idle
  mode        : Nat := 0
  partnerMatch : Bool := false
  lateBeats   : Nat := 0
  rule        : Nat := 0
  /-- What follows the check under way: 0 nothing, 2-4 the command accepted in EDITING or REFUSED (R397). -/
  after       : Nat := 0
  /-- The set is loading, and it is loaded (R397). -/
  loading     : Bool := false
  loaded      : Bool := false
  /-- COMMIT_TIME of the commit pending (R397). -/
  commitT     : Nanos := 0
  /-- LAST_COMMIT_TIME, SHADOW_ID, PARTNER_SETTINGS_ID (R406). -/
  lastCommit  : Nanos := 0
  shadowId    : W32 := 0
  partnerId   : W32 := 0
  /-- The partner's latest announcement (R402): time and identity. -/
  announced   : Option (Nanos × W32) := none
  /-- This module's own last announced commit time, awaiting the comparison of R403. -/
  compareT    : Option Nanos := none
  /-- Host paths that have been used, in the order of their first use. -/
  paths       : List (Path × PathState) := []
  /-- A commit reached DONE and its set has not been stored yet (R439): module time of DONE. -/
  storeDue    : Option Nanos := none
  /-- Curve point objects written into the set in force (R133): a point counts as written once it has been. -/
  points      : List Nat := []
  deriving DecidableEq, Repr

/-! ## Crossings, epochs, self-test and injections (chapter 16) -/

/-- XING_STATUS[15:14] (Table 16.8). -/
inductive XingPhase where
  | running | holding | timedOut | resync
  deriving DecidableEq, Repr

/-- A word in a crossing (R409): the epoch of the block behind the crossing when it was offered (R410), and its value. -/
structure XWord where
  epoch : Nat
  data  : Nat
  deriving DecidableEq, Repr

/-- One crossing (R408-R413): XING_STATUS. -/
structure Crossing where
  /-- The words held on their way to the clocked side and to the fabric, oldest first: 8 at most in each direction (R409). -/
  toClock  : List XWord := []
  toFabric : List XWord := []
  phase    : XingPhase := .running
  late     : Nat := 0
  timeouts : Nat := 0
  /-- Start of a hold (R412). -/
  since    : Option Nanos := none
  deriving DecidableEq, Repr

/-- One block with an epoch of its own (R415, R416): EPOCH, EPOCH_DISCARD, and whether it is absent. -/
structure Block where
  epoch   : Nat := 0
  discard : Nat := 0
  absent  : Bool := false
  deriving DecidableEq, Repr

/-- One active injection (R427-R429). -/
structure Injection where
  path     : Path
  point    : Nat
  arg      : Nat
  value    : Int
  /-- INJ_DURATION, us; 0 = one evaluation. -/
  duration : Nat
  armedAt  : Nanos
  deriving DecidableEq, Repr

/-- Self-test and error injection (R421-R432). -/
structure SelfTest where
  /-- PASS_STATE: 0 idle, 1 running, 2 overdue, 3 deferred. -/
  passState  : Nat := 0
  lastFail   : Nat := 0
  deferCore  : Bool := false
  deferClock : Bool := false
  deferLogic : Bool := false
  progress   : Nat := 0
  passCount  : Nat := 0
  deferCount : Nat := 0
  skipCount  : Nat := 0
  lastPassT  : Nat := 0
  /-- BIST_FAIL_RECORD: type and target. -/
  failType   : Nat := 0
  failTarget : Nat := 0
  /-- Start of the present or last pass, and the slices it has completed: type and target. -/
  passStart  : Option Nanos := none
  done       : List (Nat × Nat) := []
  /-- Slices still failing: type and target (R426). -/
  failing    : List (Nat × Nat) := []
  /-- The synthesiser is in lock (R290, R425). -/
  synthOk    : Bool := false
  /-- RUN is barred until the failed guy line passes its slice (R424). -/
  guyBar     : Bool := false
  deriving DecidableEq, Repr

/-- Injections and the objects of R432. -/
structure Inject where
  active   : List Injection := []
  /-- The enable groups whose low level an injection made (R428). -/
  lowBy    : List Nat := []
  /-- INJ_STATUS: REAL, REFUSED_S, HITS, POINT; INJ_COUNT. -/
  real     : Bool := false
  refusedS : Bool := false
  hits     : Nat := 0
  point    : Nat := 0
  count    : Nat := 0
  deriving DecidableEq, Repr

/-- Who holds the crypto engine, who waits for it, and who was served last of each rank (Table 16.3, R419): rank 2 is the
attestation, rank 3 the firmware verification. -/
structure CryptoEngine where
  holder  : Option (Nat × Nat) := none
  waiting : List (Nat × Nat) := []
  served  : List (Nat × Nat) := []
  deriving DecidableEq, Repr

/-- Crossings, blocks and contention. -/
structure Cross where
  /-- XING_STATUS .01-.36 (54 crossings, Table 16.1). -/
  xing     : List Crossing := List.replicate 54 {}
  /-- EPOCH and EPOCH_DISCARD .01-.4C (76 blocks). -/
  blocks   : List Block := List.replicate 76 {}
  /-- RETRY_COUNT .01-.18 (24 resources). -/
  retry    : List Nat := List.replicate 24 0
  crypto   : CryptoEngine := {}
  /-- LATE_MISC (R417). -/
  lateMisc : Nat := 0
  /-- The timebase has stopped: warp frames have stopped with it (R414); module time at which it last ran again. -/
  timebaseStopped : Bool := false
  runsAgain : Nanos := 0
  deriving DecidableEq, Repr

/-! ## Start-up, persistence and firmware (chapter 17) -/

/-- One firmware bank: the chunks of 1,024 bytes written since it was erased, by number (R448, R451); a bank that has not
been erased since the module was shipped holds the factory firmware (R7). -/
structure Bank where
  factory : Bool := true
  chunks : List (Nat × List Byte) := []
  deriving DecidableEq, Repr

/-- FW_STATE (Table 17.13). -/
inductive FwState where
  | idle | erasing | receiving | verifying | verified | selected | failed
  deriving DecidableEq, Repr

/-- A copy of the bank record (R450). -/
structure BankRecord where
  seq     : Nat := 0
  active  : Bool := false
  next    : Option Bool := none
  started : Bool := false
  deriving DecidableEq, Repr

/-- Firmware banks, the bank record and the update (R448-R451). -/
structure Firmware where
  bank0    : Bank := {}
  bank1    : Bank := {}
  /-- The two copies of the bank record in flash (R450). -/
  rec0     : BankRecord := {}
  rec1     : BankRecord := {}
  /-- The bank record: ACTIVE, NEXT, TRIAL_STARTED (R450). -/
  active   : Bool := false
  next     : Option Bool := none
  trialStarted : Bool := false
  /-- The bank running (FW_STATUS.ACTIVE_BANK) and TRIAL. -/
  running  : Bool := false
  trial    : Bool := false
  state    : FwState := .idle
  result   : Nat := 0
  /-- Chunks written in this update (CHUNKS). -/
  written  : List Nat := []
  /-- The write buffer: up to 16 chunks answered and not yet in the flash (R451). -/
  buffer   : List (Nat × List Byte) := []
  deriving DecidableEq, Repr

/-- A settings copy or a set of stored values: sequence number, entries, and whether its CRC matches (R439). -/
structure StoreCopy where
  seq     : Nat := 0
  entries : List (Nat × Nat) := []
  valid   : Bool := false
  deriving DecidableEq, Repr

/-- What the flash diagnostic store holds (R72, R174, R265, R438, R439). -/
structure Flash where
  copy0    : StoreCopy := {}
  copy1    : StoreCopy := {}
  /-- Die map: gate channels marked disabled, with the cause (R72). -/
  dieMap   : List (Nat × Nat) := []
  /-- The copy of CAL_OFFSET and CAL_GAIN per channel (R173, R174). -/
  offsets  : List (Nat × Int) := []
  gains    : List (Nat × Nat) := []
  deriving DecidableEq, Repr

/-- Start-up and attestation (R433-R453). -/
structure Boot where
  /-- Milestones of Table 17.1 reached in this start. -/
  otpDone   : Bool := false
  synthLocked : Bool := false
  trained   : Bool := false
  scPassed  : Bool := false
  bankRuns  : Bool := false
  fwStarted : Bool := false
  /-- BOOT_RECORD fields (Table 17.12). -/
  trialRun  : Bool := false
  trialFail : Bool := false
  bankFallback : Bool := false
  storeDefaults : Bool := false
  storeOld  : Bool := false
  recordFallback : Bool := false
  noRecord  : Bool := false
  idFail    : Bool := false
  untrained : Nat := 0
  standbyT  : Nat := 0
  /-- ID_STATUS and STORE_SEQ. -/
  idStatus  : Nat := 0
  storeSeq  : Nat := 0
  /-- ATTEST_STATUS, the nonce under signing and the quote ready (R453). -/
  attest    : Nat := 0
  nonce     : List Byte := []
  latched   : List Byte := []
  quote     : List Byte := []
  /-- No bank verified: only the objects 0x9000-0x90FF and MODULE_STATUS are served (R450). -/
  noBank    : Bool := false
  deriving DecidableEq, Repr

/-! ## The one-time-programmable store (R443) -/

/-- A commissioning record slot (R444): whether any byte is burned, INVALID, the image and its header values. -/
structure OtpRecord where
  used    : Bool := false
  invalid : Bool := false
  /-- The digest, the text and the generation match (R444). -/
  intact  : Bool := false
  image   : List (Nat × Nat) := []
  check   : W32 := 0
  pairPos : Nat := 0
  tool    : Nat := 0
  fw      : W32 := 0
  time    : Nanos := 0
  deriving DecidableEq, Repr

/-- The OTP store (R443-R447): key area, anti-rollback fuses, firmware key revocation and commissioning records. The
factory area is Config (it is locked at production). -/
structure Otp where
  /-- Session key slots 0-3: 256 bits each. -/
  keys      : List (BitVec 256) := [0, 0, 0, 0]
  /-- Slot k provisioned, slot k revoked. -/
  provisioned : BitVec 4 := 0
  revoked   : BitVec 4 := 0
  /-- Anti-rollback fuses 0-127. -/
  fuses     : BitVec 128 := 0
  /-- Firmware keys revoked. -/
  fwRevoked : BitVec 2 := 0
  /-- Generations 1-8. -/
  records   : List OtpRecord := List.replicate 8 {}
  deriving DecidableEq, Repr

/-! ## The whole machine -/

/-- Conditions whose duration a rule judges; each is looked at at the latch of every beat. -/
inductive Watch where
  | linkDisagree
  | isum (p : PortId)
  | linkUv
  | linkOv
  | linkDisch
  | linkTrip
  | bus54Ov
  | bus54Uv
  | fcDev (n : Nat)
  | convShed
  | auxShed
  | batauxOc
  | grid (c : GridCheck)
  | gridAccept
  | chargeEnd
  | tbatLost
  | bchgRestart
  | bchgNoCurrent
  | batauxGone
  | batauxBack
  | readyLow
  | pairOkLow
  | npWarn
  | npHigh
  | idif (p : PortId)
  | diverge (p : PortId)
  | dwell (p : PortId)
  | twPlaus (n : Nat)
  | actStall (n : Nat)
  | burden (n : Nat)
  deriving DecidableEq, Repr

/-- Everything the block holds beside the OTP store and the command queue. -/
structure Device where
  ctl    : ModuleCtl := {}
  faults : FaultMgr := {}
  gates  : Gates := {}
  portA  : Port := {}
  portB  : Port := {}
  fin    : FreqInput := {}
  wheels : List Wheel := List.replicate 4 {}
  meas   : Meas := {}
  /-- CS00-CS31. -/
  slots  : List Slot := List.replicate 32 {}
  supply : Supply := {}
  chg    : Charge := {}
  bchg   : BackupCharger := {}
  lamps  : Lamps := {}
  /-- ACT0-ACT3. -/
  acts   : List Actuator := List.replicate 4 {}
  therm  : Thermal := {}
  safety : Safety := {}
  /-- Connections 0-255. -/
  dorid  : List DoridConn := List.replicate 256 {}
  comm   : Comm := {}
  net    : Net := {}
  od     : ObjDict := {}
  cross  : Cross := {}
  bist   : SelfTest := {}
  inj    : Inject := {}
  boot   : Boot := {}
  fw     : Firmware := {}
  flash  : Flash := {}
  /-- The conditions that hold, each with the module time since which it has held. -/
  watch  : List (Watch × Nanos) := []
  /-- The model's own counter behind the free values (log entry 3): each free value is Config applied to it. -/
  fresh  : Nat := 0
  deriving DecidableEq, Repr

/-- The state of the block: the waiting commands, first in, first out; the OTP store; everything else. -/
structure State where
  pending : List Instr := []
  otp     : Otp := {}
  dev     : Device := {}
  deriving DecidableEq, Repr

/-- Faults of the model: the spec gives every command an effect, so no meaning stops with one (an access fault, a
stuck state and a race do not arise); the type has no constructor. -/
inductive Fault where
  deriving DecidableEq, Repr

/-- Refusals of the model. -/
inductive Refusal where
  /-- Raised by exec alone, for a command whose meaning has not been written yet; safe (the model stops). -/
  | notModelled (mnemonic : String)
  deriving DecidableEq, Repr

/-- The module right after reset: entry to BOOT with module time 0 (R433), every field at the value the spec gives it,
or at the value log entry 2 names where the spec gives none. -/
def State.reset : State := {}

end Sys2Proof.Machine
end

