-- ==== Sys2Proof/Machine/ObjectTable.lean ====
section
/-!
DEFINITION. The object dictionary as a table (chapter 15): one row per object of the spec's object tables, with its
index and subindex range, type, access, levels, range and default; and the defaults that vary over a range.
-/

namespace Sys2Proof.Machine

/-- Object types (R383). -/
inductive ObjType where
  | bool
  | int (bytes : Nat)
  | uint (bytes : Nat)
  | real
  | octets (len : Nat)
  deriving DecidableEq, Repr

/-- Access (R384). -/
inductive ObjAccess where
  | ro | wo | rw | rws
  deriving DecidableEq, Repr

/-- Access levels (R385): basic, expert, safety (commissioning), service. -/
inductive ObjLevel where
  | b | e | s | v
  deriving DecidableEq, Repr

/-- Ranges of object values (R386 step 6): as the "Meaning" column gives them. -/
inductive ObjRange where
  | any
  | between (lo hi : Int)
  | real (lo hi : Rat)
  | oneOf (vs : List Nat)
  | zeroOr (lo hi : Nat)
  | upToOr (hi v : Nat)
  | trim
  | mantissa
  | positive
  deriving DecidableEq, Repr

/-- Default of an object: one value, one per subindex, or a table of the spec by its number. -/
inductive ObjDefault where
  | const (v : Nat)
  | list (vs : List Nat)
  | fn (code : Nat)
  deriving DecidableEq, Repr

/-- One row: indexes ix, ix + step, … (nIx of them), subindexes sub … sub + nSub - 1. -/
structure ObjRow where
  ix : Nat
  nIx : Nat
  step : Nat
  sub : Nat
  nSub : Nat
  ty : ObjType
  acc : ObjAccess
  rd : ObjLevel
  wr : ObjLevel
  rng : ObjRange
  dflt : ObjDefault
  deriving DecidableEq, Repr

/-! ## Numbers of objects -/

/-- The binary32 encoding of an integer below 2^24 in magnitude (exact). -/
def realOfInt (v : Int) : Nat :=
  let n := v.natAbs
  if n = 0 then 0 else
    let e := Nat.log2 n
    (if v < 0 then 0x80000000 else 0) + (127 + e) * 0x800000 + (n * 2 ^ (23 - e) - 0x800000)

/-- The value of a binary32 encoding (R383); the encodings of infinities and NaN never enter a setting. -/
def realOfBits (b : Nat) : Rat :=
  let s : Rat := if b / 0x80000000 % 2 = 1 then -1 else 1
  let e := b / 0x800000 % 256
  let m := b % 0x800000
  if e = 0 then s * m / (2 ^ 149 : Nat)
  else if 150 ≤ e then s * ((m + 0x800000) * 2 ^ (e - 150) : Nat)
  else s * ((m + 0x800000 : Nat) : Rat) / ((2 ^ (150 - e) : Nat) : Rat)

/-- Two's complement of n bits read as an integer. -/
def toSigned (n v : Nat) : Int := if v % 2 ^ n < 2 ^ (n - 1) then (v % 2 ^ n : Nat) else (v % 2 ^ n : Nat) - (2 ^ n : Nat)

/-- An integer as n bits of two's complement. -/
def ofSigned (n : Nat) (v : Int) : Nat := (v % (2 ^ n : Nat)).toNat

/-! ## Defaults that vary -/

/-- Defaults "HV / LV" of Tables 2.3 and 2.6: stage groups 0-4 are high voltage, 5-7 low voltage (Table 2.14). -/
def dHvLv (hv lv sg : Nat) : Nat := if sg ≤ 4 then hv else lv

/-- Row of Table 3.4 as pairs NPB = 0, NPB = 1. -/
def draftRow (fl : Bool) (tl : Int) : List (Nat × Nat) :=
  match fl, tl with
  | true, 2 => [(24,24),(15,15),(6,6),(7,7),(8,8),(5,5),(2,2),(11,11),(20,20),(19,19),(18,18),(21,21)]
  | true, 1 => [(25,12),(25,12),(16,3),(16,3),(17,4),(17,4),(14,1),(14,1),(23,10),(23,10),(22,9),(22,9)]
  | true, -1 => [(23,10),(22,9),(22,9),(25,12),(25,12),(16,3),(16,3),(17,4),(17,4),(14,1),(14,1),(23,10)]
  | true, -2 => [(20,20),(19,19),(18,18),(21,21),(24,24),(15,15),(6,6),(7,7),(8,8),(5,5),(2,2),(11,11)]
  | false, 2 => [(6,6),(7,7),(8,8),(5,5),(2,2),(11,11),(20,20),(19,19),(18,18),(21,21),(24,24),(15,15)]
  | false, 1 => [(16,3),(17,4),(17,4),(14,1),(14,1),(23,10),(23,10),(22,9),(22,9),(25,12),(25,12),(16,3)]
  | false, -1 => [(14,1),(14,1),(23,10),(23,10),(22,9),(22,9),(25,12),(25,12),(16,3),(16,3),(17,4),(17,4)]
  | false, -2 => [(2,2),(11,11),(20,20),(19,19),(18,18),(21,21),(24,24),(15,15),(6,6),(7,7),(8,8),(5,5)]
  | _, _ => List.replicate 12 (13, 13)

/-- DRAFT_TABLE entry at subindex i + 1 (R91, Table 3.4): i = 24 × row + 2 × k + NPB, row = 5 × fi + ti. -/
def dDraft (i : Nat) : Nat :=
  let row := i / 24
  let cell := (draftRow (row / 5 == 0) (2 - (row % 5 : Nat))).getD (i % 24 / 2) (13, 13)
  if i % 2 = 0 then cell.1 else cell.2

/-- CURVE_X and CURVE_Y: -10,000, 10,000, then 0. -/
def dCurve (i : Nat) : Nat := if i = 0 then realOfInt (-10000) else if i = 1 then realOfInt 10000 else 0

/-- Range of a channel in its unit (Table 6.1); M37-M40 at the default AIN_RANGE. -/
def chanRangeDefault (m : Nat) : Rat :=
  if m ≤ 5 then 1200 else if m ≤ 7 then 2000 else if m = 8 then 1000 else if m ≤ 11 then 800 else if m ≤ 13 then 2000
  else if m ≤ 16 then 1000 else if m ≤ 19 then 600 else if m ≤ 21 then 1200 else if m = 22 then 100
  else if m = 23 then 80 else if m = 24 then 400 else if m = 25 then 40 else if m = 26 then 600
  else if m = 27 then 40 else if m = 28 then 100 else if m ≤ 32 then 2000 else if m ≤ 36 then 100
  else if m ≤ 40 then 25 / 2 else if m ≤ 43 then 100 else if m = 44 then 40 else 100

/-- Direct-trip threshold of a channel, if it has one by default (Table 6.1). -/
def tripDefault (m : Nat) : Option Nat :=
  if m ≤ 5 then some 850 else if 9 ≤ m ∧ m ≤ 11 then some 600 else if 17 ≤ m ∧ m ≤ 19 then some 480 else none

/-- Comparator defaults (R161): trip thresholds, otherwise plus and minus the range, 50 A hysteresis on trip channels. -/
def dCompHi (m : Nat) : Nat :=
  match tripDefault m with
  | some a => realOfInt a
  | none => if 37 ≤ m ∧ m ≤ 40 then 0x41480000 else realOfInt (chanRangeDefault m).num
def dCompLo (m : Nat) : Nat := dCompHi m + 0x80000000
def dCompHys (m : Nat) : Nat := if (tripDefault m).isSome then realOfInt 50 else 0
def dCompAction (m : Nat) : Nat := if (tripDefault m).isSome then 3 else 0

/-- Table 7.3: FORM, PERIOD, SAMPLE_TICK and LATENCY of the firmware slots; expert slots FORM 0, then the defaults of
Table 7.6. -/
def dSlotForm (k : Nat) : Nat :=
  if k ≤ 1 then 1 else if k = 2 then 2 else if k = 3 then 1 else if k ≤ 8 then 2 else if k ≤ 10 then 1
  else if k ≤ 12 then 2 else if k ≤ 23 then 1 else 0
def dSlotPeriod (k : Nat) : Nat :=
  if k ≤ 1 then 50 else if k ≤ 3 then 10 else if k ≤ 6 then 5 else if k ≤ 8 then 10 else if k = 9 then 50
  else if k = 10 then 1000 else if k ≤ 12 then 5 else if k ≤ 14 then 50 else if k = 15 then 1000
  else if k ≤ 19 then 20 else if k ≤ 23 then 200 else 10
def dSlotTick (k : Nat) : Nat :=
  if k ≤ 1 then 20 else if k ≤ 3 then 40 else if k ≤ 6 then 60 else if k ≤ 8 then 80 else if k ≤ 10 then 120
  else if k = 11 then 100 else if k ≤ 13 then 160 else if k ≤ 15 then 180 else if k ≤ 23 then 40 else 0
def dSlotLat (k : Nat) : Nat := if k ≤ 1 then 80 else 60

/-- Table 10.2: roles and end masks of ACT0-ACT3. -/
def dActRole (n : Nat) : Nat := n + 1
def dEndMask (n : Nat) : Nat := (if n ≤ 1 then 5 else 3) * 256

/-- Table 14.3: port and priority of each queue, queue of each class. -/
def dTxqPort (q : Nat) : Nat :=
  if q ≤ 3 then 0 else if q ≤ 6 then 1 else if q = 7 then 2 else if q ≤ 9 then 3 else 0xFF
def dTxqPrio (q : Nat) : Nat := if q = 8 then 0 else if q = 9 then 1 else 7
def dClassQ (c : Nat) : Nat := [0, 1, 4, 8, 1, 4, 3, 6, 3, 6, 2, 5, 7, 9].getD c 0

/-- PDO communication defaults of CiA 301 at node-ID 16 (log entry 7): COB-ID of PDO 1-4, the rest not valid; type
255. -/
def dRpdo (j i : Nat) : Nat := if i = 1 then 255 else if j ≤ 3 then 0x210 + 0x100 * j else 0x80000000
def dTpdo (j i : Nat) : Nat := if i = 1 then 255 else if j ≤ 3 then 0x190 + 0x100 * j else 0x80000000

/-- The varying defaults by their number: index position j, subindex position i. -/
def dfltFn (code j i : Nat) : Nat :=
  match code with
  | 1 => dHvLv 24 12 j
  | 2 => dHvLv 8 3 j
  | 3 => dHvLv 6 6 j
  | 4 => dHvLv 7 3 j
  | 5 => dHvLv 40 24 j
  | 6 => dHvLv 18 6 j
  | 7 => dHvLv 16 10 j
  | 8 => dHvLv 16 8 j
  | 9 => dHvLv 4 2 j
  | 10 => dHvLv 10 4 j
  | 11 => dDraft i
  | 12 => dCurve i
  | 13 => dCompHi i
  | 14 => dCompLo i
  | 15 => dCompHys i
  | 16 => dCompAction i
  | 17 => dSlotForm j
  | 18 => dSlotPeriod j
  | 19 => dSlotTick j
  | 20 => dSlotLat j
  | 21 => dActRole j
  | 22 => dEndMask j
  | 23 => dTxqPort i
  | 24 => dTxqPrio i
  | 25 => dClassQ i
  | 26 => dRpdo j i
  | 27 => dTpdo j i
  | _ => 0

/-- The objects of chapter 01 (its object tables, R40). -/
def objRows01 : List ObjRow := [
  ⟨0x2000, 1, 0x1, 0x1, 1, (.uint 1), .wo, .b, .b, .any, (.const 0x0)⟩,
  ⟨0x2000, 1, 0x1, 0x2, 1, (.uint 1), .rws, .e, .s, (.between 0 2), (.const 0x0)⟩,
  ⟨0x5000, 1, 0x1, 0x1, 1, (.uint 4), .ro, .b, .b, .any, (.const 0x0)⟩,
  ⟨0x5000, 1, 0x1, 0x2, 1, (.uint 2), .ro, .b, .b, .any, (.const 0x0)⟩,
  ⟨0x5000, 1, 0x1, 0x3, 1, (.uint 4), .ro, .e, .e, .any, (.const 0x0)⟩,
  ⟨0x5000, 1, 0x1, 0x4, 1, (.uint 4), .ro, .e, .e, .any, (.const 0x0)⟩,
  ⟨0x5000, 1, 0x1, 0x5, 1, (.uint 4), .ro, .e, .e, .any, (.const 0x0)⟩,
  ⟨0x5000, 1, 0x1, 0x6, 1, (.uint 2), .ro, .e, .e, .any, (.const 0x0)⟩]

/-- The objects of chapter 02 (its object tables, R74). -/
def objRows02 : List ObjRow := [
  ⟨0x2200, 1, 0x1, 0x1, 8, (.uint 1), .rws, .b, .b, (.between 0 2), (.const 0x1)⟩,
  ⟨0x2200, 1, 0x1, 0x9, 1, .bool, .rws, .b, .b, .any, (.const 0x1)⟩,
  ⟨0x3200, 5, 0x1, 0x1, 1, (.uint 1), .rws, .e, .e, (.between 1 12), (.const 0x6)⟩,
  ⟨0x3205, 3, 0x1, 0x1, 1, (.uint 1), .rws, .e, .e, (.between 1 8), (.const 0x4)⟩,
  ⟨0x3200, 8, 0x1, 0x2, 1, (.uint 1), .rws, .e, .e, (.between 0 255), (.fn 1)⟩,
  ⟨0x3200, 8, 0x1, 0x3, 1, (.uint 1), .rws, .e, .e, (.between 0 15), (.const 0x6)⟩,
  ⟨0x3200, 8, 0x1, 0x4, 1, (.uint 1), .rws, .e, .e, (.between 1 16), (.fn 2)⟩,
  ⟨0x3200, 5, 0x1, 0x5, 1, (.uint 1), .rws, .e, .e, (.between 1 12), (.const 0x6)⟩,
  ⟨0x3205, 3, 0x1, 0x5, 1, (.uint 1), .rws, .e, .e, (.between 1 8), (.const 0x4)⟩,
  ⟨0x3200, 8, 0x1, 0x6, 1, (.uint 1), .rws, .e, .e, (.between 0 255), (.fn 1)⟩,
  ⟨0x3200, 8, 0x1, 0x7, 1, (.uint 1), .rws, .e, .e, (.between 0 15), (.fn 3)⟩,
  ⟨0x3200, 8, 0x1, 0x8, 1, (.uint 1), .rws, .e, .e, (.between 1 16), (.fn 4)⟩,
  ⟨0x3200, 8, 0x1, 0x9, 1, (.uint 1), .rws, .e, .e, (.between 10 200), (.fn 5)⟩,
  ⟨0x3200, 8, 0x1, 0xa, 1, (.uint 1), .rws, .e, .e, (.between 4 31), (.fn 6)⟩,
  ⟨0x3200, 8, 0x1, 0xb, 1, (.uint 1), .rws, .e, .e, (.between 10 24), (.fn 7)⟩,
  ⟨0x3200, 8, 0x1, 0xc, 1, (.uint 1), .rws, .e, .e, (.between 4 32), (.fn 8)⟩,
  ⟨0x3200, 8, 0x1, 0xd, 1, (.uint 1), .rws, .e, .e, (.between 2 10), (.fn 9)⟩,
  ⟨0x3200, 8, 0x1, 0xe, 1, (.uint 1), .rws, .e, .e, (.between 16 24), (.const 0x14)⟩,
  ⟨0x3200, 8, 0x1, 0xf, 1, (.uint 1), .rws, .e, .e, (.between 4 20), (.fn 10)⟩,
  ⟨0x3200, 8, 0x1, 0x10, 1, .bool, .rws, .e, .e, .any, (.const 0x0)⟩,
  ⟨0x3210, 1, 0x1, 0x1, 1, (.uint 1), .rws, .e, .e, (.between 0 2), (.const 0x0)⟩,
  ⟨0x3210, 1, 0x1, 0x2, 1, (.uint 1), .rws, .e, .e, (.between 1 20), (.const 0x4)⟩,
  ⟨0x3210, 1, 0x1, 0x3, 1, (.uint 2), .rws, .e, .e, (.between 1 600), (.const 0xa)⟩,
  ⟨0x3211, 4, 0x1, 0x1, 128, (.uint 2), .rws, .e, .e, .trim, (.const 0x0)⟩,
  ⟨0x5200, 1, 0x1, 0x1, 64, (.uint 4), .ro, .b, .b, .any, (.const 0x0)⟩,
  ⟨0x5201, 1, 0x1, 0x1, 8, (.uint 4), .ro, .b, .b, .any, (.const 0x0)⟩,
  ⟨0x5202, 1, 0x1, 0x1, 1, (.uint 4), .ro, .e, .e, .any, (.const 0x0)⟩,
  ⟨0x5210, 4, 0x1, 0x1, 128, (.uint 4), .ro, .b, .b, .any, (.const 0x0)⟩,
  ⟨0x8200, 1, 0x1, 0x1, 1, (.uint 1), .wo, .v, .v, .any, (.const 0x0)⟩,
  ⟨0x8200, 1, 0x1, 0x2, 1, (.uint 2), .ro, .v, .v, .any, (.const 0x0)⟩,
  ⟨0x8200, 1, 0x1, 0x3, 1, (.uint 1), .ro, .v, .v, .any, (.const 0x0)⟩]

/-- The objects of chapter 03 (its object tables, R107). -/
def objRows03 : List ObjRow := [
  ⟨0x6100, 2, 0x800, 0x1, 1, (.uint 1), .rws, .b, .b, (.between 0 2), (.const 0x0)⟩,
  ⟨0x6100, 2, 0x800, 0x2, 1, (.uint 1), .rws, .b, .b, (.between 1 32), (.const 0x4)⟩,
  ⟨0x6100, 2, 0x800, 0x3, 1, .real, .rws, .b, .b, .any, (.const 0x0)⟩,
  ⟨0x6100, 2, 0x800, 0x4, 1, .real, .rws, .b, .b, .any, (.const 0x0)⟩,
  ⟨0x6100, 2, 0x800, 0x5, 1, .real, .rws, .b, .b, .any, (.const 0x0)⟩,
  ⟨0x6100, 2, 0x800, 0x6, 1, .real, .rws, .b, .b, .any, (.const 0x0)⟩,
  ⟨0x6100, 2, 0x800, 0x7, 1, .real, .rws, .b, .b, .any, (.const 0x0)⟩,
  ⟨0x6100, 2, 0x800, 0x8, 1, .real, .rws, .b, .b, .any, (.const 0x0)⟩,
  ⟨0x6100, 2, 0x800, 0x9, 1, .real, .rws, .b, .b, .any, (.const 0x0)⟩,
  ⟨0x6100, 2, 0x800, 0xa, 1, .real, .rws, .b, .b, .any, (.const 0x0)⟩,
  ⟨0x6100, 2, 0x800, 0xb, 1, .real, .rws, .b, .b, .any, (.const 0x0)⟩,
  ⟨0x6100, 2, 0x800, 0xc, 1, .real, .rws, .b, .b, .any, (.const 0x0)⟩,
  ⟨0x6100, 2, 0x800, 0xd, 1, .real, .rws, .b, .b, .any, (.const 0x0)⟩,
  ⟨0x6100, 2, 0x800, 0xe, 1, (.uint 1), .rws, .b, .b, (.between 0 2), (.const 0x1)⟩,
  ⟨0x6100, 2, 0x800, 0xf, 1, (.uint 1), .rws, .b, .b, (.between 8 48), (.const 0x18)⟩,
  ⟨0x6100, 2, 0x800, 0x10, 1, (.uint 1), .rws, .b, .b, (.between 0 4), (.const 0x0)⟩,
  ⟨0x6100, 2, 0x800, 0x11, 1, (.uint 1), .rws, .b, .b, (.between 0 4), (.const 0x0)⟩,
  ⟨0x6110, 2, 0x800, 0x1, 1, .bool, .rws, .e, .e, .any, (.const 0x0)⟩,
  ⟨0x6110, 2, 0x800, 0x2, 1, (.uint 2), .rws, .e, .e, (.between 50 1000), (.const 0xc8)⟩,
  ⟨0x6110, 2, 0x800, 0x3, 1, (.uint 2), .rws, .e, .e, (.between 100 2500), (.const 0x258)⟩,
  ⟨0x6110, 2, 0x800, 0x4, 1, (.uint 2), .rws, .e, .e, (.between 20 500), (.const 0x64)⟩,
  ⟨0x6110, 2, 0x800, 0x5, 1, (.uint 1), .rws, .e, .e, (.between 0 30), (.const 0x5)⟩,
  ⟨0x6110, 2, 0x800, 0x6, 1, (.uint 1), .rws, .e, .e, (.between 1 20), (.const 0x2)⟩,
  ⟨0x6110, 2, 0x800, 0x7, 1, (.uint 1), .rws, .e, .e, (.between 1 50), (.const 0x5)⟩,
  ⟨0x6110, 2, 0x800, 0x8, 1, (.uint 2), .rws, .e, .e, (.between 50 300), (.const 0x96)⟩,
  ⟨0x6110, 2, 0x800, 0x9, 1, .real, .rws, .e, .e, (.real (1/2) 100), (.const 0x41200000)⟩,
  ⟨0x6110, 2, 0x800, 0xa, 1, (.uint 2), .rws, .e, .e, (.between 0 5000), (.const 0x5dc)⟩,
  ⟨0x6110, 2, 0x800, 0xb, 1, (.uint 1), .rws, .e, .e, (.between 80 100), (.const 0x61)⟩,
  ⟨0x6110, 2, 0x800, 0xc, 1, (.uint 1), .rws, .e, .e, (.between 70 99), (.const 0x5d)⟩,
  ⟨0x6110, 2, 0x800, 0xd, 1, (.uint 2), .rws, .e, .e, (.between 10 2000), (.const 0xc8)⟩,
  ⟨0x6110, 2, 0x800, 0xe, 1, (.uint 1), .rws, .e, .e, (.between 2 40), (.const 0x8)⟩,
  ⟨0x6120, 2, 0x800, 0x1, 1, (.uint 1), .rws, .e, .e, (.between 0 1), (.const 0x0)⟩,
  ⟨0x6120, 2, 0x800, 0x2, 1, .real, .rws, .e, .e, .any, (.const 0x0)⟩,
  ⟨0x6120, 2, 0x800, 0x3, 1, (.uint 1), .rws, .e, .e, (.between 0 128), (.const 0x40)⟩,
  ⟨0x6120, 2, 0x800, 0x4, 1, (.uint 1), .rws, .e, .e, (.between 20 200), (.const 0x5a)⟩,
  ⟨0x6140, 2, 0x800, 0x1, 1, (.uint 4), .ro, .b, .b, .any, (.const 0x0)⟩,
  ⟨0x6140, 2, 0x800, 0x2, 1, .real, .ro, .b, .b, .any, (.const 0x0)⟩,
  ⟨0x6140, 2, 0x800, 0x3, 1, .real, .ro, .b, .b, .any, (.const 0x0)⟩,
  ⟨0x6140, 2, 0x800, 0x4, 1, .real, .ro, .e, .e, .any, (.const 0x0)⟩,
  ⟨0x6140, 2, 0x800, 0x5, 1, .real, .ro, .b, .b, .any, (.const 0x0)⟩,
  ⟨0x6140, 2, 0x800, 0x6, 1, .real, .ro, .e, .e, .any, (.const 0x0)⟩,
  ⟨0x6140, 2, 0x800, 0x7, 1, (.uint 1), .ro, .e, .e, .any, (.const 0x40)⟩,
  ⟨0x6140, 2, 0x800, 0x8, 1, (.uint 1), .ro, .e, .e, .any, (.const 0x0)⟩,
  ⟨0x6140, 2, 0x800, 0x9, 1, (.uint 4), .ro, .e, .e, .any, (.const 0x0)⟩,
  ⟨0x6140, 2, 0x800, 0xa, 1, (.uint 1), .ro, .b, .b, .any, (.const 0x0)⟩,
  ⟨0x6140, 2, 0x800, 0xb, 1, .real, .ro, .e, .e, .any, (.const 0x0)⟩,
  ⟨0x6140, 2, 0x800, 0xc, 1, (.uint 1), .ro, .e, .e, .any, (.const 0x0)⟩,
  ⟨0x6180, 2, 0x800, 0x1, 240, (.uint 1), .rws, .b, .e, .any, (.fn 11)⟩,
  ⟨0x6181, 2, 0x800, 0x1, 1, (.uint 1), .wo, .e, .e, .any, (.const 0x0)⟩]

/-- The objects of chapter 04 (its object tables, R133). -/
def objRows04 : List ObjRow := [
  ⟨0x6000, 2, 0x800, 0x1, 1, .bool, .rws, .b, .b, .any, (.const 0x1)⟩,
  ⟨0x6000, 2, 0x800, 0x2, 1, (.uint 1), .rws, .e, .e, (.between 0 1), (.const 0x0)⟩,
  ⟨0x6000, 2, 0x800, 0x3, 1, (.int 1), .rw, .b, .b, (.oneOf [1, 255]), (.const 0x1)⟩,
  ⟨0x6000, 2, 0x800, 0x4, 1, (.uint 1), .rws, .b, .b, (.between 0 1), (.const 0x0)⟩,
  ⟨0x6010, 2, 0x800, 0x1, 1, (.uint 1), .rws, .b, .b, (.between 0 5), (.const 0x0)⟩,
  ⟨0x6010, 2, 0x800, 0x2, 1, (.uint 1), .rws, .b, .b, (.between 2 32), (.const 0x2)⟩,
  ⟨0x6010, 2, 0x800, 0x3, 1, .real, .rws, .b, .b, .any, (.const 0x3f99999a)⟩,
  ⟨0x6010, 2, 0x800, 0x4, 1, .real, .rws, .b, .b, .any, (.const 0x3f666666)⟩,
  ⟨0x6010, 2, 0x800, 0x5, 1, (.uint 2), .rws, .b, .b, (.between 0 1000), (.const 0xa)⟩,
  ⟨0x6010, 2, 0x800, 0x6, 1, .real, .rw, .b, .b, .any, (.const 0x0)⟩,
  ⟨0x6010, 2, 0x800, 0x7, 1, (.uint 2), .rws, .b, .b, (.zeroOr 10 10000), (.const 0x64)⟩,
  ⟨0x6010, 2, 0x800, 0x8, 1, .bool, .rw, .b, .b, .any, (.const 0x0)⟩,
  ⟨0x6011, 2, 0x800, 0x1, 32, .real, .rws, .b, .b, .any, (.fn 12)⟩,
  ⟨0x6012, 2, 0x800, 0x1, 32, .real, .rws, .b, .b, .any, (.fn 12)⟩,
  ⟨0x6020, 2, 0x800, 0x1, 1, .real, .rws, .b, .b, (.real 1 20000), (.const 0x43fa0000)⟩,
  ⟨0x6020, 2, 0x800, 0x2, 1, .real, .rws, .b, .b, (.real 1 20000), (.const 0x43fa0000)⟩,
  ⟨0x6020, 2, 0x800, 0x3, 1, .real, .rws, .b, .b, (.real 1 20000), (.const 0x43fa0000)⟩,
  ⟨0x6020, 2, 0x800, 0x4, 1, .real, .rws, .b, .b, (.real 1 20000), (.const 0x453b8000)⟩,
  ⟨0x6020, 2, 0x800, 0x5, 1, (.uint 2), .rws, .b, .b, (.between 0 1500), (.const 0x3e8)⟩,
  ⟨0x6020, 2, 0x800, 0x6, 1, (.uint 2), .rws, .b, .b, (.between 0 1500), (.const 0x3e8)⟩,
  ⟨0x6020, 2, 0x800, 0x7, 1, .real, .rws, .b, .b, .positive, (.const 0x41200000)⟩,
  ⟨0x6020, 2, 0x800, 0x8, 1, .real, .rws, .b, .b, (.real 1 10000), (.const 0x42c80000)⟩,
  ⟨0x6021, 2, 0x800, 0x1, 1, .bool, .rws, .e, .e, .any, (.const 0x0)⟩,
  ⟨0x6021, 2, 0x800, 0x2, 1, .real, .rw, .e, .e, .any, (.const 0x0)⟩,
  ⟨0x6021, 2, 0x800, 0x3, 1, (.uint 2), .rws, .e, .e, (.between 1 1000), (.const 0xa)⟩,
  ⟨0x6021, 2, 0x800, 0x4, 1, .real, .rws, .e, .e, (.real (1/2) 100), (.const 0x40a00000)⟩,
  ⟨0x6021, 2, 0x800, 0x5, 1, (.uint 2), .rws, .e, .e, (.between 1 600), (.const 0x1e)⟩,
  ⟨0x6030, 2, 0x800, 0x1, 1, .real, .rws, .b, .b, .any, (.const 0x0)⟩,
  ⟨0x6030, 2, 0x800, 0x2, 1, (.uint 2), .rws, .b, .b, (.between 900 1600), (.const 0x384)⟩,
  ⟨0x6030, 2, 0x800, 0x3, 1, (.uint 1), .rws, .b, .b, (.between 1 50), (.const 0x5)⟩,
  ⟨0x6031, 2, 0x800, 0x1, 1, (.uint 2), .rws, .e, .e, (.between 5 200), (.const 0x14)⟩,
  ⟨0x6031, 2, 0x800, 0x2, 1, (.uint 2), .rws, .e, .e, (.between 50 10000), (.const 0x1f4)⟩,
  ⟨0x6031, 2, 0x800, 0x3, 1, (.uint 2), .rws, .e, .e, (.between 50 1000), (.const 0xc8)⟩,
  ⟨0x6031, 2, 0x800, 0x4, 1, (.uint 2), .rws, .e, .e, (.between 0 1000), (.const 0x0)⟩,
  ⟨0x6031, 2, 0x800, 0x5, 1, (.uint 1), .rws, .e, .e, (.between 10 90), (.const 0x28)⟩,
  ⟨0x6031, 2, 0x800, 0x6, 1, (.uint 1), .rws, .e, .e, (.between 0 4), (.const 0x0)⟩,
  ⟨0x6031, 2, 0x800, 0x7, 1, (.uint 1), .rws, .e, .e, (.between 0 100), (.const 0x32)⟩,
  ⟨0x6040, 2, 0x800, 0x1, 1, (.uint 4), .ro, .b, .b, .any, (.const 0x0)⟩,
  ⟨0x6040, 2, 0x800, 0x2, 1, .real, .ro, .b, .b, .any, (.const 0x0)⟩,
  ⟨0x6040, 2, 0x800, 0x3, 1, .real, .ro, .b, .b, .any, (.const 0x0)⟩,
  ⟨0x6040, 2, 0x800, 0x4, 1, .real, .ro, .b, .b, .any, (.const 0x0)⟩,
  ⟨0x6040, 2, 0x800, 0x5, 1, .real, .ro, .b, .b, .any, (.const 0x0)⟩,
  ⟨0x6040, 2, 0x800, 0x6, 1, .real, .ro, .b, .b, .any, (.const 0x0)⟩,
  ⟨0x6040, 2, 0x800, 0x7, 1, (.uint 2), .ro, .e, .e, .any, (.const 0x0)⟩,
  ⟨0x6040, 2, 0x800, 0x8, 1, (.uint 2), .ro, .e, .e, .any, (.const 0x0)⟩,
  ⟨0x6040, 2, 0x800, 0x9, 1, .real, .ro, .e, .e, .any, (.const 0x0)⟩]

/-- The objects of chapter 05 (its object tables, R154). -/
def objRows05 : List ObjRow := [
  ⟨0x2500, 4, 0x1, 0x1, 1, (.uint 1), .rws, .b, .b, (.between 0 2), (.const 0x0)⟩,
  ⟨0x2500, 4, 0x1, 0x2, 1, (.uint 2), .rws, .b, .b, (.between 4 360), (.const 0x48)⟩,
  ⟨0x2500, 4, 0x1, 0x3, 1, (.uint 1), .rws, .b, .b, (.between 0 2), (.const 0x0)⟩,
  ⟨0x2500, 4, 0x1, 0x4, 1, (.uint 1), .rws, .b, .b, (.between 1 3), (.const 0x1)⟩,
  ⟨0x2500, 4, 0x1, 0x5, 1, (.uint 1), .rws, .b, .b, (.between 0 2), (.const 0x0)⟩,
  ⟨0x2500, 4, 0x1, 0x6, 1, .real, .rws, .b, .b, (.real (1/100) 100), (.const 0x3f800000)⟩,
  ⟨0x2500, 4, 0x1, 0x7, 1, (.uint 1), .rws, .b, .b, (.between 0 2), (.const 0x1)⟩,
  ⟨0x3500, 4, 0x1, 0x1, 1, (.uint 1), .rws, .e, .e, (.between 1 255), (.const 0x8)⟩,
  ⟨0x3500, 4, 0x1, 0x2, 1, .bool, .rws, .e, .e, .any, (.const 0x0)⟩,
  ⟨0x3500, 4, 0x1, 0x3, 1, (.uint 2), .rws, .e, .e, .any, (.const 0x4b)⟩,
  ⟨0x3500, 4, 0x1, 0x4, 1, (.uint 2), .rws, .e, .e, (.between 5 1000), (.const 0x14)⟩,
  ⟨0x3500, 4, 0x1, 0x5, 1, (.uint 2), .rws, .e, .e, (.between 10 2000), (.const 0xc8)⟩,
  ⟨0x3500, 4, 0x1, 0x6, 1, .bool, .rws, .e, .e, .any, (.const 0x1)⟩,
  ⟨0x3500, 4, 0x1, 0x7, 1, (.uint 1), .rws, .e, .e, (.between 1 64), (.const 0x8)⟩,
  ⟨0x3500, 4, 0x1, 0x8, 1, (.uint 2), .rws, .e, .e, (.between 10 10000), (.const 0x1f4)⟩,
  ⟨0x3500, 4, 0x1, 0x9, 1, (.uint 2), .rws, .e, .e, (.between 0 35999), (.const 0x0)⟩,
  ⟨0x3500, 4, 0x1, 0xa, 1, (.uint 1), .rws, .e, .e, .any, (.const 0x80)⟩,
  ⟨0x3500, 4, 0x1, 0xb, 1, (.uint 1), .rws, .e, .e, (.between 0 50), (.const 0xa)⟩,
  ⟨0x5500, 4, 0x1, 0x1, 1, (.uint 4), .ro, .b, .b, .any, (.const 0x0)⟩,
  ⟨0x5500, 4, 0x1, 0x2, 1, .real, .ro, .b, .b, .any, (.const 0x0)⟩,
  ⟨0x5500, 4, 0x1, 0x3, 1, .real, .ro, .e, .e, .any, (.const 0x0)⟩,
  ⟨0x5500, 4, 0x1, 0x4, 1, (.int 4), .ro, .e, .e, .any, (.const 0x0)⟩,
  ⟨0x5500, 4, 0x1, 0x5, 1, (.uint 8), .ro, .e, .e, .any, (.const 0x0)⟩,
  ⟨0x5500, 4, 0x1, 0x6, 1, (.uint 2), .ro, .e, .e, .any, (.const 0x0)⟩,
  ⟨0x5500, 4, 0x1, 0x7, 1, (.uint 2), .ro, .e, .e, .any, (.const 0x0)⟩,
  ⟨0x5500, 4, 0x1, 0x8, 1, (.uint 2), .ro, .e, .e, .any, (.const 0x0)⟩,
  ⟨0x5500, 4, 0x1, 0x9, 1, (.uint 2), .ro, .e, .e, .any, (.const 0x0)⟩]

/-- The objects of chapter 06 (its object tables, R189). -/
def objRows06 : List ObjRow := [
  ⟨0x2600, 1, 0x1, 0x1, 48, (.uint 1), .rws, .b, .b, (.between 0 6), (.const 0x0)⟩,
  ⟨0x2601, 1, 0x1, 0x1, 1, (.uint 1), .rws, .b, .b, (.between 0 2), (.const 0x1)⟩,
  ⟨0x2601, 1, 0x1, 0x2, 1, (.uint 2), .rws, .b, .b, (.between 20 5000), (.const 0x1f4)⟩,
  ⟨0x2601, 1, 0x1, 0x3, 1, (.uint 2), .rws, .b, .b, (.between 10 2000), (.const 0x96)⟩,
  ⟨0x2602, 1, 0x1, 0x1, 4, (.uint 1), .rws, .b, .b, (.between 0 2), (.const 0x1)⟩,
  ⟨0x3600, 1, 0x1, 0x1, 48, (.uint 1), .rws, .e, .e, (.between 3 5), (.const 0x4)⟩,
  ⟨0x3601, 1, 0x1, 0x1, 48, (.uint 2), .rws, .e, .e, (.between 32 4096), (.const 0x400)⟩,
  ⟨0x3602, 1, 0x1, 0x1, 48, (.uint 2), .rws, .e, .e, (.between 1 1024), (.const 0x1)⟩,
  ⟨0x3603, 1, 0x1, 0x1, 48, .real, .rws, .e, .e, .any, (.const 0x0)⟩,
  ⟨0x3604, 1, 0x1, 0x1, 48, (.uint 2), .rws, .e, .e, (.between 5 500), (.const 0x14)⟩,
  ⟨0x3605, 1, 0x1, 0x1, 48, .bool, .rws, .e, .e, .any, (.const 0x0)⟩,
  ⟨0x3606, 1, 0x1, 0x1, 48, .real, .rws, .e, .e, .any, (.fn 13)⟩,
  ⟨0x3607, 1, 0x1, 0x1, 48, .real, .rws, .e, .e, .any, (.fn 14)⟩,
  ⟨0x3608, 1, 0x1, 0x1, 48, .real, .rws, .e, .e, .any, (.fn 15)⟩,
  ⟨0x3609, 1, 0x1, 0x1, 48, (.uint 1), .rws, .e, .e, (.between 1 16), (.const 0x2)⟩,
  ⟨0x360a, 1, 0x1, 0x1, 48, (.uint 1), .rws, .e, .e, (.between 0 3), (.fn 16)⟩,
  ⟨0x3610, 1, 0x1, 0x1, 1, (.uint 2), .rws, .e, .e, (.between 0 256), (.const 0x10)⟩,
  ⟨0x3610, 1, 0x1, 0x2, 1, (.uint 1), .rws, .e, .e, .any, (.const 0xff)⟩,
  ⟨0x3611, 1, 0x1, 0x1, 1, (.uint 1), .rws, .e, .e, (.between 25 90), (.const 0x4b)⟩,
  ⟨0x3611, 1, 0x1, 0x2, 1, .real, .rws, .e, .e, (.real 5 200), (.const 0x41a00000)⟩,
  ⟨0x3611, 1, 0x1, 0x3, 1, (.uint 1), .rws, .e, .e, (.oneOf [0, 2]), (.const 0x0)⟩,
  ⟨0x3620, 1, 0x1, 0x1, 48, (.int 4), .ro, .e, .e, .any, (.const 0x0)⟩,
  ⟨0x3621, 1, 0x1, 0x1, 48, (.uint 4), .ro, .e, .e, .any, (.const 0x0)⟩,
  ⟨0x5600, 1, 0x1, 0x1, 48, (.uint 4), .ro, .b, .b, .any, (.const 0x0)⟩,
  ⟨0x5601, 1, 0x1, 0x1, 48, (.uint 4), .ro, .b, .b, .any, (.const 0x0)⟩,
  ⟨0x5602, 1, 0x1, 0x1, 48, .real, .ro, .b, .b, .any, (.const 0x0)⟩,
  ⟨0x5603, 1, 0x1, 0x1, 48, (.uint 4), .ro, .b, .b, .any, (.const 0x0)⟩,
  ⟨0x5604, 1, 0x1, 0x1, 8, (.uint 4), .ro, .b, .b, .any, (.const 0x0)⟩,
  ⟨0x5605, 1, 0x1, 0x1, 1, .real, .ro, .b, .b, .any, (.const 0x0)⟩,
  ⟨0x5605, 1, 0x1, 0x2, 1, .real, .ro, .e, .e, .any, (.const 0x0)⟩,
  ⟨0x5605, 1, 0x1, 0x3, 1, (.uint 2), .ro, .b, .b, .any, (.const 0x0)⟩,
  ⟨0x5606, 1, 0x1, 0x1, 1, (.uint 4), .ro, .e, .e, .any, (.const 0x0)⟩,
  ⟨0x5606, 1, 0x1, 0x2, 1, (.uint 4), .ro, .e, .e, .any, (.const 0x0)⟩,
  ⟨0x5606, 1, 0x1, 0x3, 1, (.uint 4), .ro, .e, .e, .any, (.const 0x0)⟩,
  ⟨0x5610, 4, 0x1, 0x1, 128, (.int 2), .ro, .b, .b, .any, (.const 0x8000)⟩,
  ⟨0x8600, 1, 0x1, 0x1, 1, (.uint 1), .wo, .e, .e, .any, (.const 0x0)⟩,
  ⟨0x8600, 1, 0x1, 0x2, 1, (.uint 1), .ro, .e, .e, .any, (.const 0x0)⟩,
  ⟨0x9600, 1, 0x1, 0x1, 48, (.int 4), .ro, .e, .e, .any, (.const 0x0)⟩,
  ⟨0x9601, 1, 0x1, 0x1, 48, (.uint 4), .ro, .e, .e, .any, (.const 0x0)⟩]

/-- The objects of chapter 07 (its object tables, R206). -/
def objRows07 : List ObjRow := [
  ⟨0x3700, 32, 0x1, 0x1, 1, (.uint 1), .rws, .e, .e, (.between 0 2), (.fn 17)⟩,
  ⟨0x3700, 32, 0x1, 0x2, 1, (.uint 2), .rws, .e, .e, (.between 5 65535), (.fn 18)⟩,
  ⟨0x3700, 32, 0x1, 0x3, 1, (.uint 2), .rws, .e, .e, .any, (.const 0x0)⟩,
  ⟨0x3700, 32, 0x1, 0x4, 1, (.uint 1), .rws, .e, .e, (.between 0 199), (.fn 19)⟩,
  ⟨0x3700, 32, 0x1, 0x5, 1, (.uint 2), .rws, .e, .e, (.between 60 1000), (.fn 20)⟩,
  ⟨0x3700, 32, 0x1, 0x6, 1, (.uint 1), .rws, .e, .e, .any, (.const 0x1)⟩,
  ⟨0x3700, 32, 0x1, 0x7, 1, (.uint 1), .rws, .e, .e, .any, (.const 0x0)⟩,
  ⟨0x3700, 32, 0x1, 0x8, 1, (.int 1), .rws, .e, .e, (.between (-32) 6), (.const 0x0)⟩,
  ⟨0x3700, 32, 0x1, 0x9, 4, (.int 4), .rws, .e, .e, .mantissa, (.const 0x0)⟩,
  ⟨0x3700, 32, 0x1, 0xd, 1, (.int 1), .rws, .e, .e, (.between (-32) 6), (.const 0x0)⟩,
  ⟨0x3700, 32, 0x1, 0xe, 3, (.int 4), .rws, .e, .e, .mantissa, (.const 0x0)⟩,
  ⟨0x3700, 32, 0x1, 0x11, 1, (.int 4), .rws, .e, .e, .mantissa, (.const 0x7fffff)⟩,
  ⟨0x3700, 32, 0x1, 0x12, 1, (.int 4), .rws, .e, .e, .mantissa, (.const 0xff800000)⟩,
  ⟨0x3700, 32, 0x1, 0x13, 1, (.uint 1), .rws, .e, .e, (.between 0 1), (.const 0x0)⟩,
  ⟨0x3700, 32, 0x1, 0x14, 1, (.uint 1), .rws, .e, .e, (.between 0 2), (.const 0x0)⟩,
  ⟨0x3700, 32, 0x1, 0x15, 1, (.int 4), .rws, .e, .e, .mantissa, (.const 0x0)⟩,
  ⟨0x3700, 32, 0x1, 0x16, 1, (.uint 1), .rws, .e, .e, .any, (.const 0x0)⟩,
  ⟨0x3720, 1, 0x1, 0x1, 32, (.uint 1), .rw, .e, .e, .any, (.const 0x0)⟩,
  ⟨0x3721, 1, 0x1, 0x1, 32, (.int 4), .rw, .e, .e, .mantissa, (.const 0x0)⟩,
  ⟨0x5700, 1, 0x1, 0x1, 32, (.uint 4), .ro, .b, .b, .any, (.const 0x0)⟩,
  ⟨0x5701, 1, 0x1, 0x1, 32, (.int 4), .ro, .b, .b, .any, (.const 0x0)⟩,
  ⟨0x5702, 1, 0x1, 0x1, 32, (.uint 2), .ro, .e, .e, .any, (.const 0x0)⟩]

/-- The objects of chapter 08 (its object tables, R233). -/
def objRows08 : List ObjRow := [
  ⟨0x2800, 1, 0x1, 0x1, 1, (.uint 1), .rws, .b, .b, (.between 0 3), (.const 0x1)⟩,
  ⟨0x2800, 1, 0x1, 0x2, 1, (.uint 2), .rws, .b, .b, (.between 900 1600), (.const 0x5dc)⟩,
  ⟨0x2800, 1, 0x1, 0x3, 1, .bool, .rws, .b, .b, .any, (.const 0x1)⟩,
  ⟨0x2800, 1, 0x1, 0x4, 1, (.uint 1), .wo, .b, .b, .any, (.const 0x0)⟩,
  ⟨0x2800, 1, 0x1, 0x5, 1, (.uint 1), .wo, .b, .b, .any, (.const 0x0)⟩,
  ⟨0x2801, 1, 0x1, 0x1, 1, (.uint 2), .rw, .b, .b, (.between 0 2000), (.const 0x32)⟩,
  ⟨0x2801, 1, 0x1, 0x2, 1, (.uint 2), .rw, .b, .b, (.between 0 2000), (.const 0x32)⟩,
  ⟨0x2801, 1, 0x1, 0x3, 1, (.uint 2), .rw, .b, .b, (.between 600 1350), (.const 0x546)⟩,
  ⟨0x2801, 1, 0x1, 0x4, 1, (.uint 2), .rw, .b, .b, (.between 600 1350), (.const 0x258)⟩,
  ⟨0x2801, 1, 0x1, 0x5, 1, (.int 2), .rw, .b, .b, .any, (.const 0x0)⟩,
  ⟨0x2820, 1, 0x1, 0x1, 1, (.uint 2), .rw, .b, .b, (.between 2400 3000), (.const 0xac8)⟩,
  ⟨0x2820, 1, 0x1, 0x2, 1, (.uint 1), .rws, .b, .b, (.between 1 100), (.const 0xa)⟩,
  ⟨0x2820, 1, 0x1, 0x3, 1, (.uint 1), .rws, .b, .b, (.between 0 1), (.const 0x0)⟩,
  ⟨0x2820, 1, 0x1, 0x4, 1, (.uint 2), .rws, .b, .b, (.between 0 359), (.const 0x0)⟩,
  ⟨0x2820, 1, 0x1, 0x5, 1, (.uint 2), .rws, .b, .b, (.between 200 600), (.const 0x190)⟩,
  ⟨0x2830, 1, 0x1, 0x1, 1, (.uint 1), .rws, .b, .b, (.between 5 100), (.const 0x28)⟩,
  ⟨0x2830, 1, 0x1, 0x2, 1, (.uint 2), .rws, .b, .b, (.between 162 200), (.const 0xb4)⟩,
  ⟨0x3800, 1, 0x1, 0x1, 1, (.uint 2), .rws, .e, .e, (.between 5000 12500), (.const 0x1f40)⟩,
  ⟨0x3800, 1, 0x1, 0x2, 1, (.uint 1), .rws, .e, .e, (.zeroOr 20 180), (.const 0x64)⟩,
  ⟨0x3800, 1, 0x1, 0x3, 1, (.uint 1), .rws, .e, .e, (.between 1 100), (.const 0x14)⟩,
  ⟨0x3800, 1, 0x1, 0x4, 1, (.uint 1), .rws, .e, .e, (.between 0 45), (.const 0x14)⟩,
  ⟨0x3800, 1, 0x1, 0x5, 1, (.uint 2), .rws, .e, .e, (.between 50 300), (.const 0x78)⟩,
  ⟨0x3800, 1, 0x1, 0x6, 1, (.uint 2), .rws, .e, .e, (.between 50 420), (.const 0x1a4)⟩,
  ⟨0x3800, 1, 0x1, 0x7, 1, (.uint 2), .rws, .e, .e, (.between 5 200), (.const 0x32)⟩,
  ⟨0x3800, 1, 0x1, 0x8, 1, (.uint 2), .rws, .e, .e, (.zeroOr 100 10000), (.const 0x1f4)⟩,
  ⟨0x3800, 1, 0x1, 0x9, 1, (.uint 2), .rws, .e, .e, (.between 0 500), (.const 0x32)⟩,
  ⟨0x3820, 1, 0x1, 0x1, 1, (.uint 1), .rws, .e, .e, (.zeroOr 20 60), (.const 0x28)⟩,
  ⟨0x3820, 1, 0x1, 0x2, 1, (.uint 1), .rws, .e, .e, (.between 5 200), (.const 0x14)⟩,
  ⟨0x3820, 1, 0x1, 0x3, 1, (.uint 1), .rws, .e, .e, (.between 105 125), (.const 0x73)⟩,
  ⟨0x5800, 1, 0x1, 0x1, 1, (.uint 4), .ro, .b, .b, .any, (.const 0x0)⟩,
  ⟨0x5800, 1, 0x1, 0x2, 1, .real, .ro, .b, .b, .any, (.const 0x0)⟩,
  ⟨0x5800, 1, 0x1, 0x3, 1, .real, .ro, .b, .b, .any, (.const 0x0)⟩,
  ⟨0x5800, 1, 0x1, 0x4, 1, (.uint 2), .ro, .e, .e, .any, (.const 0x0)⟩,
  ⟨0x5800, 1, 0x1, 0x5, 1, (.uint 2), .ro, .e, .e, .any, (.const 0x0)⟩,
  ⟨0x5810, 1, 0x1, 0x1, 1, (.uint 2), .ro, .b, .b, .any, (.const 0x0)⟩,
  ⟨0x5810, 1, 0x1, 0x2, 1, .real, .ro, .b, .b, .any, (.const 0x0)⟩,
  ⟨0x5810, 1, 0x1, 0x3, 1, (.uint 2), .ro, .e, .e, .any, (.const 0x0)⟩,
  ⟨0x5820, 1, 0x1, 0x1, 1, (.uint 4), .ro, .b, .b, .any, (.const 0x0)⟩,
  ⟨0x5820, 1, 0x1, 0x2, 1, .real, .ro, .b, .b, .any, (.const 0x0)⟩,
  ⟨0x5820, 1, 0x1, 0x3, 1, .real, .ro, .b, .b, .any, (.const 0x0)⟩,
  ⟨0x5820, 1, 0x1, 0x4, 1, (.uint 2), .ro, .e, .e, .any, (.const 0x0)⟩,
  ⟨0x5820, 1, 0x1, 0x5, 1, (.uint 2), .ro, .e, .e, .any, (.const 0x0)⟩,
  ⟨0x5830, 1, 0x1, 0x1, 1, (.uint 2), .ro, .b, .b, .any, (.const 0x0)⟩,
  ⟨0x5830, 1, 0x1, 0x2, 1, .real, .ro, .b, .b, .any, (.const 0x0)⟩,
  ⟨0x5840, 1, 0x1, 0x1, 1, .real, .ro, .b, .b, .any, (.const 0x0)⟩,
  ⟨0x5840, 1, 0x1, 0x2, 1, .real, .ro, .b, .b, .any, (.const 0x0)⟩,
  ⟨0x5840, 1, 0x1, 0x3, 1, .real, .ro, .b, .b, .any, (.const 0x0)⟩,
  ⟨0x5840, 1, 0x1, 0x4, 1, .real, .ro, .e, .e, .any, (.const 0x0)⟩]

/-- The objects of chapter 09 (its object tables, R256). -/
def objRows09 : List ObjRow := [
  ⟨0x2900, 1, 0x1, 0x1, 1, (.uint 1), .rw, .b, .b, .any, (.const 0x0)⟩,
  ⟨0x2900, 1, 0x1, 0x2, 1, (.uint 2), .rw, .b, .b, (.between 0 2000), (.const 0x0)⟩,
  ⟨0x2900, 1, 0x1, 0x3, 1, (.uint 2), .rw, .b, .b, (.between 600 1350), (.const 0x258)⟩,
  ⟨0x2900, 1, 0x1, 0x4, 1, (.uint 2), .rws, .b, .b, (.between 380 690), (.const 0x190)⟩,
  ⟨0x2900, 1, 0x1, 0x5, 1, (.uint 1), .rws, .b, .b, (.between 88 100), (.const 0x5a)⟩,
  ⟨0x2900, 1, 0x1, 0x6, 1, (.uint 1), .rws, .b, .b, (.between 10 150), (.const 0x96)⟩,
  ⟨0x2900, 1, 0x1, 0x7, 1, (.uint 2), .rws, .b, .b, .any, (.const 0x0)⟩,
  ⟨0x2901, 1, 0x1, 0x1, 1, (.uint 2), .rws, .b, .b, (.between 1 600), (.const 0xa)⟩,
  ⟨0x2901, 1, 0x1, 0x2, 1, (.uint 1), .wo, .b, .b, .any, (.const 0x0)⟩,
  ⟨0x2910, 1, 0x1, 0x1, 1, (.uint 1), .rw, .b, .b, .any, (.const 0x0)⟩,
  ⟨0x2910, 1, 0x1, 0x2, 1, .bool, .rws, .b, .b, .any, (.const 0x1)⟩,
  ⟨0x2910, 1, 0x1, 0x3, 1, (.uint 1), .rws, .b, .b, (.between 20 60), (.const 0x28)⟩,
  ⟨0x2910, 1, 0x1, 0x4, 1, (.uint 1), .rws, .b, .b, (.between 10 75), (.const 0x32)⟩,
  ⟨0x2910, 1, 0x1, 0x5, 1, (.uint 1), .rws, .b, .b, (.between 1 10), (.const 0x3)⟩,
  ⟨0x2920, 1, 0x1, 0x1, 1, (.uint 1), .rws, .e, .e, (.between 0 1), (.const 0x0)⟩,
  ⟨0x2920, 1, 0x1, 0x2, 1, (.uint 1), .rw, .e, .e, (.between 0 4), (.const 0x0)⟩,
  ⟨0x2920, 1, 0x1, 0x3, 1, (.uint 1), .rw, .e, .e, (.oneOf [0, 1, 2, 3, 4, 5, 6, 7, 8, 255]), (.const 0x0)⟩,
  ⟨0x3900, 1, 0x1, 0x1, 1, (.uint 1), .rws, .e, .e, (.between 2 50), (.const 0xa)⟩,
  ⟨0x3900, 1, 0x1, 0x2, 1, (.uint 1), .rws, .e, .e, (.between 5 100), (.const 0x14)⟩,
  ⟨0x3900, 1, 0x1, 0x3, 1, (.uint 2), .rws, .e, .e, (.between 50 260), (.const 0x104)⟩,
  ⟨0x3900, 1, 0x1, 0x4, 1, (.uint 1), .rws, .e, .e, (.between 8 24), (.const 0x10)⟩,
  ⟨0x3900, 1, 0x1, 0x5, 1, (.int 1), .rws, .e, .e, (.between (-50) 50), (.const 0x0)⟩,
  ⟨0x3900, 1, 0x1, 0x6, 1, (.uint 2), .rws, .e, .e, (.between 1 600), (.const 0xa)⟩,
  ⟨0x3900, 1, 0x1, 0x7, 1, (.uint 2), .rws, .e, .e, (.between 1 1000), (.const 0x32)⟩,
  ⟨0x3910, 1, 0x1, 0x1, 1, (.uint 1), .rws, .e, .e, (.between 4 20), (.const 0xa)⟩,
  ⟨0x3910, 1, 0x1, 0x2, 1, (.uint 1), .rws, .e, .e, (.between 5 30), (.const 0xa)⟩,
  ⟨0x3910, 1, 0x1, 0x3, 1, (.uint 1), .rws, .e, .e, (.between 1 15), (.const 0x5)⟩,
  ⟨0x3910, 1, 0x1, 0x4, 1, (.uint 1), .rws, .e, .e, (.between 150 170), (.const 0xa0)⟩,
  ⟨0x3910, 1, 0x1, 0x5, 1, (.uint 1), .rws, .e, .e, (.between 120 140), (.const 0x82)⟩,
  ⟨0x3910, 1, 0x1, 0x6, 1, (.uint 1), .rws, .e, .e, (.between 30 45), (.const 0x28)⟩,
  ⟨0x3910, 1, 0x1, 0x7, 1, (.uint 1), .rws, .e, .e, (.between 40 55), (.const 0x32)⟩,
  ⟨0x3910, 1, 0x1, 0x8, 1, (.uint 2), .rws, .e, .e, (.between 110 300), (.const 0x96)⟩,
  ⟨0x5900, 1, 0x1, 0x1, 1, (.uint 4), .ro, .b, .b, .any, (.const 0x0)⟩,
  ⟨0x5900, 1, 0x1, 0x2, 1, .real, .ro, .b, .b, .any, (.const 0x0)⟩,
  ⟨0x5900, 1, 0x1, 0x3, 1, .real, .ro, .b, .b, .any, (.const 0x0)⟩,
  ⟨0x5900, 1, 0x1, 0x4, 1, .real, .ro, .b, .b, .any, (.const 0x0)⟩,
  ⟨0x5900, 1, 0x1, 0x5, 1, (.uint 1), .ro, .e, .e, .any, (.const 0x64)⟩,
  ⟨0x5900, 1, 0x1, 0x6, 1, .real, .ro, .b, .b, .any, (.const 0x0)⟩,
  ⟨0x5900, 1, 0x1, 0x7, 1, (.uint 2), .ro, .e, .e, .any, (.const 0x0)⟩,
  ⟨0x5910, 1, 0x1, 0x1, 1, (.uint 4), .ro, .b, .b, .any, (.const 0x0)⟩,
  ⟨0x5910, 1, 0x1, 0x2, 1, .real, .ro, .b, .b, .any, (.const 0x0)⟩,
  ⟨0x5910, 1, 0x1, 0x3, 1, .real, .ro, .b, .b, .any, (.const 0x0)⟩,
  ⟨0x5910, 1, 0x1, 0x4, 1, .real, .ro, .b, .b, .any, (.const 0x0)⟩,
  ⟨0x5910, 1, 0x1, 0x5, 1, (.uint 2), .ro, .e, .e, .any, (.const 0x0)⟩,
  ⟨0x5910, 1, 0x1, 0x6, 1, (.uint 2), .ro, .e, .e, .any, (.const 0x0)⟩,
  ⟨0x5910, 1, 0x1, 0x7, 1, (.uint 4), .ro, .b, .b, .any, (.const 0x0)⟩,
  ⟨0x5910, 1, 0x1, 0x8, 1, (.uint 2), .ro, .e, .e, .any, (.const 0x0)⟩,
  ⟨0x5920, 1, 0x1, 0x1, 1, (.uint 2), .ro, .b, .b, .any, (.const 0x0)⟩]

/-- The objects of chapter 10 (its object tables, R273). -/
def objRows10 : List ObjRow := [
  ⟨0x2a00, 4, 0x1, 0x1, 1, (.uint 1), .rws, .b, .b, (.between 0 4), (.fn 21)⟩,
  ⟨0x2a00, 4, 0x1, 0x2, 1, (.uint 1), .rw, .b, .b, .any, (.const 0x0)⟩,
  ⟨0x2a00, 4, 0x1, 0x3, 4, (.int 4), .rws, .b, .b, .any, (.const 0x0)⟩,
  ⟨0x2a00, 4, 0x1, 0x7, 1, (.uint 1), .rws, .b, .b, (.between 0 4), (.const 0x3)⟩,
  ⟨0x2a00, 4, 0x1, 0x8, 1, .real, .rws, .b, .b, .any, (.const 0x3f800000)⟩,
  ⟨0x2a00, 4, 0x1, 0x9, 1, .real, .rws, .b, .b, .any, (.const 0x3f800000)⟩,
  ⟨0x2a00, 4, 0x1, 0xa, 1, .real, .rws, .b, .b, .any, (.const 0x41200000)⟩,
  ⟨0x2a00, 4, 0x1, 0xb, 1, .real, .rws, .b, .b, .any, (.const 0x41a00000)⟩,
  ⟨0x3a00, 4, 0x1, 0x1, 1, (.uint 1), .rws, .e, .e, (.between 5 60), (.const 0x3c)⟩,
  ⟨0x3a00, 4, 0x1, 0x2, 1, (.uint 1), .rws, .e, .e, (.between 5 55), (.const 0x19)⟩,
  ⟨0x3a00, 4, 0x1, 0x3, 1, (.uint 4), .rws, .e, .e, .any, (.const 0x281400)⟩,
  ⟨0x3a00, 4, 0x1, 0x4, 1, (.uint 2), .rws, .e, .e, (.between 10 4000), (.const 0x190)⟩,
  ⟨0x3a00, 4, 0x1, 0x5, 1, (.uint 2), .rws, .e, .e, (.between 10 1000), (.const 0x64)⟩,
  ⟨0x3a00, 4, 0x1, 0x6, 1, (.uint 2), .rws, .e, .e, .any, (.const 0x402)⟩,
  ⟨0x3a00, 4, 0x1, 0x7, 1, (.uint 1), .rws, .e, .e, (.between 2 60), (.const 0xa)⟩,
  ⟨0x3a00, 4, 0x1, 0x8, 1, (.uint 1), .rws, .e, .e, (.between 5 200), (.const 0x14)⟩,
  ⟨0x3a00, 4, 0x1, 0x9, 1, (.uint 4), .rws, .e, .e, .any, (.const 0x20202)⟩,
  ⟨0x3a00, 4, 0x1, 0xa, 1, (.uint 2), .rws, .e, .e, (.between 50 10000), (.const 0x3e8)⟩,
  ⟨0x3a00, 4, 0x1, 0xb, 1, (.uint 2), .rws, .e, .e, .any, (.fn 22)⟩,
  ⟨0x3a00, 4, 0x1, 0xc, 1, (.int 4), .rws, .e, .e, .any, (.const 0x0)⟩,
  ⟨0x3a00, 4, 0x1, 0xd, 1, (.uint 2), .rws, .e, .e, .any, (.const 0x202)⟩,
  ⟨0x3a00, 4, 0x1, 0xe, 1, (.uint 2), .rws, .e, .e, (.between 100 20000), (.const 0x1388)⟩,
  ⟨0x3a00, 4, 0x1, 0xf, 1, (.uint 1), .rws, .e, .e, (.between 2 100), (.const 0xf)⟩,
  ⟨0x3a00, 4, 0x1, 0x10, 1, (.uint 1), .rws, .e, .e, (.between 5 100), (.const 0x14)⟩,
  ⟨0x3a00, 4, 0x1, 0x11, 1, (.uint 8), .rws, .e, .e, .any, (.const 0x006400c801f4012c)⟩,
  ⟨0x3a00, 4, 0x1, 0x12, 1, .real, .rws, .e, .e, .any, (.const 0x41a00000)⟩,
  ⟨0x3a00, 4, 0x1, 0x13, 1, (.uint 2), .rws, .e, .e, (.between 100 10000), (.const 0x7d0)⟩,
  ⟨0x3a00, 4, 0x1, 0x14, 1, (.uint 2), .rws, .e, .e, (.between 10 1800), (.const 0x78)⟩,
  ⟨0x3a00, 4, 0x1, 0x15, 1, (.uint 1), .rws, .e, .e, (.between 50 95), (.const 0x46)⟩,
  ⟨0x3a00, 4, 0x1, 0x16, 1, (.uint 2), .rws, .e, .e, (.between 0 60000), (.const 0x1388)⟩,
  ⟨0x5a00, 4, 0x1, 0x1, 1, (.uint 4), .ro, .b, .b, .any, (.const 0x0)⟩,
  ⟨0x5a00, 4, 0x1, 0x2, 1, (.int 4), .ro, .b, .b, .any, (.const 0x0)⟩,
  ⟨0x5a00, 4, 0x1, 0x3, 1, .real, .ro, .b, .b, .any, (.const 0x0)⟩,
  ⟨0x5a00, 4, 0x1, 0x4, 1, (.uint 4), .ro, .e, .e, .any, (.const 0x0)⟩]

/-- The objects of chapter 11 (its object tables, R292). -/
def objRows11 : List ObjRow := [
  ⟨0x2b00, 1, 0x1, 0x1, 4, (.uint 1), .rws, .b, .b, (.between 0 2), (.const 0x0)⟩,
  ⟨0x2b01, 1, 0x1, 0x1, 4, (.uint 1), .rws, .b, .b, (.between 80 200), (.const 0x96)⟩,
  ⟨0x2b02, 1, 0x1, 0x1, 4, (.uint 1), .rws, .b, .b, (.between 100 220), (.const 0xb4)⟩,
  ⟨0x3b00, 1, 0x1, 0x1, 1, (.uint 1), .rws, .e, .e, (.between 130 150), (.const 0x96)⟩,
  ⟨0x3b00, 1, 0x1, 0x2, 1, (.uint 1), .rws, .e, .e, (.between 5 100), (.const 0x28)⟩,
  ⟨0x3b00, 1, 0x1, 0x3, 1, (.uint 1), .rws, .e, .e, (.between 80 100), (.const 0x5f)⟩,
  ⟨0x3b10, 1, 0x1, 0x1, 8, (.uint 2), .rws, .e, .e, .any, (.list [0x1ae, 0x230, 0x28a, 0x2ee, 0x3d4, 0x4e2, 0x578, 0x618])⟩,
  ⟨0x5b00, 1, 0x1, 0x1, 1, (.uint 4), .ro, .b, .b, .any, (.const 0x0)⟩,
  ⟨0x5b00, 1, 0x1, 0x2, 1, .real, .ro, .b, .b, .any, (.const 0x0)⟩,
  ⟨0x5b00, 1, 0x1, 0x3, 1, .real, .ro, .e, .e, .any, (.const 0x0)⟩,
  ⟨0x5b00, 1, 0x1, 0x4, 1, .real, .ro, .e, .e, .any, (.const 0x0)⟩,
  ⟨0x5b00, 1, 0x1, 0x5, 1, .real, .ro, .b, .b, .any, (.const 0x0)⟩,
  ⟨0x5b00, 1, 0x1, 0x6, 1, .real, .ro, .b, .b, .any, (.const 0x0)⟩,
  ⟨0x5b00, 1, 0x1, 0x7, 1, (.uint 1), .ro, .b, .b, .any, (.const 0x64)⟩,
  ⟨0x5b00, 1, 0x1, 0x8, 1, (.int 4), .ro, .e, .e, .any, (.const 0x0)⟩,
  ⟨0x5b01, 1, 0x1, 0x1, 4, .real, .ro, .b, .b, .any, (.const 0x0)⟩,
  ⟨0x5b02, 1, 0x1, 0x1, 4, .real, .ro, .e, .e, .any, (.const 0x0)⟩,
  ⟨0x5b03, 1, 0x1, 0x1, 8, (.uint 1), .ro, .b, .b, .any, (.const 0x64)⟩,
  ⟨0x5b04, 1, 0x1, 0x1, 8, (.uint 4), .ro, .e, .e, .any, (.const 0x0)⟩,
  ⟨0x5b05, 1, 0x1, 0x1, 8, (.int 2), .ro, .e, .e, .any, (.const 0x0)⟩]

/-- The objects of chapter 12 (its object tables, R320). -/
def objRows12 : List ObjRow := [
  ⟨0x7000, 1, 0x1, 0x1, 1, (.uint 2), .rws, .e, .s, (.between 20 1000), (.const 0x64)⟩,
  ⟨0x7000, 1, 0x1, 0x2, 1, (.uint 1), .rws, .e, .s, (.upToOr 15 255), (.const 0xff)⟩,
  ⟨0x7000, 1, 0x1, 0x3, 1, (.uint 2), .rws, .e, .s, (.upToOr 255 65535), (.const 0xffff)⟩,
  ⟨0x7001, 1, 0x1, 0x1, 16, (.uint 1), .rws, .e, .s, (.between 1 6), (.const 0x3)⟩,
  ⟨0x7002, 1, 0x1, 0x1, 16, (.uint 1), .rws, .e, .s, (.upToOr 7 255), (.const 0xff)⟩,
  ⟨0x7010, 16, 0x1, 0x1, 1, (.uint 1), .rws, .e, .s, (.between 0 5), (.const 0x0)⟩,
  ⟨0x7010, 16, 0x1, 0x2, 1, (.uint 4), .rws, .e, .s, .any, (.const 0xffffffff)⟩,
  ⟨0x7010, 16, 0x1, 0x3, 1, (.uint 1), .rws, .e, .s, (.between 0 1), (.const 0x0)⟩,
  ⟨0x7010, 16, 0x1, 0x4, 1, (.uint 2), .rws, .e, .s, (.between 10 3000), (.const 0x64)⟩,
  ⟨0x7010, 16, 0x1, 0x5, 1, (.uint 1), .rws, .e, .s, (.between 1 8), (.const 0x1)⟩,
  ⟨0x7010, 16, 0x1, 0x6, 1, (.uint 1), .rws, .e, .s, (.between 0 7), (.const 0x3)⟩,
  ⟨0x7010, 16, 0x1, 0x7, 1, (.uint 1), .rws, .e, .s, (.between 0 1), (.const 0x1)⟩,
  ⟨0x7010, 16, 0x1, 0x8, 1, (.uint 2), .rws, .e, .s, .any, (.const 0x0)⟩,
  ⟨0x7030, 2, 0x1, 0x1, 1, (.uint 1), .rws, .e, .s, (.between 0 4), (.const 0x0)⟩,
  ⟨0x7030, 2, 0x1, 0x2, 1, (.uint 1), .rws, .e, .s, (.between 1 50), (.const 0xa)⟩,
  ⟨0x7030, 2, 0x1, 0x3, 1, (.uint 2), .rws, .e, .s, (.between 10 1000), (.const 0x64)⟩,
  ⟨0x7030, 2, 0x1, 0x4, 1, (.uint 1), .rws, .e, .s, (.between 0 1), (.const 0x0)⟩,
  ⟨0x7030, 2, 0x1, 0x5, 1, .real, .rws, .e, .s, (.real 10 20000), (.const 0x447a0000)⟩,
  ⟨0x7030, 2, 0x1, 0x6, 1, .real, .rws, .e, .s, (.real 10 20000), (.const 0x44480000)⟩,
  ⟨0x7030, 2, 0x1, 0x7, 1, .real, .rws, .e, .s, (.real 0 1000), (.const 0x42480000)⟩,
  ⟨0x7030, 2, 0x1, 0x8, 1, (.uint 2), .rws, .e, .s, (.between 100 60000), (.const 0x1388)⟩,
  ⟨0x7030, 2, 0x1, 0x9, 1, .real, .rws, .e, .s, (.real 1 100), (.const 0x41200000)⟩,
  ⟨0x7030, 2, 0x1, 0xa, 4, .real, .rws, .e, .s, (.real 1 20000), (.list [0x42c80000, 0x43960000, 0x44160000, 0x447a0000])⟩,
  ⟨0x7030, 2, 0x1, 0xe, 1, (.uint 1), .rws, .e, .s, (.between 0 1), (.const 0x0)⟩,
  ⟨0x7030, 2, 0x1, 0xf, 1, (.uint 2), .rws, .e, .s, (.between 10 36000), (.const 0x1c2)⟩,
  ⟨0x7030, 2, 0x1, 0x10, 1, (.uint 2), .rws, .e, .s, (.between 0 1000), (.const 0x0)⟩,
  ⟨0x7030, 2, 0x1, 0x11, 1, (.uint 2), .rws, .e, .s, (.between 0 2000), (.const 0x64)⟩,
  ⟨0x7040, 4, 0x1, 0x1, 1, (.uint 1), .rws, .e, .s, (.between 0 4), (.const 0x0)⟩,
  ⟨0x7040, 4, 0x1, 0x2, 1, (.uint 1), .rws, .e, .s, (.between 0 1), (.const 0x0)⟩,
  ⟨0x7040, 4, 0x1, 0x3, 1, .bool, .rws, .e, .s, .any, (.const 0x1)⟩,
  ⟨0x7040, 4, 0x1, 0x4, 1, (.uint 1), .rws, .e, .s, (.between 0 15), (.const 0x0)⟩,
  ⟨0x5c00, 1, 0x1, 0x1, 1, (.uint 4), .ro, .b, .b, .any, (.const 0x0)⟩,
  ⟨0x5c00, 1, 0x1, 0x2, 1, (.uint 4), .ro, .b, .b, .any, (.const 0x0)⟩,
  ⟨0x5c01, 1, 0x1, 0x1, 16, (.uint 2), .ro, .b, .b, .any, (.const 0x0)⟩,
  ⟨0x5c02, 1, 0x1, 0x1, 2, .real, .ro, .b, .b, .any, (.const 0x0)⟩,
  ⟨0x5c03, 1, 0x1, 0x1, 2, (.uint 4), .ro, .b, .b, .any, (.const 0x0)⟩,
  ⟨0x5c04, 1, 0x1, 0x1, 1, (.uint 4), .ro, .e, .e, .any, (.const 0x0)⟩,
  ⟨0x5c04, 1, 0x1, 0x2, 1, (.uint 2), .ro, .e, .e, .any, (.const 0x0)⟩]

/-- The objects of chapter 13 (its object tables, R342). -/
def objRows13 : List ObjRow := [
  ⟨0x7100, 256, 0x1, 0x1, 1, (.uint 1), .rws, .e, .s, (.between 0 2), (.const 0x0)⟩,
  ⟨0x7100, 256, 0x1, 0x2, 1, (.uint 1), .rws, .e, .s, (.oneOf [0, 1, 3, 4]), (.const 0x0)⟩,
  ⟨0x7100, 256, 0x1, 0x3, 1, (.uint 4), .rws, .e, .s, .any, (.const 0x0)⟩,
  ⟨0x7100, 256, 0x1, 0x4, 1, (.uint 4), .rws, .e, .s, .any, (.const 0x0)⟩,
  ⟨0x7100, 256, 0x1, 0x5, 1, (.uint 1), .rws, .e, .s, (.between 1 32), (.const 0x8)⟩,
  ⟨0x7100, 256, 0x1, 0x6, 1, (.uint 2), .rws, .e, .s, (.between 1 1000), (.const 0x5)⟩,
  ⟨0x7100, 256, 0x1, 0x7, 1, (.uint 2), .rws, .e, .s, (.between 5 1000), (.const 0x14)⟩,
  ⟨0x7100, 256, 0x1, 0x8, 1, (.uint 1), .rws, .e, .s, (.between 0 2), (.const 0x0)⟩,
  ⟨0x7200, 1, 0x1, 0x1, 1, (.uint 2), .rws, .e, .s, (.between 10 3600), (.const 0x258)⟩,
  ⟨0x7200, 1, 0x1, 0x2, 1, (.uint 2), .rws, .e, .s, (.between 60 3600), (.const 0x258)⟩,
  ⟨0x7200, 1, 0x1, 0x3, 1, (.uint 1), .rws, .e, .s, (.between 0 63), (.const 0x0)⟩,
  ⟨0x7f00, 1, 0x1, 0x1, 1, (.uint 1), .ro, .b, .b, .any, (.const 0x0)⟩,
  ⟨0x7f00, 1, 0x1, 0x2, 1, (.uint 4), .ro, .b, .b, .any, (.const 0x0)⟩,
  ⟨0x7f00, 1, 0x1, 0x3, 1, (.uint 4), .ro, .b, .b, .any, (.const 0x0)⟩,
  ⟨0x7f00, 1, 0x1, 0x4, 1, (.uint 1), .ro, .b, .b, .any, (.const 0x0)⟩,
  ⟨0x7f00, 1, 0x1, 0x5, 1, (.uint 1), .ro, .b, .b, .any, (.const 0x8)⟩,
  ⟨0x7f00, 1, 0x1, 0x6, 1, (.uint 2), .ro, .e, .e, .any, (.const 0x0)⟩,
  ⟨0x5d00, 2, 0x1, 0x1, 128, (.uint 4), .ro, .b, .b, .any, (.const 0x0)⟩,
  ⟨0x5d02, 2, 0x1, 0x1, 128, (.uint 4), .ro, .e, .e, .any, (.const 0x0)⟩]

/-- The objects of chapter 14 (its object tables, R380). -/
def objRows14 : List ObjRow := [
  ⟨0x2e00, 1, 0x1, 0x1, 2, (.uint 2), .rws, .b, .b, (.oneOf [500, 1000]), (.const 0x1f4)⟩,
  ⟨0x2e00, 1, 0x1, 0x3, 1, (.uint 1), .rws, .b, .b, (.oneOf [2, 4, 5, 8, 10]), (.const 0x5)⟩,
  ⟨0x2e00, 1, 0x1, 0x4, 1, (.uint 1), .rws, .b, .b, (.oneOf [2, 4, 5]), (.const 0x5)⟩,
  ⟨0x2e00, 1, 0x1, 0x5, 1, (.uint 1), .rws, .b, .b, (.between 0 1), (.const 0x0)⟩,
  ⟨0x2e00, 1, 0x1, 0x6, 1, (.uint 1), .rws, .b, .b, .any, (.const 0x0)⟩,
  ⟨0x2e00, 1, 0x1, 0x7, 1, (.uint 1), .rws, .b, .b, (.between 128 247), (.const 0xf0)⟩,
  ⟨0x2e00, 1, 0x1, 0x8, 1, (.uint 1), .rws, .b, .b, (.between 0 254), (.const 0x80)⟩,
  ⟨0x2e00, 1, 0x1, 0x9, 1, (.uint 1), .rws, .b, .b, (.between 0 31), (.const 0x0)⟩,
  ⟨0x2e00, 1, 0x1, 0xa, 1, (.uint 1), .rws, .e, .e, (.between 0 127), (.const 0x0)⟩,
  ⟨0x2e00, 1, 0x1, 0xb, 1, (.uint 1), .rws, .e, .e, (.between 0 15), (.const 0x0)⟩,
  ⟨0x2e10, 1, 0x1, 0x1, 1, (.uint 4), .rws, .b, .b, .any, (.const 0xc0a80a0a)⟩,
  ⟨0x2e10, 1, 0x1, 0x2, 1, (.uint 4), .rws, .b, .b, .any, (.const 0xffffff00)⟩,
  ⟨0x2e10, 1, 0x1, 0x3, 1, (.uint 4), .rws, .b, .b, .any, (.const 0x0)⟩,
  ⟨0x2e10, 1, 0x1, 0x4, 1, (.uint 1), .rws, .b, .b, (.between 0 1), (.const 0x1)⟩,
  ⟨0x2e10, 1, 0x1, 0x5, 1, (.uint 2), .rws, .b, .b, (.between 0 4094), (.const 0x0)⟩,
  ⟨0x2e20, 1, 0x1, 0x1, 1, (.uint 1), .rws, .b, .b, (.oneOf [0, 1, 2, 3, 4, 5, 6, 7, 255]), (.const 0xff)⟩,
  ⟨0x3e00, 1, 0x1, 0x1, 3, (.uint 1), .rws, .e, .e, (.between 32 127), (.const 0x60)⟩,
  ⟨0x3e00, 1, 0x1, 0x4, 1, (.uint 1), .rws, .e, .e, (.between 0 1), (.const 0x0)⟩,
  ⟨0x3e00, 1, 0x1, 0x5, 1, (.uint 1), .wo, .e, .e, .any, (.const 0x0)⟩,
  ⟨0x3e01, 1, 0x1, 0x1, 4, (.uint 1), .rws, .e, .e, (.between 60 90), (.list [0x50, 0x4b, 0x50, 0x4b])⟩,
  ⟨0x3e02, 1, 0x1, 0x1, 1, (.uint 4), .rws, .e, .e, .any, (.const 0x10000)⟩,
  ⟨0x3e02, 1, 0x1, 0x2, 1, (.uint 2), .rws, .e, .e, (.between 0 2000), (.const 0x0)⟩,
  ⟨0x3e02, 1, 0x1, 0x3, 1, (.uint 2), .rws, .e, .e, (.between 100 2000), (.const 0x7d0)⟩,
  ⟨0x3e03, 1, 0x1, 0x1, 16, (.uint 1), .rws, .e, .e, (.oneOf [0, 1, 2, 3, 255]), (.fn 23)⟩,
  ⟨0x3e04, 1, 0x1, 0x1, 16, (.uint 1), .rws, .e, .e, (.between 0 7), (.fn 24)⟩,
  ⟨0x3e05, 1, 0x1, 0x1, 14, (.uint 1), .rws, .e, .e, .any, (.fn 25)⟩,
  ⟨0x3e06, 1, 0x1, 0x1, 1, (.uint 1), .rws, .e, .e, (.between 2 16), (.const 0x8)⟩,
  ⟨0x3e08, 1, 0x1, 0x1, 8, (.uint 4), .rws, .e, .e, .any, (.const 0x0)⟩,
  ⟨0x3e10, 16, 0x1, 0x1, 128, (.uint 4), .rws, .e, .e, .any, (.const 0xc0000000)⟩,
  ⟨0x3e40, 16, 0x1, 0x1, 1, (.uint 2), .rws, .e, .e, .any, (.const 0x0)⟩,
  ⟨0x3e40, 16, 0x1, 0x2, 1, (.uint 1), .rws, .e, .e, (.between 0 2), (.const 0x0)⟩,
  ⟨0x3e40, 16, 0x1, 0x3, 1, (.uint 2), .rws, .e, .e, (.between 64 4096), (.const 0x170)⟩,
  ⟨0x3e40, 16, 0x1, 0x4, 1, (.uint 2), .rws, .e, .e, (.between 10 10000), (.const 0x64)⟩,
  ⟨0x3e40, 16, 0x1, 0x5, 1, (.uint 4), .rws, .e, .e, .any, (.const 0x0)⟩,
  ⟨0x3e40, 16, 0x1, 0x6, 1, (.uint 4), .rws, .e, .e, .any, (.const 0x0)⟩,
  ⟨0x3e40, 16, 0x1, 0x7, 16, (.uint 4), .rws, .e, .e, .any, (.const 0x0)⟩,
  ⟨0x3e60, 1, 0x1, 0x1, 16, (.uint 4), .wo, .e, .e, .any, (.const 0x0)⟩,
  ⟨0x5e00, 1, 0x1, 0x1, 3, (.uint 4), .ro, .b, .b, .any, (.const 0x0)⟩,
  ⟨0x5e01, 1, 0x1, 0x1, 3, (.uint 4), .ro, .e, .e, .any, (.const 0x0)⟩,
  ⟨0x5e01, 1, 0x1, 0x4, 1, (.uint 4), .ro, .e, .e, .any, (.const 0x0)⟩,
  ⟨0x5e02, 1, 0x1, 0x1, 1, (.uint 4), .ro, .b, .b, .any, (.const 0x0)⟩,
  ⟨0x5e02, 1, 0x1, 0x2, 1, (.uint 8), .ro, .b, .b, .any, (.const 0x0)⟩,
  ⟨0x5e02, 1, 0x1, 0x3, 1, (.int 4), .ro, .e, .e, .any, (.const 0x0)⟩,
  ⟨0x5e02, 1, 0x1, 0x4, 1, (.uint 2), .ro, .e, .e, .any, (.const 0x0)⟩,
  ⟨0x5e03, 1, 0x1, 0x1, 16, (.uint 2), .ro, .e, .e, .any, (.const 0x0)⟩,
  ⟨0x5e03, 1, 0x1, 0x11, 16, (.uint 4), .ro, .e, .e, .any, (.const 0x0)⟩,
  ⟨0x5e04, 1, 0x1, 0x1, 4, (.uint 2), .ro, .e, .e, .any, (.const 0x0)⟩,
  ⟨0x5e05, 1, 0x1, 0x1, 1, (.uint 4), .ro, .e, .e, .any, (.const 0x0)⟩,
  ⟨0x5e06, 1, 0x1, 0x1, 1, (.uint 4), .ro, .e, .e, .any, (.const 0x0)⟩,
  ⟨0x5e06, 1, 0x1, 0x2, 1, (.uint 4), .ro, .e, .e, .any, (.const 0x0)⟩,
  ⟨0x5e07, 1, 0x1, 0x1, 1, (.uint 8), .ro, .b, .b, .any, (.const 0x0)⟩,
  ⟨0x5e10, 16, 0x1, 0x1, 128, (.octets 76), .ro, .b, .b, .any, (.const 0x0)⟩,
  ⟨0x5e40, 16, 0x1, 0x1, 1, (.uint 2), .ro, .b, .b, .any, (.const 0x0)⟩,
  ⟨0x5e40, 16, 0x1, 0x2, 1, (.uint 4), .ro, .b, .b, .any, (.const 0x0)⟩,
  ⟨0x5e40, 16, 0x1, 0x3, 1, (.uint 4), .ro, .b, .b, .any, (.const 0x0)⟩,
  ⟨0x5e50, 16, 0x1, 0x1, 1, (.octets 0), .ro, .e, .e, .any, (.const 0x0)⟩]

/-- The objects of chapter 15 (its object tables, R405). -/
def objRows15 : List ObjRow := [
  ⟨0x1000, 1, 0x1, 0x0, 1, (.uint 4), .ro, .b, .b, .any, (.const 0x0)⟩,
  ⟨0x1001, 1, 0x1, 0x0, 1, (.uint 1), .ro, .b, .b, .any, (.const 0x0)⟩,
  ⟨0x1014, 1, 0x1, 0x1, 2, (.uint 4), .rws, .e, .e, .any, (.const 0x90)⟩,
  ⟨0x1016, 1, 0x1, 0x1, 16, (.uint 4), .rws, .e, .e, .any, (.const 0x0)⟩,
  ⟨0x1017, 1, 0x1, 0x1, 2, (.uint 2), .rws, .b, .b, (.zeroOr 10 10000), (.const 0x64)⟩,
  ⟨0x1018, 1, 0x1, 0x1, 1, (.uint 4), .ro, .b, .b, .any, (.const 0x3d9)⟩,
  ⟨0x1018, 1, 0x1, 0x2, 1, (.uint 4), .ro, .b, .b, .any, (.const 0x1560)⟩,
  ⟨0x1018, 1, 0x1, 0x3, 1, (.uint 4), .ro, .b, .b, .any, (.const 0x0)⟩,
  ⟨0x1018, 1, 0x1, 0x4, 1, (.uint 4), .ro, .b, .b, .any, (.const 0x0)⟩,
  ⟨0x1400, 32, 0x1, 0x1, 2, (.uint 4), .rws, .e, .e, .any, (.fn 26)⟩,
  ⟨0x1600, 32, 0x1, 0x0, 17, (.uint 4), .rws, .e, .e, .any, (.const 0x0)⟩,
  ⟨0x1800, 32, 0x1, 0x1, 2, (.uint 4), .rws, .e, .e, .any, (.fn 27)⟩,
  ⟨0x1800, 32, 0x1, 0x5, 1, (.uint 4), .rws, .e, .e, .any, (.const 0x0)⟩,
  ⟨0x1a00, 32, 0x1, 0x0, 17, (.uint 4), .rws, .e, .e, .any, (.const 0x0)⟩,
  ⟨0x2001, 1, 0x1, 0x1, 1, (.uint 2), .rws, .b, .b, (.between 0 511), (.const 0x1)⟩,
  ⟨0x2001, 1, 0x1, 0x2, 2, (.uint 1), .rws, .b, .b, (.between 1 127), (.const 0x10)⟩,
  ⟨0x9000, 1, 0x1, 0x1, 1, (.octets 12), .ro, .b, .b, .any, (.const 0x0)⟩,
  ⟨0x9000, 1, 0x1, 0x2, 1, (.uint 4), .ro, .b, .b, .any, (.const 0x0)⟩,
  ⟨0x9000, 1, 0x1, 0x3, 1, (.uint 2), .ro, .b, .b, .any, (.const 0x0)⟩,
  ⟨0x9000, 1, 0x1, 0x4, 1, (.uint 4), .ro, .b, .b, .any, (.const 0x0)⟩,
  ⟨0x2f00, 1, 0x1, 0x1, 1, (.uint 1), .wo, .b, .b, .any, (.const 0x0)⟩,
  ⟨0x2f00, 1, 0x1, 0x2, 1, (.uint 8), .rw, .b, .b, .any, (.const 0x0)⟩,
  ⟨0x2f00, 1, 0x1, 0x3, 1, (.uint 2), .rw, .b, .b, (.between 1 1000), (.const 0xa)⟩,
  ⟨0x2f00, 1, 0x1, 0x4, 1, (.uint 2), .rws, .e, .e, (.between 5 600), (.const 0x1e)⟩,
  ⟨0x2f00, 1, 0x1, 0x5, 1, .bool, .rw, .b, .b, .any, (.const 0x0)⟩,
  ⟨0x2f01, 1, 0x1, 0x1, 1, (.uint 4), .ro, .b, .b, .any, (.const 0x0)⟩,
  ⟨0x2f01, 1, 0x1, 0x2, 1, (.uint 8), .ro, .b, .b, .any, (.const 0x0)⟩,
  ⟨0x2f01, 1, 0x1, 0x3, 1, (.uint 4), .ro, .b, .b, .any, (.const 0x0)⟩,
  ⟨0x2f01, 1, 0x1, 0x4, 1, (.uint 4), .ro, .b, .b, .any, (.const 0x0)⟩,
  ⟨0x2f01, 1, 0x1, 0x5, 1, (.uint 4), .ro, .e, .e, .any, (.const 0x0)⟩,
  ⟨0x2f01, 1, 0x1, 0x6, 1, (.uint 2), .ro, .b, .b, .any, (.const 0x0)⟩,
  ⟨0x2f20, 1, 0x1, 0x1, 1, (.octets 18), .wo, .b, .b, .any, (.const 0x0)⟩,
  ⟨0x2f20, 1, 0x1, 0x2, 1, (.octets 20), .ro, .b, .b, .any, (.const 0x0)⟩,
  ⟨0x2f20, 1, 0x1, 0x3, 1, (.octets 32), .wo, .b, .b, .any, (.const 0x0)⟩,
  ⟨0x2f20, 1, 0x1, 0x4, 1, (.octets 32), .ro, .b, .b, .any, (.const 0x0)⟩,
  ⟨0x2f20, 1, 0x1, 0x5, 1, (.uint 1), .wo, .b, .b, .any, (.const 0x0)⟩,
  ⟨0x2f21, 1, 0x1, 0x1, 1, (.uint 2), .ro, .b, .b, .any, (.const 0x0)⟩,
  ⟨0x2f22, 1, 0x1, 0x1, 1, (.uint 2), .rws, .e, .e, (.between 30 3600), (.const 0x12c)⟩,
  ⟨0x5f00, 1, 0x1, 0x1, 1, (.octets 16), .ro, .b, .b, .any, (.const 0x0)⟩,
  ⟨0x5f00, 1, 0x1, 0x2, 1, (.uint 1), .ro, .b, .b, .any, (.const 0x0)⟩,
  ⟨0x5f00, 1, 0x1, 0x3, 1, (.uint 4), .ro, .b, .b, .any, (.const 0x0)⟩,
  ⟨0x9100, 1, 0x1, 0x1, 1, (.octets 33), .wo, .v, .v, .any, (.const 0x0)⟩,
  ⟨0x9100, 1, 0x1, 0x2, 1, (.uint 1), .wo, .v, .v, (.between 0 3), (.const 0x0)⟩,
  ⟨0x9100, 1, 0x1, 0x3, 1, (.uint 1), .ro, .b, .b, .any, (.const 0x0)⟩]

/-- The objects of chapter 16 (its object tables, R432). -/
def objRows16 : List ObjRow := [
  ⟨0x8000, 1, 0x1, 0x1, 1, (.uint 2), .rws, .e, .e, (.between 500 2000), (.const 0x3e8)⟩,
  ⟨0x8001, 1, 0x1, 0x1, 1, (.uint 4), .ro, .b, .b, .any, (.const 0x0)⟩,
  ⟨0x8001, 1, 0x1, 0x2, 1, (.uint 4), .ro, .e, .e, .any, (.const 0x0)⟩,
  ⟨0x8001, 1, 0x1, 0x3, 1, (.uint 4), .ro, .e, .e, .any, (.const 0x0)⟩,
  ⟨0x8001, 1, 0x1, 0x4, 1, (.uint 4), .ro, .e, .e, .any, (.const 0x0)⟩,
  ⟨0x8001, 1, 0x1, 0x5, 1, (.uint 2), .ro, .e, .e, .any, (.const 0x0)⟩,
  ⟨0x8001, 1, 0x1, 0x6, 1, (.uint 4), .ro, .e, .e, .any, (.const 0x0)⟩,
  ⟨0x8010, 1, 0x1, 0x1, 1, (.uint 2), .rw, .v, .v, .any, (.const 0x0)⟩,
  ⟨0x8010, 1, 0x1, 0x2, 1, (.uint 2), .rw, .v, .v, .any, (.const 0x0)⟩,
  ⟨0x8010, 1, 0x1, 0x3, 1, (.int 4), .rw, .v, .v, .any, (.const 0x0)⟩,
  ⟨0x8010, 1, 0x1, 0x4, 1, (.uint 4), .rw, .v, .v, (.between 0 600000000), (.const 0x0)⟩,
  ⟨0x8010, 1, 0x1, 0x5, 1, (.uint 1), .wo, .v, .v, .any, (.const 0x0)⟩,
  ⟨0x8011, 1, 0x1, 0x1, 1, (.uint 4), .ro, .v, .v, .any, (.const 0x0)⟩,
  ⟨0x8011, 1, 0x1, 0x2, 1, (.uint 4), .ro, .v, .v, .any, (.const 0x0)⟩,
  ⟨0x8020, 1, 0x1, 0x1, 54, (.uint 2), .ro, .e, .e, .any, (.const 0x0)⟩,
  ⟨0x8021, 1, 0x1, 0x1, 76, (.uint 1), .ro, .e, .e, .any, (.const 0x0)⟩,
  ⟨0x8022, 1, 0x1, 0x1, 76, (.uint 4), .ro, .e, .e, .any, (.const 0x0)⟩,
  ⟨0x8030, 1, 0x1, 0x1, 24, (.uint 2), .ro, .e, .e, .any, (.const 0x0)⟩,
  ⟨0x8031, 1, 0x1, 0x1, 1, (.uint 4), .ro, .e, .e, .any, (.const 0x0)⟩]

/-- The objects of chapter 17 (its object tables, R455). -/
def objRows17 : List ObjRow := [
  ⟨0x2000, 1, 0x1, 0x3, 1, .bool, .rws, .b, .b, .any, (.const 0x0)⟩,
  ⟨0x5000, 1, 0x1, 0x7, 1, (.uint 4), .ro, .b, .b, .any, (.const 0x0)⟩,
  ⟨0x9010, 1, 0x1, 0x1, 1, (.uint 1), .wo, .v, .v, .any, (.const 0x0)⟩,
  ⟨0x9010, 1, 0x1, 0x2, 1, (.uint 4), .rw, .v, .v, .any, (.const 0x0)⟩,
  ⟨0x9010, 1, 0x1, 0x3, 1, (.octets 1024), .wo, .v, .v, .any, (.const 0x0)⟩,
  ⟨0x9011, 1, 0x1, 0x1, 1, (.uint 4), .ro, .b, .b, .any, (.const 0x0)⟩,
  ⟨0x9011, 1, 0x1, 0x2, 1, (.uint 4), .ro, .b, .b, .any, (.const 0x0)⟩,
  ⟨0x9011, 1, 0x1, 0x3, 1, (.uint 4), .ro, .b, .b, .any, (.const 0x0)⟩,
  ⟨0x9011, 1, 0x1, 0x4, 1, (.uint 1), .ro, .b, .b, .any, (.const 0x0)⟩,
  ⟨0x9011, 1, 0x1, 0x5, 1, (.uint 1), .ro, .b, .b, .any, (.const 0x0)⟩,
  ⟨0x9011, 1, 0x1, 0x6, 1, (.uint 1), .ro, .b, .b, .any, (.const 0x0)⟩,
  ⟨0x9020, 1, 0x1, 0x1, 1, (.octets 29856), .ro, .b, .b, .any, (.const 0x0)⟩,
  ⟨0x9020, 1, 0x1, 0x2, 1, (.uint 1), .ro, .b, .b, .any, (.const 0x0)⟩,
  ⟨0x9021, 1, 0x1, 0x1, 1, (.octets 32), .wo, .b, .b, .any, (.const 0x0)⟩,
  ⟨0x9021, 1, 0x1, 0x2, 1, (.uint 1), .ro, .b, .b, .any, (.const 0x0)⟩,
  ⟨0x9021, 1, 0x1, 0x3, 1, (.octets 17264), .ro, .b, .b, .any, (.const 0x0)⟩,
  ⟨0x9030, 1, 0x1, 0x1, 1, (.uint 2), .ro, .e, .e, .any, (.const 0x0)⟩,
  ⟨0x9030, 1, 0x1, 0x2, 1, (.uint 4), .ro, .e, .e, .any, (.const 0x0)⟩]

/-- Every object of the dictionary. -/
def objTable : List ObjRow :=
  objRows01 ++ objRows02 ++ objRows03 ++ objRows04 ++ objRows05 ++ objRows06 ++ objRows07 ++ objRows08 ++ objRows09 ++ objRows10 ++ objRows11 ++ objRows12 ++ objRows13 ++ objRows14 ++ objRows15 ++ objRows16 ++ objRows17

/-- The row of an index and subindex, with the positions within it. -/
def objFind (ix sub : Nat) : List ObjRow → Option (ObjRow × Nat × Nat)
  | [] => none
  | r :: rest =>
    if r.ix ≤ ix ∧ (ix - r.ix) % r.step = 0 ∧ (ix - r.ix) / r.step < r.nIx ∧ r.sub ≤ sub ∧ sub < r.sub + r.nSub then
      some (r, (ix - r.ix) / r.step, sub - r.sub)
    else objFind ix sub rest

/-- Whether any object has the index. -/
def objHasIndex (ix : Nat) : Bool :=
  objTable.any fun r => decide (r.ix ≤ ix) && decide ((ix - r.ix) % r.step = 0) && decide ((ix - r.ix) / r.step < r.nIx)

/-- The default of an object. -/
def ObjRow.default (r : ObjRow) (j i : Nat) : Nat :=
  match r.dflt with
  | .const v => v
  | .list vs => vs.getD i 0
  | .fn c => dfltFn c j i

/-- The number of bytes of a value of a type (R383); none for a string of up to its length. -/
def ObjType.width : ObjType → Option Nat
  | .bool => some 1
  | .int n => some n
  | .uint n => some n
  | .real => some 4
  | .octets _ => none

end Sys2Proof.Machine
end

