-- ==== Sys2Proof/Machine/Settings.lean ====
section
/-!
DEFINITION. Named reads of the settings: one accessor per writable object of the dictionary, with its default.
-/

namespace Sys2Proof.Machine

/-- The raw value of an object in a set of settings: the listed one, or the default. -/
def Settings.raw (S : Settings) (key d : Nat) : Nat := (S.lookup key).getD d

/-- A set of settings with one object set; the list stays sorted by key, and a value equal to the default is not
listed. -/
def Settings.insert (key v : Nat) : Settings → Settings
  | [] => [(key, v)]
  | (k, w) :: rest =>
    if key < k then (key, v) :: (k, w) :: rest
    else if key = k then (key, v) :: rest
    else (k, w) :: Settings.insert key v rest

def Settings.erase (S : Settings) (key : Nat) : Settings := S.filter fun e => e.1 != key

/-- Set an object, dropping it from the list where it takes its default. -/
def Settings.set (S : Settings) (key v : Nat) : Settings :=
  match objFind (key / 256) (key % 256) objTable with
  | none => S
  | some (r, j, i) => if v = r.default j i then S.erase key else S.insert key v

namespace Cfg

def pairPosition (S : Settings) : Nat := S.raw (0x200002) 0x0
def gateSlope (S : Settings) (i : Nat) : Nat := S.raw (0x220001 + i) 0x1
def reedEnable (S : Settings) : Bool := S.raw (0x220009) 0x1 == 1
def preIOn (S : Settings) (sg : Nat) : Nat := S.raw (0x320001 + sg * 256) (dHvLv 6 4 sg)
def preTOn (S : Settings) (sg : Nat) : Nat := S.raw (0x320002 + sg * 256) (dHvLv 24 12 sg)
def platIOn (S : Settings) (sg : Nat) : Nat := S.raw (0x320003 + sg * 256) 0x6
def platTmaxOn (S : Settings) (sg : Nat) : Nat := S.raw (0x320004 + sg * 256) (dHvLv 8 3 sg)
def preIOff (S : Settings) (sg : Nat) : Nat := S.raw (0x320005 + sg * 256) (dHvLv 6 4 sg)
def preTOff (S : Settings) (sg : Nat) : Nat := S.raw (0x320006 + sg * 256) (dHvLv 24 12 sg)
def platIOff (S : Settings) (sg : Nat) : Nat := S.raw (0x320007 + sg * 256) (dHvLv 6 6 sg)
def platTmaxOff (S : Settings) (sg : Nat) : Nat := S.raw (0x320008 + sg * 256) (dHvLv 7 3 sg)
def deadT (S : Settings) (sg : Nat) : Nat := S.raw (0x320009 + sg * 256) (dHvLv 40 24 sg)
def desatTh (S : Settings) (sg : Nat) : Nat := S.raw (0x32000a + sg * 256) (dHvLv 18 6 sg)
def desatBlank (S : Settings) (sg : Nat) : Nat := S.raw (0x32000b + sg * 256) (dHvLv 16 10 sg)
def didtTh (S : Settings) (sg : Nat) : Nat := S.raw (0x32000c + sg * 256) (dHvLv 16 8 sg)
def didtT (S : Settings) (sg : Nat) : Nat := S.raw (0x32000d + sg * 256) (dHvLv 4 2 sg)
def softLvl (S : Settings) (sg : Nat) : Nat := S.raw (0x32000e + sg * 256) 0x14
def softT (S : Settings) (sg : Nat) : Nat := S.raw (0x32000f + sg * 256) (dHvLv 10 4 sg)
def expertProfile (S : Settings) (sg : Nat) : Bool := S.raw (0x320010 + sg * 256) 0x0 == 1
def reedMode (S : Settings) : Nat := S.raw (0x321001) 0x0
def reedDeadband (S : Settings) : Nat := S.raw (0x321002) 0x4
def reedSatTime (S : Settings) : Nat := S.raw (0x321003) 0xa
def chTrim (S : Settings) (i : Nat) : Nat := S.raw (0x321101 + i / 128 * 256 + i % 128) 0x0
def machineType (S : Settings) (p : PortId) : Nat := S.raw (0x610001 + p.num * 0x80000) 0x0
def polePairs (S : Settings) (p : PortId) : Nat := S.raw (0x610002 + p.num * 0x80000) 0x4
def ratedTorque (S : Settings) (p : PortId) : Rat := realOfBits (S.raw (0x610003 + p.num * 0x80000) 0x0)
def ratedFlux (S : Settings) (p : PortId) : Rat := realOfBits (S.raw (0x610004 + p.num * 0x80000) 0x0)
def ratedSpeed (S : Settings) (p : PortId) : Rat := realOfBits (S.raw (0x610005 + p.num * 0x80000) 0x0)
def rs20 (S : Settings) (p : PortId) : Rat := realOfBits (S.raw (0x610006 + p.num * 0x80000) 0x0)
def ld (S : Settings) (p : PortId) : Rat := realOfBits (S.raw (0x610007 + p.num * 0x80000) 0x0)
def lq (S : Settings) (p : PortId) : Rat := realOfBits (S.raw (0x610008 + p.num * 0x80000) 0x0)
def psiM (S : Settings) (p : PortId) : Rat := realOfBits (S.raw (0x610009 + p.num * 0x80000) 0x0)
def ls (S : Settings) (p : PortId) : Rat := realOfBits (S.raw (0x61000a + p.num * 0x80000) 0x0)
def lr (S : Settings) (p : PortId) : Rat := realOfBits (S.raw (0x61000b + p.num * 0x80000) 0x0)
def lm (S : Settings) (p : PortId) : Rat := realOfBits (S.raw (0x61000c + p.num * 0x80000) 0x0)
def rr (S : Settings) (p : PortId) : Rat := realOfBits (S.raw (0x61000d + p.num * 0x80000) 0x0)
def response (S : Settings) (p : PortId) : Nat := S.raw (0x61000e + p.num * 0x80000) 0x1
def fswMax (S : Settings) (p : PortId) : Nat := S.raw (0x61000f + p.num * 0x80000) 0x18
def windingTempSrc (S : Settings) (p : PortId) : Nat := S.raw (0x610010 + p.num * 0x80000) 0x0
def speedSrc (S : Settings) (p : PortId) : Nat := S.raw (0x610011 + p.num * 0x80000) 0x0
def expertBands (S : Settings) (p : PortId) : Bool := S.raw (0x611001 + p.num * 0x80000) 0x0 == 1
def tBand1 (S : Settings) (p : PortId) : Nat := S.raw (0x611002 + p.num * 0x80000) 0xc8
def tBand2 (S : Settings) (p : PortId) : Nat := S.raw (0x611003 + p.num * 0x80000) 0x258
def fluxBand (S : Settings) (p : PortId) : Nat := S.raw (0x611004 + p.num * 0x80000) 0x64
def sectorHys (S : Settings) (p : PortId) : Nat := S.raw (0x611005 + p.num * 0x80000) 0x5
def minDwell (S : Settings) (p : PortId) : Nat := S.raw (0x611006 + p.num * 0x80000) 0x2
def npBand (S : Settings) (p : PortId) : Nat := S.raw (0x611007 + p.num * 0x80000) 0x5
def npDevTrip (S : Settings) (p : PortId) : Nat := S.raw (0x611008 + p.num * 0x80000) 0x96
def fluxBlendHz (S : Settings) (p : PortId) : Rat := realOfBits (S.raw (0x611009 + p.num * 0x80000) 0x41200000)
def vfComp (S : Settings) (p : PortId) : Nat := S.raw (0x61100a + p.num * 0x80000) 0x5dc
def vlimOn (S : Settings) (p : PortId) : Nat := S.raw (0x61100b + p.num * 0x80000) 0x61
def vlimOff (S : Settings) (p : PortId) : Nat := S.raw (0x61100c + p.num * 0x80000) 0x5d
def fluxBuildT (S : Settings) (p : PortId) : Nat := S.raw (0x61100d + p.num * 0x80000) 0xc8
def initPulseT (S : Settings) (p : PortId) : Nat := S.raw (0x61100e + p.num * 0x80000) 0x8
def setShift (S : Settings) (p : PortId) : Nat := S.raw (0x612001 + p.num * 0x80000) 0x0
def lDiff (S : Settings) (p : PortId) : Rat := realOfBits (S.raw (0x612002 + p.num * 0x80000) 0x0)
def kdec (S : Settings) (p : PortId) : Nat := S.raw (0x612003 + p.num * 0x80000) 0x40
def idifMax (S : Settings) (p : PortId) : Nat := S.raw (0x612004 + p.num * 0x80000) 0x5a
def draftTable (S : Settings) (p : PortId) (i : Nat) : Nat := S.raw (0x618001 + p.num * 0x80000 + i) (dDraft i)
def portEnable (S : Settings) (p : PortId) : Bool := S.raw (0x600001 + p.num * 0x80000) 0x1 == 1
def controlMode (S : Settings) (p : PortId) : Nat := S.raw (0x600002 + p.num * 0x80000) 0x0
def direction (S : Settings) (p : PortId) : Int := toSigned 8 (S.raw (0x600003 + p.num * 0x80000) 0x1)
def releaseMode (S : Settings) (p : PortId) : Nat := S.raw (0x600004 + p.num * 0x80000) 0x0
def curveSrc (S : Settings) (p : PortId) : Nat := S.raw (0x601001 + p.num * 0x80000) 0x0
def curveN (S : Settings) (p : PortId) : Nat := S.raw (0x601002 + p.num * 0x80000) 0x2
def onThr (S : Settings) (p : PortId) : Rat := realOfBits (S.raw (0x601003 + p.num * 0x80000) 0x3f99999a)
def offThr (S : Settings) (p : PortId) : Rat := realOfBits (S.raw (0x601004 + p.num * 0x80000) 0x3f666666)
def curveFilt (S : Settings) (p : PortId) : Nat := S.raw (0x601005 + p.num * 0x80000) 0xa
def speedInput (S : Settings) (p : PortId) : Rat := realOfBits (S.raw (0x601006 + p.num * 0x80000) 0x0)
def speedInputTimeout (S : Settings) (p : PortId) : Nat := S.raw (0x601007 + p.num * 0x80000) 0x64
def driveRequest (S : Settings) (p : PortId) : Bool := S.raw (0x601008 + p.num * 0x80000) 0x0 == 1
def curveX (S : Settings) (p : PortId) (i : Nat) : Rat := realOfBits (S.raw (0x601101 + p.num * 0x80000 + i) (dCurve i))
def curveY (S : Settings) (p : PortId) (i : Nat) : Rat := realOfBits (S.raw (0x601201 + p.num * 0x80000 + i) (dCurve i))
def accel (S : Settings) (p : PortId) : Rat := realOfBits (S.raw (0x602001 + p.num * 0x80000) 0x43fa0000)
def decel (S : Settings) (p : PortId) : Rat := realOfBits (S.raw (0x602002 + p.num * 0x80000) 0x43fa0000)
def stopDecel (S : Settings) (p : PortId) : Rat := realOfBits (S.raw (0x602003 + p.num * 0x80000) 0x43fa0000)
def speedMax (S : Settings) (p : PortId) : Rat := realOfBits (S.raw (0x602004 + p.num * 0x80000) 0x453b8000)
def torqueLimMot (S : Settings) (p : PortId) : Nat := S.raw (0x602005 + p.num * 0x80000) 0x3e8
def torqueLimGen (S : Settings) (p : PortId) : Nat := S.raw (0x602006 + p.num * 0x80000) 0x3e8
def speedKp (S : Settings) (p : PortId) : Rat := realOfBits (S.raw (0x602007 + p.num * 0x80000) 0x41200000)
def speedTi (S : Settings) (p : PortId) : Rat := realOfBits (S.raw (0x602008 + p.num * 0x80000) 0x42c80000)
def speedLoopExpert (S : Settings) (p : PortId) : Bool := S.raw (0x602101 + p.num * 0x80000) 0x0 == 1
def torqueRef (S : Settings) (p : PortId) : Rat := realOfBits (S.raw (0x602102 + p.num * 0x80000) 0x0)
def torqueSlew (S : Settings) (p : PortId) : Nat := S.raw (0x602103 + p.num * 0x80000) 0xa
def standstillSpeed (S : Settings) (p : PortId) : Rat := realOfBits (S.raw (0x602104 + p.num * 0x80000) 0x40a00000)
def stopTimeout (S : Settings) (p : PortId) : Nat := S.raw (0x602105 + p.num * 0x80000) 0x1e
def ascSpeed (S : Settings) (p : PortId) : Rat := realOfBits (S.raw (0x603001 + p.num * 0x80000) 0x0)
def pairLinkFloor (S : Settings) (p : PortId) : Nat := S.raw (0x603002 + p.num * 0x80000) 0x384
def catchRevSpeed (S : Settings) (p : PortId) : Nat := S.raw (0x603003 + p.num * 0x80000) 0x5
def catchEmfMin (S : Settings) (p : PortId) : Nat := S.raw (0x603101 + p.num * 0x80000) 0x14
def lrTime (S : Settings) (p : PortId) : Nat := S.raw (0x603102 + p.num * 0x80000) 0x1f4
def lrTorque (S : Settings) (p : PortId) : Nat := S.raw (0x603103 + p.num * 0x80000) 0xc8
def lrHold (S : Settings) (p : PortId) : Nat := S.raw (0x603104 + p.num * 0x80000) 0x0
def obsConfMin (S : Settings) (p : PortId) : Nat := S.raw (0x603105 + p.num * 0x80000) 0x28
def obsFallback (S : Settings) (p : PortId) : Nat := S.raw (0x603106 + p.num * 0x80000) 0x0
def shareModule1 (S : Settings) (p : PortId) : Nat := S.raw (0x603107 + p.num * 0x80000) 0x32
def inputType (S : Settings) (n : Nat) : Nat := S.raw (0x250001 + n * 256) 0x0
def teeth (S : Settings) (n : Nat) : Nat := S.raw (0x250002 + n * 256) 0x48
def refType (S : Settings) (n : Nat) : Nat := S.raw (0x250003 + n * 256) 0x0
def gapN (S : Settings) (n : Nat) : Nat := S.raw (0x250004 + n * 256) 0x1
def dirMode (S : Settings) (n : Nat) : Nat := S.raw (0x250005 + n * 256) 0x0
def ratio (S : Settings) (n : Nat) : Rat := realOfBits (S.raw (0x250006 + n * 256) 0x3f800000)
def passMode (S : Settings) (n : Nat) : Nat := S.raw (0x250007 + n * 256) 0x1
def filterN (S : Settings) (n : Nat) : Nat := S.raw (0x350001 + n * 256) 0x8
def edgeSel (S : Settings) (n : Nat) : Bool := S.raw (0x350002 + n * 256) 0x0 == 1
def pwSplit (S : Settings) (n : Nat) : Nat := S.raw (0x350003 + n * 256) 0x4b
def pwMin (S : Settings) (n : Nat) : Nat := S.raw (0x350004 + n * 256) 0x14
def pwMax (S : Settings) (n : Nat) : Nat := S.raw (0x350005 + n * 256) 0xc8
def bFwdLevel (S : Settings) (n : Nat) : Bool := S.raw (0x350006 + n * 256) 0x1 == 1
def speedAvg (S : Settings) (n : Nat) : Nat := S.raw (0x350007 + n * 256) 0x8
def zeroTimeout (S : Settings) (n : Nat) : Nat := S.raw (0x350008 + n * 256) 0x1f4
def refAngle (S : Settings) (n : Nat) : Nat := S.raw (0x350009 + n * 256) 0x0
def flankOffset (S : Settings) (n : Nat) : Nat := S.raw (0x35000a + n * 256) 0x80
def plausTol (S : Settings) (n : Nat) : Nat := S.raw (0x35000b + n * 256) 0xa
def finePreset (S : Settings) (i : Nat) : Nat := S.raw (0x260001 + i) 0x0
def isoMode (S : Settings) : Nat := S.raw (0x260101) 0x1
def isoWarnKohm (S : Settings) : Nat := S.raw (0x260102) 0x1f4
def isoAlarmKohm (S : Settings) : Nat := S.raw (0x260103) 0x96
def ainRange (S : Settings) (i : Nat) : Nat := S.raw (0x260201 + i) 0x1
def fineOrder (S : Settings) (i : Nat) : Nat := S.raw (0x360001 + i) 0x4
def fineOsr (S : Settings) (i : Nat) : Nat := S.raw (0x360101 + i) 0x400
def avgN (S : Settings) (i : Nat) : Nat := S.raw (0x360201 + i) 0x1
def notchHz (S : Settings) (i : Nat) : Rat := realOfBits (S.raw (0x360301 + i) 0x0)
def notchQ (S : Settings) (i : Nat) : Nat := S.raw (0x360401 + i) 0x14
def expertFine (S : Settings) (i : Nat) : Bool := S.raw (0x360501 + i) 0x0 == 1
def compHi (S : Settings) (i : Nat) : Rat := realOfBits (S.raw (0x360601 + i) (dCompHi i))
def compLo (S : Settings) (i : Nat) : Rat := realOfBits (S.raw (0x360701 + i) (dCompLo i))
def compHys (S : Settings) (i : Nat) : Rat := realOfBits (S.raw (0x360801 + i) (dCompHys i))
def compFilt (S : Settings) (i : Nat) : Nat := S.raw (0x360901 + i) 0x2
def compAction (S : Settings) (i : Nat) : Nat := S.raw (0x360a01 + i) (dCompAction i)
def muxResults (S : Settings) : Nat := S.raw (0x361001) 0x10
def muxMask (S : Settings) : Nat := S.raw (0x361002) 0xff
def testLevel (S : Settings) : Nat := S.raw (0x361101) 0x4b
def isumTol (S : Settings) : Rat := realOfBits (S.raw (0x361102) 0x41a00000)
def isoAlarmReact (S : Settings) : Nat := S.raw (0x361103) 0x0
def form (S : Settings) (k : Nat) : Nat := S.raw (0x370001 + k * 256) (dSlotForm k)
def period (S : Settings) (k : Nat) : Nat := S.raw (0x370002 + k * 256) (dSlotPeriod k)
def phaseBeat (S : Settings) (k : Nat) : Nat := S.raw (0x370003 + k * 256) 0x0
def sampleTick (S : Settings) (k : Nat) : Nat := S.raw (0x370004 + k * 256) (dSlotTick k)
def latency (S : Settings) (k : Nat) : Nat := S.raw (0x370005 + k * 256) (dSlotLat k)
def refSrc (S : Settings) (k : Nat) : Nat := S.raw (0x370006 + k * 256) 0x1
def fbSrc (S : Settings) (k : Nat) : Nat := S.raw (0x370007 + k * 256) 0x0
def expB (S : Settings) (k : Nat) : Int := toSigned 8 (S.raw (0x370008 + k * 256) 0x0)
def bCoef (S : Settings) (k : Nat) (i : Nat) : Int := toSigned 32 (S.raw (0x370009 + k * 256 + i) 0x0)
def expA (S : Settings) (k : Nat) : Int := toSigned 8 (S.raw (0x37000d + k * 256) 0x0)
def aCoef (S : Settings) (k : Nat) (i : Nat) : Int := toSigned 32 (S.raw (0x37000e + k * 256 + i) 0x0)
def clampHi (S : Settings) (k : Nat) : Int := toSigned 32 (S.raw (0x370011 + k * 256) 0x7fffff)
def clampLo (S : Settings) (k : Nat) : Int := toSigned 32 (S.raw (0x370012 + k * 256) 0xff800000)
def awMode (S : Settings) (k : Nat) : Nat := S.raw (0x370013 + k * 256) 0x0
def openMode (S : Settings) (k : Nat) : Nat := S.raw (0x370014 + k * 256) 0x0
def openValue (S : Settings) (k : Nat) : Int := toSigned 32 (S.raw (0x370015 + k * 256) 0x0)
def trackSrc (S : Settings) (k : Nat) : Nat := S.raw (0x370016 + k * 256) 0x0
def slotCmd (S : Settings) (i : Nat) : Nat := S.raw (0x372001 + i) 0x0
def refValue (S : Settings) (i : Nat) : Int := toSigned 32 (S.raw (0x372101 + i) 0x0)
def convMode (S : Settings) : Nat := S.raw (0x280001) 0x1
def linkSet (S : Settings) : Nat := S.raw (0x280002) 0x5dc
def supplyStart (S : Settings) : Bool := S.raw (0x280003) 0x1 == 1
def batIDisLim (S : Settings) : Nat := S.raw (0x280101) 0x32
def batIChgLim (S : Settings) : Nat := S.raw (0x280102) 0x32
def batVMax (S : Settings) : Nat := S.raw (0x280103) 0x546
def batVMin (S : Settings) : Nat := S.raw (0x280104) 0x258
def batIRef (S : Settings) : Int := toSigned 16 (S.raw (0x280105) 0x0)
def auxVSet (S : Settings) : Nat := S.raw (0x282001) 0xac8
def auxSlew (S : Settings) : Nat := S.raw (0x282002) 0xa
def syncSrc (S : Settings) : Nat := S.raw (0x282003) 0x0
def syncOffset (S : Settings) : Nat := S.raw (0x282004) 0x0
def auxFsw (S : Settings) : Nat := S.raw (0x282005) 0x190
def batauxDisLim (S : Settings) : Nat := S.raw (0x283001) 0x28
def batauxCutoff (S : Settings) : Nat := S.raw (0x283002) 0xb4
def convPeriodT (S : Settings) : Nat := S.raw (0x380001) 0x1f40
def convShedP (S : Settings) : Nat := S.raw (0x380002) 0x64
def fcKbal (S : Settings) : Nat := S.raw (0x380003) 0x14
def fcShiftMax (S : Settings) : Nat := S.raw (0x380004) 0x14
def fcDevTrip (S : Settings) : Nat := S.raw (0x380005) 0x78
def convIPhMax (S : Settings) : Nat := S.raw (0x380006) 0x1a4
def linkRamp (S : Settings) : Nat := S.raw (0x380007) 0x32
def batLimitTimeout (S : Settings) : Nat := S.raw (0x380008) 0x1f4
def batIFallback (S : Settings) : Nat := S.raw (0x380009) 0x32
def auxShedI (S : Settings) : Nat := S.raw (0x382001) 0x28
def auxStepDidt (S : Settings) : Nat := S.raw (0x382002) 0x14
def auxOvPct (S : Settings) : Nat := S.raw (0x382003) 0x73
def chgCmd (S : Settings) : Nat := S.raw (0x290001) 0x0
def chgISet (S : Settings) : Nat := S.raw (0x290002) 0x0
def chgVSet (S : Settings) : Nat := S.raw (0x290003) 0x258
def gridVNom (S : Settings) : Nat := S.raw (0x290004) 0x190
def gridVregFloor (S : Settings) : Nat := S.raw (0x290005) 0x5a
def gridPMax (S : Settings) : Nat := S.raw (0x290006) 0x96
def chgIEnd (S : Settings) : Nat := S.raw (0x290007) 0x0
def chgWdTime (S : Settings) : Nat := S.raw (0x290101) 0xa
def bchgCmd (S : Settings) : Nat := S.raw (0x291001) 0x0
def bchgEnable (S : Settings) : Bool := S.raw (0x291002) 0x1 == 1
def bchgCapAh (S : Settings) : Nat := S.raw (0x291003) 0x28
def bchgRate (S : Settings) : Nat := S.raw (0x291004) 0x32
def bchgTrickle (S : Settings) : Nat := S.raw (0x291005) 0x3
def lampMode (S : Settings) : Nat := S.raw (0x292001) 0x0
def lampHostChg (S : Settings) : Nat := S.raw (0x292002) 0x0
def lampHostFlt (S : Settings) : Nat := S.raw (0x292003) 0x0
def gridVregBw (S : Settings) : Nat := S.raw (0x390001) 0xa
def gridLinkKp (S : Settings) : Nat := S.raw (0x390002) 0x14
def gridIMax (S : Settings) : Nat := S.raw (0x390003) 0x104
def gridFsw (S : Settings) : Nat := S.raw (0x390004) 0x10
def gridQRef (S : Settings) : Int := toSigned 8 (S.raw (0x390005) 0x0)
def gridRestartT (S : Settings) : Nat := S.raw (0x390006) 0xa
def chgRamp (S : Settings) : Nat := S.raw (0x390007) 0x32
def bchgDvCell (S : Settings) : Nat := S.raw (0x391001) 0xa
def bchgDtdt (S : Settings) : Nat := S.raw (0x391002) 0xa
def bchgDvHold (S : Settings) : Nat := S.raw (0x391003) 0x5
def bchgVCeil (S : Settings) : Nat := S.raw (0x391004) 0xa0
def bchgRestartV (S : Settings) : Nat := S.raw (0x391005) 0x82
def bchgTFold (S : Settings) : Nat := S.raw (0x391006) 0x28
def bchgTMax (S : Settings) : Nat := S.raw (0x391007) 0x32
def bchgTimerPct (S : Settings) : Nat := S.raw (0x391008) 0x96
def actRole (S : Settings) (n : Nat) : Nat := S.raw (0x2a0001 + n * 256) (dActRole n)
def actCmd (S : Settings) (n : Nat) : Nat := S.raw (0x2a0002 + n * 256) 0x0
def targetPos (S : Settings) (n : Nat) (i : Nat) : Int := toSigned 32 (S.raw (0x2a0003 + n * 256 + i) 0x0)
def outSrc (S : Settings) (n : Nat) : Nat := S.raw (0x2a0007 + n * 256) 0x3
def gearRatio (S : Settings) (n : Nat) : Rat := realOfBits (S.raw (0x2a0008 + n * 256) 0x3f800000)
def gearRatio2 (S : Settings) (n : Nat) : Rat := realOfBits (S.raw (0x2a0009 + n * 256) 0x3f800000)
def parkSpeed (S : Settings) (n : Nat) : Rat := realOfBits (S.raw (0x2a000a + n * 256) 0x41200000)
def diffSyncTol (S : Settings) (n : Nat) : Rat := realOfBits (S.raw (0x2a000b + n * 256) 0x41a00000)
def actIPeak (S : Settings) (n : Nat) : Nat := S.raw (0x3a0001 + n * 256) 0x3c
def actICont (S : Settings) (n : Nat) : Nat := S.raw (0x3a0002 + n * 256) 0x19
def moveIPack (S : Settings) (n : Nat) : Nat := S.raw (0x3a0003 + n * 256) 0x281400
def actSpeed (S : Settings) (n : Nat) : Nat := S.raw (0x3a0004 + n * 256) 0x190
def slowSpeed (S : Settings) (n : Nat) : Nat := S.raw (0x3a0005 + n * 256) 0x64
def slowZonePack (S : Settings) (n : Nat) : Nat := S.raw (0x3a0006 + n * 256) 0x402
def stallI (S : Settings) (n : Nat) : Nat := S.raw (0x3a0007 + n * 256) 0xa
def stallTime (S : Settings) (n : Nat) : Nat := S.raw (0x3a0008 + n * 256) 0x14
def backoffPack (S : Settings) (n : Nat) : Nat := S.raw (0x3a0009 + n * 256) 0x20202
def opTMax (S : Settings) (n : Nat) : Nat := S.raw (0x3a000a + n * 256) 0x3e8
def endMaskPack (S : Settings) (n : Nat) : Nat := S.raw (0x3a000b + n * 256) (dEndMask n)
def homePos (S : Settings) (n : Nat) : Int := toSigned 32 (S.raw (0x3a000c + n * 256) 0x0)
def dipSlewPack (S : Settings) (n : Nat) : Nat := S.raw (0x3a000d + n * 256) 0x202
def syncRamp (S : Settings) (n : Nat) : Nat := S.raw (0x3a000e + n * 256) 0x1388
def syncTol (S : Settings) (n : Nat) : Nat := S.raw (0x3a000f + n * 256) 0xf
def syncTorque (S : Settings) (n : Nat) : Nat := S.raw (0x3a0010 + n * 256) 0x14
def dipTMaxPack (S : Settings) (n : Nat) : Nat := S.raw (0x3a0011 + n * 256) 0x006400c801f4012c
def shiftStillSpeed (S : Settings) (n : Nat) : Rat := realOfBits (S.raw (0x3a0012 + n * 256) 0x41a00000)
def diffWaitT (S : Settings) (n : Nat) : Nat := S.raw (0x3a0013 + n * 256) 0x7d0
def thTau (S : Settings) (n : Nat) : Nat := S.raw (0x3a0014 + n * 256) 0x78
def thPause (S : Settings) (n : Nat) : Nat := S.raw (0x3a0015 + n * 256) 0x46
def pauseMax (S : Settings) (n : Nat) : Nat := S.raw (0x3a0016 + n * 256) 0x1388
def wtType (S : Settings) (i : Nat) : Nat := S.raw (0x2b0001 + i) 0x0
def wtDerate (S : Settings) (i : Nat) : Nat := S.raw (0x2b0101 + i) 0x96
def wtMax (S : Settings) (i : Nat) : Nat := S.raw (0x2b0201 + i) 0xb4
def dieTDerate (S : Settings) : Nat := S.raw (0x3b0001) 0x96
def dtdtLim (S : Settings) : Nat := S.raw (0x3b0002) 0x28
def lctDerate (S : Settings) : Nat := S.raw (0x3b0003) 0x5f
def ptcTable (S : Settings) (i : Nat) : Nat := S.raw (0x3b1001 + i) ([0x1ae, 0x230, 0x28a, 0x2ee, 0x3d4, 0x4e2, 0x578, 0x618].getD i 0)
def tpPeriod (S : Settings) : Nat := S.raw (0x700001) 0x64
def resetSi (S : Settings) : Nat := S.raw (0x700002) 0xff
def resetDorid (S : Settings) : Nat := S.raw (0x700003) 0xffff
def siFilt (S : Settings) (i : Nat) : Nat := S.raw (0x700101 + i) 0x3
def siTp (S : Settings) (i : Nat) : Nat := S.raw (0x700201 + i) 0xff
def ifType (S : Settings) (k : Nat) : Nat := S.raw (0x701001 + k * 256) 0x0
def ifCh (S : Settings) (k : Nat) : Nat := S.raw (0x701002 + k * 256) 0xffffffff
def ifPolarity (S : Settings) (k : Nat) : Nat := S.raw (0x701003 + k * 256) 0x0
def ifDiscT (S : Settings) (k : Nat) : Nat := S.raw (0x701004 + k * 256) 0x64
def ifAction (S : Settings) (k : Nat) : Nat := S.raw (0x701005 + k * 256) 0x1
def ifScope (S : Settings) (k : Nat) : Nat := S.raw (0x701006 + k * 256) 0x3
def ifReset (S : Settings) (k : Nat) : Nat := S.raw (0x701007 + k * 256) 0x1
def ifDorid (S : Settings) (k : Nat) : Nat := S.raw (0x701008 + k * 256) 0x0
def safeSpeedSrc (S : Settings) (p : Nat) : Nat := S.raw (0x703001 + p * 256) 0x0
def safeXchkTol (S : Settings) (p : Nat) : Nat := S.raw (0x703002 + p * 256) 0xa
def safeXchkT (S : Settings) (p : Nat) : Nat := S.raw (0x703003 + p * 256) 0x64
def ss1Mode (S : Settings) (p : Nat) : Nat := S.raw (0x703004 + p * 256) 0x0
def ss1Decel (S : Settings) (p : Nat) : Rat := realOfBits (S.raw (0x703005 + p * 256) 0x447a0000)
def ss1DecelMon (S : Settings) (p : Nat) : Rat := realOfBits (S.raw (0x703006 + p * 256) 0x44480000)
def ss1Tol (S : Settings) (p : Nat) : Rat := realOfBits (S.raw (0x703007 + p * 256) 0x42480000)
def ss1Time (S : Settings) (p : Nat) : Nat := S.raw (0x703008 + p * 256) 0x1388
def ss1Standstill (S : Settings) (p : Nat) : Rat := realOfBits (S.raw (0x703009 + p * 256) 0x41200000)
def slsLim (S : Settings) (p : Nat) (i : Nat) : Rat := realOfBits (S.raw (0x70300a + p * 256 + i) ([0x42c80000, 0x43960000, 0x44160000, 0x447a0000].getD i 0))
def slsReact (S : Settings) (p : Nat) : Nat := S.raw (0x70300e + p * 256) 0x0
def sdiTol (S : Settings) (p : Nat) : Nat := S.raw (0x70300f + p * 256) 0x1c2
def sbcDelay (S : Settings) (p : Nat) : Nat := S.raw (0x703010 + p * 256) 0x0
def sbcReleaseT (S : Settings) (p : Nat) : Nat := S.raw (0x703011 + p * 256) 0x64
def soMode (S : Settings) (n : Nat) : Nat := S.raw (0x704001 + n * 256) 0x0
def soType (S : Settings) (n : Nat) : Nat := S.raw (0x704002 + n * 256) 0x0
def soPulse (S : Settings) (n : Nat) : Bool := S.raw (0x704003 + n * 256) 0x1 == 1
def soIf (S : Settings) (n : Nat) : Nat := S.raw (0x704004 + n * 256) 0x0
def dcRole (S : Settings) (c : Nat) : Nat := S.raw (0x710001 + c * 256) 0x0
def dcPort (S : Settings) (c : Nat) : Nat := S.raw (0x710002 + c * 256) 0x0
def dcConnId (S : Settings) (c : Nat) : Nat := S.raw (0x710003 + c * 256) 0x0
def dcNetId (S : Settings) (c : Nat) : Nat := S.raw (0x710004 + c * 256) 0x0
def dcLen (S : Settings) (c : Nat) : Nat := S.raw (0x710005 + c * 256) 0x8
def dcPeriod (S : Settings) (c : Nat) : Nat := S.raw (0x710006 + c * 256) 0x5
def dcTe (S : Settings) (c : Nat) : Nat := S.raw (0x710007 + c * 256) 0x14
def dcModule (S : Settings) (c : Nat) : Nat := S.raw (0x710008 + c * 256) 0x0
def doridHoldover (S : Settings) : Nat := S.raw (0x720001) 0x258
def proofT (S : Settings) : Nat := S.raw (0x720002) 0x258
def doridDomain (S : Settings) : Nat := S.raw (0x720003) 0x0
def nomRate (S : Settings) (i : Nat) : Nat := S.raw (0x2e0001 + i) 0x1f4
def dataRate (S : Settings) (i : Nat) : Nat := S.raw (0x2e0003 + i) 0x5
def canaFormat (S : Settings) : Nat := S.raw (0x2e0005) 0x0
def canTerm (S : Settings) : Nat := S.raw (0x2e0006) 0x0
def cancAddr (S : Settings) : Nat := S.raw (0x2e0007) 0xf0
def isoFunction (S : Settings) : Nat := S.raw (0x2e0008) 0x80
def isoFuncInst (S : Settings) : Nat := S.raw (0x2e0009) 0x0
def isoDevClass (S : Settings) : Nat := S.raw (0x2e000a) 0x0
def isoDcInst (S : Settings) : Nat := S.raw (0x2e000b) 0x0
def eth1Ip (S : Settings) : Nat := S.raw (0x2e1001) 0xc0a80a0a
def eth1Mask (S : Settings) : Nat := S.raw (0x2e1002) 0xffffff00
def eth1Gw (S : Settings) : Nat := S.raw (0x2e1003) 0x0
def eth1Role (S : Settings) : Nat := S.raw (0x2e1004) 0x1
def eth1Vlan (S : Settings) : Nat := S.raw (0x2e1005) 0x0
def timeRank (S : Settings) : Nat := S.raw (0x2e2001) 0xff
def canWarnLim (S : Settings) (i : Nat) : Nat := S.raw (0x3e0001 + i) 0x60
def busoffMode (S : Settings) : Nat := S.raw (0x3e0004) 0x0
def samplePoint (S : Settings) (i : Nat) : Nat := S.raw (0x3e0101 + i) ([0x50, 0x4b, 0x50, 0x4b].getD i 0)
def timeRefBase (S : Settings) : Nat := S.raw (0x3e0201) 0x10000
def timePropComp (S : Settings) : Nat := S.raw (0x3e0202) 0x0
def timeSlewMax (S : Settings) : Nat := S.raw (0x3e0203) 0x7d0
def txqPort (S : Settings) (i : Nat) : Nat := S.raw (0x3e0301 + i) (dTxqPort i)
def txqPrio (S : Settings) (i : Nat) : Nat := S.raw (0x3e0401 + i) (dTxqPrio i)
def classQ (S : Settings) (i : Nat) : Nat := S.raw (0x3e0501 + i) (dClassQ i)
def glCredits (S : Settings) : Nat := S.raw (0x3e0601) 0x8
def eth1Mcast (S : Settings) (i : Nat) : Nat := S.raw (0x3e0801 + i) 0x0
def rxCfg (S : Settings) (i : Nat) : Nat := S.raw (0x3e1001 + i / 128 * 256 + i % 128) 0xc0000000
def capSize (S : Settings) (n : Nat) : Nat := S.raw (0x3e4001 + n * 256) 0x0
def capMode (S : Settings) (n : Nat) : Nat := S.raw (0x3e4002 + n * 256) 0x0
def capPktWords (S : Settings) (n : Nat) : Nat := S.raw (0x3e4003 + n * 256) 0x170
def capPktTime (S : Settings) (n : Nat) : Nat := S.raw (0x3e4004 + n * 256) 0x64
def capDestIp (S : Settings) (n : Nat) : Nat := S.raw (0x3e4005 + n * 256) 0x0
def capDestPort (S : Settings) (n : Nat) : Nat := S.raw (0x3e4006 + n * 256) 0x0
def capSrc (S : Settings) (n : Nat) (i : Nat) : Nat := S.raw (0x3e4007 + n * 256 + i) 0x0

def hbConsumer (S : Settings) (i : Nat) : Nat := S.raw (0x101601 + i) 0x0
def hbProducer (S : Settings) (i : Nat) : Nat := S.raw (0x101701 + i) 0x64

def rpdoMap (S : Settings) (j : Nat) (i : Nat) : Nat := S.raw (0x160000 + j * 256 + i) 0x0

def tpdoTimer (S : Settings) (j : Nat) : Nat := S.raw (0x180005 + j * 256) 0x0
def tpdoMap (S : Settings) (j : Nat) (i : Nat) : Nat := S.raw (0x1a0000 + j * 256 + i) 0x0
def nodeNumber (S : Settings) : Nat := S.raw (0x200101) 0x1
def canopenId (S : Settings) (i : Nat) : Nat := S.raw (0x200102 + i) 0x10
def commitTime (S : Settings) : Nat := S.raw (0x2f0002) 0x0
def commitAlign (S : Settings) : Nat := S.raw (0x2f0003) 0xa
def lockTimeout (S : Settings) : Nat := S.raw (0x2f0004) 0x1e
def shadowView (S : Settings) : Bool := S.raw (0x2f0005) 0x0 == 1
def sessionIdle (S : Settings) : Nat := S.raw (0x2f2201) 0x12c
def bistPeriod (S : Settings) : Nat := S.raw (0x800001) 0x3e8
def injPoint (S : Settings) : Nat := S.raw (0x801001) 0x0
def injArg (S : Settings) : Nat := S.raw (0x801002) 0x0
def injValue (S : Settings) : Int := toSigned 32 (S.raw (0x801003) 0x0)
def injDuration (S : Settings) : Nat := S.raw (0x801004) 0x0
def autoReady (S : Settings) : Bool := S.raw (0x200003) 0x0 == 1
def fwOffset (S : Settings) : Nat := S.raw (0x901002) 0x0

end Cfg

/-- The defaults that follow the node-ID (Table 15.11, CiA 301): COB_ID_EMCY, and the COB-IDs of the first four PDOs of a port. -/
def nodeDefault (S : Settings) (ix sub dflt : Nat) : Nat :=
  let j := ix % 32
  let id := Cfg.canopenId S (j / 16)
  if ix = 0x1014 then 0x80 + Cfg.canopenId S (sub - 1)
  else if sub = 1 ∧ j % 16 < 4 ∧ 0x1400 ≤ ix ∧ ix ≤ 0x141F then 0x200 + 0x100 * (j % 16) + id
  else if sub = 1 ∧ j % 16 < 4 ∧ 0x1800 ≤ ix ∧ ix ≤ 0x181F then 0x180 + 0x100 * (j % 16) + id
  else dflt

def Cfg.cobIdEmcy (S : Settings) (i : Nat) : Nat := S.raw (0x101401 + i) (nodeDefault S 0x1014 (i + 1) 0)
def Cfg.rpdoComm (S : Settings) (j : Nat) (i : Nat) : Nat :=
  S.raw (0x140001 + j * 256 + i) (nodeDefault S (0x1400 + j) (i + 1) (dRpdo j i))
def Cfg.tpdoComm (S : Settings) (j : Nat) (i : Nat) : Nat :=
  S.raw (0x180001 + j * 256 + i) (nodeDefault S (0x1800 + j) (i + 1) (dTpdo j i))

end Sys2Proof.Machine
end

