-- ==== Sys2Proof/Machine/Ops.lean ====
section
/-!
DEFINITION. The named operations every family of commands shares: access to the parts of the state, time, the transmit
queues, the fault manager with its events and reactions, the gate commands of a stage shutdown, the module state, and the
answer to a host.
-/

namespace Sys2Proof.Machine

/-! ## Parts of the device -/

/-- The settings every computation of a beat uses: those in force at its tick 0 (R13, chapter 15), and the safety settings in
force (chapter 13). -/
abbrev Device.cfg (d : Device) : Settings := d.od.inBeat
abbrev Device.scfg (d : Device) : Settings := d.safety.image

def Device.now (d : Device) : Nanos := d.ctl.now

/-- Tick 0 of the next beat. -/
def Device.nextTick (d : Device) : Nanos := (d.now / 1000 + 1) * 1000

def Device.port (d : Device) : PortId → Port
  | .a => d.portA
  | .b => d.portB

def Device.onPort (p : PortId) (f : Port → Port) (d : Device) : Device :=
  match p with
  | .a => { d with portA := f d.portA }
  | .b => { d with portB := f d.portB }

def Device.eng (d : Device) (p : PortId) : Engine := (d.port p).eng

def Device.onEng (p : PortId) (f : Engine → Engine) (d : Device) : Device :=
  d.onPort p fun x => { x with eng := f x.eng }

def Device.island (d : Device) (i : Nat) : Island := d.gates.islands.getD i {}

def Device.onIsland (i : Nat) (f : Island → Island) (d : Device) : Device :=
  { d with gates := { d.gates with islands := d.gates.islands.modify i f } }

def Island.chan (x : Island) (k : Nat) : GateChan := x.chans.getD k {}

def Device.chan (d : Device) (g : Nat) : GateChan := (d.island (g / 8)).chan (g % 8)

def Device.onChan (g : Nat) (f : GateChan → GateChan) (d : Device) : Device :=
  d.onIsland (g / 8) fun x => { x with chans := x.chans.modify (g % 8) f }

def Device.stage (d : Device) (sg : StageGroup) : Stage := d.gates.stages.getD sg.num {}

def Device.onStage (sg : StageGroup) (f : Stage → Stage) (d : Device) : Device :=
  { d with gates := { d.gates with stages := d.gates.stages.modify sg.num f } }

def Device.slot (d : Device) (k : Nat) : Slot := d.slots.getD k {}

def Device.onSlot (k : Nat) (f : Slot → Slot) (d : Device) : Device := { d with slots := d.slots.modify k f }

def Device.wheel (d : Device) (n : Nat) : Wheel := d.wheels.getD n {}

def Device.onWheel (n : Nat) (f : Wheel → Wheel) (d : Device) : Device := { d with wheels := d.wheels.modify n f }

def Device.act (d : Device) (n : Nat) : Actuator := d.acts.getD n {}

def Device.onAct (n : Nat) (f : Actuator → Actuator) (d : Device) : Device := { d with acts := d.acts.modify n f }

def Device.mchan (d : Device) (m : Nat) : MeasChan := d.meas.chans.getD m {}

def Device.onMchan (m : Nat) (f : MeasChan → MeasChan) (d : Device) : Device :=
  { d with meas := { d.meas with chans := d.meas.chans.modify m f } }

def Device.conn (d : Device) (c : Nat) : DoridConn := d.dorid.getD c {}

def Device.onConn (c : Nat) (f : DoridConn → DoridConn) (d : Device) : Device :=
  { d with dorid := d.dorid.modify c f }

def Device.canPort (d : Device) : CanPort → CanState
  | .canA => d.net.canA
  | .canB => d.net.canB
  | .canC => d.net.canC

def Device.onCan (p : CanPort) (f : CanState → CanState) (d : Device) : Device :=
  match p with
  | .canA => { d with net := { d.net with canA := f d.net.canA } }
  | .canB => { d with net := { d.net with canB := f d.net.canB } }
  | .canC => { d with net := { d.net with canC := f d.net.canC } }

def Safety.port (x : Safety) : PortId → PortSafety
  | .a => x.portA
  | .b => x.portB

def Device.psafe (d : Device) (p : PortId) : PortSafety := d.safety.port p

def Device.onPsafe (p : PortId) (f : PortSafety → PortSafety) (d : Device) : Device :=
  match p with
  | .a => { d with safety := { d.safety with portA := f d.safety.portA } }
  | .b => { d with safety := { d.safety with portB := f d.safety.portB } }

/-- Apply an operation to every number of a list in turn. -/
def Device.each (l : List α) (f : α → Device → Device) (d : Device) : Device := l.foldl (fun d a => f a d) d

/-- The counter behind the free values moves on (log entry 3). -/
def Device.draw (d : Device) : Device := { d with fresh := d.fresh + 1 }

/-! ## Numbers -/

/-- Addition on a counter of n bits that wraps. -/
def addWrap (n a b : Nat) : Nat := (a + b) % 2 ^ n

/-- Addition on a counter that saturates. -/
def addSat (top a b : Nat) : Nat := min top (a + b)

def clampRat (lo hi x : Rat) : Rat := max lo (min hi x)

def clampInt (lo hi x : Int) : Int := max lo (min hi x)

def ratAbs (x : Rat) : Rat := if x < 0 then -x else x

def ratSign (x : Rat) : Rat := if x < 0 then -1 else if x = 0 then 0 else 1

/-! ## Injections at the detectors (R428, Table 16.6; log entry 57) -/

/-- The points of the islands and of the control plane: their injections act from tick 0 of the next beat, all others from the
next evaluation of the detector. -/
def controlPoint (point : Nat) : Bool := point == 0x0102 || point == 0x0105 || (decide (0x0201 ≤ point) && decide (point ≤ 0x0A02))

def Injection.acts (now : Nanos) (i : Injection) : Bool := !controlPoint i.point || decide (i.armedAt < now)

/-- The injections that act at a point for a scope number. -/
def Device.injected (d : Device) (point arg : Nat) : List Injection :=
  d.inj.active.filter fun i => i.point == point && i.arg == arg && i.acts d.now

/-- The same at a point that names no scope number. -/
def Device.injectedAt (d : Device) (point : Nat) : List Injection :=
  d.inj.active.filter fun i => i.point == point && i.acts d.now

/-- A detector's input is forced. -/
def Device.forced (d : Device) (point arg : Nat) : Bool := !(d.injected point arg).isEmpty
def Device.forcedAt (d : Device) (point : Nat) : Bool := !(d.injectedAt point).isEmpty

/-- INJ_VALUE, added at a detector in the unit of what the detector measures. -/
def injSum (l : List Injection) : Rat := ((l.map fun i => i.value).sum : Int)

/-- An injection whose INJ_VALUE selects one of a point's detectors. -/
def injPicks (l : List Injection) (k : Nat) : Bool := l.any fun i => i.value == (k : Int)

/-- The code of a computed value: the value itself where it is a whole number, else one of its two neighbours (the spec
names no rounding). -/
def roundCode (x : Rat) : Int := if x.den = 1 then x.num else x.floor + (if Config.roundUp x then 1 else 0)

/-- Rounding to nearest, ties away from zero (R194). -/
def roundAway (x : Rat) : Int := if x < 0 then -((-x + 1 / 2).floor) else (x + 1 / 2).floor

/-- Move from x towards a target by at most a step. -/
def slew (x target step : Rat) : Rat :=
  if x < target then min target (x + step) else max target (x - step)

/-- Bytes of a number, little-endian (R383), and back. -/
def leBytes : Nat → Nat → List Byte
  | 0, _ => []
  | n + 1, v => BitVec.ofNat 8 v :: leBytes n (v / 256)

def leNat : List Byte → Nat
  | [] => 0
  | b :: rest => b.toNat + 256 * leNat rest

/-- Module time after a count of milliseconds or seconds. -/
def ms (n : Nat) : Nat := n * 1000000
def sec (n : Nat) : Nat := n * 1000000000

/-- A condition that began at a recorded module time has held for a count of nanoseconds. -/
def lasted (now : Nanos) (since : Option Nanos) (n : Nat) : Bool :=
  match since with
  | some t => decide (t + n ≤ now)
  | none => false

/-- A watched condition has held for n ns. -/
def Device.held (d : Device) (w : Watch) (n : Nat) : Bool := lasted d.now (d.watch.lookup w) n

/-- A condition holds from a module time on; its start is kept while it does. -/
def since (now : Nanos) (on : Bool) (old : Option Nanos) : Option Nanos := if on then some (old.getD now) else none

/-- A condition has held for more than n ns. -/
def overdue (now : Nanos) (since : Option Nanos) (n : Nat) : Bool :=
  match since with
  | some t => decide (t + n < now)
  | none => false

/-- A periodic action is due: its period has passed since the last one, or there was none. -/
def due (now : Nanos) (last : Option Nanos) (n : Nat) : Bool :=
  match last with
  | some t => decide (t + n ≤ now)
  | none => true

/-- An arrival that lost to a timeout for which no rule names a counter (R17, R417). -/
def lateMisc (late : Bool) (d : Device) : Device :=
  if late then { d with cross := { d.cross with lateMisc := addWrap 32 d.cross.lateMisc 1 } } else d

/-! ## Arbiters (R418, R419) -/

/-- The requester an arbiter serves next: of the highest rank that asks (the lowest number) the first in rotation after the one of
that rank served last. -/
def arbNext (served reqs : List (Nat × Nat)) : Option (Nat × Nat) :=
  match (reqs.map Prod.fst).min? with
  | none => none
  | some r =>
    let ns := (reqs.filter fun w => w.1 == r).map Prod.snd
    let after := match served.lookup r with
      | some k => ns.filter fun n => decide (k < n)
      | none => []
    ((if after.isEmpty then ns else after).min?).map fun n => (r, n)

/-- The requester served is remembered for its rank. -/
def arbServed (w : Nat × Nat) (served : List (Nat × Nat)) : List (Nat × Nat) := w :: served.filter fun e => e.1 != w.1

/-- A requester that loses at a resource waits and retries: RETRY_COUNT of the resource (R418). -/
def countRetry (rrrr n : Nat) (d : Device) : Device :=
  { d with cross := { d.cross with retry := d.cross.retry.modify (rrrr - 1) fun x => addWrap 16 x n } }

/-- The crypto engine is asked for: it is free and serves at once, or the requester waits (Table 16.3). -/
def cryptoAsk (w : Nat × Nat) (d : Device) : Device :=
  let c := d.cross.crypto
  if c.holder.isNone then
    { d with cross := { d.cross with crypto := { c with holder := some w, served := arbServed w c.served } } }
  else countRetry 0x10 1 { d with cross := { d.cross with crypto := { c with waiting := c.waiting ++ [w] } } }

/-- A requester gives the engine up, or stops waiting; the next one is served. -/
def cryptoFree (w : Nat × Nat) (d : Device) : Device :=
  let c := d.cross.crypto
  let rest := c.waiting.filter fun e => e != w
  if c.holder != some w then { d with cross := { d.cross with crypto := { c with waiting := rest } } }
  else match arbNext c.served rest with
    | none => { d with cross := { d.cross with crypto := { c with holder := none, waiting := [] } } }
    | some n => { d with cross := { d.cross with crypto := {
        holder := some n, waiting := rest.filter fun e => e != n, served := arbServed n c.served } } }

/-! ## CRC (R323, R53) -/

/-- One bit of the reflected CRC-32C register. -/
def crc32cBit (c : BitVec 32) : BitVec 32 := if c.getLsbD 0 then (c >>> 1) ^^^ 0x82F63B78#32 else c >>> 1

/-- One byte. -/
def crc32cByte (c : BitVec 32) (b : Byte) : BitVec 32 :=
  let x := c ^^^ (b.setWidth 32)
  crc32cBit (crc32cBit (crc32cBit (crc32cBit (crc32cBit (crc32cBit (crc32cBit (crc32cBit x)))))))

/-- CRC-32C with the parameters of R323. -/
def crc32c (bytes : List Byte) : BitVec 32 := (bytes.foldl crc32cByte 0xFFFFFFFF#32) ^^^ 0xFFFFFFFF#32

/-! ## Measured values -/

/-- 100 % of range of a channel in its unit (Table 6.1; M37-M40 by AIN_RANGE, Table 18.10). -/
def Device.chanRange (d : Device) (m : Nat) : Rat :=
  if 37 ≤ m ∧ m ≤ 40 then
    match Cfg.ainRange d.cfg (m - 37) with
    | 0 => 25 / 4
    | 1 => 25 / 2
    | _ => 25
  else chanRangeDefault m

/-- The value the control plane latched last from a channel, in its unit (R158). -/
def Device.latchedVal (d : Device) (m : Nat) : Rat := (d.mchan m).latched * d.chanRange m / 32767

/-- The fast-path word of a channel in its unit (R159). -/
def Device.fastVal (d : Device) (m : Nat) : Rat := (d.mchan m).fastValue * d.chanRange m / 32767

/-- MEAS_VALUE: the fine result in the channel unit (R169). -/
def Device.fineVal (d : Device) (m : Nat) : Rat := (d.mchan m).value

/-- V_LINK: the lower of the two redundant DC link channels, as latched (R27, R78). -/
def Device.vLink (d : Device) : Rat := min (d.latchedVal 6) (d.latchedVal 7)

/-- The DC link on both fine channels, the lower one. -/
def Device.linkFine (d : Device) : Rat := min (d.fineVal 6) (d.fineVal 7)

/-! ## Transmit queues (R349-R353) -/

/-- Message classes that are cyclic: dropped where the queue is full (R350). -/
def cyclicClass (c : Nat) : Bool := (1 ≤ c && c ≤ 7) || (10 ≤ c && c ≤ 12)

/-- A frame enters the queue of its class; a full queue drops a cyclic frame and lets a response wait (R350). -/
def txEnqueue (f : TxFrame) (d : Device) : Device :=
  let q := if f.cls = 0 then 0 else Cfg.classQ d.cfg f.cls
  if Cfg.txqPort d.cfg q = 0xFF then d
  else
    let x := d.net.txq.getD q {}
    let f := { f with time := d.now }
    if x.frames.length < 64 then
      { d with net := { d.net with txq := d.net.txq.modify q fun x => { x with frames := x.frames ++ [f] } } }
    else if cyclicClass f.cls then
      { d with net := { d.net with
          txq := d.net.txq.modify q fun x => { x with full := true, drop := addWrap 32 x.drop 1 } } }
    else { d with net := { d.net with waiting := d.net.waiting ++ [f] } }

/-! ## Scopes -/

/-- The enable pin of a group as sampled. -/
def Device.enablePin (d : Device) : EnableGroup → Bool
  | .enA => d.ctl.enA
  | .enB => d.ctl.enB
  | .enConv => d.ctl.enConv
  | .enAux => d.ctl.enAux

/-! ## The fault manager: events, reactions (R24-R26, R394) -/

/-- Append an event, or drop it where 64 wait (R394). -/
def pushEvent (e : Event) (d : Device) : Device :=
  if d.faults.events.length < 64 then
    { d with faults := { d.faults with
        events := d.faults.events ++ [{ e with lostBefore := d.faults.lostFlag }], lostFlag := false } }
  else { d with faults := { d.faults with lost := addWrap 32 d.faults.lost 1, lostFlag := true } }

/-- The highest reaction among the active faults (MODULE_STATUS.REACTION). -/
def FaultMgr.highest (x : FaultMgr) : Nat := x.active.foldl (fun m e => max m e.reaction) 0

/-- ACTIVE_FAULT: the fault that set the highest reaction, the lower code on a tie (Table 16.3); 0 with none. -/
def FaultMgr.activeFault (x : FaultMgr) : W16 :=
  match (x.active.filter fun e => e.reaction == x.highest).map fun e => e.name.code with
  | [] => 0
  | c :: rest => rest.foldl (fun a b => if b.toNat < a.toNat then b else a) c

/-- ERROR_REGISTER (R405, Table 15.11). -/
def FaultMgr.errorRegister (x : FaultMgr) : Nat :=
  (if x.active.isEmpty then 0 else 1) + (if x.active.any fun e => e.name.thermal then 8 else 0)
    + (if x.active.any fun e => e.name.network then 16 else 0)
    + (if 3 ≤ x.highest then 128 else 0)

/-- The EMCY message of an event with a reaction, on one CANopen port (R394): error code 0xFF00, the error register, then
fault code, reaction and scope number in the manufacturer bytes (log entry 12 for their order). -/
def emcyOn (onB : Bool) (f : FaultName) (r : Nat) (sc : Scope) (d : Device) : Device :=
  let port := if onB then d.net.canB else d.net.canA
  if port.conf = 3 ∨ port.conf = 2 then d
  else txEnqueue { cls := if onB then 5 else 4, ident := Cfg.cobIdEmcy d.cfg (if onB then 1 else 0),
                   data := leBytes 2 0xFF00 ++ [BitVec.ofNat 8 d.faults.errorRegister] ++ leBytes 2 f.code.toNat
                     ++ leBytes 1 r ++ leBytes 2 sc.number } d

def emcy (f : FaultName) (r : Nat) (sc : Scope) (d : Device) : Device :=
  emcyOn true f r sc (emcyOn false f r sc d)

/-- The event and the message of a raising, a raise of the reaction or a clearing (R394): kind 0 raised, 1 cleared. -/
def report (kind : Nat) (f : FaultName) (r : Nat) (sc : Scope) (d : Device) : Device :=
  let d := { d with faults := { d.faults with lastReport := (f.code, r) } }
  emcy f r sc (pushEvent { time := d.now, code := f.code, reaction := r, kind := kind, lostBefore := false,
                           scope := sc.code, number := sc.number } d)

def Device.entry? (d : Device) (f : FaultName) (sc : Scope) : Option FaultEntry :=
  d.faults.active.find? fun e => e.name == f && e.scope == sc

def Device.active (d : Device) (f : FaultName) : Bool := d.faults.active.any fun e => e.name == f

def Device.activeAt (d : Device) (f : FaultName) (sc : Scope) : Bool := (d.entry? f sc).isSome

/-- The reaction in force on a stage (R25): the highest of the faults that act on it. -/
def Device.reaction (d : Device) (sg : StageGroup) : Nat :=
  d.faults.active.foldl (fun m e => e.acts.foldl (fun m a => if a.1.touches sg then max m a.2 else m) m) 0

/-- The reaction that keeps a stage from being re-armed: an OVERRUN is cleared by the re-arming itself (R205). -/
def Device.armReaction (d : Device) (sg : StageGroup) : Nat :=
  d.faults.active.foldl (fun m e =>
    if e.name == .overrun then m else e.acts.foldl (fun m a => if a.1.touches sg then max m a.2 else m) m) 0

/-- The reaction in force at module scope. -/
def Device.moduleReaction (d : Device) : Nat :=
  d.faults.active.foldl (fun m e => e.acts.foldl (fun m a => if a.1 == .module then max m a.2 else m) m) 0

/-- Whether a latched fault lies in a port's scope: the port, its stage group, or one of its islands or channels
(Table 4.2), whatever its reaction; a latched fault at module scope does not count. -/
def Device.portLatched (d : Device) (p : PortId) : Bool :=
  d.faults.active.any fun e => e.name.latched && e.acts.any fun a => a.1 != .module && a.1.touches p.stage

/-! ## Positions of a traction port (Table 2.1, Table 3.2) -/

/-- Island of a position: OU 0, IU 1, IL 2, OL 3, CU 4, CL 5. -/
def posIsland (p : PortId) (ph : Phase) (pos : Nat) : Nat := 18 * p.num + 6 * ph.num + pos

/-- Positions that are on in a level (Table 3.2). -/
def PhaseLevel.on : PhaseLevel → List Nat
  | .allOff => []
  | .p => [0, 1, 5]
  | .oPlus => [1, 4, 5]
  | .oMinus => [2, 4, 5]
  | .n => [2, 3, 4]
  | .innerP => [1, 5]
  | .innerO => [1, 2, 4, 5]
  | .innerN => [2, 4]

/-- The level a leg is left in once its outer positions have turned off (R59). -/
def PhaseLevel.inner : PhaseLevel → PhaseLevel
  | .allOff => .allOff
  | .p | .innerP => .innerP
  | .oPlus | .oMinus | .innerO => .innerO
  | .n | .innerN => .innerN

/-- Only inner and clamp positions are on. -/
def PhaseLevel.isInner : PhaseLevel → Bool
  | .innerP | .innerO | .innerN => true
  | _ => false

/-- The complementary position (R51): OU/CU, IU/IL, OL/CL. -/
def complement (pos : Nat) : Nat := [4, 2, 1, 5, 0, 3].getD pos 0

def Engine.leg (e : Engine) : Phase → Leg
  | .u => e.legU
  | .v => e.legV
  | .w => e.legW

def Engine.onLeg (ph : Phase) (f : Leg → Leg) (e : Engine) : Engine :=
  match ph with
  | .u => { e with legU := f e.legU }
  | .v => { e with legV := f e.legV }
  | .w => { e with legW := f e.legW }

/-- Working dies of a position island (bit n of ISLAND_STATUS.WORKING). -/
def Island.working (x : Island) : Nat := (x.chans.filter fun c => !c.disabled).length

/-- Dies usable in a position: working and not in lock-out (R46). -/
def Island.usable (x : Island) : Nat := (x.chans.filter fun c => !c.disabled && !c.uvPos && !c.uvNeg).length

/-- Whether a position can be held on (R29): enough working dies, the warp link up, the island supply not locked out, no
die in DIE_OT, no position latched off by a trip (DEDUCED, log entry 20). -/
def Device.canHold (d : Device) (i need : Nat) : Bool :=
  let x := d.island i
  decide (need ≤ x.working) && x.link == 2 && x.chans.any (fun c => !c.uvPos && !c.uvNeg) && !x.otPending
    && x.chans.all (fun c => !c.heldOff)

/-- Whether the lower (false) or the upper set (true) can be held on (R29). -/
def Device.setHeld (d : Device) (p : PortId) (upper : Bool) : Bool :=
  phases.all fun ph =>
    if upper then d.canHold (posIsland p ph 0) 3 && d.canHold (posIsland p ph 1) 3 && d.canHold (posIsland p ph 5) 1
    else d.canHold (posIsland p ph 2) 3 && d.canHold (posIsland p ph 3) 3 && d.canHold (posIsland p ph 4) 1

/-! ## The safe-state rule (R27-R29, R128) -/

/-- Electrical angular speed in rad/s of a mechanical speed in rpm. -/
def Device.omega (d : Device) (p : PortId) (n : Rat) : Rat := Cfg.polePairs d.cfg p * n * 2 * Config.pi / 60

/-- All gates of a port are off as commanded. -/
def Engine.allOff (e : Engine) : Bool := phases.all fun ph => (e.leg ph).level == .allOff

/-- Reading of the wheel a port uses as SPEED_SRC, converted to the motor shaft, where it is valid (R83, R148). -/
def Device.srcWheel (d : Device) (p : PortId) : Option Nat :=
  let x := d.port p
  let n := if x.obsFallback then Cfg.obsFallback d.cfg p else Cfg.speedSrc d.cfg p
  if n = 0 then none else if (d.wheel (n - 1)).beatReading then some (n - 1) else none

/-- Speed of a wheel at the shaft it serves: TW_SPEED holds RATIO (R143, R148). -/
def Device.wheelShaft (d : Device) (n : Nat) : Rat := (d.wheel n).speed

/-- The port speed of R128. -/
def Device.portSpeed (d : Device) (p : PortId) : Rat :=
  let x := d.port p
  match d.srcWheel p with
  | some n => d.wheelShaft n
  | none =>
    if x.eng.selecting || x.state == .asc || (x.state == .fault && x.faultAsc) then x.eng.speed
    else if x.eng.allOff && x.termValid then x.termSpeed
    else x.lastSpeed

/-- Squared flux parameter of R128: PSI_M for MACHINE_TYPE 1, |psi_r| for MACHINE_TYPE 2. -/
def Device.fluxSq (d : Device) (p : PortId) : Rat :=
  if Cfg.machineType d.cfg p = 1 then Cfg.psiM d.cfg p * Cfg.psiM d.cfg p
  else (d.eng p).psiR.1 * (d.eng p).psiR.1 + (d.eng p).psiR.2 * (d.eng p).psiR.2

/-- Back-EMF line-to-line peak above a voltage: √3 × |w_e| × flux > v, compared as squares (R128). -/
def Device.emfAbove (d : Device) (p : PortId) (n v : Rat) : Bool :=
  let w := d.omega p n
  decide (v < 0 ∨ v * v < 3 * w * w * d.fluxSq p)

/-- R27: the port is to take ASC. -/
def Device.wantsAscAt (d : Device) (p : PortId) (n : Rat) : Bool :=
  Cfg.machineType d.cfg p != 0 &&
    (d.emfAbove p n (9 / 10 * d.vLink) ||
      (decide (0 < Cfg.ascSpeed d.cfg p) && decide (Cfg.ascSpeed d.cfg p < ratAbs n)))

def Device.wantsAsc (d : Device) (p : PortId) : Bool := d.wantsAscAt p (d.portSpeed p)

/-- Back-EMF line-to-line peak below a voltage (R28). -/
def Device.emfBelowV (d : Device) (p : PortId) (n v : Rat) : Bool :=
  let w := d.omega p n
  decide (0 < v ∧ 3 * w * w * d.fluxSq p < v * v)

/-- The exit conditions of R28, apart from their 10 ms. -/
def Device.ascExitOk (d : Device) (p : PortId) : Bool :=
  let n := d.portSpeed p
  d.emfBelowV p n (85 / 100 * d.vLink) &&
    (Cfg.ascSpeed d.cfg p == 0 || decide (ratAbs n < 95 / 100 * Cfg.ascSpeed d.cfg p))

/-- The set ASC takes (R29): some false lower, some true upper, none where neither can be held on. -/
def Device.ascSet (d : Device) (p : PortId) : Option Bool :=
  if d.forced 0x0105 p.num then none else if d.setHeld p false then some false else if d.setHeld p true then some true else none

/-! ## Gate commands of the sequencer -/

/-- The sequencer sends commands to an island; they stand unacknowledged until the island takes them (R55). -/
def issue (i : Nat) (cmds : List (Fin 8 × Bool)) (d : Device) : Device :=
  d.onIsland i fun x =>
    let keep := match x.unacked with
      | none => []
      | some (old, _) => old.filter fun c => !(cmds.map Prod.fst).contains c.1
    { x with unacked := some (keep ++ cmds, 1) }

/-- All dies of a position island on or off. -/
def allDies (on : Bool) : List (Fin 8 × Bool) :=
  [(0, on), (1, on), (2, on), (3, on), (4, on), (5, on), (6, on), (7, on)]

/-- The sequencer commands a position at a time it has planned (R50). -/
def issuePosAt (t : Nanos) (on : Bool) (i : Nat) (d : Device) : Device :=
  (issue i (allDies on) d).onIsland i fun x => { x with issued := some (t, on) }

def issuePos (on : Bool) (i : Nat) (d : Device) : Device := issuePosAt d.now on i d

/-- The dies of a shared low-voltage island that belong to an actuator: channel G488 + 6n + p (Table 2.1). -/
def actChans (n : Nat) : List Nat := (List.range 6).map (· + (488 + 6 * n))

/-- The sequencer turns single channels off. -/
def issueChan (on : Bool) (g : Nat) (d : Device) : Device :=
  issue (g / 8) [(⟨g % 8, Nat.mod_lt _ (by decide)⟩, on)] d

/-! ## Stage shutdown (R59, F3) -/

/-- First part of the shutdown of a three-level leg: outer positions off, inner ones follow (R59). -/
def legOuterOff (p : PortId) (ph : Phase) (d : Device) : Device :=
  if ((d.eng p).leg ph).level = .allOff then
    d.onEng p (·.onLeg ph fun l => { l with plan := [], pending := none })
  else
    ((issuePos false (posIsland p ph 0) d |> issuePos false (posIsland p ph 3)).onEng p
      fun e =>
        let lvl := (e.leg ph).level.inner
        { e.onLeg ph fun l => { level := lvl, outerAt := some (l.outerAt.getD d.now) } with
          changesNow := e.changesNow ++ [(ph.num, 24, lvl)] })

/-- All switching by selection ends on a port; the last speed is kept for R128. -/
def portGatesStop (p : PortId) (d : Device) : Device :=
  d.onPort p fun x => { x with
    lastSpeed := if x.eng.selecting || x.state == .asc || (x.state == .fault && x.faultAsc) then x.eng.speed else x.lastSpeed
    termValid := false, revLoop := false, emfHist := []
    eng := { x.eng with selecting := false, initDone := false, selStart := none, holding := none, fluxBuild := false,
                        angleTest := none, fluxSince := none } }

/-- F3 on a traction port: outer positions off at once, the order of R59 begins. -/
def portOff (p : PortId) (d : Device) : Device :=
  (phases.foldl (fun d ph => legOuterOff p ph d) (portGatesStop p d)).onStage p.stage
    fun g => { g with order := if g.order = 0 then 1 else g.order, running := false }

/-- Slots of a stage that are held OPEN while it is stopped (Table 7.3). -/
def ownedSlots : StageGroup → List Nat
  | .portA => [0]
  | .portB => [1]
  | .conv => [2, 3, 4, 5, 6]
  | .grid => [7, 8, 9, 10]
  | .llcPri => [11]
  | .llcSec => []
  | .aux => [12, 13, 14, 15]
  | .act => [16, 17, 18, 19, 20, 21, 22, 23]

def openSlots (ks : List Nat) (d : Device) : Device :=
  d.each ks fun k => Device.onSlot k fun x => { x with mode := .opened, cmd := 0 }

/-- The battery converter stops: outer positions first (R59). -/
def convOff (d : Device) : Device :=
  let d := d.each [0, 1, 2] fun n d => issuePos false (36 + 4 * n) (issuePos false (36 + 4 * n + 3) d)
  let d := d.onStage .conv fun g => { g with order := if g.order = 0 then 1 else g.order, running := false, ramping := false }
  openSlots (ownedSlots .conv) { d with supply := { d.supply with
    conv := { d.supply.conv with
      running := false, loop := 0
      phases := d.supply.conv.phases.map fun x =>
        { x with active := false, precharging := false, preStart := none, returning := false, edges := []
                 outerAt := some (x.outerAt.getD d.now) } } } }

/-- The grid port stops; the state of the charge is set by its caller. -/
def gridOff (d : Device) : Device :=
  let d := d.each (StageGroup.islands .grid) (issuePos false)
  let d := d.onStage .grid fun g => { g with order := 3, running := false, ramping := false }
  openSlots (ownedSlots .grid) { d with chg := { d.chg with
    switching := false, pllLocked := false, iCmd := 0
    pGmax := 0, idRef := 0, iqRef := 0 } }

/-- The LLC stops: primary and secondary together. -/
def llcOff (d : Device) : Device :=
  let d := d.each [54, 55, 56, 57, 58] (issuePos false)
  let d := (d.onStage .llcPri fun g => { g with order := 3, running := false }).onStage .llcSec
    fun g => { g with order := 3, running := false }
  openSlots (ownedSlots .llcPri) { d with supply := { d.supply with
    llc := { d.supply.llc with
      running := false, burst := false, bursting := false, freq := 0, inRange := false, startConv := true } } }

/-- The auxiliary buck stops. -/
def auxOff (d : Device) : Device :=
  let d := d.each [59, 60] (issuePos false)
  let d := d.onStage .aux fun g => { g with order := 3, running := false }
  openSlots (ownedSlots .aux) { d with supply := { d.supply with
    aux := { d.supply.aux with running := false, active := List.replicate 8 false, syncLocked := false } } }

/-- Both positions of a buck phase turn off together. -/
def auxPhaseOff (k : Nat) (d : Device) : Device :=
  let d := issueChan false (473 + 2 * k) (issueChan false (472 + 2 * k) d)
  { d with supply := { d.supply with aux := { d.supply.aux with active := d.supply.aux.active.set k false } } }

/-- A drive's current is turned to 0: its six channels are off (log entry 80). -/
def actRelease (n : Nat) (d : Device) : Device :=
  (d.each (actChans n) (issueChan false)).onAct n fun x => { x with iRef := 0, duty := 0 }

/-- One actuator drive turns off; a running operation ends as aborted and the drive coasts (R260, R261). -/
def actOff (n : Nat) (d : Device) : Device :=
  (actRelease n d).onAct n fun x =>
    { x with cmd := none, diffWait := false, homing := false, returning := false,
             shift := if x.shift = 0 then 0 else 7, op := if x.op = .idle then .idle else .failed }

/-- HALL_FAULT holds a drive until valid codes have been read for 10 ms; then it may home (Table 10.5). -/
def Device.hallBlocked (d : Device) (n : Nat) : Bool :=
  d.activeAt .hallFault (.actuator n) && !lasted d.now (d.act n).hallOkFrom (ms 10)

/-- A drive is disabled by a lost die, a bootstrap supply in lock-out, HALL_FAULT or a latched fault (R260). -/
def Device.actDisabled (d : Device) (n : Nat) : Bool :=
  (actChans n).any (fun g => (d.chan g).disabled || (d.chan g).uvPos || (d.chan g).uvNeg) || d.hallBlocked n ||
    d.faults.active.any fun e => e.name.latched && e.acts.any fun a => decide (3 ≤ a.2) && (a.1 == .actuator n || a.1.touches .act)

/-- OP_STATE of a drive (Table 10.7). -/
def Device.actState (d : Device) (n : Nat) : OpState := if d.actDisabled n then .disabled else (d.act n).op

/-- A port that holds or takes its safe state. -/
def Device.portSafe (d : Device) (p : PortId) : Bool :=
  match (d.port p).state with
  | .sto | .asc | .fault => true
  | _ => false

/-- F3 on a port: a port that holds its safe state keeps it. -/
def portStop (p : PortId) (d : Device) : Device := if d.portSafe p then d else portOff p d

/-- The backup charger pauses with its timers held (R245). -/
def bchgPause (d : Device) : Device :=
  { d with bchg := match d.bchg.state with
      | .precharge | .fast | .trickle | .waitTemp => { d.bchg with
          resume := d.bchg.state, state := .paused, current := 0
          safetyRun := d.bchg.safetyRun + (match d.bchg.safetySince with | some t => d.now - t | none => 0)
          ceilRun := d.bchg.ceilRun + (match d.bchg.ceilSince with | some t => d.now - t | none => 0)
          safetySince := none, ceilSince := none }
      | _ => d.bchg }

/-- F3 on the LLC (R221): both stage groups stop; a stop while it ran counts. -/
def llcStop (d : Device) : Device :=
  let was := d.supply.llc.running
  let d := llcOff d
  if was then
    { d with supply := { d.supply with llc := { d.supply.llc with
        stops := (d.supply.llc.stops.filter fun t => decide (d.now < t + sec 10)) ++ [d.now], restart := some d.now } } }
  else d

/-- F3 on the grid port: the gates turn off at once; a charge that has not been told to end waits for a restart after an
unlatched fault, any other returns to IDLE (R237, R240). -/
def gridStop (latched : Bool) (d : Device) : Device :=
  let d := gridOff d
  match d.chg.state with
  | .idle | .complete | .lockedOut | .gridCheck => d
  | _ =>
    if latched || d.chg.ending.isSome || !d.chg.commanded then
      { d with chg := { d.chg with state := .idle, commanded := false, ending := none, step := 0 } }
    else { d with chg := { d.chg with state := .retryWait, step := 0, stepStart := d.now } }

/-- F3 on a stage (Table 1.7): its gates off in the order of R59. -/
def stageOff (latched : Bool) (sg : StageGroup) (d : Device) : Device :=
  match sg with
  | .portA => portStop .a d
  | .portB => portStop .b d
  | .conv => convOff d
  | .grid => gridStop latched d
  | .llcPri => llcStop d
  | .llcSec => llcStop d
  | .aux => auxOff d
  | .act => d.each [0, 1, 2, 3] actOff

/-! ## Module state -/

/-- The states in which the supply chain runs (R207). -/
def ModState.chainRuns : ModState → Bool
  | .standby | .ready | .run | .stopping | .service => true
  | _ => false

/-- End of proof-test mode: every injection is withdrawn (R340). -/
def proofEnd (d : Device) : Device :=
  if d.comm.state = .proof then
    let d := { d with comm := { d.comm with state := .none }, inj := { d.inj with active := [] } }
    if d.activeAt .proofTest .module then
      report 1 .proofTest 0 .module { d with faults := { d.faults with
        active := d.faults.active.filter fun e => !(e.name == .proofTest && e.scope == .module) } }
    else d
  else d

/-- The supply chain stops with everything it feeds (R207, R261). -/
def chainStop (d : Device) : Device :=
  let d := (bchgPause (convOff d)).each [0, 1, 2, 3] actOff
  let d := llcOff (auxOff d)
  { d with supply := { d.supply with
      chain := 0, llc := { d.supply.llc with restart := none }, aux := { d.supply.aux with startDue := false } } }

/-- The charge ends in IDLE with the grid port off (R235). -/
def chargeIdle (d : Device) : Device :=
  let d := if d.chg.switching then gridOff d else d
  { d with chg := { d.chg with state := if d.chg.state = .lockedOut then .lockedOut else .idle, commanded := false,
                               ending := none, step := 0, limsrc := 0, refused := false } }

/-- The module passes to a state; what leaving the present one entails is done here (R22, R72, R207, R235, R340). -/
def setState (m : ModState) (d : Device) : Device :=
  let old := d.ctl.state
  let d := { d with ctl := { d.ctl with state := m, firstStandbyDone := d.ctl.firstStandbyDone || old == .standby } }
  let d := if (old = .run ∨ old = .stopping) ∧ m ≠ .run ∧ m ≠ .stopping then chargeIdle d else d
  let d := if old.chainRuns && !m.chainRuns then chainStop d else d
  let d := if (old = .standby ∨ old = .service) ∧ m ≠ .standby ∧ m ≠ .service ∧ d.gates.retestState = 1 then
      { d with gates := { d.gates with retestState := 3 } } else d
  let d := if old = .service then { d with inj := { d.inj with active := [] } } else d
  let d := if m = .standby then { d with chg := { d.chg with lostHold := false } } else d
  if (old = .ready ∨ old = .run) ∧ m ≠ .ready ∧ m ≠ .run then proofEnd d else d

/-- F4 (Table 1.7): every stage takes its safe state and the module passes to SAFE; in SAFE and FAULT it is recorded. -/
def enterSafe (d : Device) : Device :=
  let d := d.each (Scope.stages .module) (stageOff true)
  match d.ctl.state with
  | .boot | .calibrating | .standby | .ready | .run | .stopping | .service => setState .safe d
  | _ => d

/-- F2 on a converter (Table 1.7): the battery converter and the grid port ramp to zero power before their gates turn off; the
other stages have no power reference to ramp and turn off at once (log entry 68). -/
def f2Stage (sg : StageGroup) (d : Device) : Device :=
  match sg with
  | .portA | .portB => d
  | .conv | .grid => d.onStage sg fun g => { g with ramping := g.running }
  | .llcPri | .llcSec => llcOff d
  | .aux => auxOff d
  | .act => d.each [0, 1, 2, 3] actOff

/-- The converters of a scope (Table 1.7): at module scope the battery converter and the grid port, the two R244 names as
stopped after such a reaction; the LLC and the buck run on in STOPPING and READY (R207; log entry 68). -/
def f2Converters : Scope → List StageGroup
  | .module => [.conv, .grid]
  | sc => sc.stages

/-! ## Test-voltage slices that end early (R183) -/

/-- The port of a phase-current channel. -/
def currentPort (m : Nat) : Option PortId := if m ≤ 2 then some .a else if m ≤ 5 then some .b else none

/-- The scope a slice's channel belongs to. -/
def sliceScope (m : Nat) : Scope :=
  match currentPort m with
  | some p => .port p
  | none => .module

/-- The slice that an abort would end: one that has not been aborted, up to the end of its step 4, where an abort wins (R183). -/
def Device.openSlice (d : Device) : Option Slice :=
  d.meas.slice.filter fun x => x.aborted.isNone && decide (d.now ≤ x.start + 36000)

/-- A slice aborts: the sensor is reconnected at once; substitution goes on for 1.2 us (R183). -/
def sliceAbort (x : Slice) (d : Device) : Device :=
  let d := d.onMchan x.ch fun c => { c with test := false }
  { d with meas := { d.meas with
      slice := some { x with aborted := some d.now }, abortCount := addWrap 32 d.meas.abortCount 1 } }

/-- An F2-F4 reaction in the scope of the channel under test: on the channel's port, or on the module for a link channel. -/
def sliceHit (x : Slice) (a : Scope × Nat) : Bool :=
  decide (2 ≤ a.2) && match currentPort x.ch with
    | some p => a.1.touches p.stage
    | none => a.1 == .module

/-- Such a reaction aborts the slice (R183). -/
def sliceReact (a : Scope × Nat) (d : Device) : Device :=
  match d.openSlice with
  | some x => if sliceHit x a then sliceAbort x d else d
  | none => d

/-- What a reaction does at once on what it acts on (Table 1.7). F2 on a port is carried out at tick 0 (start within
1 ms); F2 at module scope takes RUN to STOPPING. -/
def reactOne (latched : Bool) (a : Scope × Nat) (d : Device) : Device :=
  let d := sliceReact a d
  match a.2 with
  | 4 => enterSafe d
  | 3 => match a.1 with
    | .actuator n => actOff n d
    | .backup 0 => bchgPause d
    | sc => d.each sc.stages (stageOff latched)
  | 2 =>
    let d := d.each (f2Converters a.1) f2Stage
    if a.1 == .module && d.ctl.state == .run then setState .stopping d else d
  | _ => d

/-- An injection's argument and the scope of a report go together (R430): an island or a channel lies on the reported stage, a
current channel on the reported port, any other number is the scope's own; a report of a scope without a number goes with
every argument. -/
def injNames (point arg : Nat) (sc : Scope) : Bool :=
  match sc with
  | .module | .bothPorts | .backup _ | .pin _ => true
  | .group e => arg == e.num
  | .stage sg =>
    if point = 0x0206 ∨ point = 0x0207 then decide (arg < 64) && stageOfIsland arg == sg
    else if point = 0x0203 ∨ point = 0x0209 ∨ point = 0x0102 ∨ point = 0x0B01 then arg == sg.num
    else if (0x0201 ≤ point ∧ point ≤ 0x020B) ∨ point = 0x0B02 then decide (arg < 512) && stageOfChan arg == sg
    else true
  | .port p => if point = 0x0603 then arg / 3 == p.num else arg == p.num
  | .slot k => arg == (if point = 0x0102 then 0x100 + k else k)
  | sc => sc.number == arg

/-- A report of a detector with an injection that acts is a hit of the injection armed last; one armed for a single evaluation ends
with it (R428, R429). Whether the real condition was present too is the surroundings' (log entry 57). -/
def injHit (f : FaultName) (sc : Scope) (d : Device) : Device :=
  let hit := fun (i : Injection) => i.point == f.injPoint && injNames i.point i.arg sc && i.acts d.now
  let d := if d.inj.active.any fun i => hit i && i.point == d.inj.point then
      { d.draw with inj := { d.inj with hits := addSat 255 d.inj.hits 1, real := Config.freeBool d.fresh } }
    else d
  { d with inj := { d.inj with active := d.inj.active.filter fun i => !(hit i && i.duration == 0) } }

/-- The safety output that controls the brake of a port turns off (R313). -/
def sbcOff (p : PortId) (d : Device) : Device :=
  let outs := d.safety.outs.mapIdx fun n (x : SafeOutput) => if Cfg.soMode d.scfg n = p.num + 1 then { x with on := false } else x
  { d with safety := { d.safety with outs } }

/-- F3 and F4 apply the brakes of the ports they act on at once; the line of a safety STO has its delay (R313). -/
def brakeHit (f : FaultName) (acts : List (Scope × Nat)) (d : Device) : Device :=
  if f = .safetySto then d
  else d.each (ports.filter fun p => acts.any fun a => decide (3 ≤ a.2) && a.1.touches p.stage) sbcOff

/-- The fault manager takes a report (R24, R25): a new fault is recorded and its reaction started; a report of an active
fault with a higher reaction raises it; any other records nothing, and acts only where the fault did not act yet. -/
def raiseActs (f : FaultName) (sc : Scope) (r : Nat) (acts : List (Scope × Nat)) (d : Device) : Device :=
  let d := injHit f sc d
  match d.entry? f sc with
  | some e =>
    if r ≤ e.reaction then
      let more := acts.filter fun a => !e.acts.contains a
      let d := { d with faults := { d.faults with active := d.faults.active.map fun (x : FaultEntry) =>
        if x.name == f && x.scope == sc then { x with acts := x.acts ++ more } else x } }
      brakeHit f more (d.each more (reactOne f.latched))
    else
      let d := { d with faults := { d.faults with active := d.faults.active.map fun x =>
        if x.name == f && x.scope == sc then { x with reaction := r, acts := acts } else x } }
      brakeHit f acts ((report 0 f r sc d).each acts (reactOne f.latched))
  | none =>
    let d := { d with faults := { d.faults with
      active := d.faults.active ++ [{ name := f, scope := sc, reaction := r, acts := acts, time := d.now }] } }
    brakeHit f acts ((report 0 f r sc d).each acts (reactOne f.latched))

/-- A report whose reaction acts where the fault lies. -/
def raise (f : FaultName) (sc : Scope) (r : Nat) (d : Device) : Device := raiseActs f sc r [(sc, r)] d

/-- A fault clears (R26). -/
def clearFault (f : FaultName) (sc : Scope) (d : Device) : Device :=
  match d.entry? f sc with
  | none => d
  | some e => report 1 f e.reaction sc { d with faults := { d.faults with
      active := d.faults.active.filter fun x => !(x.name == f && x.scope == sc) } }

/-- Raise a fault while a condition holds, clear it once it does not. -/
def follow (f : FaultName) (sc : Scope) (r : Nat) (on : Bool) (d : Device) : Device :=
  if on then raise f sc r d else clearFault f sc d

/-- Every entry of a fault clears, whatever its scope. -/
def clearAll (f : FaultName) (d : Device) : Device :=
  d.each ((d.faults.active.filter fun e => e.name == f).map fun e => e.scope) (clearFault f)

/-! ## Self-test passes (R421-R426) -/

/-- Pins tested by PIN_IN and PIN_OUT slices, as 256 times connector plus pin (R421, Tables 18.5 to 18.8). -/
def bistInPins : List Nat :=
  [275, 276, 277, 278, 280, 287] ++ [769, 770, 774, 775, 779, 780, 784, 785]
    ++ [789, 790, 791, 794, 795, 796, 799, 800, 801, 804, 805, 806] ++ [1281]

def bistOutPins : List Nat := [279, 281, 282] ++ [771, 776, 781, 786]

/-- Slices of a pass (Table 16.5). -/
def passTotal : Nat := 64 + 96 + 4 + bistInPins.length + bistOutPins.length + 512 + 8

def Device.onBist (f : SelfTest → SelfTest) (d : Device) : Device := { d with bist := f d.bist }

/-- The states in which self-test runs (R421). -/
def ModState.selfTests : ModState → Bool
  | .off | .boot | .calibrating => false
  | _ => true

/-- The synthesiser is in lock with its correction within ±50 ppm; LOGIC_IN is at 19.0 V or more (R425). -/
def Device.clockGood (d : Device) : Bool := d.bist.synthOk && decide (d.therm.tbCorr.natAbs ≤ 500000)

def Device.logicGood (d : Device) : Bool := decide (19 ≤ d.fineVal 44)

/-- The conditions a slice needs (R425). -/
def Device.bistReady (d : Device) : Bool := d.ctl.coreSupplyOk && d.clockGood && d.logicGood && !d.forcedAt 0x1003

/-- A slice is deferred, counted, and the cause shown. -/
def bistDefer (d : Device) : Device :=
  d.onBist fun x => { x with
    deferCount := addWrap 32 x.deferCount 1, deferCore := !d.ctl.coreSupplyOk, deferClock := !d.clockGood
    deferLogic := !d.logicGood, passState := if x.passState = 1 then 3 else x.passState }

/-- A pass completes: BIST_OVERDUE clears. -/
def bistPassDone (d : Device) : Device :=
  clearFault .bistOverdue .module (d.onBist fun x => { x with
    passState := 0, passCount := addWrap 32 x.passCount 1, lastPassT := (d.now - x.passStart.getD 0) / 1000000, done := [] })

/-- A slice of the present pass has been carried out. -/
def bistDone (t k : Nat) (d : Device) : Device :=
  if d.bist.passState = 0 ∨ d.bist.done.contains (t, k) then d
  else
    let d := d.onBist fun x => { x with
      done := x.done ++ [(t, k)], progress := x.progress + 1, deferCore := false, deferClock := false, deferLogic := false
      passState := if x.passState = 3 then 1 else x.passState }
    if passTotal ≤ d.bist.progress then bistPassDone d else d

/-- A slice has failed: recorded, and failing until it passes in a later pass (R426). -/
def bistFailed (t k : Nat) (d : Device) : Device :=
  d.onBist fun x => { x with
    lastFail := t, failType := t, failTarget := k, failing := if x.failing.contains (t, k) then x.failing else x.failing ++ [(t, k)] }

def bistPassed (t k : Nat) (d : Device) : Device :=
  d.onBist fun x => { x with failing := x.failing.filter fun e => e != (t, k) }

/-! ## Answering a host (R385-R393) -/

/-- Abort codes of Table 15.6. -/
def Abort.ok : W32 := 0
def Abort.state : W32 := 0x08000022#32
def Abort.busy : W32 := 0x0F000001#32
def Abort.absent : W32 := 0x0F000002#32
def Abort.access : W32 := 0x0F000003#32
def Abort.range : W32 := 0x06090030#32
def Abort.length : W32 := 0x06070010#32
def Abort.noData : W32 := 0x08000024#32
def Abort.shadowHeld : W32 := 0x08000020#32
def Abort.writeOnly : W32 := 0x06010001#32
def Abort.readOnly : W32 := 0x06010002#32
def Abort.noIndex : W32 := 0x06020000#32
def Abort.noSub : W32 := 0x06090011#32
def Abort.noMap : W32 := 0x06040041#32
def Abort.timedOut : W32 := 0x05040000#32
def Abort.badSpecifier : W32 := 0x05040001#32
def Abort.retry (r : Nat) : W32 := BitVec.ofNat 32 (0x0F100000 + r)

def Device.path (d : Device) (q : Path) : PathState := (d.od.paths.lookup q).getD {}

def Device.onPath (q : Path) (f : PathState → PathState) (d : Device) : Device :=
  { d with od := { d.od with
      paths := if d.od.paths.any (fun e => e.1 == q) then d.od.paths.map fun e => if e.1 == q then (q, f e.2) else e
        else d.od.paths ++ [(q, f {})] } }

/-- Whether a level is open on a path (Table 15.4); level S is never open for an ordinary write (R385, R336). -/
def Device.levelOpen (d : Device) (q : Path) : ObjLevel → Bool
  | .b => true
  | .e => (d.path q).session.isSome
  | .v => match (d.path q).session with
    | some x => x.level == 2 && d.ctl.serviceNLow
    | none => false
  | .s => false

/-- A firmware update is under way: erasing or verifying (R451). -/
def Device.updating (d : Device) : Bool := d.fw.state == .erasing || d.fw.state == .verifying

/-- The management plane serves nothing yet, or refuses with busy (R388, R435). -/
def Device.busy (d : Device) : Bool := d.ctl.state == .boot || d.updating

/-- The frame answers a request of the path. -/
def TxFrame.answers (f : TxFrame) : Path → Bool
  | .usdo onB n => f.cls == (if onB then 9 else 8) && f.ident == n.val
  | .canc => f.cls == 12 && f.ident / 65536 % 256 == 0xEF
  | .hk ip p => f.cls == 13 && f.destIp == ip && f.destPort == p

/-- The requests of a path whose answers have not left yet (R39, R387; log entry 85). -/
def Device.outstanding (d : Device) (q : Path) : Nat :=
  (d.net.waiting ++ d.net.txq.flatMap fun x => x.frames).countP fun f => f.answers q

/-- A request of the path is refused with busy: the module serves none, or eight of the path are outstanding (R387, R388). -/
def Device.busyOn (d : Device) (q : Path) : Bool := d.busy || decide (8 ≤ d.outstanding q)

/-- The answer to one request of a path: it is kept as the path's last response and goes out in a frame of the path's
class (log entry 13 for the bytes of an answer on CAN). -/
def answer (q : Path) (code : W32) (data : List Byte) (d : Device) : Device :=
  let d := d.onPath q fun x => { x with last := [(code, data)] }
  txEnqueue { cls := q.cls,
              ident := match q with | .usdo _ n => n.val | _ => 0,
              destIp := match q with | .hk ip _ => ip | _ => 0,
              destPort := match q with | .hk _ p => p | _ => 0,
              srcPort := match q with | .hk _ _ => 4980 | _ => 0,
              data := leBytes 4 code.toNat ++ data } d

/-- A request counts as use of the path's session (R392). -/
def touchPath (q : Path) (d : Device) : Device :=
  d.onPath q fun x => { x with session := x.session.map fun ss => { ss with lastUse := d.now } }

/-- A live write: the value waits for tick 0 of the next beat (R384). -/
def pushLive (key v : Nat) (d : Device) : Device := { d with od := { d.od with live := d.od.live ++ [(key, v)] } }

/-- A command object with access RW keeps the value last accepted (R384). -/
def rwCmd (key v : Nat) (f : Device → W32 × Device) (d : Device) : W32 × Device :=
  let r := f d
  if r.1 = Abort.ok then (r.1, pushLive key v r.2) else r

/-- A write by a path of a command object: the checks of R386 that do not look at the value (busy, level, the states in
which every write is refused; no firmware runs, R450), then the command, then the answer. In OFF nothing happens. -/
def hostWrite (q : Path) (lvl : ObjLevel) (inFault : Bool) (f : State → W32 × State) (s : State) : State :=
  if s.dev.ctl.state = .off then s
  else
    let s := { s with dev := touchPath q s.dev }
    if s.dev.busyOn q then { s with dev := answer q Abort.busy [] s.dev }
    else if s.dev.boot.noBank then { s with dev := answer q Abort.state [] s.dev }
    else if !s.dev.levelOpen q lvl then { s with dev := answer q Abort.access [] s.dev }
    else if s.dev.ctl.state = .fault ∧ !inFault then { s with dev := answer q Abort.state [] s.dev }
    else
      let r := f s
      { r.2 with dev := answer q r.1 [] r.2.dev }

/-- A command object of the device alone. -/
def devCmd (f : Device → W32 × Device) (s : State) : W32 × State :=
  let r := f s.dev
  (r.1, { s with dev := r.2 })

/-- A read by a path: the same checks, then the value or its abort code. -/
def hostRead (q : Path) (lvl : ObjLevel) (f : State → W32 × List Byte × State) (s : State) : State :=
  if s.dev.ctl.state = .off then s
  else
    let s := { s with dev := touchPath q s.dev }
    if s.dev.busyOn q then { s with dev := answer q Abort.busy [] s.dev }
    else if s.dev.boot.noBank then { s with dev := answer q Abort.state [] s.dev }
    else if !s.dev.levelOpen q lvl then { s with dev := answer q Abort.access [] s.dev }
    else
      let r := f s
      { r.2.2 with dev := answer q r.1 r.2.1 r.2.2.dev }

/-- A command that acts on the device alone. -/
def State.onDev (f : Device → Device) (s : State) : State := { s with dev := f s.dev }

end Sys2Proof.Machine
end

