-- ==== Sys2Proof/Machine/Images.lean ====
section
/-!
DEFINITION. The images the module forms over its settings: the pair image behind SETTINGS_ID and SHADOW_ID (R401) and
the safety image behind the check value (R334).
-/

namespace Sys2Proof.Machine

/-- The objects of a row: key, width in bytes and default. -/
def ObjRow.objects (r : ObjRow) : List (Nat × Nat × Nat) :=
  (List.range r.nIx).flatMap fun j => (List.range r.nSub).map fun i =>
    ((r.ix + j * r.step) * 256 + r.sub + i, (r.ty.width).getD 0, r.default j i)

/-- The objects a test on rows and keys picks, in ascending order of index and subindex. -/
def objectsOf (row : ObjRow → Bool) (key : Nat → Bool) : List (Nat × Nat × Nat) :=
  ((objTable.filter row).flatMap ObjRow.objects |>.filter fun o => key o.1).mergeSort fun a b => a.1 ≤ b.1

/-- The bytes of objects as a set of settings holds them: width of the type, little-endian. -/
def Settings.bytes (S : Settings) (objs : List (Nat × Nat × Nat)) : List Byte :=
  objs.flatMap fun o => leBytes o.2.1 (S.raw o.1 o.2.2)

/-- The per-module objects R401 leaves out of the pair image. -/
def perModule (key : Nat) : Bool :=
  let ix := key / 256
  key == 0x200002 || ix == 0x2001 || key == 0x260101 || (0x2E00 ≤ ix && ix ≤ 0x2EFF) || (0x3E00 ≤ ix && ix ≤ 0x3EFF)
    || (0x2F00 ≤ ix && ix ≤ 0x2FFF)

/-- Identity of a settings set (R401): CRC-32C over the pair image. -/
def settingsIdOf (S : Settings) : W32 :=
  crc32c (S.bytes (objectsOf (fun r => r.acc == .rws && decide (0x2000 ≤ r.ix) && decide (r.ix ≤ 0x6FFF))
    fun k => !perModule k))

/-- SETTINGS_ID: the identity of the settings in force. -/
def Device.settingsId (d : Device) : W32 := settingsIdOf d.od.inForce

/-- The safety image (R334): the safety objects, the connection records in use, the Dorid objects. -/
def safetyImageBytes (S : Settings) : List Byte :=
  S.bytes (objectsOf (fun r => r.acc == .rws && decide (0x7000 ≤ r.ix) && decide (r.ix ≤ 0x7200)) fun k =>
    let ix := k / 256
    ix ≤ 0x707F || (0x7100 ≤ ix && ix ≤ 0x71FF && Cfg.dcRole S (ix - 0x7100) != 0)
      || (ix == 0x7200 && decide (k % 256 ≤ 3)))

/-- The check value of a safety image (R334). -/
def checkValueOf (S : Settings) : W32 := crc32c (safetyImageBytes S)

/-! ## The checks of the OTP store (R445, R446) -/

/-- The fuses are burned from fuse 0 upwards without gaps: the burned ones are as many as their pattern says (R446). -/
def Otp.fusesOk (o : Otp) : Bool := (List.range 127).all fun f => o.fuses.getLsbD f || !o.fuses.getLsbD (f + 1)

/-- A revoked slot has all its key bits burned. -/
def Otp.keysOk (o : Otp) : Bool := [0, 1, 2, 3].all fun k => !o.revoked.getLsbD k || o.keys.getD k 0 == BitVec.allOnes 256

/-- A burn is preceded by the checks (R445); a failure raises OTP_INTEGRITY, and nothing is burned. -/
def beforeBurn (f : State → W32 × State) (s : State) : W32 × State :=
  if s.otp.fusesOk && s.otp.keysOk then f s else (Abort.state, s.onDev (raise .otpIntegrity .module 4))

/-- The partner holds the same configuration identity (R38, R401): check value and settings identity. -/
def Device.sameIdentity (d : Device) : Bool :=
  d.ctl.partner.checkId == d.comm.check && d.ctl.partner.settingsId == d.settingsId

end Sys2Proof.Machine
end

