-- ==== Sys2Proof/Machine/Modes.lean ====
section
/-!
DEFINITION. What the module states do on entry: a start, a calibration, the supply chain, STANDBY; and the clearing of
faults by the exit from SAFE (chapters 1, 8 and 17).
-/

namespace Sys2Proof.Machine

/-- What survives a loss of LOGIC_IN and a restart: the flash store, the firmware banks with their record and the stored
actuator positions (R265, R438, R448, R450); the counter behind the free values goes on. -/
def Device.bare (d : Device) : Device :=
  { flash := d.flash
    fw := { bank0 := d.fw.bank0, bank1 := d.fw.bank1, rec0 := d.fw.rec0, rec1 := d.fw.rec1, active := d.fw.active,
            next := d.fw.next, trialStarted := d.fw.trialStarted, running := d.fw.running, trial := d.fw.trial }
    acts := d.acts.map fun x => { stored := x.stored }
    fresh := d.fresh }

/-- Entry to BOOT (R433): module time starts at 0. A burn that a reset overtakes still completes (R339). -/
def startBoot (d : Device) : Device :=
  { d.bare with comm := { burning := d.comm.burning, state := if d.comm.burning.isSome then .burning else .none } }

/-- OFF (Table 1.5). -/
def powerOff (d : Device) : Device :=
  { d.bare with ctl := { state := .off }, lamps := { test := false } }

/-- The burning of a commissioning record ends without its read-back: the slot counts as used and holds no valid record
(R338, R444). -/
def burnLost (s : State) : Otp :=
  match s.dev.comm.burning with
  | some (_, g, _, _) =>
    { s.otp with records := s.otp.records.modify (g - 1) fun r => { r with used := true, intact := false } }
  | none => s.otp

/-- The supply chain starts (R209, Table 8.1 step 1). -/
def chainStart (d : Device) : Device :=
  { d with supply := { d.supply with chain := 1, calPause := false, llc := { d.supply.llc with startConv := true } } }

/-- A stage can run: no F3 or F4 acts on it, its enable pin is high, and its islands are armed (R58, R67). -/
def Device.stageCan (d : Device) (sg : StageGroup) : Bool :=
  decide (d.reaction sg < 3) && d.enablePin sg.group && sg.islands.all fun i => (d.island i).armed

/-- The auxiliary buck starts: its ramp begins at the voltage measured on M25 (R222). -/
def auxStart (d : Device) : Device :=
  let d := d.onStage .aux fun g => { g with order := 0, running := true }
  { d with supply := { d.supply with aux := { d.supply.aux with
      running := true, startDue := false, stepAbort := false, shedHold := false, ramp := d.fineVal 25, rampTop := []
      active := d.supply.aux.lostPh.map fun l => !l } } }

/-- The crowbar of the 24 V bus (Table 8.4): all eight low sides on, all high sides off; the backup path opens. -/
def auxCrowbar (d : Device) : Device :=
  let d := raise .auxOv (.stage .aux) 3 d
  let cmds : List (Fin 8 × Bool) :=
    [(0, false), (1, true), (2, false), (3, true), (4, false), (5, true), (6, false), (7, true)]
  let d := issue 60 cmds (issue 59 cmds d)
  bchgPause { d with supply := { d.supply with
    aux := { d.supply.aux with ovLatched := true, crowbar := true, startDue := false }
    backup := { d.supply.backup with diodeOn := false, cause := 1 } } }

/-- A self-calibration starts (R173, R175, R207): results carry VALID = 0 and the supply chain pauses. -/
def calStart (d : Device) : Device :=
  let again := d.supply.chain != 0 || (!d.meas.calibrated && Cfg.supplyStart d.cfg && d.ctl.state == .standby)
  let d := if d.supply.chain = 0 then d else chainStop d
  { d with
    supply := { d.supply with calPause := again }
    meas := { d.meas with
      calState := 1, calSince := some d.now, deferA := false, deferB := false, slice := none
      chans := d.meas.chans.map fun c => { c with
        fastValid := false, fineValid := false, test := false, subst := false, calModFail := c.modFail, modOk := !c.modFail } } }

/-- The bank record is written into its older copy (R450). -/
def Firmware.saveRecord (x : Firmware) : Firmware :=
  let r : BankRecord := { seq := addWrap 32 (max x.rec0.seq x.rec1.seq) 1, active := x.active, next := x.next, started := x.trialStarted }
  if x.rec0.seq ≤ x.rec1.seq then { x with rec0 := r } else { x with rec1 := r }

/-- The newer copy of the bank record serves (R450). -/
def Firmware.loadRecord (x : Firmware) : Firmware :=
  let r := if x.rec0.seq ≤ x.rec1.seq then x.rec1 else x.rec0
  { x with active := r.active, next := r.next, trialStarted := r.started }

/-- The running trial bank becomes ACTIVE on reaching STANDBY (R450). -/
def Firmware.reachStandby (x : Firmware) : Firmware :=
  if x.trialStarted && x.next == some x.running then
    { x with active := x.running, next := none, trialStarted := false }.saveRecord
  else x

/-- Entry to STANDBY (R209, R440, R450). -/
def enterStandby (d : Device) : Device :=
  let d := setState .standby d
  let d := { d with fw := d.fw.reachStandby
                    boot := { d.boot with standbyT := if d.boot.standbyT = 0 then d.now / 1000000 else d.boot.standbyT } }
  if !d.meas.calibrated then calStart d
  else if Cfg.supplyStart d.cfg && d.supply.chain == 0 then chainStart d
  else d

/-- A fault that "SAFE exit" clears ends in SAFE once its cause has ended (R26). -/
def safeExitClear (f : FaultName) (sc : Scope) (d : Device) : Device :=
  if d.ctl.state = .safe then clearFault f sc d else d

/-- Module is one of a pair (MODULE_STATUS.PAIR_MODE). -/
def Device.paired (d : Device) : Bool := Cfg.pairPosition d.cfg != 0

/-- This module evaluates its ports' references: it has no partner, is the lead, or runs alone (R36, R130). -/
def Device.leads (d : Device) : Bool := !d.paired || !d.ctl.partnerPresent || d.ctl.lead || d.ctl.partnerAbsent

/-- Both link channels lie in the range of the READY condition (Table 1.6). -/
def Device.linkReady (d : Device) : Bool :=
  decide (900 ≤ d.vLink) && decide (max (d.latchedVal 6) (d.latchedVal 7) ≤ 1600)

/-- The conditions of STANDBY to READY apart from the command (Table 1.6, R209). -/
def Device.readyOk (d : Device) : Bool :=
  decide (d.comm.generation ≠ 0) && d.supply.llc.inRange && d.supply.chain == 7 && d.ctl.enA && d.ctl.enB
    && d.ctl.enConv && d.ctl.enAux && d.linkReady && decide (d.faults.highest < 2)
    && (!d.paired || !d.ctl.partnerPresent || d.sameIdentity)

/-- What entry to RUN needs beside READY (Table 1.6, R38, R244, R296, R424). -/
def Device.runOk (d : Device) : Bool :=
  d.safety.sc == .run && !d.active .tbatLost && !d.bist.guyBar
    && (!d.paired || !d.ctl.partnerPresent || d.sameIdentity)

/-- Entry to RUN. A module that enters RUN without its partner runs alone, as lead and in partner-absent mode (R36,
R442). -/
def enterRun (d : Device) : Device :=
  let d := setState .run d
  { d with
    ctl := { d.ctl with
      lead := d.ctl.lead || !d.ctl.partnerPresent, partnerAbsent := d.paired && !d.ctl.partnerPresent
      fallbackReady := false }
    gates := { d.gates with islands := d.gates.islands.map fun x =>
      { x with chans := x.chans.map fun c => { c with posTrips := 0 } } } }

end Sys2Proof.Machine
end

