-- ==== Sys2Proof/Machine/Gates.lean ====
section
/-!
DEFINITION. Gate islands and power-stage protection (chapter 2): gate commands and their interlock, supplies, the warp
links and safe presets, the turn-off order, short-circuit protection, enable pins, the reed balancer and die loss.
-/

namespace Sys2Proof.Machine

/-! ## Positions of a channel (Table 2.1, R51) -/

/-- The other one of a pair of numbers 2n and 2n + 1. -/
def pairOf (n : Nat) : Nat := if n % 2 = 0 then n + 1 else n - 1

def islandChans (i : Nat) : List Nat := (List.range 8).map (· + 8 * i)

/-- The channels of the position a channel belongs to. -/
def posChans (g : Nat) : List Nat :=
  let i := g / 8
  if i < 58 then islandChans i
  else if i = 58 then [g / 2 * 2, g / 2 * 2 + 1]
  else [g]

/-- The channels of the complementary position (R51). -/
def complementChans (g : Nat) : List Nat :=
  let i := g / 8
  if i < 36 then islandChans (i / 6 * 6 + complement (i % 6))
  else if i < 48 then islandChans (36 + (i - 36) / 4 * 4 + (3 - (i - 36) % 4))
  else if i < 58 then islandChans (pairOf i)
  else if i = 58 then [pairOf (g / 2) * 2, pairOf (g / 2) * 2 + 1]
  else [pairOf g]

/-- The outer position on the same side as an inner one (OU for IU, OL for IL) of a three-level leg (R60). -/
def outerOf (i : Nat) : Option Nat :=
  let leg := if i < 36 then i / 6 * 6 else 36 + (i - 36) / 4 * 4
  let pos := i - leg
  if i < 48 then (if pos = 1 then some leg else if pos = 2 then some (leg + 3) else none) else none

/-- The actuator drive of a channel of the shared islands. -/
def actOf (g : Nat) : Option Nat := if 488 ≤ g then some ((g - 488) / 6) else none

/-- A high-side channel with a bootstrap rail (R43). -/
def bootstrapSide (g : Nat) : Bool :=
  if g / 8 < 58 then false else if g / 8 = 58 then g % 4 < 2 else g % 2 == 0

/-- Order class of an island's position going off (Table 2.5, R56). -/
def offClass (i : Nat) : PresetClass :=
  if i < 36 then (if i % 6 = 0 ∨ i % 6 = 3 then .a else .b)
  else if i < 48 then (if i % 4 = 0 ∨ i % 4 = 3 then .a else .b)
  else .a

/-! ## Gate profile and banks (R48, R49, Table 2.3) -/

/-- The gate profile a set of settings gives a stage group: parameters 1-15 by their subindices of 0x3200+sg. GATE_SLOPE names
the plateau codes where the expert values are not in use; DEAD_T and the protection parameters are always those set (R74). -/
def profileOf (S : Settings) (n : Nat) : List (Nat × Nat) :=
  let plat := match Cfg.gateSlope S n with
    | 0 => 3
    | 1 => 6
    | _ => 10
  let edge : List Nat :=
    if Cfg.expertProfile S n then
      [Cfg.preIOn S n, Cfg.preTOn S n, Cfg.platIOn S n, Cfg.platTmaxOn S n, Cfg.preIOff S n, Cfg.preTOff S n, Cfg.platIOff S n,
       Cfg.platTmaxOff S n]
    else [dHvLv 6 4 n, dHvLv 24 12 n, plat, dHvLv 8 3 n, dHvLv 6 4 n, dHvLv 24 12 n, plat, dHvLv 7 3 n]
  let rest := [Cfg.deadT S n, Cfg.desatTh S n, Cfg.desatBlank S n, Cfg.didtTh S n, Cfg.didtT S n, Cfg.softLvl S n, Cfg.softT S n]
  (edge ++ rest).mapIdx fun i v => (i + 1, v)

/-- A parameter of the bank an island has in use (R49). -/
def Island.param (x : Island) (key dflt : Nat) : Nat := ((if x.bank then x.params1 else x.params0).lookup key).getD dflt

/-- PRE_T (whole ns) and PLAT_TMAX (ns) of a direction from a profile's parameters. -/
def edgeTimes (par : Nat → Nat → Nat) (n : Nat) (on : Bool) : Nat × Nat :=
  let pre := if on then par 2 (dHvLv 24 12 n) else par 6 (dHvLv 24 12 n)
  let plat := if on then par 4 (dHvLv 8 3 n) else par 8 (dHvLv 7 3 n)
  ((pre + 3) / 4, 20 * plat)

/-- The times of an edge an island drives, by its bank in use. -/
def Island.edge (sg : StageGroup) (x : Island) (on : Bool) : Nat × Nat := edgeTimes x.param sg.num on

def Device.edgeOf (d : Device) (g : Nat) : Bool → Nat × Nat := (d.island (g / 8)).edge (stageOfIsland (g / 8))

/-- The longest edge the sequencer plans with, ns: PRE_T + PLAT_TMAX of the profile in force (R50). -/
def longEdge (S : Settings) (sg : StageGroup) (on : Bool) : Nat :=
  let e := edgeTimes (fun k v => ((profileOf S sg.num).lookup k).getD v) sg.num on
  e.1 + e.2

/-- A command on a position goes out no earlier than the longest edge after the command before it (R50). -/
def Device.seqFree (d : Device) (i : Nat) (t : Nanos) : Nanos :=
  match (d.island i).issued with
  | none => t
  | some (t0, on) => max t (t0 + longEdge d.cfg (stageOfIsland i) on)

/-- A turn-on in ticks 43-49 of a frame is issued at tick 0 of the next frame (R52). -/
def frameTick (t : Nanos) : Nanos := if 215 ≤ t % 250 then t - t % 250 + 250 else t

/-- Loading of the inactive bank (R49). -/
def Island.loadBank (par : List (Nat × Nat)) (x : Island) : Island :=
  if x.bank then { x with params0 := par } else { x with params1 := par }

/-! ## Edges (R45, R48, R50-R52, R70) -/

/-- The phases of an edge (R48). -/
inductive EdgePhase where
  | preCharge | plateau | hold
  deriving DecidableEq, Repr

/-- The phase a channel's edge is in at a time (R48). -/
def GateChan.phase (t : Nanos) (c : GateChan) : EdgePhase :=
  if t < c.preEnd then .preCharge else if t < c.holdAt then .plateau else .hold

/-- The gate current of a phase, A: PRE_I, PLAT_I of 0.5 A + code x 2.5/15 A; the hold phase drives strongly to its level and has
no current of its own (R48, Table 2.3). -/
def Island.driveCurrent (sg : StageGroup) (x : Island) (on : Bool) : EdgePhase → Option Rat
  | .preCharge =>
    let code := if on then x.param 1 (dHvLv 6 4 sg.num) else x.param 5 (dHvLv 6 4 sg.num)
    some ((code : Rat) * (if sg.num ≤ 4 then 1 else 1 / 2))
  | .plateau => some (1 / 2 + (if on then x.param 3 6 else x.param 7 6 : Nat) * (5 / 2) / 15)
  | .hold => none

/-- A channel may be on: not lost, not latched off, its rails above their lock-outs. -/
def GateChan.mayOn (c : GateChan) : Bool := !c.disabled && !c.heldOff && !c.uvPos && !c.uvNeg

/-- The gate goes to a level: a change is an edge, on which the trims received come into force (R68), the plateau flag of the edge
before ends (R48) and the desaturation detector starts afresh (R61). A soft turn-off runs to its own end (R63). -/
def GateChan.gateTo (on : Bool) (t : Nanos) (len : Bool → Nat × Nat) (c : GateChan) : GateChan :=
  if c.soft.isSome || c.gateOn == on then c
  else
    let tr := c.trimNext.getD (c.trimOn, c.trimOff)
    let pre := t + (len on).1
    { c with gateOn := on, desatArmed := false, platTimeout := false, trimOn := tr.1, trimOff := tr.2, trimNext := none
             preEnd := pre, holdAt := pre + (len on).2, edgeQ := 4 * ((t : Int) + 60) + if on then tr.1 else tr.2 }

/-- A level the island sets by itself: its preset, a lock-out, the own step of an over-temperature. -/
def GateChan.force (on : Bool) (t : Nanos) (len : Bool → Nat × Nat) (c : GateChan) : GateChan :=
  GateChan.gateTo (on && c.mayOn) t len { c with cmdOn := on, cmdAt := some t, later := none }

/-- A command that waited for the hold phase is carried out once it begins (R50). -/
def GateChan.settle (t : Nanos) (len : Bool → Nat × Nat) (c : GateChan) : GateChan :=
  match c.later with
  | some (due, on) => if due ≤ t then GateChan.gateTo (on && c.mayOn) due len { c with later := none } else c
  | none => c

/-- A command accepted by the heddle: it starts its edge, or waits for the hold phase of the edge before (R50). -/
def GateChan.take (on : Bool) (t : Nanos) (len : Bool → Nat × Nat) (c : GateChan) : GateChan :=
  let c := { c.settle t len with cmdOn := on, cmdAt := some t }
  if t < c.holdAt then { c with later := some (c.holdAt, on) } else GateChan.gateTo (on && c.mayOn) t len c

/-- The sequencer may turn a channel on: no channel of the complementary position is commanded on, and DEAD_T has passed
since its turn-off (R51). -/
def Device.interlockOk (d : Device) (g t : Nat) : Bool :=
  (complementChans g).all fun h =>
    let c := d.chan h
    !c.cmdOn && match c.cmdAt with
      | none => true
      | some t0 => decide (t0 + 5 * Cfg.deadT d.cfg (stageOfChan g).num ≤ t)

/-- The die map entry of a channel (R72): cause 1 gate leakage, 2 gate short, 3 open, 4 drain-source short. -/
def Flash.mark (x : Flash) (g cause : Nat) : Flash := { x with dieMap := x.dieMap.filter (fun e => e.1 != g) ++ [(g, cause)] }

/-- Reaction and effect of lost dies by stage (R71, Table 2.12). -/
def dieLossReact (g : Nat) (d : Device) : Device :=
  let sg := stageOfChan g
  match sg with
  | .llcSec =>
    let both := (posChans g).all fun h => (d.chan h).disabled
    raise .dieLost (.stage sg) (if both then 3 else 1) d
  | .aux =>
    let ph := (g - 472) / 2
    let d := auxPhaseOff ph d
    raise .dieLost (.stage sg) 1 { d with supply := { d.supply with
      aux := { d.supply.aux with lostPh := d.supply.aux.lostPh.set ph true } } }
  | .act =>
    let n := (g - 488) / 6
    raiseActs .dieLost (.stage sg) 1 [(.actuator n, 1)] (actOff n d)
  | _ => raise .dieLost (.stage sg) (if (d.island (g / 8)).working ≤ 2 then 3 else 1) d

/-- A die is declared lost (R70). -/
def dieLost (cause g : Nat) (d : Device) : Device :=
  if (d.chan g).disabled then d
  else
    let d := d.onChan g fun c => { c with
      disabled := true, gateLeak := c.gateLeak || cause == 1, shorted := c.shorted || cause == 2 || cause == 4
      openDie := c.openDie || cause == 3, slopeShare := 0 }
    dieLossReact g { d with flash := d.flash.mark g cause }

/-- Working dies of the position of a channel. -/
def Device.workingOf (d : Device) (g : Nat) : List GateChan := ((posChans g).map d.chan).filter fun c => !c.disabled

/-- A mean; 0 over no values. -/
def meanOf (l : List Rat) : Rat := if l.isEmpty then 0 else l.sum / l.length

/-- Mean slope share of the working dies of a position (R68, R70). -/
def Device.meanShare (d : Device) (g : Nat) : Rat := meanOf ((d.workingOf g).map fun c => c.slopeShare)

/-- What the heddle observed on an edge: a plateau exit sensed before PLAT_TMAX begins the hold phase (R48). On a turn-on edge, two
in a row without the gate level are a gate short, sixteen without a plateau and with a low slope share are an open die
(Table 2.11). -/
def observe (i : Nat) (on : Bool) (o : EdgeObs) (d : Device) : Device :=
  let g := 8 * i + o.die.val
  let d := d.onChan g fun c => { c with holdAt := match o.exitNs with
    | some n => min c.holdAt (c.preEnd + n)
    | none => c.holdAt }
  if !on then d
  else
    let d := d.onChan g fun c => { c with
      slopeShare := o.share.getD c.slopeShare, shortRun := if o.gateShort then c.shortRun + 1 else 0 }
    let low := decide ((d.chan g).slopeShare < d.meanShare g / 4)
    let d := d.onChan g fun c => { c with openRun := if o.noPlateau && low then c.openRun + 1 else 0 }
    let d := if 2 ≤ (d.chan g).shortRun then dieLost 2 g d else d
    if 16 ≤ (d.chan g).openRun then dieLost 3 g d else d

/-- One command of a frame at an island that is armed (R50, R51). -/
def oneCommand (i t : Nat) (c : Fin 8 × Bool) (d : Device) : Device :=
  let g := 8 * i + c.1.val
  if c.2 && !d.interlockOk g t then raise .seqInterlock .module 4 d
  else
    let early := decide (t < ((d.chan g).settle t (d.edgeOf g)).holdAt)
    let d := d.onChan g (GateChan.take c.2 t (d.edgeOf g))
    if early then { d with gates := { d.gates with earlyCmd := addWrap 32 d.gates.earlyCmd 1 } } else d

/-- The outer position has acknowledged its turn-off to a soft turn-off of its inner position (R60). -/
def ackOuter (i : Nat) (d : Device) : Device :=
  d.each ((List.range 48).filter fun j => outerOf j == some i) fun j =>
    Device.onIsland j fun x => { x with
      chans := x.chans.map fun c => { c with soft := c.soft.map fun s => { s with outerAcked := true } } }

/-- The commands of a frame reach an island: they are acknowledged (R9, R55), and carried out where the island is not in
its preset (R58). -/
def gateCommands (i t : Nat) (cmds : List (Fin 8 × Bool)) (d : Device) : Device :=
  let ks := cmds.map Prod.fst
  let d := d.onIsland i fun x => { x with
    unacked := match x.unacked with
      | none => none
      | some (l, n) =>
        let left := l.filter fun c => !ks.contains c.1
        if left.isEmpty then none else some (left, n) }
  if (d.island i).safe || !(d.island i).armed then d
  else
    let d := if cmds.any fun c => !c.2 then ackOuter i d else d
    d.each cmds (oneCommand i t)

/-- GATE_COMMAND (R9, R50-R52, R70): accepted in ticks 0-42 of a frame while the link is up. -/
def gateCommand (i : Fin 64) (cmds : List (Fin 8 × Bool)) (frame : Fin 4) (tick : Fin 50) (obs : List EdgeObs)
    (d : Device) : Device :=
  if tick.val ≤ 42 ∧ (d.island i).link = 2 then
    let d := gateCommands i (d.now + 5 * (50 * frame.val + tick.val)) cmds d
    if (d.island i).safe || !(d.island i).armed then d
    else (d.each (obs.filter fun o => cmds.contains (o.die, false)) (observe i false)).each
      (obs.filter fun o => cmds.contains (o.die, true)) (observe i true)
  else d

def execGateCommand (i : Fin 64) (cmds : List (Fin 8 × Bool)) (frame : Fin 4) (tick : Fin 50) (obs : List EdgeObs)
    (s : State) : Host.Outcome State Fault Refusal :=
  .next (if s.dev.ctl.state = .off then s else s.onDev (gateCommand i cmds frame tick obs))

/-- PLAT_TIMEOUT (R48): the edge ends on PLAT_TMAX; 64 in one second on a channel raise the fault. -/
def platTimeout (g : Nat) (d : Device) : Device :=
  let d := d.onChan g fun c => { c with
    platTimeout := true, platTimes := c.platTimes.filter (fun t => d.now < t + sec 1) ++ [d.now] }
  if 64 ≤ (d.chan g).platTimes.length then raise .platTimeout (.channel g) 0 d else d

def execPlatTimeout (g : Fin 512) (s : State) : Host.Outcome State Fault Refusal :=
  .next (if s.dev.ctl.state = .off then s else s.onDev (platTimeout g))

/-! ## Gate supplies (R45-R47) -/

/-- A channel in lock-out. -/
def GateChan.locked (c : GateChan) : Bool := c.uvPos || c.uvNeg

/-- The lock-out fault a channel's stage shows: high sides with a bootstrap rail have their own (R46, R47). -/
def uvFault (g : Nat) : FaultName :=
  if bootstrapSide g then
    match stageOfChan g with
    | .act => .actBoot
    | .aux => .auxPhaseShed
    | _ => .bootUv
  else .gateUv

/-- Channels of a stage that share a lock-out fault with a channel. -/
def uvPeers (g : Nat) : List Nat :=
  ((stageOfChan g).islands.flatMap islandChans).filter fun h => uvFault h == uvFault g

/-- Usable dies of the position of a channel: working and not in lock-out (R46). -/
def Device.usablePos (d : Device) (g : Nat) : Nat := ((posChans g).filter fun h => !(d.chan h).disabled && !(d.chan h).locked).length

/-- What a reaction on a stage acts on where the channel belongs to an actuator drive: that drive alone (R41). -/
def chanActs (g r : Nat) : List (Scope × Nat) :=
  match actOf g with
  | some n => [(.actuator n, r)]
  | none => [(.stage (stageOfChan g), r)]

/-- The report of a lock-out on a stage: GATE_UV F3 where a position has fewer than three usable dies because of it,
F1 otherwise (R46, Table 2.13). -/
def gateUvReport (g : Nat) (d : Device) : Device :=
  let bad := (uvPeers g).any fun h => (d.chan h).locked && decide (d.usablePos h < 3)
  let r := if bad then 3 else 1
  raiseActs .gateUv (.stage (stageOfChan g)) r (chanActs g r) d

/-- SUPPLY_OK: the charge shuttle of a high-voltage island serves a rail; the 12 V rail of a low-voltage island, that of its
low sides, is in range (R43, Table 2.15). -/
def Island.railOk (i : Nat) (x : Island) : Bool :=
  if i < 58 then x.chans.any fun c => !c.uvPos
  else (List.range 8).any fun k => !bootstrapSide (8 * i + k) && !(x.chan k).uvPos

def supplySeen (i : Nat) (d : Device) : Device := d.onIsland i fun x => { x with supplyOk := x.railOk i }

/-- GATE_UV_LOCKOUT (R45-R47): the channel turns off by its normal profile and is held off. -/
def gateUvLockout (g : Nat) (neg : Bool) (d : Device) : Device :=
  if neg && decide (464 ≤ g) then d
  else
    let d := d.onChan g fun c =>
      GateChan.gateTo false d.now (d.edgeOf g) { c with uvPos := c.uvPos || !neg, uvNeg := c.uvNeg || neg }
    let d := supplySeen (g / 8) d
    match uvFault g with
    | .actBoot => raise .actBoot (.stage .act) 0 (actOff ((g - 488) / 6) d)
    | .auxPhaseShed => raise .auxPhaseShed (.stage .aux) 1 (auxPhaseOff ((g - 472) / 2) d)
    | .bootUv => raise .bootUv (.stage .llcSec) 0 d
    | _ => gateUvReport g d

def execGateUvLockout (g : Fin 512) (neg : Bool) (s : State) : Host.Outcome State Fault Refusal :=
  .next (if s.dev.ctl.state = .off then s else s.onDev (gateUvLockout g neg))

/-- A fault no longer acts on one actuator drive. -/
def actFree (f : FaultName) (n : Nat) (d : Device) : Device :=
  { d with faults := { d.faults with active := d.faults.active.map fun (e : FaultEntry) =>
      if e.name == f && e.scope == .stage .act then { e with acts := e.acts.filter fun a => a.1 != .actuator n } else e } }

/-- GATE_UV_RELEASE (R45): the channel follows its commands again, those of its preset too; the fault ends with its cause. -/
def gateUvRelease (g : Nat) (neg : Bool) (d : Device) : Device :=
  let d := d.onChan g fun c =>
    let c := { c with uvPos := c.uvPos && neg, uvNeg := c.uvNeg && !neg }
    GateChan.gateTo (c.cmdOn && c.mayOn) d.now (d.edgeOf g) c
  let d := supplySeen (g / 8) d
  let sc := Scope.stage (stageOfChan g)
  let left := (uvPeers g).filter fun h => (d.chan h).locked
  if left.isEmpty then clearFault (uvFault g) sc d
  else
    match actOf g with
    | some n => if left.any fun h => actOf h == some n then d else actFree (uvFault g) n d
    | none =>
      if uvFault g = .gateUv ∧ left.all (fun h => decide (3 ≤ d.usablePos h)) ∧
          (d.entry? .gateUv sc).any (fun e => e.reaction == 3) then
        raise .gateUv sc 1 (clearFault .gateUv sc d)
      else d

def execGateUvRelease (g : Fin 512) (neg : Bool) (s : State) : Host.Outcome State Fault Refusal :=
  .next (if s.dev.ctl.state = .off then s else s.onDev (gateUvRelease g neg))

/-! ## Safe presets (R56-R58) -/

/-- All channels of an island to a level by the normal profile, where they may be on. -/
def Island.gates (on : Bool) (sg : StageGroup) (t : Nanos) (x : Island) : Island :=
  { x with chans := x.chans.map (GateChan.force on t (x.edge sg)) }

/-- An island starts to act on its preset: class A positions going off turn off at once, the others at their class
time (Table 2.5). -/
def Island.startPreset (sg : StageGroup) (t : Nanos) (x : Island) : Island :=
  if !x.presetOn && x.cls == .a then { x.gates false sg t with presetDue := none } else { x with presetDue := some t }

/-- An island takes its preset and stays in it until it is re-armed (R58). -/
def Island.enterPreset (sg : StageGroup) (t : Nanos) (x : Island) : Island :=
  { x.startPreset sg t with safe := true, armed := false, unacked := none }

/-- A preset the controller sends; an island in its preset follows a change of the target (R58). -/
def Island.setPreset (on : Bool) (k : PresetClass) (sg : StageGroup) (t : Nanos) (x : Island) : Island :=
  let y := { x with presetOn := on, cls := k }
  if x.safe && x.presetOn != on then y.startPreset sg t else y

/-- The island leaves its preset with every channel off (R58). -/
def armIsland (i : Nat) (d : Device) : Device :=
  d.onIsland i fun x => { x.gates false (stageOfIsland i) d.now with armed := true, safe := false, presetDue := none }

/-- Training begins (R58, R436). -/
def Island.train (x : Island) : Island := { x with link := 1 }

/-- A reed result reaches its output tick (R14); a command that waited for its hold phase is carried out (R50). -/
def GateChan.beat (t : Nanos) (len : Bool → Nat × Nat) (c : GateChan) : GateChan :=
  match c.reedHold with
  | some r => { c.settle t len with reedOn := r.1, reedOff := r.2, reedHold := none }
  | none => c.settle t len

/-- The trims whose output tick has come, as setting writes of the class of the reed, class 0 (Table 16.3). -/
def Island.trimWrites (x : Island) : List (Nat × Nat × SettingWrite) :=
  [(0 : Fin 8), 1, 2, 3, 4, 5, 6, 7].filterMap fun k =>
    ((x.chans.getD k.val {}).reedHold).map fun r => (0, k.val, .trim k r.1 r.2)

/-- Tick 0 at an island: its channels, and the trims that now wait for a frame and a credit in place of older ones of the die. -/
def Island.beat (sg : StageGroup) (t : Nanos) (x : Island) : Island :=
  let new := x.trimWrites
  { x with
    chans := x.chans.map (GateChan.beat t (x.edge sg))
    writes := (x.writes.filter fun w => !(new.any fun n => n.1 == w.1 && n.2.1 == w.2.1)) ++ new }

/-! ## Warp link (R53-R55) -/

/-- The block of an island in Table 16.7 (R415): 13 + i. -/
def islandBlock (i : Nat) : Nat := 13 + i

/-- A frame of an earlier epoch is discarded and counted (R58, R416). -/
def epochDiscard (b : Nat) (d : Device) : Device :=
  { d with cross := { d.cross with blocks := d.cross.blocks.modify b fun x => { x with discard := addWrap 32 x.discard 1 } } }

/-- A setting write at an island (R49, R54): a parameter goes into the inactive bank, a trim waits for the next edge (R68). -/
def Island.setting (w : SettingWrite) (x : Island) : Island :=
  match w with
  | .param key v =>
    if x.bank then { x with params0 := x.params0.filter (fun e => e.1 != key) ++ [(key, v)] }
    else { x with params1 := x.params1.filter (fun e => e.1 != key) ++ [(key, v)] }
  | .trim k on off => { x with chans := x.chans.modify k.val fun c => { c with trimNext := some (on, off) } }
  | .test _ => x

/-- The setting write that goes into the next frame: by class, then in rotation (R419, Table 16.3). It takes a credit, and the island
returns the credit once it has applied the write (R54). -/
def Island.serve (x : Island) : Island :=
  if x.link ≠ 2 ∨ x.credits = 0 then x
  else match arbNext x.served (x.writes.map fun w => (w.1, w.2.1)) with
    | none => x
    | some n =>
      let mine := fun (w : Nat × Nat × SettingWrite) => w.1 == n.1 && w.2.1 == n.2
      let y := match x.writes.find? mine with
        | some w => x.setting w.2.2
        | none => x
      { y with writes := x.writes.filter fun w => !mine w, served := arbServed n x.served }

/-- The four frames of a beat carry one setting write each. -/
def Island.serveAll (x : Island) : Island := x.serve.serve.serve.serve

/-- The latched gate faults an enable pin clears in a stage group (Table 2.13). -/
def gateLatched : List FaultName := [.desat, .didtShort, .multiPos, .tripDirect]

/-- Latches of a channel end. -/
def GateChan.unlatch (c : GateChan) : GateChan := { c with latched := false, heldOff := false, desat := false, didt := false }

/-- A frame from the controller arrives at an island (Table 2.4). Its clear bits, which the enable pin logic drives, free the
island's channels where no gate fault of the stage is left (R67); its bank flag switches the banks where the commit tick of this
beat has not done so (R49). -/
def warpDown (i : Nat) (f : WarpDown) (d : Device) : Device :=
  let sg := stageOfIsland i
  let free := f.clear && d.enablePin sg.group && !(gateLatched.any fun n => d.activeAt n (.stage sg))
  let turn := f.bank && decide (d.od.lastCommit ≠ d.now)
  let d := d.onIsland i fun x =>
    let x := { x with enable := f.enable, bank := if turn then !x.bank else x.bank
                      chans := if free then x.chans.map GateChan.unlatch else x.chans }
    let x := x.setPreset f.presetOn f.cls sg d.now
    match f.set with
    | some w => if x.credits = 0 then x else { x.setting w with credits := x.credits - 1 }
    | none => x
  d.each (f.cmd.filter fun c => c.2.2.val ≤ 42) fun c =>
    gateCommands i (d.now + 5 * (50 * f.frame.val + c.2.2.val)) [(c.1, c.2.1)]

/-- The LATE counter of a stage (R17, R40, R55). -/
def countLate (sg : StageGroup) (d : Device) : Device :=
  match sg with
  | .portA => { d with ctl := { d.ctl with latePortA := addWrap 32 d.ctl.latePortA 1 } }
  | .portB => { d with ctl := { d.ctl with latePortB := addWrap 32 d.ctl.latePortB 1 } }
  | _ => { d with ctl := { d.ctl with lateOther := addWrap 32 d.ctl.lateOther 1 } }

/-- An acknowledgement of an island at the controller (R55): one of a frame that has ended without it is discarded and counted. -/
def takeAck (i : Nat) (frame : Fin 4) (k : Fin 8) (d : Device) : Device :=
  let x := d.island i
  if d.forced 0x0206 i then d
  else match x.missed.find? fun m => m.1 == k && m.2.1 == frame && decide (d.now < m.2.2 + 1000) with
  | some m => countLate (stageOfIsland i) (d.onIsland i fun x => { x with missed := x.missed.filter fun n => n != m })
  | none =>
    d.onIsland i fun x => { x with unacked := match x.unacked with
      | some (l, n) => let left := l.filter fun c => c.1 != k
                       if left.isEmpty then none else some (left, n)
      | none => none }

/-- What a fault of an island acts on: its stage, or the actuator drives with channels on it (R41). -/
def islandActs (i : Nat) : List (Scope × Nat) :=
  if i < 61 then [(.stage (stageOfIsland i), 3)]
  else [(.actuator ((8 * i - 488) / 6), 3), (.actuator ((8 * i + 7 - 488) / 6), 3)]

/-- WARP_ACK_TIMEOUT (R55): repeated once in the next frame, then WARP_NOACK, whose reaction puts the island into its preset
(R58; log entry 70). -/
def warpAckTimeout (i : Nat) (frame : Fin 4) (d : Device) : Device :=
  match (d.island i).unacked with
  | none => d
  | some (l, n) =>
    let new := l.map fun (c : Fin 8 × Bool) => (c.1, frame, d.now)
    let d := d.onIsland i fun x => { x with
      missed := (x.missed.filter fun m => decide (d.now < m.2.2 + 1000)) ++ new
      unacked := if n ≤ 1 then some (l, 2) else none
      noack := if n ≤ 1 then addSat 255 x.noack 1 else x.noack }
    if n ≤ 1 then d
    else
      let d := raiseActs .warpNoack (.stage (stageOfIsland i)) 3 (islandActs i) d
      d.onIsland i fun x => { x.enterPreset (stageOfIsland i) d.now with notAcked := true }

def execWarpAckTimeout (i : Fin 64) (frame : Fin 4) (s : State) : Host.Outcome State Fault Refusal :=
  .next (if s.dev.ctl.state = .off then s else s.onDev (warpAckTimeout i frame))

/-- The safe-state rule is evaluated: not in BOOT and CALIBRATING, where all gates are off (Table 1.5); the preset of every island is
off there (DESIGN CHOICE, log entry 71). -/
def Device.safeRuled (d : Device) : Bool := d.ctl.state != .boot && d.ctl.state != .calibrating

/-- The target and class of an island's preset (R27, R29, R56). -/
def Device.presetOf (d : Device) (i : Nat) : Bool × PresetClass :=
  if i < 36 then
    let p := if i < 18 then PortId.a else .b
    let lvl := if d.safeRuled && d.wantsAsc p then
        match d.ascSet p with
        | some upper => if upper then PhaseLevel.p else .n
        | none => .allOff
      else .allOff
    if lvl.on.contains (i % 6) then (true, .c) else (false, offClass i)
  else (false, offClass i)

/-- ASC is called for and no set can be held on (R29); the fault ends in SAFE by Table 1.11. -/
def ascCheck (p : PortId) (d : Device) : Device :=
  let stuck := d.wantsAsc p && (d.ascSet p).isNone
  if stuck then (if d.portSafe p then raise .ascUnavailable (.port p) 4 d else d)
  else safeExitClear .ascUnavailable (.port p) d

/-- SAFE_PRESET_UPDATE (R56): the preset of every island whose link is up; an island whose link is down keeps the target
it last received (R58). -/
def safePresetUpdate (d : Device) : Device :=
  let d := d.each (List.range 64) fun i d =>
    let t := d.presetOf i
    if (d.island i).link = 2 then d.onIsland i (Island.setPreset t.1 t.2 (stageOfIsland i) d.now) else d
  if d.safeRuled then d.each ports ascCheck else d

def execSafePresetUpdate (s : State) : Host.Outcome State Fault Refusal :=
  .next (if s.dev.ctl.state = .off then s else s.onDev safePresetUpdate)

/-- WARP_SILENT (R57, R58): no valid frame for 5 us. -/
def warpSilent (i : Nat) (d : Device) : Device :=
  let d := d.onIsland i fun x => { x.enterPreset (stageOfIsland i) d.now with link := 3, silent := true }
  raiseActs .warpSilent (.stage (stageOfIsland i)) 3 (islandActs i) d

def execWarpSilent (i : Fin 64) (late : Bool) (s : State) : Host.Outcome State Fault Refusal :=
  .next (if (s.dev.island i).link = 2 then s.onDev fun d => lateMisc late (warpSilent i d) else s)

/-- A class time has come. -/
def presetTime (on : Bool) (i : Nat) (d : Device) : Device :=
  d.onIsland i fun x => { x.gates on (stageOfIsland i) d.now with presetDue := none }

/-- PRESET_CLASS_B_OFF (R57, Table 2.5): inner and clamp positions going off turn off 1 us after class A. -/
def execPresetClassBOff (i : Fin 64) (s : State) : Host.Outcome State Fault Refusal :=
  let x := s.dev.island i
  .next (if lasted s.dev.now x.presetDue 1000 ∧ !x.presetOn then s.onDev (presetTime false i) else s)

/-- The class C time, 1 us and DEAD_T after the start, falls into the present beat or before it. -/
def Device.classCDue (d : Device) (i : Nat) : Bool :=
  match (d.island i).presetDue with
  | some t => decide (t + 5 * Cfg.deadT d.cfg (stageOfIsland i).num < d.now)
  | none => false

/-- PRESET_CLASS_C_ON (R57, Table 2.5): positions with an on target stay on or turn on. -/
def execPresetClassCOn (i : Fin 64) (s : State) : Host.Outcome State Fault Refusal :=
  .next (if s.dev.classCDue i ∧ (s.dev.island i).presetOn then s.onDev (presetTime true i) else s)

/-! ## Turn-off order (R59) -/

/-- Positions of a level are commanded on at DEAD_T after a turn-off at the present time (R51). -/
def ascTurnOn (p : PortId) (upper : Bool) (d : Device) : Device :=
  let lvl := if upper then PhaseLevel.p else .n
  let d := d.each phases fun ph d =>
    let free := lvl.on.foldl (fun t pos => d.seqFree (posIsland p ph pos) t) (d.now + 5 * Cfg.deadT d.cfg p.num)
    let due := frameTick free
    d.onEng p fun e => { e.onLeg ph fun l => { l with level := lvl, pending := some (lvl.on, due, d.now) } with
      changesNow := e.changesNow ++ [(ph.num, 24 + 2 * ((due - d.now) / 5), lvl)] }
  d.onPort p fun x => { x with ascUpper := upper }

/-- All positions of a port are off: ASC follows where the port is to take it (R27, R59, R64); the next beat finds the safe
state reached once no turn-on waits (R74). -/
def portAllOff (p : PortId) (d : Device) : Device :=
  let d := d.onStage p.stage fun g => { g with order := 2 }
  let goes := d.portSafe p || decide (3 ≤ d.reaction p.stage)
  if goes && d.wantsAsc p then
    match d.ascSet p with
    | some upper => ascTurnOn p upper d
    | none => raise .ascUnavailable (.port p) 4 d
  else d

/-- The inner positions of a converter phase turn off; with the last of a shutdown the stage is all off (R59). -/
def convInnerOff (n : Nat) (d : Device) : Device :=
  let d := d.each [1, 2] fun pos => issuePos false (36 + 4 * n + pos)
  let d := { d with supply := { d.supply with conv := { d.supply.conv with
    phases := d.supply.conv.phases.modify n fun x => { x with active := false, outerAt := none, edges := [] } } } }
  if (d.stage .conv).order = 1 ∧ d.supply.conv.phases.all (fun x => x.outerAt.isNone) then
    d.onStage .conv fun g => { g with order := 3 } else d

/-- INNER_TURN_OFF (R59): the inner and clamp positions of a leg turn off 1 us after its outer ones. -/
def innerTurnOff (leg : ThreeLevelLeg) (d : Device) : Device :=
  match leg with
  | .port p ph =>
    let l := (d.eng p).leg ph
    if l.level.isInner && lasted d.now l.outerAt 1000 then
      let d := d.each [1, 2, 4, 5] fun pos => issuePos false (posIsland p ph pos)
      let d := d.onEng p fun e =>
        { e.onLeg ph fun _ => {} with changesNow := e.changesNow ++ [(ph.num, 24, .allOff)] }
      if (d.eng p).allOff then portAllOff p d else d
    else d
  | .conv n => if lasted d.now (d.supply.conv.phases.getD n {}).outerAt 1000 then convInnerOff n d else d

def execInnerTurnOff (leg : ThreeLevelLeg) (s : State) : Host.Outcome State Fault Refusal :=
  .next (if s.dev.ctl.state = .off then s else s.onDev (innerTurnOff leg))

/-! ## Training and re-arming (R58, R436) -/

/-- ISLAND_TRAINED (R436): the link is up with a new epoch; the island stays in its preset, unarmed. Its bank in use holds the
profile in force (R49). -/
def islandTrained (i : Nat) (d : Device) : Device :=
  let par := profileOf d.cfg (stageOfIsland i).num
  let d := d.onIsland i fun x => { x with
    link := 2, epoch := addWrap 4 x.epoch 1, armed := false, safe := true, credits := 4, unacked := none, missed := []
    params0 := par, params1 := par }
  let all := d.gates.islands.all fun x => x.link == 2
  { d with
    boot := { d.boot with trained := d.boot.trained || all }
    cross := { d.cross with blocks := d.cross.blocks.modify (islandBlock i) fun b =>
      { b with epoch := (d.island i).epoch, absent := false } } }

def execIslandTrained (i : Fin 64) (s : State) : Host.Outcome State Fault Refusal :=
  .next (if s.dev.ctl.state ≠ .off ∧ (s.dev.island i).link = 1 then s.onDev (islandTrained i) else s)

/-- The island's stage is not running: a port DISABLED, any other stage stopped (R58). -/
def Device.stageIdle (d : Device) (sg : StageGroup) : Bool :=
  match sg.port? with
  | some p => (d.port p).state == .disabled
  | none => !(d.stage sg).running

/-- No STO line holds the islands of a stage in their preset (R295). -/
def Device.stoFree (d : Device) (sg : StageGroup) : Bool :=
  match sg with
  | .portA => !d.safety.lineA
  | .portB => !d.safety.lineB
  | _ => true

/-- ISLAND_REARM (R58): the island leaves its preset with every channel off; WARP_NOACK and WARP_SILENT end once every
island of the stage that caused them is re-armed (Table 2.13). -/
def islandRearm (i : Nat) (d : Device) : Device :=
  let sg := stageOfIsland i
  let d := (armIsland i d).onIsland i fun x => { x with silent := false, notAcked := false }
  let d := if sg.islands.any fun j => (d.island j).notAcked then d else clearFault .warpNoack (.stage sg) d
  if sg.islands.any fun j => (d.island j).silent then d else clearFault .warpSilent (.stage sg) d

def execIslandRearm (i : Fin 64) (s : State) : Host.Outcome State Fault Refusal :=
  let d := s.dev
  let sg := stageOfIsland i
  .next (if (d.island i).link = 2 ∧ (d.island i).safe ∧ d.stageIdle sg ∧ d.enablePin sg.group ∧ d.stoFree sg ∧
      !(d.island i).otPending ∧ d.ctl.state ≠ .off then s.onDev (islandRearm i)
    else s)

/-! ## Short-circuit protection (R60-R65) -/

/-- The end of DESAT_BLANK from the start of the last turn-on edge of a die, ns (R61). -/
def Device.blankEnd (d : Device) (g : Nat) : Nat :=
  ((d.chan g).edgeQ / 4).toNat + 25 * (d.island (g / 8)).param 11 (dHvLv 16 10 (stageOfChan g).num)

/-- DESAT_BLANK_END (R61). -/
def execDesatBlankEnd (g : Fin 512) (s : State) : Host.Outcome State Fault Refusal :=
  .next (if (s.dev.chan g).gateOn ∧ s.dev.blankEnd g < s.dev.now + 1000 then
    s.onDev (Device.onChan g fun c => { c with desatArmed := true }) else s)

/-- A position reports a trip with the island's timestamp: two positions of one stage less than 2 us apart shut the stage down as
a whole (R64); of the actuators, two positions of one drive (R41). -/
def positionReport (pos : Nat) (t : Nanos) (d : Device) : Device :=
  let sg := stageOfChan pos
  let near := (d.stage sg).lastPos.any fun e =>
    e.1 != pos && actOf e.1 == actOf pos && decide (t < e.2 + 2000) && decide (e.2 < t + 2000)
  let d := d.onStage sg fun g => { g with
    lastPos := (g.lastPos.filter fun e => decide (t < e.2 + 2000)) ++ [(pos, t)], latched := true, multiPos := g.multiPos || near }
  if near then raiseActs .multiPos (.stage sg) 3 (chanActs pos 3) d else d

/-- The scope a short-circuit reaction acts on: one actuator drive never acts on another (Table 2.1). -/
def tripActs (g : Nat) : List (Scope × Nat) := chanActs g 3

/-- The number that stands for a position: its first channel. -/
def posHead (g : Nat) : Nat := (posChans g).headD g

/-- Two trips of a position within one RUN period: the complementary position is lost, unless a die of it has been
identified by another test (Table 2.11). -/
def dsShort (g : Nat) (d : Device) : Device :=
  let cs := complementChans g
  if 2 ≤ (d.chan (posHead g)).posTrips && !(cs.any fun h => (d.chan h).disabled) then d.each cs (dieLost 4)
  else d

/-- A die whose gate is on begins its two-level soft turn-off (R63). -/
def GateChan.softStart (t : Nanos) (inner : Bool) (c : GateChan) : GateChan :=
  if c.gateOn then { c with soft := some (c.soft.getD { start := t, inner }), desatArmed := false } else c

/-- Every die of an island begins it (R65). -/
def Island.softStart (t : Nanos) (inner : Bool) (x : Island) : Island :=
  { x with chans := x.chans.map (GateChan.softStart t inner) }

/-- A detector of a die fires (R60, R62, R63): soft turn-off of its position, latched off, reported with the island's time. -/
def positionTrip (f : FaultName) (g : Nat) (t : Nanos) (d : Device) : Device :=
  let i := g / 8
  let d := d.onChan g fun c => { c with latched := true, desat := c.desat || f == .desat, didt := c.didt || f == .didtShort }
  let d := d.each (posChans g) fun h =>
    Device.onChan h fun c => { GateChan.softStart t (outerOf i).isSome c with heldOff := true, later := none }
  let d := d.onChan (posHead g) fun c => { c with posTrips := c.posTrips + 1 }
  let d := match outerOf i with
    | some o => issuePos false o d
    | none => d
  let d := positionReport (posHead g) t d
  dsShort g (raiseActs f (.stage (stageOfChan g)) 3 (tripActs g) d)

/-- Module time of a tick of the present beat. -/
def Device.tickTime (d : Device) (tick : Fin 200) : Nanos := d.now + 5 * tick.val

/-- DESAT_DETECT (R61, R63): the detector is enabled once its blanking has ended, while the die is on. -/
def execDesatDetect (g : Fin 512) (tick : Fin 200) (s : State) : Host.Outcome State Fault Refusal :=
  let c := s.dev.chan g
  .next (if c.desatArmed ∧ c.gateOn ∧ s.dev.blankEnd g ≤ s.dev.tickTime tick then
    s.onDev (positionTrip .desat g (s.dev.tickTime tick)) else s)

/-- DIDT_DETECT (R62): armed at all times, in the off state too. -/
def execDidtDetect (g : Fin 512) (tick : Fin 200) (s : State) : Host.Outcome State Fault Refusal :=
  .next (if s.dev.ctl.state = .off then s else s.onDev (positionTrip .didtShort g (s.dev.tickTime tick)))

/-- The soft level of a die may end (R60): SOFT_T has run out, and the outer position of an inner one has acknowledged; an inner
one never holds it longer than 1 us. The level counts as reached at the declaration (log entry 70). -/
def SoftOff.done (softT : Nat) (t : Nanos) (s : SoftOff) : Bool :=
  (decide (s.start + 50 * softT ≤ t) && (!s.inner || s.outerAcked)) || (s.inner && decide (s.start + 1000 ≤ t))

/-- The position sinks to its off hold level. -/
def GateChan.sink (c : GateChan) : GateChan := { c with soft := none, gateOn := false, cmdOn := false, desatArmed := false }

/-- SOFT_T_END (R60, R63): the dies whose soft level may end at a time. -/
def softTEnd (sg : StageGroup) (t : Nanos) (x : Island) : Island :=
  { x with chans := x.chans.map fun c => if c.soft.any (SoftOff.done (x.param 15 (dHvLv 10 4 sg.num)) t) then c.sink else c }

def execSoftTEnd (i : Fin 64) (tick : Fin 200) (s : State) : Host.Outcome State Fault Refusal :=
  .next (if s.dev.ctl.state = .off then s else
    s.onDev (Device.onIsland i (softTEnd (stageOfIsland i) (s.dev.tickTime tick))))

/-! ## Frames of an island (Table 2.4) -/

/-- One sample of a die: outside -60 to 210 degC, or from an open or shorted sensor, it is invalid (R184). -/
def dieSample (g : Nat) (t : Option Int) (d : Device) : Device :=
  let t := if d.forced 0x0606 g then none else t.filter fun x => decide (-480 ≤ x ∧ x ≤ 1680)
  follow .dieTsense (.channel g) 0 t.isNone (d.onChan g fun c => { c with temp := t, tempAt := some d.now })

/-- A frame from an island arrives at the controller (Table 2.4): acknowledgements, fault flags not yet known, changes of the
lock-outs, a die temperature, returned credits. -/
def warpUp (i : Nat) (f : WarpUp) (d : Device) : Device :=
  let d := d.each f.ack (takeAck i f.frame)
  let d := d.each f.flt fun e d =>
    let g := 8 * i + e.1.val
    if (if e.2.1 then (d.chan g).didt else (d.chan g).desat) then d
    else positionTrip (if e.2.1 then .didtShort else .desat) g (d.now + 5 * e.2.2.val) d
  let d := d.each f.uv fun u d =>
    let g := 8 * i + u.1.val
    if (if u.2.1 then (d.chan g).uvNeg else (d.chan g).uvPos) == u.2.2 then d
    else if u.2.2 then gateUvLockout g u.2.1 d else gateUvRelease g u.2.1 d
  let d := match f.temp with
    | some (k, t) => dieSample (8 * i + k.val) t d
    | none => d
  d.onIsland i fun x => { x with credits := min 4 (x.credits + f.credit) }

/-- WARP_FRAME (R53, R58): the CRC and the epoch first, then the fields. -/
def warpFrame (i : Nat) (f : WarpFrame) (crcOk : Bool) (d : Device) : Device :=
  let epoch := match f with
    | .down x => x.epoch.toNat
    | .up x => x.epoch.toNat
  if !crcOk then d.onIsland i fun x => { x with crcErr := addSat 255 x.crcErr 1 }
  else if (d.island i).link ≠ 2 then d
  else if epoch ≠ (d.island i).epoch then epochDiscard (islandBlock i) d
  else match f with
    | .down x => warpDown i x d
    | .up x => warpUp i x d

def execWarpFrame (i : Fin 64) (f : WarpFrame) (crcOk : Bool) (s : State) : Host.Outcome State Fault Refusal :=
  .next (if s.dev.ctl.state = .off ∨ s.dev.cross.timebaseStopped then s else s.onDev (warpFrame i f crcOk))

/-! ## Enable pins (R66, R67) -/

def setEnable (e : EnableGroup) (v : Bool) (d : Device) : Device :=
  match e with
  | .enA => { d with ctl := { d.ctl with enA := v } }
  | .enB => { d with ctl := { d.ctl with enB := v } }
  | .enConv => { d with ctl := { d.ctl with enConv := v } }
  | .enAux => { d with ctl := { d.ctl with enAux := v } }

/-- The islands of an enable group (Table 2.9). -/
def groupIslands (e : EnableGroup) : List Nat := e.stages.flatMap StageGroup.islands

/-- ENABLE_LOW (R67): every island of the group takes its preset by an immediate start. -/
def enableLow (e : EnableGroup) (d : Device) : Device :=
  let d := setEnable e false d
  let d := d.each (groupIslands e) fun i =>
    Device.onIsland i fun x => { x.enterPreset (stageOfIsland i) d.now with enable := false }
  let d := { d with inj := { d.inj with
    lowBy := if d.forced 0x0208 e.num then e.num :: d.inj.lowBy.filter fun k => k != e.num else d.inj.lowBy } }
  let d := match e with
    | .enAux => { d with supply := { d.supply with aux := { d.supply.aux with crowbar := false } } }
    | _ => d
  raise .enableLow (.group e) 3 d

def execEnableLow (e : EnableGroup) (s : State) : Host.Outcome State Fault Refusal :=
  .next (if s.dev.ctl.state = .off then s else s.onDev (enableLow e))

/-- The cause of a channel's latch has not ended: its detector still fires, by its own report or by the stage's. -/
def GateChan.firing (still : List (FaultName × Scope)) (g : Nat) (c : GateChan) : Bool :=
  let on := fun (f : FaultName) => still.contains (f, .channel g) || still.contains (f, .stage (stageOfChan g))
  (c.desat && on .desat) || (c.didt && on .didtShort)

/-- Every latched gate fault of a stage whose cause has ended is cleared: each channel by its own detectors, a position once none
of its channels is latched, the stage's faults once no channel fires them (R67). -/
def unlatchStage (still : List (FaultName × Scope)) (sg : StageGroup) (d : Device) : Device :=
  let gs := sg.islands.flatMap islandChans
  let stays := fun (f : FaultName) => still.any fun e => e.1 == f && (match e.2 with
    | .channel g => gs.contains g
    | sc => sc == .stage sg)
  let d := d.each (gs.filter fun g => !(d.chan g).firing still g) fun g =>
    Device.onChan g fun c => { c with latched := false, desat := false, didt := false }
  let d := d.each (gs.filter fun g => !((posChans g).any fun h => (d.chan h).latched)) fun g =>
    Device.onChan g fun c => { c with heldOff := false }
  let d := d.each (gateLatched.filter fun f => !stays f) fun f => clearFault f (.stage sg)
  let left := gateLatched.any fun f => d.activeAt f (.stage sg)
  d.onStage sg fun g => { g with
    latched := left, multiPos := d.activeAt .multiPos (.stage sg), lastPos := if left then g.lastPos else [] }

/-- What a group's pin clears beside the gate faults: the auxiliary over-voltage latch (Table 2.9, R226), the backup path
held open by repeated over-current (R228), the repeated actuator over-current (Table 10.5). -/
def groupExtra (e : EnableGroup) (still : List (FaultName × Scope)) (d : Device) : Device :=
  match e with
  | .enAux =>
    let d := if d.supply.backup.heldOpen then
        clearFault .batauxOc (.backup 1) { d with supply := { d.supply with
          backup := { d.supply.backup with openings := [], heldOpen := false, cause := 0 } } }
      else d
    if !d.supply.aux.ovLatched then d
    else if still.contains (.auxOv, .stage .aux) then auxCrowbar d
    else
      clearAll .auxOv { d with supply := { d.supply with
        aux := { d.supply.aux with ovLatched := false, startDue := decide (5 ≤ d.supply.chain) }
        backup := { d.supply.backup with cause := if d.supply.backup.cause = 1 then 0 else d.supply.backup.cause } } }
  | .enConv =>
    d.each ((d.faults.active.filter fun e => e.name == .actOcRepeat && !still.contains (e.name, e.scope)).map fun e => e.scope)
      (clearFault .actOcRepeat)
  | _ => d

/-- ENABLE_RISE (R67): the rising edge ends ENABLE_LOW; after at least 10 us low it clears every latched gate fault of the
group whose cause has ended, unless the low level was injected (R428). -/
def enableRise (e : EnableGroup) (lowNs : Nat) (still : List (FaultName × Scope)) (d : Device) : Device :=
  let d := clearFault .enableLow (.group e) (setEnable e true d)
  let d := d.each (groupIslands e) fun i => Device.onIsland i fun x => { x with enable := true }
  if d.inj.lowBy.contains e.num then { d with inj := { d.inj with lowBy := d.inj.lowBy.filter fun k => k != e.num } }
  else if lowNs < 10000 then d
  else
    groupExtra e still (d.each e.stages (unlatchStage still))

def execEnableRise (e : EnableGroup) (lowNs : Nat) (still : List (FaultName × Scope)) (s : State) :
    Host.Outcome State Fault Refusal :=
  .next (if s.dev.ctl.state = .off then s else s.onDev (enableRise e lowNs still))

/-! ## Reed balancer (R68, R69) -/

/-- Mean temperature of the working dies of a position with valid samples, degC. -/
def Device.meanTemp (d : Device) (g : Nat) : Rat :=
  meanOf ((d.workingOf g).filterMap fun c => c.temp.map fun (t : Int) => (t : Rat) / 8)

/-- The reed's error of a die, K, with KS = 1 K per cent; 0 where its temperature has no valid sample (DESIGN CHOICE, log
entry 71). -/
def Device.reedError (d : Device) (g : Nat) : Rat :=
  let c := d.chan g
  match c.temp with
  | some t => ((t : Rat) / 8 - d.meanTemp g) + (c.slopeShare - d.meanShare g)
  | none => 0

/-- The trims of one die after an update (R68). -/
def reedStep (db e : Rat) (r : Int × Int) : Int × Int :=
  if db < e then (min (r.1 + 1) 32, max (r.2 - 1) (-32))
  else if e < -db then (max (r.1 - 1) (-32), min (r.2 + 1) 32)
  else r

/-- A trim stands at the limit its error drives it to (R69). -/
def reedAtLimit (db e : Rat) (r : Int × Int) : Bool :=
  (decide (db < e) && (r.1 == 32 || r.2 == -32)) || (decide (e < -db) && (r.1 == -32 || r.2 == 32))

/-- Expert trims of a channel: turn-on, turn-off (Table 2.14). -/
def expertTrim (S : Settings) (g : Nat) : Int × Int :=
  let v := Cfg.chTrim S g
  (toSigned 8 (v % 256), toSigned 8 (v / 256))

/-- One die in a position that has two or more working dies while its stage runs: the error is computed in every mode; only the
automatic mode applies a step, which waits for its output tick (R14, R68, R69). REED_ENABLE = 0 is REED_MODE 1; which of it and
REED_MODE 2 governs is not stated: the expert trims do (DESIGN CHOICE, log entry 71). -/
def reedDie (g : Nat) (d : Device) : Device :=
  let db : Rat := (Cfg.reedDeadband d.cfg : Rat) / 2
  let e := d.reedError g
  let auto := Cfg.reedMode d.cfg = 0 && Cfg.reedEnable d.cfg
  d.onChan g fun c =>
    let now := (c.reedOn, c.reedOff)
    let r := if auto then reedStep db e now else now
    { c with reedHold := if auto then some r else c.reedHold
             satSince := if reedAtLimit db e r then some (c.satSince.getD d.now) else none }

/-- The dies the reed works on. -/
def Device.reedOn (d : Device) (g : Nat) : Bool :=
  !(d.chan g).disabled && decide (2 ≤ (d.workingOf g).length) && (d.stage (stageOfChan g)).running

/-- With REED_MODE 2 the expert trims are used on every channel (R69). -/
def expertAll (d : Device) : Device :=
  if Cfg.reedMode d.cfg = 2 then
    d.each (List.range 512) fun g => Device.onChan g fun c => { c with reedHold := some (expertTrim d.cfg g) }
  else d

/-- REED_UPDATE (R68): every 10 ms, every position. A position whose update is late gets none of it (R17). -/
def reedUpdate (d : Device) : Device :=
  expertAll (d.each ((List.range 512).filter fun g => d.reedOn g && !d.gates.reedLate.contains (g / 8)) reedDie)

def execReedUpdate (s : State) : Host.Outcome State Fault Refusal :=
  .next (if s.dev.ctl.state = .off then s else s.onDev reedUpdate)

/-- The output tick has won against a reed update (R17): F3 on the stage, the result is not applied. -/
def reedOverrun (i : Nat) (d : Device) : Device :=
  let d := d.onIsland i fun x => { x with chans := x.chans.map fun c => { c with reedHold := none } }
  let d := { d with ctl := { d.ctl with overrun := true }
                    gates := { d.gates with reedLate := d.gates.reedLate.filter (fun j => j != i) ++ [i] } }
  raiseActs .overrun (.stage (stageOfIsland i)) 3 (islandActs i) d

/-- The late result of a reed update is discarded; the next one counts again (R17). -/
def reedDiscarded (i : Nat) (d : Device) : Device :=
  { d with gates := { d.gates with reedLate := d.gates.reedLate.filter fun j => j != i } }

/-- REED_SATURATED (R69): REED_SAT_TIME at a limit. -/
def execReedSaturated (g : Fin 512) (s : State) : Host.Outcome State Fault Refusal :=
  .next (if lasted s.dev.now (s.dev.chan g).satSince (sec (Cfg.reedSatTime s.dev.cfg)) ∨ s.dev.forced 0x020A g then
    s.onDev (raise .reedSaturated (.channel g) 0) else s)

/-! ## Die loss and retest (R70-R72) -/

/-- One channel of a gate-leakage window (Table 2.11): no measurement neither counts nor breaks the series. -/
def leakChan (high unmeasured : List Nat) (g : Nat) (d : Device) : Device :=
  if (d.chan g).disabled || unmeasured.contains g then d
  else if high.contains g || d.forced 0x0205 g then
    let d := d.onChan g fun c => { c with leakRun := c.leakRun + 1 }
    if 3 ≤ (d.chan g).leakRun then dieLost 1 g d else d
  else d.onChan g fun c => { c with leakRun := 0 }

/-- GATE_LEAK_WINDOW (R70). -/
def execGateLeakWindow (high unmeasured : List (Fin 512)) (s : State) : Host.Outcome State Fault Refusal :=
  .next (if s.dev.ctl.state = .off then s else
    s.onDev fun d => d.each (List.range 512) (leakChan (high.map Fin.val) (unmeasured.map Fin.val)))

/-- DIE_RETEST (R72): accepted in STANDBY or SERVICE, busy while one runs. -/
def cmdDieRetest (d : Device) : W32 × Device :=
  if d.gates.retestState = 1 then (Abort.busy, d)
  else if d.ctl.state = .standby ∨ d.ctl.state = .service then
    (Abort.ok, { d with gates := { d.gates with retestState := 1 } })
  else (Abort.state, d)

def execDieRetest (path : Path) (s : State) : Host.Outcome State Fault Refusal :=
  .next (hostWrite path .v false (devCmd cmdDieRetest) s)

/-- The cause a channel is disabled for in the die map. -/
def Device.dieCause (d : Device) (g : Nat) : Nat := (d.flash.dieMap.lookup g).getD 0

/-- A die that has passed both tests returns to service. -/
def dieReturn (g : Nat) (d : Device) : Device :=
  let d := d.onChan g fun c => { c with disabled := false, gateLeak := false, shorted := false, leakRun := 0, shortRun := 0 }
  let d := { d with flash := { d.flash with dieMap := d.flash.dieMap.filter fun e => e.1 != g } }
  match stageOfChan g with
  | .aux =>
    let ph := (g - 472) / 2
    if (d.chan (472 + 2 * ph)).disabled || (d.chan (473 + 2 * ph)).disabled then d
    else { d with supply := { d.supply with aux := { d.supply.aux with lostPh := d.supply.aux.lostPh.set ph false } } }
  | _ => d

/-- DIE_LOST of a stage after a retest: it clears with the die map, or shows what remains (Table 2.13). -/
def dieLostReview (sg : StageGroup) (d : Device) : Device :=
  if d.activeAt .dieLost (.stage sg) then
    let d := clearFault .dieLost (.stage sg) d
    d.each ((sg.islands.flatMap islandChans).filter fun g => (d.chan g).disabled) dieLossReact
  else d

/-- DIE_RETEST_DONE (R72): dies disabled for gate leakage or gate short that pass are re-enabled together. -/
def dieRetestDone (passed : List (Fin 512)) (d : Device) : Device :=
  let gs := (List.range 512).filter fun g =>
    (passed.map Fin.val).contains g && (d.chan g).disabled && (d.dieCause g == 1 || d.dieCause g == 2)
  let d := d.each gs dieReturn
  let d := { d with gates := { d.gates with retestState := 2, retestResult := gs.length } }
  d.each (Scope.stages .module) dieLostReview

def execDieRetestDone (passed : List (Fin 512)) (s : State) : Host.Outcome State Fault Refusal :=
  .next (if s.dev.gates.retestState = 1 then s.onDev (dieRetestDone passed) else s)

/-! ## Current limit of a stage (R46, R71, Table 2.12) -/

/-- Table 2.12. -/
def dieShare (n : Nat) : Rat :=
  if 8 ≤ n then 1 else if n = 7 then 7 / 8 else if n = 6 then 3 / 4 else if n = 5 then 5 / 8 else if 3 ≤ n then 1 / 4 else 0

/-- The limit of a stage by dies lost and dies in lock-out, as a share of its rating. -/
def Device.dieLimit (d : Device) (sg : StageGroup) : Rat :=
  match sg with
  | .llcSec =>
    if (islandChans 58).any fun g => (d.chan g).disabled then
      (if [464, 466, 468, 470].any fun g => d.usablePos g == 0 then 0 else 1 / 2) else 1
  | .aux | .act => 1
  | _ => sg.islands.foldl (fun m i => min m (dieShare (d.usablePos (8 * i)))) 1

/-- The LIMSRC of that limit: 8 dies lost, 14 lock-out, 8 where both limit (R46). -/
def Device.dieLimsrc (d : Device) (sg : StageGroup) : Nat :=
  let gs := sg.islands.flatMap islandChans
  if gs.any fun g => (d.chan g).disabled then 8 else if gs.any fun g => (d.chan g).locked then 14 else 0

end Sys2Proof.Machine
end

