-- ==== Sys2Proof/Machine/Engine.lean ====
section
/-!
DEFINITION. The torque and flux engine (chapter 3): rebuilt voltages and estimation, sectors and hysteresis, the draft
table, dwell and limiter, the gate sequencer's level steps, and the decision of a beat.
-/

namespace Sys2Proof.Machine

/-! ## Vectors -/

abbrev Vec := Rat × Rat

def Vec.add (a b : Vec) : Vec := (a.1 + b.1, a.2 + b.2)
def Vec.sub (a b : Vec) : Vec := (a.1 - b.1, a.2 - b.2)
def Vec.scale (k : Rat) (a : Vec) : Vec := (k * a.1, k * a.2)
def Vec.dot (a b : Vec) : Rat := a.1 * b.1 + a.2 * b.2
/-- The scalar product a x b of R81. -/
def Vec.cross (a b : Vec) : Rat := a.1 * b.2 - a.2 * b.1
def Vec.mag (a : Vec) : Rat := Config.sqrt (a.dot a)
def Vec.angle (a : Vec) : Rat := Config.angleDeg a.1 a.2
/-- Rotation by an angle in degrees. -/
def Vec.rot (deg : Rat) (a : Vec) : Vec :=
  let c := Config.cosDeg deg
  let s := Config.sinDeg deg
  (c * a.1 - s * a.2, s * a.1 + c * a.2)
/-- The vector of a magnitude at an angle. -/
def Vec.polar (m deg : Rat) : Vec := (m * Config.cosDeg deg, m * Config.sinDeg deg)

/-- Amplitude-invariant Clarke transform (R75). -/
def clarke (u v w : Rat) : Vec := ((2 * u - v - w) / 3, (v - w) / Config.sqrt 3)

/-- An angle difference brought into -180 to 180 degrees. -/
def wrapDeg (x : Rat) : Rat := x - 360 * ((x + 180) / 360).floor

/-- Division where the spec states no result for a divisor of 0: a free value stands there (log entry 3). -/
def divFree (free a b : Rat) : Rat := if b = 0 then free else a / b

/-! ## Rebuilt voltages (R78) -/

/-- The voltage of a phase against the neutral point in one level, without the device drop; none where it floats. -/
def levelVolt (vUp vLo i : Rat) : PhaseLevel → Option Rat
  | .p => some vUp
  | .oPlus | .oMinus => some 0
  | .n => some (-vLo)
  | .allOff => if ratAbs i < 2 then none else if 0 < i then some (-vLo) else some vUp
  | .innerP => if 0 < i then some 0 else some vUp
  | .innerN => if i < 0 then some 0 else some (-vLo)
  | .innerO => some 0

/-- The mean voltage of a phase over a beat of 400 half-ticks: the level at its start, then its changes in order. -/
def phaseVolt (vUp vLo i drop : Rat) (start : PhaseLevel) (changes : List (Nat × PhaseLevel)) : Rat :=
  let one := fun l => match levelVolt vUp vLo i l with
    | none => (0 : Rat)
    | some v => v - drop
  let r := changes.foldl (fun (a : Nat × PhaseLevel × Rat) c =>
    (max a.1 c.1, c.2, a.2.2 + one a.2.1 * ((max a.1 c.1 - a.1 : Nat) : Rat))) (0, start, 0)
  (r.2.2 + one r.2.1 * ((400 - r.1 : Nat) : Rat)) / 400

/-- v_s over the previous beat, in the stationary frame; the sign and the 2 A test of a phase current take the latch at the tick 0
that ends the beat (DESIGN CHOICE, log entry 72). -/
def Device.voltage (d : Device) (p : PortId) : Vec :=
  let e := d.eng p
  let vf : Rat := 2 * (Cfg.vfComp d.cfg p : Rat) / 1000
  let one := fun (k : Nat) (i : Rat) =>
    phaseVolt e.vUp e.vLo i (vf * ratSign i) (e.lvlPrev.getD k .allOff)
      ((e.changes.filter fun c => c.1 == k).map fun c => c.2)
  clarke (one 0 e.iPhase.1) (one 1 e.iPhase.2.1) (one 2 e.iPhase.2.2)

/-! ## Estimation (R79-R84, R103, R104) -/

/-- Winding temperature of R83, degC. -/
def Device.windTemp (d : Device) (p : PortId) : Rat :=
  let n := Cfg.windingTempSrc d.cfg p
  if n = 0 then 100 else (d.therm.wtUsed.getD (n - 1) none).getD 100

/-- Stator resistance in use, ohm (R83). -/
def Device.statorRes (d : Device) (p : PortId) : Rat :=
  Cfg.rs20 d.cfg p / 1000 * (1 + 393 / 100000 * (d.windTemp p - 20))

/-- The wheel a port's SPEED_SRC names (or OBS_FALLBACK while that is in force), whatever its reading. -/
def Device.namedWheel (d : Device) (p : PortId) : Option Nat :=
  let n := if (d.port p).obsFallback then Cfg.obsFallback d.cfg p else Cfg.speedSrc d.cfg p
  if n = 0 then none else some (n - 1)

/-- Electrical angle by the tooth wheel, where it has a valid angle (R80, R145). -/
def Device.wheelAngle (d : Device) (p : PortId) : Option Rat :=
  match d.namedWheel p with
  | some n => if (d.wheel n).beatAngle then some (Cfg.polePairs d.cfg p * (d.wheel n).angle) else none
  | none => none

/-- Beat length, s. -/
def beatSec : Rat := 1 / 1000000

/-- Microhenry to henry. -/
def micro (x : Rat) : Rat := x / 1000000

/-- The current model: psi_cm, psi_r and w_slip (R80, R81). A port with MACHINE_TYPE 0 has no model of its own: it runs the second
one, in which a division by 0 counts as 0, and nothing uses its estimate (DESIGN CHOICE, log entry 72). -/
def Device.currentModel (d : Device) (p : PortId) (free : Rat) : Vec × Vec × Rat :=
  let S := d.cfg
  let e := d.eng p
  let i := e.iNow
  if Cfg.machineType S p = 1 then
    let th := (d.wheelAngle p).getD (Vec.angle (Vec.sub e.psi (Vec.scale (micro (Cfg.lq S p)) i)))
    let dq := Vec.rot (-th) i
    (Vec.rot th (micro (Cfg.ld S p) * dq.1 + Cfg.psiM S p, micro (Cfg.lq S p) * dq.2), e.psiR, 0)
  else
    let ls := micro (Cfg.ls S p)
    let lr := micro (Cfg.lr S p)
    let lm := micro (Cfg.lm S p)
    let rr := Cfg.rr S p / 1000
    let tr := lr / rr
    let sig := ls - lm * lm / lr
    let wr := match d.namedWheel p with
      | some n => if (d.wheel n).beatAngle then d.omega p (d.wheelShaft n) else e.we - e.wslip
      | none => e.we - e.wslip
    let turn : Vec := (-(wr * e.psiR.2), wr * e.psiR.1)
    let psiR := Vec.add e.psiR (Vec.scale beatSec
      (Vec.add (Vec.sub (Vec.scale (lm / tr) i) (Vec.scale (1 / tr) e.psiR)) turn))
    (Vec.add (Vec.scale (lm / lr) psiR) (Vec.scale sig i), psiR,
      divFree free (lm * Vec.cross psiR i) (tr * Vec.dot psiR psiR))

/-- The partner's flux for a port's motor, as latched. -/
def PartnerData.psi (x : PartnerData) : PortId → Vec
  | .a => x.psi0
  | .b => x.psi1

/-- The combined flux is in use: in a pair, partner present, its data not extrapolated for longer than 20 us (R32,
R103, R105). -/
def Device.pairOn (d : Device) : Bool := d.ctl.pairFlux

/-- Tick 0 of the beat whose latched flux a guy frame carries: one of the beats divisible by 10 in which frames start (R365). -/
def PartnerData.fluxTime (x : PartnerData) : Nanos := x.txTime / 10000 * 10000

/-- psi_p: the partner's flux rotated to tick 0 at w_e and by SET_SHIFT into this module's frame (R103). -/
def Device.partnerPsi (d : Device) (p : PortId) (we : Rat) : Vec :=
  let age : Rat := ((d.now - d.ctl.partner.fluxTime : Nat) : Rat) / 1000000000
  let shift : Rat := if Cfg.setShift d.cfg p = 1 then 30 else 0
  let sign : Rat := if Cfg.pairPosition d.cfg = 1 then 1 else -1
  Vec.rot (we * age * 180 / Config.pi + sign * shift) (d.ctl.partner.psi p)

/-- Steps 1-3 of Table 3.6: the estimator quantities of a beat. Step 2a uses the w_e in force before step 3. Log entry 72: the mean
of OBS_CONF runs over the beats there are since the initialisation, up to 1,000; IDIF_EST keeps its value without a partner; the
age of the partner's flux shows 0 before the first frame and stops at 255. -/
def estimate (p : PortId) (d : Device) : Device :=
  let S := d.cfg
  let e := d.eng p
  let f1 := Config.freeRat d.fresh
  let f2 := Config.freeRat (d.fresh + 1)
  let f3 := Config.freeRat (d.fresh + 2)
  let iAvg := Vec.scale (1 / 2) (Vec.add e.iPrev e.iNow)
  let psiV := Vec.add e.psi (Vec.scale beatSec (Vec.sub (d.voltage p) (Vec.scale (d.statorRes p) iAvg)))
  let cm := d.currentModel p f1
  let g := 2 * Config.pi * Cfg.fluxBlendHz S p * beatSec
  let psi := Vec.add psiV (Vec.scale g (Vec.sub cm.1 psiV))
  let theta := Vec.angle psi
  let we := match e.angles[49]? with
    | some th => wrapDeg (theta - th) * Config.pi / 180 / (50 * beatSec)
    | none => e.we
  let est := match d.srcWheel p with
    | some n => d.wheelShaft n
    | none => (if Cfg.machineType S p = 1 then we else we - cm.2.2) / Cfg.polePairs S p * 60 / (2 * Config.pi)
  let eps := (Vec.mag (Vec.sub psiV cm.1) :: e.eps).take 1000
  let mean := eps.sum / eps.length
  let conf := divFree f2 mean (Cfg.ratedFlux S p / 4)
  let psiP := d.partnerPsi p e.we
  let pair := d.pairOn
  d.draw.draw.draw.onEng p fun e => { e with
    psi := psi, psiR := cm.2.1, wslip := cm.2.2, theta := theta, we := we, speed := est
    torque := 3 / 2 * Cfg.polePairs S p * Vec.cross psi e.iNow, flux := Vec.mag psi
    angles := (theta :: e.angles).take 50, eps := eps, obsConf := 100 * max 0 (1 - conf)
    pairDec := pair
    psiC := if pair then Vec.scale (1 / 2) (Vec.add psi psiP) else psi
    idif := if pair then divFree f3 (Vec.mag (Vec.sub psiP psi)) (micro (Cfg.lDiff S p)) else e.idif
    fluxAge := if d.ctl.lastGuy.isNone then 0 else min 255 ((d.now - d.ctl.partner.fluxTime) / 1000) }

/-! ## Selection (R85-R100) -/

/-- The sector of an angle (R85). -/
def sectorOf (theta : Rat) : Nat := (((theta + 15) / 30).floor % 12).toNat

/-- The sector with its hysteresis (R85); SECTOR_HYS in 0.1 degrees. -/
def sectorNext (k hys : Nat) (theta : Rat) : Nat :=
  let x := wrapDeg (theta - 30 * k)
  let lim : Rat := 15 + (hys : Rat) / 10
  if lim < x then (k + 1) % 12 else if x < -lim then (k + 11) % 12 else k

/-- The torque level (R86): the steps in order. -/
def torqueLevel (tl : Int) (eT ht1 ht2 : Rat) : Int :=
  if ht2 ≤ eT then 2
  else if eT ≤ -ht2 then -2
  else
    let tl := if tl = 2 ∧ eT ≤ ht1 then 1 else tl
    let tl := if tl = -2 ∧ -ht1 ≤ eT then -1 else tl
    let tl := if tl ≤ 0 ∧ ht1 ≤ eT then 1 else tl
    let tl := if 0 ≤ tl ∧ eT ≤ -ht1 then -1 else tl
    let tl := if tl = 1 ∧ eT ≤ 0 then 0 else tl
    if tl = -1 ∧ 0 ≤ eT then 0 else tl

/-- The flux level (R87). -/
def fluxLevel (fl : Bool) (ePsi hf : Rat) : Bool := if hf ≤ ePsi then true else if ePsi ≤ -hf then false else fl

/-- HT1, HT2 in Nm and HF in Vs before the scale (R88, Table 3.3). -/
def bands (S : Settings) (p : PortId) : Rat × Rat × Rat :=
  let pct : Rat × Rat × Rat :=
    if Cfg.expertBands S p then
      ((Cfg.tBand1 S p : Rat) / 10000, (Cfg.tBand2 S p : Rat) / 10000, (Cfg.fluxBand S p : Rat) / 10000)
    else match Cfg.response S p with
      | 0 => (3 / 100, 9 / 100, 15 / 1000)
      | 1 => (2 / 100, 6 / 100, 1 / 100)
      | _ => (1 / 100, 3 / 100, 5 / 1000)
  (pct.1 * Cfg.ratedTorque S p, pct.2.1 * Cfg.ratedTorque S p, pct.2.2 * Cfg.ratedFlux S p)

/-- NP_DEV (R89). -/
def Device.npDev (d : Device) (p : PortId) : Rat := (d.eng p).vUp - (d.eng p).vLo

/-- The balance bit (R89). The power averaged over the previous beat is taken as the mean v_s times the mean of the currents at the
beat's two ends (DESIGN CHOICE, log entry 72). -/
def Device.balance (d : Device) (p : PortId) : Bool :=
  let S := d.cfg
  let e := d.eng p
  let pw := 3 / 2 * Vec.dot (d.voltage p) (Vec.scale (1 / 2) (Vec.add e.iPrev e.iNow))
  let rated := Cfg.ratedTorque S p * Cfg.ratedSpeed S p * 2 * Config.pi / 60
  let dev := d.npDev p
  if (Cfg.npBand S p : Rat) < ratAbs dev ∧ rated / 100 ≤ ratAbs pw then
    (if 0 < dev * pw then false else if dev * pw < 0 then true else e.sel.npb)
  else e.sel.npb

/-- Level digits of a state code: N 0, O 1, P 2, phases U, V, W (R75). -/
def digits (code : Nat) : List Nat := [code / 9 % 3, code / 3 % 3, code % 3]

/-- Level steps between two states, P to N counting two (R93). -/
def levelSteps (a b : Nat) : Nat :=
  (List.zipWith (fun (x y : Nat) => (x - y) + (y - x)) (digits a) (digits b)).sum

/-- A zero state (R75). -/
def isZero (code : Nat) : Bool := code == 0 || code == 13 || code == 26

/-- The zero state nearest to the present state; 13 on a tie and from the all-off state (R93). -/
def nearestZero (present : Option Nat) : Nat :=
  match present with
  | none => 13
  | some c =>
    let m := min (levelSteps c 0) (min (levelSteps c 13) (levelSteps c 26))
    if levelSteps c 13 = m then 13 else if levelSteps c 0 = m then 0 else 26

/-- The large state of an even direction (Table 3.1). -/
def largeState (j : Nat) : Nat := [18, 24, 6, 8, 2, 20].getD (j / 2 % 6) 18

/-- The upper-type small states in the order of the angle test (R100). -/
def testState (m : Nat) : Nat := [22, 25, 16, 17, 14, 23].getD m 13

/-- The direction of Table 3.5. -/
def vlimDir (pos : Bool) (k : Nat) (fl : Bool) : Nat :=
  let m := if k % 2 = 0 then (if fl then 2 else 4) else 3
  if pos then (k + m) % 12 else (k + 12 - m) % 12

/-- Draft-table position of a beat (R91). -/
def draftIndex (s : Selection) : Nat :=
  24 * (5 * (if s.fl then 0 else 1) + (2 - s.tl).toNat) + 2 * s.sector + (if s.npb then 1 else 0)

/-- The flux error: with the decoupling term in a pair (R87, R103). -/
def Device.fluxError (d : Device) (p : PortId) (free : Rat) : Rat :=
  let e := d.eng p
  if e.pairDec then
    let m := Vec.mag e.psiC
    Cfg.ratedFlux d.cfg p - m
      - (Cfg.kdec d.cfg p : Rat) / 64 * divFree free (Vec.dot (Vec.sub e.psi e.psiC) e.psiC) m
  else Cfg.ratedFlux d.cfg p - e.flux

/-- The present state: its code, or none with all gates off. -/
def Engine.present (e : Engine) : Option Nat := if e.allOff then none else some e.code

/-- No level step of the present state is pending (R77). -/
def Engine.settled (e : Engine) : Bool := phases.all fun ph => (e.leg ph).plan.isEmpty && (e.leg ph).pending.isNone

/-- The output tick of the present beat, 140 ticks after its start (R14, Table 1.4). -/
def Device.outTime (d : Device) : Nanos := d.now + 700

/-- The dwell of a port lets no gate turn on within the next 1 us: it does not select, or its limit lies later (R95, R423). -/
def Device.dwellFar (d : Device) (p : PortId) : Bool :=
  let e := d.eng p
  !e.selecting || (e.settled && decide (d.now + 1000 ≤ e.applied + 1000 * (Cfg.minDwell d.cfg p + e.dwellExt)))

/-- A new state may be applied at the output tick (R77, R95). -/
def Device.dwellOver (d : Device) (p : PortId) : Bool :=
  let e := d.eng p
  e.allOff || (e.settled && decide (e.applied + 1000 * (Cfg.minDwell d.cfg p + e.dwellExt) ≤ d.outTime))

/-- Hysteresis, sector and balance of a beat (steps 4 and 5 of Table 3.6). -/
def Device.selection (d : Device) (p : PortId) (free : Rat) : Selection :=
  let S := d.cfg
  let e := d.eng p
  let b := bands S p
  let k : Rat := (e.fswScale : Rat) / 64
  let eT := e.tStar - e.torque
  { tl := if e.fluxBuild then (if e.buildUp then 1 else -1) else torqueLevel e.sel.tl eT (k * b.1) (k * b.2.1)
    fl := fluxLevel e.sel.fl (d.fluxError p free) (k * b.2.2)
    npb := d.balance p
    sector := sectorNext e.sel.sector (Cfg.sectorHys S p) (if e.pairDec then Vec.angle e.psiC else e.theta) }

/-- The state a selection calls for: voltage limit, draft table, zero states (R91-R93, R98). -/
def Device.wanted (d : Device) (p : PortId) (s : Selection) : Nat :=
  let e := d.eng p
  let pos := decide (0 ≤ e.tStar)
  let c := if e.vlim && s.tl != 0 && decide (0 < s.tl) == pos then largeState (vlimDir pos s.sector s.fl)
    else Cfg.draftTable d.cfg p (draftIndex s)
  if isZero c then nearestZero e.present else c

/-- The decision of a beat (steps 4-7 of Table 3.6). -/
def Device.decision (d : Device) (p : PortId) (free : Rat) : Decision :=
  let e := d.eng p
  match e.angleTest with
  | some t =>
    let c := if t.pausing then 13 else testState t.pulse
    let go := e.present != some c
    { sel := e.sel, commute := false, code := if go && d.dwellOver p then some c else none, dwellHold := go && !d.dwellOver p }
  | none =>
    if e.selecting then
      let s := d.selection p free
      let c := d.wanted p s
      if e.present = some c then { sel := s, commute := s.sector != e.sel.sector, code := none, dwellHold := false }
      else if d.dwellOver p then { sel := s, commute := s.sector != e.sel.sector, code := some c, dwellHold := false }
      else { sel := s, commute := s.sector != e.sel.sector, code := none, dwellHold := true }
    else { sel := e.sel, commute := false, code := none, dwellHold := false }

/-- Flux build of an induction machine begins at the first selection beat; the forced level alternates from beat to beat (R99). -/
def fluxBuildStep (p : PortId) (d : Device) : Device :=
  let e := d.eng p
  if e.fluxBuild then d.onEng p fun e => { e with buildUp := !e.buildUp }
  else if Cfg.machineType d.cfg p = 2 ∧ e.selecting ∧ e.selStart = some d.now ∧ e.flux < 9 / 10 * Cfg.ratedFlux d.cfg p then
    d.onEng p fun e => { e with fluxBuild := true, buildUp := true, fluxSince := some d.now }
  else d

/-- It ends at 95 % of the rated flux; the torque reference applies from the next beat (R99). -/
def fluxBuildEnd (p : PortId) (d : Device) : Device :=
  if (d.eng p).fluxBuild ∧ 95 / 100 * Cfg.ratedFlux d.cfg p ≤ (d.eng p).flux then
    d.onEng p fun e => { e with fluxBuild := false, fluxSince := none }
  else d

/-- The estimator is lost in a RUNNING or STOPPING port (R126): from the next beat a fallback wheel serves, or the torque is
dropped. -/
def obsCheck (p : PortId) (d : Device) : Device :=
  let x := d.port p
  let on := x.state == .running || x.state == .stopping
  if !on || decide ((Cfg.obsConfMin d.cfg p : Rat) ≤ x.eng.obsConf) || x.obsDrop != 0 then d
  else if x.obsFallback && (d.srcWheel p).isSome then d
  else
    let d := raise .obsLost (.port p) 0 d
    let n := Cfg.obsFallback d.cfg p
    if n != 0 && !x.obsFallback && (d.wheel (n - 1)).readingValid then d.onPort p fun x => { x with obsFallback := true }
    else d.onPort p fun x => { x with obsDrop := 1 }

/-- The estimator of a beat and what follows from its confidence. -/
def estimated (p : PortId) (d : Device) : Device := obsCheck p (estimate p d)

/-- The margins that can still be the smallest of the last second (R16). -/
def addMargin (t m : Nat) (l : List (Nanos × Nat)) : List (Nanos × Nat) :=
  (l.filter fun e => decide (t < e.1 + sec 1) && decide (e.2 < m)) ++ [(t, m)]

/-- A traction decision completes (R14, R17, R102): the estimator runs where the fast-path results are valid (R101), the
result is placed in the holding register. -/
def tractionDecision (p : PortId) (ticks : Nat) (d : Device) : Device :=
  let d := { d with ctl := { d.ctl with margins := addMargin d.now (140 - ticks) d.ctl.margins } }
  let d := if (d.eng p).fastValid then estimated p d else d
  let d := fluxBuildStep p d
  let dec := d.decision p (Config.freeRat d.fresh)
  (fluxBuildEnd p d).draw.onEng p fun e => { e with holding := some dec }

/-- TRACTION_DECISION (R102): completion before the output tick wins; a decision not complete by tick 140 is OVERRUN's
(R17). -/
def execTractionDecision (p : PortId) (ticks : Nat) (s : State) : Host.Outcome State Fault Refusal :=
  .next (if s.dev.ctl.state ≠ .off ∧ ticks < 140 ∧ !(s.dev.eng p).late then s.onDev (tractionDecision p ticks) else s)

/-! ## The gate sequencer (R51, R52, R76, R77) -/

/-- The step from one level to a neighbouring one: position turned off, position turned on (R77). -/
def stepPos : PhaseLevel → PhaseLevel → Option (Nat × Nat)
  | .p, .oPlus => some (0, 4)
  | .oPlus, .p => some (4, 0)
  | .oPlus, .oMinus => some (1, 2)
  | .oMinus, .oPlus => some (2, 1)
  | .oMinus, .n => some (5, 3)
  | .n, .oMinus => some (3, 5)
  | _, _ => none

/-- The step changes the output (R78, R96). -/
def outputStep : PhaseLevel → PhaseLevel → Bool
  | .oPlus, .oMinus => false
  | .oMinus, .oPlus => false
  | _, _ => true

/-- The levels from the present one to a digit (R76, R77). -/
def levelPath : PhaseLevel → Nat → List PhaseLevel
  | .p, 2 => []
  | .p, 1 => [.oPlus]
  | .p, _ => [.oPlus, .oMinus, .n]
  | .oPlus, 2 => [.p]
  | .oPlus, 1 => []
  | .oPlus, _ => [.oMinus, .n]
  | .oMinus, 2 => [.oPlus, .p]
  | .oMinus, 1 => []
  | .oMinus, _ => [.n]
  | .n, 2 => [.oMinus, .oPlus, .p]
  | .n, 1 => [.oMinus]
  | .n, _ => []
  | _, 2 => [.p]
  | _, 1 => [.oPlus]
  | _, _ => [.n]

/-- The next level step of a leg at a time: its turn-off goes out, its turn-on is due DEAD_T later (R51, R77), each no earlier than
the longest edge after the command before it on its channels (R50). -/
def legStep (p : PortId) (ph : Phase) (t : Nanos) (d : Device) : Device :=
  let l := (d.eng p).leg ph
  match l.plan with
  | [] => d
  | next :: rest =>
    match stepPos l.level next with
    | none => d.onEng p (Engine.onLeg ph fun l => { l with plan := [] })
    | some (off, on) =>
      let t := d.seqFree (posIsland p ph off) t
      let due := frameTick (d.seqFree (posIsland p ph on) (t + 5 * Cfg.deadT d.cfg p.num))
      let ht := (t - d.now) / 5 + (due - d.now) / 5 + 24
      let d := issuePosAt t false (posIsland p ph off) d
      d.onEng p fun e =>
        { e.onLeg ph fun _ => { level := next, plan := rest, pending := some ([on], due, t) } with
          changesNow := if outputStep l.level next then e.changesNow ++ [(ph.num, ht, next)] else e.changesNow
          stepsNow := if outputStep l.level next then e.stepsNow + 1 else e.stepsNow }

/-- A phase of a new state at the output tick (R76, R77). -/
def legApply (p : PortId) (ph : Phase) (digit : Nat) (d : Device) : Device :=
  let l := (d.eng p).leg ph
  match l.level, levelPath l.level digit with
  | .allOff, next :: _ =>
    let t := next.on.foldl (fun t pos => d.seqFree (posIsland p ph pos) t) d.outTime
    let d := d.each next.on fun pos => issuePosAt t true (posIsland p ph pos)
    d.onEng p fun e => { e.onLeg ph fun _ => { level := next } with
      changesNow := e.changesNow ++ [(ph.num, 2 * ((t - d.now) / 5) + 24, next)] }
  | _, path => legStep p ph d.outTime (d.onEng p (Engine.onLeg ph fun l => { l with plan := path }))

/-- A switching state is applied at the output tick (R75, R77). -/
def applyCode (p : PortId) (code : Nat) (d : Device) : Device :=
  let ds := digits code
  let d := d.each phases fun ph => legApply p ph (ds.getD ph.num 1)
  (d.onEng p fun e => { e with code := code, applied := d.outTime }).onStage p.stage
    fun g => { g with order := 0, running := true }

/-- The holding register takes effect at the output tick (R14, R17, R95): a fault reaction that has stopped selection
wins. -/
def outputTick (p : PortId) (d : Device) : Device :=
  match (d.eng p).holding with
  | none => d
  | some dec =>
    let d := d.onEng p fun e => { e with
      holding := none, sel := dec.sel, dwellHold := dec.dwellHold
      commCount := if dec.commute then addWrap 32 e.commCount 1 else e.commCount
      lastComm := if dec.commute then d.now else e.lastComm }
    match dec.code with
    | none => d
    | some c => if (d.eng p).selecting || (d.eng p).angleTest.isSome then applyCode p c d else d

def execOutputTick (p : PortId) (s : State) : Host.Outcome State Fault Refusal :=
  .next (if s.dev.ctl.state = .off then s else s.onDev (outputTick p))

/-- The turn-on that waited for DEAD_T goes out; the next step of the leg issues its turn-off in the same tick (R51,
R77). -/
def deadTTurnOn (p : PortId) (ph : Phase) (d : Device) : Device :=
  match ((d.eng p).leg ph).pending with
  | none => d
  | some (on, due, _) =>
    let d := d.each on fun pos => issuePosAt due true (posIsland p ph pos)
    legStep p ph due (d.onEng p (Engine.onLeg ph fun l => { l with pending := none }))

/-- DEAD_T_TURN_ON: within the beat the turn-on is due in. -/
def execDeadTTurnOn (p : PortId) (ph : Phase) (s : State) : Host.Outcome State Fault Refusal :=
  .next (if s.dev.ctl.state ≠ .off ∧ ((s.dev.eng p).leg ph).pending.any (fun x => decide (x.2.1 < s.dev.now + 1000)) then
    s.onDev (deadTTurnOn p ph) else s)

/-! ## Limiter, voltage limit and the engine's faults -/

/-- FSW_LIMITER (R96): steps of the last 500 us against FSW_MAX. -/
def fswLimiter (p : PortId) (d : Device) : Device :=
  let e := d.eng p
  let hist := (e.stepsNow :: e.stepHist).take 50
  let n := hist.sum
  let lim := Cfg.fswMax d.cfg p
  let scale := if 3 * lim < n ∧ e.fswScale < 256 then e.fswScale + 1
    else if 10 * n < 27 * lim ∧ e.dwellExt = 0 then max (e.fswScale - 1) 64 else e.fswScale
  let ext := if 3 * lim < n ∧ 256 ≤ e.fswScale then min (e.dwellExt + 1) 100
    else if 10 * n < 27 * lim ∧ 0 < e.dwellExt then e.dwellExt - 1 else e.dwellExt
  let d := d.onEng p fun e => { e with
    stepHist := hist, stepsNow := 0, fAvg := n * 1000 / 3, fswScale := scale, dwellExt := ext }
  if ext = 0 then clearFault .fswDwellExt (.port p) d else d

def execFswLimiter (p : PortId) (s : State) : Host.Outcome State Fault Refusal :=
  .next (if s.dev.ctl.state = .off then s else s.onDev (fswLimiter p))

/-- DWELL_EXT above 0. -/
def Device.dwellAbove (d : Device) (p : PortId) : Bool := decide (0 < (d.eng p).dwellExt) || d.forced 0x0303 p.num

/-- FSW_DWELL_EXT (R96): DWELL_EXT has stayed above 0 for 10 ms. -/
def execFswDwellExt (p : PortId) (s : State) : Host.Outcome State Fault Refusal :=
  .next (if s.dev.dwellAbove p ∧ s.dev.held (.dwell p) (ms 10) then s.onDev (raise .fswDwellExt (.port p) 0) else s)

/-- |w_e| × |psi| against a percentage of V_LINK / √3, compared as squares (R97); the rule writes w_e, which R82 signs: the model
takes its magnitude, so that both directions of rotation are limited (DEDUCED, log entry 72). -/
def Device.voltAbove (d : Device) (p : PortId) (pct : Nat) : Bool :=
  let e := d.eng p
  let lim := (pct : Rat) / 100 * d.vLink
  decide (lim * lim ≤ 3 * (e.we * e.flux) * (e.we * e.flux))

/-- VLIM_ENTER (R97). -/
def execVlimEnter (p : PortId) (s : State) : Host.Outcome State Fault Refusal :=
  .next (if s.dev.voltAbove p (Cfg.vlimOn s.dev.cfg p) then
    s.onDev (Device.onEng p fun e => { e with vlim := true }) else s)

/-- VLIM_EXIT (R97). -/
def execVlimExit (p : PortId) (s : State) : Host.Outcome State Fault Refusal :=
  .next (if s.dev.voltAbove p (Cfg.vlimOff s.dev.cfg p) then s
    else s.onDev (Device.onEng p fun e => { e with vlim := false }))

/-- A port selects states (R101). -/
def Device.anySelecting (d : Device) : Bool := d.portA.eng.selecting || d.portB.eng.selecting

/-- NP_DEV_TRIP is module-wide: the object of port A governs (Table 3.9). -/
def Device.npAbove (d : Device) (share : Rat) : Bool :=
  ports.any fun p => decide (share * (Cfg.npDevTrip d.cfg .a : Rat) < ratAbs (d.npDev p + injSum (d.injectedAt 0x0301)))

/-- NP_DEV_WARN (R90). -/
def execNpDevWarn (s : State) : Host.Outcome State Fault Refusal :=
  .next (if s.dev.anySelecting ∧ s.dev.npAbove (1 / 2) ∧ s.dev.held .npWarn (ms 1) then s.onDev (raise .npDevWarn .bothPorts 0) else s)

/-- NP_DEV_HIGH (R90). -/
def execNpDevHigh (s : State) : Host.Outcome State Fault Refusal :=
  .next (if s.dev.anySelecting ∧ s.dev.npAbove 1 ∧ s.dev.held .npHigh 10000 then s.onDev (raise .npDevHigh .bothPorts 3) else s)

/-- FLUX_BUILD_FAIL (R99): flux build has not ended within FLUX_BUILD_T. -/
def execFluxBuildFail (p : PortId) (s : State) : Host.Outcome State Fault Refusal :=
  .next (if (s.dev.eng p).fluxBuild
      ∧ (lasted s.dev.now (s.dev.eng p).fluxSince (ms (Cfg.fluxBuildT s.dev.cfg p)) ∨ s.dev.forced 0x0302 p.num) then
    s.onDev (raise .fluxBuildFail (.port p) 3) else s)

/-- The estimator is initialised to a flux (R85, R87, R100, R121): fl +1, tl 0, the sector set directly, NPB kept; a decision made
before it is dropped. -/
def Engine.init (psi psiR : Vec) (we : Rat) (e : Engine) : Engine :=
  { e with psi := psi, psiR := psiR, we := we, wslip := 0, theta := Vec.angle psi, flux := Vec.mag psi, angles := [],
           eps := [], angleTest := none, initDone := true, holding := none
           sel := { tl := 0, fl := true, npb := e.sel.npb, sector := sectorOf (Vec.angle psi) } }

/-- The angle the peaks give, or none where the test fails (R100, steps 3 and 4). -/
def testAngle (a : List Rat) : Option Rat :=
  let top := a.foldl max 0
  let m := a.findIdx fun x => x == top
  let at_ := fun k => a.getD (k % 6) 0
  let den := 2 * top - at_ (m + 5) - at_ (m + 1)
  let opp := at_ (m + 3)
  if top < 103 / 100 * opp ∨ top = opp then none
  else if den = 0 then some (60 * m)
  else some (60 * m + 30 * (at_ (m + 1) - at_ (m + 5)) / den)

/-- The six pulses are done: the estimator starts at the angle found, or INIT_ANGLE_FAIL (R100). -/
def angleTestEnd (p : PortId) (peaks : List Rat) (d : Device) : Device :=
  match if d.forced 0x0302 p.num then none else testAngle peaks with
  | some th => d.onEng p (Engine.init (Vec.polar (Cfg.psiM d.cfg p) th) (d.eng p).psiR 0)
  | none => raise .initAngleFail (.port p) 3 (d.onEng p fun e => { e with angleTest := none })

/-- The largest phase current as latched, A. -/
def Engine.iTop (e : Engine) : Rat := max (ratAbs e.iPhase.1) (max (ratAbs e.iPhase.2.1) (ratAbs e.iPhase.2.2))

/-- The peak of the pulse under way takes in the present currents (R100). -/
def Engine.testPeak (e : Engine) : Engine :=
  { e with angleTest := e.angleTest.map fun t => if t.pausing then t else { t with peak := max t.peak e.iTop } }

/-- ANGLE_TEST_PULSE_END (R100): INIT_PULSE_T has passed or a phase current has reached 226 A; the peak is recorded. -/
def execAngleTestPulseEnd (p : PortId) (s : State) : Host.Outcome State Fault Refusal :=
  .next (match (s.dev.eng p).angleTest with
    | some t =>
      if !t.pausing && (decide (t.start + 1000 * Cfg.initPulseT s.dev.cfg p ≤ s.dev.now) || decide (226 ≤ (s.dev.eng p).iTop)) then
        s.onDev (Device.onEng p fun e => { e with angleTest := some {
          t with pausing := true, start := s.dev.now, peak := 0, peaks := t.peaks ++ [max t.peak e.iTop] } })
      else s
    | none => s)

/-- ANGLE_TEST_PAUSE_END (R100): below 2 A, or 100 us; the next pulse, or the end of the test. -/
def execAngleTestPauseEnd (p : PortId) (s : State) : Host.Outcome State Fault Refusal :=
  .next (match (s.dev.eng p).angleTest with
    | some t =>
      if !t.pausing || !(decide (t.start + 100000 ≤ s.dev.now) || decide ((s.dev.eng p).iTop < 2)) then s
      else if t.pulse < 5 then
        s.onDev (Device.onEng p fun e => { e with angleTest := some {
          t with pausing := false, start := s.dev.now, pulse := t.pulse + 1 } })
      else s.onDev (angleTestEnd p t.peaks)
    | none => s)

/-- The circulating current estimate exceeds IDIF_MAX; the flux exceeds 1.5 times its rating. -/
def Device.idifAbove (d : Device) (p : PortId) : Bool :=
  (d.eng p).pairDec && (decide ((Cfg.idifMax d.cfg p : Rat) < (d.eng p).idif) || d.forced 0x0303 p.num)

def Device.fluxAbove (d : Device) (p : PortId) : Bool :=
  decide (3 / 2 * Cfg.ratedFlux d.cfg p < (d.eng p).flux) || d.forced 0x0302 p.num

/-- IDIF_HIGH (R104): IDIF_EST has exceeded IDIF_MAX for 100 us. -/
def execIdifHigh (p : PortId) (s : State) : Host.Outcome State Fault Refusal :=
  .next (if s.dev.idifAbove p ∧ s.dev.held (.idif p) 100000 then
    s.onDev (raise .idifHigh (.port p) 1) else s)

/-- FLUX_DIVERGE (Table 3.8): |psi| above 1.5 × RATED_FLUX for 10 us. -/
def execFluxDiverge (p : PortId) (s : State) : Host.Outcome State Fault Refusal :=
  .next (if s.dev.fluxAbove p ∧ s.dev.held (.diverge p) 10000 then s.onDev (raise .fluxDiverge (.port p) 3) else s)

end Sys2Proof.Machine
end

