-- ==== Sys2Proof/Machine/Flags.lean ====
section
/-!
DEFINITION. The status words of the field maps of the spec, as a host reads them.
-/

namespace Sys2Proof.Machine

/-- A word from its fields: each with the number of its lowest bit. -/
def fields (l : List (Nat × Nat)) : Nat := l.foldl (fun a e => a + e.2 * 2 ^ e.1) 0

/-- A flag as a field. -/
def flag (bit : Nat) (b : Bool) : Nat × Nat := (bit, if b then 1 else 0)

/-- The two's complement of a value in n bits. -/
def twos (n : Nat) (v : Int) : Nat := (v % (2 ^ n : Int)).toNat

/-! ## Measurement (chapter 6) -/

/-- FAST_RESULT (Table 6.2). -/
def MeasChan.fastWord (c : MeasChan) : Nat :=
  fields [(27, c.fastSeq), flag 25 c.fastValid, flag 24 c.fastOvr, flag 17 c.fastSubst, flag 16 c.fastTest,
    (0, twos 16 c.fastValue)]

/-- FINE_RESULT (Table 6.5). -/
def MeasChan.fineWord (c : MeasChan) : Nat :=
  fields [(27, c.fineSeq), flag 26 c.fineOverrun, flag 25 c.fineValid, flag 24 c.fineOvr, (0, twos 24 c.fineResult)]

/-- TEMP_IN_RESULT (R171). -/
def TempIn.word (c : TempIn) : Nat :=
  fields [(27, c.seq), flag 26 c.overrun, flag 25 c.valid, flag 24 c.ovr, (0, twos 24 c.result)]

/-- Channels whose comparator the owning stage sets (Table 6.1). -/
def ownedComp (m : Nat) : Bool :=
  m == 6 || m == 7 || (14 ≤ m && m ≤ 16) || (20 ≤ m && m ≤ 28) || (33 ≤ m && m ≤ 36)

/-- CHAN_STATUS (Table 6.11). -/
def Device.chanStatus (d : Device) (m : Nat) : Nat :=
  let c := d.mchan m
  fields [flag 31 c.modOk, flag 30 c.fastValid, flag 29 c.fineValid, flag 28 c.outHi, flag 27 c.outLo, flag 26 c.ovrSeen,
    flag 25 c.test, flag 24 c.subst, flag 23 c.calStored, flag 22 c.calFail, flag 21 (ownedComp m), (8, c.exitCount),
    (0, c.overrunCount)]

/-- ISO_STATUS (Table 6.10). -/
def Device.isoStatus (d : Device) : Nat :=
  let x := d.meas.iso
  fields [flag 15 x.valid, flag 14 x.suspended, flag 13 x.above, flag 12 x.below, flag 11 x.warn, flag 10 x.alarm, (8, x.mode)]

/-! ## Compensator engine (chapter 7) -/

def SlotMode.code : SlotMode → Nat
  | .off => 0
  | .opened => 1
  | .closed => 2
  | .closePending => 3

end Sys2Proof.Machine
end

