-- ==== Sys2Proof/Machine/Thermal.lean ====
section
/-!
DEFINITION. Thermal management (chapter 11): conversion of the temperature inputs, derating factors of dies, coolant,
link capacitors, windings and controller, die over-temperature, and the timebase correction.
-/

namespace Sys2Proof.Machine

/-! ## Conversion (R275) -/

/-- Temperatures of the entries of PTC_TABLE, degC. -/
def ptcTemps : List Rat := [-40, 0, 25, 50, 100, 150, 175, 200]

def ptcList (S : Settings) : List Nat := (List.range 8).map (Cfg.ptcTable S)

/-- Linear interpolation between neighbouring entries. -/
def ptcBetween (r : Rat) : List Nat → List Rat → Option Rat
  | a :: b :: rs, t :: u :: ts =>
    if (a : Rat) ≤ r ∧ r ≤ b then some (t + (u - t) * (r - a) / (b - a)) else ptcBetween r (b :: rs) (u :: ts)
  | _, _ => none

/-- Resistance of a fine result, ohm. -/
def resistance (code : Int) : Rat := 1000 * (1 + (code : Rat) / 8388607)

/-- Temperature of a resistance by a characteristic: 1 PT1000, 2 silicon PTC; none outside its valid range, or for an
input with no sensor. -/
def convertTemp (S : Settings) (kind : Nat) (r : Rat) : Option Rat :=
  match kind with
  | 1 => if 800 ≤ r ∧ r ≤ 1900 then some (Config.pt1000 r) else none
  | 2 =>
    let l := ptcList S
    if 9 / 10 * (l.headD 0 : Rat) ≤ r ∧ r ≤ 11 / 10 * (l.getLastD 0 : Rat) then
      some ((ptcBetween r l ptcTemps).getD (Config.ptcBeyond l r))
    else none
  | _ => none

/-! ## Coolant, link capacitors, windings (R276, R287-R289) -/


/-- A linear fall from 1 at a to v at b, held at v beyond. -/
def fall (a b v x : Rat) : Rat := if x ≤ a then 1 else if b ≤ x then v else 1 - (1 - v) * (x - a) / (b - a)

/-- The coolant inlet has a new reading (R287). -/
def coolantInlet (t : Option Rat) (d : Device) : Device :=
  let factor := match t with
    | some x => fall 65 70 (6 / 10) x
    | none => 6 / 10
  let hot := match t with
    | some x => decide (72 ≤ x)
    | none => false
  let d := { d with therm := { d.therm with coolIn := t, coolFactor := factor, inletSince := since d.now hot d.therm.inletSince } }
  let d := follow .coolantTsense .module 1 (t.isNone || d.forced 0x0B04 8) d
  match t with
  | some x => if x < 70 then clearFault .coolantHot .module d else d
  | none => d

/-- The outlet is warmer than the inlet by more than the loss explains (R287). -/
def Thermal.flowLow (x : Thermal) : Bool :=
  match x.coolIn, x.coolOut with
  | some a, some b => decide (3 ≤ x.pLoss) && decide (2 * (41 / 100 * x.pLoss) + 2 < b - a)
  | _, _ => false

/-- A coolant reading is held against the estimated loss, a free value: the spec gives no estimate (R287). -/
def coolantRise (d0 : Device) : Device :=
  let d := d0.draw
  let t := { d.therm with pLoss := ratAbs (Config.freeRat d0.fresh) }
  let d := { d with therm := { t with flowSince := since d.now t.flowLow t.flowSince } }
  if d.therm.flowLow || d.forced 0x0B04 9 then d else clearFault .coolantFlow .module d

/-- A link capacitor input has a new reading (R288). -/
def lctUpdate (k : Nat) (t : Option Rat) (d : Device) : Device :=
  let l := d.therm.lct.set k t
  let hot := (l.filterMap id).foldl (fun (m : Option Rat) x => some (match m with | none => x | some y => max x y)) none
  let a : Rat := Cfg.lctDerate d.cfg
  let factor := match hot with
    | some x => fall a (a + 10) (1 / 2) x
    | none => 3 / 4
  let d := { d with therm := { d.therm with lct := l, lctFactor := factor } }
  let d := follow .lctTsense .module 0 (hot.isNone || d.forced 0x0B04 (4 + k)) d
  match hot with
  | some x => if x < 100 then clearFault .lctHot .module d else d
  | none => d

/-- The winding factor of a port (R289); an input without a valid reading leaves the factor at 1. -/
def Device.windingFactor (d : Device) (p : PortId) : Rat :=
  let n := Cfg.windingTempSrc d.cfg p
  if n = 0 then 1
  else match d.therm.wt.getD (n - 1) none with
    | some x => fall (Cfg.wtDerate d.cfg (n - 1)) (Cfg.wtMax d.cfg (n - 1)) 0 x
    | none => 1

def windingPort (p : PortId) (d : Device) : Device :=
  let f := d.windingFactor p
  let d := { d with therm := match p with
    | .a => { d.therm with wtFactorA := f }
    | .b => { d.therm with wtFactorB := f } }
  let n := Cfg.windingTempSrc d.cfg p
  follow .wtHot (.port p) 1 (decide (f < 1) || (n != 0 && d.forced 0x0B04 (n - 1))) d

/-- Ports whose WINDING_TEMP_SRC names an input. -/
def Device.wtPorts (d : Device) (k : Nat) : List PortId := ports.filter fun p => Cfg.windingTempSrc d.cfg p == k + 1

/-- A winding input has a new reading: a valid one serves R83 again (R276). -/
def wtUpdate (k : Nat) (t : Option Rat) (d : Device) : Device :=
  let d := { d with therm := { d.therm with
    wt := d.therm.wt.set k t, wtUsed := if t.isSome then d.therm.wtUsed.set k t else d.therm.wtUsed
    wtAt := if t.isSome then d.therm.wtAt.set k d.now else d.therm.wtAt } }
  let d := if t.isSome then d.each (d.wtPorts k) fun p => clearFault .wtTsense (.port p) else d
  d.each ports windingPort

/-- An input of M41 has a new word: inputs 0-3 windings, 4-7 link capacitors; a result that is not valid or over range
is not converted (R275). -/
def tempInput (k : Nat) (d : Device) : Device :=
  let x := d.meas.temps.getD k {}
  if !x.valid || x.ovr then d
  else if k < 4 then wtUpdate k (convertTemp d.cfg (Cfg.wtType d.cfg k) (resistance x.result)) d
  else lctUpdate (k - 4) (convertTemp d.cfg 1 (resistance x.result)) d

/-- A fine result of M42 (0) or M43 (1) enters its 64-result mean (Table 11.1). -/
def coolantResult (k : Nat) (valid : Bool) (res : Int) (d : Device) : Device :=
  let a := d.therm.coolAcc.getD k (0, 0, 0)
  let a := (a.1 + 1, if valid then a.2.1 + 1 else a.2.1, if valid then a.2.2 + res else a.2.2)
  if a.1 < 64 then { d with therm := { d.therm with coolAcc := d.therm.coolAcc.set k a } }
  else
    let d := { d with therm := { d.therm with coolAcc := d.therm.coolAcc.set k (0, 0, 0) } }
    if a.2.1 = 0 then d
    else
      let t := convertTemp d.cfg 1 (1000 * (1 + (a.2.2 : Rat) / a.2.1 / 8388607))
      coolantRise (if k = 0 then coolantInlet t d else { d with therm := { d.therm with coolOut := t } })

/-- WT_TSENSE (R276): no valid reading for 1 s of an input R83 uses. -/
def wtSense (k : Nat) (d : Device) : Device :=
  let d := { d with therm := { d.therm with wt := d.therm.wt.set k none, wtUsed := d.therm.wtUsed.set k none } }
  (d.each (d.wtPorts k) fun p => raise .wtTsense (.port p) 0).each ports windingPort

def execWtTsense (k : Fin 4) (s : State) : Host.Outcome State Fault Refusal :=
  .next (if s.dev.ctl.state ≠ .off ∧ !(s.dev.wtPorts k).isEmpty
      ∧ (s.dev.therm.wtAt.getD k 0 + sec 1 ≤ s.dev.now ∨ s.dev.forced 0x0B04 k) then
    s.onDev (wtSense k) else s)

/-- COOLANT_HOT (R287): the inlet has been at 72 degC or more for 1 s. -/
def execCoolantHot (s : State) : Host.Outcome State Fault Refusal :=
  .next (if s.dev.ctl.state ≠ .off ∧ (lasted s.dev.now s.dev.therm.inletSince (sec 1) ∨ s.dev.forced 0x0B04 8) then
    s.onDev (raise .coolantHot .module 2) else s)

/-- COOLANT_FLOW (R287): the difference has been above its bound for 10 s. -/
def execCoolantFlow (s : State) : Host.Outcome State Fault Refusal :=
  .next (if s.dev.ctl.state ≠ .off ∧ (lasted s.dev.now s.dev.therm.flowSince (sec 10) ∨ s.dev.forced 0x0B04 9) then
    s.onDev (raise .coolantFlow .module 0) else s)

/-- LCT_HOT (R288). -/
def execLctHot (s : State) : Host.Outcome State Fault Refusal :=
  .next (if s.dev.ctl.state ≠ .off ∧ (s.dev.therm.lct.any fun t => match t with | some x => decide (110 ≤ x) | none => false) then
    s.onDev (raise .lctHot .module 2) else s)

/-! ## Dies (R277-R283) -/

/-- First channels of the positions of a stage. -/
def positionHeads (sg : StageGroup) : List Nat :=
  (sg.islands.flatMap islandChans).filter fun g => (posChans g).headD g == g

/-- The hottest working die of a position in 1/8 degC: an invalid one counts 10 K above the hottest valid (R277). -/
def Device.hottestOf (d : Device) (g : Nat) : Option Int :=
  let l := ((posChans g).map d.chan).filter fun c => !c.disabled
  match (l.filterMap fun c => c.temp) with
  | [] => none
  | t :: ts =>
    let m := ts.foldl max t
    let more := (d.injected 0x0B01 (stageOfChan g).num).map fun i => 8 * i.value
    some ((if l.any fun c => c.temp.isNone then m + 80 else m) + more.sum)

/-- The die temperature factor of a position (R277). -/
def Device.dieFactorOf (d : Device) (g : Nat) : Rat :=
  match d.hottestOf g with
  | some t => fall (Cfg.dieTDerate d.cfg) 180 0 ((t : Rat) / 8)
  | none => 1 / 4

/-- The rate of rise of a die in K/ms; none before 25 samples (R278). -/
def GateChan.rate (c : GateChan) : Option Rat :=
  if c.tempPrev.length < 25 then none
  else
    let mean := fun (l : List Int) => ((l.map fun (t : Int) => (t : Rat)).sum) / 5
    some ((mean (c.tempPrev.take 5) - mean ((c.tempPrev.drop 20).take 5)) / 8)

/-- Rates of the working dies of a position. -/
def Device.rates (d : Device) (g : Nat) : List Rat :=
  (((posChans g).map d.chan).filter fun c => !c.disabled).filterMap GateChan.rate

/-- The sample of a die enters its history; a die of which its island has sent no temperature for 100 us has none (R184). -/
def dieHistory (g : Nat) (d : Device) : Device :=
  d.onChan g fun c =>
    let heard := match c.tempAt with
      | some t => decide (d.now < t + 100000)
      | none => false
    let t := if heard then c.temp else none
    { c with temp := t, tempPrev := match t with
        | some x => (x :: c.tempPrev).take 25
        | none => [] }

/-- One position is evaluated (R277, R278). -/
def evalPosition (g : Nat) (d : Device) : Device :=
  let rs := d.rates g
  let lim : Rat := (Cfg.dtdtLim d.cfg : Rat) / 10
  let run := if rs.any fun r => decide (lim < r) then d.therm.rateRun.getD g 0 + 1 else 0
  let rate := if 2 ≤ run then 3 / 4 else if rs.all fun r => decide (r < lim / 2) then 1 else d.therm.rateFactor.getD g 1
  { d with therm := { d.therm with
      dieFactor := d.therm.dieFactor.set g (d.dieFactorOf g), rateFactor := d.therm.rateFactor.set g rate
      rateRun := d.therm.rateRun.set g run } }

/-- Lowest die factor, rate factor and product over the positions of a stage (R279). -/
def Device.lowDie (d : Device) (sg : StageGroup) : Rat :=
  (positionHeads sg).foldl (fun m g => min m (d.therm.dieFactor.getD g 1)) 1
def Device.lowRate (d : Device) (sg : StageGroup) : Rat :=
  (positionHeads sg).foldl (fun m g => min m (d.therm.rateFactor.getD g 1)) 1
def Device.thermFactor (d : Device) (sg : StageGroup) : Rat :=
  (positionHeads sg).foldl (fun m g => min m (d.therm.dieFactor.getD g 1 * d.therm.rateFactor.getD g 1)) 1

/-- The hottest valid die of a stage. -/
def Device.stageHottest (d : Device) (sg : StageGroup) : Option (Nat × Int) :=
  (sg.islands.flatMap islandChans).foldl (fun m g =>
    match (d.chan g).temp, m with
    | none, _ => m
    | some t, none => some (g, t)
    | some t, some x => if x.2 < t then some (g, t) else m) none

/-- The highest rate of a stage in 0.01 K/ms, within the object's 16 bits. -/
def Device.stageRate (d : Device) (sg : StageGroup) : Int :=
  match (positionHeads sg).flatMap d.rates with
  | [] => 0
  | r :: rs => clampInt (-32768) 32767 (roundCode (100 * rs.foldl max r))

/-- One stage after an evaluation: its objects and its derating faults (R279). -/
def evalStage (sg : StageGroup) (d : Device) : Device :=
  let d := d.each (positionHeads sg) evalPosition
  let d := { d with therm := { d.therm with
    hottest := d.therm.hottest.set sg.num (d.stageHottest sg), maxDtdt := d.therm.maxDtdt.set sg.num (d.stageRate sg) } }
  follow .dieDtdt (.stage sg) 1 (decide (d.lowRate sg < 1))
    (follow .dieTDerate (.stage sg) 1 (decide (d.lowDie sg < 1)) d)

/-- Every die of a stage with a valid sensor is below 140 degC (R283). -/
def Device.stageCool (d : Device) (sg : StageGroup) : Bool :=
  (sg.islands.flatMap islandChans).all fun g => match (d.chan g).temp with
    | some t => decide (t < 140 * 8)
    | none => true

/-- Since when a stage has been cool. -/
def coolTrack (sg : StageGroup) (d : Device) : Device :=
  { d with therm := { d.therm with
    coolSince := d.therm.coolSince.set sg.num (since d.now (d.stageCool sg) (d.therm.coolSince.getD sg.num none)) } }

/-- DIE_TEMP_EVAL (R278): the samples that have come, then every position and stage. -/
def dieTempEval (temps : List (Fin 512 × Option Int)) (d : Device) : Device :=
  let d := d.each temps fun e => dieSample e.1 e.2
  let d := { d with therm := { d.therm with dieAt := some d.now } }
  let d := d.each (List.range 512) dieHistory
  d.each (Scope.stages .module) fun sg d => coolTrack sg (evalStage sg d)

/-- Every 50 us. -/
def execDieTempEval (temps : List (Fin 512 × Option Int)) (s : State) : Host.Outcome State Fault Refusal :=
  .next (if s.dev.ctl.state ≠ .off ∧ due s.dev.now s.dev.therm.dieAt 50000 then s.onDev (dieTempEval temps) else s)

/-- DIE_OT (R281, R282). -/
def dieOt (g : Nat) (d : Device) : Device :=
  let sg := stageOfChan g
  let d := (d.onIsland (g / 8) fun x => { x with otPending := true, otAt := if x.otPending then x.otAt else d.now }).onChan g
    fun c => { c with ot := true }
  raiseActs .dieOt (.stage sg) 3 (tripActs g) { d with therm := { d.therm with coolSince := d.therm.coolSince.set sg.num none } }

def execDieOt (g : Fin 512) (s : State) : Host.Outcome State Fault Refusal :=
  .next (if s.dev.ctl.state = .off then s else s.onDev (dieOt g))

/-- The island's own step of R282: its preset by an immediate start; on the shared islands the channels of the drives with a hot
die turn off, and those alone (R41). -/
def otPreset (i : Nat) (d : Device) : Device :=
  if i < 61 then d.onIsland i (Island.enterPreset (stageOfIsland i) d.now)
  else
    let hot := ((islandChans i).filter fun g => (d.chan g).ot).map actOf
    d.each ((islandChans i).filter fun g => hot.contains (actOf g)) fun g => Device.onChan g (GateChan.force false d.now (d.edgeOf g))

/-- DIE_OT_ISLAND_PRESET (R282, step 3): 10 us without a stage turn-off. -/
def execDieOtIslandPreset (i : Fin 64) (s : State) : Host.Outcome State Fault Refusal :=
  let x := s.dev.island i
  .next (if x.otPending ∧ x.otAt + 10000 ≤ s.dev.now ∧ x.chans.any (fun c => c.gateOn) then s.onDev (otPreset i) else s)

/-- DIE_OT_COOLDOWN (R283): the latch ends unless a die reaches 185 degC in the same beat; a port needs its drive request
afresh. -/
def dieOtCooldown (sg : StageGroup) (d : Device) : Device :=
  let d := d.each sg.islands fun i => Device.onIsland i fun x =>
    { x with otPending := false, chans := x.chans.map fun c => { c with ot := false } }
  let d := match sg.port? with
    | some p => d.onPort p fun x => { x with afresh := true }
    | none => d
  clearFault .dieOt (.stage sg) d

def execDieOtCooldown (sg : StageGroup) (again : Bool) (s : State) : Host.Outcome State Fault Refusal :=
  .next (if s.dev.activeAt .dieOt (.stage sg) ∧ lasted s.dev.now (s.dev.therm.coolSince.getD sg.num none) (sec 1) then
    s.onDev fun d =>
      if again then { d with therm := { d.therm with coolSince := d.therm.coolSince.set sg.num none } } else dieOtCooldown sg d
    else s)

/-! ## Controller die (R284-R286) -/

/-- CTRL_TJ: the higher valid sensor. -/
def Thermal.tj (x : Thermal) : Option Rat :=
  match x.tjA, x.tjB with
  | some a, some b => some (max a b)
  | some a, none => some a
  | none, b => b

/-- The sensors disagree, or one or both have failed. -/
def Thermal.tjBad (x : Thermal) : Bool :=
  match x.tjA, x.tjB with
  | some a, some b => decide (5 < ratAbs (a - b))
  | _, _ => true

/-- q of R285. -/
def throttleQ (t : Rat) : Rat :=
  if t ≤ 115 then 1 / 4 else if 130 ≤ t then 3 else 1 / 4 + (t - 115) * (11 / 4) / 15

/-- CTRL_TJ_UPDATE (R284-R286): throttling, its factor, and the exit from SAFE once the die has cooled. -/
def ctrlTj (a b : Option Rat) (d : Device) : Device :=
  let x := { d.therm with tjA := a, tjB := b, tjAt := some d.now }
  let d := { d with therm := { x with tjSince := since d.now (x.tjBad && a.isSome && b.isSome) x.tjSince } }
  let d := if d.therm.tjBad then d else clearFault .ctrlTsense .module d
  match d.therm.tj with
  | none => d
  | some t =>
    let on := decide (115 ≤ t) || (d.therm.throttled && decide (110 ≤ t))
    let d := { d with therm := { d.therm with
      throttled := on, q := if on then throttleQ t else 0, ctrlFactor := fall 125 135 (1 / 2) t } }
    if d.ctl.state = .safe ∧ d.active .ctrlOt ∧ t < 105 then
      let d := clearFault .ctrlOt .module d
      if d.faults.highest < 4 then enterStandby d else d
    else d

/-- Every 1 ms. -/
def execCtrlTjUpdate (a b : Option Rat) (s : State) : Host.Outcome State Fault Refusal :=
  .next (if s.dev.ctl.state ≠ .off ∧ due s.dev.now s.dev.therm.tjAt (ms 1) then s.onDev (ctrlTj a b) else s)

/-- A sensor has failed, or the two have differed for 1 s (R284). -/
def Device.tjLost (d : Device) : Bool :=
  d.therm.tjA.isNone || d.therm.tjB.isNone || lasted d.now d.therm.tjSince (sec 1) || d.forcedAt 0x0B03

/-- CTRL_TSENSE (R284). -/
def execCtrlTsense (s : State) : Host.Outcome State Fault Refusal :=
  .next (if s.dev.ctl.state ≠ .off ∧ s.dev.tjLost then
    s.onDev (raise .ctrlTsense .module (if s.dev.therm.tj.isNone then 4 else 0)) else s)

/-- CTRL_OT (R286): an independent comparator on the die. -/
def execCtrlOt (s : State) : Host.Outcome State Fault Refusal :=
  .next (if s.dev.ctl.state = .off then s else s.onDev (raise .ctrlOt .module 4))

/-! ## Stage limits (R279, R286) -/

/-- The stages the coolant and link capacitor factors apply to (R287, R288). -/
def cooled : StageGroup → Bool
  | .portA | .portB | .conv | .grid => true
  | _ => false

/-- The thermal factors of a stage together. -/
def Device.thermal (d : Device) (sg : StageGroup) : Rat :=
  d.thermFactor sg * (if cooled sg then d.therm.coolFactor * d.therm.lctFactor else 1) * d.therm.ctrlFactor

/-- The current limit of a stage as a share of its rating. -/
def Device.stageLimit (d : Device) (sg : StageGroup) : Rat := d.dieLimit sg * d.thermal sg

/-- The causes of a stage limit with their own factors: code and factor (Table of R279, R46, R286). -/
def Device.limitCauses (d : Device) (sg : StageGroup) : List (Nat × Rat) :=
  [(2, d.lowDie sg), (3, d.lowRate sg), (4, if cooled sg then d.therm.coolFactor else 1)]
    ++ (if d.dieLimit sg < 1 then [(d.dieLimsrc sg, d.dieLimit sg)] else [])
    ++ [(13, d.therm.ctrlFactor), (15, if cooled sg then d.therm.lctFactor else 1)]

/-- The cause with the lowest value, ties to the lower code; 0 where nothing limits. -/
def lowestCause (l : List (Nat × Rat)) : Nat × Rat :=
  l.foldl (fun m e => if e.2 < m.2 ∨ (e.2 = m.2 ∧ e.1 < m.1 ∧ m.1 ≠ 0) then e else m) (0, 1)

/-! ## Timebase (R290) -/

/-- The temperature correction in 0.1 ppb: linear between the table's points. -/
def tbCorrection (t : Rat) : Int :=
  if t < -40 ∨ 120 < t then roundCode (10 * Config.tbBeyond t)
  else
    let k := ((t + 40) / 5).floor.toNat
    let a := Config.tbTable k
    let b := Config.tbTable (k + 1)
    roundCode (10 * (a + (b - a) * ((t + 40) / 5 - k)))

/-- TIMEBASE_CORRECTION (R290). -/
def timebaseCorrection (xtal ref : Option Rat) (d : Device) : Device :=
  let temp := match xtal with
    | some t => tbCorrection t
    | none => d.therm.tbTemp
  let d := { d with therm := { d.therm with
    refTemp := ref, tbTemp := temp, tbCorr := temp + d.net.time.trim, tbAt := some d.now } }
  follow .refTsense .module 0 (xtal.isNone || ref.isNone) d

/-- Every 10 ms. -/
def execTimebaseCorrection (xtal ref : Option Rat) (s : State) : Host.Outcome State Fault Refusal :=
  .next (if s.dev.ctl.state ≠ .off ∧ due s.dev.now s.dev.therm.tbAt (ms 10) then s.onDev (timebaseCorrection xtal ref) else s)

end Sys2Proof.Machine
end

