-- ==== Sys2Proof/Machine/Measure.lean ====
section
/-!
DEFINITION. The measurement subsystem (chapter 6): correction of raw values, fast and fine results, the multiplexed
temperature channel, self-calibration, modulator monitoring, test-voltage slices and the insulation monitor.
-/

namespace Sys2Proof.Machine

/-! ## Correction (R172) -/

/-- The gain of R172 with the reference temperature terms; an invalid sensor sets the temperature step to 0 (R290). -/
def Device.gainOf (d : Device) (m : Nat) : Rat :=
  let dt := match d.therm.refTemp with
    | some t => t - 25
    | none => 0
  ((d.mchan m).calGain : Rat) / 2 ^ 30 * (1 + Config.refK1 m * dt + Config.refK2 m * dt * dt)

/-- A raw fine code corrected, limited to full scale. -/
def Device.correctFine (d : Device) (m : Nat) (c : Rat) : Int :=
  clampInt (-8388607) 8388607 (roundCode ((c - (d.mchan m).calOffset) * d.gainOf m))

/-- A raw fast code corrected: the offset is scaled by 2^-8. -/
def Device.correctFast (d : Device) (m : Nat) (c : Rat) : Int :=
  clampInt (-32767) 32767 (roundCode ((c - ((d.mchan m).calOffset : Rat) / 256) * d.gainOf m))

/-! ## Channels (R155, R172-R176) -/

/-- Channels that measure a current. -/
def isCurrent (m : Nat) : Bool :=
  m ≤ 5 || (9 ≤ m && m ≤ 11) || m == 13 || (17 ≤ m && m ≤ 19) || m == 22 || m == 24 || m == 26 || m == 28
    || (33 ≤ m && m ≤ 36)

/-- Channels of a port (Table 6.1): its phase currents and its terminal voltages. -/
def portChannels : PortId → List Nat
  | .a => [0, 1, 2, 29, 30]
  | .b => [3, 4, 5, 31, 32]

/-- What a failure of a channel acts on (R161, R176): the owner of Table 6.1 with F3, F0 on the channel without one. -/
def ownerActs (m : Nat) : List (Scope × Nat) :=
  if m ≤ 2 ∨ m = 29 ∨ m = 30 then [(.port .a, 3)]
  else if m ≤ 5 ∨ m = 31 ∨ m = 32 then [(.port .b, 3)]
  else if m = 6 ∨ m = 7 then [(.module, 4)]
  else if m = 8 then [(.bothPorts, 3)]
  else if m ≤ 16 then [(.stage .conv, 3)]
  else if m ≤ 21 then [(.stage .grid, 3)]
  else if m = 22 then [(.stage .llcPri, 3)]
  else if m ≤ 24 then [(.stage .llcPri, 3), (.stage .llcSec, 3)]
  else if m ≤ 26 then [(.stage .aux, 3)]
  else if m ≤ 28 then [(.backup 0, 3)]
  else if 33 ≤ m ∧ m ≤ 36 then [(.actuator (m - 33), 3)]
  else []

/-- The reaction of such a failure. -/
def ownerReaction (m : Nat) : Nat := (ownerActs m).foldl (fun r a => max r a.2) 0

/-- Results of a channel are invalid because the offsets of its port are being measured again (R174). -/
def Device.remeasuring (d : Device) (m : Nat) : Bool :=
  ports.any fun p => (portChannels p).contains m && (d.port p).offsetMeas

/-! ## Test-voltage substitution (R182) -/

/-- A channel under test rebuilt from the values f of the others. -/
def rebuild (f : Nat → Rat) (m : Nat) : Rat :=
  if m ≤ 2 then -(f ((m + 1) % 3) + f ((m + 2) % 3))
  else if m ≤ 5 then -(f (3 + (m + 1) % 3) + f (3 + (m + 2) % 3))
  else if m = 6 then f 7 else f 6

/-- The channels a rebuilt value comes from. -/
def rebuiltFrom (m : Nat) : List Nat :=
  if m ≤ 2 then [(m + 1) % 3, (m + 2) % 3]
  else if m ≤ 5 then [3 + (m + 1) % 3, 3 + (m + 2) % 3]
  else [13 - m]

/-! ## Fast path (R157, R159) -/

def streamOf (streams : List BitStream) (m : Nat) : Option BitStream := streams.find? fun w => w.ch.val == m

/-- The streams as they stood n clocks before. -/
def streamsBefore (n : Nat) (streams : List BitStream) : List BitStream :=
  streams.map fun w => { w with clocks := clocksBefore n w.clocks }

/-- The fast path's results of a channel are usable (R159, R174); M41's carry no meaning (R170). -/
def Device.fastUsable (d : Device) (m : Nat) : Bool :=
  let c := d.mchan m
  c.modOk && !c.modFail && c.fastSettle == 0 && d.meas.calState != 1 && m != 41 && !d.remeasuring m

/-- One evaluation of a channel's fast path, corrected (R157, R172); none under MOD_FAIL or without a bitstream, where the code
that means no value stands. -/
def Device.evalCode (d : Device) (streams : List BitStream) (m : Nat) : Option Int :=
  if (d.mchan m).modFail then none
  else (streamOf streams m).map fun w => d.correctFast m (32767 * fastFilter w.clocks)

/-- A value of a channel at an instant from the values f of the channels and whether each is usable, with the substitution of
R182. -/
def Device.substitute (d : Device) (f : Nat → Option (Int × Bool)) (m : Nat) : Option (Int × Bool) :=
  if (d.mchan m).subst then
    let l := (rebuiltFrom m).map f
    if l.all Option.isSome then
      some (clampInt (-32767) 32767 (roundCode (rebuild (fun k => (((f k).getD (0, false)).1 : Rat)) m)),
        l.all fun v => (v.getD (0, false)).2)
    else none
  else f m

/-- The evaluation of a channel as the publication and the comparator see it. -/
def Device.evalAt (d : Device) (streams : List BitStream) (m : Nat) : Option (Int × Bool) :=
  d.substitute (fun k => (d.evalCode streams k).map fun v => (v, d.fastUsable k)) m

/-- Publication of one channel; SUBST and TEST go with the word. -/
def fastPublish (streams : List BitStream) (d0 : Device) (m : Nat) (d : Device) : Device :=
  let v := if (d0.mchan m).modFail then none else d0.evalAt streams m
  let ovr := match streamOf streams m with
    | some w => overRange 46 w.clocks
    | none => false
  d.onMchan m fun c => { c with
    fastSeq := addWrap 5 c.fastSeq 1, fastValue := (v.map Prod.fst).getD (-32768), fastValid := (v.map Prod.snd).getD false
    fastOvr := ovr, fastTest := c.test, fastSubst := c.subst, ovrSeen := c.ovrSeen || ovr, fastSettle := c.fastSettle - 1 }

/-- FAST_WORD_PUBLISH (R159). -/
def fastWords (streams : List BitStream) (d : Device) : Device := d.each (List.range 48) (fastPublish streams d)

def execFastWordPublish (streams : List BitStream) (s : State) : Host.Outcome State Fault Refusal :=
  .next (if s.dev.ctl.state = .off then s else s.onDev (fastWords streams))

/-! ## Fine path (R163-R171) -/

/-- The preset of a channel in force: its own choice, or the default of Table 6.1. -/
def finePresetDefault (m : Nat) : Nat :=
  if m = 22 ∨ (29 ≤ m ∧ m ≤ 32) then 2
  else if m = 27 ∨ m = 28 ∨ (37 ≤ m ∧ m ≤ 40) ∨ 42 ≤ m then 4 else 3

/-- FINE_ORDER, FINE_OSR and AVG_N in force (Table 6.4). -/
def fineFilter (S : Settings) (m : Nat) : Nat × Nat × Nat :=
  if Cfg.expertFine S m then (Cfg.fineOrder S m, Cfg.fineOsr S m, Cfg.avgN S m)
  else
    match (if Cfg.finePreset S m = 0 then finePresetDefault m else Cfg.finePreset S m) with
    | 1 => (3, 32, 1)
    | 2 => (3, 64, 1)
    | 3 => (4, 1024, 1)
    | 4 => (5, 4096, 1)
    | 5 => (3, 4000, 200)
    | _ => (3, 4000, 500)

/-- N of R165: results without VALID after a change. -/
def fineN (S : Settings) (m : Nat) : Nat :=
  let f := fineFilter S m
  (f.1 + f.2.2 - 1) / f.2.2 + (if Cfg.expertFine S m && decide (0 < Cfg.notchHz S m) then 2 else 0)

/-- The fine-path settings of a channel in a set of settings (R163). -/
def fineSet (S : Settings) (m : Nat) : FineSet :=
  let f := fineFilter S m
  { order := f.1, osr := f.2.1, avg := f.2.2
    notch := if Cfg.expertFine S m && decide (0 < Cfg.notchHz S m) then some (Cfg.notchHz S m, (Cfg.notchQ S m : Rat) / 10)
             else none }

/-- Length of a result window, ns (R164). -/
def FineSet.span (f : FineSet) : Nat := f.osr * f.avg * 25

/-- A slice on the channel is in its steps 1-5 at a module time (R180). -/
def Device.underTest (d : Device) (t : Nanos) (m : Nat) : Bool :=
  match d.meas.slice with
  | some x => x.ch == m && x.aborted.isNone && decide (t < x.start + 36000)
  | none => false

/-- The settings by which a result ending at a module time is formed: after a commit the old ones up to and with the first
window boundary of the new ones, whose first window begins there (R164; log entry 74). -/
def Device.fineInForce (d : Device) (m : Nat) (t : Nanos) : FineSet :=
  match (d.mchan m).filtOld with
  | some o => if t ≤ o.2 then o.1 else fineSet d.cfg m
  | none => fineSet d.cfg m

/-- A commit changes the fine path of a channel: the settings in force go on up to the first window boundary of the new ones at
or after tick 0 of the commit beat (R164). -/
def holdFilter (new : Settings) (m : Nat) (d : Device) : Device :=
  let f := fineSet new m
  let w := max 1 f.span
  let old := d.fineInForce m d.nextTick
  d.onMchan m fun c => { c with filtOld := some (old, (d.nextTick + w - 1) / w * w) }

/-- The new settings are in force at a module time: N results without VALID begin (R165). -/
def fineSwitch (m : Nat) (t : Nanos) (d : Device) : Device :=
  match (d.mchan m).filtOld with
  | some o => if t ≤ o.2 then d else d.onMchan m fun c => { c with filtOld := none, fineSettle := fineN d.cfg m }
  | none => d

/-- The notch stage takes one result and gives one; it is passed by where the notch is off (R163). -/
def notchStage (f : FineSet) (m : Nat) (x : Rat) (d : Device) : Rat × Device :=
  match f.notch with
  | none => (x, d)
  | some n =>
    let k := Config.notchCoef n.1 n.2 (40000000 / (f.osr * f.avg : Nat))
    let c := d.mchan m
    let y := k.getD 0 0 * x + k.getD 1 0 * c.notchX.1 + k.getD 2 0 * c.notchX.2 - k.getD 3 0 * c.notchY.1
      - k.getD 4 0 * c.notchY.2
    (y, d.onMchan m fun c => { c with notchX := (x, c.notchX.1), notchY := (y, c.notchY.1) })

/-- One fine result of a channel (R163-R169): the output of the filter over the bitstream, and OVR of its window. -/
def fineResult (f : FineSet) (m : Nat) (t : Nanos) (clocks : List ModClock) (d : Device) : Device :=
  let c := d.mchan m
  let valid := c.fineSettle == 0 && d.meas.calibrated && d.meas.calState != 1 && !c.modFail && !c.fineTainted
    && !d.remeasuring m
  let r := notchStage f m (8388607 * fineSinc f.order f.osr f.avg clocks) d
  let res := if c.modFail then -8388608 else d.correctFine m r.1
  let ovr := overRange (f.osr * f.avg) clocks
  let still := d.underTest t m
  let d := r.2.onMchan m fun c => { c with
    fineSeq := addWrap 5 c.fineSeq 1, fineOverrun := !c.fineRead, fineValid := valid, fineOvr := ovr, fineResult := res
    fineRead := false, overrunCount := if c.fineRead then c.overrunCount else addSat 255 c.overrunCount 1
    ovrSeen := c.ovrSeen || ovr, fineSettle := c.fineSettle - 1, fineTainted := still || c.modFail
    value := if valid && !ovr && m != 41 then (res : Rat) * d.chanRange m / 8388607 else c.value }
  if m = 41 then
    { d with meas := { d.meas with
        visitCount := d.meas.visitCount + 1
        visitSum := if valid then d.meas.visitSum + res else d.meas.visitSum
        visitN := if valid then d.meas.visitN + 1 else d.meas.visitN
        visitOvr := d.meas.visitOvr || (valid && ovr) } }
  else if m = 42 ∨ m = 43 then coolantResult (m - 42) (valid && !ovr) res d
  else d

/-- FINE_RESULT_PUBLISH (R164): a result at a modulator clock of the beat, where a window of the settings in force ends. -/
def finePublish (m clock : Nat) (clocks : List ModClock) (d : Device) : Device :=
  let t := d.now + 25 * clock
  let f := d.fineInForce m t
  if t % f.span = 0 then fineResult f m t clocks (fineSwitch m t d) else d

def execFineResultPublish (ch : Fin 48) (clock : Fin 40) (clocks : List ModClock) (s : State) :
    Host.Outcome State Fault Refusal :=
  .next (if s.dev.ctl.state = .off then s else s.onDev (finePublish ch clock clocks))

/-- A read of FINE_RESULT marks the result read (R168). -/
def readFine (m : Nat) (d : Device) : List Byte × Device :=
  (leBytes 4 (d.mchan m).fineWord, d.onMchan m fun c => { c with fineRead := true })

def execFineResultRead (path : Path) (ch : Fin 48) (s : State) : Host.Outcome State Fault Refusal :=
  .next (hostRead path .b (fun s =>
    let r := readFine ch s.dev
    (Abort.ok, r.1, { s with dev := r.2 })) s)

/-- A read of CHAN_STATUS clears OVR_SEEN (Table 6.11). -/
def readChanStatus (m : Nat) (d : Device) : List Byte × Device :=
  (leBytes 4 (d.chanStatus m), d.onMchan m fun c => { c with ovrSeen := false })

def execChanStatusRead (path : Path) (ch : Fin 48) (s : State) : Host.Outcome State Fault Refusal :=
  .next (hostRead path .b (fun s =>
    let r := readChanStatus ch s.dev
    (Abort.ok, r.1, { s with dev := r.2 })) s)

/-- The next input of M41 after input k by MUX_MASK, in the order WT0-WT3, LCT0-LCT3 (R170). -/
def nextInput (mask k : Nat) : Nat :=
  (((List.range 8).map fun j => (k + 1 + j) % 8).find? fun j => mask.testBit j).getD k

/-- The input of the first visit: the connected one where MUX_MASK enables it, else the first one enabled (R170). -/
def firstInput (mask k : Nat) : Nat := if mask.testBit k then k else nextInput mask 7

/-- MUX_VISIT_END (R171): the word of the visited input, then the switch, a change by R165. -/
def muxVisitEnd (d : Device) : Device :=
  let x := d.meas
  let mean : Int := if x.visitN = 0 then -8388608 else roundCode ((x.visitSum : Rat) / x.visitN)
  let d := { d with meas := { x with
    temps := x.temps.modify x.muxInput fun c => { c with
      seq := addWrap 5 c.seq 1, overrun := !c.read, valid := x.visitN != 0, ovr := x.visitOvr, result := mean, read := false }
    muxInput := nextInput (Cfg.muxMask d.cfg) x.muxInput, visitSum := 0, visitN := 0, visitCount := 0, visitOvr := false } }
  tempInput x.muxInput (d.onMchan 41 fun c => { c with fineSettle := fineN d.cfg 41 })

/-- A visit ends after MUX_RESULTS results (R170). -/
def execMuxVisitEnd (s : State) : Host.Outcome State Fault Refusal :=
  .next (if s.dev.ctl.state ≠ .off ∧ Cfg.muxResults s.dev.cfg ≤ s.dev.meas.visitCount then s.onDev muxVisitEnd else s)

/-! ## Self-calibration (R173-R175) -/

/-- SELF_CAL (R173, R175): in STANDBY only, busy while one runs. -/
def cmdSelfCal (d : Device) : W32 × Device :=
  if d.ctl.state ≠ .standby then (Abort.state, d)
  else if d.meas.calState = 1 then (Abort.busy, d)
  else (Abort.ok, calStart d)

def execSelfCal (path : Path) (s : State) : Host.Outcome State Fault Refusal :=
  .next (hostWrite path .e false (devCmd cmdSelfCal) s)

def calVal (l : List (Fin 48 × Int)) (m : Nat) (dflt : Int) : Int :=
  match l.find? fun e => e.1.val == m with
  | some e => e.2
  | none => dflt

/-- The zero-current condition of a channel's port held; other channels have none. -/
def zeroCond (x : CalMeas) (m : Nat) : Bool :=
  match currentPort m with
  | some .a => x.zeroA
  | some .b => x.zeroB
  | none => true

/-- A channel fails calibration (R175): shares of the fine range, gain against FACTORY_GAIN. -/
def Device.calFails (d : Device) (x : CalMeas) (m : Nat) : Bool :=
  let off := calVal x.modOff m 0
  let sen := calVal x.sensor m 0
  let fg : Int := Config.factoryGain m
  let g := calVal x.gain m fg
  decide (8388607 < 100 * off.natAbs) || (isCurrent m && zeroCond x m && decide (8388607 * 2 < 100 * sen.natAbs))
    || (m ≤ 7 && decide (fg.natAbs < 200 * (g - fg).natAbs)) || (d.mchan m).calModFail || d.forced 0x0605 m

/-- The offset and gain a channel takes; true where its offset comes from the store (R173-R175). A failing channel of M00-M07
keeps what it has: the spec gives it no value (log entry 74). -/
def Device.calTake (d : Device) (x : CalMeas) (m : Nat) : Int × Nat × Bool :=
  let fg := Config.factoryGain m
  if d.calFails x m && 7 < m then (Config.factoryOffset m, fg, false)
  else if d.calFails x m then ((d.mchan m).calOffset, (d.mchan m).calGain, (d.mchan m).calStored)
  else
    let g := if m ≤ 7 then (calVal x.gain m fg).toNat else fg
    if !isCurrent m then (calVal x.modOff m 0, g, false)
    else if zeroCond x m then (calVal x.sensor m 0, g, false)
    else ((d.flash.offsets.lookup m).getD (Config.factoryOffset m), g, true)

/-- One channel takes its calibration. -/
def calChannel (x : CalMeas) (m : Nat) (d : Device) : Device :=
  let t := d.calTake x m
  let bad := d.calFails x m
  let d := d.onMchan m fun c => { c with
    calOffset := t.1, calGain := t.2.1, calStored := t.2.2, calFail := bad && decide (7 < m)
    fastSettle := 3, fineSettle := fineN d.cfg m, outHi := false, outLo := false }
  let d := if bad then d else { d with flash := { d.flash with
    offsets := (d.flash.offsets.filter fun e => e.1 != m) ++ [(m, t.1)]
    gains := (d.flash.gains.filter fun e => e.1 != m) ++ [(m, t.2.1)] } }
  if m ≤ 7 then d
  else if bad then raise .calChannel (.channel m) 0 d else clearFault .calChannel (.channel m) d

/-- The offsets of a port are deferred, or taken (R174). -/
def calPort (x : CalMeas) (p : PortId) (d : Device) : Device :=
  let deferred := match p with
    | .a => !x.zeroA
    | .b => !x.zeroB
  let d := { d with meas := match p with
    | .a => { d.meas with deferA := deferred }
    | .b => { d.meas with deferB := deferred } }
  if deferred then raise .calDeferred (.port p) 0 d else clearFault .calDeferred (.port p) d

/-- CALIBRATION_DONE (R175): judged, written, and the module goes on. -/
def calibrationDone (x : CalMeas) (d : Device) : Device :=
  let failed := (List.range 8).any (d.calFails x)
  let d := (d.each (List.range 48) (calChannel x)).each ports (calPort x)
  let d := { d with meas := { d.meas with
    visitSum := 0, visitN := 0, visitCount := 0, visitOvr := false
    muxInput := firstInput (Cfg.muxMask d.cfg) d.meas.muxInput } }
  if failed then
    let d := { d with meas := { d.meas with calState := 4 } }
    let d := if d.ctl.state = .calibrating then setState .fault d else d
    raise .calFail .module 4 d
  else
    let d := clearFault .calFail .module d
    let d := { d with meas := { d.meas with calState := if x.zeroA && x.zeroB then 2 else 3, calibrated := true } }
    if d.ctl.state = .calibrating then enterStandby d
    else if d.ctl.state = .standby && d.supply.calPause then chainStart d
    else d

/-- The sequence of Table 6.6 takes 180 ms. -/
def execCalibrationDone (m : CalMeas) (s : State) : Host.Outcome State Fault Refusal :=
  .next (if s.dev.meas.calState = 1 ∧ lasted s.dev.now s.dev.meas.calSince (ms 180) then s.onDev (calibrationDone m) else s)

/-- The line-to-line voltages UV and VW of a port on the fine path, M29-M32. -/
def Device.lineVolts (d : Device) : PortId → Rat × Rat
  | .a => (d.fineVal 29, d.fineVal 30)
  | .b => (d.fineVal 31, d.fineVal 32)

/-- √3·|E| below a line-to-line voltage (R120, R128), as squares: 3·|E|² is ((2·UV + VW)² + 3·VW²) / 3. -/
def emfBelow (l : Rat × Rat) (v : Rat) : Bool :=
  decide (((2 * l.1 + l.2) * (2 * l.1 + l.2) + 3 * l.2 * l.2) / 3 < v * v)

def Device.deferred (d : Device) : PortId → Bool
  | .a => d.meas.deferA
  | .b => d.meas.deferB

/-- OFFSET_REMEASURE_START (R174): the line-to-line peak on M29-M32 lies below CATCH_EMF_MIN. -/
def execOffsetRemeasureStart (p : PortId) (s : State) : Host.Outcome State Fault Refusal :=
  let d := s.dev
  .next (if (d.ctl.state = .standby ∨ d.ctl.state = .ready) ∧ (d.port p).state = .disabled ∧ d.deferred p
      ∧ !(d.port p).offsetMeas ∧ emfBelow (d.lineVolts p) (Cfg.catchEmfMin d.cfg p) then
    s.onDev (Device.onPort p fun x => { x with offsetMeas := true, offsetSince := some d.now }) else s)

/-- OFFSET_REMEASURE_DONE (R174): the offsets of the three phases, in fine codes. -/
def offsetRemeasured (p : PortId) (offsets : List Int) (d : Device) : Device :=
  let d := d.each [0, 1, 2] fun k d =>
    let m := 3 * p.num + k
    let v := offsets.getD k 0
    let d := d.onMchan m fun c => { c with calOffset := v, calStored := false, fineSettle := fineN d.cfg m }
    { d with flash := { d.flash with offsets := (d.flash.offsets.filter fun e => e.1 != m) ++ [(m, v)] } }
  let d := d.onPort p fun x => { x with offsetMeas := false, offsetSince := none }
  let d := { d with meas := match p with
    | .a => { d.meas with deferA := false }
    | .b => { d.meas with deferB := false } }
  let d := { d with meas := { d.meas with
    calState := if d.meas.calState = 3 && !d.meas.deferA && !d.meas.deferB then 2 else d.meas.calState } }
  clearFault .calDeferred (.port p) d

def execOffsetRemeasureDone (p : PortId) (offsets : List Int) (s : State) : Host.Outcome State Fault Refusal :=
  .next (if (s.dev.port p).offsetMeas ∧ lasted s.dev.now (s.dev.port p).offsetSince (ms 40) then
    s.onDev (offsetRemeasured p offsets) else s)

/-! ## Modulator monitoring and cross-checks (R176-R178) -/

/-- MOD_FAIL (R176). A channel the substitution uses ends the slice (R183). -/
def modFail (m : Nat) (d : Device) : Device :=
  let d := match d.openSlice with
    | some x => if (rebuiltFrom x.ch).contains m then sliceAbort x d else d
    | none => d
  let d := d.onMchan m fun c => { c with
    modOk := false, modFail := true, calModFail := true, fastValid := false, fastValue := -32768, fineTainted := true }
  raiseActs .modFail (.channel m) (ownerReaction m) (ownerActs m) d

/-- The modulator has failed: no clock for 200 ns, or 64 equal bits with its over-range comparator inactive. -/
def execModFail (ch : Fin 48) (clocks : Option (List ModClock)) (s : State) : Host.Outcome State Fault Refusal :=
  let fails : Bool := match clocks with
    | none => true
    | some l => stuckBits l
  .next (if s.dev.ctl.state ≠ .off ∧ !(s.dev.mchan ch).modFail ∧ (fails ∨ s.dev.forced 0x0601 ch) then s.onDev (modFail ch) else s)

/-- MOD_FAIL_CLEAR (R176). -/
def execModFailClear (ch : Fin 48) (clocks : List ModClock) (s : State) : Host.Outcome State Fault Refusal :=
  .next (if (s.dev.mchan ch).modFail ∧ healthyBits clocks ∧ !s.dev.forced 0x0601 ch then
    s.onDev fun d => clearFault .modFail (.channel ch) (d.onMchan ch fun c => { c with modOk := true, modFail := false })
    else s)

/-- LINK_DISAGREE (R177): suspended while either channel is substituted. -/
def Device.linkDisagrees (d : Device) : Bool :=
  let a := d.latchedVal 6
  let b := d.latchedVal 7 + injSum (d.injected 0x0603 7)
  !(d.mchan 6).subst && !(d.mchan 7).subst && decide (20 + 2 / 100 * max a b < ratAbs (a - b))

def execLinkDisagree (s : State) : Host.Outcome State Fault Refusal :=
  .next (if s.dev.ctl.state ≠ .off ∧ s.dev.linkDisagrees ∧ s.dev.held .linkDisagree 10000 then
    s.onDev (raise .linkDisagree .module 4) else s)

/-- The sum of a port's phase currents is out of tolerance (R178): suspended while one of them is substituted. -/
def Device.isumAbove (d : Device) (p : PortId) : Bool :=
  let ms := [3 * p.num, 3 * p.num + 1, 3 * p.num + 2]
  !(ms.any fun m => (d.mchan m).subst)
    && decide (Cfg.isumTol d.cfg < ratAbs (ms.map fun m => d.latchedVal m + injSum (d.injected 0x0603 m)).sum)

/-- The gates of a port switch: the engine selects their states, or the angle test does. -/
def Device.gatesSwitch (d : Device) (p : PortId) : Bool := (d.eng p).selecting || (d.eng p).angleTest.isSome


def execIsum (p : PortId) (s : State) : Host.Outcome State Fault Refusal :=
  .next (if s.dev.ctl.state ≠ .off ∧ s.dev.gatesSwitch p ∧ s.dev.isumAbove p ∧ s.dev.held (.isum p) 10000 then
    s.onDev (raise .isum (.port p) 3) else s)

/-! ## Test-voltage slices (R179-R183) -/

/-- The channels whose comparators bear on a slice: those of the channel's port, M08 among them (Table 6.1), and M06 and M07. -/
def sliceComps (m : Nat) : List Nat :=
  [6, 7] ++ match currentPort m with
    | some p => 8 :: portChannels p
    | none => []

/-- The conditions of R179 for a slice on a channel. -/
def Device.sliceOk (d : Device) (m : Nat) : Bool :=
  let quiet := !((sliceComps m).any fun k => (d.mchan k).outHi || (d.mchan k).outLo)
  match currentPort m with
  | some p => (d.port p).state != .catching && quiet && decide (d.reaction p.stage < 2)
  | none => quiet && decide (d.moduleReaction < 2) && (d.mchan (13 - m)).modOk && !d.active .linkDisagree

/-- TESTV_SLICE_START (R179, R180): one slice on each channel in a pass, no two overlap and starts on different channels are
1 ms apart; a slice whose conditions do not hold is deferred. -/
def sliceStart (m : Nat) (d : Device) : Device :=
  let apart := match d.meas.lastSlice with
    | some t => decide (t + ms 1 ≤ d.now)
    | none => true
  if d.bist.passState = 0 ∨ d.bist.done.contains (7, m) ∨ d.meas.slice.isSome ∨ !apart then d
  else if !d.bistReady then bistDefer d
  else if d.sliceOk m then
    let d := d.onMchan m fun c => { c with test := true, subst := true, fineTainted := true }
    { d with meas := { d.meas with slice := some { ch := m, start := d.now }, lastSlice := some d.now } }
  else { d with meas := { d.meas with deferCount := addWrap 32 d.meas.deferCount 1 } }

def execTestvSliceStart (ch : Fin 8) (s : State) : Host.Outcome State Fault Refusal :=
  .next (match s.dev.ctl.state with
    | .off | .boot | .calibrating => s
    | _ => s.onDev (sliceStart ch))

/-- The mean of the last 160 evaluations of a bitstream, as a fast code (R180). -/
def sliceMean (l : List ModClock) : Rat :=
  let run := (sincRun 16 3 (pulses l)).reverse
  32767 * ((((List.range 160).map fun j => run.getD (4 * j) 0).sum : Int) : Rat) / (160 * 4096)

/-- A slice passes (R181): offset within 0.5 % of range, gain within 1.0 % of the DAC value, from the evaluations at both
levels. -/
def Device.slicePasses (d : Device) (m : Nat) (plus minus : List ModClock) : Bool :=
  let a : Rat := (d.correctFast m (sliceMean plus) : Int)
  let b : Rat := (d.correctFast m (sliceMean minus) : Int)
  let lvl : Rat := 32767 * (Cfg.testLevel d.cfg : Rat) / 100
  decide (ratAbs ((a + b) / 2) ≤ 32767 / 200) && decide (ratAbs ((a - b) / 2 - lvl) ≤ lvl / 100)

/-- TESTV_SLICE_END (R180, R181): substitution ends 40 us after the start, and the evaluations at both levels are judged. -/
def sliceEnd (x : Slice) (plus minus : List ModClock) (d : Device) : Device :=
  let ok := d.slicePasses x.ch plus minus && !d.forced 0x0604 x.ch
  let d := d.onMchan x.ch fun c => { c with test := false, subst := false }
  let d := { d with meas := { d.meas with slice := none } }
  let sc := sliceScope x.ch
  let d := bistDone 7 x.ch d
  if ok then
    let d := bistPassed 7 x.ch { d with meas := { d.meas with passCount := addWrap 32 d.meas.passCount 1 } }
    if d.bist.failing.any fun e => e.1 == 7 && sliceScope e.2 == sc then d else clearFault .measTestFail sc d
  else raise .measTestFail sc (if x.ch ≤ 5 then 3 else 4) (bistFailed 7 x.ch d)

def execTestvSliceEnd (plus minus : List ModClock) (s : State) : Host.Outcome State Fault Refusal :=
  .next (match s.dev.meas.slice with
    | some x => if x.aborted.isNone ∧ x.start + 40000 ≤ s.dev.now then s.onDev (sliceEnd x plus minus) else s
    | none => s)

/-- A cause of R183 stands: a comparator of the slice's scope outside its band, an F2-F4 reaction in the channel's scope, or
MOD_FAIL on a channel the substitution uses. -/
def Device.abortCause (d : Device) (x : Slice) : Bool :=
  ((sliceComps x.ch).any fun k => (d.mchan k).outHi || (d.mchan k).outLo)
    || (d.faults.active.any fun e => e.acts.any (sliceHit x))
    || ((rebuiltFrom x.ch).any fun k => (d.mchan k).modFail)

/-- TESTV_SLICE_ABORT (R183): where a cause stands. Each cause aborts the slice with the command that brings it; this row finds
those that an earlier command could not see. -/
def execTestvSliceAbort (s : State) : Host.Outcome State Fault Refusal :=
  .next (match s.dev.openSlice with
    | some x => if s.dev.abortCause x then s.onDev (sliceAbort x) else s
    | none => s)

/-- TEST falls 36 us after the start, the sensor reconnected (R180, step 5); substitution ends 1.2 us after an abort (R183).
Looked at at tick 0. -/
def sliceSettle (d : Device) : Device :=
  match d.meas.slice with
  | some x => match x.aborted with
    | some t =>
      if t + 1200 ≤ d.now then
        Device.onMchan x.ch (fun c => { c with subst := false }) { d with meas := { d.meas with slice := none } }
      else d
    | none => if x.start + 36000 ≤ d.now then d.onMchan x.ch fun c => { c with test := false } else d
  | none => d

/-! ## Insulation monitor (R185-R187) -/

/-- A threshold of the insulation monitor: raised below it, cleared by two consecutive results above 1.25 times it. -/
def isoJudge (f : FaultName) (r : Rat) (thr : Nat) (react : Nat) (run : Nat) (d : Device) : Nat × Device :=
  if r < thr then (0, raise f .module react d)
  else if (125 / 100 : Rat) * thr < r then
    (run + 1, if 2 ≤ run + 1 then clearFault f .module d else d)
  else (0, d)

/-- ISO_RESULT (R185-R187): resistance in kilohm and capacitance in microfarad of a pulse pair. -/
def isoResult (r c : Rat) (d : Device) : Device :=
  let r := match d.injectedAt 0x0607 with
    | i :: _ => (i.value : Rat)
    | [] => r
  let rr := clampRat 10 10000 r
  let w := isoJudge .isoWarn rr (Cfg.isoWarnKohm d.cfg) 0 d.meas.iso.warnOk d
  let a := isoJudge .isoAlarm rr (Cfg.isoAlarmKohm d.cfg) (Cfg.isoAlarmReact d.cfg) d.meas.iso.alarmOk w.2
  let d := a.2
  { d with meas := { d.meas with iso := { d.meas.iso with
      r := rr, c := c, valid := true, above := decide (10000 < r), below := decide (r < 10), warnOk := w.1, alarmOk := a.1
      warn := d.active .isoWarn, alarm := d.active .isoAlarm, mode := Cfg.isoMode d.cfg } } }

def execIsoResult (r c : Rat) (s : State) : Host.Outcome State Fault Refusal :=
  .next (if s.dev.ctl.state ≠ .off ∧ Cfg.isoMode s.dev.cfg = 1 ∧ !s.dev.meas.iso.suspended then s.onDev (isoResult r c) else s)

/-- The grid port's gates switch: the monitor is suspended (R186). -/
def isoSuspend (d : Device) : Device :=
  { d with meas := { d.meas with iso := { d.meas.iso with suspended := true, valid := false } } }

/-- What the insulation monitor does once a beat (R186): the mode in force, without a result but in mode 1; the time since
which the grid port's gates are off while it is suspended. -/
def isoBeat (d : Device) : Device :=
  { d with meas := { d.meas with iso := { d.meas.iso with
      mode := Cfg.isoMode d.cfg, valid := d.meas.iso.valid && Cfg.isoMode d.cfg == 1
      offSince := if d.meas.iso.suspended && !d.chg.switching then some (d.meas.iso.offSince.getD d.now) else none } } }

/-- ISO_RESUME (R186): 1 s after the grid port's gates are all off. -/
def execIsoResume (s : State) : Host.Outcome State Fault Refusal :=
  .next (if s.dev.meas.iso.suspended ∧ !s.dev.chg.switching ∧ lasted s.dev.now s.dev.meas.iso.offSince (sec 1) then
    s.onDev fun d => { d with meas := { d.meas with iso := { d.meas.iso with suspended := false, offSince := none } } } else s)

/-! ## Analog inputs (R468) -/

/-- The burden of a 4-20 mA input is connected. -/
def Device.burdenOn (d : Device) (n : Nat) : Bool := Cfg.ainRange d.cfg n == 2 && (d.meas.burdenOff.getD n none).isNone

/-- More than 25 mA flow in a burden: the end of the channel's range, beyond which its code does not go (Table 18.10). -/
def Device.burdenOver (d : Device) (n : Nat) : Bool := d.burdenOn n && decide (32767 ≤ (d.mchan (37 + n)).fastValue)

/-- BURDEN_DISCONNECT: more than 25 mA for 10 ms. -/
def execBurdenDisconnect (n : Fin 4) (s : State) : Host.Outcome State Fault Refusal :=
  .next (if s.dev.ctl.state ≠ .off ∧ s.dev.burdenOn n ∧ s.dev.held (.burden n) (ms 10) then
    s.onDev fun d => { d with meas := { d.meas with burdenOff := d.meas.burdenOff.set n (some d.now) } } else s)

/-- BURDEN_RECONNECT: 1 s after. -/
def execBurdenReconnect (n : Fin 4) (s : State) : Host.Outcome State Fault Refusal :=
  .next (if lasted s.dev.now (s.dev.meas.burdenOff.getD n none) (sec 1) then
    s.onDev fun d => { d with meas := { d.meas with burdenOff := d.meas.burdenOff.set n none } } else s)

end Sys2Proof.Machine
end

