-- ==== Sys2Proof/Machine/Supply.lean ====
section
/-!
DEFINITION. Battery converter, intermediate bus, auxiliary supplies and the power arbiter (chapter 8).
-/

namespace Sys2Proof.Machine

/-! ## The chain (R207-R209) -/

def Device.onSupply (f : Supply → Supply) (d : Device) : Device := { d with supply := f d.supply }
def Device.onConv (f : Conv → Conv) (d : Device) : Device := d.onSupply fun x => { x with conv := f x.conv }
def Device.onLlc (f : Llc → Llc) (d : Device) : Device := d.onSupply fun x => { x with llc := f x.llc }
def Device.onAux (f : AuxBuck → AuxBuck) (d : Device) : Device := d.onSupply fun x => { x with aux := f x.aux }
def Device.onBackup (f : BackupPath → BackupPath) (d : Device) : Device :=
  d.onSupply fun x => { x with backup := f x.backup }
def Device.onCharger (f : BackupCharger → BackupCharger) (d : Device) : Device := { d with bchg := f d.bchg }
def Device.onChg (f : Charge → Charge) (d : Device) : Device := { d with chg := f d.chg }
def Device.onPhase (n : Nat) (f : ConvPhase → ConvPhase) (d : Device) : Device :=
  d.onConv fun c => { c with phases := c.phases.modify n f }

/-- The LLC starts a soft start (R220): frequency from 400 kHz. -/
def llcStart (d : Device) : Device :=
  let d := (d.onStage .llcPri fun g => { g with order := 0, running := true }).onStage .llcSec
    fun g => { g with order := 0, running := true }
  d.onLlc fun x => { x with running := true, freq := 400, inRange := false, bursting := false, restart := none }

/-- The converter's phases start their flying-capacitor precharge (R214); CONV_MODE 0 keeps all gates off (R211). -/
def convStart (d : Device) : Device :=
  if Cfg.convMode d.cfg = 0 ∨ !d.stageCan .conv ∨ d.chg.lostHold then d
  else
    let d := d.onStage .conv fun g => { g with order := 0, running := true }
    d.onConv fun c => { c with phases := c.phases.map fun x =>
      { x with active := false, shed := false, shedAt := none, returning := false, precharging := true, preStart := some d.now } }

/-- Faults that the restart of a stage clears (Table 8.5, R205). -/
def restartClears (sg : StageGroup) (d : Device) : Device :=
  d.each [.convFcDev, .fcPrechargeFail, .llcOc, .bus54Ov, .overrun] fun f => clearFault f (.stage sg)

/-- The stages of a chain that has run start again after a stop (R232, R283). -/
def chainRestart (d : Device) : Device :=
  let d := if !d.supply.llc.running && 3 ≤ d.supply.chain then
      let d := restartClears .llcSec (restartClears .llcPri d)
      if d.stageCan .llcPri && d.stageCan .llcSec then llcStart d else d
    else d
  let d := if !d.supply.conv.running && 5 ≤ d.supply.chain && !(d.supply.conv.phases.any fun x => x.precharging) then
      let d := restartClears .conv d
      if d.stageCan .conv then convStart (d.onSupply fun x => { x with chain := 5 }) else d
    else d
  if !d.supply.aux.running && 5 ≤ d.supply.chain && !d.supply.aux.ovLatched then
    (restartClears .aux d).onAux fun x => { x with startDue := true }
  else d

/-- SUPPLY_CMD 0x01 (R209, R283). -/
def cmdSupplyStart (d : Device) : W32 × Device :=
  if !d.ctl.state.chainRuns then (Abort.state, d)
  else if d.supply.chain = 0 then
    if d.ctl.state ≠ .standby then (Abort.state, d)
    else if d.meas.calState = 1 then (Abort.ok, d.onSupply fun x => { x with calPause := true })
    else (Abort.ok, chainStart d)
  else (Abort.ok, chainRestart d)

/-- SUPPLY_CMD 0x02 (R209): it stops the chain, or ends its wait. -/
def cmdSupplyStop (d : Device) : W32 × Device :=
  if !d.ctl.state.chainRuns then (Abort.state, d)
  else (Abort.ok, (chainStop d).onSupply fun x => { x with calPause := false })

/-- SUPPLY_CMD by its code. -/
def cmdSupply (code : Nat) (d : Device) : W32 × Device :=
  match code with
  | 1 => cmdSupplyStart d
  | 2 => cmdSupplyStop d
  | _ => (Abort.range, d)

def execSupplyCmdStart (path : Path) (s : State) : Host.Outcome State Fault Refusal :=
  .next (hostWrite path .b false (devCmd (cmdSupply 1)) s)

def execSupplyCmdStop (path : Path) (s : State) : Host.Outcome State Fault Refusal :=
  .next (hostWrite path .b false (devCmd (cmdSupply 2)) s)

/-- LINK_PRECHARGE_CONFIRMED (Table 8.1, step 2). -/
def execLinkPrechargeConfirmed (s : State) : Host.Outcome State Fault Refusal :=
  let d := s.dev
  .next (if d.supply.chain = 1 ∧ 560 ≤ d.linkFine ∧ d.stageCan .llcPri ∧ d.stageCan .llcSec then
    s.onDev fun d => llcStart (d.onSupply fun x => { x with chain := 3 }) else s)

/-- LLC_SOFT_START_DONE (R220, Table 8.1 steps 3-5). -/
def llcDone (d : Device) : Device :=
  let d := d.onLlc fun x => { x with inRange := true, startConv := x.startConv && decide (d.fineVal 23 ≤ 50) }
  if d.supply.chain = 3 then
    let d := (d.onSupply fun x => { x with chain := 5 }).onAux fun x => { x with startDue := true }
    convStart (if d.stageCan .aux then auxStart d else d)
  else d

def execLlcSoftStartDone (s : State) : Host.Outcome State Fault Refusal :=
  let d := s.dev
  .next (if d.supply.llc.running ∧ !d.supply.llc.inRange ∧ 5292 / 100 ≤ d.fineVal 23 ∧ d.fineVal 23 ≤ 5508 / 100 then
    s.onDev llcDone else s)

/-! ## Battery converter (R210-R217) -/

/-- e_fc of a phase (R213). -/
def Device.eFc (d : Device) (n : Nat) : Rat := d.fastVal (14 + n) - d.vLink / 2

/-- The same as the deviation check and the precharge check see it (point 0x0801). -/
def Device.fcSeen (d : Device) (n : Nat) : Rat := d.eFc n + injSum (d.injected 0x0801 n)
def Device.fcOut (d : Device) (n : Nat) : Bool := decide ((Cfg.fcDevTrip d.cfg : Rat) < ratAbs (d.fcSeen n))

/-- The effective link setpoint (R212). -/
def Device.linkSetpoint (d : Device) : Rat := min 1600 (max (Cfg.linkSet d.cfg : Rat) (11 / 10 * d.fineVal 12))

/-- FC_PRECHARGE_DONE (R214): the phase may switch; with the last phase of the start the link ramp begins (step 6). -/
def fcDone (n : Nat) (d : Device) : Device :=
  let d := d.onPhase n fun x => { x with precharging := false, preStart := none, active := true, shed := false }
  if (d.supply.conv.phases.any fun x => x.precharging) || d.supply.conv.running then d
  else
    let d := d.onConv fun c => { c with
      running := true, setpoint := d.linkSetpoint, ramp := d.linkFine, carrier := some (c.carrier.getD d.now) }
    d.onSupply fun x => { x with chain := if x.chain = 5 then 6 else x.chain }

def execFcPrechargeDone (n : Fin 3) (s : State) : Host.Outcome State Fault Refusal :=
  let d := s.dev
  .next (if (d.supply.conv.phases.getD n {}).precharging ∧ ratAbs (d.fcSeen n) ≤ d.vLink / 20 then s.onDev (fcDone n) else s)

/-- FC_PRECHARGE_FAIL (R214). -/
def execFcPrechargeFail (n : Fin 3) (late : Bool) (s : State) : Host.Outcome State Fault Refusal :=
  let x := s.dev.supply.conv.phases.getD n {}
  .next (if x.precharging ∧ lasted s.dev.now x.preStart (ms 5) then
    s.onDev fun d => lateMisc late (raise .fcPrechargeFail (.stage .conv) 3 d) else s)

/-- LINK_RAMP_DONE (R212): the chain is complete. -/
def execLinkRampDone (s : State) : Host.Outcome State Fault Refusal :=
  let x := s.dev.supply
  .next (if x.chain = 6 ∧ x.conv.running ∧ x.conv.ramp = x.conv.setpoint then
    s.onDev (Device.onSupply fun x => { x with chain := 7 }) else s)

/-- The balance shift of a phase in 0.01 degrees (R213). -/
def Device.balanceShift (d : Device) (n : Nat) (old : Rat) : Rat :=
  let i := d.fastVal (9 + n)
  let m : Rat := 100 * (Cfg.fcShiftMax d.cfg : Rat)
  if 5 ≤ ratAbs i then clampRat (-m) m (-(ratSign i) * (Cfg.fcKbal d.cfg : Rat) * d.eFc n) else old

/-- Carrier period, ns. -/
def Device.carrierNs (d : Device) : Nat := 5 * Cfg.convPeriodT d.cfg

/-- The lag of a phase behind the phase numbered 0: the active phases are numbered 0 to N - 1 in ascending order, and phase p
lags by p · CONV_PERIOD_T / N, rounded down to a tick (R210). -/
def Device.carrierLag (d : Device) (n : Nat) : Nat :=
  let on := fun k => (d.supply.conv.phases.getD k {}).active
  let p := ((List.range n).filter on).length
  p * Cfg.convPeriodT d.cfg / max 1 (([0, 1, 2].filter on).length) * 5

/-- The carrier peak of a phase that falls into the present beat, as a module time (R210). -/
def Device.carrierPeakAt (d : Device) (n : Nat) : Option Nanos :=
  match d.supply.conv.carrier with
  | none => none
  | some t =>
    let w := d.carrierNs
    let since := ((d.now : Int) - (t + d.carrierLag n : Nat)) % (w : Int)
    let next := if since = 0 then d.now else d.now + (w - since.toNat)
    if next < d.now + 1000 then some next else none

/-- The commands that change a cell: the position that conducted turns off, and its complement turns on DEAD_T later (R51, R52).
OU and OL, positions 0 and 3, are cell 1, IU and IL, 1 and 2, are cell 2. -/
def cellEdge (dead : Nat) (half : Bool) (t : Nanos) (off on : Nat) : List (Bool × Nanos × Nat × Bool) :=
  [(half, t, off, false), (half, frameTick (t + 5 * dead), on, true)]

/-- A time of the carrier in whole ticks: a share of half a period after a module time. -/
def carrierTime (t : Nanos) (ns : Rat) : Nanos := ((((t : Rat) + ns) / 5).floor.toNat) * 5

/-- The commands of both cells in the half period from a carrier peak (false) or valley (true) at t, for a duty (R210). Cell 1:
OU turns on where the duty comes to lie above the falling carrier, and off where the rising carrier passes it. The carrier of
cell 2 lags by 180° + φ: IU turns off in the first half and on in the second. -/
def Device.halfEdges (d : Device) (half : Bool) (t : Nanos) (duty : Int) (shift : Rat) : List (Bool × Nanos × Nat × Bool) :=
  let w : Rat := d.carrierNs
  let u := clampRat 0 1 ((duty : Rat) / 8388608)
  let phi := w * shift / 36000
  let dead := Cfg.deadT d.cfg 2
  if half then
    cellEdge dead true (carrierTime t (w / 2 * u)) 0 3 ++ cellEdge dead true (carrierTime t (phi + w / 2 * (1 - u))) 2 1
  else
    cellEdge dead false (carrierTime t (w / 2 * (1 - u))) 3 0 ++ cellEdge dead false (carrierTime t (phi + w / 2 * u)) 1 2

/-- The commands of a phase that fall into the present beat go to its islands. -/
def phaseEdges (n : Nat) (d : Device) : Device :=
  let x := d.supply.conv.phases.getD n {}
  let due := x.edges.filter fun e => decide (e.2.1 < d.now + 1000)
  let d := d.each due fun e => issuePosAt e.2.1 e.2.2.2 (36 + 4 * n + e.2.2.1)
  d.onPhase n fun x => { x with edges := x.edges.filter fun e => !decide (e.2.1 < d.now + 1000) }

/-- A duty that the slot has applied at a module time takes effect at the next carrier peak or valley of the phase (R210). -/
def dutyApply (n : Nat) (y : Int) (t : Nanos) (d : Device) : Device :=
  let x := d.supply.conv.phases.getD n {}
  match x.peakAt with
  | none => d.onPhase n fun x => { x with dutyNext := y }
  | some pk =>
    let v := pk + d.carrierNs / 2
    if t ≤ v then
      let late := d.halfEdges true v y x.shift
      d.onPhase n fun x => { x with
        dutyNext := y, edges := if x.active then x.edges.filter (fun e => !e.1) ++ late else x.edges }
    else d.onPhase n fun x => { x with dutyNext := y }

/-- CONV_CARRIER_PEAK (R210, R213, R215): shed phases return, or turn off once their current is small; the others take the
balance shift and the duty, and the cells switch through the period that begins. -/
def carrierPeak (n : Nat) (t : Nanos) (d : Device) : Device :=
  let x := d.supply.conv.phases.getD n {}
  let back := x.shed && x.returning
  let d := d.onPhase n fun x => if !back then x
    else { x with shed := false, shedAt := none, returning := false
                  precharging := !x.active, preStart := if x.active then x.preStart else some d.now }
  let x := d.supply.conv.phases.getD n {}
  let i := 36 + 4 * n
  if !x.active || x.outerAt.isSome then d
  else if x.shed && decide (ratAbs (d.fastVal (9 + n)) < 10) then
    (issuePos false (i + 3) (issuePos false i d)).onPhase n fun x => { x with outerAt := some d.now, edges := [] }
  else
    let sh := d.balanceShift n x.shift
    let old := x.edges
    let next := d.halfEdges false t x.dutyNext sh ++ d.halfEdges true (t + d.carrierNs / 2) x.dutyNext sh
    phaseEdges n (d.onPhase n fun x => { x with shift := sh, duty := x.dutyNext, peakAt := some t, edges := old ++ next })

def execConvCarrierPeak (n : Fin 3) (s : State) : Host.Outcome State Fault Refusal :=
  let d := s.dev
  .next (match d.carrierPeakAt n with
    | some t => if d.supply.conv.running ∧ (d.supply.conv.phases.getD n {}).peakAt ≠ some t then s.onDev (carrierPeak n t) else s
    | none => s)

/-- CONV_FC_DEV (R213): above FC_DEV_TRIP for 10 us. -/
def execConvFcDev (n : Fin 3) (s : State) : Host.Outcome State Fault Refusal :=
  let d := s.dev
  .next (if (d.supply.conv.phases.getD n {}).active ∧ d.fcOut n ∧ d.held (.fcDev n) 10000 then
    s.onDev (raise .convFcDev (.stage .conv) 3) else s)

/-- Phases in use, without the shed ones. -/
def Conv.count (c : Conv) : Nat := (c.phases.filter fun x => x.active && !x.shed).length

/-- The wanted phase count (R215). -/
def Device.convWanted (d : Device) : Nat :=
  let p := ratAbs d.supply.conv.power
  let s : Rat := Cfg.convShedP d.cfg
  if Cfg.convShedP d.cfg = 0 then 3 else if p < s then 1 else if p < 2 * s then 2 else 3

/-- The phase to shed: the one after the phase shed first last time, in the order 0, 1, 2, that is in use (R215). -/
def Conv.shedNext (c : Conv) : Nat :=
  let from_ := match c.lastShed with
    | some k => k + 1
    | none => 0
  (([from_ % 3, (from_ + 1) % 3, (from_ + 2) % 3]).find? fun k =>
    let x := c.phases.getD k {}
    x.active && !x.shed).getD 0

/-- CONV_PHASE_SHED (R215): the first phase of a series is remembered. -/
def convShed (d : Device) : Device :=
  let c := d.supply.conv
  let k := c.shedNext
  let first := c.phases.all fun x => !x.shed
  { (d.onConv fun c => { c with lastShed := if first then some k else c.lastShed }).onPhase k
      fun x => { x with shed := true, shedAt := some d.now, returning := false } with
    watch := d.watch.filter fun e => e.1 != .convShed }

def execConvPhaseShed (s : State) : Host.Outcome State Fault Refusal :=
  let d := s.dev
  .next (if d.supply.conv.running ∧ d.convWanted < d.supply.conv.count ∧ d.held .convShed (ms 20) then s.onDev convShed else s)

/-- CONV_PHASE_RETURN (R215): every shed phase returns at its next carrier peak, and one whose gates are off passes R214 first. -/
def convReturn (d : Device) : Device :=
  d.onConv fun c => { c with phases := c.phases.map fun x => { x with returning := x.shed } }

def Device.convOverload (d : Device) : Bool :=
  let n := d.supply.conv.count
  decide (11 / 10 * (n : Rat) * (Cfg.convShedP d.cfg : Rat) < ratAbs d.supply.conv.power) ||
    ([0, 1, 2].any fun k => (d.supply.conv.phases.getD k {}).active &&
      decide (9 / 10 * (Cfg.convIPhMax d.cfg : Rat) < ratAbs (d.fastVal (9 + k))))

def execConvPhaseReturn (s : State) : Host.Outcome State Fault Refusal :=
  let d := s.dev
  .next (if d.supply.conv.running ∧ d.supply.conv.phases.any (fun x => x.shed) ∧ d.convOverload then
    s.onDev convReturn else s)

/-- OVERLOAD_ACCOUNT_FULL (R216). -/
def execOverloadAccountFull (s : State) : Host.Outcome State Fault Refusal :=
  .next (if 4200000 ≤ s.dev.supply.conv.overload then s.onDev (Device.onConv fun c => { c with overFull := true }) else s)

def BatLimit.key : BatLimit → Nat
  | .dischargeCurrent => 0x280101
  | .chargeCurrent => 0x280102
  | .voltMax => 0x280103
  | .voltMin => 0x280104

/-- BAT_LIMIT_WRITE (R217, Table 8.6). -/
def cmdBatLimit (key v : Nat) (d : Device) : W32 × Device :=
  let ok := if key ≤ 0x280102 then decide (v ≤ 2000) else decide (600 ≤ v ∧ v ≤ 1350)
  if !ok then (Abort.range, d)
  else
    let d := pushLive key v d
    if d.forcedAt 0x0802 then (Abort.ok, d)
    else (Abort.ok, clearFault .batLimitsStale (.stage .conv) (d.onConv fun c => { c with lastLimit := some d.now, batStale := false }))

def execBatLimitWrite (path : Path) (l : BatLimit) (v : BitVec 16) (s : State) : Host.Outcome State Fault Refusal :=
  .next (hostWrite path .b false (devCmd (cmdBatLimit (BatLimit.key l) v.toNat)) s)

/-- BAT_LIMITS_STALE (R217): counted from the last write, or from entry to BOOT. -/
def execBatLimitsStale (late : Bool) (s : State) : Host.Outcome State Fault Refusal :=
  let d := s.dev
  let t := Cfg.batLimitTimeout d.cfg
  .next (if d.ctl.state ≠ .off ∧ t ≠ 0 ∧ d.supply.conv.lastLimit.getD 0 + ms t ≤ d.now then
    s.onDev fun d =>
      lateMisc late (raise .batLimitsStale (.stage .conv) 0 (d.onConv fun c => { c with batStale := true })) else s)

/-- Charge and discharge current limits, A (R217). -/
def Device.chgLimit (d : Device) : Rat :=
  let i : Rat := if d.supply.conv.batStale then (Cfg.batIFallback d.cfg : Rat) else (Cfg.batIChgLim d.cfg : Rat)
  i * clampRat 0 1 (((Cfg.batVMax d.cfg : Rat) - d.fineVal 12) / 5)

def Device.disLimit (d : Device) : Rat :=
  let i : Rat := if d.supply.conv.batStale then (Cfg.batIFallback d.cfg : Rat) else (Cfg.batIDisLim d.cfg : Rat)
  i * clampRat 0 1 ((d.fineVal 12 - (Cfg.batVMin d.cfg : Rat)) / 5)

/-- The converter's rating at this instant, kW (R216). -/
def Device.convRating (d : Device) : Rat := (if d.supply.conv.overFull then 560 else 700) * d.stageLimit .conv

/-! ## DC link protection and discharge path (R218, R219) -/

/-- The higher of the two link channels. -/
def Device.vLinkHigh (d : Device) : Rat := max (d.latchedVal 6) (d.latchedVal 7)

/-- The link values as the thresholds of LINK_UV, LINK_HIGH and LINK_TRIP see them (point 0x0803). -/
def Device.linkSeen (d : Device) : Rat := d.vLink + injSum (d.injectedAt 0x0803)
def Device.linkHighSeen (d : Device) : Rat := d.vLinkHigh + injSum (d.injectedAt 0x0803)

/-- The 54 V bus as its two checks see it (R224; point 0x0804). -/
def Device.busOver (d : Device) : Bool := decide (58 < d.fastVal 23) || d.forcedAt 0x0804
def Device.busUnder (d : Device) : Bool :=
  d.supply.llc.running && d.supply.llc.inRange && (decide (d.fastVal 23 < 48) || d.forcedAt 0x0804)

/-- LINK_UV (R218): in RUN. -/
def execLinkUv (s : State) : Host.Outcome State Fault Refusal :=
  .next (if s.dev.ctl.state = .run ∧ s.dev.linkSeen < 850 ∧ s.dev.held .linkUv (ms 10) then s.onDev (raise .linkUv .module 2) else s)

/-- LINK_HIGH (R218): LINK_OV; the grid port goes to STO. -/
def linkHigh (d : Device) : Device :=
  let d := raise .linkHigh .module 1 (d.onConv fun c => { c with linkHigh := true })
  if d.chg.switching then gridStop false d else d

def execLinkHigh (s : State) : Host.Outcome State Fault Refusal :=
  .next (if s.dev.ctl.state ≠ .off ∧ 1650 < s.dev.linkHighSeen ∧ s.dev.held .linkOv 2000 then s.onDev linkHigh else s)

/-- LINK_OV_RELEASE (R218). -/
def execLinkOvRelease (s : State) : Host.Outcome State Fault Refusal :=
  .next (if s.dev.supply.conv.linkHigh ∧ s.dev.vLinkHigh < 1620 then
    s.onDev fun d => clearFault .linkHigh .module (d.onConv fun c => { c with linkHigh := false }) else s)

/-- DISCHARGE_ON (R219): from BOOT to OFF, whatever the module state. -/
def execDischargeOn (s : State) : Host.Outcome State Fault Refusal :=
  .next (if s.dev.ctl.state ≠ .off ∧ 1680 < s.dev.vLinkHigh ∧ s.dev.held .linkDisch 2000 ∧ !s.dev.supply.conv.dischHot then
    s.onDev (Device.onConv fun c => { c with discharging := true }) else s)

/-- DISCHARGE_OFF (R218, R219): below 1,660 V, or below 60 V after a command. -/
def execDischargeOff (s : State) : Host.Outcome State Fault Refusal :=
  let c := s.dev.supply.conv
  .next (if c.discharging ∧ (if c.dischCmd then s.dev.vLinkHigh < 60 else s.dev.vLinkHigh < 1660) then
    s.onDev (Device.onConv fun c => { c with discharging := false, dischCmd := false }) else s)

/-- LINK_TRIP (R218). -/
def execLinkTrip (s : State) : Host.Outcome State Fault Refusal :=
  .next (if s.dev.ctl.state ≠ .off ∧ 1720 < s.dev.linkHighSeen ∧ s.dev.held .linkTrip 2000 then
    s.onDev (raise .linkTrip .module 4) else s)

/-- LINK_DISCHARGE 0x01 (R219, R20). -/
def cmdLinkDischarge (d : Device) : W32 × Device :=
  match d.ctl.state with
  | .standby | .safe | .fault =>
    (Abort.ok, d.onConv fun c => { c with dischCmd := true, discharging := !c.dischHot })
  | _ => (Abort.state, d)

def execLinkDischarge (path : Path) (s : State) : Host.Outcome State Fault Refusal :=
  .next (hostWrite path .b true (devCmd cmdLinkDischarge) s)

/-- LINK_DISCH_HOT (R219): the account reaches 250 kJ. -/
def execLinkDischHot (s : State) : Host.Outcome State Fault Refusal :=
  .next (if s.dev.supply.conv.discharging ∧ (250000 ≤ s.dev.supply.conv.dischAcc ∨ s.dev.forcedAt 0x0802) then
    s.onDev fun d => raise .linkDischHot .module 0 (d.onConv fun c => { c with discharging := false, dischHot := true }) else s)

/-- DISCH_HOT_CLEAR (R219): below 125 kJ; a commanded discharge goes on. -/
def execDischHotClear (s : State) : Host.Outcome State Fault Refusal :=
  .next (if s.dev.supply.conv.dischHot ∧ s.dev.supply.conv.dischAcc < 125000 then
    s.onDev fun d => clearFault .linkDischHot .module
      (d.onConv fun c => { c with dischHot := false, discharging := c.dischCmd }) else s)

/-! ## Intermediate bus (R220, R221) -/

/-- F3 on the LLC: both stage groups together. -/
def llcFault (f : FaultName) (d : Device) : Device :=
  raiseActs f (.stage .llcPri) 3 [(.stage .llcPri, 3), (.stage .llcSec, 3)] d

/-- BUS54_OV (R221). -/
def execBus54Ov (s : State) : Host.Outcome State Fault Refusal :=
  .next (if s.dev.ctl.state ≠ .off ∧ s.dev.busOver ∧ s.dev.held .bus54Ov 2000 then s.onDev (llcFault .bus54Ov) else s)

/-- BUS54_UV (R221): while the LLC is meant to regulate. -/
def execBus54Uv (s : State) : Host.Outcome State Fault Refusal :=
  .next (if s.dev.busUnder ∧ s.dev.held .bus54Uv 100000 then
    s.onDev (raise .bus54Uv .module 4) else s)

/-- LLC_RESTART (R221): 100 ms after an unlatched F3; the third stop within 10 s raises LLC_RETRY. -/
def llcRestart (t : Nanos) (d : Device) : Device :=
  let stops := d.supply.llc.stops.filter fun x => decide (d.now < x + sec 10)
  let d := d.onLlc fun x => { x with stops := stops }
  if 3 ≤ stops.length ∨ d.forcedAt 0x0804 then raise .llcRetry .module 4 (d.onLlc fun x => { x with restart := none })
  else if d.now < t + ms 100 then d
  else
    let d := restartClears .llcSec (restartClears .llcPri d)
    if d.stageCan .llcPri && d.stageCan .llcSec then
      (llcStart d).onLlc fun x => { x with
        restarts := (x.restarts.filter fun r => decide (d.now < r + sec 10)) ++ [d.now] }
    else d

def execLlcRestart (s : State) : Host.Outcome State Fault Refusal :=
  .next (match s.dev.supply.llc.restart with
    | some t => s.onDev (llcRestart t)
    | none => s)

/-! ## Auxiliary 24 V bus (R222-R226) -/

/-- AUX_V_SET_WRITE (R222): the ramp is retargeted at tick 0 of the next beat. -/
def cmdAuxVSet (v : Nat) (d : Device) : W32 × Device :=
  if 2400 ≤ v ∧ v ≤ 3000 then (Abort.ok, pushLive 0x282001 v d) else (Abort.range, d)

def execAuxVSetWrite (path : Path) (v : BitVec 16) (s : State) : Host.Outcome State Fault Refusal :=
  .next (hostWrite path .b false (devCmd (cmdAuxVSet v.toNat)) s)

/-- Turn-on of the buck's phases in a period, in 1/64 tick: the active ones, renumbered k = 0 to N - 1 in ascending order, at the
offset plus k · 360°/N (R223). -/
def auxTurnOn (active : List Bool) (offset per : Nat) : List Nat :=
  let n := max 1 (active.filter id).length
  (List.range 8).map fun j =>
    let k := ((active.take j).filter id).length
    if active.getD j false then (offset * n + k * 360) * per * 64 / (360 * n * 5) % (max 1 (per * 64 / 5)) else 0

/-- SYNC_IN_EDGE (R223): an edge counts while the period it ends lies within 200-600 kHz; 16 in a row lock. -/
def syncEdge (stamp : Nat) (d : Device) : Device :=
  let x := d.supply.aux
  let per := match x.lastSync with
    | some t => stamp - t
    | none => 0
  let counted := x.lastSync.isSome && decide (5000 ≤ 3 * per) && decide (per ≤ 5000)
  let n := if counted then min 16 (x.syncCount + 1) else if x.syncLocked then x.syncCount else 0
  let lock := x.syncLocked || n == 16
  let d := d.onAux fun x => { x with
    lastSync := some stamp, syncCount := n, syncLocked := lock, syncLost := x.syncLost && !lock
    syncPeriod := if counted then per else x.syncPeriod
    syncFreq := if counted && lock then 1000000 / per else x.syncFreq
    lastCounted := if counted then some stamp else x.lastCounted
    turnOn := if counted && lock then auxTurnOn x.active (Cfg.syncOffset d.cfg) per else x.turnOn }
  if lock then clearFault .auxSynclost (.stage .aux) d else d

def execSyncInEdge (stamp : Nat) (s : State) : Host.Outcome State Fault Refusal :=
  .next (if s.dev.ctl.state ≠ .off ∧ Cfg.syncSrc s.dev.cfg = 1 ∧ !s.dev.forcedAt 0x0806 then s.onDev (syncEdge stamp) else s)

/-- AUX_SYNCLOST (R223): the buck runs on; an edge that lost to the timeout counts in SYNC_LATE. -/
def syncLost (edge : Bool) (d : Device) : Device :=
  raise .auxSynclost (.stage .aux) 0 (d.onAux fun x => { x with
    syncLocked := false, syncLost := true, syncCount := 0, syncLate := if edge then addWrap 16 x.syncLate 1 else x.syncLate })

def execAuxSynclost (edge : Bool) (s : State) : Host.Outcome State Fault Refusal :=
  let x := s.dev.supply.aux
  let due : Bool := match x.lastCounted with
    | some t => decide (t + max 5000 (3 * x.syncPeriod) < s.dev.now + 1000)
    | none => true
  .next (if x.syncLocked ∧ due then s.onDev (syncLost edge) else s)

/-- Phases not permanently shed, and phases active. -/
def AuxBuck.available (x : AuxBuck) : Nat := (x.lostPh.filter fun b => !b).length
def AuxBuck.count (x : AuxBuck) : Nat := (x.active.filter id).length

/-- The wanted phase count (R224). -/
def Device.auxWanted (d : Device) : Nat :=
  let x := d.supply.aux
  let s := Cfg.auxShedI d.cfg
  if s = 0 then x.available else min x.available (max 2 ((x.iOut / (s : Rat)).ceil + 1).toNat)

/-- AUX_SHED_LIGHT_LOAD (R224): the highest-numbered active phase. -/
def auxShed (d : Device) : Device :=
  match ([7, 6, 5, 4, 3, 2, 1, 0].find? fun k => d.supply.aux.active.getD k false) with
  | some k => (auxPhaseOff k d).onAux fun x => { x with stepAbort := false, shedLast := some d.now }
  | none => d

/-- A load step is detected while any phase is shed: the bus has fallen more than 1.5 % below the ramp value, or I_out rises faster
than AUX_STEP_DIDT over 2 us (R224). -/
def Device.auxStep (d : Device) : Bool :=
  let x := d.supply.aux
  decide (d.fastVal 25 < x.ramp * 985 / 1000)
    || (match x.iLast with
      | [a, _, c] => decide ((Cfg.auxStepDidt d.cfg : Rat) / 10 * 2 < a - c)
      | _ => false)

/-- The first phase 1 ms after the wanted count has come to lie below the active count, a further one every 20 us; a load step in
the same interval wins. -/
def execAuxShedLightLoad (s : State) : Host.Outcome State Fault Refusal :=
  let d := s.dev
  let x := d.supply.aux
  let spaced : Bool := match x.shedLast with
    | some t => decide (t + 20000 ≤ d.now)
    | none => true
  .next (if x.running ∧ !x.shedHold ∧ d.auxWanted < x.count ∧ d.held .auxShed (ms 1) ∧ spaced ∧ !(x.count < x.available && d.auxStep) then
    s.onDev auxShed else s)

/-- AUX_PHASE_ADD (R224): one phase. -/
def auxAdd (d : Device) : Device :=
  d.onAux fun x =>
    match ([0, 1, 2, 3, 4, 5, 6, 7].find? fun k => !x.active.getD k false && !x.lostPh.getD k false) with
    | some k => { x with active := x.active.set k true }
    | none => x

def execAuxPhaseAdd (s : State) : Host.Outcome State Fault Refusal :=
  let x := s.dev.supply.aux
  .next (if x.running ∧ x.count < s.dev.auxWanted then s.onDev auxAdd else s)

/-- AUX_LOAD_STEP (R224): every shed phase returns. -/
def execAuxLoadStep (s : State) : Host.Outcome State Fault Refusal :=
  let x := s.dev.supply.aux
  .next (if x.running ∧ x.count < x.available ∧ s.dev.auxStep then
    s.onDev fun d => d.onAux fun x => { x with
      active := x.lostPh.map fun l => !l, stepAbort := true, shedHold := true, holdSince := some d.now } else s)

/-- AUX_SHED_HOLD_END (R224): 10 ms after the load step. -/
def execAuxShedHoldEnd (s : State) : Host.Outcome State Fault Refusal :=
  .next (if s.dev.supply.aux.shedHold ∧ lasted s.dev.now s.dev.supply.aux.holdSince (ms 10) then
    s.onDev (Device.onAux fun x => { x with shedHold := false, holdSince := none }) else s)

/-! ## Backup path (R228) -/

/-- IDEAL_DIODE_ON: the bus 50 mV below the battery; a path held open by a cause does not conduct. -/
def execIdealDiodeOn (s : State) : Host.Outcome State Fault Refusal :=
  let d := s.dev
  .next (if d.ctl.state ≠ .off ∧ d.supply.backup.cause = 0 ∧ !d.supply.backup.heldOpen
      ∧ d.fastVal 25 + 50 / 1000 ≤ d.fastVal 27 then
    s.onDev (Device.onBackup fun x => { x with diodeOn := true }) else s)

/-- IDEAL_DIODE_OFF: the bus 100 mV above the battery. -/
def execIdealDiodeOff (s : State) : Host.Outcome State Fault Refusal :=
  .next (if s.dev.supply.backup.diodeOn ∧ s.dev.fastVal 27 + 100 / 1000 ≤ s.dev.fastVal 25 then
    s.onDev (Device.onBackup fun x => { x with diodeOn := false }) else s)

/-- The current of the path, that is the discharge of the backup battery (M28 is positive in charge), exceeds BATAUX_DIS_LIM. -/
def Device.batauxOver (d : Device) : Bool := decide ((Cfg.batauxDisLim d.cfg : Rat) < -(d.fastVal 28)) || d.forcedAt 0x0806

/-- BATAUX_OC (R228): the third opening within 60 s holds the path open. -/
def batauxOc (d : Device) : Device :=
  let l := (d.supply.backup.openings.filter fun t => decide (d.now < t + sec 60)) ++ [d.now]
  raise .batauxOc (.backup 1) 0 (d.onBackup fun x => { x with
    diodeOn := false, cause := 2, openings := l, heldOpen := x.heldOpen || decide (3 ≤ l.length) })

def execBatauxOc (s : State) : Host.Outcome State Fault Refusal :=
  .next (if s.dev.supply.backup.diodeOn ∧ s.dev.batauxOver ∧ s.dev.held .batauxOc (ms 10) then s.onDev batauxOc else s)

/-- BATAUX_RETRY (R228): 1 s after; after three openings the path stays open. -/
def execBatauxRetry (s : State) : Host.Outcome State Fault Refusal :=
  let x := s.dev.supply.backup
  .next (if x.cause = 2 ∧ !x.heldOpen ∧ lasted s.dev.now x.openings.getLast? (sec 1) then
    s.onDev fun d => clearFault .batauxOc (.backup 1) (d.onBackup fun x => { x with cause := 0 }) else s)

/-- BATAUX_LOW (R228). -/
def execBatauxLow (s : State) : Host.Outcome State Fault Refusal :=
  .next (if s.dev.ctl.state ≠ .off ∧ (s.dev.fineVal 27 < (Cfg.batauxCutoff s.dev.cfg : Rat) / 10 ∨ s.dev.forcedAt 0x0806) then
    s.onDev fun d => raise .batauxLow (.backup 1) 0 (d.onBackup fun x => { x with
      diodeOn := false, cause := if x.cause = 0 then 3 else x.cause }) else s)

/-- The path closes again once the battery is above BATAUX_CUTOFF + 1.0 V. -/
def batauxRecover (d : Device) : Device :=
  if d.activeAt .batauxLow (.backup 1) ∧ (Cfg.batauxCutoff d.cfg : Rat) / 10 + 1 < d.fineVal 27 then
    clearFault .batauxLow (.backup 1) (d.onBackup fun x => { x with cause := if x.cause = 3 then 0 else x.cause })
  else d

/-! ## Power arbiter (R229-R231) -/

/-- Mechanical power of a port in kW: torque estimate by angular speed; positive motoring. -/
def Device.portPower (d : Device) (p : PortId) : Rat :=
  let e := d.eng p
  e.torque * (e.speed * 2 * Config.pi / 60) / 1000

/-- Angular speed of a port's shaft, rad/s. -/
def Device.omegaMech (d : Device) (p : PortId) : Rat := (d.eng p).speed * 2 * Config.pi / 60

/-- A port's request in kW, positive motoring, negative braking (R230). -/
def Device.portRequest (d : Device) (p : PortId) : Rat := (d.port p).torqueReq * d.omegaMech p / 1000

/-- 0.95 times the SLS limit in force (R311). -/
def Device.slsRef (d : Device) (p : PortId) : Option Rat :=
  let x := d.psafe p
  if x.sls then some (95 / 100 * Cfg.slsLim d.scfg p.num x.slsLevel) else none

/-- The part of a value SDI allows (R312). -/
def PortSafety.allowed (x : PortSafety) (v : Rat) : Rat :=
  if !x.sdi then v else if x.sdiBoth then 0 else if x.sdiNeg then min v 0 else max v 0

/-- A braking demand of a safety function, which is exempt from the scaling and from the LINK_OV ceiling (R117, R218, R230): a
stop by SS1, an SLS whose limit the speed exceeds, an SDI whose forbidden direction the motor still turns in. -/
def Device.safetyBraking (d : Device) (p : PortId) : Bool :=
  let x := d.psafe p
  let n := (d.eng p).speed
  (d.port p).stop == .ss1 || x.ss1 || (d.slsRef p).any (fun c => decide (c < ratAbs n))
    || (x.sdi && !x.sdiMon && x.allowed n != n)

/-- The scale of a set of requests against a capacity. -/
def scaleOf (cap req : Rat) : Rat := if req ≤ 0 then 1 else if cap ≤ 0 then 0 else min 1 (cap / req)

/-- The ceiling a scaled request gives, Nm; none where the grant is full. -/
def Device.arbCeiling (d : Device) (p : PortId) (scale : Rat) : Option Rat :=
  if scale = 1 then none
  else some (ratAbs (d.portRequest p) * 1000 * scale
    / max (ratAbs (d.omegaMech p)) (1 / 100 * Cfg.ratedSpeed d.cfg p * 2 * Config.pi / 60))

/-- What the grid port asks for, kW: its largest power while it switches. -/
def Device.gridRequest (d : Device) : Rat := if d.chg.switching then (Cfg.gridPMax d.cfg : Rat) else 0

/-- POWER_ARBITRATION (R230). -/
def powerArbitration (d : Device) : Device :=
  let x := d.supply
  let n : Rat := if x.powN = 0 then 1 else x.powN
  let llc := (x.llcHist ++ [x.powLlc / n]).drop (x.llcHist.length - 9)
  let aux := llc.sum / (llc.length : Rat)
  let a := x.powA / n
  let b := x.powB / n
  let grid := x.powGrid / n
  let g := max 0 (-a) + max 0 (-b)
  let m := max 0 a + max 0 b
  let chg := x.powChg / n
  let v := d.fineVal 12
  let rate := d.convRating
  let iDis := v * d.disLimit / 1000
  let iChg := v * d.chgLimit / 1000
  let cDis := min rate iDis
  let cChg := min rate iChg
  let brake := cChg + aux + m
  let drive := cDis + g + grid - aux
  let gridCap := max 0 (cChg + aux + m - g)
  let req := d.portRequest
  let braking := (ports.map fun p => max 0 (-(req p))).sum
  let motoring := (ports.map fun p => max 0 (req p)).sum
  let kb := scaleOf brake braking
  let kd := scaleOf drive motoring
  let one := fun p => if req p < 0 then (if d.safetyBraking p then 1 else kb) else if 0 < req p then kd else 1
  let src := fun (p : PortId) => if req p < 0 then (if iChg < rate then 7 else 6) else if iDis < rate then 7 else 6
  let refuse := fun p => (decide (req p < 0) && decide (brake ≤ 0) && !d.safetyBraking p)
    || (decide (0 < req p) && decide (drive ≤ 0))
  { d with supply := { x with
      linkNext := some {
        driveCap := drive, brakeCap := brake, gridGrant := min d.gridRequest gridCap
        arbA := d.arbCeiling .a (one .a), arbB := d.arbCeiling .b (one .b)
        arbSrcA := src .a, arbSrcB := src .b, arbSrcGrid := if iChg < rate then 7 else 6
        refuseA := refuse .a, refuseB := refuse .b, refuseGrid := decide (gridCap ≤ 0) }
      conv := { x.conv with limsrc := (lowestCause (d.limitCauses .conv)).1, refused := decide (rate ≤ 0) }
      meanM := m, meanG := g, meanChg := chg
      powA := 0, powB := 0, powGrid := 0, powLlc := 0, powChg := 0, powN := 0, llcHist := llc } }

/-- Every 10 us: ten beats have been measured since the last one. -/
def execPowerArbitration (s : State) : Host.Outcome State Fault Refusal :=
  .next (if s.dev.ctl.state ≠ .off ∧ 10 ≤ s.dev.supply.powN then s.onDev powerArbitration else s)

/-- The rating of the LLC, kW, with the lost dies of either half (R220, R71). -/
def Device.llcRating (d : Device) : Rat :=
  (if 900 ≤ d.vLink then 16 else 8) * min (d.dieLimit .llcPri) (d.dieLimit .llcSec)

/-- Power an actuator draws, kW. -/
def Device.actDemand (d : Device) (n : Nat) : Rat := max 0 (d.fineVal 23 * ratAbs (d.fastVal (33 + n)) / 1000)

/-- BUS54_GRANT (R231); the gate power of the islands is not stated: a free value that is no less than 0. -/
def bus54Grant (d0 : Device) : Device :=
  let d := d0.draw
  let b0 := d.llcRating - ratAbs (Config.freeRat d0.fresh)
  let want24 := d.fineVal 25 * d.fineVal 26 / 1000 / (97 / 100)
  let aux24 := min want24 b0
  let b1 := b0 - aux24
  let wantAct := ([0, 1, 2, 3].map d.actDemand).sum
  let act := min wantAct b1
  let b2 := b1 - act
  let wantB := d.bchg.demand * d.fineVal 27 / 1000
  let backup := min wantB b2
  let share := if wantAct ≤ 0 then 1 else max 0 (act / wantAct)
  d.onSupply fun x => { x with busNext := some {
    left := b2 - backup, share, backup, aux24
    auxLow := decide (aux24 < want24), auxNone := decide (aux24 ≤ 0) && decide (0 < want24)
    bkLow := decide (backup < wantB), bkNone := decide (backup ≤ 0) && decide (0 < wantB) } }

def execBus54Grant (s : State) : Host.Outcome State Fault Refusal :=
  .next (if s.dev.ctl.state = .off then s else s.onDev bus54Grant)

/-- Grants of the link take effect at tick 0 (R229). -/
def takeLink (d : Device) : Device :=
  match d.supply.linkNext with
  | none => d
  | some g => d.onSupply fun x => { x with
      linkNext := none, driveCap := g.driveCap, brakeCap := g.brakeCap, gridGrant := g.gridGrant, arbA := g.arbA, arbB := g.arbB
      arbSrcA := g.arbSrcA, arbSrcB := g.arbSrcB, arbSrcGrid := g.arbSrcGrid, refuseA := g.refuseA, refuseB := g.refuseB
      refuseGrid := g.refuseGrid }

/-- Grants of the 54 V bus take effect at tick 0; a party reduced shows LIMSRC 15 (R229, R231). -/
def takeBus (d : Device) : Device :=
  match d.supply.busNext with
  | none => d
  | some g =>
    let src := fun (b : Bool) => if b then 15 else 0
    let d := d.onSupply fun x => { x with busNext := none, left54 := g.left, actShare := g.share, backupGrant := g.backup }
    let d := d.onAux fun x => { x with limsrc := src g.auxLow, refused := g.auxNone, grant := g.aux24 }
    let d := d.each [0, 1, 2, 3] fun n => Device.onAct n fun x => { x with
      limsrc := src (decide (g.share < 1)), refused := g.share == 0 }
    d.onCharger fun x => { x with limsrc := src g.bkLow, refused := g.bkNone }

/-! ## What happens every beat -/

/-- The outer loop in force (R211). -/
def Device.convLoop (d : Device) : Nat :=
  if !d.supply.conv.running then 0
  else match Cfg.convMode d.cfg with
    | 1 => if 3 ≤ d.chg.step then 2 else 1
    | 2 => 1
    | 3 => 2
    | _ => 0

/-- Overload account after 1 ms at a power, J (R216). -/
def overloadStep (acc p : Rat) : Rat :=
  max 0 (if 560 < ratAbs p then acc + (ratAbs p - 560) else acc - (560 - ratAbs p) / 4)

/-- The converter's means, ramp and accounts over one beat (R212, R215, R216, R219). -/
def convBeat (d : Device) : Device :=
  let x := d.supply
  let p := -(d.latchedVal 12 * d.latchedVal 13) / 1000
  let s := x.convAcc.1 + p
  let n := x.convAcc.2 + 1
  let full := n == 1000
  let mean := s / 1000
  let v := d.vLinkHigh
  let sp := d.linkSetpoint
  let acc := if full then overloadStep x.conv.overload mean else x.conv.overload
  let r := slew x.conv.ramp sp ((Cfg.linkRamp d.cfg : Rat) / 1000)
  d.onSupply fun x => { x with
    convAcc := if full then (0, 0) else (s, n)
    conv := { x.conv with
      power := if full then mean else x.conv.power, overload := acc, overFull := x.conv.overFull && decide (4200000 ≤ acc)
      dischAcc := max 0 (x.conv.dischAcc + ((if x.conv.discharging then v * v / 220 else 0) - 1000) / 1000000)
      setpoint := sp, ramp := if x.conv.running then r else x.conv.ramp } }

/-- CONV_MODE over one beat (R211): mode 0 turns all gates off, and the converter starts again with another mode. The edges of the
cells in the beat go out. -/
def convModeBeat (d : Device) : Device :=
  let c := d.supply.conv
  let on := c.running || c.phases.any fun x => x.precharging
  let d := if Cfg.convMode d.cfg = 0 then (if on then convOff d else d).onConv fun c => { c with modeOff := true }
    else if c.modeOff then
      let d := d.onConv fun c => { c with modeOff := false }
      if 5 ≤ d.supply.chain && !on then convStart d else d
    else d
  d.each [0, 1, 2] phaseEdges

/-- The means of the arbiter (R230): a sample of each beat. -/
def arbiterBeat (d : Device) : Device :=
  let llc := d.latchedVal 23 * d.latchedVal 24 / (96 / 100) / 1000
  let grid := (d.latchedVal 20 * d.latchedVal 17 - d.latchedVal 21 * d.latchedVal 19) / 1000
  d.onSupply fun x => { x with
    powA := x.powA + d.portPower .a, powB := x.powB + d.portPower .b, powGrid := x.powGrid + grid
    powLlc := x.powLlc + llc, powChg := x.powChg + d.latchedVal 12 * d.latchedVal 13 / 1000, powN := x.powN + 1 }

/-- The 24 V ramp and its records over one beat (R222, R224, R226). -/
def auxBeat (d : Device) : Device :=
  let x := d.supply.aux
  let d := if x.startDue && !x.running && 5 ≤ d.supply.chain && !x.ovLatched && d.stageCan .aux then auxStart d else d
  let x := d.supply.aux
  let r := if x.running then slew x.ramp ((Cfg.auxVSet d.cfg : Rat) / 100) ((Cfg.auxSlew d.cfg : Rat) / 10000) else x.ramp
  let s := x.iAcc.1 + d.latchedVal 26
  let n := x.iAcc.2 + 1
  let free := Cfg.syncSrc d.cfg = 0
  d.onAux fun x => { x with
    ramp := r, iLast := (d.latchedVal 26 :: x.iLast).take 3, syncLocked := x.syncLocked && !free
    turnOn := if free then auxTurnOn x.active 0 (1000000 / max 1 (Cfg.auxFsw d.cfg)) else x.turnOn
    rampTop := (x.rampTop.filter fun e => decide (r < e.2) && decide (d.now < e.1 + ms 1)) ++ [(d.now, r)]
    iOut := if n = 100 then s / 100 else x.iOut, iAcc := if n = 100 then (0, 0) else (s, n) }

/-- The battery converter in the ramp of an F2 turns its gates off once every phase current is below 10 A, as for a shed phase
(R24, R215; log entry 68). -/
def convRampBeat (d : Device) : Device :=
  let small := [0, 1, 2].all fun n => !(d.supply.conv.phases.getD n {}).active || decide (ratAbs (d.fastVal (9 + n)) < 10)
  if (d.stage .conv).ramping && small then convOff d else d

/-- The LLC over one beat: the start converter runs while the LLC does not regulate and stops once the bus exceeds 50.0 V with the
LLC running (R208); a burst starts at 53.7 V and the bursts stop at 54.3 V (R220). -/
def llcBeat (d : Device) : Device :=
  let v := d.fineVal 23
  d.onLlc fun x => { x with
    startConv := !x.running || (x.startConv && decide (v ≤ 50)), lowLink := x.running && decide (d.vLink < 900)
    bursting := x.burst && (decide (v ≤ 537 / 10) || (x.bursting && decide (v < 543 / 10))) }

/-- The supply over one beat. -/
def supplyBeat (d : Device) : Device :=
  llcBeat (convModeBeat (convRampBeat (arbiterBeat (convBeat (auxBeat (batauxRecover (takeBus (takeLink d))))))))

/-- The over-voltage threshold of the 24 V bus, V (R226). -/
def Device.auxOvLevel (d : Device) : Rat :=
  (Cfg.auxOvPct d.cfg : Rat) / 100 * (d.supply.aux.rampTop.foldl (fun m e => max m e.2) 0)

end Sys2Proof.Machine
end

