-- ==== Sys2Proof/Machine/Charging.lean ====
section
/-!
DEFINITION. Charging the traction and backup batteries, and the status lamps (chapter 9).
-/

namespace Sys2Proof.Machine

/-! ## Traction charge (R234-R244) -/

/-- A start of Table 9.2: the grid port is re-armed, and the PLL starts locking (R205). -/
def chargeSync (d : Device) : Device :=
  (clearFault .overrun (.stage .grid) d).onChg fun x => { x with state := .sync, step := 1, stepStart := d.now, pllLocked := false, ending := none }

/-- The charge leaves for IDLE with its command no longer in force. -/
def chargeToIdle (d : Device) : Device :=
  let d := if d.chg.switching then gridOff d else d
  d.onChg fun x => { x with state := .idle, commanded := false, ending := none, step := 0 }

/-- CHG_CMD 0x01 (R235, R237). -/
def chgStart (d : Device) : W32 × Device :=
  if Cfg.convMode d.cfg ≠ 1 ∨ d.ctl.state ≠ .run then (Abort.state, d)
  else
    match d.chg.state with
    | .lockedOut => (Abort.state, d)
    | .idle | .complete =>
      let d := d.onChg fun x => { x with state := .gridCheck, commanded := true, ending := none }
      (Abort.ok, if d.chg.gridOk ∧ !d.chg.lostHold then chargeSync d else d)
    | _ => (Abort.ok, d)

/-- CHG_CMD 0x02 (R240): in CC or CV the current ramps to 0 first. -/
def chgStop (d : Device) : W32 × Device :=
  match d.chg.state with
  | .cc | .cv => (Abort.ok, d.onChg fun x => { x with ending := some false })
  | .lockedOut => (Abort.ok, d)
  | _ => (Abort.ok, chargeToIdle d)

/-- CHG_CMD 0x03 (R237, R244). -/
def chgRearm (d : Device) : W32 × Device :=
  let d := match d.chg.state with
    | .lockedOut => clearFault .gridRetry (.stage .grid) (chargeToIdle d)
    | .complete => chargeToIdle d
    | _ => d
  let v := d.fineVal 12
  (Abort.ok, if (Cfg.batVMin d.cfg : Rat) ≤ v ∧ v ≤ Cfg.batVMax d.cfg then clearFault .tbatLost .module d else d)

/-- CHG_CMD by its code. -/
def cmdChg (code : Nat) (d : Device) : W32 × Device :=
  match code with
  | 1 => chgStart d
  | 2 => chgStop d
  | 3 => chgRearm d
  | _ => (Abort.range, d)

def execChgCmdStart (path : Path) (s : State) : Host.Outcome State Fault Refusal :=
  .next (hostWrite path .b false (devCmd (rwCmd 0x290001 1 (cmdChg 1))) s)

def execChgCmdStop (path : Path) (s : State) : Host.Outcome State Fault Refusal :=
  .next (hostWrite path .b false (devCmd (rwCmd 0x290001 2 (cmdChg 2))) s)

def execChgCmdRearm (path : Path) (s : State) : Host.Outcome State Fault Refusal :=
  .next (hostWrite path .b false (devCmd (rwCmd 0x290001 3 (cmdChg 3))) s)

/-- The link lies below its headroom over the line voltage (Table 9.1), compared as squares. -/
def Device.linkShort (d : Device) : Bool :=
  decide (d.vLink < 0 ∨ d.vLink * d.vLink < 2 * (115 / 100) * (115 / 100) * d.chg.gridV * d.chg.gridV)

/-- The acceptance condition at this instant (Table 9.1). -/
def Device.acceptable (d : Device) : Bool :=
  let x := d.chg
  let nom : Rat := Cfg.gridVNom d.cfg
  decide (9 / 10 * nom ≤ x.gridV) && decide (x.gridV ≤ 11 / 10 * nom) && decide (45 ≤ x.gridF) && decide (x.gridF ≤ 65)
    && decide (x.unbalance ≤ 3 / 100) && !d.linkShort

/-- A beat of the sums behind GRID_V (R236): the line-to-line voltages as a vector, L3-L1 being minus the sum of the other two,
turned back by the angle of GRID_F for the positive sequence and forward for the negative one. -/
def gridSums (d : Device) : Device :=
  let a := d.fineVal 20
  let b := d.fineVal 21
  let v := clarke a b (-(a + b))
  let th := 360 * d.chg.gridF * (d.now : Rat) / 1000000000
  let c := Config.cosDeg th
  let s := Config.sinDeg th
  d.onChg fun x => { x with
    gridPos := (x.gridPos.1 + v.1 * c + v.2 * s, x.gridPos.2 + v.2 * c - v.1 * s)
    gridNeg := (x.gridNeg.1 + v.1 * c - v.2 * s, x.gridNeg.2 + v.2 * c + v.1 * s), gridN := x.gridN + 1 }

/-- The rms value of the vector whose sums over n beats are given. -/
def gridRms (s : Rat × Rat) (n : Nat) : Rat := Config.sqrt ((s.1 * s.1 + s.2 * s.2) / 2) / n

/-- GRID_V_UPDATE (R236): GRID_V and the negative sequence over the grid period that ends; GRID_F as the PLL gives it. -/
def gridUpdate (f : Rat) (d : Device) : Device :=
  let free := Config.freeRat d.fresh
  d.draw.onChg fun x =>
    let v := if x.gridN = 0 then x.gridV else gridRms x.gridPos x.gridN
    let neg := if x.gridN = 0 then x.unbalance else divFree free (gridRms x.gridNeg x.gridN) v
    { x with gridV := v, gridF := f, unbalance := neg, gridPos := (0, 0), gridNeg := (0, 0), gridN := 0 }

def execGridVUpdate (f : Rat) (s : State) : Host.Outcome State Fault Refusal :=
  .next (if s.dev.ctl.state = .off then s else s.onDev (gridUpdate f))

/-- GRID_ACCEPTANCE (R236): held for 100 ms. -/
def gridAccept (d : Device) : Device :=
  let d := d.onChg fun x => { x with gridOk := true }
  if d.chg.state = .gridCheck ∧ d.chg.commanded ∧ !d.chg.lostHold ∧ d.armReaction .grid < 3 then chargeSync d else d

def execGridAcceptance (s : State) : Host.Outcome State Fault Refusal :=
  .next (if s.dev.ctl.state ≠ .off ∧ s.dev.acceptable ∧ s.dev.held .gridAccept (ms 100) then s.onDev gridAccept else s)

/-- The condition of a supply check, where the module holds the quantity (Table 9.1). -/
def Device.gridFails (d : Device) : GridCheck → Bool
  | .linkLow => d.linkShort
  | .uv => decide (d.chg.gridV < 85 / 100 * (Cfg.gridVNom d.cfg : Rat))
  | .uvDeep => decide (d.chg.gridV < 70 / 100 * (Cfg.gridVNom d.cfg : Rat))
  | .ov => decide (115 / 100 * (Cfg.gridVNom d.cfg : Rat) < d.chg.gridV)
  | .freq => decide (d.chg.gridF < 45 ∨ 65 < d.chg.gridF)
  | .unbal => decide (5 / 100 < d.chg.unbalance)
  | .ovPeak =>
    let a := d.latchedVal 20
    let b := d.latchedVal 21
    let top : Rat := Cfg.gridVNom d.cfg
    let m := max (ratAbs a) (max (ratAbs b) (ratAbs (a + b)))
    decide (2 * (125 / 100) * (125 / 100) * top * top < m * m)
  | .pll => true

/-- The filter time of a check, ns (Table 9.1). -/
def gridFilter : GridCheck → Nat
  | .linkLow => ms 10
  | .uv => ms 200
  | .uvDeep | .ov | .pll => ms 20
  | .ovPeak => 100000
  | .freq => ms 100
  | .unbal => sec 1

def gridCheckFault : GridCheck → FaultName
  | .linkLow => .gridLinkLow
  | .uv | .uvDeep => .gridUv
  | .ov | .ovPeak => .gridOv
  | .freq => .gridFreq
  | .unbal => .gridUnbal
  | .pll => .gridPll

/-- A charge is starting or running: its supply is checked. -/
def Device.gridWatched (d : Device) : Bool := d.chg.state == .sync || d.chg.state == .cc || d.chg.state == .cv

/-- The number of a check where INJ_VALUE selects it (point 0x0901; log entry 57). -/
def gridCheckNum : GridCheck → Nat
  | .linkLow => 0
  | .uv => 1
  | .uvDeep => 2
  | .ov => 3
  | .ovPeak => 4
  | .freq => 5
  | .unbal => 6
  | .pll => 7

/-- A check fails, by the supply or by an injection. -/
def Device.gridBad (d : Device) (c : GridCheck) : Bool := d.gridFails c || injPicks (d.injectedAt 0x0901) (gridCheckNum c)

/-- GRID_SUPPLY_CHECK_FAIL (R236). -/
def execGridSupplyCheckFail (c : GridCheck) (s : State) : Host.Outcome State Fault Refusal :=
  .next (if s.dev.gridWatched ∧ s.dev.gridBad c ∧ (c = .pll ∨ s.dev.held (.grid c) (gridFilter c)) then
    s.onDev (raise (gridCheckFault c) (.stage .grid) 3) else s)

/-- PLL_LOCKED (Table 9.2, steps 2 and 3): the islands are armed, and the port switches with the feed-forward only; the outputs of
CS09 and CS10 are set to CHG_I_SET and full scale, where they are held until their loops close. -/
def pllLocked (d : Device) : Device :=
  let d := d.onChg fun x => { x with pllLocked := true }
  if d.reaction .grid < 3 ∧ d.ctl.enConv ∧ (StageGroup.islands .grid).all (fun i => (d.island i).link == 2) then
    let d := d.each (StageGroup.islands .grid) fun i d => if (d.island i).armed then d else armIsland i d
    let d := d.onStage .grid fun g => { g with order := 0, running := true }
    let d := d.onSlot 9 fun x => { x with output := Config.loopCode 9 (Cfg.chgISet d.cfg : Rat) }
    let d := d.onSlot 10 fun x => { x with output := 8388607 }
    isoSuspend (d.onChg fun x => { x with step := 3, switching := true, iCmd := 0, vregScale := 0x7FFFFF })
  else d.onChg fun x => { x with state := .retryWait, step := 0, stepStart := d.now }

/-- The phase error has been below 2° for 50 ms, as the PLL finds it. -/
def execPllLocked (s : State) : Host.Outcome State Fault Refusal :=
  let x := s.dev.chg
  .next (if x.state = .sync ∧ x.step = 1 ∧ x.stepStart + ms 50 ≤ s.dev.now then s.onDev pllLocked else s)

/-- PLL_LOCK_TIMEOUT (Table 9.2, step 2). -/
def execPllLockTimeout (late : Bool) (s : State) : Host.Outcome State Fault Refusal :=
  let x := s.dev.chg
  .next (if x.state = .sync ∧ !x.pllLocked ∧ x.stepStart + ms 300 ≤ s.dev.now then
    s.onDev fun d => lateMisc late (raise .gridPll (.stage .grid) 3 d) else s)

/-- Step 4 of Table 9.2: the link law is in force, the battery converter changes to battery current, CS09 and CS10 close. -/
def chargeCloses (d : Device) : Device := d.onChg fun x => { x with state := .cc, step := 4, iCmd := 0 }

/-- GRID_RESTART (R237): acceptance has held for GRID_RESTART_T; the restart after five within 10 min locks out. -/
def gridRestart (d : Device) : Device :=
  let l := d.chg.restarts.filter fun t => decide (d.now < t + sec 600)
  if 5 ≤ l.length ∨ injPicks (d.injectedAt 0x0901) 8 then
    (raise .gridRetry (.stage .grid) 3 d).onChg fun x => { x with state := .lockedOut, commanded := false, restarts := l }
  else chargeSync (d.onChg fun x => { x with restarts := l ++ [d.now] })

def execGridRestart (s : State) : Host.Outcome State Fault Refusal :=
  let d := s.dev
  let t := sec (Cfg.gridRestartT d.cfg)
  .next (if d.chg.state = .retryWait ∧ d.chg.commanded ∧ d.acceptable ∧ d.held .gridAccept t ∧ d.chg.stepStart + t ≤ d.now
      ∧ d.armReaction .grid < 3 then
    s.onDev gridRestart else s)

/-- The charge is at its end: in CV with CHG_I_END set and the battery current below it (R240). -/
def Device.chargeDone (d : Device) : Bool :=
  d.chg.state == .cv && Cfg.chgIEnd d.cfg != 0 && decide (d.fineVal 13 < (Cfg.chgIEnd d.cfg : Rat))

/-- CHARGE_COMPLETE (R240): that has held for 60 s. -/
def execChargeComplete (s : State) : Host.Outcome State Fault Refusal :=
  .next (if s.dev.chargeDone ∧ s.dev.held .chargeEnd (sec 60) ∧ s.dev.chg.ending.isNone then
    s.onDev (Device.onChg fun x => { x with ending := some true }) else s)

/-! ## Host watchdog (R242, R243) -/

/-- A refresh: it ends a fallback. -/
def wdRefresh (d : Device) : Device :=
  clearFault .chgWdExpired .module (d.onChg fun x => { x with lastRefresh := some d.now, fallback := false })

/-- CHG_WD_REFRESH: any value refreshes. -/
def cmdWdRefresh (d : Device) : W32 × Device := (Abort.ok, wdRefresh d)

def execChgWdRefresh (path : Path) (v : BitVec 8) (s : State) : Host.Outcome State Fault Refusal :=
  .next (hostWrite path .b false (devCmd fun d => if v.toNat < 256 then cmdWdRefresh d else (Abort.range, d)) s)

/-- CHG_I_SET: 0-2,000 A. -/
def cmdChgISet (v : Nat) (d : Device) : W32 × Device :=
  if v ≤ 2000 then (Abort.ok, wdRefresh (pushLive 0x290002 v d)) else (Abort.range, d)

def execChgISetWrite (path : Path) (v : BitVec 16) (s : State) : Host.Outcome State Fault Refusal :=
  .next (hostWrite path .b false (devCmd (cmdChgISet v.toNat)) s)

/-- CHG_V_SET: 600-1,350 V. -/
def cmdChgVSet (v : Nat) (d : Device) : W32 × Device :=
  if 600 ≤ v ∧ v ≤ 1350 then (Abort.ok, wdRefresh (pushLive 0x290003 v d)) else (Abort.range, d)

def execChgVSetWrite (path : Path) (v : BitVec 16) (s : State) : Host.Outcome State Fault Refusal :=
  .next (hostWrite path .b false (devCmd (cmdChgVSet v.toNat)) s)

/-- The charger enters TRICKLE. -/
def bchgTrickle (d : Device) : Device :=
  d.onCharger fun x => { x with state := .trickle, phaseStart := d.now, timerPaused := false, dvArmed := false
                                safetySince := none, ceilSince := none }

/-- The fallback of R242. -/
def wdExpire (d : Device) : Device :=
  let d := raise .chgWdExpired .module 0 (d.onChg fun x => { x with fallback := true })
  if d.bchg.state = .fast ∨ d.bchg.state = .precharge then bchgTrickle d else d

/-- CHG_WD_EXPIRED (R242, R243): a refresh may coincide, and wins (some true) or is discarded (some false). -/
def wdExpired (refresh : Option Bool) (d : Device) : Device :=
  match refresh with
  | some true => wdRefresh d
  | some false => wdExpire (d.onChg fun x => { x with wdLate := addWrap 16 x.wdLate 1 })
  | none => wdExpire d

def execChgWdExpired (refresh : Option Bool) (s : State) : Host.Outcome State Fault Refusal :=
  .next (if s.dev.ctl.state ≠ .off
      ∧ (s.dev.chg.lastRefresh.getD 0 + sec (Cfg.chgWdTime s.dev.cfg) ≤ s.dev.now ∨ s.dev.forcedAt 0x0903) then
    s.onDev (wdExpired refresh) else s)

/-! ## Traction battery removed (R244) -/

/-- The condition of TBAT_LOST. -/
def Device.tbatGone (d : Device) : Bool :=
  d.supply.conv.running && decide (20 ≤ d.chg.iCmd) && (decide (d.latchedVal 13 < 5) || d.forcedAt 0x0902)

/-- TBAT_LOST. -/
def tbatLost (d : Device) : Device :=
  raiseActs .tbatLost .module 3 [(.stage .grid, 3), (.stage .conv, 3), (.module, 2)]
    (d.onChg fun x => { x with lostHold := true })

def execTbatLost (s : State) : Host.Outcome State Fault Refusal :=
  .next (if s.dev.tbatGone ∧ s.dev.held .tbatLost (ms 1) then s.onDev tbatLost else s)

/-! ## Backup charger (R245-R252) -/

/-- The charger may work: the state runs the chain, EN_AUX is high, no crowbar is latched and no F3 acts on it. -/
def Device.bchgAllowed (d : Device) : Bool :=
  d.ctl.state.chainRuns && d.supply.chain != 0 && d.ctl.enAux && !d.supply.aux.ovLatched
    && !(d.faults.active.any fun e => e.acts.any fun a => a.1 == .backup 0 && decide (3 ≤ a.2))

/-- Start of FAST (Table 9.4): with an invalid temperature or in the fallback only TRICKLE is allowed. -/
def bchgFast (d : Device) : Device :=
  match d.bchg.temp with
  | none => bchgTrickle d
  | some t =>
    if d.chg.fallback then bchgTrickle d
    else if t < 5 ∨ 40 < t then d.onCharger fun x => { x with state := .waitTemp, phaseStart := d.now }
    else d.onCharger fun x => { x with
      state := .fast, phaseStart := d.now, timerPaused := false, dvArmed := false, endCause := 0
      vSum := 0, vN := 0, vBad := false, vMean := none, vPeak := none
      safetyRun := 0, safetySince := some d.now, ceilRun := 0, ceilSince := some d.now }

/-- Charger start by Table 9.4. -/
def bchgStart (d : Device) : Device :=
  let v := d.fineVal 27
  if v < 18 then
    if d.chg.fallback || d.bchg.temp.isNone then bchgTrickle d
    else d.onCharger fun x => { x with state := .precharge, phaseStart := d.now }
  else if v < 18 * (Cfg.bchgRestartV d.cfg : Rat) / 100 then bchgFast d
  else bchgTrickle d

/-- Thermal foldback (R248). -/
def Device.foldScale (d : Device) : Rat :=
  match d.bchg.temp with
  | some t => if d.bchg.hotHold then 0 else fall (Cfg.bchgTFold d.cfg) (Cfg.bchgTMax d.cfg) 0 t
  | none => 1

/-- The current a phase sets before foldback and budget, A (Table 9.4, R242). -/
def Device.bchgSet (d : Device) : Rat :=
  let c : Rat := Cfg.bchgCapAh d.cfg
  let trickle := if d.chg.fallback then 5 / 100 * c else (Cfg.bchgTrickle d.cfg : Rat) / 100 * c
  match d.bchg.state with
  | .precharge => 10 / 100 * c
  | .fast => min 30 ((Cfg.bchgRate d.cfg : Rat) / 100 * c)
  | .trickle => trickle
  | .waitTemp => match d.bchg.temp with
    | some t => if -20 ≤ t ∧ t ≤ 45 then trickle else 0
    | none => 0
  | _ => 0

/-- Nanoseconds a timer of R249 has run. -/
def timerRun (run : Nat) (since : Option Nanos) (now : Nanos) : Nat := run + (match since with | some t => now - t | none => 0)

/-- t_nom of R249, ns. -/
def Device.tNom (d : Device) : Nat := Cfg.bchgTimerPct d.cfg * sec 3600 / Cfg.bchgRate d.cfg

/-- BCHG_END_RECORD at an end of FAST (R250, Table 9.11). -/
def bchgRecord (cause : Nat) (d : Device) : Device :=
  d.onCharger fun x => { x with
    endCause := cause, recCause := cause, recFold := decide (d.foldScale < 1), recPaused := x.timerPaused
    recTemp := match x.temp with
      | some t => clampInt (-128) 127 (roundCode t)
      | none => 0
    recMin := min 65535 ((d.now - x.phaseStart) / sec 60) }

/-- Temperature in °C of an NTC of 10 kΩ at 25 °C with B = 3,435 K from its resistance in ohm (R245). -/
def ntcTemp (r : Rat) : Rat := 1 / (1 / (29815 / 100) + Config.ln (r / 10000) / 3435) - 27315 / 100

/-- The readings that span the last 60 s (R247). -/
def tempWindow (now : Nanos) (l : List (Nanos × Rat)) : List (Nanos × Rat) :=
  l.filter fun e => decide (now ≤ e.1 + sec 60)

/-- BATAUX_TEMP_READ (R245, R248): the temperature of the NTC; none while it is open or shorted. -/
def batauxTemp (t : Option Rat) (d : Device) : Device :=
  let t := if d.forcedAt 0x0904 then none else t
  let d := follow .batauxTsense (.backup 0) 0 t.isNone (d.onCharger fun x => { x with
    temp := t, temps := match t with
      | some v => (d.now, v) :: tempWindow d.now x.temps
      | none => [] })
  match t with
  | none => match d.bchg.state with
    | .precharge | .fast | .waitTemp => bchgTrickle d
    | _ => d
  | some x =>
    let top : Rat := Cfg.bchgTMax d.cfg
    if top ≤ x then raise .batauxHot (.backup 0) 0 (d.onCharger fun y => { y with hotHold := true })
    else if x < top - 5 then clearFault .batauxHot (.backup 0) (d.onCharger fun y => { y with hotHold := false })
    else d

def execBatauxTempRead (r : Option Rat) (s : State) : Host.Outcome State Fault Refusal :=
  .next (if s.dev.ctl.state = .off then s else s.onDev (batauxTemp (r.map ntcTemp)))

/-- Charging stops: STOPPED with 0 A. -/
def bchgStopped (d : Device) : Device :=
  d.onCharger fun x => { x with state := .stopped, current := 0, demand := 0, timerPaused := false
                                safetyRun := timerRun x.safetyRun x.safetySince d.now
                                ceilRun := timerRun x.ceilRun x.ceilSince d.now, safetySince := none, ceilSince := none }

/-- BATAUX_DEAD (Table 9.4): 30 min of PRECHARGE. -/
def execBatauxDead (s : State) : Host.Outcome State Fault Refusal :=
  .next (if s.dev.bchg.state = .precharge ∧ (s.dev.bchg.phaseStart + sec 1800 ≤ s.dev.now ∨ s.dev.forcedAt 0x0904) then
    s.onDev fun d => raise .batauxDead (.backup 0) 0 (bchgStopped d) else s)

/-- In TRICKLE with the battery below the restart voltage (Table 9.4). -/
def Device.trickleLow (d : Device) : Bool :=
  d.bchg.state == .trickle && decide (d.fineVal 27 < 18 * (Cfg.bchgRestartV d.cfg : Rat) / 100)

/-- BCHG_RESTART_FAST (Table 9.4): in TRICKLE, below the restart voltage for 60 s; not in the fallback (R242). -/
def execBchgRestartFast (s : State) : Host.Outcome State Fault Refusal :=
  let d := s.dev
  .next (if d.trickleLow ∧ !d.chg.fallback ∧ d.held .bchgRestart (sec 60) then s.onDev bchgFast else s)

/-- DV_ARMED (R247). -/
def execDvArmed (s : State) : Host.Outcome State Fault Refusal :=
  let d := s.dev
  .next (if d.bchg.state = .fast ∧ d.bchg.phaseStart + sec (60 * Cfg.bchgDvHold d.cfg) ≤ d.now then
    s.onDev (Device.onCharger fun x => { x with dvArmed := true }) else s)

def fastEndCode : FastEnd → Nat
  | .dv => 1
  | .dtdt => 2
  | .ceiling => 3

/-- A condition of R247 is met: 1 and 2 once armed, from the window means and the temperatures of 60 s; the ceiling as the loop of
CS15 finds it, not before 60 s of FAST (log entry 77). -/
def Device.fastEnded (d : Device) : FastEnd → Bool
  | .dv => d.bchg.dvArmed && (match d.bchg.vMean, d.bchg.vPeak with
    | some m, some p => decide (18 * (Cfg.bchgDvCell d.cfg : Rat) / 1000 ≤ p - m)
    | _, _ => false)
  | .dtdt => d.bchg.dvArmed && (match d.bchg.temps.head?, d.bchg.temps.getLast? with
    | some n, some o => decide (o.1 + sec 60 ≤ n.1) && decide ((Cfg.bchgDtdt d.cfg : Rat) / 10 ≤ n.2 - o.2)
    | _, _ => false)
  | .ceiling => decide (d.bchg.phaseStart + sec 60 ≤ d.now)

/-- BCHG_FAST_END (R247). -/
def execBchgFastEnd (c : FastEnd) (s : State) : Host.Outcome State Fault Refusal :=
  .next (if s.dev.bchg.state = .fast ∧ s.dev.fastEnded c then
    s.onDev fun d => bchgTrickle (bchgRecord (fastEndCode c) d) else s)

/-- A timer of FAST expires (R250). -/
def bchgExpire (cause : Nat) (endSeen : Bool) (d : Device) : Device :=
  let d := bchgStopped (bchgRecord cause d)
  let d := d.onCharger fun x => { x with late := if endSeen then addWrap 16 x.late 1 else x.late }
  raise .chgtime (.backup 0) 0 d

/-- BCHG_SAFETY_TIMER_EXPIRY (R249, R250): an end of charge that lost to the expiry is counted. -/
def execBchgSafetyTimerExpiry (endSeen : Bool) (s : State) : Host.Outcome State Fault Refusal :=
  let d := s.dev
  .next (if d.bchg.state = .fast ∧ (d.forcedAt 0x0904 ∨ d.tNom ≤ timerRun d.bchg.safetyRun d.bchg.safetySince d.now) then
    s.onDev (bchgExpire 4 endSeen) else s)

/-- BCHG_CEILING_TIMER_EXPIRY (R249, R250). -/
def execBchgCeilingTimerExpiry (endSeen : Bool) (s : State) : Host.Outcome State Fault Refusal :=
  let d := s.dev
  .next (if d.bchg.state = .fast ∧ (d.forcedAt 0x0904 ∨ 2 * d.tNom ≤ timerRun d.bchg.ceilRun d.bchg.ceilSince d.now) then
    s.onDev (bchgExpire 5 endSeen) else s)

/-- BATAUX_LOST (R251). -/
def batauxLost (d : Device) : Device :=
  let d := (bchgStopped d).onCharger fun x => { x with state := .lost, present := false, endCause := 0 }
  raise .batauxLost (.backup 0) 0 (d.onBackup fun x => { x with diodeOn := false, cause := 4 })

/-- The ceiling of CS15 (R245). -/
def Device.bchgCeil (d : Device) : Rat := 18 * (Cfg.bchgVCeil d.cfg : Rat) / 100

/-- The charger's output is on. -/
def Device.bchgOn (d : Device) : Bool := decide (0 < d.bchg.current)

/-- M28 below 10 % of the current set while charging (R251). -/
def Device.bchgNoCurrent (d : Device) : Bool := d.bchgOn && decide (d.fastVal 28 < d.bchg.current / 10)

/-- A removal as R251 declares it: during charging M27 more than 0.5 V above the ceiling within 1 ms of reading below it, or no
current for 1 ms; outside charging M27 below 9.0 V for 100 ms. -/
def Device.batauxRemoved (d : Device) : Bool :=
  if d.bchgOn then
    (decide (d.bchgCeil + 1 / 2 < d.fastVal 27) && (match d.bchg.belowCeil with
      | some t => decide (d.now ≤ t + ms 1)
      | none => false))
    || (d.bchgNoCurrent && d.held .bchgNoCurrent (ms 1))
  else decide (d.fineVal 27 < 9) && d.held .batauxGone (ms 100)

def execBatauxLost (s : State) : Host.Outcome State Fault Refusal :=
  .next (if s.dev.ctl.state ≠ .off ∧ s.dev.bchg.present ∧ (s.dev.batauxRemoved ∨ s.dev.forcedAt 0x0904) then s.onDev batauxLost else s)

/-- BATAUX_PRESENT (R252): 9.0 V or more for 2 s with the charger output off. -/
def execBatauxPresent (s : State) : Host.Outcome State Fault Refusal :=
  .next (if s.dev.ctl.state ≠ .off ∧ !s.dev.bchg.present ∧ 9 ≤ s.dev.fineVal 27 ∧ s.dev.held .batauxBack (sec 2) then
    s.onDev fun d => (d.onCharger fun x => { x with present := true }).onBackup
      fun x => { x with cause := if x.cause = 4 then 0 else x.cause } else s)

/-- BCHG_CMD 0x01 (R246): a stopped or lost charger needs 0x03 first; a write refreshes the host watchdog (R242). -/
def bchgForce (d : Device) : W32 × Device :=
  match d.bchg.state with
  | .precharge | .fast | .trickle | .waitTemp => (Abort.ok, bchgFast (wdRefresh d))
  | _ => (Abort.state, d)

/-- BCHG_CMD 0x03 (R252): refused while no battery is present. -/
def bchgRearm (d : Device) : W32 × Device :=
  if !d.bchg.present then (Abort.state, d)
  else
    let d := wdRefresh d
    match d.bchg.state with
    | .lost | .stopped =>
      let d := d.each [.batauxLost, .batauxDead, .chgtime] fun f => clearFault f (.backup 0)
      let d := d.onCharger fun x => { x with state := .off, safetyRun := 0, ceilRun := 0, endCause := 0 }
      (Abort.ok, if d.bchgAllowed && Cfg.bchgEnable d.cfg then bchgStart d else d)
    | _ => (Abort.ok, d)

/-- BCHG_CMD by its code. -/
def cmdBchg (code : Nat) (d : Device) : W32 × Device :=
  match code with
  | 1 => bchgForce d
  | 3 => bchgRearm d
  | _ => (Abort.range, d)

def execBchgCmdForceFast (path : Path) (s : State) : Host.Outcome State Fault Refusal :=
  .next (hostWrite path .b false (devCmd (rwCmd 0x291001 1 (cmdBchg 1))) s)

def execBchgCmdRearm (path : Path) (s : State) : Host.Outcome State Fault Refusal :=
  .next (hostWrite path .b false (devCmd (rwCmd 0x291001 3 (cmdBchg 3))) s)

/-! ## Lamps (R253) -/

def Device.onLamp (flt : Bool) (f : Lamp → Lamp) (d : Device) : Device :=
  if flt then { d with lamps := { d.lamps with flt := f d.lamps.flt } }
  else { d with lamps := { d.lamps with chg := f d.lamps.chg } }

def Lamps.get (x : Lamps) (flt : Bool) : Lamp := if flt then x.flt else x.chg

/-- Scope of a lamp output (Table 15.16). -/
def lampScope (flt : Bool) : Scope := .backup (if flt then 3 else 2)

/-- LAMP_OC (R253): LAMP_CHG, or LAMP_FLT where the operand is true. -/
def execLampOc (fault : Bool) (s : State) : Host.Outcome State Fault Refusal :=
  .next (if s.dev.ctl.state = .off then s else
    s.onDev fun d => raise .lampOc (lampScope fault) 0 (d.onLamp fault fun x => { x with off := true, offAt := d.now }))

/-- The retry of an output: it turns on again, or over-current still turns it off. -/
def lampRetry (fault still : Bool) (d : Device) : Device :=
  let d := d.onLamp fault fun x => { x with off := still, offAt := d.now }
  if still then d else clearFault .lampOc (lampScope fault) d

/-- LAMP_RETRY (R253): every 1 s. -/
def execLampRetry (fault : Bool) (still : Bool) (s : State) : Host.Outcome State Fault Refusal :=
  let x := s.dev.lamps.get fault
  .next (if x.off ∧ x.offAt + sec 1 ≤ s.dev.now then s.onDev (lampRetry fault still) else s)

/-- LAMP_TEST_END (R253): 1 s after BOOT was entered, at module time 0 (R433). -/
def execLampTestEnd (s : State) : Host.Outcome State Fault Refusal :=
  .next (if sec 1 ≤ s.dev.now then s.onDev fun d => { d with lamps := { d.lamps with test := false } } else s)

/-! ## What happens every beat -/

/-- The terms of p_gmax beside GRID_P_MAX with its factors, with their causes, kW (R238). -/
def Device.gridTerms (d : Device) : List (Nat × Rat) :=
  let top : Rat := Cfg.gridPMax d.cfg
  [(d.supply.arbSrcGrid, d.supply.gridGrant), (12, top * (d.chg.vregScale : Rat) / 8388607),
    (15, Config.sqrt 3 * d.chg.gridV * (Cfg.gridIMax d.cfg : Rat) / 1000)]

/-- p_gmax and the cause that sets it lowest (R238); 0 as the cause where GRID_P_MAX itself limits. -/
def Device.pGmax (d : Device) : Nat × Rat :=
  let top : Rat := Cfg.gridPMax d.cfg
  let own := top * d.stageLimit .grid
  d.gridTerms.foldl (fun (m : Nat × Rat) e => if e.2 < m.2 ∨ (e.2 = m.2 ∧ m.1 ≠ 0 ∧ e.1 < m.1) then e else m)
    (if own < top then (lowestCause (d.limitCauses .grid)).1 else 0, own)

/-- Mean LLC input, motoring and generating powers as last averaged, kW (R230). -/
def Device.auxPower (d : Device) : Rat :=
  if d.supply.llcHist.isEmpty then 0 else d.supply.llcHist.sum / (d.supply.llcHist.length : Rat)

/-- The link law at a CS07 sample (R238); before step 4 of Table 9.2 the feed-forward only. -/
def linkLaw (d : Device) : Device :=
  let pg := d.pGmax
  let kp : Rat := if d.chg.step < 4 then 0 else (Cfg.gridLinkKp d.cfg : Rat) / 10
  let pRef := clampRat 0 (max 0 pg.2)
    (d.supply.meanChg + d.auxPower + d.supply.meanM - d.supply.meanG + kp * (d.linkSetpoint - d.vLink))
  let vd := d.chg.gridV * Config.sqrt 2 / Config.sqrt 3
  let top := Config.sqrt 2 * (Cfg.gridIMax d.cfg : Rat)
  let d0 := d
  let d := d.draw
  let id := min top (divFree (Config.freeRat d0.fresh) (pRef * 1000) (3 / 2 * vd))
  let iqMax := Config.sqrt (max 0 (top * top - id * id))
  let iq := clampRat (-iqMax) iqMax (divFree (Config.freeRat d0.fresh) (-(Cfg.gridQRef d.cfg : Rat) * 1000) (3 / 2 * vd))
  d.onChg fun x => { x with pGmax := pg.2, idRef := id, iqRef := iq, refused := decide (d.supply.gridGrant ≤ 0) }

/-- The battery current reference at a CS03 sample (R239, R242). -/
def chargeCurrent (d : Device) : Device :=
  let g := d.supply.meanG
  let m := d.supply.meanM
  let d0 := d
  let d := d.draw
  let set : Rat := Cfg.chgISet d.cfg
  let cs9 := clampRat 0 set (Config.loopOut 9 (d.slot 9).output)
  let avail := divFree (Config.freeRat d0.fresh) ((97 / 100 * d.chg.pGmax - d.auxPower - m + g) * 1000) (d.fineVal 12)
  let host := if d.chg.fallback then min 16 set else set
  let lim := d.chgLimit
  let want := max 0 (min (min host cs9) (min lim avail))
  let target := if d.chg.ending.isSome || (d.stage .grid).ramping then 0 else want
  let i := slew d.chg.iCmd target ((Cfg.chgRamp d.cfg : Rat) / 100000)
  let cv := decide (cs9 ≤ host) && decide (cs9 ≤ lim) && decide (cs9 ≤ avail)
  let src := if avail < min (min host cs9) lim then (d.pGmax).1
    else if lim < min host cs9 then 7
    else if d.chg.fallback && decide (host ≤ cs9) then 15 else 0
  d.onChg fun x => { x with iCmd := i, state := if cv then .cv else .cc, limsrc := src }

/-- A charge told to end whose current has ramped to 0 (R240), or one that an F2 has ramped down (R24). -/
def chargeEnd (d : Device) : Device :=
  match d.chg.ending with
  | some complete =>
    if d.chg.iCmd = 0 then
      let d := gridOff d
      d.onChg fun x => { x with
        state := if complete then .complete else .idle, commanded := false, ending := none, step := 0, limsrc := 0 }
    else d
  | none => if (d.stage .grid).ramping && d.chg.iCmd == 0 then chargeToIdle d else d

/-- The traction charge over one beat. -/
def chargeBeat (d : Device) : Device :=
  let d := gridSums d
  let s := d.chg.pAcc.1 + (d.latchedVal 20 * d.latchedVal 17 - d.latchedVal 21 * d.latchedVal 19) / 1000
  let n := d.chg.pAcc.2 + 1
  let d := d.onChg fun x => { x with
    gridOk := x.gridOk && d.acceptable
    gridP := if n = 10000 then s / 10000 else x.gridP, pAcc := if n = 10000 then (0, 0) else (s, n)
    restarts := x.restarts.filter fun t => decide (d.now < t + sec 600) }
  if d.chg.switching && (d.ctl.state == .run || d.ctl.state == .stopping) && Cfg.convMode d.cfg != 1 then chargeToIdle d else d

/-- The window of R247 over one beat of FAST: every 10 s its mean counts, unless the charge current left ±5 % of its set value or
the ideal diode conducted in it, when the peak is reset. -/
def windowBeat (d : Device) : Device :=
  if d.bchg.state ≠ .fast then
    if d.bchg.state = .paused then d.onCharger fun x => { x with vBad := true } else d
  else
    let i := d.fastVal 28
    let set := d.bchgSet
    let bad := d.supply.backup.diodeOn || decide (set / 20 < ratAbs (i - set))
    d.onCharger fun x =>
      let sum := x.vSum + d.fineVal 27
      let n := x.vN + 1
      let b := x.vBad || bad
      if n < 10000000 then { x with vSum := sum, vN := n, vBad := b }
      else
        let mean := sum / n
        { x with
          vSum := 0, vN := 0, vBad := false, vMean := if b then none else some mean
          vPeak := if b then none else some (match x.vPeak with
            | some p => max p mean
            | none => mean) }

/-- Safety timer over one beat: it pauses while foldback holds the current below 50 % (R249). -/
def timerBeat (d : Device) : Device :=
  if d.bchg.state = .fast then
    if d.foldScale < 1 / 2 then
      if d.bchg.timerPaused then d
      else d.onCharger fun x => { x with
        timerPaused := true, safetyRun := timerRun x.safetyRun x.safetySince d.now, safetySince := none }
    else d.onCharger fun x => { x with timerPaused := false, safetySince := some (x.safetySince.getD d.now) }
  else d

/-- The backup charger's phase over one beat (Table 9.4, R245). -/
def bchgPhase (d : Device) : Device :=
  if !Cfg.bchgEnable d.cfg then
    match d.bchg.state with
    | .off | .stopped | .lost => d
    | _ => d.onCharger fun x => { x with state := .off, current := 0, demand := 0, safetySince := none, ceilSince := none }
  else if !d.bchgAllowed then bchgPause d
  else
    match d.bchg.state with
    | .off =>
      let d := d.onCharger fun x => { x with present := x.present || decide (9 ≤ d.fineVal 27) }
      if d.bchg.present then bchgStart d else d
    | .paused =>
      d.onCharger fun x => { x with
        state := x.resume
        safetySince := if x.resume = .fast && !x.timerPaused then some d.now else none
        ceilSince := if x.resume = .fast then some d.now else none }
    | .precharge => if 18 ≤ d.fineVal 27 then bchgFast d else d
    | .waitTemp => match d.bchg.temp with
      | some t => if 5 ≤ t ∧ t ≤ 40 then bchgFast d else d
      | none => d
    | _ => d

/-- The backup charger over one beat: phase, timers, current within its share of the 54 V budget (R231, R248). -/
def bchgBeat (d : Device) : Device :=
  let d := timerBeat (bchgPhase (windowBeat d))
  let want := d.bchgSet * d.foldScale
  let v := d.fineVal 27
  d.onCharger fun x => { x with
    belowCeil := if d.fastVal 27 < d.bchgCeil then some d.now else x.belowCeil
    demand := want, current := if want * v / 1000 ≤ d.supply.backupGrant then want else d.supply.backupGrant * 1000 / v }

end Sys2Proof.Machine
end

