-- ==== Sys2Proof/Machine/Actuators.lean ====
section
/-!
DEFINITION. Gearbox actuators (chapter 10): Hall edges, moves, stalls, homing, operations by role, the shift sequence and
thermal pacing.
-/

namespace Sys2Proof.Machine

/-! ## Settings packed in one object (Table 10.6) -/

namespace Cfg

def seatI (S : Settings) (n : Nat) : Nat := moveIPack S n / 256 % 256
def moveI (S : Settings) (n : Nat) : Nat := moveIPack S n / 65536 % 256
def holdI (S : Settings) (n : Nat) : Nat := moveIPack S n % 256
def slowZone (S : Settings) (n : Nat) : Nat := slowZonePack S n / 256
def endTol (S : Settings) (n : Nat) : Nat := slowZonePack S n % 256
def backoff (S : Settings) (n : Nat) : Nat := backoffPack S n / 65536 % 256
def actRetries (S : Settings) (n : Nat) : Nat := backoffPack S n / 256 % 256
def engRetries (S : Settings) (n : Nat) : Nat := backoffPack S n % 256
def endMask (S : Settings) (n : Nat) : Nat := endMaskPack S n / 256 % 16
def commShift (S : Settings) (n : Nat) : Nat := endMaskPack S n / 16 % 8
def homeUp (S : Settings) (n : Nat) : Bool := endMaskPack S n % 2 == 1
def dipSlew (S : Settings) (n : Nat) : Nat := dipSlewPack S n / 256
def restoreSlew (S : Settings) (n : Nat) : Nat := dipSlewPack S n % 256
/-- Bounds of the steps 2-5 of a shift, ms. -/
def stepTMax (S : Settings) (n step : Nat) : Nat := dipTMaxPack S n / 65536 ^ (5 - step) % 65536

end Cfg

/-! ## Positions -/

/-- TARGET_k is an end-stop target (R262). -/
def Device.isEnd (d : Device) (n k : Nat) : Bool := (Cfg.endMask d.cfg n).testBit k

/-- Whether a drive stands at TARGET_k by ACT_POS, within END_TOL at an end stop (log entry 30). -/
def Device.atTargetK (d : Device) (n k : Nat) : Bool :=
  decide (((d.act n).pos - Cfg.targetPos d.cfg n k).natAbs ≤ if d.isEnd n k then Cfg.endTol d.cfg n else 0)

/-- The port of a shift fork (Table 10.2). -/
def Device.forkPort (d : Device) (n : Nat) : Option PortId :=
  match Cfg.actRole d.cfg n with
  | 1 => some .a
  | 2 => some .b
  | _ => none

/-- The fork of a port. -/
def Device.forkOf (d : Device) (p : PortId) : Option Nat := [0, 1, 2, 3].find? fun n => d.forkPort n == some p

/-- A shift of a fork is under way on its port (steps 1-6 with the port RUNNING at its start). -/
def Actuator.shiftRuns (x : Actuator) : Bool := 1 ≤ x.shift && x.shift ≤ 6 && !x.plain

/-- The drive's currents are regulated: it moves, seats, backs off or holds. -/
def Actuator.energised (x : Actuator) : Bool :=
  match x.op with
  | .moving | .seating | .backingOff | .holding => true
  | _ => false

/-- An operation runs. -/
def Actuator.busy (x : Actuator) : Bool :=
  x.diffWait || x.cmd.isSome || (1 ≤ x.shift && x.shift ≤ 6) || (match x.op with
    | .pause | .moving | .seating | .backingOff => true
    | _ => false)

/-- The output speed of a fork: the wheel named by OUT_SRC, where its reading is valid (R267). -/
def Device.outSpeed (d : Device) (n : Nat) : Option Rat :=
  let k := Cfg.outSrc d.cfg n
  if k = 0 then none else if (d.wheel (k - 1)).readingValid then some (d.wheel (k - 1)).speed else none

/-- GEAR_RATIO of a gear target: TARGET_0 gear 1, TARGET_2 gear 2. -/
def Device.gearRatioOf (d : Device) (n gear : Nat) : Rat :=
  if gear = 2 then Cfg.gearRatio2 d.cfg n else Cfg.gearRatio d.cfg n

/-- The sync target of a shift (R267); while the wheel gives no valid reading the spec names none: a free value. -/
def Device.syncTarget (d : Device) (n : Nat) : Rat := (d.outSpeed n).getD (Config.freeRat d.fresh) * d.gearRatioOf n (d.act n).gear

/-- A plain fork move is allowed: the port is not RUNNING, and its speed and the output speed are low (R267). -/
def Device.stillOk (d : Device) (n : Nat) (p : PortId) : Bool :=
  let lim := Cfg.shiftStillSpeed d.cfg n
  (d.port p).state != .running && decide (ratAbs (d.portSpeed p) < lim) &&
    (match d.outSpeed n with
      | some v => decide (ratAbs v < lim)
      | none => false)

/-! ## Commutation (R258) -/

/-- Forward sequence of the Hall codes (R257). -/
def hallIndex (h : Nat) : Option Nat := [1, 3, 2, 6, 4, 5].findIdx? (· == h)

/-- The phases of a Hall code: high side modulated, low side on; torque in reverse swaps them (Table 10.1). -/
def commutation (h shift : Nat) (forward : Bool) : Option (Nat × Nat) :=
  match hallIndex h with
  | none => none
  | some i =>
    let j := (i + shift) % 6
    let hi := j / 2
    let lo := ([1, 2, 2, 0, 0, 1] : List Nat).getD j 0
    some (if forward then (hi, lo) else (lo, hi))

/-- The drive commutates: the low side of the row is held on, every other channel but the modulated phase is off. -/
def commutate (n : Nat) (d : Device) : Device :=
  let x := d.act n
  if !x.energised then d
  else match commutation x.hall (Cfg.commShift d.cfg n) (decide (0 ≤ x.duty)) with
    | none => d
    | some (hi, lo) =>
      let base := 488 + 6 * n
      let d := d.each [0, 1, 2] fun ph d =>
        let d := if ph = hi then d else issueChan false (base + 2 * ph) d
        if ph = lo || ph = hi then d else issueChan false (base + 2 * ph + 1) d
      issueChan true (base + 2 * lo + 1) d

/-! ## Moves (R263, R264) -/

/-- A reference of a magnitude in the direction of the move. -/
def Actuator.toward (x : Actuator) (i : Rat) : Rat := if x.goal < x.pos then -i else i

/-- The drive holds: at an end stop with HOLD_I towards it, elsewhere under its speed slot with up to HOLD_I (R263, R264). -/
def actHold (atEnd : Bool) (n : Nat) (d : Device) : Device :=
  let h : Rat := Cfg.holdI d.cfg n
  d.onAct n fun x => { x with
    op := .holding, endReached := atEnd, iRef := if atEnd then x.toward h else clampRat (-h) h x.iRef }

/-- An operation has completed; after a failed step of a shift it has only brought the fork to its place. -/
def opDone (n : Nat) (d : Device) : Device :=
  let d := (actHold (d.act n).goalEnd n d).onAct n fun x => { x with
    op := if x.shiftBad then .failed else .holding, atTarget := !x.shiftBad, homing := false, returning := false
    stored := some x.pos }
  if (d.act n).shiftBad then actRelease n d
  else clearFault .actTimeout (.actuator n) (clearFault .actStall (.actuator n) d)

/-- A shift step begins. -/
def shiftStep (n step : Nat) (d : Device) : Device := d.onAct n fun x => { x with shift := step, stepStart := d.now }

/-- A shift is over: SHIFT_FAIL clears with one that completes (Table 10.5). -/
def shiftOver (n : Nat) (d : Device) : Device :=
  match d.forkPort n with
  | some p =>
    let d := (shiftStep n 0 d).onPort p fun x => { x with shiftRef := none, shiftCeil := none }
    if (d.act n).shiftBad then d else clearFault .shiftFail (.port p) d
  | none => shiftStep n 0 d

/-- Step 6 begins, or a plain move ends. -/
def shiftRestore (n : Nat) (d : Device) : Device :=
  let d := opDone n d
  if (d.act n).plain then shiftOver n d else shiftStep n 6 d

/-- Step 4: the speed reference is preset to SPEED_EST, the ceiling is SYNC_TORQUE. -/
def shiftSync (n : Nat) (d : Device) : Device :=
  let d := (actHold (d.act n).goalEnd n (shiftStep n 4 d)).onAct n fun x => { x with returning := false, syncSince := none }
  match d.forkPort n with
  | some p => d.onPort p fun x => { x with
      shiftRef := some (d.eng p).speed
      shiftCeil := some ((Cfg.syncTorque d.cfg n : Rat) / 100 * Cfg.ratedTorque d.cfg p) }
  | none => d

/-- The shift ends with the fork in neutral and the ceiling at 0 (R268). -/
def shiftNeutral (n : Nat) (d : Device) : Device :=
  let d := (actRelease n d).onAct n fun x => { x with shift := 7, op := .failed, returning := false, stored := some x.pos }
  match d.forkPort n with
  | some p => d.onPort p fun x => { x with shiftRef := none, shiftCeil := none }
  | none => d

/-- What follows when the drive has reached its goal, apart from a further move. -/
inductive AfterGoal where
  | done | restore | sync | neutralFail | move (k : Nat)
  deriving DecidableEq, Repr

/-- Table 10.3 and R268. -/
def Actuator.after (x : Actuator) (tries : Nat) : AfterGoal :=
  match x.shift with
  | 3 => if x.returning then .restore else if x.gear = 1 then .done else if x.plain then .move x.gear else .sync
  | 5 => if x.returning then (if x.engRetries ≤ tries then .sync else .neutralFail) else .restore
  | 7 => .neutralFail
  | _ => .done

/-- The drive sets out for TARGET_k. -/
def setGoal (n k : Nat) (d : Device) : Device :=
  let g := Cfg.targetPos d.cfg n k
  let e := d.isEnd n k
  d.onAct n fun x => { x with
    goal := g, goalEnd := e, lastEdge := d.now, atTarget := false, endReached := false
    op := if e && decide ((g - x.pos).natAbs ≤ Cfg.endTol d.cfg n) then .seating else .moving }

/-- A shift whose port has left RUNNING, or must leave it for a reaction or a demand: it is aborted (R269). -/
def Device.shiftLost (d : Device) (n : Nat) : Bool :=
  match d.forkPort n with
  | some p => (d.act n).shiftRuns && ((d.port p).state != .running || decide (2 ≤ d.reaction p.stage) || (d.psafe p).sto)
  | none => false

/-- The shift is marked aborted, its port's reference and ceiling released (R269). -/
def shiftDrop (n : Nat) (d : Device) : Device :=
  let d := d.onAct n fun x => { x with shift := 7 }
  match d.forkPort n with
  | some p => d.onPort p fun y => { y with shiftRef := none, shiftCeil := none }
  | none => d

/-- The goal has been reached; a neutral request ends after step 3 (R267). A reaction that falls on the step boundary wins: a
fork that has reached a gear goes back to neutral, one in neutral stays there (R269). -/
def goalReached (n : Nat) (d : Device) : Device :=
  if d.shiftLost n then
    let toGear := if (d.act n).shift == 5 then !(d.act n).returning else (d.act n).returning
    let d := shiftDrop n d
    if toGear then setGoal n 1 (d.onAct n fun x => { x with returning := true }) else shiftNeutral n d
  else match (d.act n).after (Cfg.engRetries d.cfg n) with
  | .restore => shiftRestore n d
  | .sync => shiftSync n d
  | .neutralFail => shiftNeutral n d
  | .move k => setGoal n k (shiftStep n 5 d)
  | .done =>
    let neutral := (d.act n).shift == 3
    let d := opDone n d
    if neutral then shiftOver n d else d

/-- A move to TARGET_k, timed from here: a free target where the drive already stands is reached at once. -/
def startMove (n k : Nat) (d : Device) : Device :=
  let d := (setGoal n k d).onAct n fun x => { x with opStart := d.now }
  if !(d.act n).goalEnd && (d.act n).pos == (d.act n).goal then goalReached n d else d

/-- Steps counted by a change of Hall code; a change by three positions has no stated direction: a free value. -/
def hallSteps (free : Bool) (a b : Nat) : Int :=
  match (b + 6 - a) % 6 with
  | 0 => 0
  | 1 => 1
  | 5 => -1
  | 2 => 2
  | 4 => -2
  | _ => if free then 3 else -3

/-- HALL_FAULT (R257): the drive is disabled and its position is no longer valid. -/
def hallFault (n : Nat) (d : Device) : Device :=
  let d := raise .hallFault (.actuator n) 3 d
  d.onAct n fun x => { x with homed := false, hallOkFrom := none, stored := none }

/-- A signed 32-bit count, wrapping. -/
def wrap32 (x : Int) : Int := (x + 2147483648) % 4294967296 - 2147483648

/-- A valid Hall edge while the drive moves: a free goal is reached, a back-off ends, seating begins. -/
def hallArrive (n : Nat) (d : Device) : Device :=
  let x := d.act n
  match x.op with
  | .backingOff =>
    if if x.backTo ≤ x.goal then x.pos ≤ x.backTo else x.backTo ≤ x.pos then
      d.onAct n fun x => { x with op := .moving, lastEdge := d.now }
    else d
  | .moving | .seating =>
    if x.homing then d
    else if !x.goalEnd && x.pos == x.goal then goalReached n d
    else d.onAct n fun x => { x with
      op := if x.goalEnd && decide ((x.goal - x.pos).natAbs ≤ Cfg.endTol d.cfg n) then .seating else .moving }
  | _ => d

/-- HALL_EDGE (R257): the code read after the edge. -/
def hallEdge (n h : Nat) (d0 : Device) : Device :=
  let x := d0.act n
  match hallIndex h with
  | none => d0.onAct n fun x => { x with hall := h, hallOkFrom := none, hallBadSince := some (x.hallBadSince.getD d0.now) }
  | some j =>
    let d := d0.draw
    let steps := match hallIndex x.hallLast with
      | some i => hallSteps (Config.freeBool d0.fresh) i j
      | none => 0
    let skip := decide (2 ≤ steps.natAbs)
    let d := d.onAct n fun x => { x with
      hall := h, hallLast := h, pos := wrap32 (x.pos + steps), lastEdge := d.now, hallBadSince := none
      stored := x.stored.map fun _ => wrap32 (x.pos + steps), hallOkFrom := some (x.hallOkFrom.getD d.now)
      hallSkip := if skip then addWrap 16 x.hallSkip 1 else x.hallSkip
      skipsOp := if skip && x.busy then x.skipsOp + 1 else x.skipsOp }
    if 4 ≤ (d.act n).skipsOp ∧ (d.act n).busy then hallFault n d
    else commutate n (hallArrive n d)

def execHallEdge (n : Fin 4) (h : Fin 8) (s : State) : Host.Outcome State Fault Refusal :=
  .next (if s.dev.ctl.state = .off then s else s.onDev (hallEdge n h))

/-- HALL_FAULT (R257): the code 0 or 7 has been held for 1 ms, or four skips have come in one operation. -/
def execHallFault (n : Fin 4) (s : State) : Host.Outcome State Fault Refusal :=
  .next (if s.dev.ctl.state ≠ .off
      ∧ (lasted s.dev.now (s.dev.act n).hallBadSince (ms 1) ∨ 4 ≤ (s.dev.act n).skipsOp ∨ s.dev.forced 0x0A01 n) then
    s.onDev (hallFault n) else s)

/-! ## Over-current (R260) -/

/-- ACT_OC on a drive: the third within 10 s latches. -/
def actOc (n : Nat) (d : Device) : Device :=
  let l := ((d.act n).ocTimes.filter fun t => decide (d.now < t + sec 10)) ++ [d.now]
  let d := raise .actOc (.actuator n) 3 (d.onAct n fun x => { x with ocTimes := l })
  if 3 ≤ l.length then raise .actOcRepeat (.actuator n) 3 d else d

/-- 100 ms have passed since the last over-current. -/
def Device.ocOver (d : Device) (n : Nat) : Bool :=
  match (d.act n).ocTimes.getLast? with
  | some t => decide (t + ms 100 ≤ d.now)
  | none => true

/-- ACT_OC_RECOVER (R260). -/
def execActOcRecover (n : Fin 4) (s : State) : Host.Outcome State Fault Refusal :=
  let d := s.dev
  .next (if d.activeAt .actOc (.actuator n) ∧ (d.act n).op = .failed ∧ d.ocOver n then
    s.onDev (Device.onAct n fun x => { x with op := .idle }) else s)

/-! ## Commands (R266, R265, R270, R271) -/

/-- A fault other than an elapsed over-current, a HALL_FAULT whose codes are valid again, or an OVERRUN, which the command that
arms the drive clears (R205), stops the drive. -/
def Device.driveBlocked (d : Device) (n : Nat) : Bool :=
  d.actDisabled n || !d.ctl.state.chainRuns || d.supply.chain == 0 || !d.enablePin .enConv || !d.ocOver n ||
    d.faults.active.any fun e => e.name != .actOc && e.name != .hallFault && e.name != .overrun &&
      e.acts.any fun a => decide (3 ≤ a.2) && (a.1 == .actuator n || a.1.touches .act)

/-- The fork of a port may be commanded by this module (R270). -/
def Device.forkMine (d : Device) : Bool := d.leads

/-- A request of TARGET_k is allowed by the drive's role (R266, R267). -/
def Device.roleAllows (d : Device) (n k : Nat) : Bool :=
  match Cfg.actRole d.cfg n with
  | 0 => true
  | 3 => k == 0 || (k == 1 && ports.all fun p => decide (ratAbs (d.portSpeed p) < Cfg.parkSpeed d.cfg n))
  | 4 => k ≤ 1
  | _ => match d.forkPort n with
    | some p => k ≤ 2 && d.forkMine && (d.outSpeed n).isSome && ((d.port p).state == .running || d.stillOk n p)
    | none => false

/-- A release of the park lock or of the differential lock. -/
def Device.isRelease (d : Device) (n k : Nat) : Bool := k == 0 && (Cfg.actRole d.cfg n == 3 || Cfg.actRole d.cfg n == 4)

/-- ACT_CMD 0x10 + k, 0x20, 0x30; taken at tick 0 of the next beat. -/
def cmdAct (n code : Nat) (d : Device) : W32 × Device :=
  let take := (Abort.ok, (if code = 0x30 then d else clearFault .overrun (.stage .act) d).onAct n fun x => { x with cmd := some code })
  let target := 16 ≤ code && code ≤ 19
  if !(target || code == 0x20 || code == 0x30) then (Abort.range, d)
  else if d.driveBlocked n then (Abort.state, d)
  else if code = 0x30 then take
  else if (d.act n).busy then
    (Abort.state, if target then d.onAct n fun x => { x with cmdBusy := addWrap 8 x.cmdBusy 1 } else d)
  else if 1 ≤ (d.act n).therm ∧ !(target && d.isRelease n (code - 16)) then (Abort.state, d)
  else if code = 0x20 then
    match d.forkPort n with
    | some p => if d.stillOk n p then take else (Abort.state, d)
    | none => take
  else if !(d.act n).homed then (Abort.state, d)
  else if d.roleAllows n (code - 16) then take
  else (Abort.state, d)

/-- The key of ACT_CMD of a drive. -/
def actCmdKey (n : Nat) : Nat := 0x2A0002 + 256 * n

def execActCmdTarget (path : Path) (n : Fin 4) (k : Fin 4) (s : State) : Host.Outcome State Fault Refusal :=
  .next (hostWrite path .b false (devCmd (rwCmd (actCmdKey n) (16 + k) (cmdAct n (16 + k)))) s)

def execActCmdHome (path : Path) (n : Fin 4) (s : State) : Host.Outcome State Fault Refusal :=
  .next (hostWrite path .b false (devCmd (rwCmd (actCmdKey n) 0x20 (cmdAct n 0x20))) s)

def execActCmdStop (path : Path) (n : Fin 4) (s : State) : Host.Outcome State Fault Refusal :=
  .next (hostWrite path .b false (devCmd (rwCmd (actCmdKey n) 0x30 (cmdAct n 0x30))) s)

/-- The port speeds differ by less than DIFF_SYNC_TOL (R266). -/
def Device.diffSynced (d : Device) (n : Nat) : Bool :=
  decide (ratAbs (d.portSpeed .a - d.portSpeed .b) < Cfg.diffSyncTol d.cfg n)

/-- The operation proceeds after its pause. -/
def actProceed (n : Nat) (d : Device) : Device :=
  let x := d.act n
  if x.homing then
    d.onAct n fun x => { x with op := .moving, lastEdge := d.now, opStart := d.now }
  else match d.forkPort n with
    | some p =>
      if (d.port p).state = .running then
        let d := (shiftStep n 2 d).onAct n fun x => { x with op := .holding, plain := false }
        d.onPort p fun y => { y with shiftCeil := some y.ceiling }
      else startMove n 1 ((shiftStep n 3 d).onAct n fun x => { x with plain := true })
    | none =>
      if Cfg.actRole d.cfg n = 4 ∧ x.target ≠ 0 ∧ !d.diffSynced n then
        d.onAct n fun x => { x with diffWait := true, op := .idle, stepStart := d.now }
      else startMove n x.target d

/-- The thermal pause before an operation, ns (R271). -/
def Device.pauseTime (d : Device) (n : Nat) : Nat :=
  let t := 100 * (d.act n).therm
  let p : Rat := Cfg.thPause d.cfg n
  if t < p then 0 else (1000000 * (Cfg.pauseMax d.cfg n : Rat) * (t - p) / (100 - p)).floor.toNat

/-- The gear target a fork stands at; neutral where it stands at none. -/
def Device.gearNow (d : Device) (n : Nat) : Nat := if d.atTargetK n 0 then 0 else if d.atTargetK n 2 then 2 else 1

/-- A command is taken at tick 0 (R266). -/
def actTake (n code : Nat) (d : Device) : Device :=
  let d := d.onAct n fun x => { x with cmd := none }
  if code = 0x30 then
    let d := (actHold false n d).onAct n fun x => { x with
      diffWait := false, homing := false, returning := false, shift := if 1 ≤ x.shift ∧ x.shift ≤ 6 then 7 else x.shift }
    match d.forkPort n with
    | some p => d.onPort p fun y => { y with shiftRef := none, shiftCeil := none }
    | none => d
  else
    let pause := d.pauseTime n
    let fork := (d.forkPort n).isSome
    let home := code == 0x20
    let d := actRelease n (clearFault .actOc (.actuator n) d)
    let from_ := d.gearNow n
    let d := d.onAct n fun x => { x with
      target := if home then x.target else code - 16, gear := if home then x.gear else code - 16, fromGear := from_
      homing := home, retries := 0, engRetries := 0, skipsOp := 0, stall := false, atTarget := false, endReached := false
      returning := false, stepStart := d.now, stored := none, plain := false, shiftBad := false
      shift := if fork && !home then 1 else 0, op := .pause, pauseUntil := d.now + pause }
    if pause = 0 then actProceed n d else d

/-- ACT_PAUSE_END (R271). -/
def execActPauseEnd (n : Fin 4) (s : State) : Host.Outcome State Fault Refusal :=
  .next (if (s.dev.act n).op = .pause ∧ (s.dev.act n).pauseUntil ≤ s.dev.now then s.onDev (actProceed n) else s)

/-! ## End stops, stalls, timeouts (R263, R264) -/

/-- Homing has found its end stop (R265); HALL_FAULT clears with it (Table 10.5). -/
def homed (n : Nat) (d : Device) : Device :=
  let d := d.onAct n fun x => { x with pos := Cfg.homePos d.cfg n, homed := true, goalEnd := true }
  clearFault .hallFault (.actuator n) (opDone n d)

/-- A stall: back off and try again, or fail (R264). -/
def actStalled (n : Nat) (d : Device) : Device :=
  let x := d.act n
  if x.retries < Cfg.actRetries d.cfg n then
    let back : Int := Cfg.backoff d.cfg n
    d.onAct n fun x => { x with
      op := if back = 0 then .moving else .backingOff, retries := x.retries + 1, iRef := 0, lastEdge := d.now
      backTo := if x.pos ≤ x.goal then x.pos - back else x.pos + back }
  else
    raise .actStall (.actuator n) 0 ((actRelease n d).onAct n fun x => { x with op := .failed, stall := true, homing := false })

/-- The current reference exceeds STALL_I in magnitude (R264). -/
def Device.actPushes (d : Device) (n : Nat) : Bool := decide ((Cfg.stallI d.cfg n : Rat) < ratAbs (d.act n).iRef)

/-- The drive has stopped against something: no Hall edge for STALL_TIME, with the current reference above STALL_I during that
whole time, as the torque is in R124 (R264). -/
def Device.actStopped (d : Device) (n : Nat) : Bool :=
  let t := ms (Cfg.stallTime d.cfg n)
  d.actPushes n && d.held (.actStall n) t && (decide ((d.act n).lastEdge + t ≤ d.now) || d.forced 0x0A02 n)

/-- ACT_STALL_DETECT (R264): what a drive that has stopped does. -/
def actStallDetect (n : Nat) (d : Device) : Device :=
  let x := d.act n
  if x.homing then homed n d
  else if x.goalEnd && decide ((x.goal - x.pos).natAbs ≤ Cfg.endTol d.cfg n) then goalReached n d
  else actStalled n d

def execActStallDetect (n : Fin 4) (s : State) : Host.Outcome State Fault Refusal :=
  let x := s.dev.act n
  .next (if (x.op = .moving ∨ x.op = .seating ∨ x.op = .backingOff) ∧ s.dev.actStopped n then s.onDev (actStallDetect n) else s)

/-- ACT_TIMEOUT (R263): an end stop that lost to the timeout is counted. -/
def actTimeout (n : Nat) (endStop : Bool) (d : Device) : Device :=
  raise .actTimeout (.actuator n) 0 ((actRelease n d).onAct n fun x => { x with
    op := .failed, homing := false, actLate := if endStop then addWrap 8 x.actLate 1 else x.actLate })

def execActTimeout (n : Fin 4) (endStop : Bool) (s : State) : Host.Outcome State Fault Refusal :=
  let x := s.dev.act n
  .next (if (x.op = .moving ∨ x.op = .seating ∨ x.op = .backingOff)
      ∧ (x.opStart + ms (Cfg.opTMax s.dev.cfg n) ≤ s.dev.now ∨ s.dev.forced 0x0A02 n) then
    s.onDev (actTimeout n endStop) else s)

/-- DIFF_WAIT_TIMEOUT (R266): the operation fails. -/
def execDiffWaitTimeout (n : Fin 4) (late : Bool) (s : State) : Host.Outcome State Fault Refusal :=
  .next (if (s.dev.act n).diffWait ∧ (s.dev.act n).stepStart + ms (Cfg.diffWaitT s.dev.cfg n) ≤ s.dev.now then
    s.onDev fun d => lateMisc late (d.onAct n fun x => { x with diffWait := false, op := .failed }) else s)

/-! ## Shift steps (R267-R269) -/

/-- SHIFT_SYNC_REACHED (R267): step 5 begins. -/
def execShiftSyncReached (n : Fin 4) (s : State) : Host.Outcome State Fault Refusal :=
  let x := s.dev.act n
  .next (if x.shift = 4 ∧ lasted s.dev.now x.syncSince (ms 20) ∧ !s.dev.shiftLost n then
    s.onDev fun d => startMove n x.gear (shiftStep n 5 d) else s)

/-- SHIFT_FAIL of a fork's port. -/
def shiftFail (n r : Nat) (d : Device) : Device :=
  match d.forkPort n with
  | some p => raise .shiftFail (.port p) r d
  | none => d

/-- SHIFT_STEP_TIMEOUT (R268). -/
def shiftTimeout (n : Nat) (d : Device) : Device :=
  let x := d.act n
  match x.shift with
  | 2 => shiftStep n 6 ((shiftFail n 0 d).onAct n fun x => { x with shiftBad := true, op := .failed })
  | 3 => startMove n x.fromGear ((shiftFail n 0 d).onAct n fun x => { x with
      returning := true, shiftBad := true, stepStart := d.now })
  | 4 => shiftNeutral n (shiftFail n 1 d)
  | 5 =>
    let d := if x.engRetries < Cfg.engRetries d.cfg n then d else shiftFail n 1 d
    startMove n 1 (d.onAct n fun x => { x with returning := true, engRetries := x.engRetries + 1, stepStart := d.now })
  | _ => d

def execShiftStepTimeout (n : Fin 4) (late : Bool) (s : State) : Host.Outcome State Fault Refusal :=
  let x := s.dev.act n
  .next (if 2 ≤ x.shift ∧ x.shift ≤ 5 ∧ (x.stepStart + ms (Cfg.stepTMax s.dev.cfg n x.shift) ≤ s.dev.now ∨ s.dev.forced 0x0A02 n)
      ∧ !s.dev.shiftLost n then
    s.onDev fun d => lateMisc late (shiftTimeout n d) else s)

/-! ## Thermal estimate (R271) -/

/-- Mean square of the current samples since the last update, A^2. -/
def Actuator.meanSq (x : Actuator) : Rat := if x.iN = 0 then 0 else x.iSq / x.iN

/-- ACT_THERMAL_UPDATE, with the rms current of the samples since the last one. -/
def actThermal (n : Nat) (d : Device) : Device :=
  let c : Rat := Cfg.actICont d.cfg n
  let x := d.act n
  let e := x.therm + (x.meanSq / (c * c) - x.therm) / 100 / (Cfg.thTau d.cfg n : Rat)
  let hot := decide (1 ≤ e) || d.forced 0x0A02 n
  let d := d.onAct n fun x => { x with therm := e, hot := hot, iSq := 0, iN := 0, thermAt := some d.now }
  if hot then raise .actHot (.actuator n) 0 d
  else if e < 9 / 10 then clearFault .actHot (.actuator n) d
  else d

/-- Every 10 ms. -/
def execActThermalUpdate (n : Fin 4) (s : State) : Host.Outcome State Fault Refusal :=
  .next (if s.dev.ctl.state ≠ .off ∧ due s.dev.now (s.dev.act n).thermAt (ms 10) then s.onDev (actThermal n) else s)

/-! ## What happens every beat -/

/-- The port of a running shift has left RUNNING: the shift is aborted; a fork on its way to a gear returns to neutral
(R269). -/
def shiftAbort (n : Nat) (d : Device) : Device :=
  let x := d.act n
  let d := shiftDrop n d
  match x.shift with
  | 5 => if x.returning then d else startMove n 1 (d.onAct n fun x => { x with returning := true })
  | 3 => if x.returning then startMove n 1 d else d
  | _ => d.onAct n fun x => { x with op := if x.op = .pause then .failed else x.op }

/-- A shift over one beat: dip, sync reference, sync dwell (Table 10.3). -/
def shiftBeat (n : Nat) (p : PortId) (d : Device) : Device :=
  let x := d.act n
  let rated := Cfg.ratedTorque d.cfg p
  if !x.shiftRuns then d
  else if d.shiftLost n then shiftAbort n d
  else match x.shift with
    | 2 =>
      let d := d.onPort p fun y => { y with
        shiftCeil := some (max 0 (y.shiftCeil.getD 0 - (Cfg.dipSlew d.cfg n : Rat) / 100 * rated / 1000)) }
      if ratAbs (d.eng p).torque < 5 / 100 * rated then
        startMove n 1 ((shiftStep n 3 d).onPort p fun y => { y with shiftCeil := some 0 })
      else d
    | 4 | 5 =>
      let t := d.syncTarget n
      let d := d.onPort p fun y => { y with
        shiftRef := some (slew (y.shiftRef.getD t) t ((Cfg.syncRamp d.cfg n : Rat) / 1000000)) }
      let near := decide (ratAbs ((d.eng p).speed - t) < (Cfg.syncTol d.cfg n : Rat))
      d.onAct n fun x => { x with syncSince := if near then some (x.syncSince.getD d.now) else none }
    | _ => d

/-- A drive over one beat: it takes its command, a lock that waits looks at the speeds. -/
def actBeat (n : Nat) (d : Device) : Device :=
  let d := match (d.act n).cmd with
    | some c => actTake n c d
    | none => d
  let x := d.act n
  let d := if x.diffWait && d.diffSynced n then startMove n x.target (d.onAct n fun x => { x with diffWait := false }) else d
  match d.forkPort n with
  | some p => shiftBeat n p d
  | none => d

/-- The park lock is not at TARGET_0 (R266). -/
def Device.parkHolds (d : Device) : Bool := [0, 1, 2, 3].any fun n => Cfg.actRole d.cfg n == 3 && !d.atTargetK n 0

/-- A port's fork stands at no gear target and no sync step runs: the port's ceiling is 0 (R267). -/
def Device.forkHolds (d : Device) (p : PortId) : Bool :=
  match d.forkOf p with
  | some n =>
    let x := d.act n
    !(d.atTargetK n 0 || d.atTargetK n 2) && !(x.shiftRuns && (x.shift == 4 || x.shift == 5))
  | none => false

/-- The reference of a drive's speed slot, edges/s (R263, R265): towards the target at ACT_SPEED, at SLOW_SPEED within SLOW_ZONE of
it, in the direction of HOME_DIR while homing, away from the target while backing off; 0 where the drive holds. The speeds of
homing and of backing off are not named apart: those of a move (log entry 80). -/
def Device.actSpeedRef (d : Device) (n : Nat) : Rat :=
  let x := d.act n
  let fast : Rat := Cfg.actSpeed d.cfg n
  let slow : Rat := Cfg.slowSpeed d.cfg n
  let near := decide ((x.goal - x.pos).natAbs ≤ Cfg.slowZone d.cfg n)
  match x.op with
  | .moving | .seating =>
    if x.homing then (if Cfg.homeUp d.cfg n then fast else -fast)
    else if x.goal = x.pos then 0
    else x.toward (if near then slow else fast)
  | .backingOff => -(x.toward (if near then slow else fast))
  | _ => 0

/-- The torque ceiling of a port that a shift sets, Nm, and 0 for a fork at no gear target (R267). -/
def Device.forkCeil (d : Device) (p : PortId) : Option Rat := if d.forkHolds p then some 0 else (d.port p).shiftCeil

/-- A shift runs on a port. -/
def Device.shiftOn (d : Device) (p : PortId) : Option Nat :=
  match d.forkOf p with
  | some n => if (d.act n).shiftRuns then some (d.act n).shift else none
  | none => none

/-- The port is under speed regulation: in speed mode, by R118 or R110, and in the sync steps of a shift (R267). -/
def Device.speedLoop (d : Device) (p : PortId) : Bool :=
  Cfg.controlMode d.cfg p == 0 || (d.port p).speedReg || d.shiftOn p == some 4 || d.shiftOn p == some 5

end Sys2Proof.Machine
end

