-- ==== Sys2Proof/Machine/Supervisor.lean ====
section
/-!
DEFINITION. Module control (chapter 1): supply of the logic and the core, the late-beat monitor, the commands of
MODULE_CMD, the fault manager's escalation, the exit from ASC, and the roles of a pair.
-/

namespace Sys2Proof.Machine

/-- LOGIC_IN_RISE (R21, R433): OFF to BOOT. -/
def execLogicInRise (s : State) : Host.Outcome State Fault Refusal :=
  .next (if s.dev.ctl.state = .off then s.onDev startBoot else s)

/-- LOGIC_IN_LOSS (R21): any state to OFF. A record being burned is left without its read-back. -/
def execLogicInLoss (s : State) : Host.Outcome State Fault Refusal :=
  .next { s with otp := burnLost s, dev := powerOff s.dev }

/-- CORE_SUPPLY (R8). -/
def execCoreSupply (s : State) : Host.Outcome State Fault Refusal :=
  .next (if s.dev.ctl.state = .off then s else
    s.onDev fun d => raise .coreSupply .module 4 { d with ctl := { d.ctl with coreSupplyOk := false } })

/-- CORE_SUPPLY_OK (R8, R26): the core supply lies within its range again. -/
def execCoreSupplyOk (s : State) : Host.Outcome State Fault Refusal :=
  .next (if s.dev.ctl.state = .off then s else
    s.onDev fun d => safeExitClear .coreSupply .module { d with ctl := { d.ctl with coreSupplyOk := true } })

/-- An output tick has won against a traction decision (R17). -/
def overrunPort (p : PortId) (d : Device) : Device :=
  let d := (d.onEng p fun e => { e with holding := none, late := true })
  raise .overrun (.stage p.stage) 3 { d with ctl := { d.ctl with overrun := true } }


/-- Stage group of a number (R74). -/
def stageOfNum : Nat → StageGroup
  | 0 => .portA
  | 1 => .portB
  | 2 => .conv
  | 3 => .grid
  | 4 => .llcPri
  | 5 => .llcSec
  | 6 => .aux
  | _ => .act

/-- The stage a firmware slot belongs to (Table 7.3); an expert slot counts for all other stages. -/
def slotStage (k : Nat) : StageGroup :=
  if k = 0 then .portA else if k = 1 then .portB else if k ≤ 6 then .conv else if k ≤ 10 then .grid
  else if k = 11 then .llcPri else if k ≤ 15 then .aux else .act

/-- A late result completes: it is discarded and counted (R17, R198); the estimator quantities of a traction decision are
kept (R102). -/
def lateDiscard (c : Computation) (d : Device) : Device :=
  match c with
  | .traction p =>
    if (d.eng p).late then
      let d := if (d.eng p).fastValid then estimated p d else d
      countLate p.stage (d.onEng p fun e => { e with late := false })
    else d
  | .slot k =>
    if (d.slot k).lateAwait then
      countLate (slotStage k) (d.onSlot k fun x => { x with lateAwait := false, lateCount := addWrap 16 x.lateCount 1 })
    else d
  | .reed i => if d.gates.reedLate.contains i.val then countLate (stageOfIsland i) (reedDiscarded i d) else d

/-- LATE_RESULT_DISCARD (R17). -/
def execLateResultDiscard (c : Computation) (s : State) : Host.Outcome State Fault Refusal :=
  .next (if s.dev.ctl.state = .off then s else s.onDev (lateDiscard c))

/-! ## MODULE_CMD -/

/-- Command READY (Table 1.6); busy while a self-calibration runs (R175). -/
def cmdReady (d : Device) : W32 × Device :=
  if d.meas.calState = 1 then (Abort.busy, d)
  else if d.ctl.state = .standby ∧ d.readyOk then (Abort.ok, setState .ready d)
  else (Abort.state, d)

/-- Command RUN (Table 1.6). -/
def cmdRun (d : Device) : W32 × Device :=
  if d.ctl.state = .ready ∧ d.runOk then (Abort.ok, enterRun d) else (Abort.state, d)

/-- Command STOP (Table 1.6). -/
def cmdStop (d : Device) : W32 × Device :=
  if d.ctl.state = .run then (Abort.ok, setState .stopping d) else (Abort.state, d)

/-- Command STANDBY: from READY, or out of SAFE once no F4 cause is active (Table 1.6, R26). -/
def cmdStandby (d : Device) : W32 × Device :=
  if d.ctl.state = .ready ∨ (d.ctl.state = .safe ∧ d.faults.highest < 4) then (Abort.ok, enterStandby d)
  else (Abort.state, d)

/-- Command SERVICE: SERVICE_N low and an expert session open (Table 1.6). -/
def cmdService (q : Path) (d : Device) : W32 × Device :=
  if d.ctl.state = .standby ∧ d.ctl.serviceNLow ∧ (d.path q).session.isSome then (Abort.ok, setState .service d)
  else (Abort.state, d)

/-- Command LEAVE_SERVICE. -/
def cmdLeaveService (d : Device) : W32 × Device :=
  if d.ctl.state = .service then (Abort.ok, enterStandby d) else (Abort.state, d)

/-- The 10 us frame boundary at or after a time (R30). -/
def frameBoundary (t : Nanos) : Nanos := (t + 9999) / 10000 * 10000

/-- An actuator shift runs (R270). -/
def Device.shifting (d : Device) : Bool := d.acts.any fun x => 1 ≤ x.shift && x.shift ≤ 6

/-- Lead hand-over (R35, R270): the request names a time T at least 100 us ahead; a new request ends HANDOVER_ABORT
(Table 1.11). -/
def cmdHandover (d : Device) : W32 × Device :=
  if d.paired ∧ d.ctl.lead ∧ d.ctl.partnerPresent ∧ !d.shifting ∧ d.ctl.handoverT.isNone then
    let t := frameBoundary (d.now + 100000)
    let d := clearFault .handoverAbort .module d
    (Abort.ok, { d with
      ctl := { d.ctl with handoverT := some t, handoverAcked := false }
      net := { d.net with guy := { d.net.guy with hoReq := true, eventT := t } } })
  else (Abort.state, d)

/-- RESET (Table 1.6): FAULT to BOOT. -/
def cmdReset (d : Device) : W32 × Device :=
  if d.ctl.state = .fault then (Abort.ok, startBoot d) else (Abort.state, d)

/-- Clear OVERRUN (Table 1.9, Table 1.10). -/
def cmdClearOverrun (d : Device) : W32 × Device := (Abort.ok, { d with ctl := { d.ctl with overrun := false } })

/-- The access level of each code of MODULE_CMD (Table 1.9). -/
def moduleCmdLevel (code : Nat) : ObjLevel :=
  if code = 7 ∨ code = 9 then .e else if code = 5 ∨ code = 6 ∨ code = 8 then .v else .b

/-- MODULE_CMD (Table 1.9); a code of no command lies out of range. -/
def moduleCmd (q : Path) (code : Nat) (d : Device) : W32 × Device :=
  match code with
  | 1 => cmdReady d
  | 2 => cmdRun d
  | 3 => cmdStop d
  | 4 => cmdStandby d
  | 5 => cmdService q d
  | 6 => cmdLeaveService d
  | 7 => cmdHandover d
  | 8 => cmdReset d
  | 9 => cmdClearOverrun d
  | _ => (Abort.range, d)

/-- A write of MODULE_CMD over a path (R20, R21, R40). -/
def writeModuleCmd (q : Path) (code : Nat) (s : State) : State :=
  hostWrite q (moduleCmdLevel code) (code == 8) (devCmd (moduleCmd q code)) s

def execModuleCmdReady (q : Path) (s : State) : Host.Outcome State Fault Refusal := .next (writeModuleCmd q 1 s)
def execModuleCmdRun (q : Path) (s : State) : Host.Outcome State Fault Refusal := .next (writeModuleCmd q 2 s)
def execModuleCmdStop (q : Path) (s : State) : Host.Outcome State Fault Refusal := .next (writeModuleCmd q 3 s)
def execModuleCmdStandby (q : Path) (s : State) : Host.Outcome State Fault Refusal := .next (writeModuleCmd q 4 s)
def execModuleCmdService (q : Path) (s : State) : Host.Outcome State Fault Refusal := .next (writeModuleCmd q 5 s)
def execModuleCmdLeaveService (q : Path) (s : State) : Host.Outcome State Fault Refusal := .next (writeModuleCmd q 6 s)
def execModuleCmdHandover (q : Path) (s : State) : Host.Outcome State Fault Refusal := .next (writeModuleCmd q 7 s)
def execModuleCmdReset (q : Path) (s : State) : Host.Outcome State Fault Refusal := .next (writeModuleCmd q 8 s)
def execModuleCmdClearOverrun (q : Path) (s : State) : Host.Outcome State Fault Refusal := .next (writeModuleCmd q 9 s)

/-- LINK_LOW_IN_READY (R21): the DC link has been below 900 V for 100 ms in READY. -/
def execLinkLowInReady (s : State) : Host.Outcome State Fault Refusal :=
  .next (if s.dev.ctl.state = .ready ∧ s.dev.vLink < 900 ∧ s.dev.held .readyLow (ms 100) then s.onDev enterStandby else s)

/-- Service sessions fall to expert once SERVICE_N is high (R22, R392). -/
def dropServiceLevel (d : Device) : Device :=
  { d with od := { d.od with paths := d.od.paths.map fun e =>
      (e.1, { e.2 with session := e.2.session.map fun x => if x.level = 2 then { x with level := 1 } else x }) } }

/-- SERVICE_N_HIGH (R22): injections are withdrawn and the module leaves SERVICE; proof-test mode ends (R340). -/
def serviceHigh (d : Device) : Device :=
  let d := proofEnd (dropServiceLevel { d with ctl := { d.ctl with serviceNLow := false } })
  let d := { d with inj := { d.inj with active := [] } }
  if d.ctl.state = .service then enterStandby d else d

def execServiceNHigh (s : State) : Host.Outcome State Fault Refusal :=
  .next (if s.dev.ctl.state = .off then s else s.onDev serviceHigh)

/-! ## Fault manager -/

/-- FAULT_REPORT (R24): a detector reports a fault with its scope and reaction. -/
def execFaultReport (f : FaultName) (sc : Scope) (r : Fin 5) (s : State) : Host.Outcome State Fault Refusal :=
  .next (if s.dev.ctl.state = .off then s else s.onDev (raise f sc r))

/-- The F2 reactions on a port are raised to F3 (R25). -/
def escalateF2 (p : PortId) (d : Device) : Device :=
  d.each (d.faults.active.filter fun e =>
      e.acts.any (fun a => a.1.touches p.stage && a.2 == 2) && !e.acts.contains (.port p, 3)) fun e =>
    raiseActs e.name e.scope (max 3 e.reaction) (e.acts ++ [(.port p, 3)])

/-- SS1_TIME has passed since the F2 reaction began on a port (R25). -/
def Device.f2TimeOver (d : Device) (p : PortId) : Bool :=
  (d.port p).stop == .f2 && lasted d.now (d.port p).stopStart (ms (Cfg.ss1Time d.scfg p.num)) && (d.port p).slowSince.isNone

/-- F2_ESCALATION (R25): the SS1 time has passed and the port has not reached standstill. -/
def execF2Escalation (p : PortId) (s : State) : Host.Outcome State Fault Refusal :=
  .next (if (s.dev.port p).state = .stopping ∧ s.dev.f2TimeOver p then s.onDev (escalateF2 p) else s)

/-- The exit conditions of R28 have held for 10 ms and hold now. -/
def Device.ascExitDue (d : Device) (p : PortId) : Bool :=
  d.ascExitOk p && lasted d.now (d.port p).ascOkSince (ms 10)

/-- ASC_EXIT (R28): the exit conditions have held for 10 ms; the port goes from ASC to STO. -/
def ascExit (p : PortId) (d : Device) : Device :=
  let d := portOff p d
  d.onPort p fun x => if x.state = .asc then { x with state := .sto } else { x with faultAsc := false }

def execAscExit (p : PortId) (s : State) : Host.Outcome State Fault Refusal :=
  let x := s.dev.port p
  .next (if (x.state = .asc ∨ (x.state = .fault ∧ x.faultAsc)) ∧ s.dev.ascExitDue p then s.onDev (ascExit p) else s)

/-! ## The pair -/

/-- No valid guy frame has come for a time. -/
def Device.guySilent (d : Device) (n : Nat) : Bool := d.ctl.lastGuy.isNone || lasted d.now d.ctl.lastGuy n

/-- PARTNER_FLUX_EXTRAP_END (R32): 20 us of extrapolation have passed; each port runs on its own flux. -/
def execPartnerFluxExtrapEnd (s : State) : Host.Outcome State Fault Refusal :=
  .next (if s.dev.paired ∧ s.dev.ctl.partnerPresent ∧ s.dev.guySilent 20000 then
    s.onDev fun d => { d with ctl := { d.ctl with extrapEnded := true } } else s)

/-- The partner is counted absent in RUN: partner-absent mode (R36). -/
def loseRunning (d : Device) : Device :=
  let d := { d with ctl := { d.ctl with
    lead := true, partnerAbsent := true, shareRampStart := none
    partnerLossCount := addWrap 16 d.ctl.partnerLossCount 1 } }
  raise .partnerLost .module 1 d

/-- The partner is counted absent (R32, R35, R36): the loss wins over a hand-over. -/
def losePartner (d : Device) : Device :=
  let d := { d with
    ctl := { d.ctl with
      partnerPresent := false, handoverT := none, handoverGiven := none, handoverAcked := false
      handoverPending := false, joinT := none }
    net := { d.net with guy := { d.net.guy with hoReq := false, hoAck := false, join := false } } }
  if d.ctl.state = .run then loseRunning d else d

/-- PAIR_OK_IN has been low for 2 us, or no valid guy frame has come for 30 us (R32). -/
def Device.partnerGone (d : Device) : Bool := (!d.ctl.pairOkIn && d.held .pairOkLow 2000) || d.guySilent 30000

/-- PARTNER_ABSENT (R32). -/
def execPartnerAbsent (late : Bool) (s : State) : Host.Outcome State Fault Refusal :=
  .next (if s.dev.paired ∧ s.dev.ctl.partnerPresent ∧ s.dev.partnerGone then s.onDev fun d => lateMisc late (losePartner d) else s)

/-- GUY_FRAME_TIMEOUT_FOLLOWER (R37): both ports take F3, carried on by portBeat while the module falls back to READY. -/
def followerFallback (d : Device) : Device :=
  let d := { d with ctl := { d.ctl with
    partnerPresent := false, handoverGiven := none, handoverPending := false
    fallbackReady := true, partnerLossCount := addWrap 16 d.ctl.partnerLossCount 1 } }
  d.each ports portStop

def execGuyFrameTimeoutFollower (late : Bool) (s : State) : Host.Outcome State Fault Refusal :=
  let c := s.dev.ctl
  .next (if s.dev.paired ∧ c.state = .run ∧ !c.lead ∧ c.pairOkIn ∧ c.partnerPresent ∧ s.dev.guySilent 30000 then
    s.onDev fun d => lateMisc late (followerFallback d) else s)

/-- The new lead takes the speed slot of a port over from its held output and the old lead's reference (R131). -/
def takeSpeed (p : PortId) (d : Device) : Device :=
  let ref := match p with
    | .a => d.ctl.partner.speedRef0
    | .b => d.ctl.partner.speedRef1
  let d := d.onPort p fun x => { x with speedRef := ref }
  if (d.port p).state = .running ∨ (d.port p).state = .stopping then
    d.onSlot p.num fun x => { x with mode := .closePending }
  else d

/-- The old lead opens the speed slot of a port with its output held (R131). -/
def giveSpeed (p : PortId) (d : Device) : Device := d.onSlot p.num fun x => { x with mode := .opened }

/-- A time that has been named has come. -/
def reached (now : Nanos) (t : Option Nanos) : Bool := lasted now t 0

/-- HANDOVER_TIME (R35, R131): at T the modules exchange roles. -/
def handover (d : Device) : Device :=
  let d := if d.ctl.lead then d.each ports giveSpeed else d.each ports takeSpeed
  { d with
    ctl := { d.ctl with
      lead := !d.ctl.lead, handoverT := none, handoverGiven := none, handoverAcked := false, handoverPending := false }
    net := { d.net with guy := { d.net.guy with hoReq := false, hoAck := false } } }

def execHandoverTime (s : State) : Host.Outcome State Fault Refusal :=
  let c := s.dev.ctl
  .next (if c.partnerPresent ∧ ((c.lead ∧ reached s.dev.now c.handoverT ∧ c.handoverAcked)
      ∨ (!c.lead ∧ reached s.dev.now c.handoverGiven)) then s.onDev handover else s)

/-- HANDOVER_ABORT (R35, step 4): no acknowledgement by T - 20 us. The lead raises the fault; a follower clears its
pending hand-over. -/
def handoverAbort (d : Device) : Device :=
  let lead := d.ctl.lead && d.ctl.handoverT.isSome
  let d := { d with
    ctl := { d.ctl with
      handoverT := none, handoverGiven := none, handoverAcked := false, handoverPending := false }
    net := { d.net with guy := { d.net.guy with hoReq := false, hoAck := false } } }
  if lead then raise .handoverAbort .module 0 d else d

def execHandoverAbort (late : Bool) (s : State) : Host.Outcome State Fault Refusal :=
  let c := s.dev.ctl
  let due := reached (s.dev.now + 20000)
  .next (if (due c.handoverT ∧ !c.handoverAcked) ∨ due c.handoverGiven then s.onDev fun d => lateMisc late (handoverAbort d) else s)

/-- The returning module enters RUN as follower at the join time (R38, step 3). -/
def joinRun (d : Device) : Device :=
  let d := enterRun d
  { d with ctl := { d.ctl with lead := false, partnerAbsent := false, joinT := none } }

/-- JOIN_TIME (R38): the returning module enters RUN as follower, the running one is lead (log entry 32). -/
def joinNow (d : Device) : Device :=
  if d.ctl.state = .ready ∧ d.runOk ∧ d.ctl.partnerPresent then joinRun d
  else { d with
    ctl := { d.ctl with joinT := none, lead := d.ctl.lead || d.ctl.partnerAbsent }
    net := { d.net with guy := { d.net.guy with join := false } } }

def execJoinTime (s : State) : Host.Outcome State Fault Refusal :=
  .next (if reached s.dev.now s.dev.ctl.joinT then s.onDev joinNow else s)

/-- SHARE_RAMP_DONE (R38, step 5): the lead clears PARTNER_LOST and lifts the partner-absent limits. -/
def shareRampDone (d : Device) : Device :=
  clearFault .partnerLost .module
    { d with ctl := { d.ctl with shareRampStart := none, partnerAbsent := false } }

def execShareRampDone (s : State) : Host.Outcome State Fault Refusal :=
  .next (if s.dev.ctl.lead ∧ lasted s.dev.now s.dev.ctl.shareRampStart (ms 200) then s.onDev shareRampDone else s)

end Sys2Proof.Machine
end

