-- ==== Sys2Proof/Machine/Slots.lean ====
section
/-!
DEFINITION. The compensator engine (chapter 7): sources, the sample of a slot, its output, opening and closing, overruns
and the firmware slots' loops.
-/

namespace Sys2Proof.Machine

/-! ## The mode of a slot and its status (R199, R206) -/

/-- The OPEN_MODE in force on a slot: 0 where an overrun forces it (R198); tracking on the outer loops of the converter (R211)
and on the speed loops outside a follower and the held steps of a shift (R116). -/
def Device.openModeNow (d : Device) (k : Nat) : Nat :=
  if (d.slot k).late then 0
  else if k ≤ 1 then
    let p : PortId := if k = 0 then .a else .b
    if !d.leads || d.shiftOn p == some 2 || d.shiftOn p == some 3 then 0 else 2
  else if k = 2 ∨ k = 3 then 2
  else Cfg.openMode d.cfg k

/-- SLOT_STATUS (Table 7.7). -/
def Device.slotStatus (d : Device) (k : Nat) : Nat :=
  let x := d.slot k
  fields [(30, x.mode.code), flag 29 x.firmware, flag 28 x.clamped, flag 27 x.saturated, flag 26 x.late,
    flag 25 x.inputInvalid, flag 24 ((x.mode == .opened || x.mode == .closePending) && d.openModeNow k == 2),
    (16, x.owner), (8, x.coefGen), (0, x.sampleSeq)]

/-! ## Sources (R158, R195, R196) -/

/-- The evaluation tick a latch at sample tick S uses: the latest multiple of 20 ticks at least 15 ticks before S. -/
def evalTick (S : Nat) : Int := ((S : Int) - 15) / 20 * 20

/-- x(S) of R158 from the two evaluations, corrected by R172. -/
def Device.latchAt (d : Device) (S : Nat) (w : BitStream) : Int :=
  let y : Rat := (d.correctFast w.ch (32767 * fastFilter w.clocks) : Int)
  let y80 : Rat := (d.correctFast w.ch (32767 * fastFilter (clocksBefore 16 w.clocks)) : Int)
  clampInt (-32767) 32767 (roundCode (y + (y - y80) * (225 / 2 + (S : Int) - evalTick S) / 80))

/-- The value of a channel at a sample tick before substitution: from the bitstream presented up to the evaluation, else as last
latched; the code 0x8000 where it has none. -/
def Device.fastRaw (d : Device) (S : Nat) (evals : List BitStream) (m : Nat) : Int × Bool :=
  let c := d.mchan m
  if c.modFail then (-32768, false)
  else match streamOf evals m with
    | some w => (d.latchAt S w, d.fastUsable m)
    | none => (c.latched, c.latchedOk && d.fastUsable m)

/-- A channel's fast-path value at a sample tick, with the substitution of R182. -/
def Device.fastAt (d : Device) (S : Nat) (evals : List BitStream) (m : Nat) : Int × Bool :=
  (d.substitute (fun k => some (d.fastRaw S evals k)) m).getD (-32768, false)

/-- The signal range of R192. -/
def satSignal (x : Int) : Int := clampInt (-8388608) 8388607 x

/-- A source of Table 7.1 for an expert slot: value and whether it is valid. -/
def Device.slotSource (d : Device) (k code : Nat) (evals : List BitStream) : Int × Bool :=
  if code = 0 then (0, true)
  else if code = 1 then (Cfg.refValue d.cfg k, true)
  else if 16 ≤ code ∧ code ≤ 63 then
    let v := d.fastAt (Cfg.sampleTick d.cfg k) evals (code - 16)
    (v.1 * 256, v.2 && v.1 != -32768)
  else if 64 ≤ code ∧ code ≤ 95 then
    let x := d.slot (code - 64)
    (if x.outputAt < d.now + 5 * Cfg.sampleTick d.cfg k then x.output else x.outputPrev, !x.late)
  else (0, false)

/-! ## The firmware slots' loops (R203, Table 7.3) -/

/-- A fast-path value in the unit of its channel. -/
def Device.unitAt (d : Device) (S : Nat) (evals : List BitStream) (m : Nat) : Rat × Bool :=
  let v := d.fastAt S evals m
  ((v.1 : Rat) * d.chanRange m / 32767, v.2 && v.1 != -32768)

/-- The limit of a drive's current reference, A (R259, R263, R265). -/
def Device.actTop (d : Device) (n : Nat) : Rat :=
  let op := (d.act n).op
  let lim : Nat := if (d.act n).homing then Cfg.seatI d.cfg n else match op with
    | .moving | .backingOff => Cfg.moveI d.cfg n
    | .seating => Cfg.seatI d.cfg n
    | .holding => Cfg.holdI d.cfg n
    | _ => 0
  let bus := d.fineVal 23
  let want := d.actDemand n
  let granted := if bus ≤ 0 then 0 else d.supply.actShare * want * 1000 / bus
  let top : Rat := min (lim : Rat) (Cfg.actIPeak d.cfg n : Rat)
  if d.supply.actShare < 1 then min top granted else top

/-- The total phase current reference in force: the output of the outer loop in use (R211); 0 in the ramp of an F2 (R24). -/
def Device.totalRef (d : Device) : Rat :=
  if (d.stage .conv).ramping then 0
  else match d.supply.conv.loop with
  | 1 => Config.loopOut 2 (d.slot 2).output
  | 2 => Config.loopOut 3 (d.slot 3).output
  | _ => 0

/-- The reference of one converter phase, A (R211). -/
def Device.phaseRef (d : Device) : Rat :=
  let n := d.supply.conv.count
  let m : Rat := Cfg.convIPhMax d.cfg
  if n = 0 then 0 else clampRat (-m) m (d.totalRef / n)

/-- The reference of one phase, A: that of a shed phase ramps to 0 over 200 us (R215). -/
def Device.phaseShare (d : Device) (x : ConvPhase) : Rat :=
  if !x.shed then d.phaseRef
  else match x.shedAt with
    | some t => d.phaseRef * max 0 (1 - ((d.now : Rat) - t) / 200000)
    | none => 0

/-- The error a firmware slot regulates, in its physical unit, where the spec gives it; the current axes of the grid port,
the phase current share and the actuator speed take theirs from quantities the spec does not fix: a free value. -/
def Device.loopError (d : Device) (k : Nat) (evals : List BitStream) : Rat × Bool :=
  let S := Cfg.sampleTick d.cfg k
  let at_ := fun m => d.unitAt S evals m
  let sub := fun (r : Rat) (v : Rat × Bool) => (r - v.1, v.2)
  if k ≤ 1 then
    let p : PortId := if k = 0 then .a else .b
    ((d.port p).speedRef - (d.eng p).speed, (d.eng p).fastValid)
  else if k = 2 then
    let a := at_ 6
    let b := at_ 7
    (d.supply.conv.ramp - min a.1 b.1, a.2 && b.2)
  else if k = 3 then
    sub (if Cfg.convMode d.cfg = 1 ∧ 3 ≤ d.chg.step then d.chg.iCmd else (Cfg.batIRef d.cfg : Rat)) (at_ 13)
  else if k ≤ 6 then sub (d.phaseShare (d.supply.conv.phases.getD (k - 4) {})) (at_ (9 + (k - 4)))
  else if k = 9 then sub (min (Cfg.chgVSet d.cfg : Rat) (Cfg.batVMax d.cfg : Rat)) (at_ 12)
  else if k = 10 then (d.chg.gridV - (Cfg.gridVregFloor d.cfg : Rat) / 100 * (Cfg.gridVNom d.cfg : Rat), true)
  else if k = 11 then sub 54 (at_ 23)
  else if k = 12 then sub d.supply.aux.ramp (at_ 25)
  else if k = 14 then sub d.bchg.current (at_ 28)
  else if k = 15 then sub (18 * (Cfg.bchgVCeil d.cfg : Rat) / 100) (at_ 27)
  else if 16 ≤ k ∧ k ≤ 19 then sub (d.act (k - 16)).iRef (at_ (33 + (k - 16)))
  else if 20 ≤ k ∧ k ≤ 23 then (d.actSpeedRef (k - 20) - Config.freeRat d.fresh, true)
  else (Config.freeRat d.fresh, true)

/-- The clamp limits the owner of a firmware slot drives (R116, R203, R211, R239, R241, R259). The slot of a speed loop is
clamped to the ceiling of what its output commands: in a pair the machine torque reference of both winding sets, T*_m (R130). -/
def Device.ownLimits (d : Device) (k : Nat) : Int × Int :=
  if k ≤ 1 then
    let p : PortId := if k = 0 then .a else .b
    let other := match p with
      | .a => d.ctl.partner.ceiling0
      | .b => d.ctl.partner.ceiling1
    let c := (d.port p).ceiling + (if d.paired && d.ctl.partnerPresent && !d.ctl.partnerAbsent then other else 0)
    (Config.loopCode k c, Config.loopCode k (-c))
  else if k = 2 ∨ k = 3 then
    let m : Rat := (Cfg.convIPhMax d.cfg : Rat) * (d.supply.conv.count : Rat)
    (Config.loopCode k m, Config.loopCode k (-m))
  else if k = 9 then (Config.loopCode k (Cfg.chgISet d.cfg : Rat), 0)
  else if k = 10 then (8388607, 0)
  else if 20 ≤ k ∧ k ≤ 23 then (Config.loopCode k (d.actTop (k - 20)), Config.loopCode k (-(d.actTop (k - 20))))
  else (8388607, -8388608)

/-- The clamp limits in force (R194, R203). -/
def Device.slotClamp (d : Device) (k : Nat) : Int × Int :=
  let x := d.slot k
  if x.firmware then (x.ownHi, x.ownLo) else (Cfg.clampHi d.cfg k, Cfg.clampLo d.cfg k)

/-- The input of a slot at its sample tick and its validity (R195, R196). -/
def Device.slotInput (d : Device) (k : Nat) (evals : List BitStream) : Int × Bool :=
  if (d.slot k).firmware then
    let e := d.loopError k evals
    (satSignal (if k = 10 then roundCode (8388608 * divFree 0 e.1 (Cfg.gridVNom d.cfg)) else Config.loopIn k e.1), e.2)
  else
    let r := d.slotSource k (Cfg.refSrc d.cfg k) evals
    let f := d.slotSource k (Cfg.fbSrc d.cfg k) evals
    (satSignal (r.1 - f.1), r.2 && f.2)

/-! ## The arithmetic of a sample (R191-R194) -/

/-- Two to a power. -/
def pow2 (e : Int) : Rat := (2 : Rat) ^ e

/-- The smallest exponent for which all coefficients of a stage lie below it in magnitude, among the 6-bit ones (R192, R193). -/
def stageExp (c : List Rat) : Int :=
  let es := (List.range 64).map fun (j : Nat) => (j : Int) - 32
  (es.find? fun e => c.all fun x => decide (ratAbs x < pow2 e)).getD 31

/-- The mantissas of a stage for an exponent (R193). -/
def stageMant (e : Int) (c : List Rat) : List Int := c.map fun x => roundAway (x * pow2 (23 - e))

/-- The normal form of a stage that the firmware sets (R193): exponent and mantissas. -/
def normalStage (c : List Rat) : List Int :=
  if c.all (· == 0) then 0 :: c.map fun _ => 0
  else
    let e := stageExp c
    let m := stageMant e c
    if m.any fun x => decide (8388608 ≤ x.natAbs) then (e + 1) :: stageMant (e + 1) c else e :: m

/-- A stage of n coefficients from those the firmware forms. -/
def stageOfLen (n : Nat) (c : List Rat) : List Rat := (List.range n).map fun i => c.getD i 0

/-- The gain of CS10 for one sample of 1 ms, per unit of GRID_V_NOM: 2π · GRID_VREG_BW / 0.10 per second (R241). -/
def vregGain (S : Settings) : Rat := 2 * Config.pi * (Cfg.gridVregBw S : Rat) / 100

/-- EXP_B, b0-b3, EXP_A and a1-a3 that the firmware sets on a slot for a set of settings: CS10 is an integrator (R241). -/
def firmCoef (k : Nat) (S : Settings) : List Int :=
  let c := if k = 10 then ([vregGain S], [-1]) else (Config.loopB k S, Config.loopA k S)
  normalStage (stageOfLen 4 c.1) ++ normalStage (stageOfLen 3 c.2)

/-- Exponents and mantissas of a slot: EXP_B, b0-b3, EXP_A, a1-a3. -/
def Device.slotCoef (d : Device) (k : Nat) : List Int :=
  let S := d.cfg
  let own := [Cfg.expB S k, Cfg.bCoef S k 0, Cfg.bCoef S k 1, Cfg.bCoef S k 2, Cfg.bCoef S k 3, Cfg.expA S k, Cfg.aCoef S k 0,
    Cfg.aCoef S k 1, Cfg.aCoef S k 2]
  if !(d.slot k).firmware then own
  else if k ≤ 1 ∧ Cfg.speedLoopExpert S (if k = 0 then .a else .b) then own
  else firmCoef k S

/-- A product of a mantissa and a signal in units of 2^-46, rounded (R194, step 1). -/
def slotProduct (e mant sig : Int) : Int := roundAway ((mant * sig : Int) * (2 : Rat) ^ e)

/-- The accumulator of step 1 in units of 2^-46: form 1 leaves out b3 and a3. -/
def slotAccumulate (form : Nat) (c x y : List Int) : Int :=
  let nb := if form = 1 then 3 else 4
  let na := if form = 1 then 2 else 3
  let b := (List.range nb).map fun i => slotProduct (c.getD 0 0) (c.getD (1 + i) 0) (x.getD i 0)
  let a := (List.range na).map fun i => slotProduct (c.getD 5 0) (c.getD (6 + i) 0) (y.getD i 0)
  b.sum - a.sum

/-- Steps 2 and 3 (R194): the saturated value and the limited one. -/
def slotRound (acc : Int) (lim : Int × Int) : Int × Int :=
  let s := satSignal (roundAway ((acc : Rat) / 2 ^ 23))
  (s, clampInt lim.2 lim.1 s)

/-- A closed sample: output, histories, SATURATED, CLAMPED. x0 is the present input. -/
def slotCompute (form : Nat) (c : List Int) (aw : Nat) (lim : Int × Int) (x0 : Int) (x y : List Int) :
    Int × List Int × List Int × Bool × Bool :=
  let acc := slotAccumulate form c (x0 :: x) y
  let r := slotRound acc lim
  (r.2, (x0 :: x).take 3, ((if aw = 0 then r.2 else r.1) :: y).take 3,
    decide (roundAway ((acc : Rat) / 2 ^ 23) ≠ r.1), decide (r.2 ≠ r.1))

/-- What a slot in OPEN_MODE 2 tracks at its sample tick, and whether it is valid (R196, R199): the slots of the speed loops the
torque estimate (R116), those of the outer loops the battery current (R211), others their TRACK_SRC. -/
def Device.trackValue (d : Device) (k : Nat) (evals : List BitStream) : Int × Bool :=
  if k ≤ 1 then (Config.loopCode k (d.eng (if k = 0 then .a else .b)).torque, true)
  else if k = 2 ∨ k = 3 then
    let v := d.unitAt (Cfg.sampleTick d.cfg k) evals 13
    (Config.loopCode k v.1, v.2)
  else d.slotSource k (Cfg.trackSrc d.cfg k) evals

/-- The output of an OPEN slot (R199) before the clamp, and whether its source is valid: without one the output stays (R196). -/
def Device.openOutput (d : Device) (k : Nat) (evals : List BitStream) : Int × Bool :=
  let x := d.slot k
  match d.openModeNow k with
  | 1 => (Cfg.openValue d.cfg k, true)
  | 2 =>
    let v := d.trackValue k evals
    (if v.2 then v.1 else x.output, v.2)
  | _ => (x.output, true)

/-! ## The owners of the firmware slots (R203) -/

/-- Whether the owner of a firmware slot runs its loop (R116, R203, R211, R238, R241, R245, R259). -/
def Device.loopRuns (d : Device) (k : Nat) : Bool :=
  let port := fun (p : PortId) =>
    let x := d.port p
    let follower := !d.leads
    let held := d.shiftOn p == some 2 || d.shiftOn p == some 3
    !follower && !held && (match x.state with
      | .running => d.speedLoop p
      | .stopping => d.speedLoop p && !x.coasting
      | .catching => x.revLoop
      | _ => false)
  if k = 0 then port .a
  else if k = 1 then port .b
  else if k = 2 then d.supply.conv.loop == 1
  else if k = 3 then d.supply.conv.loop == 2
  else if k ≤ 6 then (d.supply.conv.phases.getD (k - 4) {}).active
  else if k ≤ 8 then d.chg.switching
  else if k ≤ 10 then d.chg.switching && decide (4 ≤ d.chg.step)
  else if k = 11 then d.supply.llc.running
  else if k = 12 ∨ k = 13 then d.supply.aux.running
  else if k = 14 ∨ k = 15 then decide (0 < d.bchg.current)
  else if k ≤ 19 then (d.act (k - 16)).energised
  else if k ≤ 23 then (d.act (k - 20)).energised && !((d.act (k - 20)).op == .holding && (d.act (k - 20)).endReached)
  else false

/-- The owner of a firmware slot opens and closes it; a slot that has overrun stays OPEN until its stage runs again. -/
def slotOwner (k : Nat) (d : Device) : Device :=
  let want := d.loopRuns k
  d.onSlot k fun x => match x.mode with
    | .off => x
    | .opened => if want then { x with mode := .closePending } else x
    | .closePending | .closed => if want then x else { x with mode := .opened, holding := none }

/-! ## SLOT_SAMPLE (R197-R201) -/

/-- The commands of R200 that stand at the sample tick are taken: the first of them written in an earlier beat, the last one
wins. -/
def slotTakeCmd (k : Nat) (d : Device) : Device :=
  let x := d.slot k
  if x.cmd ≠ 0 ∧ x.cmdAt < d.now then
    d.onSlot k fun x => { x with
      cmd := 0
      mode := if x.cmd = 1 then .opened else if x.mode = .closed then .closed else .closePending }
  else d

/-- A sample of a slot: mode by mode (R196, R199, R201). -/
def slotSampleMode (k : Nat) (evals : List BitStream) (d : Device) : Device :=
  let x := d.slot k
  let inp := ((d.slotInput k evals).1, (d.slotInput k evals).2 && !d.forced 0x0701 k)
  let lim := d.slotClamp k
  let form := Cfg.form d.cfg k
  let opened := fun (x : Slot) =>
    let o := d.openOutput k evals
    let c := clampInt lim.2 lim.1 o.1
    let hist := if inp.2 then (inp.1 :: x.x).take 3 else x.x
    { x with inputInvalid := !(inp.2 && o.2), holding := some (c, hist, x.y, x.saturated, decide (c ≠ o.1)) }
  match x.mode with
  | .off => d
  | .opened => d.onSlot k opened
  | .closePending =>
    if inp.2 then
      d.onSlot k fun x => { x with
        mode := .closed, late := false, inputInvalid := false, invalidRun := 0
        holding := some (slotCompute form (d.slotCoef k) (Cfg.awMode d.cfg k) lim inp.1 (List.replicate 3 inp.1)
          (List.replicate 3 x.output)) }
    else d.onSlot k opened
  | .closed =>
    if inp.2 then
      d.onSlot k fun x => { x with
        inputInvalid := false, invalidRun := 0
        holding := some (slotCompute form (d.slotCoef k) (Cfg.awMode d.cfg k) lim inp.1 x.x x.y) }
    else d.onSlot k fun x => { x with inputInvalid := true, invalidRun := x.invalidRun + 1, holding := none }

/-- The faults an expert slot clears: COMP_INPUT at a valid sample, OVERRUN when it is closed again (Table 7.5). -/
def slotClears (k : Nat) (d : Device) : Device :=
  let x := d.slot k
  let d := if x.inputInvalid then d else clearFault .compInput (.slot k) d
  if x.mode = .closed ∧ !x.late then clearFault .overrun (.slot k) d else d

/-- A change of CONV_MODE, or of what mode 1 follows, takes effect at the sample of CS02 and CS03 (R211). -/
def loopChange (k : Nat) (d : Device) : Device :=
  if k = 2 ∨ k = 3 then slotOwner 3 (slotOwner 2 (d.onConv fun c => { c with loop := d.convLoop })) else d

/-- What the charge computes at a sample: the link law at CS07 (R238); the battery current reference at CS03, where step 4 of
Table 9.2 begins (R239). -/
def chargeSample (k : Nat) (d : Device) : Device :=
  if !d.chg.switching then d
  else if k = 7 then linkLaw d
  else if k = 3 then
    if d.chg.step = 3 then chargeCloses d else chargeEnd (chargeCurrent d)
  else d

/-- The sample of a drive's current counts in its rms value (R259, R271). -/
def actSample (k : Nat) (evals : List BitStream) (d : Device) : Device :=
  if 16 ≤ k ∧ k ≤ 19 then
    let v := d.unitAt (Cfg.sampleTick d.cfg k) evals (33 + (k - 16))
    if v.2 then d.onAct (k - 16) fun x => { x with iSq := x.iSq + v.1 * v.1, iN := x.iN + 1 } else d
  else d

/-- The sample tick of a slot: its latch, its computation into the output holding register. -/
def slotSample (k : Nat) (evals : List BitStream) (d : Device) : Device :=
  let d := loopChange k (actSample k evals (chargeSample k d))
  let lim := d.ownLimits k
  let d := d.draw.onSlot k fun x => { x with
    sampleSeq := addWrap 8 x.sampleSeq 1, outputDue := d.now + 5 * (Cfg.sampleTick d.cfg k + Cfg.latency d.cfg k)
    ownHi := if x.firmware then lim.1 else x.ownHi
    ownLo := if x.firmware then lim.2 else x.ownLo }
  slotClears k (slotSampleMode k evals (slotTakeCmd k d))

/-- The beat is a sample beat of a slot (R197). -/
def Device.sampleBeat (d : Device) (k : Nat) : Bool :=
  decide (0 < Cfg.period d.cfg k) && d.now / 1000 % Cfg.period d.cfg k == Cfg.phaseBeat d.cfg k

def execSlotSample (k : Fin 32) (evals : List BitStream) (s : State) : Host.Outcome State Fault Refusal :=
  .next (if s.dev.ctl.state ≠ .off ∧ (s.dev.slot k).mode ≠ .off ∧ s.dev.sampleBeat k then s.onDev (slotSample k evals) else s)

/-! ## SLOT_OUTPUT_APPLY (R197, R203, R204) -/

/-- Where the output of a firmware slot goes. -/
def slotDestination (k : Nat) (d : Device) : Device :=
  let y := (d.slot k).output
  let v := Config.loopOut k y
  let closed := (d.slot k).mode == .closed
  if !closed then d
  else if k = 0 then d.onPort .a fun x => { x with torqueNext := v }
  else if k = 1 then d.onPort .b fun x => { x with torqueNext := v }
  else if 4 ≤ k ∧ k ≤ 6 then dutyApply (k - 4) y (d.slot k).outputAt d
  else if k = 10 then d.onChg fun x => { x with vregScale := y }
  else if k = 11 then
    d.onLlc fun x => { x with burst := decide (400 < v), freq := (clampRat 120 400 v).floor.toNat }
  else if 16 ≤ k ∧ k ≤ 19 then commutate (k - 16) (d.onAct (k - 16) fun x => { x with duty := y })
  else if 20 ≤ k ∧ k ≤ 23 then
    let n := k - 20
    let top := d.actTop n
    d.onAct n fun x => if x.energised then { x with iRef := clampRat (-top) top v } else x
  else d

/-- The output tick of a slot: the holding register goes to the destination and the histories shift. -/
def slotApply (k : Nat) (d : Device) : Device :=
  match (d.slot k).holding with
  | none => d
  | some (y, xs, ys, sat, cl) =>
    let d := d.onSlot k fun x => { x with
      output := y, outputPrev := x.output, outputAt := x.outputDue, x := xs, y := ys, saturated := sat, clamped := cl
      holding := none }
    if (d.slot k).firmware then slotDestination k d else d

/-- The output tick lies in the present beat or has passed. -/
def execSlotOutputApply (k : Fin 32) (s : State) : Host.Outcome State Fault Refusal :=
  .next (if s.dev.ctl.state ≠ .off ∧ (s.dev.slot k).outputDue < s.dev.now + 1000 then s.onDev (slotApply k) else s)

/-! ## SLOT_OVERRUN, COMP_INPUT (R196, R198) -/

/-- The output tick has won: nothing is applied, the slot is forced OPEN. -/
def slotOverrun (k : Nat) (d : Device) : Device :=
  let d := d.onSlot k fun x => { x with holding := none, late := true, lateAwait := true, mode := .opened, cmd := 0 }
  let d := { d with ctl := { d.ctl with overrun := true } }
  if (d.slot k).firmware then raise .overrun (.stage (slotStage k)) 3 d else raiseActs .overrun (.slot k) 3 [] d

def execSlotOverrun (k : Fin 32) (s : State) : Host.Outcome State Fault Refusal :=
  .next (if s.dev.ctl.state ≠ .off ∧ (s.dev.slot k).mode = .closed ∧ (s.dev.slot k).holding.isSome then
    s.onDev (slotOverrun k) else s)

/-- The output tick has won against a computation (R17): of a port's decision, a slot or a reed. -/
def overrunOf (c : Computation) (d : Device) : Device :=
  match c with
  | .traction p => overrunPort p d
  | .slot k => slotOverrun k d
  | .reed i => reedOverrun i d

/-- OVERRUN. -/
def execOverrun (c : Computation) (s : State) : Host.Outcome State Fault Refusal :=
  .next (if s.dev.ctl.state = .off then s else s.onDev (overrunOf c))

/-- COMP_INPUT: ten consecutive samples of a CLOSED expert slot with an invalid input. -/
def execCompInput (k : Fin 32) (s : State) : Host.Outcome State Fault Refusal :=
  let x := s.dev.slot k
  .next (if !x.firmware ∧ x.mode = .closed ∧ 10 ≤ x.invalidRun then s.onDev (raise .compInput (.slot k) 0) else s)

/-! ## SLOT_CMD (R200) -/

/-- SLOT_CMD of a slot: a firmware slot refuses it from every host path. -/
def cmdSlot (k code : Nat) (d : Device) : W32 × Device :=
  if k < 24 then (Abort.access, d)
  else if code ≠ 1 ∧ code ≠ 2 then (Abort.range, d)
  else if code = 2 ∧ Cfg.form d.cfg k = 0 then (Abort.state, d)
  else (Abort.ok, d.onSlot k fun x => { x with cmd := code, cmdAt := if x.cmd = 0 then d.now else x.cmdAt })

def execSlotCmdOpen (path : Path) (k : Fin 32) (s : State) : Host.Outcome State Fault Refusal :=
  .next (hostWrite path .e false (devCmd (rwCmd (0x372001 + k) 1 (cmdSlot k 1))) s)

def execSlotCmdClose (path : Path) (k : Fin 32) (s : State) : Host.Outcome State Fault Refusal :=
  .next (hostWrite path .e false (devCmd (rwCmd (0x372001 + k) 2 (cmdSlot k 2))) s)

/-! ## The slots and the settings (R202, R203) -/

/-- A slot takes up its form: FORM 0 is off with an output of 0. -/
def slotSync (k : Nat) (d : Device) : Device :=
  let f := Cfg.form d.cfg k
  d.onSlot k fun x => { x with
    firmware := decide (k < 24), owner := if k < 24 then (slotStage k).num else 255
    mode := if f = 0 then .off else if x.mode = .off then .opened else x.mode, output := if f = 0 then 0 else x.output
    holding := if f = 0 then none else x.holding, cmd := if f = 0 then 0 else x.cmd }

/-- The owners of all firmware slots over one beat. -/
def slotBeat (d : Device) : Device := d.each (List.range 24) slotOwner

end Sys2Proof.Machine
end

