-- ==== Sys2Proof/Machine/Trips.lean ====
section
/-!
DEFINITION. The window comparators (R160-R162): exits, their actions, direct trips and re-arming.
-/

namespace Sys2Proof.Machine

/-- The phase a direct-trip channel measures: a port's phase, a converter phase, or a grid phase. -/
inductive TripLeg where
  | port (p : PortId) (ph : Phase)
  | conv (n : Nat)
  | grid (n : Nat)
  deriving DecidableEq, Repr

/-- Channels that allow action 3 (R161): M00-M05, M09-M11, M17-M19. -/
def tripLeg (m : Nat) : Option TripLeg :=
  match m with
  | 0 => some (.port .a .u)
  | 1 => some (.port .a .v)
  | 2 => some (.port .a .w)
  | 3 => some (.port .b .u)
  | 4 => some (.port .b .v)
  | 5 => some (.port .b .w)
  | 9 => some (.conv 0)
  | 10 => some (.conv 1)
  | 11 => some (.conv 2)
  | 17 => some (.grid 0)
  | 18 => some (.grid 1)
  | 19 => some (.grid 2)
  | _ => none

def TripLeg.stage : TripLeg → StageGroup
  | .port p _ => p.stage
  | .conv _ => .conv
  | .grid _ => .grid

/-- Islands whose positions turn off at once: the outer ones of a three-level leg, both of a two-level leg (R65, R162). -/
def TripLeg.first : TripLeg → List Nat
  | .port p ph => [posIsland p ph 0, posIsland p ph 3]
  | .conv n => [36 + 4 * n, 36 + 4 * n + 3]
  | .grid n => [48 + 2 * n, 48 + 2 * n + 1]


/-- A direct trip (R65, R162; its exit has ended a slice on the channel already): it reaches the islands of the leg without the fault manager; TRIP_DIRECT then brings F3 on
the stage. A port that holds ASC is shut down as a whole first (R59). -/
def directTrip (leg : TripLeg) (d : Device) : Device :=
  let d := d.each leg.first fun i => Device.onIsland i (Island.softStart d.now false)
  let d := match leg with
    | .port p ph => if d.portSafe p then portOff p d else legOuterOff p ph d
    | _ => d
  let d := positionReport (8 * leg.first.headD 0) d.now d
  raise .tripDirect (.stage leg.stage) 3 d

/-- Action 2 of an owned comparator: the owner's own fault (R161, R221, R226, R260). The other owned comparators serve
conditions that have rows of their own. -/
def ownedExit (m : Nat) (high : Bool) (d : Device) : Device :=
  if m = 22 then (if d.supply.llc.running then llcFault .llcOc d else d)
  else if m = 25 then
    if high && d.supply.aux.running && !d.supply.aux.crowbar then auxCrowbar d else d
  else if 33 ≤ m ∧ m ≤ 36 then (if (d.act (m - 33)).busy then actOc (m - 33) d else d)
  else d

/-- The band an owned comparator's stage sets: high, low; none while it sets no band (R161). -/
def Device.ownedBand (d : Device) (m : Nat) : Option (Rat × Rat) :=
  if m = 22 ∧ d.supply.llc.running then some (80, -80)
  else if m = 25 ∧ d.supply.aux.running then
    let top := d.supply.aux.rampTop.foldl (fun a e => max a e.2) d.supply.aux.ramp
    some ((Cfg.auxOvPct d.cfg : Rat) * top / 100, -(d.chanRange m))
  else if 33 ≤ m ∧ m ≤ 36 ∧ (d.act (m - 33)).busy then some (75, -75)
  else none

/-- The band of a comparator in force: COMP_HI and COMP_LO, the owner's band, or the whole range while the owner sets none. -/
def Device.compBand (d : Device) (m : Nat) : Rat × Rat :=
  if ownedComp m then (d.ownedBand m).getD (d.chanRange m, -(d.chanRange m)) else (Cfg.compHi d.cfg m, Cfg.compLo d.cfg m)

/-- What an exit does (R161); a report's event has the code 0xF000 with the channel (Table 15.7). -/
def compAct (m : Nat) (high : Bool) (d : Device) : Device :=
  if ownedComp m then ownedExit m high d
  else
    match Cfg.compAction d.cfg m with
    | 1 => pushEvent { time := (d.mchan m).exitAt.getD d.now, code := BitVec.ofNat 16 (0xF000 + m), reaction := 0, kind := 2
                       lostBefore := false, scope := (Scope.channel m).code, number := m } d
    | 2 => raiseActs .compExit (.channel m) (ownerReaction m) (ownerActs m) d
    | 3 => match tripLeg m with
      | some leg => directTrip leg d
      | none => d
    | _ => d

/-- The comparator of a channel is in use: M41 and M45 have none, action 0 is off, as is an owned one without a band. -/
def Device.compOn (d : Device) (m : Nat) : Bool :=
  m != 41 && m != 45 && (if ownedComp m then (d.ownedBand m).isSome else Cfg.compAction d.cfg m != 0)

/-- The last COMP_FILT evaluations of a channel, newest first, in its unit; none where one of them has no value. They follow
each other every 4 modulator clocks, and a channel under test is evaluated on its rebuilt value (R157, R160, R182). -/
def Device.compRun (d : Device) (streams : List BitStream) (m : Nat) : Option (List Int) :=
  (List.range (Cfg.compFilt d.cfg m)).mapM fun j =>
    ((d.evalAt (streamsBefore (4 * j) streams) m).filter Prod.snd).map Prod.fst

/-- A code of a channel's fast path in its unit. -/
def Device.chanVal (d : Device) (m : Nat) (c : Int) : Rat := (c : Rat) * d.chanRange m / 32767

/-- The side on which all of a run of evaluations lie outside the band: true at or above COMP_HI, false at or below COMP_LO. -/
def Device.compSide (d : Device) (m : Nat) (run : List Int) : Option Bool :=
  if d.forced 0x0602 m ∨ run.all (fun c => decide ((d.compBand m).1 ≤ d.chanVal m c)) then some true
  else if run.all fun c => decide (d.chanVal m c ≤ (d.compBand m).2) then some false
  else none

/-- An exit in the scope of R179 aborts a slice (R162, R183). -/
def compSlice (m : Nat) (d : Device) : Device :=
  match d.openSlice with
  | some x => if (sliceComps x.ch).contains m then sliceAbort x d else d
  | none => d

/-- An exit is reported once per side until the comparator re-arms; one on the opposite side is always reported (R160). The
report carries the side, and the value and the time of the first evaluation of the run. -/
def compExit (m : Nat) (high : Bool) (first : Int) (t : Nanos) (d : Device) : Device :=
  let c := d.mchan m
  if (if high then c.outHi else c.outLo) then d
  else compAct m high (compSlice m (d.onMchan m fun c => { c with
    outHi := high, outLo := !high, exitCount := addSat 255 c.exitCount 1, exitValue := first, exitAt := some t }))

/-- COMP_EXIT (R160): at an evaluation of the beat, the last COMP_FILT of them outside the band on one side. -/
def compEval (m eval : Nat) (streams : List BitStream) (d : Device) : Device :=
  match d.compRun streams m with
  | some run => match d.compSide m run with
    | some high => compExit m high (run.getLastD 0) (d.now + 100 * eval - 100 * (run.length - 1)) d
    | none => d
  | none => d

def execCompExit (ch : Fin 48) (eval : Fin 10) (streams : List BitStream) (s : State) : Host.Outcome State Fault Refusal :=
  .next (if s.dev.ctl.state ≠ .off ∧ s.dev.compOn ch then s.onDev (compEval ch eval streams) else s)

/-- All of a run of evaluations lie inside the band by COMP_HYS. -/
def Device.compInside (d : Device) (m : Nat) (run : List Int) : Bool :=
  let h := Cfg.compHys d.cfg m
  run.all fun c => decide ((d.compBand m).2 + h ≤ d.chanVal m c ∧ d.chanVal m c ≤ (d.compBand m).1 - h)

/-- COMPARATOR_REARM (R160): COMP_FILT evaluations inside the band by COMP_HYS; the cause of COMP_EXIT has ended. -/
def execComparatorRearm (ch : Fin 48) (streams : List BitStream) (s : State) : Host.Outcome State Fault Refusal :=
  .next (if ((s.dev.mchan ch).outHi ∨ (s.dev.mchan ch).outLo) ∧ ((s.dev.compRun streams ch).any (s.dev.compInside ch)) then
    s.onDev fun d => clearFault .compExit (.channel ch) (d.onMchan ch fun c => { c with outHi := false, outLo := false })
    else s)

end Sys2Proof.Machine
end

