-- ==== Sys2Proof/Machine/Ports.lean ====
section
/-!
DEFINITION. The traction ports' events (chapter 4): inputs, the catch, the ends of stops, locked rotor, the
terminal-voltage speed, and the reference computations they share with tick 0.
-/

namespace Sys2Proof.Machine

/-! ## The curve and its source (R112-R115) -/

/-- The valid range of an analog input in its unit (Table 18.10). -/
def ainValid (range : Nat) (v : Rat) : Bool :=
  match range with
  | 0 => decide (-1 / 10 ≤ v) && decide (v ≤ 52 / 10)
  | 1 => decide (-2 / 10 ≤ v) && decide (v ≤ 104 / 10)
  | _ => decide (36 / 10 ≤ v) && decide (v ≤ 21)

/-- FIN without edges for 1 s while at ON_THR or above is invalid; below it FIN reads 0 Hz (R114). A frequency above the range
of the input, 22 kHz, is invalid (Table 18.9). -/
def Device.finValue (d : Device) (p : PortId) : Option Rat :=
  if !d.fin.silent then (if d.fin.freq ≤ 22000 then some d.fin.freq else none)
  else if Cfg.onThr d.cfg p ≤ d.fin.freq then none else some 0

/-- The value of a port's curve source; none where it is invalid. -/
def Device.sourceValue (d : Device) (p : PortId) : Option Rat :=
  match Cfg.curveSrc d.cfg p with
  | 0 => some (Cfg.speedInput d.cfg p)
  | 5 => d.finValue p
  | k =>
    let v := d.fineVal (36 + k)
    if ainValid (Cfg.ainRange d.cfg (k - 1)) v && (d.meas.burdenOff.getD (k - 1) none).isNone then some v else none

/-- Linear interpolation between the points of the curve from point i on (R113). -/
def curveFrom (S : Settings) (p : PortId) (x : Rat) : Nat → Nat → Rat
  | 0, i => Cfg.curveY S p i
  | n + 1, i =>
    let x0 := Cfg.curveX S p i
    let x1 := Cfg.curveX S p (i + 1)
    if x ≤ x0 then Cfg.curveY S p i
    else if x < x1 then
      Cfg.curveY S p i + (Cfg.curveY S p (i + 1) - Cfg.curveY S p i) * (x - x0) / (x1 - x0)
    else curveFrom S p x n (i + 1)

/-- The curve output for the filtered source value. -/
def Device.curveOut (d : Device) (p : PortId) : Rat :=
  curveFrom d.cfg p (d.port p).curveInput (Cfg.curveN d.cfg p - 1) 0

/-- The partner-absent speed limit n_pa, rpm (R129); 0 where the machine data give none. -/
def Device.partnerLimit (d : Device) (p : PortId) : Rat :=
  let S := d.cfg
  let psi := if Cfg.machineType S p = 1 then max (Cfg.psiM S p) (Cfg.ratedFlux S p) else Cfg.ratedFlux S p
  let den := Config.sqrt 3 * Cfg.polePairs S p * 2 * Config.pi / 60 * psi
  if den = 0 then 0 else 9 / 10 * (Cfg.pairLinkFloor S p : Rat) / den

/-- The target of the speed reference before the safety functions (R115). -/
def Device.refTarget (d : Device) (p : PortId) : Rat :=
  let m := Cfg.speedMax d.cfg p
  clampRat (-m) m (Cfg.direction d.cfg p * d.curveOut p)

/-- The source of a port has become invalid: the drive request is removed and must be met afresh (R114). -/
def inputLost (p : PortId) (d : Device) : Device :=
  raise .curveSrcInvalid (.port p) 0 (d.onPort p fun x => { x with inputInvalid := true, afresh := true, engaged := false })

/-- The source is valid again. -/
def inputFound (p : PortId) (d : Device) : Device :=
  clearFault .curveSrcInvalid (.port p) (d.onPort p fun x => { x with inputInvalid := false })

/-- Object keys of the live commands of a port (Table 4.8). -/
def driveRequestKey (p : PortId) : Nat := 0x601008 + p.num * 0x80000
def speedInputKey (p : PortId) : Nat := 0x601006 + p.num * 0x80000

/-- A write of DRIVE_REQUEST or SPEED_INPUT restarts the timeout of R114 and makes the OD source valid. -/
def inputWritten (p : PortId) (d : Device) : Device :=
  let d := d.onPort p fun x => { x with lastInput := some d.now }
  if Cfg.curveSrc d.cfg p = 0 ∧ (d.port p).inputInvalid then inputFound p d else d

/-- DRIVE_REQUEST (R113, R133): a BOOLEAN live command; a write meets the engagement condition of the OD source afresh. -/
def cmdDriveRequest (p : PortId) (v : Nat) (d : Device) : W32 × Device :=
  if 1 < v then (Abort.range, d)
  else (Abort.ok, (inputWritten p (pushLive (driveRequestKey p) v d)).onPort p fun x =>
    { x with afresh := x.afresh && Cfg.curveSrc d.cfg p != 0 })

def execDriveRequestWrite (path : Path) (p : PortId) (v : BitVec 8) (s : State) : Host.Outcome State Fault Refusal :=
  .next (hostWrite path .b false (devCmd (cmdDriveRequest p v.toNat)) s)

/-- SPEED_INPUT (R112, R133): a REAL32 live command; a value that is no finite number lies out of range. -/
def cmdSpeedInput (p : PortId) (v : Nat) (d : Device) : W32 × Device :=
  if v / 2 ^ 23 % 256 = 255 then (Abort.range, d) else (Abort.ok, inputWritten p (pushLive (speedInputKey p) v d))

def execSpeedInputWrite (path : Path) (p : PortId) (v : W32) (s : State) : Host.Outcome State Fault Refusal :=
  .next (hostWrite path .b false (devCmd (cmdSpeedInput p v.toNat)) s)

/-- SPEED_INPUT_TIMEOUT (R114): the drive request is removed and DRIVE_REQUEST becomes 0. -/
def speedInputTimeout (p : PortId) (d : Device) : Device :=
  inputLost p (pushLive (driveRequestKey p) 0 d)

/-- The input of a port has timed out: counted from the last write of either object, not before the first. -/
def Device.inputTimedOut (d : Device) (p : PortId) : Bool :=
  let t := Cfg.speedInputTimeout d.cfg p
  Cfg.curveSrc d.cfg p == 0 && t != 0 && (match (d.port p).lastInput with
    | some u => decide (u + ms t ≤ d.now)
    | none => false)

def execSpeedInputTimeout (p : PortId) (late : Bool) (s : State) : Host.Outcome State Fault Refusal :=
  .next (if s.dev.ctl.state ≠ .off ∧ s.dev.inputTimedOut p then s.onDev fun d => lateMisc late (speedInputTimeout p d) else s)

/-- The ports that take FIN as their source. -/
def Device.finPorts (d : Device) : List PortId := ports.filter fun p => Cfg.curveSrc d.cfg p == 5

/-- FIN_TIMEOUT (R114): no edge for 1 s. -/
def finTimeout (d : Device) : Device :=
  let d := { d with fin := { d.fin with silent := true } }
  d.each d.finPorts fun p d => if (d.finValue p).isNone then inputLost p d else d

def execFinTimeout (late : Bool) (s : State) : Host.Outcome State Fault Refusal :=
  .next (match s.dev.fin.lastEdge with
    | some t => if t + sec 1 ≤ s.dev.now ∧ !s.dev.fin.silent then s.onDev fun d => lateMisc late (finTimeout d) else s
    | none => s)

/-- FIN_EDGE (R114): the frequency of the last complete period, in ns; the first edge completes none. -/
def finEdge (period : Nat) (d : Device) : Device :=
  let first := d.fin.lastEdge.isNone
  let d := { d with fin := {
    lastEdge := some d.now, silent := false
    freq := if first || period == 0 then d.fin.freq else 1000000000 / (period : Rat) } }
  d.each d.finPorts fun p d => match d.finValue p, (d.port p).inputInvalid with
    | some _, true => inputFound p d
    | none, false => inputLost p d
    | _, _ => d

def execFinEdge (period : Nat) (s : State) : Host.Outcome State Fault Refusal :=
  .next (if s.dev.ctl.state = .off then s else s.onDev (finEdge period))

/-! ## Taking the safe state (R27-R29, R59) -/

/-- The safe state a port takes: ASC where R27 calls for it and a set can be held on, else STO. -/
def Device.safeState (d : Device) (p : PortId) : PortState :=
  if d.wantsAsc p && (d.ascSet p).isSome then .asc else .sto

/-- A port turns its gates off and takes its safe state; rule tells the catching and observer rules, after which a drive
request catches again (Table 4.2). With all gates off already there is no turn-off order to wait for. -/
def takeSafe (rule : Bool) (p : PortId) (d : Device) : Device :=
  let off := (d.eng p).allOff
  let st := d.safeState p
  let d := (portOff p d).onPort p fun x => { x with
    state := st, stop := .none, stopStart := none, stillSince := none, catchStep := 0, reversing := false, obsDrop := 0
    coasting := false, speedReg := false, stoByRule := rule }
  if off then portAllOff p d else d

/-- A stop has ended: the gates turn off and the port takes an idle state. -/
def stopEnds (st : PortState) (p : PortId) (d : Device) : Device :=
  (portOff p d).onPort p fun x => { x with
    state := st, stop := .none, stopStart := none, stillSince := none, coasting := false, speedReg := false, reversing := false
    catchStep := 0, obsFallback := x.obsFallback && st != .disabled }

/-! ## Catching a turning motor (R119-R122) -/


/-- The back-EMF space vector E of line-to-line voltages UV and VW (R119): the Clarke transform of the phase voltages they
leave, whose sum is 0. -/
def emfVec (l : Rat × Rat) : Vec := ((2 * l.1 + l.2) / 3, l.2 / Config.sqrt 3)


/-- Change of the angle of E over 1 ms, in rad/s (R119). -/
def emfSpeed (l0 l1 : Rat × Rat) : Rat := wrapDeg ((emfVec l1).angle - (emfVec l0).angle) * Config.pi / 180 * 1000

/-- The line-to-line voltages 1 ms before now: the newest ones that stood by then; none where the gates have not been off for
that long. -/
def Device.emfBefore (d : Device) (p : PortId) : Option (Rat × Rat) :=
  ((d.port p).emfHist.find? fun e => decide (e.1 + ms 1 ≤ d.now)).map Prod.snd

/-- The record of line-to-line voltages keeps what stood during the last 1 ms. -/
def keepHist (now : Nanos) : List (Nanos × Rat × Rat) → List (Nanos × Rat × Rat)
  | [] => []
  | e :: rest => if e.1 + ms 1 ≤ now then [e] else e :: keepHist now rest

/-- The record goes on with each beat in which all gates of the port are off (R119, R128). -/
def emfBeat (p : PortId) (d : Device) : Device :=
  d.onPort p fun x =>
    if !x.eng.allOff then { x with emfHist := [] }
    else
      let l := d.lineVolts p
      let h := if x.emfHist.head?.map Prod.snd = some l then x.emfHist else (d.now, l) :: x.emfHist
      { x with emfHist := keepHist d.now h }

/-- Mechanical speed in rpm of an electrical one in rad/s. -/
def Device.rpmOf (d : Device) (p : PortId) (we : Rat) : Rat :=
  if Cfg.polePairs d.cfg p = 0 then 0 else we * 60 / (2 * Config.pi * Cfg.polePairs d.cfg p)

/-- The engine starts from a flux estimate; selection begins in the next beat (R121, step 3). -/
def catchInit (p : PortId) (psi psiR : Vec) (we : Rat) (step : Nat) (d : Device) : Device :=
  (d.onEng p (Engine.init psi psiR we)).onPort p fun x => { x with catchStep := step }

/-- From standstill (R120): the angle test, a wheel's angle, or flux build with psi_r = 0. -/
def catchStill (p : PortId) (d : Device) : Device :=
  if Cfg.machineType d.cfg p = 1 then
    match d.wheelAngle p with
    | some th => catchInit p (Vec.polar (Cfg.psiM d.cfg p) th) (d.eng p).psiR 0 5 d
    | none => (d.onEng p fun e => { e with angleTest := some { start := d.now } }).onPort p fun x => { x with catchStep := 2 }
  else catchInit p (0, 0) (0, 0) 0 3 d

/-- A turning motor (R121), with E at the end of the window. -/
def catchTurning (p : PortId) (e1 : Vec) (we n : Rat) (d : Device) : Device :=
  if d.wantsAscAt p n then
    match d.ascSet p with
    | some upper =>
      (ascTurnOn p upper (portGatesStop p d)).onPort p fun x => { x with
        state := .asc, catchStep := 0, stoByRule := true, lastSpeed := n }
    | none => raise .ascUnavailable (.port p) 4 d
  else
    let d0 := d
    let d := d.draw
    let mag := divFree (Config.freeRat d0.fresh) e1.mag (ratAbs we)
    let psi := Vec.polar mag (e1.angle + (if 0 ≤ we then -90 else 90))
    let target := d.refTarget p
    let rev := d.leads && Cfg.controlMode d.cfg p == 0 && decide (n * target < 0)
      && decide ((Cfg.catchRevSpeed d.cfg p : Rat) / 100 * Cfg.ratedSpeed d.cfg p < ratAbs n)
    let d := catchInit p psi (if Cfg.machineType d.cfg p = 2 then psi else (d.eng p).psiR) we (if rev then 4 else 5) d
    d.onPort p fun x => { x with reversing := rev, revLoop := rev }

/-- The 2 ms window of CATCHING has ended: E at the start and at the end of its last 1 ms decides (R119). -/
def catchWindowEnd (p : PortId) (d : Device) : Device :=
  let wheel := d.srcWheel p
  let e1 := d.lineVolts p
  let weE := emfSpeed ((d.emfBefore p).getD e1) e1
  let n := match wheel with
    | some k => d.wheelShaft k
    | none => d.rpmOf p weE
  let we := match wheel with
    | some _ => d.omega p n
    | none => weE
  let still := emfBelow e1 (Cfg.catchEmfMin d.cfg p) && (match wheel with
    | some _ => decide (ratAbs n < Cfg.standstillSpeed d.cfg p)
    | none => true)
  let d := d.onPort p fun x => { x with catchSpeed := n, speedRef := n, twSpeed := wheel.isSome }
  if still then catchStill p d else catchTurning p (emfVec e1) we n d


/-- CATCH_WINDOW_END, 2 ms after the entry to CATCHING. -/
def execCatchWindowEnd (p : PortId) (s : State) : Host.Outcome State Fault Refusal :=
  let x := s.dev.port p
  .next (if x.state = .catching ∧ x.catchStep = 1 ∧ lasted s.dev.now x.catchStart (ms 2) then s.onDev (catchWindowEnd p) else s)

/-- CATCH_FAIL (R122): OBS_CONF still below OBS_CONF_MIN 100 ms after selection started. -/
def execCatchFail (p : PortId) (s : State) : Host.Outcome State Fault Refusal :=
  let x := s.dev.port p
  .next (if x.state = .catching ∧ (lasted s.dev.now x.eng.selStart (ms 100) ∨ s.dev.forced 0x0401 p.num) ∧ x.eng.obsConf < (Cfg.obsConfMin s.dev.cfg p : Rat) then
    s.onDev (raise .catchFail (.port p) 3) else s)

/-- OBS_REPEAT (R127): three entries to CATCHING through step 2 of R126 within 10 s. -/
def execObsRepeat (p : PortId) (s : State) : Host.Outcome State Fault Refusal :=
  let d := s.dev
  .next (if 3 ≤ ((d.port p).recatches.filter fun t => decide (d.now < t + sec 10)).length ∨ d.forced 0x0401 p.num then
    s.onDev (raise .obsRepeat (.port p) 3) else s)

/-! ## The ends of a stop (R123, Table 4.2) -/

/-- The state a stop ends in once standstill has held. -/
def stillTo : StopCause → Option PortState
  | .release => some .armed
  | .disable | .command | .ss1 => some .disabled
  | .f2 | .none => none

/-- STANDSTILL_HELD: standstill has held for 100 ms. An SS1 stop ends so only where its demand has ended (R310), with
RESTART_BLOCK. -/
def standstillHeld (p : PortId) (d : Device) : Device :=
  match stillTo (d.port p).stop with
  | some st =>
    let ss1 := (d.port p).stop == .ss1
    let d := stopEnds st p d
    if ss1 then d.onPsafe p fun x => { x with restartBlock := true } else d
  | none => d

def execStandstillHeld (p : PortId) (s : State) : Host.Outcome State Fault Refusal :=
  let x := s.dev.port p
  .next (if x.state = .stopping ∧ lasted s.dev.now x.stillSince (ms 100) ∧ !(x.stop = .ss1 ∧ (s.dev.psafe p).ss1) then
    s.onDev (standstillHeld p) else s)

/-- STOP_TIMEOUT (R123): a stop other than F2 or SS1 has not reached standstill within STOP_TIMEOUT. -/
def execStopTimeout (p : PortId) (late : Bool) (s : State) : Host.Outcome State Fault Refusal :=
  let x := s.dev.port p
  .next (if x.state = .stopping ∧ (x.stop = .release ∨ x.stop = .disable ∨ x.stop = .command) ∧ !x.coasting
      ∧ x.stillSince.isNone ∧ (lasted s.dev.now x.stopStart (sec (Cfg.stopTimeout s.dev.cfg p)) ∨ s.dev.forced 0x0401 p.num) then
    s.onDev fun d => lateMisc late (raise .stopTimeout (.port p) 2 d) else s)

/-- An F2 stop has ended (R123): SS1_TIME has passed since the reaction began, or the port speed of R128 has stayed below
SS1_STANDSTILL for 10 ms. -/
def Device.f2Ended (d : Device) (p : PortId) : Bool :=
  lasted d.now (d.port p).stopStart (ms (Cfg.ss1Time d.scfg p.num)) || lasted d.now (d.port p).slowSince (ms 10)

/-- F2_STOP_END (R123). -/
def execF2StopEnd (p : PortId) (s : State) : Host.Outcome State Fault Refusal :=
  let x := s.dev.port p
  .next (if x.state = .stopping ∧ x.stop = .f2 ∧ s.dev.f2Ended p then s.onDev (takeSafe false p) else s)

/-! ## Locked rotor (R124, R125) -/

/-- |T*| above LR_TORQUE; and below it. -/
def Device.lrBelow (d : Device) (p : PortId) : Bool :=
  decide (ratAbs (d.eng p).tStar < (Cfg.lrTorque d.cfg p : Rat) / 1000 * Cfg.ratedTorque d.cfg p)

def Device.lrAbove (d : Device) (p : PortId) : Bool :=
  decide ((Cfg.lrTorque d.cfg p : Rat) / 1000 * Cfg.ratedTorque d.cfg p < ratAbs (d.eng p).tStar)

/-- LOCKED_ROTOR: the ceiling starts to slew from the present |T*|, in per cent of RATED_TORQUE. -/
def lockedRotor (p : PortId) (d : Device) : Device :=
  let r := Cfg.ratedTorque d.cfg p
  let pct := if r = 0 then 0 else 100 * ratAbs (d.eng p).tStar / r
  raise .locked (.port p) 1 (d.onPort p fun x => { x with
    locked := true, lrCount := addWrap 16 x.lrCount 1, lockCeil := pct })

def execLockedRotor (p : PortId) (s : State) : Host.Outcome State Fault Refusal :=
  let d := s.dev
  let x := d.port p
  .next (if (x.state = .running ∨ x.state = .stopping) ∧ !x.locked ∧ (d.forced 0x0402 p.num ∨ (d.lrAbove p
      ∧ x.eng.lastComm + ms (Cfg.lrTime d.cfg p) ≤ d.now ∧ lasted d.now x.lrAboveSince (ms (Cfg.lrTime d.cfg p)))) then
    s.onDev (lockedRotor p) else s)

/-- LOCKED_CLEAR (R125). -/
def lockedClear (p : PortId) (d : Device) : Device :=
  clearFault .locked (.port p) (d.onPort p fun x => { x with locked := false })

def execLockedClear (p : PortId) (s : State) : Host.Outcome State Fault Refusal :=
  let d := s.dev
  let x := d.port p
  let comm := decide (d.now < x.eng.lastComm + ms (Cfg.lrTime d.cfg p))
  let left := x.state != .running && x.state != .stopping
  let quiet := lasted d.now x.lrBelowSince (sec 1) && Cfg.lrHold d.cfg p == 0
  .next (if x.locked ∧ (comm || left || quiet) then s.onDev (lockedClear p) else s)

/-! ## The terminal-voltage speed (R128) -/

/-- TERMINAL_SPEED_UPDATE: the change of the angle of E over a complete 1 ms with all gates off. -/
def terminalSpeed (p : PortId) (l0 : Rat × Rat) (d : Device) : Device :=
  let l1 := d.lineVolts p
  let n := if emfBelow l1 (Cfg.catchEmfMin d.cfg p) then 0 else d.rpmOf p (emfSpeed l0 l1)
  d.onPort p fun x => { x with termSpeed := n, termAngle := (emfVec l1).angle, termValid := true }

def execTerminalSpeedUpdate (p : PortId) (s : State) : Host.Outcome State Fault Refusal :=
  .next (if s.dev.ctl.state ≠ .off ∧ (s.dev.eng p).allOff then
      match s.dev.emfBefore p with
      | some l0 => s.onDev (terminalSpeed p l0)
      | none => s
    else s)

end Sys2Proof.Machine
end

