-- ==== Sys2Proof/Machine/Wheels.lean ====
section
/-!
DEFINITION. The tooth-wheel inputs (chapter 5): edges and pulses, direction, the reference pattern and the tooth index,
speed, angle and pass-through.
-/

namespace Sys2Proof.Machine

/-! ## Pass-through (R150, R151) -/

/-- The source of TWn_OUT: the comparator's level before the filter, or the accepted one (R150). -/
def Wheel.passSource (x : Wheel) : Bool := if x.passMode = 1 then x.rawA else x.levelA

/-- TWn_OUT follows its source; after a change of source it holds until the source reaches its level. -/
def Wheel.passFollow (x : Wheel) : Wheel :=
  if x.passMode = 0 then { x with outHigh := false, outWaits := false }
  else if x.outWaits ∧ x.passSource ≠ x.outHigh then x
  else { x with outHigh := x.passSource, outWaits := false }

/-- A change of PASS_MODE at tick 0: mode 0 drives the output low at once. -/
def Wheel.passTake (mode : Nat) (x : Wheel) : Wheel :=
  if mode = x.passMode then x
  else
    let y : Wheel := { x with passMode := mode }
    { y with outWaits := decide (y.passSource ≠ x.outHigh) }.passFollow

/-! ## Reference pattern (R140-R142) -/

/-- The settings of a wheel the tooth logic needs. -/
structure WheelCfg where
  teeth   : Nat
  refType : Nat
  gapN    : Nat
  avg     : Nat
  ratio   : Rat

def wheelCfg (S : Settings) (n : Nat) : WheelCfg :=
  { teeth := Cfg.teeth S n, refType := Cfg.refType S n, gapN := Cfg.gapN S n, avg := Cfg.speedAvg S n, ratio := Cfg.ratio S n }

/-- The known gap lies between the present tooth and the next one in a direction (R144). -/
def Wheel.gapNext (c : WheelCfg) (rev : Bool) (x : Wheel) : Bool :=
  c.refType == 1 && !x.syncSearch && (if rev then x.index == 0 else x.index == c.teeth - c.gapN - 1)

/-- p_next: positions to the next expected edge. -/
def Wheel.positionsNext (c : WheelCfg) (rev : Bool) (x : Wheel) : Nat := if x.gapNext c rev then c.gapN + 1 else 1

/-- An interval is long enough for a gap against the one before it (R140). -/
def gapLong (c : WheelCfg) (t prev : Nat) : Bool := decide ((2 * c.gapN + 1) * prev ≤ 2 * t)

/-- The two intervals before the present edge were a gap candidate. -/
def Wheel.wasGap (c : WheelCfg) (x : Wheel) : Option Nat :=
  match x.intervals with
  | some t :: some prev :: _ => if c.refType = 1 ∧ gapLong c t prev then some t else none
  | _ => none

/-- The gap is declared by the interval that follows it (R140). -/
def Wheel.gapDeclared (c : WheelCfg) (t1 : Option Nat) (x : Wheel) : Bool :=
  match x.wasGap c, t1 with
  | some t, some u => decide ((2 * c.gapN + 1) * u ≤ 2 * t)
  | _, _ => false

/-- Both intervals of an extra tooth (R141). -/
def extraDeclared (t0 t1 prev : Nat) : Bool :=
  decide (4 * t0 < 3 * prev) && decide (4 * t1 < 3 * prev) && decide (3 * prev ≤ 4 * (t0 + t1))
    && decide (4 * (t0 + t1) ≤ 5 * prev)

/-- The tooth index after a number of positions in a direction, with REV_COUNT (R142). -/
def Wheel.count (c : WheelCfg) (rev : Bool) (pos : Nat) (x : Wheel) : Wheel :=
  let i := if rev then (x.index : Int) - pos else (x.index : Int) + pos
  let wraps : Int := if i < 0 then -1 else if (c.teeth : Int) ≤ i then 1 else 0
  { x with
    index := (i % (c.teeth : Int)).toNat, revs := wrap32 (x.revs + wraps)
    sinceRef := x.sinceRef.map fun s => if rev then s - pos else s + pos }

/-- The index a declared reference gives to the present edge: the gap is declared one edge after the edge it names, the
extra tooth at the edge itself (R140, R141). -/
def refIndex (c : WheelCfg) (rev : Bool) : Nat :=
  if c.refType = 1 then (if rev then c.teeth - c.gapN - 2 else 1) else (if rev then c.teeth - 1 else 0)

/-- A synchronisation error (R142). -/
def syncError (n : Nat) (d : Device) : Device :=
  raise .twSync (.wheel n) 0 (d.onWheel n fun x => { x with syncErr := addWrap 16 x.syncErr 1, syncSearch := true })

/-- A reference is found, or an expected one is not, at an edge already counted; judged: the intervals before the edge
take part in reference detection. -/
def referenceStep (n : Nat) (c : WheelCfg) (rev found judged : Bool) (d : Device) : Device :=
  let x := d.wheel n
  let i := refIndex c rev
  if c.refType = 0 then d
  else if found then
    if x.syncSearch then
      match x.sinceRef with
      | some s =>
        let d := d.onWheel n fun x => { x with index := i, sinceRef := some 0, syncSearch := decide (s.natAbs ≠ c.teeth) }
        if s.natAbs = c.teeth then clearFault .twSync (.wheel n) d else d
      | none => d.onWheel n fun x => { x with index := i, sinceRef := some 0 }
    else if x.index = i ∧ !d.forced 0x0501 n then d.onWheel n fun x => { x with sinceRef := some 0 }
    else (syncError n d).onWheel n fun x => { x with index := i, sinceRef := some 0 }
  else if !x.syncSearch && x.index == i && judged then (syncError n d).onWheel n fun x => { x with sinceRef := none }
  else d

/-! ## Speed (R143, R144, R147) -/

/-- Entries of the window the speed is computed over: as many as stay within SPEED_AVG positions, at least one interval.
The result is p and the time between the first and the last edge. -/
def windowSpan (avg : Nat) : List (Nanos × Nat) → Nat → Nanos → Nat × Nanos → Nat × Nanos
  | (_, pos) :: (t, q) :: rest, p, t0, best =>
    if best.1 = 0 ∨ p + pos ≤ avg then windowSpan avg ((t, q) :: rest) (p + pos) t0 (p + pos, t0 - t) else best
  | _, _, _, best => best

/-- The speed of the window, signed; none where it spans no time. -/
def windowSpeed (c : WheelCfg) (rev : Bool) (w : List (Nanos × Nat)) : Option Rat :=
  match w with
  | [] => none
  | (t0, _) :: _ =>
    let s := windowSpan c.avg w 0 t0 (0, 0)
    if s.1 = 0 ∨ s.2 = 0 ∨ c.teeth = 0 then none
    else
      let v := 60 * (s.1 : Rat) * 1000000000 / ((c.teeth : Rat) * (s.2 : Rat)) * c.ratio
      some (if rev then -v else v)

/-- READING_VALID and ANGLE_VALID (R146). -/
def Wheel.validity (S : Settings) (n : Nat) (x : Wheel) : Wheel :=
  let r := Cfg.inputType S n != 0 && x.signalOk && (x.intervalSeen || x.standstill)
  { x with
    readingValid := r
    angleValid := r && Cfg.refType S n != 0 && Cfg.dirMode S n != 0 && decide (Cfg.ratio S n = 1) && !x.syncSearch }

/-- A tooth taken in the forbidden direction adds its pitch to FORBIDDEN_TRAVEL, one in the allowed direction subtracts it,
while SDI is monitored (R312); in 0.1 degrees of the motor shaft. -/
def sdiTooth (n : Nat) (rev : Bool) (p : PortId) (d : Device) : Device :=
  let x := d.psafe p
  let t := Cfg.teeth d.cfg n
  if Cfg.safeSpeedSrc d.scfg p.num = n + 1 ∧ x.sdiMon ∧ t ≠ 0 then
    let step : Rat := 3600 / (t : Rat) * Cfg.ratio d.cfg n
    let bad := x.sdiBoth || (rev != x.sdiNeg)
    d.onPsafe p fun x => { x with travel := if bad then x.travel + step else max 0 (x.travel - step) }
  else d

/-- The positions of the interval before the present one, once it is known whether it was the gap (R140, R142, R143): one counted as
the gap that proves to be none takes its extra positions back, a declared gap counts GAP_N + 1. -/
def Wheel.reviewGap (c : WheelCfg) (known found : Bool) (x : Wheel) : Wheel :=
  match x.window with
  | (t, q) :: w =>
    if c.refType ≠ 1 then x
    else if found then { x with window := (t, if q = 1 then c.gapN + 1 else q) :: w }
    else if known && q == c.gapN + 1 then { (x.count c (!x.reverse) c.gapN) with window := (t, 1) :: w }
    else x
  | [] => x

/-- A tooth is taken at a timing edge (R142, R143, R147): positions, direction, and whether the extra tooth has just been
declared. Where a direction change and the zero-speed timeout coincide the timeout wins (R147). -/
def takeTooth (n : Nat) (stamp : Nanos) (rev extra : Bool) (d : Device) : Device :=
  let c := wheelCfg d.cfg n
  let x := d.wheel n
  let change := x.lastEdge.isSome && x.reverse != rev
  let t1 : Option Nat := match x.lastEdge with
    | some t => if change || x.standstill || x.afresh then none else some (stamp - t)
    | none => none
  let found := extra || x.gapDeclared c t1
  let judged := t1.isSome && (match x.intervals with
    | some _ :: some _ :: _ => true
    | _ => false)
  let cand := match t1, x.intervals with
    | some t, some prev :: _ => x.syncSearch && c.refType == 1 && gapLong c t prev
    | _, _ => false
  let pos := if x.gapNext c rev || cand then c.gapN + 1 else 1
  let d := d.onWheel n fun x => (x.reviewGap c (t1.isSome && (judged || x.syncSearch)) found).count c rev pos
  let d := referenceStep n c rev found judged d
  let tie := change && (x.lastEdge.map fun t => t + ms (Cfg.zeroTimeout d.cfg n)) == some stamp
  let d := d.onWheel n fun x =>
    let w := if t1.isNone then [(stamp, 0)] else ((stamp, pos) :: x.window).take 66
    let v := if t1.isNone then none else windowSpeed c rev w
    { x with
      lastEdge := some stamp, reverse := rev, standstill := tie, afresh := false
      intervals := (t1 :: x.intervals).take 3, window := w
      dirchg := change || (x.dirchg && t1.isNone), dirchgCount := if change then addWrap 16 x.dirchgCount 1 else x.dirchgCount
      lastSpeed := if tie then 0 else v.getD x.lastSpeed, lastPitch := if t1.isSome && pos == 1 then t1 else x.lastPitch
      intervalSeen := x.intervalSeen || t1.isSome }
  (d.onWheel n (Wheel.validity d.cfg n)).each ports (sdiTooth n rev)

/-- An edge whose interval may end at the extra tooth: it waits for the next edge (R141). -/
def Wheel.mayBeExtra (c : WheelCfg) (stamp : Nanos) (rev : Bool) (x : Wheel) : Bool :=
  c.refType == 2 && !x.standstill && !x.afresh && x.reverse == rev && (match x.lastEdge, x.intervals with
    | some t, some prev :: _ => decide (4 * (stamp - t) < 3 * prev)
    | _, _ => false)

/-- A timing edge whose direction is known. -/
def timingEdge (n : Nat) (stamp : Nanos) (rev : Bool) (d : Device) : Device :=
  let c := wheelCfg d.cfg n
  let x := d.wheel n
  let take := fun (d : Device) =>
    if (d.wheel n).mayBeExtra c stamp rev then d.onWheel n fun x => { x with extra := some stamp }
    else takeTooth n stamp rev false d
  match x.extra with
  | none => take d
  | some u =>
    let d := d.onWheel n fun x => { x with extra := none }
    let t0 := u - x.lastEdge.getD u
    let pair := match x.intervals with
      | some prev :: _ => x.reverse == rev && extraDeclared t0 (stamp - u) prev
      | _ => false
    if pair then takeTooth n stamp rev true d else take (takeTooth n u x.reverse false d)

/-! ## The filter, TW_EDGE, TW_PULSE_END (R136-R139) -/

/-- A pulse is discarded (R138); 16 within 1 s raise TW_PW. -/
def pulseDiscard (n : Nat) (d : Device) : Device :=
  let d := d.onWheel n fun x => { x with
    pwErr := addWrap 16 x.pwErr 1, pwTimes := (x.pwTimes.filter fun t => decide (d.now < t + sec 1)) ++ [d.now] }
  if 16 ≤ (d.wheel n).pwTimes.length then raise .twPw (.wheel n) 0 d else d

/-- The trailing edge of a pulse (R138). LAST_PW is the width cut to 0.1 us, up to 65,535 (DESIGN CHOICE, log entry 73: the spec
names no rounding and no value above the range). -/
def twPulseEnd (n : Nat) (lead stamp : Nanos) (d : Device) : Device :=
  let w := stamp - lead
  let d := d.onWheel n fun x => { x with leading := none, lastPw := min 65535 (w / 100) }
  if w < 1000 * Cfg.pwMin d.cfg n ∨ 1000 * Cfg.pwMax d.cfg n < w then pulseDiscard n d
  else timingEdge n lead (decide (1000 * Cfg.pwSplit d.cfg n ≤ w)) d

/-- The timing track changes its accepted level, with the time of the first sample that showed it (R137): a timing edge, or the
trailing edge of a pulse (R138). The direction of DIR_MODE 2 is the accepted level of the second track (R139). -/
def acceptA (n : Nat) (d : Device) : Device :=
  let x := d.wheel n
  let stamp := x.rawASince
  let d := d.onWheel n fun x => { x with levelA := x.rawA }.passFollow
  if Cfg.inputType d.cfg n = 0 then d
  else if x.rawA == Cfg.edgeSel d.cfg n then
    match x.leading with
    | some t => if Cfg.dirMode d.cfg n = 1 then twPulseEnd n t stamp d else d
    | none => d
  else match Cfg.dirMode d.cfg n with
    | 0 => timingEdge n stamp false d
    | 1 => d.onWheel n fun x => { x with leading := some stamp }
    | _ => timingEdge n stamp (x.trackB != Cfg.bFwdLevel d.cfg n) d

/-- The second track changes its accepted level. -/
def acceptB (n : Nat) (d : Device) : Device := d.onWheel n fun x => { x with trackB := x.rawB }

/-- The sample at which a track that shows a new level has shown it FILTER_N times in a row, 25 ns apart (R136). -/
def acceptAt (S : Settings) (n : Nat) (level raw : Bool) (since : Nanos) : Option Nanos :=
  if level = raw then none else some (since + 25 * (Cfg.filterN S n - 1))

/-- Levels accepted up to a time, in the order of their samples; with both in one sample the timing edge finds the second track as
it was before (R139). -/
def twSettle (n : Nat) (upTo : Nanos) (d : Device) : Device :=
  let x := d.wheel n
  let due := fun (t : Option Nanos) => t.any fun t => decide (t ≤ upTo)
  let a := acceptAt d.cfg n x.levelA x.rawA x.rawASince
  let b := acceptAt d.cfg n x.trackB x.rawB x.rawBSince
  let first := due b && (match a, b with
    | some ta, some tb => decide (tb < ta)
    | _, _ => true)
  let d := if first then acceptB n d else d
  let d := if due a then acceptA n d else d
  if due b && !first then acceptB n d else d

/-- A run of equal samples of both tracks: the raw levels change at its first sample; what the levels before it had still to reach
is settled first. -/
def twRun (n : Nat) (start : Nanos) (r : TrackRun) (d : Device) : Device :=
  let d := twSettle n (start - 25) d
  let d := d.onWheel n fun x =>
    { x with rawA := r.a, rawASince := if r.a = x.rawA then x.rawASince else start
             rawB := r.b, rawBSince := if r.b = x.rawB then x.rawBSince else start }.passFollow
  twSettle n (start + 25 * (r.count - 1)) d

/-- Samples of both tracks from a time on (R136). -/
def twFeed (n : Nat) : Nanos → List TrackRun → Device → Device
  | _, [], d => d
  | t, r :: rest, d => twFeed n (t + 25 * r.count) rest (twRun n t r d)

/-- TW_EDGE (R137): evaluated in every state but OFF (R135). -/
def execTwEdge (n : Fin 4) (start : Nat) (runs : List TrackRun) (s : State) : Host.Outcome State Fault Refusal :=
  .next (if s.dev.ctl.state = .off then s else s.onDev (twFeed n start runs))

/-- TW_PULSE_END (R138): the samples that bring the trailing edge of a pulse. -/
def execTwPulseEnd (n : Fin 4) (start : Nat) (runs : List TrackRun) (s : State) : Host.Outcome State Fault Refusal :=
  .next (if s.dev.ctl.state ≠ .off ∧ Cfg.dirMode s.dev.cfg n = 1 ∧ (s.dev.wheel n).leading.isSome then
    s.onDev (twFeed n start runs) else s)

/-- TW_ZERO_TIMEOUT (R144, R147): no edge for ZERO_TIMEOUT. An edge that waited to be told from an extra tooth is a regular one. -/
def twZero (n : Nat) (d : Device) : Device :=
  let d := match (d.wheel n).extra with
    | some u => takeTooth n u (d.wheel n).reverse false (d.onWheel n fun x => { x with extra := none })
    | none => d
  d.onWheel n fun x => ({ x with standstill := true, lastSpeed := 0 } : Wheel).validity d.cfg n

/-- ZERO_TIMEOUT since the last edge, or since the input takes edges, ends in the present beat or before it. -/
def Device.zeroDue (d : Device) (n : Nat) : Bool :=
  let x := d.wheel n
  decide (max x.since ((x.extra.or x.lastEdge).getD 0) + ms (Cfg.zeroTimeout d.cfg n) < d.now + 1000)

def execTwZeroTimeout (n : Fin 4) (late : Bool) (s : State) : Host.Outcome State Fault Refusal :=
  .next (if s.dev.ctl.state ≠ .off ∧ Cfg.inputType s.dev.cfg n ≠ 0 ∧ s.dev.zeroDue n then
    s.onDev fun d => lateMisc late (twZero n d) else s)

/-- TW_SIGNAL (R153): the level or the current out of range for 1 ms. -/
def twSignal (n : Nat) (d : Device) : Device :=
  raise .twSignal (.wheel n) 0 (d.onWheel n fun x => ({ x with signalOk := false } : Wheel).validity d.cfg n)

def execTwSignal (n : Fin 4) (s : State) : Host.Outcome State Fault Refusal :=
  .next (if s.dev.ctl.state ≠ .off ∧ Cfg.inputType s.dev.cfg n ≠ 0 then s.onDev (twSignal n) else s)

/-- The estimator's own speed of a port, rpm. -/
def Device.ownSpeed (d : Device) (p : PortId) : Rat := d.rpmOf p ((d.eng p).we - (d.eng p).wslip)

/-- The wheel's and the estimator's speed differ by more than PLAUS_TOL on a port that uses the wheel (R149). -/
def Device.implausible (d : Device) (n : Nat) : Bool :=
  let tol := Cfg.plausTol d.cfg n
  tol != 0 && ports.any fun p =>
    d.srcWheel p == some n && (d.port p).state == .running && decide ((Cfg.obsConfMin d.cfg p : Rat) ≤ (d.eng p).obsConf)
      && decide ((tol : Rat) / 100 * Cfg.ratedSpeed d.cfg p < ratAbs (d.wheelShaft n - d.ownSpeed p + injSum (d.injected 0x0501 n)))

/-- TW_PLAUS (R149). -/
def execTwPlaus (n : Fin 4) (s : State) : Host.Outcome State Fault Refusal :=
  .next (if s.dev.implausible n ∧ s.dev.held (.twPlaus n) (ms 100) then s.onDev (raise .twPlaus (.wheel n) 0) else s)

/-! ## What happens at tick 0 (R144, R145) -/

/-- TW_SPEED while no edge arrives. -/
def Wheel.speedNow (c : WheelCfg) (now : Nanos) (x : Wheel) : Rat :=
  match x.lastEdge with
  | none => 0
  | some t =>
    if x.standstill then 0
    else if now ≤ t ∨ c.teeth = 0 then x.lastSpeed
    else
      let lim := 60 * (x.positionsNext c x.reverse : Rat) * 1000000000 / ((c.teeth : Rat) * ((now - t : Nat) : Rat)) * c.ratio
      if lim < ratAbs x.lastSpeed then ratSign x.lastSpeed * lim else x.lastSpeed

/-- An angle brought into 0 to 360 degrees. -/
def angle360 (x : Rat) : Rat := x - 360 * (x / 360).floor

/-- TW_ANGLE at tick 0. -/
def Wheel.angleNow (S : Settings) (n : Nat) (now : Nanos) (x : Wheel) : Rat :=
  let c := wheelCfg S n
  let pitch : Rat := if c.teeth = 0 then 0 else 360 / (c.teeth : Rat)
  let base := if x.reverse then ((x.index : Rat) + (Cfg.flankOffset S n : Rat) / 256) * pitch else (x.index : Rat) * pitch
  let top := 255 / 256 * (x.positionsNext c x.reverse : Rat)
  let travel := match x.lastEdge, x.lastPitch with
    | some t, some u => if u = 0 then 0 else min top (((now - t : Nat) : Rat) / (u : Rat))
    | _, _ => 0
  angle360 (base + (if x.reverse then -travel else travel) * pitch - (Cfg.refAngle S n : Rat) / 100)

/-- An input that is off has taken no interval (R146). -/
def Wheel.off (now : Nanos) (x : Wheel) : Wheel :=
  { x with intervalSeen := false, standstill := false, since := now, afresh := true, leading := none, extra := none }

/-- The values of a wheel that serve a beat (R144, R145, R148). -/
def Wheel.atTick (S : Settings) (n : Nat) (ok : Bool) (now : Nanos) (x : Wheel) : Wheel :=
  let x := if Cfg.inputType S n = 0 then x.off now else x
  let x := ({ x with
    signalOk := ok, speed := if ok then x.speedNow (wheelCfg S n) now else 0, angle := x.angleNow S n now
    pwTimes := x.pwTimes.filter fun t => decide (now < t + sec 1) } : Wheel).validity S n
  { x with beatReading := x.readingValid, beatAngle := x.angleValid }

/-- One wheel at tick 0; TW_PW and TW_PLAUS clear with their causes (Table 5.3). -/
def wheelBeat (n : Nat) (d : Device) : Device :=
  let d := twSettle n d.now d
  let ok := Cfg.inputType d.cfg n != 0 && !d.activeAt .twSignal (.wheel n)
  let d := d.onWheel n (Wheel.atTick d.cfg n ok d.now)
  let d := if (d.wheel n).pwTimes.length < 16 then clearFault .twPw (.wheel n) d else d
  if d.activeAt .twPlaus (.wheel n) && !d.implausible n then clearFault .twPlaus (.wheel n) d else d

/-! ## Changing settings (R152) -/

/-- The wheel starts afresh after a commit that changes it; a tooth index beyond the new TEETH is brought into its range (DESIGN
CHOICE, log entry 73). -/
def wheelAfresh (n : Nat) (d : Device) : Device :=
  d.onWheel n fun x => { x with
    index := x.index % max 1 (Cfg.teeth d.cfg n), since := d.nextTick
    readingValid := false, angleValid := false, syncSearch := true, sinceRef := none, window := [], intervals := []
    intervalSeen := false, standstill := false, dirchg := false, leading := none, extra := none, lastPitch := none
    afresh := true, lastSpeed := 0 }

end Sys2Proof.Machine
end

