-- ==== Sys2Proof/Machine/SafetyCore.lean ====
section
/-!
DEFINITION. The safety core (chapter 12): inputs and test pulses, input functions, drive functions, safety outputs, and
the 500 us cycle that evaluates them.
-/

namespace Sys2Proof.Machine

def Device.onSafety (f : Safety → Safety) (d : Device) : Device := { d with safety := f d.safety }

def Device.fn (d : Device) (k : Nat) : InputFn := d.safety.fns.getD k {}
def Device.onFn (k : Nat) (f : InputFn → InputFn) (d : Device) : Device :=
  d.onSafety fun x => { x with fns := x.fns.modify k f }

def Device.input (d : Device) (n : Nat) : SafeInput := d.safety.inputs.getD n {}
def Device.onInput (n : Nat) (f : SafeInput → SafeInput) (d : Device) : Device :=
  d.onSafety fun x => { x with inputs := x.inputs.modify n f }

def Device.sout (d : Device) (n : Nat) : SafeOutput := d.safety.outs.getD n {}
def Device.onSout (n : Nat) (f : SafeOutput → SafeOutput) (d : Device) : Device :=
  d.onSafety fun x => { x with outs := x.outs.modify n f }

/-- The safety core evaluates: it has started and has not failed. -/
def Device.scAlive (d : Device) : Bool := d.safety.sc == .uncommissioned || d.safety.sc == .run

/-! ## Inputs and test pulses (R298-R300) -/

/-- Channel c (0-3) of an input function; 0xFF none. -/
def ifChan (S : Settings) (k c : Nat) : Nat := Cfg.ifCh S k / 256 ^ c % 256

/-- Number of channels of an input function type. -/
def ifChannels : Nat → Nat
  | 1 | 2 | 4 => 2
  | 3 => 4
  | _ => 0

/-- The safety inputs an input function uses. -/
def Device.fnInputs (d : Device) (k : Nat) : List Nat :=
  ((List.range (ifChannels (Cfg.ifType d.scfg k))).map (ifChan d.scfg k)).filter fun n => decide (n < 16)

/-- The input functions that use an input. -/
def Device.usersOf (d : Device) (n : Nat) : List Nat := (List.range 16).filter fun k => (d.fnInputs k).contains n

/-- The reset input (R306): a press of 100 ms to 5 s counts when it ends; a fall ends RESET_STUCK. -/
def resetInput (high : Bool) (d : Device) : Device :=
  if high then d.onSafety fun x => { x with resetHigh := some d.now }
  else
    let good := match d.safety.resetHigh with
      | some t => !d.safety.resetHold && decide (t + ms 100 ≤ d.now) && decide (d.now ≤ t + ms 5000)
      | none => false
    let d := d.onSafety fun x => { x with
      resetHigh := none, resetStuck := false, resetHold := false, resetDue := x.resetDue || good }
    clearFault .resetStuck .module d

/-- SI_LEVEL_ACCEPTED (R298). -/
def levelAccepted (n : Nat) (high : Bool) (d : Device) : Device :=
  let d := d.onInput n fun x => { x with level := high, levelAt := some d.now }
  if Cfg.resetSi d.scfg = n then resetInput high d else d

/-- The new level has stood for SI_FILT, so the level before it is at least as old. -/
def execSiLevelAccepted (n : Fin 16) (high : Bool) (s : State) : Host.Outcome State Fault Refusal :=
  .next (if s.dev.ctl.state ≠ .off ∧ (s.dev.input n).level ≠ high
      ∧ due s.dev.now (s.dev.input n).levelAt (ms (Cfg.siFilt s.dev.scfg n)) then s.onDev (levelAccepted n high) else s)

/-- SI_TEST of an input (R300): its functions are demanded by their next evaluation; an input no function uses reports at
module scope. -/
def siTest (n : Nat) (d : Device) : Device :=
  let d := d.onInput n fun x => { x with test := true, safeSeen := x.test && x.safeSeen }
  match d.usersOf n with
  | [] => raise .siTest .module 0 d
  | ks => d.each ks fun k => raise .siTest (.inputFn k) 0

/-- The result of a period for one input at the window of its own test-pulse output (R299, R300). -/
def testPeriod (n : Nat) (low : Bool) (d : Device) : Device :=
  let pass := low && !(d.input n).cross && !d.forced 0x0C04 n
  let d := d.onInput n fun x => { x with
    cross := false, failRun := if pass then 0 else x.failRun + 1, passRun := if pass then x.passRun + 1 else 0 }
  if 2 ≤ (d.input n).failRun then siTest n d else d

/-- TEST_PULSE (R299): the pulse of TPk and the inputs that read low in its window (those of another output: reading high
just before and after). -/
def testPulse (k : Nat) (low : List Nat) (d : Device) : Device :=
  let d := d.onSafety fun x => { x with tpAt := x.tpAt.set k (some d.now) }
  d.each (List.range 16) fun n d =>
    let tp := Cfg.siTp d.scfg n
    if tp = k then testPeriod n (low.contains n) d
    else if tp < 8 ∧ low.contains n then d.onInput n fun x => { x with cross := true }
    else d

/-- The pulse of TPk is due: that of TP0 every TP_PERIOD, the others k eighths of it after that of TP0 (R299). -/
def Device.pulseDue (d : Device) (k : Nat) : Bool :=
  let period := ms (Cfg.tpPeriod d.scfg)
  let last := fun j => d.safety.tpAt.getD j none
  if k = 0 then due d.now (last 0) period
  else match last 0 with
    | some t => decide (t + k * period / 8 ≤ d.now) && (match last k with
      | some u => decide (u < t)
      | none => true)
    | none => false

def execTestPulse (k : Fin 8) (low : List (Fin 16)) (s : State) : Host.Outcome State Fault Refusal :=
  .next (if s.dev.ctl.state ≠ .off ∧ s.dev.scAlive ∧ s.dev.pulseDue k then s.onDev (testPulse k (low.map Fin.val)) else s)

/-! ## Input functions (R301-R306) -/

/-- Level of a channel of a function. -/
def Device.chanHigh (d : Device) (k c : Nat) : Bool :=
  let n := ifChan d.scfg k c
  decide (n < 16) && (d.input n).level

/-- The bit of a Dorid payload. -/
def payloadBit (b : Nat) (l : List Byte) : Bool := (l.getD (b / 8) 0).getLsbD (b % 8)

/-- The connection and bit of a network demand. -/
def ifConn (S : Settings) (k : Nat) : Nat := Cfg.ifDorid S k / 256
def ifBit (S : Settings) (k : Nat) : Nat := Cfg.ifDorid S k % 256

/-- Hand h (0, 1) of a two-hand control is actuated, or released (R303). -/
def Device.handOn (d : Device) (k h : Nat) : Bool := d.chanHigh k (2 * h) && !d.chanHigh k (2 * h + 1)
def Device.handOff (d : Device) (k h : Nat) : Bool := !d.chanHigh k (2 * h) && d.chanHigh k (2 * h + 1)

/-- CH_ACTIVE of a function (R302, R303, R305). -/
def Device.fnActive (d : Device) (k : Nat) : List Bool :=
  match Cfg.ifType d.scfg k with
  | 1 | 2 | 4 => [d.chanHigh k 0, d.chanHigh k 1 != (Cfg.ifPolarity d.scfg k == 1), false, false]
  | 3 => [d.chanHigh k 0, d.chanHigh k 1, d.chanHigh k 2, d.chanHigh k 3]
  | 5 =>
    let x := d.conn (ifConn d.scfg k)
    [x.state == .run && payloadBit (ifBit d.scfg k) x.payload, false, false, false]
  | _ => [false, false, false, false]

/-- Both channels of a function are in their safe state: not active, or both hands released. -/
def Device.fnSafe (d : Device) (k : Nat) : Bool :=
  match Cfg.ifType d.scfg k with
  | 3 => d.handOff k 0 && d.handOff k 1
  | 5 => !((d.fnActive k).getD 0 false)
  | _ => !((d.fnActive k).getD 0 false) && !((d.fnActive k).getD 1 false)

/-- SI_TEST of an input clears: it has passed in two consecutive periods, and the channels of its function have been in their
safe state together; an input without a function has no such channels (R300). -/
def SafeInput.unlatch (used : Bool) (x : SafeInput) : SafeInput :=
  if x.test && decide (2 ≤ x.passRun) && (x.safeSeen || !used) then { x with test := false, safeSeen := false, failRun := 0 } else x

/-- The latched conditions of a function clear (R300, R302). -/
def fnUnlatch (k : Nat) (d : Device) : Device :=
  let d := if (d.fn k).disc && d.fnSafe k then
      clearFault .siDisc (.inputFn k) (d.onFn k fun x => { x with disc := false }) else d
  let d := if d.fnSafe k then d.each (d.fnInputs k) fun n => Device.onInput n fun x => { x with safeSeen := x.test } else d
  let d := d.each (d.fnInputs k) fun n => Device.onInput n (SafeInput.unlatch true)
  if (d.fnInputs k).any fun n => (d.input n).test then d else clearFault .siTest (.inputFn k) d

/-- The inputs that no function uses. -/
def Device.freeInputs (d : Device) : List Nat := (List.range 16).filter fun n => (d.usersOf n).isEmpty

/-- SI_TEST of the inputs that no function uses, the reset input among them, clears by their passes alone. -/
def freeUnlatch (d : Device) : Device :=
  let d := d.each d.freeInputs fun n => Device.onInput n (SafeInput.unlatch false)
  if d.freeInputs.any fun n => (d.input n).test then d else clearFault .siTest .module d

/-- The sequence of a two-hand control (R303): demand, readiness and the time of the first actuation. -/
def twoHand (now : Nanos) (on1 on2 off1 off2 latched : Bool) (x : InputFn) : InputFn :=
  if off1 && off2 then { x with demand := true, handsReady := true, firstHand := none }
  else if !x.demand then
    if on1 && on2 && !latched then x else { x with demand := true, handsReady := false, firstHand := none }
  else if latched || !x.handsReady then { x with demand := true }
  else if on1 && on2 then
    match x.firstHand with
    | none => { x with demand := false, handsReady := false }
    | some t =>
      if now ≤ t + ms 500 then { x with demand := false, handsReady := false, firstHand := none }
      else { x with handsReady := false, firstHand := none }
  else if on1 || on2 then { x with firstHand := some (x.firstHand.getD now) }
  else x

/-- The demand of a function whose conditions hold or not, with the reset of this cycle (R302, R306): a new demand wins
over the reset and shows WAIT_RESET with it. -/
def InputFn.judge (cond manual reset : Bool) (x : InputFn) : InputFn :=
  if !cond then { x with demand := true, waitReset := manual && reset }
  else if manual && x.demand && !reset then { x with waitReset := true }
  else { x with demand := false, waitReset := false }

/-- The guy-line consumer connection of this module (R333): the first active consumer record on the guy line. -/
def Device.guyConsumer (d : Device) : Option Nat :=
  (List.range 256).find? fun c =>
    Cfg.dcRole d.scfg c == 1 && Cfg.dcPort d.scfg c == 4
      && (Cfg.dcModule d.scfg c == 0 || Cfg.dcModule d.scfg c == Cfg.pairPosition d.cfg)

/-- A network demand in one cycle: one of the partner's connection that stands when the partner is lost ends only with a reset
taken here (R305, R318). -/
def InputFn.net (act : List Bool) (lost guy present manual reset : Bool) (x : InputFn) : InputFn :=
  let hold := (x.lossHold && !(reset && act.getD 0 false)) || (guy && !present && x.demand)
  ({ x with active := act, netLost := lost, lossHold := hold } : InputFn).judge (act.getD 0 false) (manual || x.lossHold || hold) reset

/-- One input function in one cycle. -/
def evalFn (reset : Bool) (k : Nat) (d : Device) : Device :=
  let S := d.scfg
  let d := fnUnlatch k d
  let act := d.fnActive k
  let latched := (d.fn k).disc || (d.fnInputs k).any fun n => (d.input n).test
  let manual := Cfg.ifReset S k == 1
  match Cfg.ifType S k with
  | 1 | 2 | 4 =>
    d.onFn k fun x => { x with active := act }.judge (act.getD 0 false && act.getD 1 false && !latched) manual reset
  | 3 =>
    d.onFn k fun x =>
      twoHand d.now (d.handOn k 0) (d.handOn k 1) (d.handOff k 0) (d.handOff k 1) latched { x with active := act }
  | 5 =>
    let lost := (d.conn (ifConn S k)).state == .expired
    d.onFn k (InputFn.net act lost (d.guyConsumer == some (ifConn S k)) d.ctl.partnerPresent manual reset)
  | _ => d.onFn k fun x => { x with
      active := act, demand := false, waitReset := false, netLost := false, handsReady := false, firstHand := none }

/-- The channels of a function disagree, or hand h is in neither state (R302, R303). -/
def Device.disagrees (d : Device) (k h : Nat) : Bool :=
  match Cfg.ifType d.scfg k with
  | 1 | 2 | 4 => h == 0 && (d.fnActive k).getD 0 false != (d.fnActive k).getD 1 false
  | 3 => !d.handOn k h && !d.handOff k h
  | _ => false

/-- Since when they do, as each cycle finds it. -/
def discTrack (k : Nat) (d : Device) : Device :=
  let one := (d.fnInputs k).any fun n => d.forced 0x0C04 n
  d.onFn k fun x => { x with
    discSince := since d.now (d.disagrees k 0 || one) x.discSince, handSince := since d.now (d.disagrees k 1) x.handSince }

def siDisc (k : Nat) (d : Device) : Device :=
  raise .siDisc (.inputFn k) 0 (d.onFn k fun x => { x with disc := true })

/-- The time a disagreement may last, ns: IF_DISC_T, 50 ms for a hand. -/
def Device.discTime (d : Device) (k : Nat) : Nat := if Cfg.ifType d.scfg k = 3 then ms 50 else ms (Cfg.ifDiscT d.scfg k)

/-- SI_DISC: the channels have disagreed for longer than IF_DISC_T, or a hand has been in neither state for more than 50 ms. -/
def execSiDisc (k : Fin 16) (s : State) : Host.Outcome State Fault Refusal :=
  let t := s.dev.discTime k
  .next (if s.dev.ctl.state ≠ .off ∧ s.dev.scAlive
      ∧ (overdue s.dev.now (s.dev.fn k).discSince t ∨ overdue s.dev.now (s.dev.fn k).handSince t) then s.onDev (siDisc k) else s)

/-- TWO_HAND_TIMEOUT (R303): the demand stays; an actuation that lost to the timeout is counted in SAFE_LATE. -/
def twoHandTimeout (k : Nat) (d : Device) : Device :=
  let late := d.handOn k 0 && d.handOn k 1
  let d := d.onFn k fun x => { x with handsReady := false, firstHand := none }
  if late then d.onSafety fun x => { x with safeLate := addWrap 16 x.safeLate 1 } else d

def execTwoHandTimeout (k : Fin 16) (s : State) : Host.Outcome State Fault Refusal :=
  .next (if s.dev.scAlive ∧ (s.dev.fn k).demand ∧ lasted s.dev.now (s.dev.fn k).firstHand (ms 500) then s.onDev (twoHandTimeout k)
    else s)

/-- RESET_STUCK (R306): the reset input has stayed high for more than 5 s. -/
def execResetStuck (s : State) : Host.Outcome State Fault Refusal :=
  .next (if s.dev.scAlive ∧ (overdue s.dev.now s.dev.safety.resetHigh (ms 5000) ∨ s.dev.forced 0x0C04 (Cfg.resetSi s.dev.scfg)) then
    s.onDev fun d => raise .resetStuck .module 0 (d.onSafety fun x => { x with resetStuck := true, resetHold := true })
    else s)

/-! ## Safe speed (R307) -/

/-- The safe speed of a port: its reading and whether it is valid. -/
def Device.safeReading (d : Device) (p : PortId) : Rat × Bool :=
  let n := Cfg.safeSpeedSrc d.scfg p.num
  if n = 0 then (0, false)
  else
    let w := d.wheel (n - 1)
    (w.speed, w.readingValid && w.signalOk)

/-- The second speed of the cross-check, where it runs. -/
def Device.secondSpeed (d : Device) (p : PortId) : Option Rat :=
  let x := d.port p
  if Cfg.safeSpeedSrc d.scfg p.num = 0 then none
  else if (match x.state with
      | .catching => x.eng.selecting || x.eng.initDone
      | .running | .stopping => true
      | _ => false) then
    if (Cfg.obsConfMin d.cfg p : Rat) ≤ x.eng.obsConf then some x.eng.speed else none
  else if x.eng.allOff && x.termValid && decide (x.termSpeed ≠ 0) then some x.termSpeed
  else none

/-- The safe speed differs from the second speed by more than SAFE_XCHK_TOL per cent of RATED_SPEED. -/
def Device.speedDiffers (d : Device) (p : PortId) : Bool :=
  match d.secondSpeed p with
  | some v => decide ((Cfg.safeXchkTol d.scfg p.num : Rat) / 100 * Cfg.ratedSpeed d.cfg p
      < ratAbs ((d.safeReading p).1 + injSum (d.injected 0x0C05 p.num) - v))
  | none => false

/-! ## Demands on a port (R308-R314, R317, R318) -/

/-- An input function demands an action on a port. -/
def Device.fnDemands (d : Device) (p : PortId) (action : Nat) : Bool :=
  (List.range 16).any fun k =>
    Cfg.ifType d.scfg k != 0 && (d.fn k).demand && Cfg.ifAction d.scfg k == action && (Cfg.ifScope d.scfg k).testBit p.num

/-- A demand taken from the partner (bits of byte 1 of Table 13.3). -/
def Device.pairDemand (d : Device) (b : Nat) : Bool := d.safety.pairDem.getD b false

/-- The ports a safety output serves (R315). -/
def Device.outServes (d : Device) (n : Nat) (p : PortId) : Bool :=
  match Cfg.soMode d.scfg n with
  | 1 => p == .a
  | 2 => p == .b
  | 3 => true
  | 4 => (Cfg.ifScope d.scfg (Cfg.soIf d.scfg n)).testBit p.num
  | _ => false

/-- SS1 is demanded on a port. -/
def Device.ss1Wanted (d : Device) (p : PortId) : Bool :=
  d.fnDemands p 2 || d.pairDemand 1 || ((d.psafe p).slsViol && Cfg.slsReact d.scfg p.num == 1)

/-- STO is demanded on a port. -/
def Device.stoWanted (d : Device) (p : PortId) : Bool :=
  let x := d.psafe p
  d.safety.sc != .run || d.safety.wdogLines || d.fnDemands p 1 || d.safety.pairSto || d.pairDemand 0 || d.safety.dorPairSto || d.safety.guySto
    || x.xchkFault || x.invFault || x.ss1Viol || x.sdiViol || (x.slsViol && Cfg.slsReact d.scfg p.num == 0)
    || (x.ss1Done && d.ss1Wanted p) || d.forced 0x0C08 p.num || [0, 1, 2, 3].any fun n => (d.sout n).fault && d.outServes n p

/-- Levels of SLS demanded on a port. -/
def Device.slsLevels (d : Device) (p : PortId) : List Nat :=
  [0, 1, 2, 3].filter fun l => d.fnDemands p (3 + l) || d.pairDemand (2 + l)

/-- The demanded level with the lowest limit (R311). -/
def Device.slsLowest (d : Device) (p : PortId) : Option Nat :=
  match d.slsLevels p with
  | [] => none
  | l :: ls => some (ls.foldl (fun a b => if Cfg.slsLim d.scfg p.num b < Cfg.slsLim d.scfg p.num a then b else a) l)

def Device.sdiPosWanted (d : Device) (p : PortId) : Bool := d.fnDemands p 7 || d.pairDemand 6
def Device.sdiNegWanted (d : Device) (p : PortId) : Bool := d.fnDemands p 8 || d.pairDemand 7

/-- The demands of a violation are latched: raised once. -/
def violate (f : FaultName) (p : PortId) (set : PortSafety → PortSafety) (d : Device) : Device :=
  raise f (.port p) 0 (d.onPsafe p set)

/-- The STO line of a port is asserted (R295): its islands take their preset by an immediate start. -/
def lineAssert (p : PortId) (d : Device) : Device :=
  let d := d.onSafety fun x => match p with
    | .a => { x with lineA := true }
    | .b => { x with lineB := true }
  let d := d.each p.stage.islands fun i => Device.onIsland i (Island.enterPreset p.stage d.now)
  raise .safetySto (.port p) 3 d

/-- The line of a port is released: no latched fault is cleared (R295). -/
def lineRelease (p : PortId) (d : Device) : Device :=
  let d := d.onSafety fun x => match p with
    | .a => { x with lineA := false }
    | .b => { x with lineB := false }
  clearFault .safetySto (.port p) d

/-- STO of a port (R308, R309): the line while the demand lasts; its end leaves RESTART_BLOCK. -/
def applySto (p : PortId) (d : Device) : Device :=
  let x := d.psafe p
  if d.stoWanted p then
    let d := if !x.sto ∨ !d.activeAt .safetySto (.port p) then lineAssert p d else d
    d.onPsafe p fun x => { x with
      sto := true, stoSince := if x.sto then x.stoSince else some d.now, ss1 := false, ss1Mon := false }
  else if x.sto then
    (lineRelease p d).onPsafe p fun x => { x with sto := false, stoSince := none, restartBlock := true }
  else d

/-- SS1 of a port begins or ends (R310, R314): a more severe STO replaces it. -/
def applySs1 (p : PortId) (d : Device) : Device :=
  let want := d.ss1Wanted p
  d.onPsafe p fun x =>
    if x.sto then { x with ss1 := false, ss1Mon := false, ss1Done := x.ss1Done && want }
    else if want && !x.ss1 && !x.ss1Done then
      { x with ss1 := true, ss1Mon := Cfg.ss1Mode d.scfg p.num == 1, ss1Start := some d.now, ss1N0 := x.speed, ss1Over := 0 }
    else if !want then { x with ss1 := false, ss1Mon := false, ss1Done := false, ss1Start := none }
    else x

/-- SLS and SDI of a port begin or end (R311, R312). -/
def applySlsSdi (p : PortId) (d : Device) : Device :=
  let lvl := d.slsLowest p
  let pos := d.sdiPosWanted p
  let neg := d.sdiNegWanted p
  let still := Cfg.ss1Standstill d.scfg p.num
  d.onPsafe p fun x =>
    let x := match lvl with
      | some l => { x with
          sls := true, slsLevel := l, slsStart := if x.sls && x.slsLevel == l then x.slsStart else some d.now
          slsN0 := if x.sls && x.slsLevel == l then x.slsN0 else ratAbs x.speed
          slsOver := if x.sls && x.slsLevel == l then x.slsOver else 0 }
      | none => { x with sls := false, slsLevel := 0, slsStart := none, slsOver := 0 }
    if pos || neg then
      if x.sdi && x.sdiNeg == (neg && !pos) && x.sdiBoth == (pos && neg) then x
      else
        let wrong := decide (still < ratAbs x.speed) && ((pos && decide (x.speed < 0)) || (neg && decide (0 < x.speed)))
        { x with sdi := true, sdiNeg := neg && !pos, sdiBoth := pos && neg, sdiMon := !wrong, sdiStart := some d.now, travel := 0 }
    else { x with sdi := false, sdiNeg := false, sdiBoth := false, sdiMon := false, sdiStart := none }

/-- The demands of a port take effect. -/
def applyDemands (p : PortId) (d : Device) : Device := applySlsSdi p (applySs1 p (applySto p d))

/-! ## Monitoring (R307, R310-R312) -/

/-- Seconds since a time. -/
def Device.secondsSince (d : Device) (t : Option Nanos) : Rat :=
  match t with
  | some u => ((d.now - u : Nat) : Rat) / 1000000000
  | none => 0

/-- The monitoring limit of SS1-r. -/
def Device.ss1Limit (d : Device) (p : PortId) : Rat :=
  let x := d.psafe p
  if d.forced 0x0C06 p.num then 0
  else max (ratAbs x.ss1N0 + Cfg.ss1Tol d.scfg p.num - Cfg.ss1DecelMon d.scfg p.num * d.secondsSince x.ss1Start)
    (Cfg.ss1Standstill d.scfg p.num)

/-- The monitoring limit of SLS. -/
def Device.slsLimit (d : Device) (p : PortId) : Rat :=
  let x := d.psafe p
  let lim := Cfg.slsLim d.scfg p.num x.slsLevel
  if d.forced 0x0C06 p.num then 0
  else max lim (max (x.slsN0 + Cfg.ss1Tol d.scfg p.num) lim - Cfg.ss1DecelMon d.scfg p.num * d.secondsSince x.slsStart)

/-- The safe speed of a cycle; an invalid one is a fault while a function needs it (R307). -/
def monitorSpeed (p : PortId) (d : Device) : Device :=
  let r := ((d.safeReading p).1, (d.safeReading p).2 && !d.forced 0x0C05 p.num)
  let slow := decide (ratAbs r.1 < Cfg.ss1Standstill d.scfg p.num)
  let d := d.onPsafe p fun x => { x with
    speed := r.1, speedOk := r.2, xchk := (d.secondSpeed p).isSome
    xchkSince := since d.now (d.speedDiffers p) x.xchkSince, slowSince := since d.now slow x.slowSince }
  let x := d.psafe p
  if !r.2 && ((x.ss1 && x.ss1Mon) || x.sls || x.sdi) && !x.invFault then
    violate .safeSpeedInv p (fun x => { x with invFault := true }) d
  else d

/-- SS1-r: two consecutive cycles above the limit. -/
def monitorSs1 (p : PortId) (d : Device) : Device :=
  let x := d.psafe p
  if !(x.ss1 && x.ss1Mon) then d
  else
    let d := d.onPsafe p fun x => { x with ss1Over := if d.ss1Limit p < ratAbs x.speed then x.ss1Over + 1 else 0 }
    if 2 ≤ (d.psafe p).ss1Over then violate .ss1RampViol p (fun x => { x with ss1Viol := true }) d else d

/-- SLS: two consecutive cycles above the limit. -/
def monitorSls (p : PortId) (d : Device) : Device :=
  if !(d.psafe p).sls then d
  else
    let d := d.onPsafe p fun x => { x with slsOver := if d.slsLimit p < ratAbs x.speed then x.slsOver + 1 else 0 }
    if 2 ≤ (d.psafe p).slsOver then violate .slsViol p (fun x => { x with slsViol := true }) d else d

/-- SDI: the start of monitoring, its lapse, and the travel. -/
def monitorSdi (p : PortId) (d : Device) : Device :=
  let x := d.psafe p
  if !x.sdi then d
  else if !x.sdiMon then
    if ratAbs x.speed < Cfg.ss1Standstill d.scfg p.num then d.onPsafe p fun x => { x with sdiMon := true }
    else match x.sdiStart with
      | some t =>
        if t + ms (Cfg.ss1Time d.scfg p.num) ≤ d.now then violate .sdiViol p (fun x => { x with sdiViol := true }) d else d
      | none => d
  else if (Cfg.sdiTol d.scfg p.num : Rat) < x.travel ∨ d.forced 0x0C06 p.num then violate .sdiViol p (fun x => { x with sdiViol := true }) d
  else d

/-- A taken reset clears the violations and the latched speed faults whose cause has ended (R306, R307). -/
def resetPort (p : PortId) (d : Device) : Device :=
  let x := d.psafe p
  let inv := !(d.safeReading p).2 && ((x.ss1 && x.ss1Mon) || x.sls || x.sdi)
  let d := d.onPsafe p fun x => { x with
    ss1Viol := false, slsViol := false, sdiViol := false, xchkFault := x.xchkFault && d.speedDiffers p
    invFault := x.invFault && inv, travel := if x.sdiViol then 0 else x.travel }
  let d := d.each [.ss1RampViol, .slsViol, .sdiViol] fun f => clearFault f (.port p)
  let d := if (d.psafe p).xchkFault then d else clearFault .speedXchk (.port p) d
  if (d.psafe p).invFault then d else clearFault .safeSpeedInv (.port p) d

/-- A taken reset clears what it clears at module level: SO_FAULT after 1 s of healthy read-back, DORID_PAIR_EXPIRED with
its connection in RUN, the STO of a failed guy line. -/
def resetModule (guyRuns : Bool) (d : Device) : Device :=
  let d := d.each [0, 1, 2, 3] fun n d =>
    if (d.sout n).fault ∧ (d.sout n).healthy then
      clearFault .soFault (.output n) (d.onSout n fun x => { x with fault := false, healthy := false })
    else d
  let d := if d.safety.dorPairSto && guyRuns then
      clearFault .doridPairExpired .module (d.onSafety fun x => { x with dorPairSto := false })
    else d
  d.onSafety fun x => { x with guySto := false }

/-! ## The pair (R33, R317, R318) -/

/-- Demands taken from the partner: they end with the sender's demand under automatic reset while the partner is present,
else with a reset taken here. -/
def pairDemands (reset : Bool) (d : Device) : Device :=
  let x := d.safety
  let conn := match d.guyConsumer with
    | some c => d.conn c
    | none => {}
  let live := d.paired && d.ctl.partnerPresent && conn.state == .run
  let manual := payloadBit 2 conn.payload
  let stoIn := d.paired && d.ctl.partnerPresent && d.ctl.pairStoIn
  let want := (List.range 8).map fun b => live && !payloadBit (8 + b) conn.payload
  let held := x.pairSto || x.pairDem.any id
  let wait := held && (x.pairWait || manual || !d.ctl.partnerPresent)
  let keep := fun (was now : Bool) => now || (was && (if wait then !reset else false))
  let dem := List.zipWith keep x.pairDem want
  let sto := keep x.pairSto stoIn
  d.onSafety fun x => { x with
    pairIn := stoIn, pairSto := sto, pairDem := dem, pairWait := wait && !reset && (sto || dem.any id) }

/-- The expiry of the guy-line consumer since the last cycle: STO on both ports while the partner is present; where the partner is
lost in the same cycle the loss wins (R333). -/
def pairExpiry (d : Device) : Device :=
  if !d.safety.pairExpired then d
  else
    let d := d.onSafety fun x => { x with pairExpired := false, dorPairSto := x.dorPairSto || d.ctl.partnerPresent }
    if d.ctl.partnerPresent then raise .doridPairExpired .module 0 d else d

/-- A machine-scope function demands STO, or SS1 that has ended in STO: PAIR_STO_OUT (R33, R308). -/
def Device.machineSto (d : Device) : Bool :=
  (List.range 16).any fun k =>
    Cfg.ifType d.scfg k != 0 && (d.fn k).demand && (Cfg.ifScope d.scfg k).testBit 2
      && (Cfg.ifAction d.scfg k == 1
        || (Cfg.ifAction d.scfg k == 2
          && ports.any fun p => (Cfg.ifScope d.scfg k).testBit p.num && (d.psafe p).sto && (d.psafe p).ss1Done))

/-! ## Safety outputs (R313, R315) -/

/-- The brake of a port is released by its state and demands (R313). -/
def Device.brakeFree (d : Device) (p : PortId) : Bool :=
  let moving := match (d.port p).state with
    | .catching | .running | .stopping => true
    | _ => false
  moving && !(d.psafe p).sto

/-- A safety STO turns the brake output off SBC_DELAY after the line is asserted, not at the end of an SS1 and not where
the port takes F3, F4 or ASC. -/
def Device.brakeDelay (d : Device) (p : PortId) : Bool :=
  let x := d.psafe p
  x.sto && !x.ss1Done && decide ((d.port p).state ≠ .asc) && !(d.faults.active.any fun e =>
      e.name != .safetySto && e.acts.any fun a => a.1.touches p.stage && decide (3 ≤ a.2))
    && (match x.stoSince with
      | some t => decide (d.now < t + ms (Cfg.sbcDelay d.scfg p.num))
      | none => false)

/-- No machine-scope STO or SS1 demand is active (SO_MODE 3), of this module or forwarded by the partner (R317). -/
def Device.machineFree (d : Device) : Bool :=
  !d.safety.pairSto && !d.pairDemand 0 && !d.pairDemand 1 && !((List.range 16).any fun k =>
    Cfg.ifType d.scfg k != 0 && (d.fn k).demand && (Cfg.ifScope d.scfg k).testBit 2 && decide (Cfg.ifAction d.scfg k ≤ 2))

/-- What an output follows. -/
def Device.outWanted (d : Device) (n : Nat) : Bool :=
  let brake := fun p => d.brakeFree p || (d.brakeDelay p && (d.sout n).on)
  if (d.sout n).fault || d.safety.sc != .run then false
  else match Cfg.soMode d.scfg n with
    | 1 => brake .a
    | 2 => brake .b
    | 3 => d.machineFree
    | 4 => !(d.fn (Cfg.soIf d.scfg n)).demand
    | _ => false

/-- The brake output of a port, if it has one. -/
def Device.brakeOut (d : Device) (p : PortId) : Option Nat :=
  [0, 1, 2, 3].find? fun n => Cfg.soMode d.scfg n == p.num + 1

/-- One output in one cycle; the release of a brake starts SBC_RELEASE_T. -/
def outCycle (n : Nat) (d : Device) : Device :=
  let want := d.outWanted n
  let rise := want && !(d.sout n).on
  let d := d.onSout n fun x => { x with
    on := want, pulseAt := if rise then d.now else x.pulseAt, retDone := if rise then true else x.retDone }
  if rise then
    match Cfg.soMode d.scfg n with
    | 1 => d.onPsafe .a fun x => { x with sbcWait := true, sbcOnAt := some d.now }
    | 2 => d.onPsafe .b fun x => { x with sbcWait := true, sbcOnAt := some d.now }
    | _ => d
  else d

/-! ## SAFETY_CYCLE (R293) -/

/-- The payloads accepted since the last cycle reach the safety core (R327). -/
def deliver (d : Device) : Device :=
  let l := d.safety.payloads
  (d.each l fun e => Device.onConn e.1 fun x => { x with payload := e.2 }).onSafety fun x => { x with payloads := [] }

/-- The reset bit of the connection RESET_DORID names (R306). -/
def resetDorid (d : Device) : Device :=
  let c := Cfg.resetDorid d.scfg
  if 255 < c then d
  else
    let x := d.conn c
    if x.state ≠ .run then d.onSafety fun y => { y with dorResetSeen := false }
    else if payloadBit 0 x.payload then d.onSafety fun y => { y with dorResetSeen := true }
    else d.onSafety fun y => { y with dorResetSeen := false, resetDue := y.resetDue || y.dorResetSeen }

/-- One cycle of the safety core; ecc single errors have been corrected since the last one (R294). -/
def safetyCycle (ecc : Nat) (d : Device) : Device :=
  let d := d.onSafety fun x => { x with eccCorr := addWrap 32 x.eccCorr ecc, cycleAt := some d.now }
  let d := resetDorid (deliver d)
  let reset := d.safety.resetDue
  let d := freeUnlatch (d.each (List.range 16) fun k d => discTrack k (evalFn reset k d))
  let d := pairDemands reset (pairExpiry d)
  let d := d.each ports fun p d => monitorSdi p (monitorSls p (monitorSs1 p (monitorSpeed p d)))
  let guy := match d.guyConsumer with
    | some c => (d.conn c).state == .run
    | none => false
  let d := if reset then resetModule guy (d.each ports resetPort) else d
  let d := d.each ports applyDemands
  let d := d.onSafety fun x => { x with resetDue := false, resetOut := reset, pairOut := x.sc == .run && d.machineSto }
  d.each [0, 1, 2, 3] outCycle

/-- A cycle starts at each module-time multiple of 500 us (R293). -/
def Device.cycleDue (d : Device) : Bool := d.now % 500000 == 0 && d.safety.cycleAt != some d.now

def execSafetyCycle (ecc : Nat) (s : State) : Host.Outcome State Fault Refusal :=
  .next (if s.dev.ctl.state ≠ .off ∧ s.dev.scAlive ∧ s.dev.cycleDue then s.onDev (safetyCycle ecc) else s)

/-- PAIR_STO_IN_HIGH (R33): evaluated only while the partner is present; STO within 2 ms. -/
def pairStoHigh (d : Device) : Device :=
  let d := { d with ctl := { d.ctl with pairStoIn := true } }
  (d.onSafety fun x => { x with pairIn := true, pairSto := true }).each ports applyDemands

def execPairStoInHigh (s : State) : Host.Outcome State Fault Refusal :=
  .next (if s.dev.paired ∧ s.dev.ctl.partnerPresent ∧ s.dev.scAlive then s.onDev pairStoHigh else s)

/-! ## The other events -/

/-- SPEED_XCHK (R307): the difference has lasted SAFE_XCHK_T. -/
def execSpeedXchk (p : PortId) (s : State) : Host.Outcome State Fault Refusal :=
  .next (if s.dev.scAlive ∧ lasted s.dev.now (s.dev.psafe p).xchkSince (ms (Cfg.safeXchkT s.dev.scfg p.num)) then
    s.onDev fun d => applyDemands p (violate .speedXchk p (fun x => { x with xchkFault := true }) d) else s)

/-- SS1 ends in its STO demand (R310). -/
def ss1End (p : PortId) (d : Device) : Device := applyDemands p (d.onPsafe p fun x => { x with ss1Done := true })

/-- SS1_STANDSTILL_REACHED (R310). -/
def execSs1StandstillReached (p : PortId) (s : State) : Host.Outcome State Fault Refusal :=
  let d := s.dev
  .next (if d.scAlive ∧ (d.psafe p).ss1 ∧ Cfg.safeSpeedSrc d.scfg p.num ≠ 0 ∧ lasted d.now (d.psafe p).slowSince (ms 10) then
    s.onDev (ss1End p) else s)

/-- SS1_TIMEOUT (R310): standstill in the same cycle makes the same demand once (R314). -/
def execSs1Timeout (p : PortId) (s : State) : Host.Outcome State Fault Refusal :=
  let d := s.dev
  .next (if d.scAlive ∧ (d.psafe p).ss1 ∧ lasted d.now (d.psafe p).ss1Start (ms (Cfg.ss1Time d.scfg p.num)) then s.onDev (ss1End p)
    else s)

/-- A diagnostic failure of the safety core (R297): lines asserted, outputs off, PAIR_STO_OUT low, permanent F4. -/
def scDown (f : FaultName) (wdog : Bool) (d : Device) : Device :=
  let d := d.onSafety fun x => { x with
    sc := .fail, pairOut := false, wdogLines := x.wdogLines || wdog, outs := x.outs.map fun o => { o with on := false } }
  raise f .module 4 (d.each ports fun p d => applySto p d)

/-- STO_READBACK (R308): a gate other than a class C target is still on 10 ms after the demand. -/
def Device.gateStillOn (d : Device) (p : PortId) : Bool :=
  (p.stage.islands.any fun i =>
    let x := d.island i
    (x.chans.any fun c => c.gateOn) && !(x.presetOn && x.cls == .c)) || d.forced 0x0C03 p.num

def execStoReadback (p : PortId) (s : State) : Host.Outcome State Fault Refusal :=
  .next (if s.dev.scAlive ∧ (s.dev.psafe p).sto ∧ lasted s.dev.now (s.dev.psafe p).stoSince (ms 10) ∧ s.dev.gateStillOn p then
    s.onDev (scDown .stoReadback false) else s)

/-- SBC_OFF (R313): SBC_DELAY after the line has been asserted. -/
def execSbcOff (p : PortId) (s : State) : Host.Outcome State Fault Refusal :=
  .next (match s.dev.brakeOut p with
    | some n =>
      if (s.dev.psafe p).sto ∧ lasted s.dev.now (s.dev.psafe p).stoSince (ms (Cfg.sbcDelay s.dev.scfg p.num)) then
        s.onDev (Device.onSout n fun x => { x with on := false })
      else s
    | none => s)

/-- SBC_RELEASE_WAIT_END (R313). -/
def execSbcReleaseWaitEnd (p : PortId) (s : State) : Host.Outcome State Fault Refusal :=
  .next (if (s.dev.psafe p).sbcWait ∧ lasted s.dev.now (s.dev.psafe p).sbcOnAt (ms (Cfg.sbcReleaseT s.dev.scfg p.num)) then
    s.onDev (Device.onPsafe p fun x => { x with sbcWait := false }) else s)

/-- On an SBC port selection waits until SBC_RELEASE_T has passed since its output turned on (R313). -/
def Device.brakeReady (d : Device) (p : PortId) : Bool :=
  match d.brakeOut p with
  | some n => (d.sout n).on && !(d.psafe p).sbcWait
  | none => true

/-- A brake that is not to be released is applied (R313). -/
def brakeBeat (p : PortId) (d : Device) : Device := if d.brakeFree p || d.brakeDelay p then d else sbcOff p d

/-- SO_FAULT (R315): both switches off, STO demanded on the ports the output serves. -/
def soFault (n : Nat) (d : Device) : Device :=
  let d := raise .soFault (.output n) 0 (d.onSout n fun x => { x with on := false, fault := true, healthy := false })
  d.each ports applyDemands

def execSoFault (n : Fin 4) (s : State) : Host.Outcome State Fault Refusal :=
  .next (if s.dev.scAlive then s.onDev (soFault n) else s)

/-- An off pulse is due: of the high side every 1 s while the output is on, of the return switch of a high/low pair 500 ms
later (R315). -/
def Device.offPulseDue (d : Device) (n : Nat) (ret : Bool) : Bool :=
  let x := d.sout n
  if ret then Cfg.soType d.scfg n == 1 && !x.retDone && decide (x.pulseAt + ms 500 ≤ d.now) else decide (x.pulseAt + sec 1 ≤ d.now)

/-- SO_PULSE_TEST (R315): the off pulse of the high side, or of the return switch of a high/low pair; a pulse not seen on
read-back is SO_FAULT. -/
def execSoPulseTest (n : Fin 4) (ret : Bool) (seen : Bool) (s : State) : Host.Outcome State Fault Refusal :=
  let d := s.dev
  .next (if d.scAlive ∧ (d.sout n).on ∧ Cfg.soPulse d.scfg n ∧ d.offPulseDue n ret then
    s.onDev fun d =>
      let d := d.onSout n fun x => { x with pulseAt := if ret then x.pulseAt else d.now, retDone := ret }
      if seen then d else soFault n d
    else s)

/-- SC_FAIL (R297). -/
def execScFail (s : State) : Host.Outcome State Fault Refusal :=
  .next (if s.dev.ctl.state = .off then s else s.onDev (scDown .scFail false))

/-- SC_WDOG (R297): the watchdog asserts the lines and switches the outputs off by itself. -/
def execScWdog (s : State) : Host.Outcome State Fault Refusal :=
  .next (if s.dev.ctl.state = .off then s else s.onDev (scDown .scWdog true))

end Sys2Proof.Machine
end

