-- ==== Sys2Proof/Machine/Rules.lean ====
section
/-!
DEFINITION. The consistency rules of Table 15.10 (R404): each one a test on a set of settings and a safety image, true
where the set is refused.
-/

namespace Sys2Proof.Machine

/-- What a check looks at: the ordinary set under check, the safety image, and the device with the set in force. -/
structure RuleView where
  S : Settings
  F : Settings
  d : Device

/-- Objects whose value differs between the set under check and the one in force. -/
def RuleView.changed (v : RuleView) : List Nat :=
  ((v.S ++ v.d.od.inForce).map Prod.fst).filter fun k => v.S.lookup k != v.d.od.inForce.lookup k

/-- A changed object satisfies a test on index and subindex. -/
def RuleView.changes (v : RuleView) (f : Nat → Nat → Bool) : Bool := v.changed.any fun k => f (k / 256) (k % 256)

def notRising : List Rat → Bool
  | a :: b :: rest => decide (b ≤ a) || notRising (b :: rest)
  | _ => false

def stageNums : List Nat := List.range 8
def chanNums : List Nat := List.range 48
def expertSlots : List Nat := [24, 25, 26, 27, 28, 29, 30, 31]
def fourNums : List Nat := [0, 1, 2, 3]

/-- A traction port that is not DISABLED. -/
def RuleView.engagedPort (v : RuleView) (p : PortId) : Bool := (v.d.port p).state != .disabled

/-! ## Chapters 2 to 4 -/

def rule201 (v : RuleView) : Bool :=
  stageNums.any fun sg => decide (Cfg.deadT v.S sg * 20 < Cfg.preTOff v.S sg + Cfg.platTmaxOff v.S sg * 80 + 200)

def rule202 (v : RuleView) : Bool :=
  stageNums.any fun sg => decide (Cfg.desatBlank v.S sg * 100 < Cfg.preTOn v.S sg + Cfg.platTmaxOn v.S sg * 80)

def rule301 (v : RuleView) : Bool :=
  ports.any fun p => decide (Cfg.minDwell v.S p * 200 < 3 * Cfg.deadT v.S p.stage.num + 50)

def rule302 (v : RuleView) : Bool := ports.any fun p => decide (Cfg.tBand2 v.S p ≤ Cfg.tBand1 v.S p)

def rule303 (v : RuleView) : Bool :=
  v.S.any fun e => (e.1 / 256 == 0x6180 || e.1 / 256 == 0x6980) && decide (26 < e.2)

def rule304 (v : RuleView) : Bool :=
  ports.any fun p => v.engagedPort p && v.changes fun ix sub =>
    ix == 0x6180 + p.num * 0x800 || (ix == 0x6100 + p.num * 0x800 && decide (sub ≤ 0x0D))

def rule305 (v : RuleView) : Bool := ports.any fun p => decide (Cfg.vlimOn v.S p ≤ Cfg.vlimOff v.S p)

def rule306 (v : RuleView) : Bool :=
  Cfg.pairPosition v.S != 0 && ports.any fun p => Cfg.machineType v.S p != 0 && Cfg.lDiff v.S p == 0

def rule307 (v : RuleView) : Bool :=
  ports.any fun p =>
    let S := v.S
    match Cfg.machineType S p with
    | 1 => [Cfg.rs20 S p, Cfg.ld S p, Cfg.lq S p, Cfg.psiM S p].contains 0
    | 2 => [Cfg.rs20 S p, Cfg.ls S p, Cfg.lr S p, Cfg.lm S p, Cfg.rr S p].contains 0
    | _ => false

def rule401 (v : RuleView) : Bool :=
  ports.any fun p => notRising ((List.range (Cfg.curveN v.S p)).map (Cfg.curveX v.S p))

def rule402 (v : RuleView) : Bool := ports.any fun p => decide (Cfg.onThr v.S p ≤ Cfg.offThr v.S p)

/-- A point of the curve counts as written from its first write; points 0 and 1 have defaults of their own. -/
def rule403 (v : RuleView) : Bool :=
  let written := fun k => (v.S.lookup k).isSome || v.d.od.points.contains k || v.d.od.staged.contains k
  ports.any fun p => (List.range (Cfg.curveN v.S p)).any fun i =>
    decide (2 ≤ i) && !(written (0x601101 + p.num * 0x80000 + i) && written (0x601201 + p.num * 0x80000 + i))

def rule404 (v : RuleView) : Bool :=
  ports.any fun p => Cfg.accel v.S p == 0 || Cfg.decel v.S p == 0 || Cfg.stopDecel v.S p == 0

/-- The speed of R129 at 1,600 V, compared without a division. -/
def rule405 (v : RuleView) : Bool :=
  Cfg.pairPosition v.S != 0 && ports.any fun p =>
    let psi := if Cfg.machineType v.S p = 1 then max (Cfg.psiM v.S p) (Cfg.ratedFlux v.S p) else Cfg.ratedFlux v.S p
    Cfg.machineType v.S p != 0 &&
      decide (9 / 10 * 1600 < Cfg.speedMax v.S p * (Config.sqrt 3 * Cfg.polePairs v.S p * 2 * Config.pi / 60 * psi))

/-- The coefficients the firmware forms for the speed slot need an exponent above +6 (log entry 40). -/
def rule406 (v : RuleView) : Bool :=
  ports.any fun p =>
    let c := firmCoef p.num v.S
    Cfg.machineType v.S p != 0 && !Cfg.speedLoopExpert v.S p && (decide (6 < c.getD 0 0) || decide (6 < c.getD 5 0))

/-! ## Chapters 5 to 7 -/

def rule501 (v : RuleView) : Bool :=
  fourNums.any fun n => decide (Cfg.pwSplit v.S n ≤ Cfg.pwMin v.S n) || decide (Cfg.pwMax v.S n ≤ Cfg.pwSplit v.S n)

def rule502 (v : RuleView) : Bool :=
  ports.any fun p => [Cfg.speedSrc v.S p, Cfg.obsFallback v.S p].any fun n =>
    n != 0 && (Cfg.inputType v.S (n - 1) == 0 || Cfg.dirMode v.S (n - 1) == 0)

/-- The settings of R152. -/
def wheelSetting (n ix sub : Nat) : Bool :=
  (ix == 0x2500 + n && (2 ≤ sub && sub ≤ 6)) || (ix == 0x3500 + n && [1, 2, 9].contains sub)

def rule503 (v : RuleView) : Bool :=
  ports.any fun p => v.engagedPort p && [Cfg.speedSrc v.d.od.inForce p, Cfg.obsFallback v.d.od.inForce p].any fun n =>
    n != 0 && v.changes (wheelSetting (n - 1))

/-- Channels on which the direct trip is allowed (R161). -/
def tripAllowed (m : Nat) : Bool := decide (m ≤ 5) || (9 ≤ m && m ≤ 11) || (17 ≤ m && m ≤ 19)

def rule601 (v : RuleView) : Bool := chanNums.any fun m => Cfg.compAction v.S m == 3 && !tripAllowed m

def rule602 (v : RuleView) : Bool := chanNums.any fun m => !ownedComp m && decide (Cfg.compHi v.S m ≤ Cfg.compLo v.S m)

/-- Output rate of a fine path in hertz. -/
def fineRate (S : Settings) (m : Nat) : Rat := 40000000 / (((fineFilter S m).2.1 * (fineFilter S m).2.2 : Nat) : Rat)

def rule603 (v : RuleView) : Bool := chanNums.any fun m => decide (45 / 100 * fineRate v.S m ≤ Cfg.notchHz v.S m)

def rule604 (v : RuleView) : Bool := [29, 30, 31, 32].any fun m => decide (fineRate v.S m < 20000)

def rule605 (v : RuleView) : Bool := decide (Cfg.muxResults v.S ≤ fineN v.S 41) || Cfg.muxMask v.S == 0

def rule606 (v : RuleView) : Bool := decide (Cfg.isoWarnKohm v.S ≤ Cfg.isoAlarmKohm v.S)

/-- A stage of coefficients that R193 refuses. -/
def badStage (e : Int) (c : List Int) : Bool :=
  !(c.all (· == 0)) && (decide (6 < e) || c.all fun x => decide (x.natAbs < 4194304))

def rule701 (v : RuleView) : Bool :=
  let S := v.S
  (expertSlots ++ (ports.filter fun p => Cfg.speedLoopExpert S p).map PortId.num).any fun k =>
    badStage (Cfg.expB S k) [Cfg.bCoef S k 0, Cfg.bCoef S k 1, Cfg.bCoef S k 2, Cfg.bCoef S k 3]
      || badStage (Cfg.expA S k) [Cfg.aCoef S k 0, Cfg.aCoef S k 1, Cfg.aCoef S k 2]

def rule702 (v : RuleView) : Bool := expertSlots.any fun k => decide (Cfg.clampHi v.S k ≤ Cfg.clampLo v.S k)

def badSource (S : Settings) (c : Nat) : Bool :=
  c == 57 || decide (128 ≤ c) || (2 ≤ c && c ≤ 15) || (96 ≤ c && c ≤ 127)
    || (64 ≤ c && c ≤ 95 && Cfg.form S (c - 64) == 0)

def rule703 (v : RuleView) : Bool :=
  expertSlots.any fun k =>
    badSource v.S (Cfg.refSrc v.S k) || badSource v.S (Cfg.fbSrc v.S k) || badSource v.S (Cfg.trackSrc v.S k)

def rule704 (v : RuleView) : Bool :=
  expertSlots.any fun k =>
    let t := Cfg.period v.S k
    let l := Cfg.latency v.S k
    decide (t < 5) || decide (t ≤ Cfg.phaseBeat v.S k) || decide (199 < Cfg.sampleTick v.S k) || decide (l < 60)
      || decide (1000 < l) || decide (200 * t ≤ l)

/-- Settings the firmware turns into the coefficients of a slot (R202). -/
def slotTuning (k ix sub : Nat) : Bool :=
  (decide (k ≤ 1) && ix == 0x6020 + k * 0x800 && (sub == 7 || sub == 8)) || (decide (k ≤ 1) && ix == 0x6021 + k * 0x800 && sub == 1)
    || (k == 10 && ((ix == 0x3900 && sub == 1) || (ix == 0x2900 && sub == 4)))

/-- The structural fields of a slot (R202). -/
def slotStructure (k ix sub : Nat) : Bool :=
  (ix == 0x3700 + k && ((1 ≤ sub && sub ≤ 0x10) || sub == 0x16)) || slotTuning k ix sub

def rule705 (v : RuleView) : Bool :=
  (List.range 32).any fun k => ((v.d.slot k).mode == .closed || (v.d.slot k).mode == .closePending) && v.changes (slotStructure k)

/-! ## Chapters 8 to 11 -/

def rule801 (v : RuleView) : Bool := decide (Cfg.batVMax v.S ≤ Cfg.batVMin v.S + 10)

def rule802 (v : RuleView) : Bool := v.d.supply.conv.running && v.changed.contains 0x380001

def rule901 (v : RuleView) : Bool := decide (Cfg.gridVregFloor v.S < 88)

def rule902 (v : RuleView) : Bool := decide (Cfg.bchgTMax v.S ≤ Cfg.bchgTFold v.S)

/-- COMM_SHIFT stands in ENDMASK's object: its bits alone count. -/
def rule1001 (v : RuleView) : Bool :=
  fourNums.any fun n => (v.d.act n).busy &&
    ((v.changes fun ix sub => ix == 0x2A00 + n && (sub == 1 || (3 ≤ sub && sub ≤ 6)))
      || Cfg.commShift v.S n != Cfg.commShift v.d.od.inForce n)

def rule1002 (v : RuleView) : Bool :=
  fourNums.any fun n => (Cfg.actRole v.S n == 1 || Cfg.actRole v.S n == 2) && Cfg.outSrc v.S n == 0

def rule1003 (v : RuleView) : Bool := fourNums.any fun n => decide (Cfg.actSpeed v.S n < Cfg.slowSpeed v.S n)

def rule1101 (v : RuleView) : Bool := fourNums.any fun k => decide (Cfg.wtMax v.S k ≤ Cfg.wtDerate v.S k + 10)

def rule1102 (v : RuleView) : Bool := notRising ((ptcList v.S).map fun x => (x : Rat))

/-! ## The safety image (chapters 12 and 13) -/

def fnNums : List Nat := List.range 16
def connNums : List Nat := List.range 256

/-- Test-pulse output of a channel of a function. -/
def chanTp (F : Settings) (k c : Nat) : Nat := Cfg.siTp F (ifChan F k c)

/-- The channels of a function are named and, where Table 12.2 requires it, tested by different outputs. -/
def chansOk (F : Settings) (k : Nat) : Bool :=
  let t := Cfg.ifType F k
  ((List.range (ifChannels t)).all fun c => decide (ifChan F k c < 16)) &&
    match t with
    | 1 | 2 => decide (chanTp F k 0 < 8) && decide (chanTp F k 1 < 8) && chanTp F k 0 != chanTp F k 1
    | 3 => [0, 1, 2, 3].all (fun c => decide (chanTp F k c < 8)) &&
        [(0, 2), (0, 3), (1, 2), (1, 3)].all fun e => chanTp F k e.1 != chanTp F k e.2
    | _ => true

/-- A row of Table 12.2. -/
def typeOk (F : Settings) (k : Nat) : Bool :=
  let a := Cfg.ifAction F k
  let r := Cfg.ifReset F k
  match Cfg.ifType F k with
  | 0 => true
  | 1 => (1 ≤ a && a ≤ 2) && r == 1
  | 3 => (1 ≤ a && a ≤ 2) && r == 0
  | 2 | 4 | 5 => (1 ≤ a && a ≤ 8) && decide (r ≤ 1)
  | _ => false

def rule1201 (v : RuleView) : Bool := fnNums.any fun k => !typeOk v.F k || !chansOk v.F k

def usedFn (F : Settings) (k : Nat) : Bool := Cfg.ifType F k != 0

def rule1202 (v : RuleView) : Bool := fnNums.any fun k => usedFn v.F k && Cfg.ifScope v.F k % 4 == 0

/-- Inputs of a function. -/
def fnSis (F : Settings) (k : Nat) : List Nat := (List.range (ifChannels (Cfg.ifType F k))).map (ifChan F k)

def rule1203 (v : RuleView) : Bool :=
  fnNums.any fun k => fnNums.any fun j => decide (j < k) && (fnSis v.F k).any fun n => decide (n < 16) && (fnSis v.F j).contains n

def rule1204 (v : RuleView) : Bool :=
  fnNums.any fun k => Cfg.ifType v.F k == 4 && (fnSis v.F k).any fun n => Cfg.siTp v.F n != 0xFF

/-- Ports in the scope of a function. -/
def fnPorts (F : Settings) (k : Nat) : List PortId := ports.filter fun p => (Cfg.ifScope F k).testBit p.num

def rule1205 (v : RuleView) : Bool :=
  fnNums.any fun k => usedFn v.F k && decide (3 ≤ Cfg.ifAction v.F k) &&
    (fnPorts v.F k).any fun p => Cfg.safeSpeedSrc v.F p.num == 0

def rule1206 (v : RuleView) : Bool :=
  fnNums.any fun k => Cfg.ifType v.F k == 4 && (fnSis v.F k).any fun n => decide (Cfg.siFilt v.F n < 2)

def rule1207 (v : RuleView) : Bool := [0, 1].any fun p => decide (Cfg.ss1Decel v.F p < Cfg.ss1DecelMon v.F p)

def rule1208 (v : RuleView) : Bool := [0, 1].any fun p => Cfg.ss1Mode v.F p == 1 && Cfg.safeSpeedSrc v.F p == 0

def rule1209 (v : RuleView) : Bool :=
  fnNums.any fun k => usedFn v.F k && decide (7 ≤ Cfg.ifAction v.F k) && (fnPorts v.F k).any fun p =>
    let n := Cfg.safeSpeedSrc v.F p.num
    n != 0 && Cfg.dirMode v.S (n - 1) == 0

def rule1210 (v : RuleView) : Bool := fourNums.any fun n => !Cfg.soPulse v.F n && Cfg.soType v.F n == 0

/-- A record is in use. -/
def usedConn (F : Settings) (c : Nat) : Bool := Cfg.dcRole F c != 0

/-- A record is active on the module of a pair position (R332). -/
def activeOn (F : Settings) (pos c : Nat) : Bool :=
  usedConn F c && (Cfg.dcModule F c == 0 || Cfg.dcModule F c == pos)

def rule1301 (v : RuleView) : Bool := connNums.any fun c => usedConn v.F c && Cfg.dcPort v.F c == 2

def rule1302 (v : RuleView) : Bool :=
  connNums.any fun c => usedConn v.F c && Cfg.dcConnId v.F c / 256 % 64 != Cfg.doridDomain v.F

def rule1303 (v : RuleView) : Bool :=
  connNums.any fun c => Cfg.dcRole v.F c == 2 && activeOn v.F (Cfg.pairPosition v.S) c
    && Cfg.dcConnId v.F c / 8388608 != Cfg.nodeNumber v.S

def rule1304 (v : RuleView) : Bool := connNums.any fun c => Cfg.dcRole v.F c == 2 && Cfg.dcLen v.F c != 8

def rule1305 (v : RuleView) : Bool := connNums.any fun c => usedConn v.F c && decide (Cfg.dcTe v.F c < 3 * Cfg.dcPeriod v.F c)

def rule1306 (v : RuleView) : Bool :=
  connNums.any fun c => usedConn v.F c && decide (Cfg.dcPeriod v.F c < if Cfg.dcPort v.F c = 1 then 2 else 1)

def rule1307 (v : RuleView) : Bool := usedConn v.F 254 || usedConn v.F 255

def rule1308 (v : RuleView) : Bool :=
  let pos := Cfg.pairPosition v.S
  (fnNums.any fun k => Cfg.ifType v.F k == 5 && !activeOn v.F pos (ifConn v.F k))
    || (decide (Cfg.resetDorid v.F ≤ 255) && !activeOn v.F pos (Cfg.resetDorid v.F))

def rule1309 (v : RuleView) : Bool :=
  decide (Cfg.resetDorid v.F ≤ 255) &&
    fnNums.any fun k => Cfg.ifType v.F k == 5 && ifConn v.F k == Cfg.resetDorid v.F && ifBit v.F k == 0

/-- Records of a role on the guy line that are active on a module. -/
def guyCount (F : Settings) (pos role : Nat) : Nat :=
  (connNums.filter fun c => Cfg.dcRole F c == role && Cfg.dcPort F c == 4 && activeOn F pos c).length

def rule1310 (v : RuleView) : Bool :=
  Cfg.pairPosition v.S != 0 && [1, 2].any fun pos => guyCount v.F pos 1 != 1 || guyCount v.F pos 2 != 1

def rule1311 (v : RuleView) : Bool := decide (3584 < (safetyImageBytes v.F).length)

/-! ## Chapters 14 and 15 -/

/-- Port of a message class (Table 14.3). -/
def classPort (c : Nat) : Nat := [0, 0, 1, 3, 0, 1, 0, 1, 0, 1, 0, 1, 2, 3].getD c 0

def rule1401 (v : RuleView) : Bool :=
  Cfg.classQ v.S 0 != 0 || Cfg.txqPort v.S 0 != 0
    || (List.range 14).any fun c => decide (1 ≤ c) && (Cfg.classQ v.S c == 0 || Cfg.txqPort v.S (Cfg.classQ v.S c) != classPort c)

/-- The binding of a receive object: port and identifier with its format bit. -/
def rxBind (S : Settings) (r : Nat) : Option (Nat × Nat) :=
  let v := Cfg.rxCfg S r
  if v / 1073741824 = 3 then none else some (v / 1073741824, v % 1073741824)

/-- Bindings of the firmware services on CANA and CANB (R354): NMT, USDO requests, consumed heartbeats, RPDOs, time
references, Dorid consumers and commissioning requests. -/
def firmwareBinds (S F : Settings) : List (Nat × Nat) :=
  let canopen := [0, 1].flatMap fun p =>
    let pdo := (List.range 16).filterMap fun j =>
      let c := Cfg.rpdoComm S (j + 16 * p) 0
      if c / 2147483648 = 1 then none else some (p, c % 536870912 + (c / 536870912 % 2) * 536870912)
    [(p, 0), (p, 0x600 + Cfg.canopenId S p), (p, 536870912 + 0x1DE00000 + Cfg.nodeNumber S)] ++ pdo
  let hb := (List.range 16).filterMap fun k =>
    let h := Cfg.hbConsumer S k
    if h % 65536 = 0 then none else some (h / 2147483648, 0x700 + h / 65536 % 128)
  let time := (List.range 8).map fun r => (0, 536870912 + Cfg.timeRefBase S + r)
  let dorid := connNums.filterMap fun c =>
    if Cfg.dcRole F c = 1 ∧ Cfg.dcPort F c ≤ 1 ∧ activeOn F (Cfg.pairPosition S) c then
      some (Cfg.dcPort F c, Cfg.dcNetId F c % 536870912 + (Cfg.dcNetId F c / 2147483648) * 536870912)
    else none
  canopen ++ hb ++ time ++ dorid

/-- Two objects bound alike, a binding of a firmware service, or a record the firmware services have taken. -/
def rule1402 (v : RuleView) : Bool :=
  let fw := firmwareBinds v.S v.F
  let host := (List.range 2048).filterMap fun r => (rxBind v.S r).map fun b => (r, b)
  host.any fun e => fw.contains e.2 || decide (2048 - fw.length ≤ e.1) || host.any fun g => decide (g.1 < e.1) && g.2 == e.2

def rule1403 (v : RuleView) : Bool := decide (16384 < (List.range 16).foldl (fun a n => a + Cfg.capSize v.S n) 0)

def rule1404 (v : RuleView) : Bool := (List.range 16).any fun n => Cfg.capMode v.S n == 2 && decide (368 < Cfg.capPktWords v.S n)

/-- An unannounced commit that would part the pair (R402). -/
def rule1501 (v : RuleView) : Bool :=
  (v.d.od.after == 2 || v.d.od.after == 3) && Cfg.pairPosition v.S != 0 && v.d.ctl.partnerPresent
    && v.d.ctl.state == .run && settingsIdOf v.S != v.d.settingsId

/-! ## The table -/

/-- The safety rules, in ascending order. -/
def safetyRules : List (Nat × (RuleView → Bool)) :=
  [(1201, rule1201), (1202, rule1202), (1203, rule1203), (1204, rule1204), (1205, rule1205), (1206, rule1206),
   (1207, rule1207), (1208, rule1208), (1209, rule1209), (1210, rule1210), (1301, rule1301), (1302, rule1302),
   (1303, rule1303), (1304, rule1304), (1305, rule1305), (1306, rule1306), (1307, rule1307), (1308, rule1308),
   (1309, rule1309), (1310, rule1310), (1311, rule1311)]

/-- Table 15.10, in ascending order of rule number. -/
def allRules : List (Nat × (RuleView → Bool)) :=
  [(201, rule201), (202, rule202), (301, rule301), (302, rule302), (303, rule303), (304, rule304), (305, rule305),
   (306, rule306), (307, rule307), (401, rule401), (402, rule402), (403, rule403), (404, rule404), (405, rule405),
   (406, rule406), (501, rule501), (502, rule502), (503, rule503), (601, rule601), (602, rule602), (603, rule603),
   (604, rule604), (605, rule605), (606, rule606), (701, rule701), (702, rule702), (703, rule703), (704, rule704),
   (705, rule705), (801, rule801), (802, rule802), (901, rule901), (902, rule902), (1001, rule1001), (1002, rule1002),
   (1003, rule1003), (1101, rule1101), (1102, rule1102)] ++ safetyRules
  ++ [(1401, rule1401), (1402, rule1402), (1403, rule1403), (1404, rule1404), (1501, rule1501)]

/-- The rules of the "At instant" column (R399). -/
def instantRules : List (Nat × (RuleView → Bool)) :=
  [(304, rule304), (503, rule503), (705, rule705), (802, rule802), (1001, rule1001)]

/-- The lowest-numbered failing rule; 0 where none fails. -/
def firstFailing (rules : List (Nat × (RuleView → Bool))) (v : RuleView) : Nat :=
  ((rules.find? fun r => r.2 v).map Prod.fst).getD 0

end Sys2Proof.Machine
end

