-- ==== Sys2Proof/Machine/Dorid.lean ====
section
/-!
DEFINITION. The Dorid safety layer (chapter 13): frames, producers, consumers with their checks and deadlines.
-/

namespace Sys2Proof.Machine

/-- A connection is active on this module (R332). -/
def Device.connActive (d : Device) (c : Nat) : Bool := activeOn d.scfg (Cfg.pairPosition d.cfg) c

def Device.consumes (d : Device) (c : Nat) : Bool := d.connActive c && Cfg.dcRole d.scfg c == 1
def Device.produces (d : Device) (c : Nat) : Bool := d.connActive c && Cfg.dcRole d.scfg c == 2

/-- Module time in units of 100 us. -/
def Device.t100 (d : Device) : Nat := d.now / 100000

/-! ## Frames (R322-R324) -/

/-- A Dorid frame (Table 13.1). -/
def doridFrame (id seq stamp : Nat) (payload : List Byte) : List Byte :=
  let body := leBytes 4 id ++ leBytes 2 seq ++ leBytes 2 (stamp % 65536) ++ payload
  body ++ leBytes 4 (crc32c body).toNat

/-- The smallest CAN FD data length of at least n bytes. -/
def fdLength (n : Nat) : Nat :=
  if n ≤ 8 then n else ([12, 16, 20, 24, 32, 48, 64].find? fun l => decide (n ≤ l)).getD 64

/-- A Dorid frame leaves on its port (Table 13.5): padded on CAN FD, exact on CAN XL and ETH1, in the slot of the next guy
frame on the guy line (R369). -/
def doridSend (port net : Nat) (frame : List Byte) (d : Device) : Device :=
  let padded := frame ++ List.replicate (fdLength frame.length - frame.length) 0
  match port with
  | 0 => txEnqueue { cls := 1, ident := net, data := if Cfg.canaFormat d.cfg = 1 then frame else padded } d
  | 1 => txEnqueue { cls := 2, ident := net, data := padded } d
  | 3 => txEnqueue { cls := 3, destIp := BitVec.ofNat 32 net, destPort := 4981, srcPort := 4981, data := frame } d
  | 4 => { d with net := { d.net with guy := { d.net.guy with dorid := some frame } } }
  | _ => d

/-! ## Producing (R325, R326) -/

/-- A machine-scope function of an action is demanded. -/
def Device.machineDemand (d : Device) (action : Nat) : Bool :=
  fnNums.any fun k => usedFn d.scfg k && (d.fn k).demand && (Cfg.ifScope d.scfg k).testBit 2 && Cfg.ifAction d.scfg k == action

def bitByte (l : List Bool) : Byte := BitVec.ofNat 8 (l.foldr (fun b n => (if b then 1 else 0) + 2 * n) 0)

/-- Safe speed of a port as INTEGER16; 0x8000 invalid. -/
def Device.safeSpeedWord (d : Device) (p : PortId) : Nat :=
  let x := d.psafe p
  if x.speedOk then ofSigned 16 (clampInt (-32767) 32767 (roundCode x.speed)) else 0x8000

/-- The module safety payload (Table 13.3). -/
def Device.safetyPayload (d : Device) : List Byte :=
  let manual := fnNums.any fun k => usedFn d.scfg k && (Cfg.ifScope d.scfg k).testBit 2 && Cfg.ifReset d.scfg k == 1
  let free := fun k => !(usedFn d.scfg k && (d.fn k).demand)
  [bitByte [d.safety.resetOut, d.safety.sc == .run, manual],
   bitByte ([1, 2, 3, 4, 5, 6, 7, 8].map fun a => !d.machineDemand a),
   bitByte ([0, 1, 2, 3, 4, 5, 6, 7].map free), bitByte ([8, 9, 10, 11, 12, 13, 14, 15].map free)]
  ++ leBytes 2 (d.safeSpeedWord .a) ++ leBytes 2 (d.safeSpeedWord .b)

/-- SEQ of the next frame of a producer (R325): 0 for the first. -/
def DoridConn.nextSeq (x : DoridConn) : Nat := if x.started then (x.seq + 1) % 65536 else 0

/-- A producer sends a frame with a payload. -/
def doridProduce (c id port net : Nat) (payload : List Byte) (d : Device) : Device :=
  let seq := (d.conn c).nextSeq
  let d := d.onConn c fun x => { x with state := .run, seq := seq, started := true, payload := payload, lastSent := d.now }
  doridSend port net (doridFrame id seq d.t100 payload) d

/-- The producer record c sends its frame. -/
def produceRecord (c : Nat) (d : Device) : Device :=
  let F := d.scfg
  doridProduce c (Cfg.dcConnId F c) (Cfg.dcPort F c) (Cfg.dcNetId F c) d.safetyPayload d

/-! ## Consuming (R327-R329) -/

/-- Age of a stamp (Table 13.4, check 5), in 100 us. -/
def Device.ageOf (d : Device) (stamp : Nat) : Int :=
  toSigned 16 ((d.t100 + 65536 - stamp % 65536) % 65536)

/-- The negative allowance A of check 5. -/
def ageAllowance (F : Settings) : Nat := 10 + (Cfg.doridHoldover F + 99) / 100

/-- Which counter a discard counts in. -/
inductive DoridError where
  | crc | ident | seq | age
  deriving DecidableEq, Repr

/-- The verdict of the checks of Table 13.4: the failed check, or SEQ, age and payload. -/
def Device.doridCheck (d : Device) (c : Nat) (bytes : List Byte) : Except DoridError (Nat × Int × List Byte) :=
  let F := d.scfg
  let n := 12 + Cfg.dcLen F c
  let x := d.conn c
  let fd := decide (Cfg.dcPort F c = 1) || (decide (Cfg.dcPort F c = 0) && Cfg.canaFormat d.cfg != 1)
  if (bytes.length ≠ n ∧ !(fd && bytes.length == fdLength n)) ∨ d.forced 0x0D01 c then .error .crc
  else
    let f := bytes.take n
    let body := f.take (n - 4)
    if leNat (f.drop (n - 4)) ≠ (crc32c body).toNat then .error .crc
    else if leNat (f.take 4) ≠ Cfg.dcConnId F c then .error .ident
    else
      let seq := leNat ((f.drop 4).take 2)
      let step := (seq + 65536 - x.seq) % 65536
      let free := x.state == .starting || (x.state == .expired && !x.rejoin)
      if !free && !(1 ≤ step && step ≤ 32767) then .error .seq
      else
        let age := d.ageOf (leNat ((f.drop 6).take 2))
        if age < -(ageAllowance F : Int) ∨ (Cfg.dcTe F c * 10 : Int) < age then .error .age
        else .ok (seq, age, (f.drop 8).take (Cfg.dcLen F c))

/-- A consumer becomes EXPIRED (R328, R329): its payload is delivered no more; that of the guy line is judged in the next safety
cycle (R333). -/
def doridExpire (c : Nat) (d : Device) : Device :=
  let d := d.onConn c fun x => { x with state := .expired, rejoin := false, oneGood := false, deadline := none }
  d.onSafety fun x => { x with
    payloads := x.payloads.filter fun e => e.1 != c, pairExpired := x.pairExpired || d.guyConsumer == some c }

/-- A discarded frame is counted; more than 10 within 1 s expire the connection (R329). -/
def doridDiscard (c : Nat) (e : DoridError) (d : Device) : Device :=
  let d := d.onConn c fun x => { x with
    crcErr := if e = .crc then addSat 255 x.crcErr 1 else x.crcErr
    idErr := if e = .ident then addSat 255 x.idErr 1 else x.idErr
    seqErr := if e = .seq then addSat 255 x.seqErr 1 else x.seqErr
    ageErr := if e = .age then addSat 255 x.ageErr 1 else x.ageErr
    oneGood := false
    discards := (x.discards.filter fun t => decide (d.now < t + sec 1)) ++ [d.now] }
  if 10 < (d.conn c).discards.length ∧ !(d.conn c).errrate then
    raise .doridErrrate (.conn c) 0 ((doridExpire c d).onConn c fun x => { x with errrate := true, holdFrom := some d.now })
  else d

/-- A frame is accepted: deadline, delivery, and the way to RUN (R327-R330). While a hold of R329 lasts or no time reference
serves (R330), an EXPIRED connection stays so. -/
def doridAccept (c seq : Nat) (age : Int) (payload : List Byte) (d : Device) : Device :=
  let x := d.conn c
  if (x.state = .expired ∧ (!x.oneGood ∨ x.holdFrom.isSome)) ∨ d.comm.timeLost then
    d.onConn c fun x => { x with seq := seq, rejoin := true, oneGood := true }
  else
    let stamp := ((d.t100 : Int) - age) * 100000
    let back := x.state != .run
    let d := d.onConn c fun x => { x with
      state := .run, seq := seq, rejoin := false, oneGood := false, errrate := false, deadline := some (stamp + ms (Cfg.dcTe d.scfg c)).toNat }
    let d := d.onSafety fun y => { y with payloads := (y.payloads.filter fun e => e.1 != c) ++ [(c, payload)] }
    if back then clearFault .doridErrrate (.conn c) (clearFault .doridExpired (.conn c) d) else d

/-- The consumer a frame is for: by DC_NET_ID on CAN and on the guy line, by CONN_ID on ETH1 (R331). -/
def Device.consumerOf (d : Device) (port net : Nat) (bytes : List Byte) : Option Nat :=
  connNums.find? fun c => d.consumes c && Cfg.dcPort d.scfg c == port
    && (if port = 3 then Cfg.dcConnId d.scfg c == leNat (bytes.take 4) else port == 4 || Cfg.dcNetId d.scfg c == net)

/-- A frame reaches its consumer; one on ETH1 that matches none is counted in DORID_UNKNOWN (R331). -/
def doridFrameRx (port net : Nat) (bytes : List Byte) (d : Device) : Device :=
  match d.consumerOf port net bytes with
  | none => if port = 3 then { d with comm := { d.comm with unknown := addWrap 16 d.comm.unknown 1 } } else d
  | some c => match d.doridCheck c bytes with
    | .error e => doridDiscard c e d
    | .ok (seq, age, payload) => doridAccept c seq age payload d

/-- A port hears frames: a CAN port on the bus, ETH1 or the guy line with its link up. -/
def Device.portHears (d : Device) (port : Nat) : Bool :=
  match port with
  | 0 => decide (d.net.canA.conf ≤ 1)
  | 1 => decide (d.net.canB.conf ≤ 1)
  | 3 => d.net.eth1Up
  | 4 => d.net.guy.up
  | _ => false

/-- A Dorid frame on a port (DC_PORT), with its identifier on CAN. -/
def execDoridFrameRx (port : Fin 5) (net : W32) (bytes : List Byte) (s : State) : Host.Outcome State Fault Refusal :=
  .next (if s.dev.ctl.state ≠ .off ∧ s.dev.scAlive ∧ s.dev.portHears port then s.onDev (doridFrameRx port net.toNat bytes) else s)

/-- DORID_EXPIRED (R328): the deadline; a frame that lost to it is discarded and counted in LATE. -/
def doridExpired (c : Nat) (frame : Bool) (d : Device) : Device :=
  let d := raise .doridExpired (.conn c) 0 (doridExpire c d)
  if frame then d.onConn c fun x => { x with late := addSat 255 x.late 1 } else d

def execDoridExpired (c : Fin 256) (frame : Bool) (s : State) : Host.Outcome State Fault Refusal :=
  .next (if s.dev.consumes c ∧ (s.dev.conn c).state = .run ∧ lasted s.dev.now (s.dev.conn c).deadline 0 then
    s.onDev (doridExpired c frame) else s)

/-- DORID_ERRRATE_HOLD_END (R329): the hold has lasted 1 s. -/
def execDoridErrrateHoldEnd (c : Fin 256) (s : State) : Host.Outcome State Fault Refusal :=
  .next (if lasted s.dev.now (s.dev.conn c).holdFrom (sec 1) then
    s.onDev (Device.onConn c fun x => { x with errrate := false, holdFrom := none }) else s)

/-- DORID_TIME_LOST (R330): every consumer connection becomes EXPIRED. -/
def doridTimeLost (d : Device) : Device :=
  let d := d.each (connNums.filter d.consumes) doridExpire
  raise .doridTimeLost .module 0 { d with comm := { d.comm with timeLost := true } }

/-- DORID_HOLDOVER has passed without a reference: the module is neither master nor locked to its partner (R330). -/
def Device.noReference (d : Device) : Bool :=
  d.net.time.role != 2 && d.net.time.role != 4 && decide (d.net.time.refAt + sec (Cfg.doridHoldover d.scfg) ≤ d.now)

def execDoridTimeLost (s : State) : Host.Outcome State Fault Refusal :=
  .next (if s.dev.ctl.state ≠ .off ∧ s.dev.scAlive ∧ s.dev.noReference then s.onDev doridTimeLost else s)

/-- Time is trimmed again (Table 13.8). -/
def timeTrimmed (d : Device) : Device :=
  if d.comm.timeLost then clearFault .doridTimeLost .module { d with comm := { d.comm with timeLost := false } } else d

/-- The connections start afresh with an image (R325, R329): consumers in STARTING, producers before their first frame;
the counters go on. -/
def doridStart (d : Device) : Device :=
  d.each connNums fun c d => d.onConn c fun x => { x with
    state := if d.connActive c then .starting else .unused, started := false, seq := 0, deadline := none, rejoin := false
    oneGood := false
    errrate := false, holdFrom := none, discards := [], payload := [] }

/-- The connections on a port restart with it (R325). -/
def doridPortRestart (port : Nat) (d : Device) : Device :=
  d.each (connNums.filter fun c => d.produces c && Cfg.dcPort d.scfg c == port) fun c =>
    Device.onConn c fun x => { x with started := false }

/-! ## The commissioning response (R335, R336) -/

/-- CONN_ID of the commissioning response. -/
def Device.commConnId (d : Device) (tool : Nat) : Nat :=
  Cfg.nodeNumber d.cfg * 8388608 + tool * 16384 + Cfg.doridDomain d.scfg * 256 + 0xFF

/-- The response payload (Table 13.6). -/
def Comm.payload (x : Comm) : List Byte :=
  [BitVec.ofNat 8 x.opcode, BitVec.ofNat 8 x.rTrans, BitVec.ofNat 8 x.result, 0] ++ leBytes 2 x.rule
    ++ leBytes 4 (if x.showShadow then x.shadowCheck else x.check).toNat ++ leBytes 2 x.index ++ leBytes 1 x.sub
    ++ leBytes 1 x.data.length ++ x.data ++ List.replicate (18 - x.data.length) 0

/-- The response goes out on the carrier of the tool's session. -/
def commSend (d : Device) : Device :=
  match d.comm.conn with
  | none => d
  | some (path, tool) =>
    let port := match path with
      | .usdo onB _ => if onB then 1 else 0
      | .canc => 2
      | .hk _ _ => 3
    let net := match path with
      | .hk ip _ => ip.toNat
      | _ => 0x80000000 + 0x1DF00000 + Cfg.nodeNumber d.cfg
    doridProduce 255 (d.commConnId tool) port net d.comm.payload d

/-- A producer sends: for the first time, at its period, or after a change of its payload (R325). -/
def DoridConn.sends (now period : Nat) (payload : List Byte) (x : DoridConn) : Bool :=
  !x.started || x.payload != payload || decide (x.lastSent + period ≤ now)

/-- DORID_PRODUCE (R325): a producer record sends; connection 255 repeats the commissioning response every 100 ms. -/
def execDoridProduce (c : Fin 256) (s : State) : Host.Outcome State Fault Refusal :=
  let d := s.dev
  .next (if d.ctl.state = .off ∨ !d.scAlive then s
    else if c = 255 then (if (d.conn 255).sends d.now (ms 100) d.comm.payload then s.onDev commSend else s)
    else if d.produces c ∧ (d.conn c).sends d.now (ms (Cfg.dcPeriod d.scfg c)) d.safetyPayload then s.onDev (produceRecord c)
    else s)

end Sys2Proof.Machine
end

