-- ==== Sys2Proof/Machine/Status.lean ====
section
/-!
DEFINITION. What a host reads from the read-only objects of the dictionary: the status words of the field maps and the
measurements (chapters 1 to 17).
-/

namespace Sys2Proof.Machine

/-! ## Module, gates, ports (chapters 1 to 5) -/

/-- State codes of Table 1.5; OFF has none. -/
def ModState.code : ModState → Nat
  | .off => 0
  | .boot => 1
  | .calibrating => 2
  | .standby => 3
  | .ready => 4
  | .run => 5
  | .stopping => 6
  | .safe => 7
  | .fault => 8
  | .service => 9

/-- Smallest traction margin of the last second (R16); 0 with none. -/
def ModuleCtl.worstMargin (x : ModuleCtl) : Nat :=
  match x.margins.filter fun e => decide (x.now < e.1 + sec 1) with
  | [] => 0
  | m :: rest => min 255 (rest.foldl (fun a e => min a e.2) m.2)

/-- MODULE_STATUS (Table 1.10). -/
def Device.moduleStatus (d : Device) : Nat :=
  let x := d.ctl
  fields [(28, x.state.code), (25, d.faults.highest), flag 24 d.paired, flag 23 (x.lead || x.partnerAbsent), flag 22 x.partnerPresent,
    flag 21 x.handoverPending, flag 20 x.coreSupplyOk, flag 19 d.therm.throttled, flag 18 x.overrun, (8, min 255 x.fabricSpeed),
    (0, x.worstMargin)]

/-- ISLAND_STATUS (Table 2.15). -/
def Island.word (x : Island) : Nat :=
  fields ([(30, x.link), flag 29 x.armed, flag 28 x.safe, flag 27 x.presetOn, flag 26 x.supplyOk, flag 25 x.enable,
    (16, min 255 x.crcErr), (8, min 255 x.noack)] ++ (List.range 8).map fun k => flag k (!(x.chan k).disabled))

/-- CH_STATUS (Table 2.16). -/
def GateChan.word (c : GateChan) : Nat :=
  fields [flag 31 c.disabled, flag 30 c.latched, flag 29 c.desat, flag 28 c.didt, flag 27 c.uvPos, flag 26 c.uvNeg,
    flag 25 c.gateLeak, flag 24 c.openDie, flag 23 c.shorted, flag 22 c.platTimeout, flag 21 c.gateOn,
    (8, twos 8 c.trimOff), (0, twos 8 c.trimOn)]

/-- A share as per cent. -/
def percent (x : Rat) : Nat := (roundCode (100 * x)).toNat

/-- STAGE_STATUS (R74). -/
def Device.stageStatus (d : Device) (sg : StageGroup) : Nat :=
  let x := d.stage sg
  fields [(28, (lowestCause (d.limitCauses sg)).1), flag 27 x.multiPos, flag 26 x.latched, (24, x.order),
    (16, percent (d.stageLimit sg))]

def stageOf (n : Nat) : StageGroup := ([.portA, .portB, .conv, .grid, .llcPri, .llcSec, .aux] : List StageGroup).getD n .act

/-- Port state codes of Table 4.1. -/
def PortState.code : PortState → Nat
  | .disabled => 0
  | .armed => 1
  | .catching => 2
  | .running => 3
  | .stopping => 4
  | .sto => 5
  | .asc => 6
  | .fault => 7

/-- PORT_STATUS (Table 4.9). -/
def Device.portStatus (d : Device) (p : PortId) : Nat :=
  let x := d.port p
  fields [(28, x.limsrc), flag 27 x.refused, (24, x.state.code), flag 23 x.engaged, flag 22 x.locked, flag 21 x.obsFallback,
    flag 20 x.reversing, flag 19 x.paLimit, flag 18 (x.state == .asc || (x.state == .fault && x.faultAsc)), flag 17 x.ascUpper,
    flag 16 (Cfg.controlMode d.cfg p == 1), (12, x.catchStep), flag 11 x.twSpeed, flag 10 x.inputInvalid]

/-- ENGINE_STATUS (Table 3.10); FSW_KHZ is f_avg cut to whole kHz, up to 255 (DESIGN CHOICE, log entry 72: the spec names no
rounding). -/
def Engine.word (e : Engine) : Nat :=
  fields [flag 31 e.vlim, flag 30 e.fluxBuild, flag 29 e.dwellHold, flag 28 (decide (64 < e.fswScale) || decide (0 < e.dwellExt)),
    flag 27 e.pairDec, flag 26 e.sel.npb, flag 25 e.sel.fl, (21, twos 3 e.sel.tl), (16, e.code), (12, e.sel.sector),
    (0, min 255 (e.fAvg / 1000))]

/-- TW_STATUS (Table 5.5). -/
def Wheel.word (x : Wheel) : Nat :=
  fields [flag 31 x.readingValid, flag 30 x.angleValid, flag 29 x.signalOk, flag 28 x.dirchg, flag 27 x.reverse,
    flag 26 x.standstill, flag 25 x.syncSearch, flag 24 x.trackB, (22, x.passMode), (0, x.index)]

/-! ## Supply, charging, actuators, temperatures (chapters 8 to 11) -/

/-- CONV_STATUS (Table 8.7). -/
def Conv.word (x : Conv) : Nat :=
  fields [(28, x.limsrc), flag 27 x.refused, (25, if x.phases.any (·.precharging) then 3 else x.loop), (23, x.count),
    flag 22 x.running, flag 21 x.overFull, flag 20 x.batStale, flag 19 x.linkHigh, flag 18 x.discharging, flag 17 x.dischHot]

/-- LLC_STATUS. -/
def Device.llcStatus (d : Device) : Nat :=
  let x := d.supply.llc
  fields [flag 15 x.running, flag 14 x.burst, flag 13 x.startConv, flag 12 x.lowLink,
    (8, min 15 (x.restarts.filter fun t => decide (d.now < t + sec 10)).length)]

def bits (l : List Bool) : Nat := l.foldr (fun b n => (if b then 1 else 0) + 2 * n) 0

/-- AUX_STATUS (Table 8.8). -/
def Device.auxStatus (d : Device) : Nat :=
  let x := d.supply.aux
  fields [(28, x.limsrc), flag 27 x.refused, flag 26 x.running, flag 25 (x.ramp != (Cfg.auxVSet d.cfg : Rat) / 100),
    flag 24 x.syncLocked, flag 23 x.syncLost, flag 22 x.ovLatched, flag 21 x.stepAbort, flag 20 x.shedHold, (16, x.count),
    (8, bits x.active), (0, bits x.lostPh)]

/-- BACKUP_PATH (R228). -/
def Device.backupPath (d : Device) : Nat :=
  let x := d.supply.backup
  fields [flag 15 x.diodeOn, flag 14 x.heldOpen, (11, x.cause)]

def ChgState.code : ChgState → Nat
  | .idle => 0
  | .gridCheck => 1
  | .sync => 2
  | .cc => 3
  | .cv => 4
  | .complete => 5
  | .retryWait => 6
  | .lockedOut => 7

/-- CHG_STATUS (Table 9.9). -/
def Device.chgStatus (d : Device) : Nat :=
  let x := d.chg
  fields [(28, x.limsrc), flag 27 x.refused, (24, x.state.code), flag 23 x.gridOk, flag 22 x.pllLocked,
    flag 21 (decide (x.vregScale < 0x7FFFFF)), flag 20 x.fallback, flag 19 (d.active .tbatLost), (15, min 15 x.restarts.length)]

def BchgState.code : BchgState → Nat
  | .off => 0
  | .precharge => 1
  | .fast => 2
  | .trickle => 3
  | .waitTemp => 4
  | .paused => 5
  | .stopped => 6
  | .lost => 7

/-- BCHG_STATUS (Table 9.10). -/
def Device.bchgStatus (d : Device) : Nat :=
  let x := d.bchg
  fields [(28, if d.foldScale < 1 ∧ 0 < d.bchgSet then 15 else x.limsrc), flag 27 x.refused, (24, x.state.code), flag 23 (decide (d.foldScale < 1)), flag 22 x.timerPaused,
    flag 21 x.dvArmed, flag 20 d.chg.fallback, flag 19 x.present, (16, x.endCause)]

/-- BCHG_END_RECORD (Table 9.11). -/
def BackupCharger.record (x : BackupCharger) : Nat :=
  fields [(29, x.recCause), flag 28 x.recFold, flag 27 x.recPaused, (16, twos 8 x.recTemp), (0, x.recMin)]

/-- LAMP_CHG code (Table 9.5). -/
def Device.lampChgCode (d : Device) : Nat :=
  if Cfg.lampMode d.cfg = 1 then Cfg.lampHostChg d.cfg
  else
    let cc := d.chg.state == .cc || d.chg.state == .cv
    if cc && d.chg.limsrc == 0 && !d.chg.fallback then 1
    else if cc then 2
    else if d.chg.state == .complete then 3
    else if d.bchg.state == .precharge || d.bchg.state == .fast then 4
    else 0

/-- Causes of the LAMP_FLT codes (Table 9.6). -/
def lampCauses : List (Nat × List FaultName) :=
  [(1, [.chgtime]), (2, [.batauxLost]), (3, [.batauxHot, .batauxTsense]), (4, [.batauxDead]), (5, [.tbatLost]),
   (6, [.gridRetry]), (7, [.gridUv, .gridOv, .gridFreq, .gridUnbal, .gridPll, .gridLinkLow]), (8, [.chgWdExpired])]

/-- LAMP_FLT code (Table 9.6): the lowest active one. -/
def Device.lampFltCode (d : Device) : Nat :=
  if Cfg.lampMode d.cfg = 1 then Cfg.lampHostFlt d.cfg
  else ((lampCauses.find? fun e => e.2.any d.active).map Prod.fst).getD 0

/-- A flashing pattern: count flashes of a length on, one every step, repeated with a period, from a phase. -/
def patternLit (phase on step count period now : Nat) : Bool :=
  let t := (now + phase) % period
  decide (t < count * step) && decide (t % step < on)

/-- Whether a lamp is lit (R253, R254): the lamp test, an over-current, a steady light, or the phase of its pattern. -/
def Device.lampOn (d : Device) (flt : Bool) : Bool :=
  let steady := flt && Cfg.lampMode d.cfg != 1 && (d.ctl.state == .safe || d.ctl.state == .fault)
  let code := if flt then d.lampFltCode else d.lampChgCode
  if d.ctl.state == .off || (d.lamps.get flt).off then false
  else if d.lamps.test || steady then true
  else if code = 0 then false
  else if (flt && code == 255) || (!flt && code == 1) then true
  else if flt then patternLit (Config.lampPhase 4) (ms 250) (ms 500) code (ms (500 * code + 1500)) d.now
  else match code with
    | 2 => patternLit (Config.lampPhase 2) (ms 500) (sec 1) 1 (sec 1) d.now
    | 3 => patternLit (Config.lampPhase 3) (ms 100) (sec 2) 1 (sec 2) d.now
    | 4 => patternLit (Config.lampPhase 1) (ms 250) (sec 1) 1 (sec 1) d.now
    | _ => false

/-- LAMP_STATUS. -/
def Device.lampStatus (d : Device) : Nat :=
  fields [flag 15 (d.lampOn false), flag 14 (d.lampOn true), flag 13 (d.activeAt .lampOc (lampScope false)),
    flag 12 (d.activeAt .lampOc (lampScope true)), (8, d.lampFltCode % 16), (4, d.lampChgCode % 16)]

def OpState.code : OpState → Nat
  | .idle => 0
  | .pause => 1
  | .moving => 2
  | .seating => 3
  | .holding => 4
  | .backingOff => 5
  | .failed => 6
  | .disabled => 7

/-- ACT_STATUS (Table 10.7); op is the OP_STATE it shows. -/
def Actuator.word (x : Actuator) (op : OpState) : Nat :=
  fields [(28, x.limsrc), flag 27 x.refused, (24, op.code), (21, x.shift), (19, x.target), flag 18 x.homed, flag 17 x.atTarget,
    flag 16 x.endReached, flag 15 x.stall, flag 14 (x.op == .pause), flag 13 x.hot, (8, x.hall), (0, min 255 (percent x.therm))]

/-- THERM_STATUS (Table 11.5). -/
def Device.thermStatus (d : Device) : Nat :=
  let t := d.therm
  let sgs := stageNums.map stageOf
  fields ([flag 31 t.throttled, flag 30 (d.active .ctrlOt), flag 29 (decide (t.coolFactor < 1)), flag 28 (d.active .coolantHot),
    flag 27 (d.active .coolantFlow), flag 26 (decide (t.lctFactor < 1)), flag 25 (d.net.time.trim != 0), flag 24 (d.active .ctrlTsense)]
    ++ (sgs.map fun sg => flag (16 + sg.num) (d.activeAt .dieOt (.stage sg)))
    ++ (sgs.map fun sg => flag (8 + sg.num) (decide (d.lowRate sg < 1)))
    ++ (fourNums.map fun k => flag (4 + k) ((d.wtPorts k).any fun p => decide (d.windingFactor p < 1)))
    ++ fourNums.map fun k => flag k (t.wt.getD k none).isNone)

/-! ## Safety and Dorid (chapters 12 and 13) -/

def ScState.code : ScState → Nat
  | .start => 0
  | .uncommissioned => 1
  | .run => 2
  | .fail => 3

/-- SAFETY_STATUS (Table 12.7). -/
def Device.safetyStatus (d : Device) : Nat :=
  let x := d.safety
  fields ([(30, x.sc.code), flag 29 (x.sc == .run), flag 28 x.lineA, flag 27 x.lineB, flag 26 x.pairOut, flag 25 x.pairIn,
    flag 24 x.resetStuck] ++ (fourNums.map fun n => flag (20 + n) (d.sout n).on)
    ++ (fourNums.map fun n => flag (16 + n) (d.sout n).fault) ++ fnNums.map fun k => flag k (d.fn k).demand)

/-- PORT_SAFETY (Table 12.8). -/
def Device.portSafety (d : Device) (p : PortId) : Nat :=
  let x := d.psafe p
  let brake := match d.brakeOut p with
    | some n => !(d.sout n).on
    | none => true
  fields [flag 31 x.sto, flag 30 x.ss1, flag 29 x.ss1Mon, flag 28 x.sls, (26, x.slsLevel), flag 25 x.sdi, flag 24 x.sdiNeg,
    flag 23 x.speedOk, flag 22 x.xchk, flag 21 brake, flag 20 x.restartBlock, flag 19 (x.ss1Viol || x.slsViol || x.sdiViol),
    (0, min 65535 (roundCode x.travel).toNat)]

/-- IF_STATUS (Table 12.9). -/
def Device.ifStatus (d : Device) (k : Nat) : Nat :=
  let x := d.fn k
  fields [flag 15 x.demand, flag 14 x.waitReset, flag 13 x.disc, flag 12 ((d.fnInputs k).any fun n => (d.input n).test),
    flag 11 x.netLost, (0, bits x.active)]

/-- SI_STATE (Table 12.6). -/
def Device.siState (d : Device) : Nat :=
  fields ((fnNums.map fun n => flag (16 + n) (d.input n).level) ++ fnNums.map fun n => flag n (d.input n).test)

def DoridPhase.code : DoridPhase → Nat
  | .unused => 0
  | .starting => 1
  | .run => 2
  | .expired => 3

/-- DORID_STATUS (Table 13.10). -/
def Device.doridStatus (d : Device) (c : Nat) : Nat :=
  let x := d.conn c
  fields [(30, x.state.code), flag 29 (Cfg.dcRole d.scfg c == 2), flag 28 (d.connActive c), flag 27 x.errrate, (16, x.late),
    (0, x.seq)]

/-- DORID_COUNTERS. -/
def DoridConn.counters (x : DoridConn) : Nat := fields [(24, x.crcErr), (16, x.idErr), (8, x.seqErr), (0, x.ageErr)]

def CommState.code : CommState → Nat
  | .none => 0
  | .editing => 1
  | .checked => 2
  | .burning => 3
  | .proof => 4

/-- GEN_LEFT (R444). -/
def Otp.genLeft (o : Otp) : Nat := (o.records.filter fun r => !r.used).length

/-! ## Networks, dictionary, crossings (chapters 14 to 16) -/

def canPortOf (n : Nat) : CanPort := if n = 0 then .canA else if n = 1 then .canB else .canC

/-- CAN_STATUS (Table 14.14). -/
def Device.canStatus (d : Device) (n : Nat) : Nat :=
  let x := d.canPort (canPortOf n)
  fields [(23, x.tec), (15, x.rec_), (13, x.conf), flag 12 (d.activeAt .canWarn (.net (.can (canPortOf n)))),
    flag 11 (n == 0 && Cfg.canaFormat d.cfg == 1), flag 10 ((Cfg.canTerm d.cfg).testBit n), (0, x.load)]

/-- TIME_STATUS (Table 14.15). -/
def TimeState.word (x : TimeState) : Nat :=
  fields [(29, x.role), (26, x.masterRank), flag 25 x.stepped, flag 24 x.firstPending, (16, x.missed), (0, x.master)]

/-- ISO 11783 NAME (R347). -/
def Device.isoName (d : Device) : Nat :=
  let S := d.cfg
  fields [(63, 1), (60, 2), (56, Cfg.isoDcInst S), (49, Cfg.isoDevClass S), (40, Cfg.isoFunction S), (35, Cfg.isoFuncInst S),
    (32, if Cfg.pairPosition S = 2 then 1 else 0), (21, Config.manufacturerCode.toNat), (0, Config.serialNumber.toNat % 2097152)]

/-- Used words of a capture ring (closed packets), and CAP_COUNT in bytes (R374). -/
def CapItem.length (x : CapItem) : Nat := 2 + x.words.length
def CapPacket.length (x : CapPacket) : Nat := x.items.foldl (fun n i => n + i.length) 4
def CapRing.count (x : CapRing) : Nat := ((x.packets.filter (·.closed)).foldl (fun n p => n + p.length) 0) * 4

/-- CAP_STATUS. -/
def Device.capStatus (d : Device) (n : Nat) : Nat :=
  let x := d.net.rings.getD n {}
  fields [(14, Cfg.capMode d.cfg n), flag 13 x.running, flag 12 x.gap.isSome]

def CommitState.code : CommitState → Nat
  | .idle => 0
  | .editing => 1
  | .checking => 2
  | .checked => 3
  | .pending => 4
  | .done => 5
  | .refused => 6
  | .cancelled => 7

/-- COMMIT_STATUS as a path reads it (Table 15.13). -/
def Device.commitStatus (d : Device) (q : Path) : Nat :=
  let x := d.od
  fields [(28, x.state.code), (24, x.mode), flag 23 x.partnerMatch, flag 22 (x.lock == some q),
    flag 21 (d.activeAt .commitMissed .module), (16, min 31 x.lateBeats), (0, x.rule)]

/-- Level of a path's session: a level V session falls to E with SERVICE_N high (R392). -/
def Device.sessLevel (d : Device) (q : Path) : Nat :=
  match (d.path q).session with
  | some x => if x.level = 2 ∧ d.ctl.serviceNLow then 2 else 1
  | none => 0

/-- SESS_STATUS of a path (Table 15.14). -/
def Device.sessStatus (d : Device) (q : Path) : Nat :=
  let x := d.path q
  fields [(14, d.sessLevel q), flag 13 x.session.isSome, flag 12 x.lockedOut, flag 11 x.challenge.isSome,
    (8, (x.session.map fun s => s.slot).getD 0),
    (0, min 255 (x.failures.filter fun t => decide (d.now < t + sec 60)).length)]

def XingPhase.code : XingPhase → Nat
  | .running => 0
  | .holding => 1
  | .timedOut => 2
  | .resync => 3

/-- XING_STATUS. -/
def Crossing.word (x : Crossing) : Nat := fields [(14, x.phase.code), (4, x.late), (0, x.timeouts)]

/-- The self-test faults. -/
def bistFaults : List FaultName := [.bistWarp, .bistFabric, .bistGuy, .bistPin, .bistGate, .measTestFail]

/-- BIST_STATUS (Table 16.9). -/
def Device.bistStatus (d : Device) : Nat :=
  let x := d.bist
  fields [(30, x.passState), flag 29 (d.active .bistOverdue), flag 28 (bistFaults.any d.active), (24, x.lastFail),
    flag 23 x.deferCore, flag 22 x.deferClock, flag 21 x.deferLogic, (0, min 65535 x.progress)]

/-- INJ_STATUS (Table 16.10). -/
def Device.injStatus (d : Device) : Nat :=
  let x := d.inj
  fields [(28, x.active.length), flag 27 (d.comm.state == .proof), flag 26 x.real, flag 25 x.refusedS, (16, x.hits), (0, x.point)]

/-! ## Start-up and firmware (chapter 17) -/

/-- BOOT_RECORD (Table 17.12). -/
def Boot.word (x : Boot) : Nat :=
  fields [flag 31 x.trialRun, flag 30 x.trialFail, flag 29 x.bankFallback, flag 28 x.storeDefaults, flag 27 x.storeOld,
    flag 26 x.recordFallback, flag 25 x.noRecord, flag 24 x.idFail, (16, min 255 x.untrained), (0, min 65535 x.standbyT)]

/-- AR_COUNT: the number of burned fuses (R446). -/
def Otp.arCount (o : Otp) : Nat := ((List.range 128).filter fun f => o.fuses.getLsbD f).length

/-- KEY_STATE. -/
def Otp.keyState (o : Otp) : Nat := o.revoked.toNat * 16 + o.provisioned.toNat

/-- OTP_RECORDS. -/
def Otp.recordsWord (o : Otp) : Nat := bits (o.records.map (·.invalid)) + 256 * bits (o.records.map (·.used))

def FwState.code : FwState → Nat
  | .idle => 0
  | .erasing => 1
  | .receiving => 2
  | .verifying => 3
  | .verified => 4
  | .selected => 5
  | .failed => 6

def Firmware.bank (x : Firmware) (b : Bool) : Bank := if b then x.bank1 else x.bank0

/-- A byte of a bank: of the factory firmware until the bank is erased (R7); then, where no chunk has been written, what
erased flash reads as. -/
def Bank.byte (x : Bank) (i : Nat) : Byte :=
  if x.factory then Config.factoryByte i
  else match x.chunks.lookup (i / 1024) with
  | some l => l.getD (i % 1024) Config.erasedByte
  | none => Config.erasedByte

def Bank.bytes (x : Bank) (start len : Nat) : List Byte := (List.range len).map fun i => x.byte (start + i)

/-- A field of the header (Table 17.6). -/
def Bank.field (x : Bank) (start len : Nat) : Nat := leNat (x.bytes start len)

def Bank.version (x : Bank) : Nat := x.field 16 4
def Bank.secVer (x : Bank) : Nat := x.field 14 1
def Bank.keyId (x : Bank) : Nat := x.field 5 1
def Bank.bodyLen (x : Bank) : Nat := x.field 20 4

/-- Length of the image the header names. -/
def Bank.imageLen (x : Bank) : Nat := 256 + x.bodyLen + 29792

/-- What a pure SLH-DSA signature with a context string covers (FIPS 205). -/
def signedWith (ctx : List Byte) (msg : List Byte) : List Byte := [0, BitVec.ofNat 8 ctx.length] ++ ctx ++ msg

/-- "NYMF" and the context string "NYM-FW". -/
def fwText : Nat := 0x464D594E
def fwContext : List Byte := [0x4E, 0x59, 0x4D, 0x2D, 0x46, 0x57]

/-- Verification of an image (R449): 0, or the FW_RESULT code of the first check that fails. The factory firmware (R7) is an
image for this module; of its checks only those against the OTP store can fail (DEDUCED, log entry 2). -/
def Bank.result (o : Otp) (x : Bank) : Nat :=
  if x.factory then (if x.secVer < o.arCount then 4 else if o.fwRevoked.getLsbD x.keyId then 7 else 0)
  else if (x.chunks.lookup 0).isNone then 1
  else if x.field 0 4 ≠ fwText ∨ x.field 4 1 ≠ 1 then 1
  else if x.field 8 4 ≠ 0x1560 then 2
  else if Config.hwIssue.toNat < x.field 12 2 then 3
  else if x.secVer < o.arCount then 4
  else if Config.shake256 (x.bytes 256 x.bodyLen) 512 ≠ x.bytes 32 64 then 5
  else if 1 < x.keyId ∨ !Config.slhVerify (Config.firmwareKey x.keyId) (signedWith fwContext (x.bytes 0 256))
      (x.bytes (256 + x.bodyLen) 29792) then 6
  else if o.fwRevoked.getLsbD x.keyId then 7
  else if 8388608 < x.imageLen then 8
  else 0

/-- The bank verifies. -/
def bankGood (o : Otp) (x : Bank) : Bool := x.result o == 0

/-- FW_STATUS (Table 17.13). -/
def State.fwStatus (s : State) : Nat :=
  let x := s.dev.fw
  fields [(29, x.state.code), flag 28 x.running, flag 27 x.trial, flag 26 x.next.isSome, flag 25 (x.next == some true),
    flag 24 (bankGood s.otp (x.bank !x.running)), (16, x.result), (0, min 65535 x.written.length)]

/-! ## Values of the read-only objects -/

/-- A REAL32 value. -/
def realVal (x : Rat) : Nat := (Config.realBits x).toNat

/-- A temperature; without a valid one the spec states no value (free). -/
def Device.tempVal (d : Device) (t : Option Rat) : Nat := realVal (t.getD (Config.freeRat d.fresh))

/-- A die temperature code (R184). -/
def tempCode (t : Option Int) : Nat := match t with
  | some v => ofSigned 16 v
  | none => 0x8000

def portOf (ix : Nat) : PortId := if ix % 0x1000 < 0x800 then .a else .b

/-- Objects of chapters 1 to 4. -/
def Device.roPorts (d : Device) (ix sub : Nat) : Option Nat :=
  let p := portOf ix
  let x := d.port p
  let e := x.eng
  if ix = 0x5000 then
    match sub with
    | 1 => some d.moduleStatus
    | 2 => some d.faults.activeFault.toNat
    | 3 => some d.ctl.latePortA
    | 4 => some d.ctl.latePortB
    | 5 => some d.ctl.lateOther
    | 6 => some d.ctl.partnerLossCount
    | 7 => some d.boot.word
    | _ => none
  else if ix = 0x5200 then some (d.island (sub - 1)).word
  else if ix = 0x5201 then some (d.stageStatus (stageOf (sub - 1)))
  else if ix = 0x5202 then some d.gates.earlyCmd
  else if 0x5210 ≤ ix ∧ ix ≤ 0x5213 then some (d.chan ((ix - 0x5210) * 128 + sub - 1)).word
  else if ix = 0x8200 then if sub = 2 then some d.gates.retestResult else some d.gates.retestState
  else if ix = 0x6140 ∨ ix = 0x6940 then
    match sub with
    | 1 => some e.word
    | 2 => some (realVal e.torque)
    | 3 => some (realVal e.flux)
    | 4 => some (realVal e.theta)
    | 5 => some (realVal e.speed)
    | 6 => some (realVal e.npDev)
    | 7 => some e.fswScale
    | 8 => some e.dwellExt
    | 9 => some e.commCount
    | 10 => some (roundCode e.obsConf).toNat
    | 11 => some (realVal e.idif)
    | 12 => some (min 255 e.fluxAge)
    | _ => none
  else if ix = 0x6040 ∨ ix = 0x6840 then
    match sub with
    | 1 => some (d.portStatus p)
    | 2 => some (realVal x.speedRef)
    | 3 => some (realVal x.torqueCmd)
    | 4 => some (realVal x.ceiling)
    | 5 => some (realVal (d.partnerLimit p))
    | 6 => some (realVal x.curveInput)
    | 7 => some x.lrCount
    | 8 => some x.recatchCount
    | 9 => some (realVal x.catchSpeed)
    | _ => none
  else if 0x5500 ≤ ix ∧ ix ≤ 0x5503 then
    let w := d.wheel (ix - 0x5500)
    match sub with
    | 1 => some w.word
    | 2 => some (realVal w.speed)
    | 3 => some (realVal w.angle)
    | 4 => some (ofSigned 32 w.revs)
    | 5 => some (w.lastEdge.getD 0)
    | 6 => some w.pwErr
    | 7 => some w.syncErr
    | 8 => some w.dirchgCount
    | 9 => some w.lastPw
    | _ => none
  else none

/-- Objects of chapters 6 to 9 (FINE_RESULT and CHAN_STATUS, whose reads act, stand in readObject). -/
def Device.roPower (d : Device) (ix sub : Nat) : Option Nat :=
  let m := sub - 1
  let S := d.supply
  match ix with
  | 0x3620 => some (ofSigned 32 (d.mchan m).calOffset)
  | 0x3621 => some (d.mchan m).calGain
  | 0x5601 => some (d.mchan m).fastWord
  | 0x5602 => some (realVal (d.fineVal m))
  | 0x5604 => some (d.meas.temps.getD m {}).word
  | 0x5605 => if sub = 1 then some (realVal d.meas.iso.r) else if sub = 2 then some (realVal d.meas.iso.c) else some d.isoStatus
  | 0x5606 => if sub = 1 then some d.meas.passCount else if sub = 2 then some d.meas.abortCount else some d.meas.deferCount
  | 0x8600 => some d.meas.calState
  | 0x9600 => some (ofSigned 32 (Config.factoryOffset m))
  | 0x9601 => some (Config.factoryGain m)
  | 0x5700 => some (d.slotStatus m)
  | 0x5701 => some (ofSigned 32 (d.slot m).output)
  | 0x5702 => some (d.slot m).lateCount
  | 0x5800 => match sub with
    | 1 => some S.conv.word
    | 2 => some (realVal d.linkFine)
    | 3 => some (realVal S.conv.power)
    | 4 => some (roundCode (S.conv.overload / 1000)).toNat
    | _ => some (roundCode (S.conv.dischAcc / 1000)).toNat
  | 0x5810 => match sub with
    | 1 => some d.llcStatus
    | 2 => some (realVal (d.fineVal 23))
    | _ => some S.llc.freq
  | 0x5820 => match sub with
    | 1 => some d.auxStatus
    | 2 => some (realVal (d.fineVal 25))
    | 3 => some (realVal (d.fineVal 26))
    | 4 => some S.aux.syncFreq
    | _ => some S.aux.syncLate
  | 0x5830 => if sub = 1 then some d.backupPath else some (realVal (d.fineVal 44))
  | 0x5840 => some (realVal (match sub with
    | 1 => S.driveCap
    | 2 => S.brakeCap
    | 3 => S.gridGrant
    | _ => S.left54))
  | 0x5900 => match sub with
    | 1 => some d.chgStatus
    | 2 => some (realVal d.chg.gridV)
    | 3 => some (realVal d.chg.gridF)
    | 4 => some (realVal (d.chg.gridP / 1000))
    | 5 => some (percent ((d.chg.vregScale : Rat) / 0x7FFFFF))
    | 6 => some (realVal d.chg.iCmd)
    | _ => some d.chg.wdLate
  | 0x5910 => match sub with
    | 1 => some d.bchgStatus
    | 2 => some (realVal (d.fineVal 27))
    | 3 => some (realVal (d.fineVal 28))
    | 4 => some (d.tempVal d.bchg.temp)
    | 5 => some (min 65535 (timerRun d.bchg.safetyRun d.bchg.safetySince d.now / sec 1))
    | 6 => some (min 65535 (timerRun d.bchg.ceilRun d.bchg.ceilSince d.now / sec 1))
    | 7 => some d.bchg.record
    | _ => some d.bchg.late
  | 0x5920 => some d.lampStatus
  | _ => none

/-- Objects of chapters 10 to 13. -/
def State.roSafety (s : State) (ix sub : Nat) : Option Nat :=
  let d := s.dev
  let k := sub - 1
  let t := d.therm
  if 0x5A00 ≤ ix ∧ ix ≤ 0x5A03 then
    let x := d.act (ix - 0x5A00)
    match sub with
    | 1 => some (x.word (d.actState (ix - 0x5A00)))
    | 2 => some (ofSigned 32 x.pos)
    | 3 => some (realVal (d.fineVal (33 + (ix - 0x5A00))))
    | _ => some (fields [(16, x.hallSkip), (8, x.cmdBusy), (0, x.actLate)])
  else if 0x5610 ≤ ix ∧ ix ≤ 0x5613 then some (tempCode (d.chan ((ix - 0x5610) * 128 + k)).temp)
  else if 0x5D00 ≤ ix ∧ ix ≤ 0x5D01 then some (d.doridStatus ((ix - 0x5D00) * 128 + k))
  else if 0x5D02 ≤ ix ∧ ix ≤ 0x5D03 then some (d.conn ((ix - 0x5D02) * 128 + k)).counters
  else match ix with
  | 0x5B00 => match sub with
    | 1 => some d.thermStatus
    | 2 => some (d.tempVal t.tj)
    | 3 => some (d.tempVal t.tjA)
    | 4 => some (d.tempVal t.tjB)
    | 5 => some (d.tempVal t.coolIn)
    | 6 => some (d.tempVal t.coolOut)
    | 7 => some (percent t.coolFactor)
    | _ => some (ofSigned 32 t.tbCorr)
  | 0x5B01 => some (d.tempVal (t.wt.getD k none))
  | 0x5B02 => some (d.tempVal (t.lct.getD k none))
  | 0x5B03 => some (percent (d.thermFactor (stageOf k)))
  | 0x5B04 => some (match t.hottest.getD k none with
    | some (g, c) => g * 65536 + ofSigned 16 c
    | none => 0)
  | 0x5B05 => some (ofSigned 16 (t.maxDtdt.getD k 0))
  | 0x5C00 => if sub = 1 then some d.safetyStatus else some d.siState
  | 0x5C01 => some (d.ifStatus k)
  | 0x5C02 => some (realVal (d.psafe (if sub = 1 then .a else .b)).speed)
  | 0x5C03 => some (d.portSafety (if sub = 1 then .a else .b))
  | 0x5C04 => if sub = 1 then some d.safety.eccCorr else some d.safety.safeLate
  | 0x7F00 => match sub with
    | 1 => some d.comm.state.code
    | 2 => some d.comm.check.toNat
    | 3 => some d.comm.shadowCheck.toNat
    | 4 => some d.comm.generation
    | 5 => some s.otp.genLeft
    | _ => some d.comm.unknown
  | _ => none

/-- Objects of chapters 14 to 17. -/
def State.roSystem (s : State) (q : Path) (ix sub : Nat) : Option Nat :=
  let d := s.dev
  let k := sub - 1
  if 0x5E40 ≤ ix ∧ ix ≤ 0x5E4F then
    let r := d.net.rings.getD (ix - 0x5E40) {}
    match sub with
    | 1 => some (d.capStatus (ix - 0x5E40))
    | 2 => some r.count
    | _ => some r.dropped
  else match ix with
  | 0x1000 => some 0
  | 0x1001 => some d.faults.errorRegister
  | 0x1018 => match sub with
    | 1 => some 0x3D9
    | 2 => some 0x1560
    | 3 => some (Config.hwIssue.toNat * 65536 + (d.fw.bank d.fw.running).version % 65536)
    | _ => some Config.serialNumber.toNat
  | 0x5E00 => some (d.canStatus k)
  | 0x5E01 => if sub = 4 then some d.net.rxLong else some (d.canPort (canPortOf k)).unmatched
  | 0x5E02 => match sub with
    | 1 => some d.net.time.word
    | 2 => some d.now
    | 3 => some (ofSigned 32 d.net.time.offset)
    | _ => some d.net.time.late
  | 0x5E03 =>
    if sub ≤ 16 then
      let x := d.net.txq.getD k {}
      some (fields [flag 15 x.full, (0, x.frames.length)])
    else some (d.net.txq.getD (sub - 17) {}).drop
  | 0x5E04 => some (Config.txqTmax k d.cfg % 65536)
  | 0x5E05 => some d.net.guy.err
  | 0x5E06 => if sub = 1 then some d.net.hkDiscard else some d.net.ethDiscard
  | 0x5E07 => some d.isoName
  | 0x2F01 => match sub with
    | 1 => some (d.commitStatus q)
    | 2 => some d.od.lastCommit
    | 3 => some d.settingsId.toNat
    | 4 => some d.od.shadowId.toNat
    | 5 => some d.od.partnerId.toNat
    | _ => some d.od.staged.length
  | 0x2F21 => some (d.sessStatus q)
  | 0x5F00 => if sub = 2 then some d.faults.events.length else some d.faults.lost
  | 0x9100 => some s.otp.keyState
  | 0x8001 => match sub with
    | 1 => some d.bistStatus
    | 2 => some d.bist.passCount
    | 3 => some d.bist.deferCount
    | 4 => some d.bist.skipCount
    | 5 => some (min 65535 d.bist.lastPassT)
    | _ => some (fields [(28, d.bist.failType), (0, d.bist.failTarget)])
  | 0x8011 => if sub = 1 then some d.injStatus else some d.inj.count
  | 0x8020 => some (d.cross.xing.getD k {}).word
  | 0x8021 => some (d.cross.blocks.getD k {}).epoch
  | 0x8022 => some (d.cross.blocks.getD k {}).discard
  | 0x8030 => some (d.cross.retry.getD k 0)
  | 0x8031 => some d.cross.lateMisc
  | 0x9000 => match sub with
    | 2 => some Config.serialNumber.toNat
    | 3 => some Config.hwIssue.toNat
    | _ => some Config.productionDate.toNat
  | 0x9011 => match sub with
    | 1 => some s.fwStatus
    | 2 => some d.fw.bank0.version
    | 3 => some d.fw.bank1.version
    | 4 => some d.fw.bank0.secVer
    | 5 => some d.fw.bank1.secVer
    | _ => some s.otp.arCount
  | 0x9020 => some d.boot.idStatus
  | 0x9021 => some d.boot.attest
  | 0x9030 => if sub = 1 then some s.otp.recordsWord else some d.boot.storeSeq
  | _ => none

/-- The value of a read-only object of a numeric type, as a path reads it. -/
def State.roValue (s : State) (q : Path) (ix sub : Nat) : Nat :=
  ((s.dev.roPorts ix sub).orElse fun _ => (s.dev.roPower ix sub).orElse fun _ =>
    (s.roSafety ix sub).orElse fun _ => s.roSystem q ix sub).getD 0

end Sys2Proof.Machine
end

