-- ==== Sys2Proof/Machine/Networks.lean ====
section
/-!
DEFINITION. The network ports (chapter 14): transmit queues, receive objects, fault confinement and bus load of the CAN
ports, CANopen FD network management, ISO 11783 on CANC, and the ETH1 link.
-/

namespace Sys2Proof.Machine

def Device.onTime (f : TimeState → TimeState) (d : Device) : Device := { d with net := { d.net with time := f d.net.time } }

def Device.onGuy (f : GuyState → GuyState) (d : Device) : Device := { d with net := { d.net with guy := f d.net.guy } }

/-- A live object as a read returns it: the value last accepted (R384). -/
def Device.current (d : Device) (key dflt : Nat) : Nat := (d.od.live.reverse.lookup key).getD (d.od.inForce.raw key dflt)

/-- CANA or CANB. -/
def canOf (onB : Bool) : CanPort := if onB then .canB else .canA

def canScope (p : CanPort) : Scope := .net (.can p)

/-- A session of a path ends; the injections it armed are withdrawn (R392, R429). -/
def closeSession (q : Path) (d : Device) : Device :=
  let d := d.onPath q fun x => { x with session := none }
  { d with inj := { d.inj with active := d.inj.active.filter fun i => i.path != q } }

/-- The sessions of every path a test picks end. -/
def closeSessions (f : Path → Bool) (d : Device) : Device := d.each ((d.od.paths.map Prod.fst).filter f) closeSession

/-! ## Transmit queues (R349-R351) -/

/-- The port a number names can transmit: a CAN port that is neither bus-off nor off, or ETH1 with its link up. -/
def Device.canSend (d : Device) (port : Nat) : Bool :=
  if port ≤ 2 then decide ((d.canPort (canPortOf port)).conf ≤ 1) else port == 3 && d.net.eth1Up

/-- The queue of a class (R353). -/
def Device.classQueue (d : Device) (c : Nat) : Nat := if c = 0 then 0 else Cfg.classQ d.cfg c

/-- The oldest response that waits for a queue enters it (R350). -/
def refill (q : Nat) (d : Device) : Device :=
  match d.net.waiting.find? fun f => d.classQueue f.cls == q with
  | none => d
  | some f => txEnqueue f { d with net := { d.net with waiting := d.net.waiting.erase f } }

/-- The frame as its port transmits it (R344, R348). -/
def Device.asSent (d : Device) (q port : Nat) (f : TxFrame) : Sent :=
  { port, frame := f, xl := port == 0 && Cfg.canaFormat d.cfg == 1
    vid := if port = 3 then Cfg.eth1Vlan d.cfg else 0
    pcp := if port = 3 ∧ Cfg.eth1Vlan d.cfg ≠ 0 then Cfg.txqPrio d.cfg q else 0 }

/-- FRAME_SENT (R349): the head of a queue has been transmitted; the next frame becomes head. -/
def frameSent (q : Nat) (d : Device) : Device :=
  let port := Cfg.txqPort d.cfg q
  match (d.net.txq.getD q {}).frames with
  | [] => d
  | f :: rest =>
    if !d.canSend port then d
    else refill q { d with net := { d.net with
      lastSent := some (d.asSent q port f), txq := d.net.txq.modify q fun x => { x with frames := rest, full := false } } }

/-- The key by which heads compete: the arbitration field on CAN, an 11-bit identifier before a 29-bit one with the same base, and
TXQ_PRIO on ETH1 (R349). -/
def Device.headKey (d : Device) (q : Nat) (f : TxFrame) : Nat :=
  if Cfg.txqPort d.cfg q = 3 then Cfg.txqPrio d.cfg q
  else if f.ident < 0x80000000 then f.ident % 2048 * 524288 else f.ident % 536870912 * 2 + 1

/-- The head of a queue goes out before those of the other queues of its port: the lowest key, ties to the lower queue number. -/
def Device.headWins (d : Device) (q : Nat) : Bool :=
  match (d.net.txq.getD q {}).frames.head? with
  | none => false
  | some f => (List.range 16).all fun r => r == q || Cfg.txqPort d.cfg r != Cfg.txqPort d.cfg q ||
      (match (d.net.txq.getD r {}).frames.head? with
        | none => true
        | some g => decide (d.headKey q f < d.headKey r g) || (d.headKey q f == d.headKey r g && decide (q < r)))

def execFrameSent (q : Fin 16) (s : State) : Host.Outcome State Fault Refusal :=
  .next (if s.dev.headWins q then s.onDev (frameSent q) else s)

/-- TXQ_ENQUEUE (R350, R353). -/
def execTxqEnqueue (cls : Fin 14) (data : List Byte) (s : State) : Host.Outcome State Fault Refusal :=
  .next (if s.dev.ctl.state = .off then s else s.onDev (txEnqueue { cls := cls, data }))

/-- The period of a cyclic frame, ns, where it has one (R351): Dorid producers, heartbeats, TPDOs with an event timer. -/
def Device.framePeriod (d : Device) (f : TxFrame) : Option Nat :=
  match f.cls with
  | 1 | 2 =>
    (connNums.find? fun c => d.produces c && Cfg.dcPort d.scfg c + 1 == f.cls && Cfg.dcNetId d.scfg c == f.ident).map
      fun c => ms (Cfg.dcPeriod d.scfg c)
  | 6 | 7 =>
    let i := f.cls - 6
    if f.ident = 0x700 + Cfg.canopenId d.cfg i ∧ Cfg.hbProducer d.cfg i ≠ 0 then some (ms (Cfg.hbProducer d.cfg i)) else none
  | 10 | 11 =>
    ((List.range 16).map (· + 16 * (f.cls - 10))).findSome? fun j =>
      if Cfg.tpdoComm d.cfg j 0 % 536870912 = f.ident % 536870912 ∧ Cfg.tpdoTimer d.cfg j ≠ 0 then
        some (ms (Cfg.tpdoTimer d.cfg j)) else none
  | _ => none

/-- A cyclic frame in a queue of a bus-off port that is older than its own period (R351). -/
def Device.stale (d : Device) (f : TxFrame) : Bool :=
  cyclicClass f.cls && (match d.framePeriod f with
    | some t => decide (f.time + t < d.now)
    | none => false)

/-- R351: stale cyclic frames leave the queues of a bus-off port and are counted. -/
def purgeStale (p : CanPort) (d : Device) : Device :=
  d.each (List.range 16) fun q d =>
    if Cfg.txqPort d.cfg q ≠ p.num then d
    else { d with net := { d.net with txq := d.net.txq.modify q fun x =>
      let keep := x.frames.filter fun f => !d.stale f
      { x with frames := keep, drop := addWrap 32 x.drop (x.frames.length - keep.length) } } }

/-! ## Receive objects (R354-R356) -/

/-- Records of the firmware services: the first free record number below them (R354). -/
def Device.fwBinds (d : Device) : List (Nat × Nat) := firmwareBinds d.cfg d.scfg

/-- A message CANC carries for the firmware's own ISO 11783 services (R346): requests, address claims and transport to the
module or to all, and Proprietary A to the module. -/
def Device.isoService (d : Device) (ident : Nat) : Bool :=
  let pf := ident / 65536 % 256
  let da := ident / 256 % 256
  (pf == 0xEA || pf == 0xEE || pf == 0xEB || pf == 0xEC || pf == 0xEF) && (da == 0xFF || d.net.isoAddr == some da)

/-- The record a frame matches, and whether a firmware service owns it. -/
def Device.rxMatch (d : Device) (p : CanPort) (f : CanFrame) : Option (Nat × Bool) :=
  let b := (p.num, f.ident + (if f.ext then 536870912 else 0))
  match (List.range 2048).find? fun r => rxBind d.cfg r == some b with
  | some r => some (r, false)
  | none => (d.fwBinds.findIdx? fun e => e == b).map fun k => (2047 - k, true)

/-- What a matching frame leaves in a record (R355): LOST where the replaced content had not been read. -/
def RxObject.receive (old : RxObject) (firmware : Bool) (f : CanFrame) (sof : Nat) : RxObject :=
  { isNew := !firmware, lost := old.isNew, lostCount := if old.isNew then addWrap 16 old.lostCount 1 else old.lostCount
    xl := f.xl, fd := f.fd || f.xl, brs := f.brs, time := sof, data := f.data }

def Device.rxObject (d : Device) (r : Nat) : RxObject := (d.net.rx.lookup r).getD {}

def Device.onRx (r : Nat) (f : RxObject → RxObject) (d : Device) : Device :=
  { d with net := { d.net with
    rx := if d.net.rx.any (fun e => e.1 == r) then d.net.rx.map fun e => if e.1 == r then (r, f e.2) else e
      else d.net.rx ++ [(r, f {})] } }

/-- A heartbeat of a consumed node has arrived: its producer is no longer lost (R345). -/
def heartbeatSeen (p : CanPort) (f : CanFrame) (d : Device) : Device :=
  if p != .canC && !f.ext && decide (0x701 ≤ f.ident) && decide (f.ident ≤ 0x77F) then
    let e := (p == .canB, f.ident - 0x700)
    { d with net := { d.net with
      hbLost := d.net.hbLost.filter fun x => x != e, hbSeen := (d.net.hbSeen.filter fun x => x.1 != e) ++ [(e, d.now)] } }
  else d

/-- The port's standard carries the frame (Table 14.1). -/
def frameCarried (f : CanFrame) : CanPort → Bool
  | .canA => true
  | .canB => !f.xl
  | .canC => !f.xl && !f.fd && f.ext

/-- CAN_FRAME_RX (R344, R354, R355). -/
def canFrameRx (p : CanPort) (f : CanFrame) (sof : Nat) (d : Device) : Device :=
  if !d.canSend p.num || !frameCarried f p then d
  else
  let d := d.onCan p fun x => { x with lastRx := some f }
  if f.xl ∧ 64 < f.data.length then { d with net := { d.net with rxLong := addWrap 32 d.net.rxLong 1 } }
  else match d.rxMatch p f with
    | some (r, firmware) => heartbeatSeen p f (d.onRx r fun old => old.receive firmware f sof)
    | none =>
      if p = .canC ∧ d.isoService f.ident then d
      else d.onCan p fun x => { x with unmatched := addWrap 32 x.unmatched 1 }

def execCanFrameRx (p : CanPort) (f : CanFrame) (sof : Nat) (s : State) : Host.Outcome State Fault Refusal :=
  .next (s.onDev (canFrameRx p f sof))

/-- RX_ENTRY (Table 14.4). -/
def Device.rxEntry (d : Device) (r : Nat) : List Byte :=
  let x := d.rxObject r
  leBytes 4 (fields [flag 31 x.isNew, flag 30 x.lost, flag 29 x.xl, flag 28 x.fd, flag 27 x.brs,
      flag 26 (decide (2048 ≤ r + d.fwBinds.length)), (19, x.data.length), (0, x.lostCount)])
    ++ leBytes 8 x.time ++ x.data ++ List.replicate (64 - x.data.length) 0

/-- A host read of RX_ENTRY marks the record read (R355). -/
def readRxEntry (r : Nat) (s : State) : W32 × List Byte × State :=
  (Abort.ok, s.dev.rxEntry r, s.onDev (Device.onRx r fun x => { x with isNew := false }))

def execRxEntryRead (path : Path) (r : Fin 2048) (s : State) : Host.Outcome State Fault Refusal :=
  .next (hostRead path .b (readRxEntry r) s)

/-! ## Fault confinement and bus load (R357-R359) -/

/-- A notice of R357: its event, its EMCY messages, and HOST_ATTN_N low until every event has been read. -/
def notice (f : FaultName) (p : CanPort) (d : Device) : Device :=
  if d.activeAt f (canScope p) then d
  else
    let d := raise f (canScope p) 0 d
    { d with faults := { d.faults with attnHeld := true } }

/-- Confinement state of a pair of counters (ISO 11898-1): 0 error-active, 1 error-passive, 2 bus-off. -/
def confOf (tec rec : Nat) : Nat := if 256 ≤ tec then 2 else if 128 ≤ tec ∨ 128 ≤ rec then 1 else 0

/-- CAN_WARN by the counters (R357). -/
def warnByCounters (p : CanPort) (tec rec : Nat) (d : Device) : Device :=
  let lim := Cfg.canWarnLim d.cfg p.num
  if lim ≤ tec ∨ lim ≤ rec then notice .canWarn p d
  else if tec + 16 < lim ∧ rec + 16 < lim then clearFault .canWarn (canScope p) d
  else d

/-- CAN_ERROR_STATE_CHANGE (R357): bus-off also closes the USDO sessions of the port (R392). -/
def canErrorState (p : CanPort) (tec rec : Nat) (d : Device) : Device :=
  let d := d.onCan p fun x => { x with tec := min 511 tec, rec_ := min 255 rec, conf := confOf tec rec }
  let d := warnByCounters p tec rec d
  match confOf tec rec with
  | 0 => clearFault .canPassive (canScope p) d
  | 1 => notice .canPassive p d
  | _ => closeSessions (fun q => match q with
      | .usdo onB _ => canOf onB == p
      | .canc => p == .canC
      | .hk _ _ => false) (notice .canBusoff p d)

def execCanErrorStateChange (p : CanPort) (tec rec : Nat) (s : State) : Host.Outcome State Fault Refusal :=
  .next (if (s.dev.canPort p).conf ≤ 1 then s.onDev (canErrorState p tec rec) else s)

/-- CAN_RECOVER (R358): bit p lets a bus-off port start its recovery. -/
def cmdCanRecover (mask : Nat) (d : Device) : W32 × Device :=
  if [0, 1, 2].any fun p => mask.testBit p && ((d.cross.blocks.getD p {}).absent || (d.cross.xing.getD (p + 1) {}).phase == .holding)
  then (Abort.absent, d)
  else (Abort.ok, d.each [CanPort.canA, .canB, .canC] fun p d =>
    if mask.testBit p.num && (d.canPort p).conf == 2 then d.onCan p fun x => { x with recovering := true } else d)

def execCanRecover (path : Path) (mask : BitVec 8) (s : State) : Host.Outcome State Fault Refusal :=
  .next (hostWrite path .e false (devCmd (cmdCanRecover mask.toNat)) s)

/-! ## ISO 11783 on CANC (R346, R347) -/

/-- The address claim goes out from an address: priority 6, PGN 60928, to all, with the NAME. -/
def sendClaim (a : Nat) (d : Device) : Device :=
  txEnqueue { cls := 12, ident := 0x80000000 + 0x18EEFF00 + a, data := leBytes 8 d.isoName } d

/-- The module claims the address it holds, at first or without one its preferred address. -/
def isoClaim (d : Device) : Device :=
  let a := match d.net.isoAddr with
    | some a => if a = 254 then Cfg.cancAddr d.cfg else a
    | none => Cfg.cancAddr d.cfg
  sendClaim a (clearFault .isoNoAddr (canScope .canC) { d with net := { d.net with isoAddr := some a } })

/-- The next free address of 128-247 after an address, going round. -/
def nextFree (a : Nat) (taken : List Nat) : Option Nat :=
  ((List.range 120).map fun k => 128 + (a - 128 + 1 + k) % 120).find? fun b => !taken.contains b

/-- The claim of the present address is lost to a lower NAME: the next free address, or the null address. -/
def isoLost (d : Device) : Device :=
  let a := d.net.isoAddr.getD (Cfg.cancAddr d.cfg)
  let taken := d.net.isoTaken ++ [a]
  match nextFree a taken with
  | some b =>
    sendClaim b (clearFault .isoNoAddr (canScope .canC) { d with net := { d.net with isoAddr := some b, isoTaken := taken } })
  | none =>
    raise .isoNoAddr (canScope .canC) 0 (sendClaim 254 { d with net := { d.net with isoAddr := some 254, isoTaken := taken } })

/-- The claim of another node: of the module's own address it is contested, and the lower NAME wins (R347); any other address of
128-247 is taken from now on. -/
def isoHeard (a name : Nat) (d : Device) : Device :=
  if d.net.isoAddr = some a ∧ a ≠ 254 then (if name < d.isoName then isoLost d else isoClaim d)
  else if d.net.isoTaken.contains a then d
  else { d with net := { d.net with isoTaken := d.net.isoTaken ++ [a] } }

/-- ISO_ADDRESS_CLAIM (R346): the module's own claim, or the address and NAME of a claim received. -/
def execIsoAddressClaim (heard : Option (BitVec 8 × BitVec 64)) (s : State) : Host.Outcome State Fault Refusal :=
  .next (if !s.dev.canSend 2 then s else match heard with
    | some (a, name) => s.onDev (isoHeard a.toNat name.toNat)
    | none => s.onDev isoClaim)

/-- CAN_BUSOFF_RECOVERED (R351, R358): error-active with counters at 0; stale cyclic frames are gone; CANC claims its
address again; the Dorid producers of the port restart (R325). -/
def busoffRecovered (p : CanPort) (d : Device) : Device :=
  let d := (purgeStale p d).onCan p fun x => { x with tec := 0, rec_ := 0, conf := 0, recovering := false }
  let d := clearFault .canWarn (canScope p) (clearFault .canPassive (canScope p) (clearFault .canBusoff (canScope p) d))
  let d := doridPortRestart p.num d
  if p = .canC then isoClaim d else d

def execCanBusoffRecovered (p : CanPort) (s : State) : Host.Outcome State Fault Refusal :=
  let x := s.dev.canPort p
  .next (if x.conf = 2 ∧ (p = .canC ∨ Cfg.busoffMode s.dev.cfg = 0 ∨ x.recovering) then s.onDev (busoffRecovered p) else s)

/-- CAN_LOAD_MEASURE (R359): ten measurements of 100 ms above 90 % in a row raise CAN_LOAD_HIGH, ten below clear it. -/
def canLoad (p : CanPort) (load : Nat) (d : Device) : Device :=
  let load := if d.forced 0x0E01 (canScope p).number then 1000 else load
  let d := d.onCan p fun x => { x with
    load := min load 1000, loadAt := some d.now, loadHigh := if 900 < load then min 10 (x.loadHigh + 1) else 0
    loadLow := if load < 900 then min 10 (x.loadLow + 1) else 0 }
  if (d.canPort p).loadHigh = 10 then raise .canLoadHigh (canScope p) 0 d
  else if (d.canPort p).loadLow = 10 then clearFault .canLoadHigh (canScope p) d
  else d

def execCanLoadMeasure (p : CanPort) (load : Nat) (s : State) : Host.Outcome State Fault Refusal :=
  .next (if (s.dev.canPort p).conf ≠ 3 ∧ due s.dev.now (s.dev.canPort p).loadAt (ms 100) then s.onDev (canLoad p load) else s)

/-- The item of Table 14.2: the object's key, whether it is writable, its value as bytes 4-7 hold it. -/
def isoItem (s : State) (item : Nat) : Option (Bool × Nat) :=
  let ro := fun ix sub => some (false, s.roValue .canc ix sub)
  let rw := fun key => some (true, s.dev.current key 0)
  match item with
  | 1 => ro 0x5000 1
  | 2 => ro 0x5000 2
  | 3 => some (false, s.dev.portStatus .a)
  | 4 => some (false, s.dev.portStatus .b)
  | 5 => ro 0x6140 5
  | 6 => ro 0x6940 5
  | 7 => ro 0x5820 2
  | 8 => ro 0x5920 1
  | 9 => rw (speedInputKey .a)
  | 10 => rw (speedInputKey .b)
  | 11 => rw (driveRequestKey .a)
  | 12 => rw (driveRequestKey .b)
  | _ => none

/-- The response to a Proprietary A message (R346): priority 6, PGN 61184, to the source. The value of an error response is
open. -/
def isoAnswer (opcode item seq status : Nat) (source : Nat) (v : Nat) (d : Device) : Device :=
  txEnqueue { cls := 12, ident := 0x80000000 + 0x18EF0000 + source * 256 + d.net.isoAddr.getD 254
              data := leBytes 1 opcode ++ leBytes 1 item ++ leBytes 1 seq ++ leBytes 1 status ++ leBytes 4 v } d

def isoError (item seq status source : Nat) (d : Device) : Device :=
  isoAnswer 0xFF item seq status source (Config.freeNat d.fresh) d.draw

/-- STATUS of an abort code: 3 range, 4 busy, 5 state. -/
def isoStatus (c : W32) : Nat := if c = Abort.ok then 0 else if c = Abort.range then 3 else if c = Abort.busy then 4 else 5

/-- CANC carries the message: the port works and an address is claimed. -/
def Device.isoReady (d : Device) : Bool :=
  d.canSend 2 && (match d.net.isoAddr with
    | some a => a != 254
    | none => false)

/-- ISO_PROP_READ (R346, Table 14.2). -/
def isoRead (item seq source : Nat) (s : State) : State :=
  if s.dev.busyOn .canc then s.onDev (isoError item seq 4 source)
  else match isoItem s item with
    | none => s.onDev (isoError item seq 1 source)
    | some (_, v) => s.onDev (isoAnswer 0x81 item seq 0 source v)

def execIsoPropRead (item seq source : BitVec 8) (s : State) : Host.Outcome State Fault Refusal :=
  .next (if s.dev.isoReady then isoRead item.toNat seq.toNat source.toNat s else s)

/-- The write of a writable item. -/
def isoWriteItem (item v : Nat) (d : Device) : W32 × Device :=
  match item with
  | 9 => cmdSpeedInput .a v d
  | 10 => cmdSpeedInput .b v d
  | 11 => cmdDriveRequest .a v d
  | _ => cmdDriveRequest .b v d

/-- ISO_PROP_WRITE (R346): refused items leave everything as it is. -/
def isoWrite (item seq source v : Nat) (s : State) : State :=
  if s.dev.busyOn .canc then s.onDev (isoError item seq 4 source)
  else match isoItem s item with
    | none => s.onDev (isoError item seq 1 source)
    | some (false, _) => s.onDev (isoError item seq 2 source)
    | some (true, _) =>
      if s.dev.ctl.state = .fault then s.onDev (isoError item seq 5 source)
      else
        let r := isoWriteItem item v s.dev
        if r.1 = Abort.ok then { s with dev := isoAnswer 0x82 item seq 0 source v r.2 }
        else { s with dev := isoError item seq (isoStatus r.1) source r.2 }

def execIsoPropWrite (item seq source : BitVec 8) (v : W32) (s : State) : Host.Outcome State Fault Refusal :=
  .next (if s.dev.isoReady then isoWrite item.toNat seq.toNat source.toNat v.toNat s else s)

/-! ## CANopen FD network management (R345) -/

/-- The heartbeat message, or the boot-up message with state 0. -/
def sendHeartbeat (onB : Bool) (st : Nat) (d : Device) : Device :=
  let i := if onB then 1 else 0
  if (d.canPort (canOf onB)).conf = 3 then d
  else txEnqueue { cls := 6 + i, ident := 0x700 + Cfg.canopenId d.cfg i, data := [BitVec.ofNat 8 st] } d

/-- NMT_COMMAND (R345; the commands of CiA 301): start, stop, pre-operational, reset node and reset communication. -/
def nmtCommand (onB : Bool) (cmd : Nat) (d : Device) : Device :=
  let go := fun st d => Device.onCan (canOf onB) (fun x => { x with nmt := st }) d
  match cmd with
  | 1 => go 5 d
  | 2 => go 4 d
  | 128 => go 127 d
  | 129 | 130 => sendHeartbeat onB 0 (go 127 d)
  | _ => d

def execNmtCommand (onB : Bool) (cmd node : BitVec 8) (s : State) : Host.Outcome State Fault Refusal :=
  let own := Cfg.canopenId s.dev.cfg (if onB then 1 else 0)
  .next (if s.dev.canSend (canOf onB).num ∧ (node = 0 ∨ node.toNat = own) then s.onDev (nmtCommand onB cmd.toNat) else s)

/-- HEARTBEAT_TX (R345, HB_PRODUCER). -/
def execHeartbeatTx (onB : Bool) (s : State) : Host.Outcome State Fault Refusal :=
  let t := Cfg.hbProducer s.dev.cfg (if onB then 1 else 0)
  let x := s.dev.canPort (canOf onB)
  .next (if t ≠ 0 ∧ due s.dev.now x.hbAt (ms t) then
    s.onDev fun d => sendHeartbeat onB x.nmt (d.onCan (canOf onB) fun x => { x with hbAt := some d.now }) else s)

/-- HEARTBEAT_LOST (R345): consumer entry k has missed its heartbeat for three periods. -/
def heartbeatLost (k : Nat) (d : Device) : Device :=
  let h := Cfg.hbConsumer d.cfg k
  let e : Bool × Nat := (h.testBit 31, h / 65536 % 256)
  if h % 65536 = 0 ∨ d.net.hbLost.contains e then d else { d with net := { d.net with hbLost := d.net.hbLost ++ [e] } }

/-- Three periods have passed since the last heartbeat of a consumer entry. -/
def Device.heartbeatOver (d : Device) (k : Nat) : Bool :=
  let h := Cfg.hbConsumer d.cfg k
  decide ((d.net.hbSeen.lookup (h.testBit 31, h / 65536 % 256)).getD 0 + 3 * ms (h % 65536) ≤ d.now)

def execHeartbeatLost (k : Fin 16) (late : Bool) (s : State) : Host.Outcome State Fault Refusal :=
  .next (if s.dev.ctl.state ≠ .off ∧ s.dev.heartbeatOver k then s.onDev fun d => lateMisc late (heartbeatLost k d) else s)

/-! ## ETH1 (R348, R379) -/

/-- A frame ETH1 answers with at once. -/
def ethReply (ip : BitVec 32) (data : List Byte) (d : Device) : Device :=
  { d with net := { d.net with
    lastSent := some { port := 3, frame := { cls := 14, destIp := ip, data, time := d.now }, vid := Cfg.eth1Vlan d.cfg } } }

/-- ETH1 takes frames with this VID: its link is up, and the tag is that of ETH1_VLAN, none with ETH1_VLAN 0 (R348). -/
def Device.eth1Hears (d : Device) (vid : BitVec 12) : Bool :=
  d.ctl.state != .off && d.net.eth1Up && vid.toNat == Cfg.eth1Vlan d.cfg

/-- The address is a multicast group of ETH1_MCAST. -/
def Device.eth1Group (d : Device) (ip : BitVec 32) : Bool :=
  ip != 0 && [0, 1, 2, 3, 4, 5, 6, 7].any fun i => Cfg.eth1Mcast d.cfg i == ip.toNat

/-- The address is that of all nodes, or of all nodes of the module's net. -/
def Device.eth1Broadcast (d : Device) (ip : BitVec 32) : Bool :=
  ip == BitVec.allOnes 32 || ip == (BitVec.ofNat 32 (Cfg.eth1Ip d.cfg) ||| ~~~BitVec.ofNat 32 (Cfg.eth1Mask d.cfg))

/-- ETH1 takes a datagram (R348): no fragment, none to another unicast address or to a group not listed. -/
def Device.ethTakes (d : Device) (h : UdpHead) : Bool :=
  d.eth1Hears h.vid && !h.fragment &&
    (h.dest.toNat == Cfg.eth1Ip d.cfg || d.eth1Group h.dest || d.eth1Broadcast h.dest)

/-- A datagram for a UDP port that serves no requests: one to a port the module does not use is counted (R348). -/
def ethOther (port : BitVec 16) (d : Device) : Device :=
  if port = 4981 ∨ port = 4982 then d else { d with net := { d.net with ethDiscard := addWrap 32 d.net.ethDiscard 1 } }

/-- ETH1_ARP_REQUEST (R348): answered for ETH1_IP alone. -/
def execEth1ArpRequest (vid : BitVec 12) (ip : BitVec 32) (s : State) : Host.Outcome State Fault Refusal :=
  .next (if s.dev.eth1Hears vid ∧ ip.toNat = Cfg.eth1Ip s.dev.cfg then s.onDev (ethReply ip []) else s)

/-- ETH1_ICMP_ECHO (R348): for ETH1_IP the data come back to the source. -/
def execEth1IcmpEcho (h : UdpHead) (ip : BitVec 32) (data : List Byte) (s : State) : Host.Outcome State Fault Refusal :=
  .next (if s.dev.ethTakes h ∧ h.dest.toNat = Cfg.eth1Ip s.dev.cfg then s.onDev (ethReply ip data) else s)

def isHokuith : Path → Bool
  | .hk _ _ => true
  | _ => false

/-- ETH1_LINK (R379, R392): the link has been down for 100 ms. -/
def eth1Link (d : Device) : Device :=
  raise .eth1Link (.net .eth1) 0 (closeSessions isHokuith { d with net := { d.net with eth1Up := false } })

def execEth1Link (s : State) : Host.Outcome State Fault Refusal :=
  .next (if s.dev.ctl.state = .off then s else s.onDev eth1Link)

/-- ETH1_LINK_UP (R379, R435): the fault clears and the Dorid producers of the port restart; the port has started with the firmware. -/
def eth1LinkUp (d : Device) : Device :=
  doridPortRestart 3 (clearFault .eth1Link (.net .eth1) { d with net := { d.net with eth1Up := true } })

def execEth1LinkUp (s : State) : Host.Outcome State Fault Refusal :=
  .next (if s.dev.ctl.state ≠ .off ∧ s.dev.boot.fwStarted then s.onDev eth1LinkUp else s)

end Sys2Proof.Machine
end

