-- ==== Sys2Proof/Machine/Capture.lean ====
section
/-!
DEFINITION. Capture rings (chapter 14): items, gap markers, packets, release and streaming.
-/

namespace Sys2Proof.Machine

def Device.ring (d : Device) (n : Nat) : CapRing := d.net.rings.getD n {}

def Device.onRing (n : Nat) (f : CapRing → CapRing) (d : Device) : Device :=
  { d with net := { d.net with rings := d.net.rings.modify n f } }

/-- Words a ring holds, closed packets and the open one. -/
def CapRing.used (x : CapRing) : Nat := x.packets.foldl (fun n p => n + p.length) 0

/-- The open packet. -/
def CapRing.opened (x : CapRing) : Option CapPacket := x.packets.getLast?.filter fun p => !p.closed

/-- The open packet closes (R371). -/
def CapRing.close (x : CapRing) : CapRing :=
  { x with packets := x.packets.dropLast ++ (x.packets.getLast?.map fun p => { p with closed := true }).toList }

/-- A packet opens at a module time. -/
def CapRing.openAt (now : Nanos) (x : CapRing) : CapRing :=
  { x with packets := x.packets ++ [{ pseq := x.pseq, base := now, items := [], closed := false }], pseq := addWrap 16 x.pseq 1 }

/-- Room for an item of some words: where it would take the open packet above CAP_PKT_WORDS that packet closes and a new
one opens (R371). -/
def CapRing.ready (top len : Nat) (now : Nanos) (x : CapRing) : CapRing :=
  match x.opened with
  | none => x.openAt now
  | some p => if p.length + len ≤ top then x else x.close.openAt now

/-- An item goes into the open packet. -/
def CapRing.put (i : CapItem) (x : CapRing) : CapRing :=
  { x with packets := x.packets.dropLast ++ (x.packets.getLast?.map fun p => { p with items := p.items ++ [i] }).toList }

/-- OFFSET of a module time in a packet (R372): units of 5 ns from BASE_TIME, 32 bits. -/
def offsetOf (base t : Nanos) : Nat := (((t : Int) - (base : Int)) / 5 % 4294967296).toNat

/-- The gap marker of a ring (Table 14.9): it names the first dropped item, OFFSET_LAST and COUNT. -/
def CapRing.marker (n : Nat) (x : CapRing) : Option CapItem :=
  match x.gap, x.opened with
  | some (first, last, count), some p =>
    some { typ := 0, source := n, time := first, words := [BitVec.ofNat 32 (offsetOf p.base last), BitVec.ofNat 32 count] }
  | _, _ => none

/-- An item with the gap marker that precedes it goes in. -/
def CapRing.append (n top : Nat) (now : Nanos) (i : CapItem) (x : CapRing) : CapRing :=
  match x.gap with
  | none => (x.ready top i.length now).put i
  | some _ =>
    let x := x.ready top 4 now
    let x := match x.marker n with
      | some m => { x.put m with gap := none }
      | none => x
    (x.ready top i.length now).put i

/-- An item is dropped (R373): a packet has opened for it where its header fits. -/
def CapRing.drop (cap top : Nat) (now : Nanos) (i : CapItem) (x : CapRing) : CapRing :=
  let y := x.ready top i.length now
  let x := if y.used ≤ cap then y else x
  { x with
    dropped := addWrap 32 x.dropped 1
    gap := match x.gap with
      | none => some (now, now, 1)
      | some (a, _, c) => some (a, now, c + 1) }

/-- A ring takes an item (R373): it is stored where it fits, while room for one gap marker and one packet header stays. -/
def CapRing.take (n cap top : Nat) (now : Nanos) (i : CapItem) (x : CapRing) : CapRing :=
  let y := x.append n top now i
  if y.used + 8 ≤ cap then y else x.drop cap top now i

/-- The source of a ring an item belongs to, with its decimation (R370). -/
def ringSource (S : Settings) (n typ source : Nat) : Option (Nat × Nat) :=
  ((List.range 16).find? fun k =>
    let v := Cfg.capSrc S n k
    typ ≠ 0 && v / 268435456 == typ && v / 262144 % 1024 == source).map fun k => (k, Cfg.capSrc S n k % 262144)

/-- A ring sees an item of a tap: every (DECIM + 1)th is taken; one the data plane did not take from its tap in time is dropped
(R12, R373). -/
def ringSees (taken : Bool) (typ source : Nat) (words : List W32) (n : Nat) (d : Device) : Device :=
  if !(d.ring n).running then d
  else match ringSource d.cfg n typ source with
    | none => d
    | some (k, decim) =>
      if (d.ring n).decim.getD k 0 < decim then d.onRing n fun x => { x with decim := x.decim.modify k (· + 1) }
      else
        let i : CapItem := { typ, source, time := d.now, words }
        let cap := Cfg.capSize d.cfg n * 256
        let top := Cfg.capPktWords d.cfg n
        d.onRing n fun x =>
          let x := { x with decim := x.decim.set k 0 }
          if taken then x.take n cap top d.now i else x.drop cap top d.now i

/-- Bytes as words, the last one padded (Table 14.9). -/
def packWords : List Byte → List W32
  | [] => []
  | [a] => [BitVec.ofNat 32 a.toNat]
  | [a, b] => [BitVec.ofNat 32 (a.toNat + b.toNat * 256)]
  | [a, b, c] => [BitVec.ofNat 32 (a.toNat + b.toNat * 256 + c.toNat * 65536)]
  | a :: b :: c :: e :: rest =>
    BitVec.ofNat 32 (a.toNat + b.toNat * 256 + c.toNat * 65536 + e.toNat * 16777216) :: packWords rest

/-- What a tap offers (Table 14.9): the words after the header and OFFSET, as the block holds them; none for a type or a source
that does not exist. -/
def State.tapWords (s : State) (typ source : Nat) : Option (List W32) :=
  let d := s.dev
  let w := fun (n : Nat) => BitVec.ofNat 32 n
  let obj := fun (ix sub : Nat) => w (s.roValue .canc ix sub)
  match typ with
  | 1 => if source < 48 then some [w (d.mchan source).fastWord] else none
  | 2 => if source < 48 then some [w (d.mchan source).fineWord] else none
  | 3 => if source < 32 then some [w (ofSigned 32 (d.slot source).output), w (d.slotStatus source)] else none
  | 4 => if source < 2 then
      let ix := 0x6140 + 0x800 * source
      some [obj ix 1, obj ix 2, obj ix 3, obj (0x6040 + 0x800 * source) 3, obj ix 4, obj ix 6]
    else none
  | 5 => if source < 512 then some [w (tempCode (d.chan source).temp)] else none
  | 6 =>
    let p : CanPort := if source = 0 then .canA else if source = 1 then .canB else .canC
    if source < 3 then
      (d.canPort p).lastRx.map fun f =>
        [w (fields [(30, source), flag 29 f.ext, (0, f.ident % 536870912)]), w (f.data.length % 256)] ++ packWords f.data
    else none
  | 7 => if source = 0 then some [w (fields [(16, d.faults.lastReport.1.toNat), (13, d.faults.lastReport.2)])] else none
  | _ => none

/-- CAPTURE_ITEM (R370-R373): a tap offers its item to every ring. -/
def execCaptureItem (typ : Fin 16) (source : Fin 1024) (taken : Bool) (s : State) : Host.Outcome State Fault Refusal :=
  .next (match s.tapWords typ.val source.val with
    | some words => s.onDev fun d => d.each (List.range 16) (ringSees taken typ.val source.val words)
    | none => s)

/-- CAP_PKT_TIME has passed since the open packet of a ring opened (R371). -/
def Device.packetOver (d : Device) (n : Nat) : Bool :=
  lasted d.now ((d.ring n).opened.map CapPacket.base) (Cfg.capPktTime d.cfg n * 1000)

/-- CAP_PACKET_TIMEOUT (R371). -/
def execCapPacketTimeout (n : Fin 16) (s : State) : Host.Outcome State Fault Refusal :=
  .next (if s.dev.packetOver n then s.onDev (Device.onRing n CapRing.close) else s)

/-! ## Reading and release (R372, R374) -/

/-- Words of an item and of a packet (Tables 14.8 and 14.9). -/
def CapItem.bytes (base : Nanos) (x : CapItem) : List Byte :=
  leBytes 4 (fields [(28, x.typ), (18, x.source), (12, x.length)]) ++ leBytes 4 (offsetOf base x.time)
    ++ x.words.flatMap fun w => leBytes 4 w.toNat

def CapPacket.bytes (n : Nat) (x : CapPacket) : List Byte :=
  leBytes 4 (if x.closed then fields [(31, 1), (0, x.length)] else 0) ++ leBytes 4 (fields [(16, x.pseq), (8, n)])
    ++ leBytes 8 x.base ++ x.items.flatMap fun i => i.bytes x.base

/-- The closed packets of a ring that have not been released: what CAP_DATA reads. -/
def Device.capData (d : Device) (n : Nat) : List Byte := ((d.ring n).packets.filter (·.closed)).flatMap fun p => p.bytes n

/-- Packets left once some bytes have been used; none where the bytes end inside a packet or beyond the closed ones. -/
def releasePackets : Nat → List CapPacket → Option (List CapPacket)
  | 0, ps => some ps
  | _, [] => none
  | b, p :: ps => if p.closed && decide (p.length * 4 ≤ b) then releasePackets (b - p.length * 4) ps else none

/-- CAP_RELEASE (R374). -/
def cmdCapRelease (n bytes : Nat) (d : Device) : W32 × Device :=
  if Cfg.capMode d.cfg n ≠ 1 then (Abort.state, d)
  else match releasePackets bytes (d.ring n).packets with
    | none => (Abort.range, d)
    | some ps => (Abort.ok, d.onRing n fun x => { x with packets := ps })

def execCapRelease (path : Path) (n : Fin 16) (bytes : W32) (s : State) : Host.Outcome State Fault Refusal :=
  .next (hostWrite path .e false (devCmd (cmdCapRelease n bytes.toNat)) s)

/-- CAP_STREAM_SEND (R374): the oldest closed packet goes out as one UDP datagram and is released. -/
def capStreamSend (n : Nat) (d : Device) : Device :=
  match (d.ring n).packets with
  | [] => d
  | p :: rest =>
    if !p.closed then d
    else
      let f : TxFrame := { cls := 16, destIp := BitVec.ofNat 32 (Cfg.capDestIp d.cfg n)
                           destPort := BitVec.ofNat 16 (Cfg.capDestPort d.cfg n), srcPort := 4982, data := p.bytes n
                           time := d.now }
      { (d.onRing n fun x => { x with packets := rest }) with
        net := { (d.onRing n fun x => { x with packets := rest }).net with
          lastSent := some { port := 3, frame := f, vid := Cfg.eth1Vlan d.cfg } } }

/-- No queue of ETH1 has a head frame: capture stream packets follow after all of them (R349). -/
def Device.eth1Idle (d : Device) : Bool :=
  (List.range 16).all fun q => Cfg.txqPort d.cfg q != 3 || (d.net.txq.getD q {}).frames.isEmpty

def execCapStreamSend (n : Fin 16) (s : State) : Host.Outcome State Fault Refusal :=
  .next (if s.dev.net.eth1Up ∧ Cfg.capMode s.dev.cfg n = 2 ∧ s.dev.eth1Idle then s.onDev (capStreamSend n) else s)

end Sys2Proof.Machine
end

