-- ==== Sys2Proof/Machine/Timing.lean ====
section
/-!
DEFINITION. Module time distribution (chapter 14): time references on CANA, failover, offsets, steps and trims.
-/

namespace Sys2Proof.Machine

/-- The module takes its time from its partner (R367): follower of a present partner. -/
def Device.timeFromPartner (d : Device) : Bool := d.paired && d.ctl.partnerPresent && !d.ctl.lead

/-- The module sends time references now: it is master, or about to be (R362). -/
def Device.candidate (d : Device) : Bool := decide (Cfg.timeRank d.cfg ≤ 7)

/-! ## Sending (R361) -/

/-- The data field of a time reference (Table 14.5). -/
def timeRefBytes (rank : Nat) (first trimmed : Bool) (seq node tPrev : Nat) : List Byte :=
  leBytes 1 (fields [(0, rank), flag 3 first, flag 4 trimmed]) ++ leBytes 1 seq ++ leBytes 2 node ++ leBytes 8 tPrev
    ++ leBytes 4 0

/-- TIME_REF_TX (R361): the reference goes into TXQ0, which holds it alone; its start of frame is the 1 ms boundary. -/
def timeRefTx (d : Device) : Device :=
  let t := d.net.time
  let rank := Cfg.timeRank d.cfg
  let data := timeRefBytes rank t.first d.timeFromPartner t.seq (Cfg.nodeNumber d.cfg) (if t.first then 0 else t.sofSent)
  let d := { d with net := { d.net with txq := d.net.txq.modify 0 fun x => { x with frames := [] } } }
  let d := txEnqueue { cls := 0, ident := 0x80000000 + Cfg.timeRefBase d.cfg + rank, data } d
  d.onTime fun t => { t with
    seq := addWrap 8 t.seq 1, sofSent := d.now, first := false
    role := if d.timeFromPartner then 4 else 2
    masterRank := rank, master := Cfg.nodeNumber d.cfg, holdover := none, refAt := d.now }

def execTimeRefTx (s : State) : Host.Outcome State Fault Refusal :=
  .next (if s.dev.net.canA.conf ≠ 3 ∧ s.dev.candidate ∧ s.dev.net.time.refPending ∧ s.dev.now % 1000000 = 0
      ∧ (s.dev.net.time.first ∨ s.dev.net.time.sofSent < s.dev.now) then s.onDev timeRefTx else s)

/-! ## Offset, step and trim (R363) -/

/-- Module time may step: in BOOT, in CALIBRATING, or in STANDBY with the supply chain stopped (R363). -/
def Device.mayStep (d : Device) : Bool :=
  match d.ctl.state with
  | .boot | .calibrating => true
  | .standby => d.supply.chain == 0
  | _ => false

/-- The limit of a trim in 0.1 ppb. -/
def slewLimit (S : Settings) : Int := Cfg.timeSlewMax S * 10000

/-- The tick rate is trimmed: how the offset and the integrator make the trim is left to the firmware, within the limit. -/
def timeSlew (d : Device) : Device :=
  let lim := slewLimit d.cfg
  let t := roundCode (Config.freeRat d.fresh)
  let i := roundCode (Config.freeRat (d.fresh + 1))
  (d.draw.draw).onTime fun x => { x with trim := clampInt (-lim) lim t, integrator := clampInt (-lim) lim i }

/-- The whole microseconds a step takes from module time, in ns. -/
def stepOf (offset : Int) : Int := roundCode ((offset : Rat) / 1000) * 1000

/-- Module time steps by whole microseconds (R360, R363). -/
def timeStep (offset : Int) (d : Device) : Device :=
  let move := fun (t : Nat) => ((t : Int) - stepOf offset).toNat
  let d := { d with ctl := { d.ctl with now := move d.ctl.now } }
  d.onTime fun t => { t with stepped := true, sofSeen := t.sofSeen.map move, lastRef := t.lastRef.map move, sofSent := move t.sofSent }

/-- An offset (own time less the reference) is taken up; TIME_OFFSET clears once it is below 1 ms. -/
def timeCorrect (offset : Int) (d : Device) : Device :=
  let d := d.onTime fun t => { t with offset, offSince := since d.now (decide (1000000 < offset.natAbs)) t.offSince }
  let d := if 10000 < offset.natAbs ∧ d.mayStep then timeStep offset d else timeSlew d
  let d := timeTrimmed d
  if offset.natAbs < 1000000 then clearFault .timeOffset .module d else d

/-! ## Receiving (R361-R363) -/

/-- A time reference as received. -/
structure TimeRef where
  rank   : Nat
  first  : Bool
  node   : Nat
  tPrev  : Nat
  deriving DecidableEq, Repr

/-- The reference a frame carries: sixteen bytes under the identifier of its rank. -/
def timeRefOf (S : Settings) (bytes : List Byte) (ident : Nat) : Option TimeRef :=
  let flags := leNat (bytes.take 1)
  if bytes.length = 16 ∧ ident = Cfg.timeRefBase S + flags % 8 then
    some { rank := flags % 8, first := flags.testBit 3, node := leNat ((bytes.drop 2).take 2) % 512
           tPrev := leNat ((bytes.drop 4).take 8) }
  else none

/-- The reference of a master is followed: it ends a run of misses and a holdover, and its T_PREV is compared with the
start of frame captured for the reference before it. -/
def followRef (r : TimeRef) (sof : Nat) (d : Device) : Device :=
  let t := d.net.time
  let prev := if t.master = r.node ∧ t.masterRank = r.rank ∧ !r.first then t.sofSeen else none
  let d := clearFault .timeLost .module (d.onTime fun t => { t with
    refPending := false, first := true, missed := 0, lastRef := some sof, sofSeen := some sof, holdover := none
    refAt := if d.forcedAt 0x0D02 then t.refAt else d.now
    firstPending := r.first, masterRank := r.rank, master := r.node, role := if d.timeFromPartner then 4 else 1 })
  match prev with
  | some s => if d.timeFromPartner then d else timeCorrect ((s : Int) - (r.tPrev + Cfg.timePropComp d.cfg : Nat)) d
  | none => d

/-- TIME_REF_RX (R362, R363). -/
def timeRefRx (r : TimeRef) (sof : Nat) (d : Device) : Device :=
  let own := Cfg.timeRank d.cfg
  let node := Cfg.nodeNumber d.cfg
  if r.rank = own ∧ r.node ≠ node then
    let d := raise .timeRankDup .module 0 (d.onTime fun t => { t with dupSeen := some d.now })
    if d.net.time.refPending ∧ node < r.node then d else followRef r sof d
  else if d.net.time.refPending ∧ own < r.rank then d
  else followRef r sof d

def execTimeRefRx (bytes : List Byte) (ident sof : Nat) (s : State) : Host.Outcome State Fault Refusal :=
  .next (if !s.dev.canSend 0 ∨ s.dev.forcedAt 0x0E03 then s
    else match timeRefOf s.dev.cfg bytes ident with
      | none => s
      | some r => s.onDev (timeRefRx r sof))

/-! ## Missing references (R362, R364) -/

/-- TIME_REF_MISSED: the third miss in a row starts the holdover and lets every candidate queue its own reference; a
reference that arrived at the same instant and lost counts in TIME_LATE. -/
def timeRefMissed (arrival : Bool) (d : Device) : Device :=
  let d := d.onTime fun t => { t with missed := addSat 255 t.missed 1, sofSeen := none }
  if d.net.time.missed < 3 then d
  else
    let third := d.net.time.missed == 3
    d.onTime fun t => { t with
      late := if third && arrival then addWrap 16 t.late 1 else t.late
      role := if d.timeFromPartner then 4 else 3
      holdover := some (t.holdover.getD d.now)
      refPending := t.refPending || d.candidate, first := true }

/-- No reference within 100 us after the time the next one was expected: 1 ms after the one before, the first after a start at
1 ms (R362). -/
def Device.refOverdue (d : Device) : Bool :=
  let t := d.net.time
  decide (t.lastRef.getD 0 + (t.missed + 1) * 1000000 + 100000 ≤ d.now)

def execTimeRefMissed (arrival : Bool) (s : State) : Host.Outcome State Fault Refusal :=
  .next (if s.dev.net.canA.conf ≠ 3 ∧ !s.dev.net.time.refPending ∧ s.dev.refOverdue then s.onDev (timeRefMissed arrival) else s)

/-- TIME_OFFSET (R363): an offset above 1 ms for 1 s. -/
def execTimeOffset (s : State) : Host.Outcome State Fault Refusal :=
  .next (if s.dev.ctl.state ≠ .off ∧ (lasted s.dev.now s.dev.net.time.offSince (sec 1) ∨ s.dev.forcedAt 0x0E03) then
    s.onDev (raise .timeOffset .module 0) else s)

/-- TIME_LOST (R364): 100 ms in holdover. -/
def execTimeLost (late : Bool) (s : State) : Host.Outcome State Fault Refusal :=
  .next (if s.dev.net.time.role = 3 ∧ lasted s.dev.now s.dev.net.time.holdover (ms 100) then
    s.onDev fun d => lateMisc late (raise .timeLost .module 0 d) else s)

/-- GL_TIME_ERR (R367): the module times of the pair have differed by more than 100 ns for 10 ms. -/
def execGlTimeErr (s : State) : Host.Outcome State Fault Refusal :=
  .next (if s.dev.paired ∧ s.dev.ctl.partnerPresent ∧ (lasted s.dev.now s.dev.net.time.glSince (ms 10) ∨ s.dev.forcedAt 0x0E03) then
    s.onDev (raise .glTimeErr .module 0) else s)

end Sys2Proof.Machine
end

