-- ==== Sys2Proof/Machine/GuyLine.lean ====
section
/-!
DEFINITION. The guy line (chapters 1 and 14): guy frames in both directions, roles and requests they carry, the message
channel and the link.
-/

namespace Sys2Proof.Machine

/-! ## The message channel (R368) -/

/-- A management message is queued for the partner. -/
def guyPost (m : GuyMsg) (d : Device) : Device :=
  d.onGuy fun g => { g with out := g.out ++ [{ number := addWrap 16 g.nextMsg 1, msg := m }], nextMsg := addWrap 16 g.nextMsg 1 }

/-- The message whose segment goes into the next frame: the oldest not sent, where it holds its credit or can take one. -/
def GuyState.due (g : GuyState) : Option OutMsg :=
  (g.out.find? fun m => !m.sent).filter fun m => m.started || decide (0 < g.credits)

def guyBytes : GuyMsg → List Byte
  | .announce t id => (Config.guyMessage 0 t id.toNat).take 255
  | .withdraw t => (Config.guyMessage 1 t 0).take 255

/-- The queue once a frame has gone: the due message is sent and holds a credit, every message sent before has waited one
frame more. -/
def GuyState.afterSend (g : GuyState) : GuyState :=
  match g.due with
  | none => { g with out := g.out.map fun m => if m.sent then { m with frames := m.frames + 1 } else m }
  | some x => { g with
      credits := if x.started then g.credits else g.credits - 1
      out := g.out.map fun m =>
        if m.number = x.number then { m with started := true, sent := true, frames := 0 }
        else if m.sent then { m with frames := m.frames + 1 } else m }

/-- MSG_ACK acknowledges a segment: the message with that number, and those before it, have arrived. -/
def GuyState.acknowledge (ack : Nat) (g : GuyState) : GuyState :=
  match g.out.findIdx? fun m => m.sent && m.number % 256 == ack with
  | some k => { g with out := g.out.drop (k + 1) }
  | none => g

/-- GL_MSG_RETRANSMIT (R368): a segment not acknowledged within three frames is sent again. -/
def execGlMsgRetransmit (s : State) : Host.Outcome State Fault Refusal :=
  .next (s.onDev fun d => d.onGuy fun g => { g with
    out := g.out.map fun m => if m.sent ∧ 3 ≤ m.frames then { m with sent := false, frames := 0 } else m })

/-! ## Sending (R365, R366) -/

/-- The module that runs alone may call a partner in READY to join (R38, steps 1 and 2): the configuration identities match
and the module times agree within 100 ns. -/
def Device.mayJoin (d : Device) : Bool :=
  d.paired && d.ctl.state == .run && d.ctl.partnerAbsent && d.ctl.partnerPresent && d.sameIdentity
    && d.ctl.partner.state == ModState.ready.code && d.ctl.joinT.isNone
    && (match d.ctl.guyOffset with
      | some o => decide (o.natAbs ≤ 100)
      | none => false)

/-- The join time is named: at least 1 ms ahead, on a frame boundary. -/
def callJoin (d : Device) : Device :=
  let t := frameBoundary (d.now + 1000000)
  { d with ctl := { d.ctl with joinT := some t }, net := { d.net with guy := { d.net.guy with join := true, eventT := t } } }

/-- The fields of one motor. -/
def Device.guyMotor (d : Device) (p : PortId) : List Byte :=
  let x := d.port p
  let real := fun (v : Rat) => leBytes 4 (realVal v)
  real x.eng.psi.1 ++ real x.eng.psi.2 ++ real (if d.ctl.lead then x.shareOut else x.torqueCmd)
    ++ (if d.ctl.lead then real x.machine else leBytes 4 0) ++ real x.ceiling ++ real x.speedRef
    ++ leBytes 1 (fields [(0, x.state.code), flag 3 x.engaged]) ++ leBytes 3 0

/-- A field padded with zeros to its length. -/
def padTo (n : Nat) (l : List Byte) : List Byte := l.take n ++ List.replicate (n - l.length) 0

/-- TX_TIME: a guy frame starts at tick 100 of its beat (R365; log entry 84). -/
def Device.txTime (d : Device) : Nanos := d.now + 500

/-- The guy frame payload (Table 14.7). -/
def Device.guyFrame (d : Device) : List Byte :=
  let g := d.net.guy
  let msg := g.due
  let body := ((msg.map fun m => guyBytes m.msg).getD [])
  leBytes 1 1 ++ leBytes 1 g.epoch ++ leBytes 2 g.fseq ++ leBytes 8 d.txTime ++ leBytes 8 g.rxTime ++ leBytes 2 g.rxFseq
    ++ leBytes 1 d.ctl.state.code
    ++ leBytes 1 (fields [flag 0 (d.ctl.lead || d.forcedAt 0x0104), (1, Cfg.pairPosition d.cfg), flag 3 g.hoReq,
        flag 4 (g.hoAck && !d.forcedAt 0x0104), flag 5 g.join,
        flag 6 (d.net.time.role == 1)])
    ++ leBytes 4 d.comm.check.toNat ++ leBytes 4 d.settingsId.toNat
    ++ leBytes 8 (if g.hoReq || g.hoAck || g.join then g.eventT else 0)
    ++ d.guyMotor .a ++ d.guyMotor .b
    ++ leBytes 1 ((g.dorid.map List.length).getD 0) ++ leBytes 1 g.owed ++ leBytes 1 g.msgAck ++ leBytes 1 body.length
    ++ padTo 44 (g.dorid.getD [])
    ++ leBytes 4 ((msg.map fun m => fields [(24, m.number % 256), (23, 1), (0, m.number)]).getD 0)
    ++ padTo 255 body ++ leBytes 1 0

/-- GUY_FRAME_TX (R365). -/
def guyFrameTx (d : Device) : Device :=
  let d := if d.mayJoin then callJoin d else d
  let sent : Sent := { port := 4, frame := { cls := 15, data := d.guyFrame, time := d.now } }
  { d with net := { d.net with
    lastSent := some sent
    guy := { d.net.guy.afterSend with
      fseq := addWrap 16 d.net.guy.fseq 1, owed := 0, dorid := none
      sentTimes := ((d.net.guy.fseq, d.txTime) :: d.net.guy.sentTimes).take 4 } } }

/-- A frame goes out in this beat: every 10 us, once (R365). -/
def Device.guyDue (d : Device) : Bool :=
  d.now % 10000 == 0 && (match d.net.guy.sentTimes.head? with
    | some e => e.2 != d.txTime
    | none => true)

def execGuyFrameTx (s : State) : Host.Outcome State Fault Refusal :=
  .next (if s.dev.paired ∧ s.dev.net.guy.up ∧ s.dev.ctl.state ≠ .boot ∧ s.dev.guyDue then s.onDev guyFrameTx else s)

/-! ## Receiving -/

/-- The little-endian field of a frame. -/
def field (bytes : List Byte) (at_ len : Nat) : Nat := leNat ((bytes.drop at_).take len)

def realField (bytes : List Byte) (at_ : Nat) : Rat := realOfBits (field bytes at_ 4)

/-- The partner's data of a frame (Table 14.7). -/
def partnerOf (b : List Byte) : PartnerData :=
  { txTime := field b 4 8, state := field b 22 1, lead := (field b 23 1).testBit 0, pairPos := field b 23 1 / 2 % 4
    checkId := BitVec.ofNat 32 (field b 24 4), settingsId := BitVec.ofNat 32 (field b 28 4)
    psi0 := (realField b 40, realField b 44), psi1 := (realField b 68, realField b 72)
    share0 := realField b 48, share1 := realField b 76, machine0 := realField b 52, machine1 := realField b 80
    ceiling0 := realField b 56, ceiling1 := realField b 84, speedRef0 := realField b 60, speedRef1 := realField b 88
    portState0 := field b 64 1 % 8, portState1 := field b 92 1 % 8
    engaged0 := (field b 64 1).testBit 3, engaged1 := (field b 92 1).testBit 3 }

/-- A frame's EPOCH is earlier than the link's. -/
def earlierEpoch (own f : Nat) : Bool :=
  let back := (own + 256 - f % 256) % 256
  decide (1 ≤ back) && decide (back ≤ 127)

/-- The frame is a valid guy frame (R32, R365). -/
def Device.guyValid (d : Device) (b : List Byte) (fcsOk : Bool) : Bool :=
  fcsOk && b.length == 404 && field b 0 1 == 1 && !earlierEpoch d.net.guy.epoch (field b 1 1)


/-- Roles (R34): where both claim lead in a frame both set ROLE_CONFLICT, and it clears with a frame in which only one does
(Table 1.11); the role itself changes at the next tick 0 (R11). -/
def guyRoles (x : PartnerData) (d : Device) : Device :=
  if d.ctl.lead && x.lead then raise .roleConflict .module 0 d
  else if d.ctl.lead || x.lead then clearFault .roleConflict .module d
  else d

/-- The follower can acknowledge a hand-over (R35, R131). -/
def Device.mayAck (d : Device) : Bool :=
  (d.ctl.state == .run || d.ctl.state == .ready) && d.ctl.partnerPresent && d.sameIdentity
    && ports.all fun p => (d.port p).state != .catching && (d.port p).state != .stopping

/-- Hand-over bits of a frame (R35). -/
def guyHandover (req ack : Bool) (t : Nanos) (d : Device) : Device :=
  if d.ctl.lead then
    if ack && d.ctl.handoverT.isSome then
      { d with ctl := { d.ctl with handoverAcked := true, handoverPending := true } } else d
  else if req then
    if d.ctl.handoverGiven.isNone && d.mayAck then
      { d with ctl := { d.ctl with handoverGiven := some t, handoverPending := true }
               net := { d.net with guy := { d.net.guy with hoAck := true, eventT := t } } }
    else d
  else if d.ctl.handoverGiven.isSome then
    { d with ctl := { d.ctl with handoverGiven := none, handoverPending := false }
             net := { d.net with guy := { d.net.guy with hoAck := false } } }
  else d

/-- JOIN (R38, step 2): the returning module notes the join time. -/
def guyJoin (join : Bool) (t : Nanos) (d : Device) : Device :=
  if join && d.ctl.state == .ready then { d with ctl := { d.ctl with joinT := some t } } else d

/-- The message fields (R368): acknowledgement, credits, and a segment accepted. Each message is one segment here, and a
segment that comes twice is acknowledged again. -/
def guyChannel (b : List Byte) (top : Nat) (g : GuyState) : GuyState :=
  let g := g.acknowledge (field b 98 1)
  let g := { g with credits := min top (g.credits + field b 97 1) }
  let seq := field b 147 1
  if field b 99 1 = 0 ∨ seq = g.msgAck then g
  else { g with msgAck := seq, owed := if (field b 146 1).testBit 7 then g.owed + 1 else g.owed }

/-- The offset of the module times (R367): own time less the partner's, from the two directions; sfd is the module time of the
frame's SFD. -/
def Device.guyOffset (d : Device) (sfd : Nanos) (b : List Byte) : Option Int :=
  (d.net.guy.sentTimes.lookup (field b 20 2)).map fun t3 =>
    (((sfd : Int) - (field b 4 8 : Int)) - ((field b 12 8 : Int) - (t3 : Int))) / 2

/-- The follower keeps its time on the lead's; GL_TIME_ERR clears within 100 ns. -/
def guyTime (sfd : Nanos) (b : List Byte) (d : Device) : Device :=
  match d.guyOffset sfd b with
  | none => d
  | some o =>
    let d := { d with ctl := { d.ctl with guyOffset := some o } }
    let d := d.onTime fun t => { t with glSince := since d.now (decide (100 < o.natAbs)) t.glSince }
    let d := if d.timeFromPartner then timeCorrect o (d.onTime fun t => { t with role := 4 }) else d
    if o.natAbs ≤ 100 then clearFault .glTimeErr .module d else d

/-- A valid guy frame: its data serve from the next tick 0 (R105). -/
def guyAccept (sfd : Nanos) (b : List Byte) (d : Device) : Device :=
  let x := partnerOf b
  let role := field b 23 1
  let d := { d with
    ctl := { d.ctl with partnerNext := some x, lastGuy := some d.now }
    net := { d.net with guy := { guyChannel b (Cfg.glCredits d.cfg) d.net.guy with
      epoch := field b 1 1, rxTime := sfd, rxFseq := field b 2 2 } } }
  guyTime sfd b (guyJoin (role.testBit 5) (field b 32 8) (guyHandover (role.testBit 3) (role.testBit 4) (field b 32 8) (guyRoles x d)))

/-- GUY_FRAME_RX (R365): the frame whose SFD came at a tick of the present beat. -/
def guyFrameRx (tick : Nat) (b : List Byte) (fcsOk : Bool) (d : Device) : Device :=
  if d.guyValid b fcsOk then guyAccept (d.now + 5 * tick) b d else d.onGuy fun g => { g with err := addWrap 32 g.err 1 }

def execGuyFrameRx (tick : Fin 200) (bytes : List Byte) (fcsOk : Bool) (s : State) : Host.Outcome State Fault Refusal :=
  .next (if s.dev.paired ∧ s.dev.net.guy.up ∧ !s.dev.forcedAt 0x0103 then s.onDev (guyFrameRx tick bytes fcsOk) else s)

/-! ## The link (R368) -/

/-- GUY_LINK_DOWN: every message not acknowledged completes with ABSENT at its requester. -/
def execGuyLinkDown (s : State) : Host.Outcome State Fault Refusal :=
  .next (s.onDev fun d => d.onGuy fun g => { g with up := false, absent := g.absent + g.out.length, out := [], dorid := none })

/-- GUY_LINK_UP: a new EPOCH; both credit counts restart at GL_CREDITS; the Dorid producer of the line restarts (R325). -/
def guyLinkUp (d : Device) : Device :=
  doridPortRestart 4 (d.onGuy fun g => { g with
    up := true, epoch := addWrap 8 g.epoch 1, credits := Cfg.glCredits d.cfg, owed := 0, sentTimes := [] })

def execGuyLinkUp (s : State) : Host.Outcome State Fault Refusal :=
  .next (if s.dev.paired ∧ s.dev.ctl.state ≠ .off ∧ s.dev.boot.fwStarted then s.onDev guyLinkUp else s)

end Sys2Proof.Machine
end

