-- ==== Sys2Proof/Machine/Commits.lean ====
section
/-!
DEFINITION. Staging and commit (chapter 15): the shadow set, COMMIT_CMD, checking, loading, the commit tick, the pair's
announcements, and the settings store.
-/

namespace Sys2Proof.Machine

def Device.onOd (f : ObjDict → ObjDict) (d : Device) : Device := { d with od := f d.od }

/-- A set of settings with the objects of a shadow set. -/
def Settings.overlay (S shadow : Settings) : Settings := shadow.foldl (fun S e => S.set e.1 e.2) S

/-- The set under check: the set in force with the staged objects. -/
def Device.stagedSet (d : Device) : Settings := d.od.inForce.overlay (d.od.shadow.getD [])

def Device.ruleView (d : Device) : RuleView := { S := d.stagedSet, F := d.scfg, d }

/-- A shadow set exists and is locked in these states (R395). -/
def CommitState.locked : CommitState → Bool
  | .editing | .checking | .checked | .pending | .refused => true
  | _ => false

/-- COMMIT_STATUS.PARTNER_MATCH (R402). -/
def matchPartner (d : Device) : Device :=
  d.onOd fun x => { x with
    partnerMatch := x.state == .pending && x.mode == 4 && x.announced == some (x.commitT, x.shadowId) }

/-- A commit at a time that was announced is withdrawn (R402). -/
def withdrawOwn (d : Device) : Device :=
  if d.paired && d.od.compareT == some d.od.commitT && d.od.state == .pending then
    guyPost (.withdraw d.od.commitT) (d.onOd fun x => { x with compareT := none }) else d

/-- The shadow set is discarded and its lock released: CANCELLED (R395, R397, R400). -/
def cancelCommit (d : Device) : Device :=
  matchPartner ((withdrawOwn d).onOd fun x => { x with
    state := .cancelled, shadow := none, lock := none, staged := [], shadowId := 0, loading := false, loaded := false, after := 0
    rule := 0 })

/-- The set is refused; the shadow set and the lock remain. -/
def refuseCommit (rule : Nat) (d : Device) : Device :=
  matchPartner (d.onOd fun x => { x with
    state := .refused, rule, shadowId := 0, loading := false, loaded := false, after := 0, compareT := none })

/-- The module passes to FAULT; a pending commit is cancelled (R400). -/
def enterFault (d : Device) : Device :=
  let d := setState .fault d
  if d.od.state = .pending then cancelCommit d else d

/-! ## Staged writes (R395, R397) -/

/-- What a staged write meets: the lock of another path, or a check or commit under way. -/
def Device.stageRefusal (d : Device) (q : Path) : W32 :=
  if d.od.state.locked && d.od.lock != some q then Abort.shadowHeld
  else if d.od.state == .checking || d.od.state == .pending then Abort.state
  else Abort.ok

/-- A value enters the shadow set; the first one locks it to the path. -/
def stage (q : Path) (key v : Nat) (d : Device) : Device :=
  matchPartner (d.onOd fun x => { x with
    state := .editing, rule := 0, shadowId := 0, mode := if x.state.locked then x.mode else 0
    shadow := some (Settings.insert key v (x.shadow.getD [])), lock := some q, lastStaged := d.now
    staged := if x.staged.contains key then x.staged else x.staged ++ [key] })

/-- A staged write of an object whose own checks have passed. -/
def cmdStage (q : Path) (key v : Nat) (d : Device) : W32 × Device :=
  let c := d.stageRefusal q
  if c = Abort.ok then (c, stage q key v d) else (c, d)

/-- DRAFT_RESTORE (R94): Table 3.4 enters the shadow set. -/
def cmdDraftRestore (q : Path) (p : PortId) (d : Device) : W32 × Device :=
  let c := d.stageRefusal q
  if c = Abort.ok then
    (c, d.each (List.range 240) fun i => stage q (0x618001 + p.num * 0x80000 + i) (dDraft i))
  else (c, d)

def execDraftRestore (path : Path) (p : PortId) (s : State) : Host.Outcome State Fault Refusal :=
  .next (hostWrite path .e false (devCmd (cmdDraftRestore path p)) s)

/-! ## COMMIT_CMD (R397) -/

/-- A commit becomes PENDING; one at a time is announced to the partner with SHADOW_ID (R402). -/
def pendCommit (mode : Nat) (d : Device) : Device :=
  let d := d.onOd fun x => { x with
    state := .pending, mode, rule := 0, after := 0, lateBeats := 0, loading := mode != 4, loaded := false, shadowId := settingsIdOf d.stagedSet }
  let d := if mode = 4 ∧ d.paired then
      guyPost (.announce d.od.commitT d.od.shadowId) (d.onOd fun x => { x with compareT := some x.commitT }) else d
  matchPartner d

/-- The check of a set starts; what follows it is 0 nothing, or the command accepted with it. -/
def startCheck (after : Nat) (d : Device) : Device :=
  matchPartner (d.onOd fun x => { x with state := .checking, after, mode := after, rule := 0, shadowId := 0 })

/-- COMMIT_TIME as the command at acceptance takes it. -/
def Device.commitTimeNow (d : Device) : Nat := d.current 0x2F0002 0

/-- COMMIT_TIME is allowed: a multiple of 1,000 ns, 2 ms to 600 s after acceptance. -/
def Device.commitTimeOk (d : Device) : Bool :=
  let t := d.commitTimeNow
  decide (t % 1000 = 0) && decide (d.now + ms 2 ≤ t) && decide (t ≤ d.now + sec 600)

/-- Commands 0x02-0x04. -/
def cmdCommitGo (mode : Nat) (d : Device) : W32 × Device :=
  match d.od.state with
  | .editing | .refused | .checked =>
    if mode = 4 ∧ !d.commitTimeOk then (Abort.range, d)
    else
      let d := d.onOd fun x => { x with lastStaged := d.now, commitT := if mode = 4 then d.commitTimeNow else x.commitT }
      if d.od.state = .checked then
        if mode ≠ 4 ∧ rule1501 { d.ruleView with d := d.onOd fun x => { x with after := mode } } then
          (Abort.ok, refuseCommit 1501 d)
        else (Abort.ok, pendCommit mode d)
      else (Abort.ok, startCheck mode d)
  | _ => (Abort.state, d)

/-- COMMIT_CMD (R395, R397). -/
def cmdCommit (q : Path) (code : Nat) (d : Device) : W32 × Device :=
  if code = 0 ∨ 5 < code then (Abort.range, d)
  else if d.ctl.state = .calibrating ∨ d.ctl.state = .fault then (Abort.state, d)
  else if d.od.state.locked && d.od.lock != some q then (Abort.shadowHeld, d)
  else match code with
    | 1 => if d.od.state = .editing ∨ d.od.state = .refused then
        (Abort.ok, startCheck 0 (d.onOd fun x => { x with lastStaged := d.now })) else (Abort.state, d)
    | 5 => if d.od.state.locked then (Abort.ok, cancelCommit d) else (Abort.state, d)
    | m => cmdCommitGo m d

/-- A write of COMMIT_CMD over a path. -/
def writeCommit (q : Path) (code : Nat) (s : State) : State := hostWrite q .b false (devCmd (cmdCommit q code)) s

def execCommitCheck (path : Path) (s : State) : Host.Outcome State Fault Refusal := .next (writeCommit path 1 s)
def execCommitNow (path : Path) (s : State) : Host.Outcome State Fault Refusal := .next (writeCommit path 2 s)
def execCommitAligned (path : Path) (s : State) : Host.Outcome State Fault Refusal := .next (writeCommit path 3 s)
def execCommitAt (path : Path) (s : State) : Host.Outcome State Fault Refusal := .next (writeCommit path 4 s)
def execCommitDiscard (path : Path) (s : State) : Host.Outcome State Fault Refusal := .next (writeCommit path 5 s)

/-! ## Checking and loading (R397, R398, R404) -/

/-- Loading for COMMIT_TIME is due: 1 ms x (1 + q) before it (R397). -/
def Device.loadDue (d : Device) : Bool := decide ((d.od.commitT : Rat) ≤ (d.now : Rat) + 1000000 * (1 + d.therm.q))

/-- The check completes (R404): the lowest-numbered failing rule refuses the set. -/
def checkDone (d : Device) : Device :=
  match firstFailing allRules d.ruleView with
  | 0 =>
    if d.od.after = 0 then
      matchPartner (d.onOd fun x => { x with state := .checked, rule := 0, shadowId := settingsIdOf d.stagedSet })
    else pendCommit d.od.after d
  | r => refuseCommit r d

def execCheckDone (s : State) : Host.Outcome State Fault Refusal :=
  .next (if s.dev.od.state = .checking then s.onDev checkDone else s)

/-- COMMIT_LOAD_START (R397): a commit whose check is not complete is refused with RULE 0xFFFF. -/
def commitLoadStart (d : Device) : Device :=
  if d.od.state = .checking ∧ d.od.after = 4 then refuseCommit 0xFFFF d
  else if d.od.state = .pending ∧ d.od.mode = 4 then d.onOd fun x => { x with loading := true }
  else d

def execCommitLoadStart (s : State) : Host.Outcome State Fault Refusal :=
  .next (if s.dev.loadDue then s.onDev commitLoadStart else s)

/-- The objects of a shadow set whose value changes. -/
def changedKeys (old new : Settings) (keys : List Nat) : List Nat := keys.filter fun k => old.lookup k != new.lookup k

def keyHit (keys : List Nat) (f : Nat → Nat → Bool) : Bool := keys.any fun k => f (k / 256) (k % 256)

/-- The stage groups whose gate profile some keys concern (R49, R74). -/
def profileStages (keys : List Nat) : List StageGroup :=
  (List.filter (fun g => keyHit keys fun ix sub => ix == 0x3200 + g || (ix == 0x2200 && sub == g + 1)) [0, 1, 2, 3, 4, 5, 6, 7]).map
    stageOfNum

/-- The inactive bank of a stage's islands takes the profile of a set (R49). -/
def loadBanks (S : Settings) (sg : StageGroup) (d : Device) : Device :=
  d.each sg.islands fun i => Device.onIsland i fun x => if x.link ≠ 2 then x else x.loadBank (profileOf S sg.num)

/-- The set is loaded, the islands' inactive banks with it (R49, R398). -/
def commitLoaded (d : Device) : Device :=
  let new := d.stagedSet
  let d := d.each (profileStages (changedKeys d.od.inForce new d.od.staged)) (loadBanks new)
  d.onOd fun x => { x with loaded := true }

/-- COMMIT_LOADED (R398). -/
def execCommitLoaded (s : State) : Host.Outcome State Fault Refusal :=
  .next (if s.dev.od.state = .pending ∧ s.dev.od.loading then s.onDev commitLoaded else s)

/-! ## The commit tick (R49, R152, R165, R202, R347, R370, R398, R399) -/

/-- The islands of a stage switch to the bank loaded for the commit (R49); one that trained since has both banks loaded then. -/
def switchBank (sg : StageGroup) (d : Device) : Device :=
  (loadBanks d.cfg sg d).each sg.islands fun i => Device.onIsland i fun x => if x.link ≠ 2 then x else { x with bank := !x.bank }

/-- Settings of the fine path of a modulator channel (R164). -/
def filterSetting (m ix sub : Nat) : Bool :=
  [0x2600, 0x3600, 0x3601, 0x3602, 0x3603, 0x3604, 0x3605].contains ix && sub == m + 1

/-- The range of a modulator channel, AIN_RANGE (R165). -/
def rangeSetting (m ix sub : Nat) : Bool := ix == 0x2602 && 37 ≤ m && sub + 36 == m

/-- Settings that restart a CAN port or ETH1 (R398). -/
def canRestart (n ix sub : Nat) : Bool :=
  (ix == 0x2E00 && ((decide (n ≤ 1) && (sub == n + 1 || sub == n + 3)) || (n == 0 && sub == 5)))
    || (ix == 0x3E01 && decide (n ≤ 1) && sub / 2 + sub % 2 == n + 1)

def ethRestart (ix _sub : Nat) : Bool := ix == 0x2E10

/-- A block is declared absent, or completes a restart: its epoch goes on by one (R415). -/
def bumpEpoch (b : Nat) (absent : Bool) (d : Device) : Device :=
  { d with cross := { d.cross with blocks := d.cross.blocks.modify b fun x => { x with epoch := addWrap 8 x.epoch 1, absent } } }

/-- The segmented transfers pending on the paths a test picks complete with ABSENT at the management plane; no frame leaves
(R39, R416, Table 16.2). -/
def dropTransfers (f : Path → Bool) (d : Device) : Device :=
  let drop := fun (e : Path × PathState) =>
    if f e.1 && e.2.transfer.isSome then (e.1, { e.2 with transfer := none, last := [(Abort.absent, [])] }) else e
  d.onOd fun x => { x with paths := x.paths.map drop }

/-- The paths of a CAN port. -/
def onCanPort (p : CanPort) : Path → Bool
  | .usdo onB _ => canOf onB == p
  | .canc => p == .canC
  | .hk _ _ => false

/-- A CAN port restarts at the commit tick (R398, R416). -/
def restartCan (p : CanPort) (d : Device) : Device :=
  if (d.canPort p).conf = 3 then d
  else
    let d := bumpEpoch p.num false (bumpEpoch p.num true (dropTransfers (onCanPort p) d))
    let d := d.onCan p fun x => { x with tec := 0, rec_ := 0, conf := 0, recovering := false }
    let d := clearFault .canWarn (canScope p) (clearFault .canPassive (canScope p) (clearFault .canBusoff (canScope p) d))
    doridPortRestart p.num d

/-- ETH1 restarts at the commit tick. -/
def restartEth (d : Device) : Device :=
  doridPortRestart 3 (bumpEpoch 3 false (bumpEpoch 3 true (dropTransfers isHokuith d)))

/-- A capture ring whose settings change starts with its new ones, empty; one that turns off closes its packet. -/
def restartRing (n : Nat) (d : Device) : Device :=
  if Cfg.capMode d.cfg n = 0 then d.onRing n fun x => { x.close with running := false }
  else d.onRing n fun x => { running := true, pseq := x.pseq, dropped := x.dropped }

/-- What a change of settings does to the blocks it concerns, at the commit tick. -/
def commitEffects (keys : List Nat) (d : Device) : Device :=
  let d := d.each (profileStages keys) switchBank
  let d := d.each (fourNums.filter fun n => keyHit keys (wheelSetting n)) wheelAfresh
  let d := d.each (chanNums.filter fun m => keyHit keys (rangeSetting m)) fun m =>
    Device.onMchan m fun c => { c with fineSettle := fineN d.cfg m }
  let d := d.each ((List.range 32).filter fun k => keyHit keys (slotStructure k)) fun k =>
    Device.onSlot k fun x => { x with coefGen := addWrap 8 x.coefGen 1 }
  let d := d.each (List.range 32) slotSync
  let d := d.each ([CanPort.canA, .canB].filter fun p => keyHit keys (canRestart p.num)) restartCan
  let d := if keyHit keys ethRestart then restartEth d else d
  let d := if keyHit keys (fun ix sub => ix == 0x2E00 && sub == 7) then { d with net := { d.net with isoAddr := none } } else d
  let d := if keyHit keys (fun ix sub => ix == 0x2E00 && decide (7 ≤ sub) && decide (sub ≤ 11)) && d.canSend 2 then isoClaim d else d
  let d := d.each ((List.range 16).filter fun n => keyHit keys fun ix _ => ix == 0x3E40 + n) restartRing
  if keyHit keys (fun ix _ => ix == 0x3E06) then d.onGuy fun g => { g with credits := min g.credits (Cfg.glCredits d.cfg) } else d

/-- Curve points among some keys (R133). -/
def curvePoint (key : Nat) : Bool :=
  let ix := key / 256
  ix == 0x6011 || ix == 0x6012 || ix == 0x6811 || ix == 0x6812


/-- The next tick 0 is that of the beat the commit names (R397): the first one once loaded, the first of an aligned beat, or the
one at COMMIT_TIME or after it. -/
def Device.commitDue (d : Device) : Bool :=
  match d.od.mode with
  | 3 => decide (d.nextTick / 1000 % d.current 0x2F0003 10 = 0)
  | 4 => decide (d.od.commitT ≤ d.nextTick)
  | _ => true

/-- An operation of the commit tick works with the set that goes in force; the computations of the beat go on with the
settings of their own tick 0 (R13). -/
def Device.withSet (S : Settings) (f : Device → Device) (d : Device) : Device :=
  (f (d.onOd fun x => { x with inBeat := S })).onOd fun x => { x with inBeat := d.od.inBeat }

/-- The whole set goes in force (R398): DONE. The control plane reads it at the tick 0 that follows, BEAT_START's (R13). -/
def applySet (d : Device) : Device :=
  let new := d.stagedSet
  let keys := changedKeys d.od.inForce new d.od.staged
  let late := if d.od.mode = 4 then (d.nextTick - d.od.commitT) / 1000 else 0
  let d := d.onOd fun x => { x with
    inForce := new, state := .done, rule := 0, lateBeats := late, shadow := none, lock := none, shadowId := 0
    loading := false, loaded := false, lastCommit := d.nextTick, storeDue := some d.now
    points := x.points ++ (x.staged.filter fun k => curvePoint k && !x.points.contains k), staged := [] }
  let d := d.each (chanNums.filter fun m => keyHit keys (filterSetting m)) (holdFilter new)
  matchPartner (d.withSet new (commitEffects keys))

/-- COMMIT_APPLY (R399): the rules of the commit instant run again; an announced commit that point 0x0F01 suppresses does not happen,
and its set stays as the checked shadow set that R403 speaks of (log entry 57). -/
def commitApply (d : Device) : Device :=
  if d.forcedAt 0x0F01 ∧ d.od.mode = 4 then
    matchPartner (d.onOd fun x => { x with state := .checked, loading := false, loaded := false, compareT := none })
  else match firstFailing instantRules d.ruleView with
  | 0 => applySet d
  | r => refuseCommit r d

def execCommitApply (s : State) : Host.Outcome State Fault Refusal :=
  .next (if s.dev.od.state = .pending ∧ s.dev.od.loaded ∧ s.dev.commitDue then s.onDev commitApply else s)

/-- COMMIT_LATE_LIMIT (R397): ten beats after COMMIT_TIME the set is still not loaded. -/
def execCommitLateLimit (s : State) : Host.Outcome State Fault Refusal :=
  .next (if s.dev.od.state = .pending ∧ s.dev.od.mode = 4 ∧ !s.dev.od.loaded ∧ s.dev.od.commitT + 10000 ≤ s.dev.nextTick then
    s.onDev (refuseCommit 0xFFFE) else s)

/-- LOCK_TIMEOUT has passed with no staged write and no command accepted from the owner (R395). -/
def Device.lockOver (d : Device) : Bool := decide (d.od.lastStaged + sec (Cfg.lockTimeout d.cfg) ≤ d.now)

/-- SHADOW_LOCK_TIMEOUT (R395): it acts while no command is in hand (log entry 41). -/
def execShadowLockTimeout (late : Bool) (s : State) : Host.Outcome State Fault Refusal :=
  .next (if !s.dev.lockOver then s else match s.dev.od.state with
    | .editing | .checked | .refused => s.onDev fun d => lateMisc late (cancelCommit d)
    | _ => s)

/-! ## The pair (R402, R403) -/

/-- COMMIT_ANNOUNCE_RX. -/
def announceRx (m : GuyMsg) (d : Device) : Device :=
  matchPartner (d.onOd fun x => { x with announced := match m with
    | .announce t id => some (t, id)
    | .withdraw t => if (x.announced.map Prod.fst) = some t then none else x.announced })

def execCommitAnnounceRx (m : GuyMsg) (s : State) : Host.Outcome State Fault Refusal :=
  .next (if s.dev.paired ∧ s.dev.net.guy.up then s.onDev (announceRx m) else s)

/-- The missing side (R403): in RUN it raises COMMIT_MISSED. -/
def missedSide (d : Device) : Device := if d.ctl.state = .run then raise .commitMissed .module 2 d else d

/-- The identities of the pair part at the commit time t (R403): the missing side, or the side whose commit happened, or,
where neither announced, both missing. -/
def identityParted (t : Nat) (partner : W32) (d : Device) : Device :=
  if d.od.announced = some (t, partner) then missedSide d
  else if d.od.compareT = some t then losePartner { d with ctl := { d.ctl with identityLost := true } }
  else missedSide d

/-- The last frame of the partner. -/
def Device.lastFrame (d : Device) : PartnerData := d.ctl.partnerNext.getD d.ctl.partner

/-- The commit time under comparison in a frame sent at tx, T + 20 us or later: the earliest one announced either way, else that of
the last commit (R403). -/
def Device.compareDue (d : Device) (tx : Nanos) : Option Nat :=
  let past := fun (t : Nat) => decide (t + 20000 ≤ tx)
  match (d.od.compareT.filter past), ((d.od.announced.map Prod.fst).filter past) with
  | some a, some b => some (min a b)
  | some a, none => some a
  | none, some b => some b
  | none, none => if past d.od.lastCommit then some d.od.lastCommit else none

/-- COMMIT_IDENTITY_COMPARE (R403) for the commit time t. -/
def identityCompare (t : Nat) (d : Device) : Device :=
  let x := d.lastFrame
  let d' := if x.settingsId = d.settingsId then d else identityParted t x.settingsId d
  d'.onOd fun y => { y with announced := y.announced.filter (fun e => e.1 != t), compareT := y.compareT.filter (· != t) }

def execCommitIdentityCompare (s : State) : Host.Outcome State Fault Refusal :=
  .next (if s.dev.paired ∧ s.dev.ctl.partnerPresent then
    match s.dev.compareDue s.dev.lastFrame.txTime with
    | some t => s.onDev (identityCompare t)
    | none => s
  else s)

/-! ## The settings store (R439) -/

/-- What a copy holds: the settings set in force, and every curve point that has been written. -/
def Device.storeEntries (d : Device) : List (Nat × Nat) :=
  let rws := d.od.inForce.filter fun e => match objFind (e.1 / 256) (e.1 % 256) objTable with
    | some (r, _, _) => r.acc == .rws
    | none => false
  rws ++ (d.od.points.filter fun k => (rws.lookup k).isNone).filterMap fun k =>
    (objFind (k / 256) (k % 256) objTable).map fun t => (k, t.1.default t.2.1 t.2.2)

/-- SETTINGS_STORE_WRITE (R439): the set in force goes into the older copy. -/
def storeWrite (d : Device) : Device :=
  let f := d.flash
  let newer := f.copy0.valid && (!f.copy1.valid || decide (f.copy1.seq < f.copy0.seq))
  let seq := addWrap 32 (if newer then f.copy0.seq else if f.copy1.valid then f.copy1.seq else 0) 1
  let c : StoreCopy := { seq, entries := d.storeEntries, valid := true }
  { d with
    flash := if newer then { f with copy1 := c } else { f with copy0 := c }
    boot := { d.boot with storeSeq := seq }, od := { d.od with storeDue := none } }

def execSettingsStoreWrite (s : State) : Host.Outcome State Fault Refusal :=
  .next (if s.dev.od.storeDue.isSome then s.onDev storeWrite else s)

end Sys2Proof.Machine
end

