-- ==== Sys2Proof/Machine/Sessions.lean ====
section
/-!
DEFINITION. Sessions, keys and events (chapter 15): openings by challenge and proof, lockout, key slots, EVENT_POP.
-/

namespace Sys2Proof.Machine

/-! ## Keys (R390, R443) -/

/-- Slot k holds a key that has not been revoked. -/
def Otp.hasKey (o : Otp) (k : Nat) : Bool := o.provisioned.getLsbD k && !o.revoked.getLsbD k

/-- The 32 bytes of slot k. -/
def Otp.keyBytes (o : Otp) (k : Nat) : List Byte := leBytes 32 (o.keys.getD k 0).toNat

/-- No slot holds a key. -/
def Otp.noKey (o : Otp) : Bool := fourNums.all fun k => !o.hasKey k

/-- Bits of a slot mask. -/
def slotBit (k : Nat) : BitVec 4 := BitVec.ofNat 4 (2 ^ k)

/-- A key is burned into a slot; the OTP engine serves a commissioning burn first (Table 16.3). -/
def cmdKeyProvision (data : List Byte) (s : State) : W32 × State :=
  let k := leNat (data.take 1)
  if data.length ≠ 33 then (Abort.length, s)
  else if 3 < k then (Abort.range, s)
  else if s.dev.comm.burning.isSome then (Abort.retry 0xE, s)
  else if s.otp.provisioned.getLsbD k || s.otp.revoked.getLsbD k then (Abort.state, s)
  else beforeBurn (fun s => (Abort.ok, { s with otp := { s.otp with
    keys := s.otp.keys.modify k fun old => old ||| BitVec.ofNat 256 (leNat (data.drop 1))
    provisioned := s.otp.provisioned ||| slotBit k } })) s

/-- The level KEY_PROVISION needs (R390): the first key needs no session, in STANDBY with SERVICE_N low. -/
def State.provisionLevel (s : State) : ObjLevel :=
  if s.otp.noKey && s.dev.ctl.state == .standby && s.dev.ctl.serviceNLow then .b else .v

def execKeyProvision (path : Path) (data : List Byte) (s : State) : Host.Outcome State Fault Refusal :=
  .next (hostWrite path s.provisionLevel false (cmdKeyProvision data) s)

/-- A slot is fused off (R390): all its bits are burned. -/
def cmdKeyRevoke (k : Nat) (s : State) : W32 × State :=
  if 3 < k then (Abort.range, s)
  else if s.dev.comm.burning.isSome then (Abort.retry 0xE, s)
  else beforeBurn (fun s => (Abort.ok, { s with otp := { s.otp with
    keys := s.otp.keys.modify k fun _ => BitVec.allOnes 256, revoked := s.otp.revoked ||| slotBit k } })) s

def execKeyRevoke (path : Path) (slot : BitVec 8) (s : State) : Host.Outcome State Fault Refusal :=
  .next (hostWrite path .v false (cmdKeyRevoke slot.toNat) s)

/-! ## Opening a session (R390, R391, Table 15.5) -/

/-- The failed openings of a path in the last 60 s. -/
def Device.recentFailures (d : Device) (q : Path) : List Nanos :=
  (d.path q).failures.filter fun t => decide (d.now < t + sec 60)

/-- Three failures within 60 s lock the path out (R391). -/
def lockOut (q : Path) (d : Device) : Device :=
  if 3 ≤ (d.recentFailures q).length ∨ d.forced 0x0F02 q.num then
    raise .sessLockout .module 0 (d.onPath q fun x => { x with lockedOut := true, lockedAt := d.now, challenge := none })
  else d

/-- An opening fails. -/
def openFails (q : Path) (d : Device) : W32 × Device :=
  let l := d.recentFailures q
  (Abort.access, lockOut q (d.onPath q fun x => { x with challenge := none, failures := l ++ [d.now] }))

/-- SESS_LOCKOUT (R391). -/
def execSessLockout (path : Path) (s : State) : Host.Outcome State Fault Refusal :=
  .next (if s.dev.ctl.state = .off ∨ (s.dev.path path).lockedOut then s else s.onDev (lockOut path))

/-- SESS_LOCKOUT_END (R391): the fault clears with the end of the last lockout. -/
def lockoutEnd (q : Path) (d : Device) : Device :=
  let d := d.onPath q fun x => { x with lockedOut := false, failures := [] }
  if d.od.paths.any fun e => e.2.lockedOut then d else clearFault .sessLockout .module d

def execSessLockoutEnd (path : Path) (s : State) : Host.Outcome State Fault Refusal :=
  .next (if (s.dev.path path).lockedOut ∧ (s.dev.path path).lockedAt + sec 60 ≤ s.dev.now then s.onDev (lockoutEnd path) else s)

/-- A slot and a level can be used for an opening (R391). -/
def State.mayOpen (s : State) (slot level : Nat) : Bool := s.otp.hasKey slot && (level != 2 || s.dev.ctl.serviceNLow)

/-- Step 1 (Table 15.5): a challenge is issued with NM and HANDLE from the random source. -/
def cmdSessOpen (q : Path) (data : List Byte) (s : State) : W32 × State :=
  let slot := leNat (data.take 1)
  let level := leNat ((data.drop 1).take 1)
  if data.length ≠ 18 then (Abort.length, s)
  else if 3 < slot ∨ level = 0 ∨ 2 < level then (Abort.range, s)
  else if q = .canc ∨ (s.dev.path q).lockedOut then (Abort.access, s)
  else if !s.mayOpen slot level then
    let r := openFails q s.dev
    (r.1, { s with dev := r.2 })
  else
    let c : Challenge := { slot, level, nh := data.drop 2, nm := padTo 16 (Config.randomBytes s.dev.fresh)
                           handle := BitVec.ofNat 32 (1 + Config.freeNat (s.dev.fresh + 1) % 4294967295), time := s.dev.now }
    (Abort.ok, s.onDev fun d => d.draw.draw.onPath q fun x => { x with challenge := some c })

def execSessOpen (path : Path) (data : List Byte) (s : State) : Host.Outcome State Fault Refusal :=
  .next (hostWrite path .b true (cmdSessOpen path data) s)

/-- NODE || LEVEL || HANDLE of a challenge. -/
def Challenge.tail (c : Challenge) (node : Nat) : List Byte := leBytes 2 node ++ leBytes 1 c.level ++ leBytes 4 c.handle.toNat

/-- The customisation strings of Table 15.5 as bytes. -/
def ascii (s : String) : List Byte := s.toList.map fun c => BitVec.ofNat 8 c.toNat

/-- PH the host owes, PM the module answers with, and the session key: 256 bits each (Table 15.5). -/
def Challenge.ph (c : Challenge) (key : List Byte) (node : Nat) : List Byte :=
  padTo 32 (Config.kmac256 key (c.nm ++ c.nh ++ c.tail node) 256 (ascii "HK-OPEN"))

def Challenge.pm (c : Challenge) (key : List Byte) (node : Nat) : List Byte :=
  padTo 32 (Config.kmac256 key (c.nh ++ c.nm ++ c.tail node) 256 (ascii "HK-PROOF"))

def Challenge.sk (c : Challenge) (key : List Byte) : List Byte :=
  padTo 32 (Config.kmac256 key (c.nm ++ c.nh ++ leBytes 4 c.handle.toNat) 256 (ascii "HK-KEY"))

/-- The session opens, in place of an old one (R392). -/
def openSession (q : Path) (c : Challenge) (key : List Byte) (d : Device) : Device :=
  let node := Cfg.nodeNumber d.cfg
  (closeSession q d).onPath q fun x => { x with
    session := some { level := c.level, slot := c.slot, handle := c.handle, key := c.sk key, lastUse := d.now }
    proof := c.pm key node, challenge := none }

/-- Step 3: PH opens the session, or the opening fails. -/
def cmdSessProof (q : Path) (ph : List Byte) (s : State) : W32 × State :=
  if ph.length ≠ 32 then (Abort.length, s)
  else match (s.dev.path q).challenge with
    | none => (Abort.state, s)
    | some c =>
      let key := s.otp.keyBytes c.slot
      if s.mayOpen c.slot c.level && ph == c.ph key (Cfg.nodeNumber s.dev.cfg) then
        (Abort.ok, { s with dev := openSession q c key s.dev })
      else
        let r := openFails q s.dev
        (r.1, { s with dev := r.2 })

def execSessProof (path : Path) (data : List Byte) (s : State) : Host.Outcome State Fault Refusal :=
  .next (hostWrite path .b true (cmdSessProof path data) s)

/-- SESS_CLOSE (R392). -/
def cmdSessClose (q : Path) (d : Device) : W32 × Device := (Abort.ok, closeSession q d)

def execSessClose (path : Path) (s : State) : Host.Outcome State Fault Refusal :=
  .next (hostWrite path .b true (devCmd (cmdSessClose path)) s)

/-- SESS_CHALLENGE_LAPSE (R390): step 3 has not come within 5 s. -/
def execSessChallengeLapse (path : Path) (late : Bool) (s : State) : Host.Outcome State Fault Refusal :=
  .next (if lasted s.dev.now ((s.dev.path path).challenge.map Challenge.time) (sec 5) then
    s.onDev fun d => lateMisc late (d.onPath path fun x => { x with challenge := none }) else s)

/-- A session has had no request for SESSION_IDLE. -/
def Device.sessionOver (d : Device) (q : Path) : Bool :=
  lasted d.now ((d.path q).session.map Session.lastUse) (sec (Cfg.sessionIdle d.cfg))

/-- SESSION_IDLE (R392). -/
def execSessionIdle (path : Path) (late : Bool) (s : State) : Host.Outcome State Fault Refusal :=
  .next (if s.dev.sessionOver path then s.onDev fun d => lateMisc late (closeSession path d) else s)

/-- SESS_CHALLENGE and SESS_MODULE_PROOF as a path reads them. -/
def PathState.challengeBytes (x : PathState) : W32 × List Byte :=
  match x.challenge with
  | some c => (Abort.ok, c.nm ++ leBytes 4 c.handle.toNat)
  | none => (Abort.noData, [])

def PathState.proofBytes (x : PathState) : W32 × List Byte := if x.proof.isEmpty then (Abort.noData, []) else (Abort.ok, x.proof)

/-! ## Events (R394) -/

/-- An event as EVENT_POP returns it (Table 15.7). -/
def Event.bytes (e : Event) : List Byte :=
  leBytes 8 e.time ++ leBytes 2 e.code.toNat ++ leBytes 1 (fields [(0, e.reaction), (3, e.kind), flag 5 e.lostBefore])
    ++ leBytes 1 e.scope ++ leBytes 2 e.number ++ leBytes 2 0

/-- EVENT_POP: the oldest event leaves the queue; HOST_ATTN_N is released with the last one. -/
def popEvent (s : State) : W32 × List Byte × State :=
  match s.dev.faults.events with
  | [] => (Abort.noData, [], s)
  | e :: rest => (Abort.ok, e.bytes, s.onDev fun d => { d with faults := { d.faults with
      events := rest, attnHeld := d.faults.attnHeld && !rest.isEmpty } })

def execEventPop (path : Path) (s : State) : Host.Outcome State Fault Refusal := .next (hostRead path .b popEvent s)

end Sys2Proof.Machine
end

