-- ==== Sys2Proof/Machine/Crossings.lean ====
section
/-!
DEFINITION. Clock-domain crossings, the timebase, self-test slices and error injection (chapter 16).
-/

namespace Sys2Proof.Machine

/-! ## Crossings (R408-R413) -/

def Device.xing (d : Device) (x : Nat) : Crossing := d.cross.xing.getD x {}

def Device.onXing (x : Nat) (f : Crossing → Crossing) (d : Device) : Device :=
  { d with cross := { d.cross with xing := d.cross.xing.modify x f } }

/-- In service (R411): every module state from STANDBY on. -/
def ModState.inService : ModState → Bool
  | .off | .boot | .calibrating => false
  | _ => true

/-- Words or replies of an earlier epoch are discarded and counted (R416). -/
def discardStale (b n : Nat) (d : Device) : Device :=
  { d with cross := { d.cross with blocks := d.cross.blocks.modify b fun x => { x with discard := addWrap 32 x.discard n } } }

/-- The block behind a crossing: the timebase has none, the modulators share their interface (R432). -/
def xingBlock (x : Nat) : Option Nat := if x = 0 then none else if x ≤ 5 then some (x - 1) else some 11

/-- The timebase has stopped (R414): the window watchdog asserts both STO lines, and warp frames stop. -/
def timebaseFail (d : Device) : Device :=
  let d := { d with cross := { d.cross with timebaseStopped := true }, bist := { d.bist with synthOk := false } }
  let d := d.onSafety fun x => { x with wdogLines := true }
  d.each ports applySto

/-- What a crossing's timeout does to what lies behind it (Table 16.1, R411). -/
def xingEffect (x : Nat) (d : Device) : Device :=
  match x with
  | 0 => timebaseFail d
  | 1 | 2 | 3 =>
    let p := canPortOf (x - 1)
    let d := bumpEpoch (x - 1) true (dropTransfers (onCanPort p) (d.onCan p fun y => { y with conf := 3 }))
    raise .xingTimeout (canScope p) 0 d
  | 4 => eth1Link (raise .xingTimeout (.net .eth1) 0 (bumpEpoch 3 true (dropTransfers isHokuith d)))
  | 5 =>
    let d := d.onGuy fun g => { g with up := false, absent := g.absent + g.out.length, out := [], dorid := none }
    raise .xingTimeout (.net .eth2) 0 (bumpEpoch 4 true d)
  | m => if (d.mchan (m - 6)).modFail then d else modFail (m - 6) d

/-- Words that stand in a crossing, with the epoch of the block behind it: 8 in each direction at most (R409, R410). -/
def xingHold (x : Nat) (down up : List Nat) (d : Device) : Device :=
  let e := match xingBlock x with
    | some b => (d.cross.blocks.getD b {}).epoch
    | none => 0
  let words := fun (l : List Nat) => l.map fun v => ({ epoch := e, data := v } : XWord)
  d.onXing x fun y => { y with toClock := (y.toClock ++ words down).take 8, toFabric := (y.toFabric ++ words up).take 8 }

/-- A crossing times out; a word whose edge came in the same instant and lost is counted in LATE (R413). -/
def xingFail (x : Nat) (edge : Bool) (d : Device) : Device :=
  xingEffect x (d.onXing x fun y => { y with
    phase := .timedOut, timeouts := addSat 15 y.timeouts 1, late := if edge then addSat 15 y.late 1 else y.late, since := none })

/-- XING_TIMEOUT (R411, R412): outside service the crossing holds its data. -/
def xingTimeout (x : Nat) (edge : Bool) (d : Device) : Device :=
  match (d.xing x).phase with
  | .timedOut | .holding => d
  | _ =>
    if d.ctl.state.inService then xingFail x edge d
    else d.onXing x fun y => { y with phase := .holding, since := some d.now }

def execXingTimeout (x : Fin 54) (edge : Bool) (down up : List Nat) (s : State) : Host.Outcome State Fault Refusal :=
  .next (if s.dev.ctl.state = .off then s else s.onDev fun d => xingTimeout x edge (xingHold x down up d))

/-- CROSSING_HOLD_TIMEOUT (R412): a hold that has lasted 10 ms ends as a timeout. -/
def execCrossingHoldTimeout (x : Fin 54) (s : State) : Host.Outcome State Fault Refusal :=
  let y := s.dev.xing x
  .next (if y.phase = .holding ∧ lasted s.dev.now y.since (ms 10) then s.onDev (xingFail x false) else s)

/-- The port behind a crossing that had timed out restarts (R411). -/
def xingRestart (x : Nat) (d : Device) : Device :=
  match x with
  | 1 | 2 | 3 =>
    let p := canPortOf (x - 1)
    busoffRecovered p (clearFault .xingTimeout (canScope p) (bumpEpoch (x - 1) false d))
  | 4 => eth1LinkUp (clearFault .xingTimeout (.net .eth1) (bumpEpoch 3 false d))
  | 5 =>
    let d := clearFault .xingTimeout (.net .eth2) (bumpEpoch 4 false d)
    if d.paired then guyLinkUp d else d
  | _ => d

/-- A block behind a crossing that runs has been reset: it is absent until it has restarted (R410, R415, R416). -/
def xingReset (x : Nat) (d : Device) : Device :=
  match x with
  | 1 | 2 | 3 => restartCan (canPortOf (x - 1)) d
  | 4 => restartEth d
  | 5 =>
    let d := bumpEpoch 4 false (bumpEpoch 4 true d)
    if d.paired then guyLinkUp d else d
  | _ => d

/-- CROSSING_RESYNC (R410, R411, R416): the handshake completes; the words held from before a timeout or a reset are of the earlier
epoch and are discarded, those held without one go on (R412). -/
def crossingResync (x : Nat) (d : Device) : Device :=
  let y := d.xing x
  let ph := y.phase
  let stale := if ph = .holding then 0 else y.toClock.length + y.toFabric.length
  let d := d.onXing x fun y => { y with phase := .running, since := none, toClock := [], toFabric := [] }
  let d := match xingBlock x with
    | some b => discardStale b stale d
    | none => d
  match ph with
  | .timedOut => xingRestart x d
  | .holding => d
  | _ => xingReset x d

def execCrossingResync (x : Fin 54) (down up : List Nat) (s : State) : Host.Outcome State Fault Refusal :=
  .next (if s.dev.ctl.state = .off then s else s.onDev fun d => crossingResync x (xingHold x down up d))

/-! ## The timebase (R414) -/

/-- TIMEBASE_FAIL (R414): no edge for 100 ns in service. -/
def execTimebaseFail (s : State) : Host.Outcome State Fault Refusal :=
  .next (if s.dev.ctl.state = .off then s else s.onDev (xingTimeout 0 false))


/-- TIMEBASE_RUNS_AGAIN (R414): the fault manager raises the fault; the watchdog is served again, so that the lines follow
the demands of the safety core from its next cycle. -/
def timebaseRuns (d : Device) : Device :=
  let d := d.onXing 0 fun y => { y with phase := .running, since := none, toClock := [], toFabric := [] }
  let d := d.onSafety fun x => { x with wdogLines := x.sc == .fail && x.wdogLines }
  raise .timebaseFail .module 4 { d with cross := { d.cross with timebaseStopped := false, runsAgain := d.now } }

def execTimebaseRunsAgain (s : State) : Host.Outcome State Fault Refusal :=
  .next (if s.dev.cross.timebaseStopped then s.onDev timebaseRuns else s)

/-- TIMEBASE_LOCK_HELD (R414): the synthesiser has held lock for 100 ms. -/
def execTimebaseLockHeld (s : State) : Host.Outcome State Fault Refusal :=
  .next (if s.dev.active .timebaseFail ∧ !s.dev.cross.timebaseStopped ∧ s.dev.cross.runsAgain + ms 100 ≤ s.dev.now then
    s.onDev fun d => clearFault .timebaseFail .module (d.onBist fun x => { x with synthOk := true }) else s)

/-! ## Self-test (R421-R426) -/

/-- BIST_PASS_START (R425). -/
def bistPassStart (d : Device) : Device :=
  let d := d.onBist fun x => { x with
    passState := 1, progress := 0, done := [], passStart := some d.now, deferCore := false
    deferClock := false, deferLogic := false }
  if d.bistReady then d else bistDefer d

/-- A pass may start: BIST_PERIOD after the start of the previous one, which has completed. -/
def Device.passDue (d : Device) : Bool :=
  d.bist.passState == 0 && (match d.bist.passStart with
    | some t => decide (t + ms (Cfg.bistPeriod d.cfg) ≤ d.now)
    | none => true)

def execBistPassStart (s : State) : Host.Outcome State Fault Refusal :=
  .next (if s.dev.ctl.state.selfTests ∧ s.dev.passDue then s.onDev bistPassStart else s)

/-- A slice of a type on a target: deferred where R425 says so, carried out once in a pass. -/
def bistSlice (t k : Nat) (f : Device → Device) (d : Device) : Device :=
  if d.bist.passState = 0 ∨ d.bist.done.contains (t, k) then d
  else if !d.bistReady then bistDefer d
  else bistDone t k (f d)

/-- The verdict of a slice: a failure is recorded and raises its fault; a pass ends the fault of its scope once no other
failing slice of the type and scope is left (R426). -/
def bistVerdict (t k : Nat) (pass : Bool) (scope : Nat → Scope) (onFail onClear : Device → Device) (d : Device) : Device :=
  if pass ∧ !injPicks (d.injected 0x1002 k) t then
    let d := bistPassed t k d
    if d.bist.failing.any fun e => e.1 == t && scope e.2 == scope k then d else onClear d
  else onFail (bistFailed t k d)

/-- Runs a slice where self-test runs (R421). -/
def bistRun (t k : Nat) (f : Device → Device) (s : State) : State :=
  if s.dev.ctl.state.selfTests then s.onDev (bistSlice t k f) else s

/-- The scope of a warp link's slice: its stage. -/
def linkScope (i : Nat) : Scope := .stage (stageOfIsland i)

/-- BIST_WARP_SLICE (R421, R426). -/
def bistWarp (i : Nat) (pass : Bool) (d : Device) : Device :=
  bistVerdict 1 i pass linkScope
    (fun d => raise .bistWarp (linkScope i) 3 (d.onIsland i (Island.enterPreset (stageOfIsland i) d.now))) (clearFault .bistWarp (linkScope i)) d

def execBistWarpSlice (i : Fin 64) (pass : Bool) (s : State) : Host.Outcome State Fault Refusal :=
  .next (bistRun 1 i (bistWarp i pass) s)

/-- BIST_FABRIC_SLICE (R421, R426). -/
def execBistFabricSlice (l : Fin 96) (pass : Bool) (s : State) : Host.Outcome State Fault Refusal :=
  .next (bistRun 2 l (bistVerdict 2 l pass (fun _ => .module) (raise .bistFabric .module 4) (clearFault .bistFabric .module)) s)

/-- A GUY slice has failed (R424): line 3 is PAIR_STO_IN. -/
def bistGuyFail (l : Nat) (d : Device) : Device :=
  let run := d.ctl.state == .run
  let d := d.onBist fun x => { x with guyBar := true }
  let d := { d with ctl := { d.ctl with fallbackReady := d.ctl.fallbackReady || run } }
  let d := raise .bistGuy .bothPorts 3 d
  if l = 3 then (d.onSafety fun x => { x with guySto := true }).each ports applySto else d

/-- BIST_GUY_SLICE (R424): lines 0 PAIR_OK_OUT, 1 PAIR_OK_IN, 2 PAIR_STO_OUT, 3 PAIR_STO_IN. -/
def bistGuy (l : Nat) (pass : Bool) (d : Device) : Device :=
  bistVerdict 3 l pass (fun _ => .bothPorts) (bistGuyFail l)
    (fun d => clearFault .bistGuy .bothPorts (d.onBist fun x => { x with guyBar := false })) d

def execBistGuySlice (l : Fin 4) (pass : Bool) (s : State) : Host.Outcome State Fault Refusal :=
  .next (bistRun 3 l (bistGuy l pass) s)

/-- The enable group of an enable pin: X1.19 to X1.22. -/
def pinGroup (n : Nat) : Option EnableGroup :=
  if n = 275 then some .enA else if n = 276 then some .enB else if n = 277 then some .enConv
  else if n = 278 then some .enAux else none

/-- BIST_PIN (Table 16.7): F3 on the group of an enable pin. -/
def bistPinFail (n : Nat) (d : Device) : Device :=
  match pinGroup n with
  | some g => raiseActs .bistPin (.pin n) 3 [(.group g, 3)] d
  | none => raise .bistPin (.pin n) 0 d

def bistPin (t n : Nat) (pass : Bool) (d : Device) : Device :=
  bistVerdict t n pass Scope.pin (bistPinFail n) (clearFault .bistPin (.pin n)) d

/-- BIST_PIN_IN_SLICE (R422). -/
def execBistPinInSlice (n : Nat) (pass : Bool) (s : State) : Host.Outcome State Fault Refusal :=
  .next (if bistInPins.contains n then bistRun 4 n (bistPin 4 n pass) s else s)

/-- BIST_PIN_OUT_SLICE (R422). -/
def execBistPinOutSlice (n : Nat) (pass : Bool) (s : State) : Host.Outcome State Fault Refusal :=
  .next (if bistOutPins.contains n then bistRun 5 n (bistPin 5 n pass) s else s)

/-- A channel a GATE slice skips (R423): held on since before the pass, or lost. -/
def Device.gateSkipped (d : Device) (g : Nat) : Bool :=
  (d.chan g).disabled || ((d.chan g).gateOn && decide ((d.chan g).edgeQ ≤ 4 * (d.bist.passStart.getD 0 : Nat)))

/-- The next turn-on allowed for a channel lies at least 1 us away (R423): by the dwell limit of a port that selects, by the carrier
of a converter phase. -/
def Device.turnOnFar (d : Device) (g : Nat) : Bool :=
  match stageOfChan g with
  | .portA => d.dwellFar .a
  | .portB => d.dwellFar .b
  | .conv =>
    let i := g / 8
    let n := (i - 36) / 4
    (d.supply.conv.phases.getD n {}).edges.all fun e => !(e.2.2.2 && 36 + 4 * n + e.2.2.1 == i) || decide (d.now + 1000 ≤ e.2.1)
  | _ => true

/-- A GATE slice can be placed on a channel (R423). -/
def Device.gatePlaced (d : Device) (g : Nat) : Bool :=
  !(d.chan g).gateOn && decide ((d.chan g).holdAt + 200 ≤ d.now) && d.turnOnFar g && !(d.island (g / 8)).safe
    && d.stoFree (stageOfChan g)

/-- A charge outside ±30 % counts as one failed measurement; which of the two confirmations it counts towards the spec
leaves open. -/
def chargeOut (g : Nat) (d : Device) : Device :=
  let short := Config.freeBool d.fresh
  let d := d.draw.onChan g fun c => if short then { c with shortRun := c.shortRun + 1 } else { c with leakRun := c.leakRun + 1 }
  if 2 ≤ (d.chan g).shortRun then dieLost 2 g d else if 3 ≤ (d.chan g).leakRun then dieLost 1 g d else d

/-- BIST_GATE_SLICE (R423). -/
def bistGate (g : Nat) (inBand readBack : Bool) (d : Device) : Device :=
  let sc := fun k => Scope.stage (stageOfChan k)
  let d := if inBand then d else chargeOut g d
  bistVerdict 6 g readBack sc (raise .bistGate (sc g) 3) (clearFault .bistGate (sc g)) d

def execBistGateSlice (g : Fin 512) (inBand readBack : Bool) (s : State) : Host.Outcome State Fault Refusal :=
  .next (if s.dev.gateSkipped g then
      bistRun 6 g (fun d => d.onBist fun x => { x with skipCount := addWrap 32 x.skipCount 1 }) s
    else if s.dev.gatePlaced g then bistRun 6 g (bistGate g inBand readBack) s
    else s)

/-- BIST_PASS_OVERDUE (R425): 2 s after its start the pass has not completed. -/
def execBistPassOverdue (s : State) : Host.Outcome State Fault Refusal :=
  .next (if s.dev.bist.passState ≠ 0 ∧ lasted s.dev.now s.dev.bist.passStart (sec 2) then
    s.onDev fun d => d.onBist fun x => { x with passState := 2 } else s)

/-- BIST_OVERDUE (R425): 10 s later it still has not. -/
def execBistOverdue (s : State) : Host.Outcome State Fault Refusal :=
  .next (if s.dev.bist.passState = 2 ∧ lasted s.dev.now s.dev.bist.passStart (sec 12) then
    s.onDev (raise .bistOverdue .module 2) else s)

/-! ## Error injection (R427-R429) -/

def Device.onInj (f : Inject → Inject) (d : Device) : Device := { d with inj := f d.inj }

/-- A port is CATCHING, RUNNING or STOPPING. -/
def Device.anyPortMoves (d : Device) : Bool :=
  ports.any fun p => match (d.port p).state with
    | .catching | .running | .stopping => true
    | _ => false

/-- An S point cannot be armed now over a path (R427). -/
def Device.refusesS (d : Device) (q : Path) : Bool :=
  d.anyPortMoves && !(d.comm.state == .proof && d.comm.conn.any fun c => c.1 == q)

/-- Block restarts by point 0x1004 (Table 16.6). -/
def injRestart (b : Nat) (d : Device) : Device :=
  if b ≤ 2 then restartCan (canPortOf b) d
  else if b = 3 then restartEth d
  else if b = 4 then xingReset 5 d
  else if b < 76 then bumpEpoch b false (bumpEpoch b true d)
  else d

/-- INJ_CMD 0x01 (R427, R428). -/
def cmdInjArm (q : Path) (d : Device) : W32 × Device :=
  let x := d.path q
  if d.ctl.state = .calibrating then (Abort.state, d)
  else if !injPoints.contains x.injPoint then (Abort.range, d)
  else if injPointsS.contains x.injPoint ∧ d.refusesS q then (Abort.access, d.onInj fun y => { y with refusedS := true })
  else
    let rest := d.inj.active.filter fun i => !(i.point == x.injPoint && i.arg == x.injArg)
    if 8 ≤ rest.length then (Abort.busy, d)
    else
      let i : Injection := { path := q, point := x.injPoint, arg := x.injArg, value := x.injValue, duration := x.injDuration
                             armedAt := d.now }
      let d := d.onInj fun y => { y with
        active := rest ++ [i], point := x.injPoint, hits := 0, refusedS := false, count := addWrap 32 y.count 1 }
      (Abort.ok, if x.injPoint = 0x1004 then injRestart x.injArg d
        else if x.injPoint = 0x0D03 then raise .otpBurnFail .module 0 d
        else d)

/-- INJ_CMD 0x02 (R429). -/
def cmdInjWithdraw (q : Path) (d : Device) : W32 × Device :=
  let x := d.path q
  if d.ctl.state = .calibrating then (Abort.state, d)
  else (Abort.ok, d.onInj fun y => { y with active := y.active.filter fun i => !(i.point == x.injPoint && i.arg == x.injArg) })

/-- INJ_CMD 0x03 (R429). -/
def cmdInjWithdrawAll (d : Device) : W32 × Device :=
  if d.ctl.state = .calibrating then (Abort.state, d) else (Abort.ok, d.onInj fun y => { y with active := [] })

/-- INJ_CMD (R432). -/
def cmdInj (q : Path) (code : Nat) (d : Device) : W32 × Device :=
  match code with
  | 1 => cmdInjArm q d
  | 2 => cmdInjWithdraw q d
  | 3 => cmdInjWithdrawAll d
  | _ => (Abort.range, d)

/-- A write of INJ_CMD over a path. -/
def writeInj (q : Path) (code : Nat) (s : State) : State := hostWrite q .v false (devCmd (cmdInj q code)) s

def execInjArm (path : Path) (s : State) : Host.Outcome State Fault Refusal := .next (writeInj path 1 s)
def execInjWithdraw (path : Path) (s : State) : Host.Outcome State Fault Refusal := .next (writeInj path 2 s)
def execInjWithdrawAll (path : Path) (s : State) : Host.Outcome State Fault Refusal := .next (writeInj path 3 s)

/-- INJ_DURATION_END (R429): the k-th active injection has held for INJ_DURATION, or for one evaluation. -/
def execInjDurationEnd (k : Fin 8) (s : State) : Host.Outcome State Fault Refusal :=
  .next (match s.dev.inj.active[k.val]? with
    | some i => if i.armedAt + 1000 * i.duration ≤ s.dev.now then
        s.onDev fun d => d.onInj fun y => { y with active := y.active.eraseIdx k } else s
    | none => s)

/-! ## Pins the module drives from its state -/

/-- PAIR_OK_OUT (R31, R424). -/
def Device.pairOkOut (d : Device) : Bool := (d.ctl.state == .ready || d.ctl.state == .run) && !d.bist.guyBar

/-- HOST_ATTN_N, driven low (R357, R394). -/
def Device.hostAttnLow (d : Device) : Bool := d.faults.attnHeld || !d.faults.events.isEmpty

end Sys2Proof.Machine
end

