-- ==== Sys2Proof/Machine/Firmware.lean ====
section
/-!
DEFINITION. Firmware update, anti-rollback and attestation (chapter 17).
-/

namespace Sys2Proof.Machine

def Device.onFw (f : Firmware → Firmware) (d : Device) : Device := { d with fw := f d.fw }

/-- The bank an update writes: the one that is not ACTIVE. -/
def Firmware.other (x : Firmware) : Bank := x.bank !x.active

def Firmware.onOther (f : Bank → Bank) (x : Firmware) : Firmware :=
  if x.active then { x with bank0 := f x.bank0 } else { x with bank1 := f x.bank1 }

/-! ## Update (R451, Table 17.7) -/

/-- FW_CMD 0x01: the erasing starts. -/
def cmdFwOpen (d : Device) : W32 × Device :=
  (Abort.ok, (cryptoFree (3, 0) d).onFw fun x => { x with state := .erasing, result := 0, written := [], buffer := [] })

/-- FW_ERASE_DONE. -/
def fwErased (d : Device) : Device :=
  d.onFw fun x => { (x.onOther fun _ => { factory := false }) with state := .receiving }

def execFwEraseDone (s : State) : Host.Outcome State Fault Refusal :=
  .next (if s.dev.fw.state = .erasing then s.onDev fwErased else s)

/-- The flash takes the oldest chunk of the write buffer; diagnostic store writes go first (Table 16.3), and the spec gives the
writing no time: a free bit of each beat. -/
def fwBeat (d : Device) : Device :=
  match d.fw.buffer with
  | [] => d
  | c :: rest =>
    if Config.freeBool d.fresh then
      d.draw.onFw fun x => { (x.onOther fun b => { b with chunks := b.chunks ++ [c] }) with buffer := rest }
    else countRetry 0xF 1 d.draw

/-- FW_CHUNK: 1,024 bytes at FW_OFFSET, which rises by 1,024; it is answered once it is in the write buffer. -/
def cmdFwChunk (data : List Byte) (d : Device) : W32 × Device :=
  let off := d.current 0x901002 0
  if data.length ≠ 1024 then (Abort.length, d)
  else if d.ctl.state ≠ .standby ∨ d.fw.state ≠ .receiving then (Abort.state, d)
  else if off % 1024 ≠ 0 ∨ 8388608 ≤ off then (Abort.range, d)
  else if d.fw.written.contains (off / 1024) then (Abort.state, d)
  else if 16 ≤ d.fw.buffer.length then (Abort.busy, d)
  else
    let d := d.onFw fun x => { x with buffer := x.buffer ++ [(off / 1024, data)], written := x.written ++ [off / 1024] }
    (Abort.ok, pushLive 0x901002 (off + 1024) d)

def execFwChunk (path : Path) (data : List Byte) (s : State) : Host.Outcome State Fault Refusal :=
  .next (hostWrite path .v false (devCmd (cmdFwChunk data)) s)

/-- The other bank with the chunks that still wait in the write buffer. -/
def Firmware.flushed (x : Firmware) : Bank := { x.other with chunks := x.other.chunks ++ x.buffer }

/-- Every chunk up to the image length has been written in this update. -/
def Firmware.complete (x : Firmware) : Bool :=
  x.written.contains 0 && (List.range ((x.flushed.imageLen + 1023) / 1024)).all x.written.contains

/-- FW_CMD 0x02. -/
def cmdFwVerify (d : Device) : W32 × Device :=
  if d.fw.state ≠ .receiving then (Abort.state, d)
  else if d.fw.complete then (Abort.ok, cryptoAsk (3, 0) (d.onFw fun x => { x with state := .verifying }))
  else (Abort.ok, d.onFw fun x => { x with state := .failed, result := 9 })

/-- FW_VERIFY_DONE (R449): the buffer has been written and the crypto engine has served the verification. -/
def fwVerified (o : Otp) (d : Device) : Device :=
  (cryptoFree (3, 0) d).onFw fun x =>
    let r := x.other.result o
    { x with state := if r = 0 then .verified else .failed, result := r }

def execFwVerifyDone (s : State) : Host.Outcome State Fault Refusal :=
  let d := s.dev
  .next (if d.fw.state = .verifying ∧ d.fw.buffer = [] ∧ d.cross.crypto.holder = some (3, 0) then s.onDev (fwVerified s.otp) else s)

/-- FW_CMD 0x03. -/
def cmdFwSelect (d : Device) : W32 × Device :=
  if d.fw.state ≠ .verified then (Abort.state, d)
  else (Abort.ok, d.onFw fun x => ({ x with state := .selected, next := some !x.active, trialStarted := false } : Firmware).saveRecord)

/-- FW_CMD 0x05. -/
def cmdFwAbandon (d : Device) : W32 × Device :=
  (Abort.ok, (cryptoFree (3, 0) d).onFw fun x =>
    let y : Firmware := { x with state := .idle, next := none, buffer := [] }
    if x.next.isSome then y.saveRecord else y)

/-! ## Anti-rollback (R446, R447) -/

/-- Fuses 0 to n - 1 are burned; a burned fuse stays. -/
def Otp.burnFuses (n : Nat) (o : Otp) : Otp := { o with fuses := o.fuses ||| BitVec.ofNat 128 (2 ^ n - 1) }

/-- Firmware key 0 is revoked where the header of the running bank asks for it (Table 17.6). -/
def Otp.revokeKey (x : Bank) (o : Otp) : Otp :=
  if x.field 6 1 % 2 = 1 ∧ x.keyId = 1 then { o with fwRevoked := o.fwRevoked ||| 1#2 } else o

/-- FW_CMD 0x04: the engine burns one fuse after another, as many as it is given; once AR_COUNT equals SECURITY_VERSION and
the burns have read back, the revocation follows and the bank is accepted. -/
def cmdFwAccept (steps : Nat) (burned : Bool) (s : State) : W32 × State :=
  let x := s.dev.fw.bank s.dev.fw.running
  let result := fun r => fun (s : State) => s.onDev fun d => d.onFw fun y => { y with result := r }
  if 128 < x.secVer then (Abort.ok, result 10 s)
  else
    let need := x.secVer - s.otp.arCount
    let s := { s with otp := s.otp.burnFuses (s.otp.arCount + min steps need) }
    if !burned then (Abort.ok, result 10 s)
    else if steps < need then (Abort.ok, s)
    else (Abort.ok, result 0 { s with
      otp := s.otp.revokeKey x, dev := s.dev.onFw fun y => { y with trial := false } })

/-! ## FW_CMD (R451) -/

/-- A command of FW_CMD, refused outside STANDBY; the burning of the accept has its course as operands. -/
def cmdFw (code steps : Nat) (burned : Bool) (s : State) : W32 × State :=
  if code = 0 ∨ 5 < code then (Abort.range, s)
  else if s.dev.ctl.state ≠ .standby then (Abort.state, s)
  else match code with
    | 1 => devCmd cmdFwOpen s
    | 2 => devCmd cmdFwVerify s
    | 3 => devCmd cmdFwSelect s
    | 4 => beforeBurn (cmdFwAccept steps burned) s
    | _ => devCmd cmdFwAbandon s

/-- A write of FW_CMD over a path. -/
def writeFw (q : Path) (code steps : Nat) (burned : Bool) (s : State) : State :=
  hostWrite q .v false (cmdFw code steps burned) s

def execFwCmdOpen (path : Path) (s : State) : Host.Outcome State Fault Refusal := .next (writeFw path 1 0 true s)
def execFwCmdVerify (path : Path) (s : State) : Host.Outcome State Fault Refusal := .next (writeFw path 2 0 true s)
def execFwCmdSelect (path : Path) (s : State) : Host.Outcome State Fault Refusal := .next (writeFw path 3 0 true s)
def execFwCmdAccept (path : Path) (steps : Nat) (burned : Bool) (s : State) : Host.Outcome State Fault Refusal :=
  .next (writeFw path 4 steps burned s)
def execFwCmdAbandon (path : Path) (s : State) : Host.Outcome State Fault Refusal := .next (writeFw path 5 0 true s)

/-! ## Attestation (R453) -/

/-- The entry of a bank in the quote (Table 17.9). -/
def State.quoteBank (s : State) (x : Bank) : List Byte :=
  leBytes 4 x.version ++ leBytes 1 x.secVer ++ leBytes 1 (if bankGood s.otp x then 1 else 0) ++ [0, 0]
    ++ padTo 32 (Config.shake256 (x.bytes 0 256) 256)

/-- Bytes 0-175 of the quote, latched in the beat in which signing starts. -/
def State.quoteFields (s : State) (nonce : List Byte) : List Byte :=
  let d := s.dev
  ascii "NYMQ" ++ leBytes 1 1 ++ leBytes 1 d.ctl.state.code ++ leBytes 1 (fields [flag 0 d.fw.running, flag 1 d.fw.trial]) ++ [0]
    ++ nonce ++ leBytes 8 d.now ++ leBytes 4 Config.serialNumber.toNat ++ leBytes 4 d.comm.check.toNat
    ++ leBytes 4 d.settingsId.toNat ++ leBytes 1 d.comm.generation ++ leBytes 1 s.otp.arCount ++ leBytes 1 s.otp.keyState ++ [0]
    ++ s.quoteBank d.fw.bank0 ++ s.quoteBank d.fw.bank1
    ++ padTo 32 (Config.otpDigest s.otp.keys s.otp.keyState s.otp.fuses.toNat)

/-- ATTEST_NONCE: the signing starts. -/
def cmdAttest (nonce : List Byte) (s : State) : W32 × State :=
  if nonce.length ≠ 32 then (Abort.length, s)
  else if s.dev.boot.idStatus ≠ 1 then (Abort.state, s)
  else if s.dev.boot.attest = 1 then (Abort.busy, s)
  else
    let l := s.quoteFields nonce
    (Abort.ok, s.onDev fun d => cryptoAsk (2, 0) { d with boot := { d.boot with attest := 1, nonce, latched := l, quote := [] } })

def execAttestNonce (path : Path) (nonce : List Byte) (s : State) : Host.Outcome State Fault Refusal :=
  .next (hostWrite path .b false (cmdAttest nonce) s)

/-- ATTEST_QUOTE_READY: the signature, made with the context string "NYM-AQ". -/
def quoteReady (d : Device) : Device :=
  cryptoFree (2, 0) { d with boot := { d.boot with
      attest := 2
      quote := d.boot.latched ++ padTo 17088 (Config.slhSign (signedWith (ascii "NYM-AQ") d.boot.latched)) } }

def execAttestQuoteReady (s : State) : Host.Outcome State Fault Refusal :=
  .next (if s.dev.boot.attest = 1 then s.onDev quoteReady else s)

end Sys2Proof.Machine
end

