-- ==== Sys2Proof/Machine/Objects.lean ====
section
/-!
DEFINITION. Object access (chapters 14 and 15): reads and writes of every object with the checks of R386, USDO transfers,
Hokuith datagrams, PDOs.
-/

namespace Sys2Proof.Machine

/-! ## The value of a write (R383, R386) -/

/-- The value of an encoding as a number. -/
def ObjRow.value (r : ObjRow) (v : Nat) : Int :=
  match r.ty with
  | .int n => if 2 ^ (8 * n - 1) ≤ v then (v : Int) - 2 ^ (8 * n) else v
  | _ => v

/-- Bits 31-24 of a 24-bit mantissa all equal bit 23 (R383). -/
def mantissaOk (v : Nat) : Bool := decide (v < 0x800000) || decide (0xFF800000 ≤ v)

/-- A REAL32 lies in a range whose ends are the codes next to the ends the table writes, a half step of the format away at most
(DEDUCED, log entry 73): 0.01 has no code of its own. -/
def realIn (lo hi x : Rat) : Bool := decide (lo - ratAbs lo / 2 ^ 24 ≤ x) && decide (x ≤ hi + ratAbs hi / 2 ^ 24)

/-- The range of an object. -/
def ObjRow.inRange (r : ObjRow) (v : Nat) : Bool :=
  (match r.ty with
    | .bool => decide (v ≤ 1)
    | .real => decide (v / 2 ^ 23 % 256 ≠ 255)
    | _ => true) &&
  match r.rng with
  | .any => true
  | .between lo hi => decide (lo ≤ r.value v) && decide (r.value v ≤ hi)
  | .real lo hi => realIn lo hi (realOfBits v)
  | .oneOf vs => vs.contains v
  | .zeroOr lo hi => v == 0 || (decide (lo ≤ v) && decide (v ≤ hi))
  | .upToOr hi x => decide (v ≤ hi) || v == x
  | .trim => decide ((toSigned 8 (v % 256)).natAbs ≤ 32) && decide ((toSigned 8 (v / 256)).natAbs ≤ 32)
  | .mantissa => mantissaOk v
  | .positive => decide (0 < realOfBits v)

/-- Bytes a value of the type has. -/
def ObjType.size : ObjType → Nat
  | .octets n => n
  | t => (t.width).getD 0

/-- Existence (R386, step 1). -/
def objExists (ix sub : Nat) : Except W32 ObjRow :=
  match objFind ix sub objTable with
  | some t => .ok t.1
  | none => .error (if objHasIndex ix then Abort.noSub else Abort.noIndex)

/-! ## Objects their owners set (R161, R203) -/

/-- A field of a firmware slot's record which the expert override of the speed slots makes writable (R203). -/
def Device.speedExpert (d : Device) (k sub : Nat) : Bool :=
  decide (k ≤ 1) && decide (8 ≤ sub) && decide (sub ≤ 16) && Cfg.speedLoopExpert d.stagedSet (if k = 0 then .a else .b)

/-- An RWS object that the module holds read only: the record of a firmware slot, the settings of an owned comparator. -/
def Device.ownerSets (d : Device) (ix sub : Nat) : Bool :=
  (decide (0x3700 ≤ ix) && decide (ix < 0x3718) && !d.speedExpert (ix - 0x3700) sub)
    || (decide (0x3606 ≤ ix) && decide (ix ≤ 0x360A) && ownedComp (sub - 1))


/-- The value an owner has set. -/
def Device.ownerValue (d : Device) (ix sub dflt : Nat) : Nat :=
  let m := sub - 1
  if 0x3700 ≤ ix then
    let k := ix - 0x3700
    let c := d.slotCoef k
    if sub = 8 then ofSigned 8 (c.getD 0 0)
    else if 9 ≤ sub ∧ sub ≤ 12 then ofSigned 32 (c.getD (sub - 8) 0)
    else if sub = 13 then ofSigned 8 (c.getD 5 0)
    else if 14 ≤ sub ∧ sub ≤ 16 then ofSigned 32 (c.getD (sub - 8) 0)
    else if sub = 6 ∨ sub = 7 ∨ (sub = 22 ∧ (k ≤ 3)) then 128 + (Config.loopSource k sub).toNat
    else if sub = 20 then (if k ≤ 3 then 2 else dflt)
    else if sub = 17 then ofSigned 32 (d.slot k).ownHi
    else if sub = 18 then ofSigned 32 (d.slot k).ownLo
    else d.cfg.raw (ix * 256 + sub) dflt
  else match ix with
    | 0x3606 => realVal (d.compBand m).1
    | 0x3607 => realVal (d.compBand m).2
    | 0x360A => if (d.ownedBand m).isSome then 2 else 0
    | _ => d.cfg.raw (ix * 256 + sub) dflt

/-! ## Reading (R384-R386) -/

/-- The value of an RW or RWS object as a path reads it: per-path objects; the last value accepted; the shadow value under
SHADOW_VIEW (R396); level S objects from the safety image. -/
def Device.rwValue (d : Device) (q : Path) (r : ObjRow) (ix sub dflt : Nat) : Nat :=
  let x := d.path q
  let key := ix * 256 + sub
  let dflt := nodeDefault (if x.shadowView then d.stagedSet else d.od.inForce) ix sub dflt
  match key with
  | 0x2F0005 => if x.shadowView then 1 else 0
  | 0x801001 => x.injPoint
  | 0x801002 => x.injArg
  | 0x801003 => ofSigned 32 x.injValue
  | 0x801004 => x.injDuration
  | _ =>
    if r.acc = .rw then d.current key dflt
    else if 0x7000 ≤ ix ∧ ix ≤ 0x7200 then d.scfg.raw key dflt
    else if d.ownerSets ix sub then d.ownerValue ix sub dflt
    else if x.shadowView then d.stagedSet.raw key dflt
    else d.od.inForce.raw key dflt

/-- "NYM-E1560" padded. -/
def orderingCode : List Byte := padTo 12 (ascii "NYM-E1560")

/-- The read of an existing object whose level is open. -/
def readValue (q : Path) (r : ObjRow) (ix sub dflt : Nat) (s : State) : W32 × List Byte × State :=
  let x := s.dev.path q
  let dev := fun (f : Device → List Byte × Device) =>
    let t := f s.dev
    (Abort.ok, t.1, { s with dev := t.2 })
  if 0x5E10 ≤ ix ∧ ix ≤ 0x5E1F then readRxEntry ((ix - 0x5E10) * 128 + (sub - 1)) s
  else match ix, sub with
    | 0x5600, _ => dev (readFine (sub - 1))
    | 0x5603, _ => dev (readChanStatus (sub - 1))
    | 0x5604, _ => dev fun d => (leBytes 4 ((d.meas.temps.getD (sub - 1) {}).word),
        { d with meas := { d.meas with temps := d.meas.temps.modify (sub - 1) fun t => { t with read := true } } })
    | 0x2F20, 2 => (x.challengeBytes.1, x.challengeBytes.2, s)
    | 0x2F20, 4 => (x.proofBytes.1, x.proofBytes.2, s)
    | 0x5F00, 1 => popEvent s
    | 0x9000, 1 => (Abort.ok, orderingCode, s)
    | _, _ =>
      let v := if r.acc = .ro then s.roValue q ix sub else s.dev.rwValue q r ix sub dflt
      (Abort.ok, leBytes r.ty.size v, s)

/-- Objects read only through READ_BLOCK (R374, R389, R453). -/
def blockOnly (ix sub : Nat) : Bool :=
  (decide (0x5E50 ≤ ix) && decide (ix ≤ 0x5E5F)) || (ix == 0x9020 && sub == 1) || (ix == 0x9021 && sub == 3)

/-- With no firmware running, only the objects 0x9000-0x90FF and MODULE_STATUS are read (R450). -/
def Device.bankless (d : Device) (ix sub : Nat) : Bool :=
  d.boot.noBank && !((decide (0x9000 ≤ ix) && decide (ix ≤ 0x90FF)) || (ix == 0x5000 && sub == 1))

/-- A level as reads know it: level S objects are read at level E (R385). -/
def readLevel : ObjLevel → ObjLevel
  | .s => .e
  | l => l

/-- The checks before a read (R386, R388). -/
def readCheck (opened : ObjLevel → Bool) (ix sub : Nat) (s : State) : Except W32 ObjRow :=
  if s.dev.busy then .error Abort.busy
  else match objExists ix sub with
    | .error e => .error e
    | .ok r =>
      if !opened (readLevel r.rd) then .error Abort.access
      else if r.acc = .wo then .error Abort.writeOnly
      else if s.dev.bankless ix sub then .error Abort.state
      else .ok r

/-- A read of an object by a path. -/
def readItem (q : Path) (opened : ObjLevel → Bool) (ix sub : Nat) (s : State) : W32 × List Byte × State :=
  match readCheck opened ix sub s with
  | .error e => (e, [], s)
  | .ok r =>
    if blockOnly ix sub then (Abort.access, [], s)
    else readValue q r ix sub (((objFind ix sub objTable).map fun t => t.1.default t.2.1 t.2.2).getD 0) s

/-- The bytes of an object that READ_BLOCK alone reads; none where there is no data. -/
def State.blockBytes (s : State) (ix sub : Nat) : Option (List Byte) :=
  if 0x5E50 ≤ ix ∧ ix ≤ 0x5E5F then some (s.dev.capData (ix - 0x5E50))
  else if ix = 0x9020 ∧ sub = 1 then some (padTo 29856 Config.idCert)
  else if s.dev.boot.attest = 2 then some s.dev.boot.quote
  else none

/-- READ_BLOCK (R377): LEN bytes from OFFSET of an object. -/
def readBlock (q : Path) (opened : ObjLevel → Bool) (ix sub start len : Nat) (s : State) : W32 × List Byte × State :=
  match readCheck opened ix sub s with
  | .error e => (e, [], s)
  | .ok _ =>
    let t : W32 × List Byte × State := if blockOnly ix sub then
        match s.blockBytes ix sub with
        | some l => (Abort.ok, l, s)
        | none => (Abort.noData, [], s)
      else readItem q opened ix sub s
    if t.1 ≠ Abort.ok then t
    else if t.2.1.length < start + len then (Abort.range, [], t.2.2)
    else (Abort.ok, (t.2.1.drop start).take len, t.2.2)

/-! ## Writing (R384-R387) -/

/-- A command object that knows the value 0x01 alone. -/
def oneOnly (v : Nat) (f : Device → W32 × Device) (d : Device) : W32 × Device := if v = 1 then f d else (Abort.range, d)

/-- A write on the path's own object. -/
def onOwnPath (q : Path) (f : PathState → PathState) (s : State) : W32 × State := (Abort.ok, s.onDev fun d => d.onPath q f)

/-- FW_OFFSET (R451). -/
def cmdFwOffset (v : Nat) (d : Device) : W32 × Device :=
  if v % 1024 ≠ 0 ∨ 8388608 ≤ v then (Abort.range, d)
  else if d.ctl.state ≠ .standby then (Abort.state, d)
  else (Abort.ok, pushLive 0x901002 v d)

/-- A write of an RW or WO object whose own checks have passed. -/
def writeLive (q : Path) (ix sub v : Nat) (data : List Byte) (s : State) : W32 × State :=
  let key := ix * 256 + sub
  if 0x3E60 = ix then devCmd (cmdCapRelease (sub - 1) v) s
  else if 0x3720 = ix then devCmd (rwCmd key v (cmdSlot (sub - 1) v)) s
  else if 0x2A00 ≤ ix ∧ ix ≤ 0x2A03 then devCmd (rwCmd key v (cmdAct (ix - 0x2A00) v)) s
  else match key with
    | 0x200001 => devCmd (moduleCmd q v) s
    | 0x820001 => devCmd (oneOnly v cmdDieRetest) s
    | 0x618101 => devCmd (oneOnly v (cmdDraftRestore q .a)) s
    | 0x698101 => devCmd (oneOnly v (cmdDraftRestore q .b)) s
    | 0x601006 => devCmd (cmdSpeedInput .a v) s
    | 0x681006 => devCmd (cmdSpeedInput .b v) s
    | 0x601008 => devCmd (cmdDriveRequest .a v) s
    | 0x681008 => devCmd (cmdDriveRequest .b v) s
    | 0x860001 => devCmd (oneOnly v cmdSelfCal) s
    | 0x280004 => devCmd (cmdSupply v) s
    | 0x280005 => devCmd (oneOnly v cmdLinkDischarge) s
    | 0x280101 | 0x280102 | 0x280103 | 0x280104 => devCmd (cmdBatLimit key v) s
    | 0x282001 => devCmd (cmdAuxVSet v) s
    | 0x290001 => devCmd (rwCmd key v (cmdChg v)) s
    | 0x290002 => devCmd (cmdChgISet v) s
    | 0x290003 => devCmd (cmdChgVSet v) s
    | 0x290102 => devCmd cmdWdRefresh s
    | 0x291001 => devCmd (rwCmd key v (cmdBchg v)) s
    | 0x3E0005 => devCmd (cmdCanRecover v) s
    | 0x2F0001 => devCmd (cmdCommit q v) s
    | 0x2F0005 => onOwnPath q (fun x => { x with shadowView := v == 1 }) s
    | 0x2F2001 => cmdSessOpen q data s
    | 0x2F2003 => cmdSessProof q data s
    | 0x2F2005 => devCmd (cmdSessClose q) s
    | 0x910001 => cmdKeyProvision data s
    | 0x910002 => cmdKeyRevoke v s
    | 0x801001 => onOwnPath q (fun x => { x with injPoint := v }) s
    | 0x801002 => onOwnPath q (fun x => { x with injArg := v }) s
    | 0x801003 => onOwnPath q (fun x => { x with injValue := toSigned 32 v }) s
    | 0x801004 => onOwnPath q (fun x => { x with injDuration := v }) s
    | 0x801005 => devCmd (cmdInj q v) s
    | 0x901001 => cmdFw v 128 true s
    | 0x901002 => devCmd (cmdFwOffset v) s
    | 0x901003 => devCmd (cmdFwChunk data) s
    | 0x902101 => cmdAttest data s
    | _ => devCmd (fun d => (Abort.ok, pushLive key v d)) s

/-- The writes accepted in FAULT (R20): sessions, RESET of MODULE_CMD, LINK_DISCHARGE. -/
def faultWrite (ix sub v : Nat) : Bool :=
  (ix == 0x2F20 && (sub == 1 || sub == 3 || sub == 5)) || (ix == 0x2000 && sub == 1 && v == 8) || (ix == 0x2800 && sub == 5)

/-- The level a write needs (R385, Table 1.9, R390). -/
def State.writeLevel (s : State) (r : ObjRow) (ix sub v : Nat) : ObjLevel :=
  if ix = 0x2000 ∧ sub = 1 then moduleCmdLevel v
  else if ix = 0x9100 ∧ sub = 1 then s.provisionLevel
  else r.wr

/-- A mapping entry of a PDO names an object that can be mapped (R387): 0 is an empty entry. -/
def mapCheck (opened : ObjLevel → Bool) (v : Nat) : W32 :=
  if v = 0 then Abort.ok
  else match objFind (v / 65536) (v / 256 % 256) objTable with
    | none => Abort.noMap
    | some (r, _, _) =>
      if r.acc = .rws ∨ r.acc = .wo ∨ r.wr = .s ∨ r.ty.size * 8 ≠ v % 256 then Abort.noMap
      else if !opened (if r.acc = .rw then r.wr else r.rd) then Abort.access
      else Abort.ok

/-- RPDO_MAP and TPDO_MAP. -/
def isMap (ix : Nat) : Bool := (decide (0x1600 ≤ ix) && decide (ix ≤ 0x161F)) || (decide (0x1A00 ≤ ix) && decide (ix ≤ 0x1A1F))

/-- The check of a mapping object: its number of entries, or an entry. -/
def mapWriteCheck (opened : ObjLevel → Bool) (ix sub v : Nat) : W32 :=
  if !isMap ix then Abort.ok else if sub = 0 then (if v ≤ 16 then Abort.ok else Abort.range) else mapCheck opened v

/-- The checks before a write (R386, R388). -/
def writeCheck (opened : ObjLevel → Bool) (ix sub : Nat) (data : List Byte) (s : State) : Except W32 ObjRow :=
  let v := leNat data
  if s.dev.busy then .error Abort.busy
  else match objExists ix sub with
    | .error e => .error e
    | .ok r =>
      if !opened (s.writeLevel r ix sub v) then .error Abort.access
      else if r.acc = .ro ∨ (r.acc = .rws ∧ s.dev.ownerSets ix sub) then .error Abort.readOnly
      else if data.length ≠ r.ty.size then .error Abort.length
      else if (match r.ty with
        | .octets _ => false
        | _ => !r.inRange v) then .error Abort.range
      else if mapWriteCheck opened ix sub v ≠ Abort.ok then .error (mapWriteCheck opened ix sub v)
      else if s.dev.boot.noBank ∨ (s.dev.ctl.state = .fault ∧ !faultWrite ix sub v) then .error Abort.state
      else .ok r

/-- A write of an object by a path. -/
def writeItem (q : Path) (opened : ObjLevel → Bool) (ix sub : Nat) (data : List Byte) (s : State) : W32 × State :=
  match writeCheck opened ix sub data s with
  | .error e => (e, s)
  | .ok r =>
    if r.acc = .rws then devCmd (cmdStage q (ix * 256 + sub) (leNat data)) s
    else writeLive q ix sub (leNat data) data s

/-- A write over a path, with its answer. -/
def pathWrite (q : Path) (ix sub : Nat) (data : List Byte) (s : State) : State :=
  if s.dev.ctl.state = .off then s
  else
    let s := { s with dev := touchPath q s.dev }
    if s.dev.busyOn q then { s with dev := answer q Abort.busy [] s.dev } else
    let r := writeItem q (s.dev.levelOpen q) ix sub data s
    { r.2 with dev := answer q r.1 [] r.2.dev }

/-- STAGED_WRITE (R395). -/
def execStagedWrite (path : Path) (index : BitVec 16) (sub : BitVec 8) (data : List Byte) (s : State) :
    Host.Outcome State Fault Refusal :=
  .next (pathWrite path index.toNat sub.toNat data s)

/-- LIVE_WRITE (R384). -/
def execLiveWrite (path : Path) (index : BitVec 16) (sub : BitVec 8) (data : List Byte) (s : State) :
    Host.Outcome State Fault Refusal :=
  .next (pathWrite path index.toNat sub.toNat data s)

/-! ## USDO (R389) -/

/-- Bytes of an expedited transfer or of one segment: what an FD frame leaves beside the transfer's own fields (CiA 1301;
PRESUMED, log entry 14). -/
def usdoChunk : Nat := 56

/-- The USDO server of a port works: frames can be received and the node is not stopped. -/
def Device.usdoServes (d : Device) (onB : Bool) : Bool :=
  d.canSend (canOf onB).num && (d.canPort (canOf onB)).nmt != 4

def setTransfer (q : Path) (t : Option UsdoTransfer) (d : Device) : Device := d.onPath q fun x => { x with transfer := t }

/-- The transfer's last segment is this one. -/
def UsdoTransfer.now (t : UsdoTransfer) (d : Device) : UsdoTransfer := { t with at_ := d.now }

/-- A read: what one frame does not hold follows in segments. -/
def usdoRead (q : Path) (ix sub : Nat) (s : State) : State :=
  let t := readItem q (s.dev.levelOpen q) ix sub s
  let rest := t.2.1.drop usdoChunk
  let tr := if rest.isEmpty then none
    else some { key := ix * 256 + sub, write := false, buffer := rest, total := t.2.1.length, at_ := s.dev.now }
  { t.2.2 with dev := answer q t.1 (t.2.1.take usdoChunk) (setTransfer q tr t.2.2.dev) }

/-- A write in one frame. -/
def usdoWrite (q : Path) (ix sub : Nat) (data : List Byte) (s : State) : State :=
  let r := writeItem q (s.dev.levelOpen q) ix sub data s
  { r.2 with dev := answer q r.1 [] (setTransfer q none r.2.dev) }

/-- A segmented write starts: at most 1,024 bytes. -/
def usdoStart (q : Path) (ix sub total : Nat) (data : List Byte) (d : Device) : Device :=
  if 1024 < total then answer q Abort.length [] (setTransfer q none d)
  else answer q Abort.ok [] (setTransfer q (some { key := ix * 256 + sub, write := true, buffer := data, total, at_ := d.now }) d)

/-- The next segment of a write; the last one completes it. -/
def usdoSegment (q : Path) (data : List Byte) (last : Bool) (s : State) : State :=
  match (s.dev.path q).transfer with
  | some t =>
    if !t.write then { s with dev := answer q Abort.badSpecifier [] (setTransfer q none s.dev) }
    else
      let all := t.buffer ++ data
      if t.total < all.length ∨ (last ∧ all.length ≠ t.total) then
        { s with dev := answer q Abort.length [] (setTransfer q none s.dev) }
      else if last then usdoWrite q (t.key / 256) (t.key % 256) all s
      else { s with dev := answer q Abort.ok [] (setTransfer q (some { t.now s.dev with buffer := all }) s.dev) }
  | none => { s with dev := answer q Abort.badSpecifier [] s.dev }

/-- The next segment of a read. -/
def usdoReadSegment (q : Path) (d : Device) : Device :=
  match (d.path q).transfer with
  | some t =>
    if t.write then answer q Abort.badSpecifier [] (setTransfer q none d)
    else
      let rest := t.buffer.drop usdoChunk
      answer q Abort.ok (t.buffer.take usdoChunk) (setTransfer q (if rest.isEmpty then none else some { t.now d with buffer := rest }) d)
  | none => answer q Abort.badSpecifier [] d

/-- A USDO transfer of a client. -/
def usdo (q : Path) (r : UsdoRequest) (s : State) : State :=
  let s := { s with dev := touchPath q s.dev }
  if s.dev.busyOn q then { s with dev := answer q Abort.busy [] (setTransfer q none s.dev) }
  else match r with
    | .read ix sub => usdoRead q ix.toNat sub.toNat s
    | .write ix sub data => usdoWrite q ix.toNat sub.toNat data s
    | .writeStart ix sub total data => s.onDev (usdoStart q ix.toNat sub.toNat total data)
    | .segment data last => usdoSegment q data last s
    | .readSegment => s.onDev (usdoReadSegment q)
    | .abort => s.onDev (setTransfer q none)
    | .badSpecifier => s.onDev fun d => answer q Abort.badSpecifier [] (setTransfer q none d)

def execUsdoRequest (onB : Bool) (node : Fin 128) (r : UsdoRequest) (s : State) : Host.Outcome State Fault Refusal :=
  .next (if s.dev.usdoServes onB then usdo (.usdo onB node) r s else s)

/-- A segmented transfer has had no next segment for 1 s (R389). -/
def Device.transferOver (d : Device) (q : Path) : Bool := lasted d.now ((d.path q).transfer.map UsdoTransfer.at_) (sec 1)

/-- USDO_TIMEOUT (R389). -/
def execUsdoTimeout (onB : Bool) (node : Fin 128) (late : Bool) (s : State) : Host.Outcome State Fault Refusal :=
  let q : Path := .usdo onB node
  .next (if s.dev.transferOver q then s.onDev fun d => lateMisc late (answer q Abort.timedOut [] (setTransfer q none d)) else s)

/-! ## PDOs (R387, R405) -/

/-- The entries of a mapping: index, subindex, bytes. -/
def mapEntries (f : Nat → Nat) : List (Nat × Nat × Nat) :=
  ((List.range (min 16 (f 0))).map fun i => f (i + 1)).map fun v => (v / 65536, v / 256 % 256, v % 256 / 8)

/-- The mapped values of a received RPDO take effect one after another; a read-only object takes none, and a value out of
its range leaves its object as it is. -/
def rpdoTake (q : Path) : List (Nat × Nat × Nat) → List Byte → State → State
  | [], _, s => s
  | (ix, sub, n) :: rest, data, s =>
    let r := writeItem q (fun _ => true) ix sub (data.take n) s
    rpdoTake q rest (data.drop n) r.2

/-- The path a PDO's live writes stand for: the port's own node. -/
def pdoPath (d : Device) (onB : Bool) : Path :=
  .usdo onB ⟨Cfg.canopenId d.cfg (if onB then 1 else 0) % 128, Nat.mod_lt _ (by decide)⟩

/-- The PDO is valid (bit 31 of its COB-ID is 0) and the node is operational. -/
def Device.pdoRuns (d : Device) (j cob : Nat) : Bool :=
  let p := canOf (decide (16 ≤ j))
  !cob.testBit 31 && d.canSend p.num && (d.canPort p).nmt == 5

/-- RPDO_RX (R387): data shorter than the mapping take no effect. -/
def rpdoRx (j : Nat) (data : List Byte) (s : State) : State :=
  let l := mapEntries (Cfg.rpdoMap s.dev.cfg j)
  if data.length < (l.map fun e => e.2.2).sum then s else rpdoTake (pdoPath s.dev (decide (16 ≤ j))) l data s

def execRpdoRx (j : Fin 32) (data : List Byte) (s : State) : Host.Outcome State Fault Refusal :=
  .next (if s.dev.pdoRuns j (Cfg.rpdoComm s.dev.cfg j 0) then rpdoRx j data s else s)

/-- The mapped values of a TPDO. -/
def tpdoTake (q : Path) : List (Nat × Nat × Nat) → State → List Byte × State
  | [], s => ([], s)
  | (ix, sub, n) :: rest, s =>
    let r := readItem q (fun _ => true) ix sub s
    let t := tpdoTake q rest r.2.2
    (padTo n r.2.1 ++ t.1, t.2)

/-- TPDO_TX (R405). -/
def tpdoTx (j : Nat) (s : State) : State :=
  let onB := decide (16 ≤ j)
  let t := tpdoTake (pdoPath s.dev onB) (mapEntries (Cfg.tpdoMap s.dev.cfg j)) s
  t.2.onDev (txEnqueue { cls := if onB then 11 else 10, ident := Cfg.tpdoComm s.dev.cfg j 0 % 536870912, data := t.1 })

def execTpdoTx (j : Fin 32) (s : State) : Host.Outcome State Fault Refusal :=
  .next (if s.dev.pdoRuns j (Cfg.tpdoComm s.dev.cfg j 0) then tpdoTx j s else s)

/-! ## Hokuith (R375-R378) -/

/-- KMAC256 tag of a datagram: its first 16 bytes. -/
def hkTag (key bytes : List Byte) (custom : String) : List Byte := padTo 16 (Config.kmac256 key bytes 256 (ascii custom))

/-- A response as it goes out (Table 14.10); FLAGS bit 2 marks a repeated one. -/
def hkBytes (a : HkAnswer) (repeated : Bool) (key : Option (List Byte)) : List Byte :=
  let tagged := key.isSome && a.session != 0
  let head := leBytes 2 0x4B48 ++ leBytes 1 1 ++ leBytes 1 (a.opcode + 0x80) ++ leBytes 2 a.body.length
    ++ leBytes 2 (fields [flag 0 tagged, flag 1 true, flag 2 repeated]) ++ leBytes 4 a.session ++ leBytes 4 a.reqId
    ++ leBytes 2 a.items ++ leBytes 2 a.status ++ a.body
  match key with
  | some k => if a.session = 0 then head else head ++ hkTag k head "HK-A"
  | none => head

/-- A response goes to the source of the request. -/
def hkSend (ip : BitVec 32) (port : BitVec 16) (bytes : List Byte) (d : Device) : Device :=
  txEnqueue { cls := 13, destIp := ip, destPort := port, srcPort := 4980, data := bytes } d

/-- The response is kept for a repetition of its request (R375). -/
def hkAnswer (ip : BitVec 32) (port : BitVec 16) (a : HkAnswer) (key : Option (List Byte)) (d : Device) : Device :=
  hkSend ip port (hkBytes a false key) (d.onPath (.hk ip port) fun x => { x with cached := ((a, d.now) :: x.cached).take 8 })

/-- A discarded datagram (R376). -/
def hkDiscard (d : Device) : Device := { d with net := { d.net with hkDiscard := addWrap 32 d.net.hkDiscard 1 } }

/-- The session a datagram names and its key: level B without one; none where the session is unknown or the tag fails. -/
def Device.hkSession (d : Device) (q : Path) (b : List Byte) : Option (Option (List Byte)) :=
  let h := field b 8 4
  if h = 0 then some none
  else match (d.path q).session with
    | some x =>
      let n := b.length - 16
      if x.handle.toNat = h ∧ 36 ≤ b.length ∧ b.drop n = hkTag x.key (b.take n) "HK-Q" then some (some x.key) else none
    | none => none

/-- Length rounded up to whole words. -/
def words4 (n : Nat) : Nat := (n + 3) / 4 * 4

/-- One item of a request: index, subindex, offset, length, data. -/
abbrev HkItem := Nat × Nat × Nat × Nat × List Byte

/-- The items of a body by their opcode (Table 14.11); none where the body does not hold them exactly. -/
def hkItems (op : Nat) : Nat → List Byte → Option (List HkItem)
  | 0, b => if b.isEmpty then some [] else none
  | n + 1, b =>
    let ix := field b 0 2
    let sub := field b 2 1
    let len := if op = 1 then 0 else field b (if op = 2 then 4 else 8) 2
    let size := if op = 1 then 4 else if op = 2 then 8 + words4 len else 12
    if b.length < size then none
    else
      let item : HkItem := (ix, sub, if op = 3 then field b 4 4 else 0, len, if op = 2 then (b.drop 8).take len else [])
      (hkItems op n (b.drop size)).map fun l => item :: l

/-- One response item. -/
def hkItemBytes (i : HkItem) (code : W32) (data : List Byte) : List Byte :=
  leBytes 2 i.1 ++ leBytes 1 i.2.1 ++ [0] ++ leBytes 4 code.toNat ++ leBytes 2 data.length ++ [0, 0] ++ data
    ++ List.replicate (words4 data.length - data.length) 0

/-- One item carried out. -/
def hkItem (q : Path) (opened : ObjLevel → Bool) (op : Nat) (i : HkItem) (s : State) : W32 × List Byte × State :=
  if op = 1 then readItem q opened i.1 i.2.1 s
  else if op = 2 then
    let r := writeItem q opened i.1 i.2.1 i.2.2.2.2 s
    (r.1, [], r.2)
  else readBlock q opened i.1 i.2.1 i.2.2.1 i.2.2.2.1 s

/-- The items are carried out in order, each on its own (R378). -/
def hkRun (q : Path) (opened : ObjLevel → Bool) (op : Nat) : List HkItem → State → List Byte × List (W32 × List Byte) × State
  | [], s => ([], [], s)
  | i :: rest, s =>
    let r := hkItem q opened op i s
    let t := hkRun q opened op rest r.2.2
    (hkItemBytes i r.1 r.2.1 ++ t.1, (r.1, r.2.1) :: t.2.1, t.2.2)

/-- The levels a datagram opens on its path: level B without a session. -/
def Device.hkOpen (d : Device) (q : Path) (key : Option (List Byte)) (l : ObjLevel) : Bool :=
  if key.isSome then d.levelOpen q l else l == .b

/-- The answer to a request beyond the eight a path may keep outstanding: STATUS 3, each item with busy (R375). -/
def hkRefused (ip : BitVec 32) (port : BitVec 16) (key : Option (List Byte)) (a : HkAnswer) (l : List HkItem) (d : Device) : Device :=
  hkAnswer ip port { a with items := l.length, status := 3, body := l.flatMap fun i => hkItemBytes i Abort.busy [] } key
    (d.onPath (.hk ip port) fun x => { x with last := l.map fun _ => (Abort.busy, []) })

/-- A request of opcode 0x01 to 0x03 whose header is good. -/
def hkItemsRun (op : Nat) (ip : BitVec 32) (port : BitVec 16) (key : Option (List Byte)) (a : HkAnswer) (l : List HkItem)
    (s : State) : State :=
  let q : Path := .hk ip port
  if s.dev.busyOn q then s.onDev (hkRefused ip port key a l) else
  let t := hkRun q (s.dev.hkOpen q key) op l s
  let tag := if key.isSome then 16 else 0
  if 1472 < 20 + t.1.length + tag then s.onDev (hkAnswer ip port { a with status := 4 } key)
  else
    let d := t.2.2.dev.onPath q fun x => { x with last := t.2.1 }
    { t.2.2 with dev := hkAnswer ip port { a with items := l.length, body := t.1 } key d }

/-- A datagram on port 4980 (R375, R376): discards, repetition, the checks of STATUS, then what its opcode does. -/
def hkDatagram (op : Nat) (ip : BitVec 32) (port : BitVec 16) (b : List Byte)
    (f : Option (List Byte) → HkAnswer → List Byte → State → State) (s : State) : State :=
  let q : Path := .hk ip port
  if b.length < 20 ∨ field b 0 2 ≠ 0x4B48 then s.onDev hkDiscard
  else match s.dev.hkSession q b with
    | none => s.onDev hkDiscard
    | some key =>
      let a : HkAnswer := { opcode := field b 3 1, session := field b 8 4, reqId := field b 12 4, items := 0, status := 0, body := [] }
      let s := { s with dev := touchPath q s.dev }
      match (s.dev.path q).cached.find? fun e => e.1.reqId == a.reqId && decide (s.dev.now ≤ e.2 + sec 1) with
      | some e => s.onDev (hkSend ip port (hkBytes e.1 true key))
      | none =>
        let tag := if key.isSome then 16 else 0
        if field b 2 1 ≠ 1 then s.onDev (hkAnswer ip port { a with status := 1 } key)
        else if a.opcode ≠ op ∨ b.length ≠ 20 + field b 4 2 + tag ∨ 1472 < b.length then
          s.onDev (hkAnswer ip port { a with status := 2 } key)
        else f key a ((b.drop 20).take (field b 4 2)) s

/-- READ, WRITE and READ_BLOCK. -/
def hkObjects (op : Nat) (ip : BitVec 32) (port : BitVec 16) (b : List Byte) (s : State) : State :=
  hkDatagram op ip port b (fun key a body s =>
    match hkItems op (field b 16 2) body with
    | none => s.onDev (hkAnswer ip port { a with status := 2 } key)
    | some l => hkItemsRun op ip port key a l s) s

/-- The datagram reaches Hokuith object access (R348, R375). -/
def Device.hkHears (d : Device) (h : UdpHead) : Bool := d.ethTakes h && h.destPort == 4980

/-- A datagram on ETH1 (R348): Hokuith serves its port, any other port discards it. -/
def ethServe (h : UdpHead) (f : State → State) (s : State) : State :=
  if !s.dev.ethTakes h then s else if h.destPort = 4980 then f s else s.onDev (ethOther h.destPort)

def execHkRead (h : UdpHead) (ip : BitVec 32) (port : BitVec 16) (bytes : List Byte) (s : State) :
    Host.Outcome State Fault Refusal :=
  .next (ethServe h (hkObjects 1 ip port bytes) s)

def execHkWrite (h : UdpHead) (ip : BitVec 32) (port : BitVec 16) (bytes : List Byte) (s : State) :
    Host.Outcome State Fault Refusal :=
  .next (ethServe h (hkObjects 2 ip port bytes) s)

def execHkReadBlock (h : UdpHead) (ip : BitVec 32) (port : BitVec 16) (bytes : List Byte) (s : State) :
    Host.Outcome State Fault Refusal :=
  .next (ethServe h (hkObjects 3 ip port bytes) s)

/-- The answer of a session opcode: the fields of its step, or the abort code of its failure; busy is STATUS 3. -/
def hkSessionAnswer (ip : BitVec 32) (port : BitVec 16) (key : Option (List Byte)) (a : HkAnswer) (body : List Byte)
    (r : W32 × State) : State :=
  { r.2 with dev := hkAnswer ip port (if r.1 = Abort.ok then { a with items := 1, body } else
      { a with items := 1, body := leBytes 4 r.1.toNat }) key r.2.dev }

/-- HK_SESSION_OPEN_REQUEST (R390): SLOT, LEVEL, NH padded to words; SESSION is 0. -/
def hkOpenRequest (ip : BitVec 32) (port : BitVec 16) (b : List Byte) (s : State) : State :=
  let q : Path := .hk ip port
  hkDatagram 0x10 ip port b (fun key a body s =>
    if key.isSome ∨ body.length ≠ 20 then s.onDev (hkAnswer ip port { a with status := 2 } key)
    else if s.dev.busyOn q then s.onDev (hkAnswer ip port { a with status := 3 } key)
    else
      let r := cmdSessOpen q (body.take 18) s
      hkSessionAnswer ip port key a ((r.2.dev.path q).challengeBytes.2) r) s

def execHkSessionOpenRequest (h : UdpHead) (ip : BitVec 32) (port : BitVec 16) (bytes : List Byte) (s : State) :
    Host.Outcome State Fault Refusal :=
  .next (ethServe h (hkOpenRequest ip port bytes) s)

/-- HK_SESSION_PROOF (R390): PH. -/
def hkProof (ip : BitVec 32) (port : BitVec 16) (b : List Byte) (s : State) : State :=
  let q : Path := .hk ip port
  hkDatagram 0x11 ip port b (fun key a body s =>
    if key.isSome ∨ body.length ≠ 32 then s.onDev (hkAnswer ip port { a with status := 2 } key)
    else if s.dev.busyOn q then s.onDev (hkAnswer ip port { a with status := 3 } key)
    else
      let r := cmdSessProof q body s
      hkSessionAnswer ip port key a ((r.2.dev.path q).proofBytes.2) r) s

def execHkSessionProof (h : UdpHead) (ip : BitVec 32) (port : BitVec 16) (bytes : List Byte) (s : State) :
    Host.Outcome State Fault Refusal :=
  .next (ethServe h (hkProof ip port bytes) s)

/-- HK_SESSION_CLOSE (R390, R392): an empty body with its SESSION and a tag. -/
def hkClose (ip : BitVec 32) (port : BitVec 16) (b : List Byte) (s : State) : State :=
  hkDatagram 0x12 ip port b (fun key a body s =>
    if key.isNone ∨ !body.isEmpty then s.onDev (hkAnswer ip port { a with status := 2 } key)
    else if s.dev.busyOn (.hk ip port) then s.onDev (hkAnswer ip port { a with status := 3 } key)
    else s.onDev fun d => hkAnswer ip port a key (closeSession (.hk ip port) d)) s

def execHkSessionClose (h : UdpHead) (ip : BitVec 32) (port : BitVec 16) (bytes : List Byte) (s : State) :
    Host.Outcome State Fault Refusal :=
  .next (ethServe h (hkClose ip port bytes) s)

end Sys2Proof.Machine
end

