-- ==== Sys2Proof/Machine/Commission.lean ====
section
/-!
DEFINITION. Commissioning over the commissioning connection, the burn of a record and proof-test mode (R335 to R340).
-/

namespace Sys2Proof.Machine

def Device.onComm (f : Comm → Comm) (d : Device) : Device := { d with comm := f d.comm }

/-! ## The connection (R335) -/

/-- The shadow set is the image in force, PAIR_POSITION with it. -/
def loadShadow (d : Device) : Device :=
  d.onComm fun x => { x with
    state := .editing, shadow := d.scfg, pairPos := Cfg.pairPosition d.cfg, shadowCheck := 0, showShadow := false }

/-- The connections 254 and 255 of the commissioning pair start or stop. -/
def commPair (p : DoridPhase) (d : Device) : Device :=
  d.each [254, 255] fun c => Device.onConn c fun x => { x with state := p, started := false, seq := 0 }

/-- A request has been accepted: the deadline of record 254 is DC_TE, 500 ms, after it (R328, R335; its age: log entry 83). -/
def commAlive (d : Device) : Device := d.onConn 254 fun x => { x with deadline := some (d.now + ms 500) }

/-- COMM_CONN_OPEN: in STANDBY with the image copied into the shadow set; in READY and RUN for proof test only. A set that is
being burned stays with its burn. -/
def commOpen (q : Path) (tool : Nat) (d : Device) : Device :=
  let d := commAlive (commPair .run (d.onComm fun x => { x with conn := some (q, tool), trans := none, showShadow := false }))
  if d.ctl.state = .standby ∧ d.comm.state ≠ .burning then loadShadow d else d

/-- The states in which the connection is accepted. -/
def ModState.commissions : ModState → Bool
  | .standby | .ready | .run => true
  | _ => false

def execCommConnOpen (path : Path) (tool : BitVec 9) (s : State) : Host.Outcome State Fault Refusal :=
  .next (if s.dev.comm.conn.isNone ∧ path ≠ .canc ∧ s.dev.levelOpen path .e ∧ s.dev.ctl.state.commissions then
      s.onDev (commOpen path tool.toNat)
    else s)

/-- COMM_CONN_EXPIRED: the connection closes, the shadow set is discarded, proof-test mode ends; a burn goes on. A confirm
that lost to the expiry is counted in LATE of record 254 (R339). -/
def commExpired (confirmLost : Bool) (d : Device) : Device :=
  let d := commPair .unused (proofEnd d)
  let d := d.onComm fun x => { x with
    conn := none, trans := none, showShadow := false
    shadow := if x.state = .burning then x.shadow else [], shadowCheck := if x.state = .burning then x.shadowCheck else 0
    state := if x.state = .burning then .burning else .none }
  if confirmLost then d.onConn 254 fun x => { x with late := addSat 255 x.late 1 } else d

def execCommConnExpired (confirmLost : Bool) (s : State) : Host.Outcome State Fault Refusal :=
  .next (if s.dev.comm.conn.isSome ∧ lasted s.dev.now (s.dev.conn 254).deadline 0 then s.onDev (commExpired confirmLost) else s)

/-! ## Requests (R336) -/

/-- What a request answers with: RESULT and RULE, echo and data. -/
structure CommAnswer where
  result : Nat
  rule   : Nat := 0
  index  : Nat := 0
  sub    : Nat := 0
  data   : List Byte := []
  /-- CHECK is the check value of the shadow set. -/
  shadow : Bool := false

/-- The response is kept and sent. -/
def commAnswer (op xact : Nat) (a : CommAnswer) (s : State) : State :=
  s.onDev fun d => commSend (d.onComm fun x => { x with
    trans := some xact, opcode := op, rTrans := xact, result := a.result, rule := a.rule, index := a.index, sub := a.sub
    data := a.data, showShadow := a.shadow })

/-- The opcodes that READY and RUN take: idle and proof test (R335). -/
def runOpcode (op : Nat) : Bool := op == 0 || op == 6 || op == 7

/-- A request over the commissioning connection, while the session it came from is open: once per new TRANS; refused while a
burn is in hand. -/
def commRequest (op xact : Nat) (f : State → CommAnswer × State) (s : State) : State :=
  match s.dev.comm.conn with
  | none => s
  | some (q, _) =>
    if !s.dev.ctl.state.commissions || !s.dev.levelOpen q .e then s
    else
      let s := { s with dev := commAlive (touchPath q s.dev) }
      if s.dev.comm.trans = some xact then s.onDev commSend
      else if s.dev.comm.state = .burning ∨ (s.dev.ctl.state ≠ .standby ∧ !runOpcode op) then
        commAnswer op xact { result := 4 } s
      else
        let r := f s
        commAnswer op xact r.1 r.2

def execCommIdle (xact : BitVec 8) (s : State) : Host.Outcome State Fault Refusal :=
  .next (commRequest 0 xact.toNat (fun s => ({ result := 0 }, s)) s)

/-- Objects commissioning writes (R336, Table 1.9). -/
def commObject (ix sub : Nat) : Bool :=
  (decide (0x7000 ≤ ix) && decide (ix ≤ 0x707F)) || (decide (0x7100 ≤ ix) && decide (ix ≤ 0x7200)) || (ix == 0x2000 && sub == 2)

/-- The value of a safety object in the shadow set. -/
def Comm.shadowValue (x : Comm) (ix sub dflt : Nat) : Nat :=
  if ix = 0x2000 then x.pairPos else Settings.raw x.shadow (ix * 256 + sub) dflt

/-- A shadow set exists. -/
def Comm.hasShadow (x : Comm) : Bool := x.state == .editing || x.state == .checked || x.state == .burning

/-- Opcode 0x01: checked against the object, written, and read back. -/
def commWrite (ix sub : Nat) (data : List Byte) (s : State) : CommAnswer × State :=
  match (objFind ix sub objTable).map Prod.fst with
  | none => ({ result := 2, index := ix, sub }, s)
  | some r =>
    let v := leNat data
    if !commObject ix sub || r.acc != .rws then ({ result := 2, index := ix, sub }, s)
    else if data.length ≠ r.ty.size ∨ !r.inRange v then ({ result := 3, index := ix, sub }, s)
    else
      let d := if s.dev.comm.hasShadow then s.dev else loadShadow s.dev
      let d := d.onComm fun x => { x with
        state := .editing, shadowCheck := 0, pairPos := if ix = 0x2000 then v else x.pairPos
        shadow := if ix = 0x2000 then x.shadow else Settings.set x.shadow (ix * 256 + sub) v }
      ({ result := 0, index := ix, sub, data := leBytes r.ty.size (d.comm.shadowValue ix sub v) }, { s with dev := d })

def execCommWrite (xact : BitVec 8) (index : BitVec 16) (sub : BitVec 8) (data : List Byte) (s : State) :
    Host.Outcome State Fault Refusal :=
  .next (commRequest 1 xact.toNat (commWrite index.toNat sub.toNat data) s)

/-- The result code of a read's abort code. -/
def commResult (code : W32) : Nat :=
  if code = Abort.ok then 0
  else if code = Abort.access ∨ code = Abort.writeOnly ∨ code = Abort.noIndex ∨ code = Abort.noSub then 2
  else if code = Abort.range ∨ code = Abort.length then 3 else 4

/-- Opcode 0x02: a safety object from the shadow set, any other as the tool's session reads it. -/
def commRead (q : Path) (ix sub : Nat) (s : State) : CommAnswer × State :=
  if s.dev.comm.hasShadow && commObject ix sub then
    match objFind ix sub objTable with
    | none => ({ result := 2, index := ix, sub }, s)
    | some (r, j, i) =>
      ({ result := 0, index := ix, sub, data := leBytes r.ty.size (s.dev.comm.shadowValue ix sub (r.default j i)) }, s)
  else
    let t := readItem q (s.dev.levelOpen q) ix sub s
    if 16 < t.2.1.length then ({ result := 3, index := ix, sub }, t.2.2)
    else ({ result := commResult t.1, index := ix, sub, data := t.2.1 }, t.2.2)

def execCommRead (xact : BitVec 8) (index : BitVec 16) (sub : BitVec 8) (s : State) : Host.Outcome State Fault Refusal :=
  .next (commRequest 2 xact.toNat
    (fun s => commRead ((s.dev.comm.conn.map Prod.fst).getD .canc) index.toNat sub.toNat s) s)

/-- The check of the shadow set: the consistency rules of the safety objects together, with the shadow's PAIR_POSITION. -/
def Device.shadowRule (d : Device) : Nat :=
  firstFailing safetyRules { S := d.cfg.set 0x200002 d.comm.pairPos, F := d.comm.shadow, d }

/-- Opcode 0x03. -/
def commCheck (s : State) : CommAnswer × State :=
  if !s.dev.comm.hasShadow then ({ result := 4 }, s)
  else if s.dev.shadowRule ≠ 0 then
    ({ result := 5, rule := s.dev.shadowRule }, s.onDev fun d => d.onComm fun x => { x with state := .editing, shadowCheck := 0 })
  else
    ({ result := 0, shadow := true },
      s.onDev fun d => d.onComm fun x => { x with state := .checked, shadowCheck := checkValueOf x.shadow })

def execCommCheck (xact : BitVec 8) (s : State) : Host.Outcome State Fault Refusal :=
  .next (commRequest 3 xact.toNat commCheck s)

/-- The next generation not yet used, 1 to 8. -/
def Otp.nextGen (o : Otp) : Option Nat := (o.records.findIdx? fun r => !r.used).map (· + 1)

/-- Opcode 0x04: the confirm starts the burn. -/
def commConfirm (v : W32) (s : State) : CommAnswer × State :=
  let x := s.dev.comm
  if x.state ≠ .checked then ({ result := 4 }, s)
  else if v ≠ x.shadowCheck then ({ result := 6 }, s)
  else match s.otp.nextGen with
    | none => ({ result := 7 }, s)
    | some g =>
      let start := fun (s : State) => (Abort.ok, s.onDev fun d => d.onComm fun x => { x with
        state := .burning, burning := some (x.shadow, g, x.pairPos, (x.conn.map Prod.snd).getD 0) })
      let r := beforeBurn start s
      ({ result := if r.1 = Abort.ok then 1 else 4 }, r.2)

def execCommConfirm (xact : BitVec 8) (value : W32) (s : State) : Host.Outcome State Fault Refusal :=
  .next (commRequest 4 xact.toNat (commConfirm value) s)

/-- Opcode 0x05. -/
def execCommDiscard (xact : BitVec 8) (s : State) : Host.Outcome State Fault Refusal :=
  .next (commRequest 5 xact.toNat (fun s => ({ result := 0 }, s.onDev loadShadow)) s)

/-! ## Proof-test mode (R340) -/

/-- Opcode 0x06: in READY or RUN with SERVICE_N low. -/
def proofEnter (s : State) : CommAnswer × State :=
  if (s.dev.ctl.state = .ready ∨ s.dev.ctl.state = .run) ∧ s.dev.ctl.serviceNLow ∧ s.dev.comm.state ≠ .proof then
    ({ result := 0 }, s.onDev fun d =>
      raise .proofTest .module 0 (d.onComm fun x => { x with state := .proof, proofStart := d.now, shadow := [], shadowCheck := 0 }))
  else ({ result := 4 }, s)

def execProofTestEnter (xact : BitVec 8) (s : State) : Host.Outcome State Fault Refusal :=
  .next (commRequest 6 xact.toNat proofEnter s)

/-- Opcode 0x07. -/
def proofLeave (s : State) : CommAnswer × State :=
  if s.dev.comm.state = .proof then ({ result := 0 }, s.onDev proofEnd) else ({ result := 4 }, s)

def execProofTestLeave (xact : BitVec 8) (s : State) : Host.Outcome State Fault Refusal :=
  .next (commRequest 7 xact.toNat proofLeave s)

/-- PROOF_T_EXPIRY: PROOF_T has elapsed. -/
def execProofTExpiry (late : Bool) (s : State) : Host.Outcome State Fault Refusal :=
  .next (if s.dev.comm.state = .proof ∧ s.dev.comm.proofStart + sec (Cfg.proofT s.dev.scfg) ≤ s.dev.now then
    s.onDev fun d => lateMisc late (proofEnd d) else s)

/-! ## The burn (R338, R339, R444) -/

/-- The safety core evaluates a new image: every input function is demanded, those with manual reset wait for a reset, and
both ports start under the STO demand. -/
def safetyStart (image : Settings) (d : Device) : Device :=
  let d := d.onSafety fun x => { x with
    image := image, sc := .run
    fns := (List.range 16).map fun k => ({ demand := true, waitReset := Cfg.ifReset image k == 1 } : InputFn)
    portA := { sto := true, stoSince := some d.now, speed := x.portA.speed, speedOk := x.portA.speedOk }
    portB := { sto := true, stoSince := some d.now, speed := x.portB.speed, speedOk := x.portB.speedOk } }
  applyDemands .b (applyDemands .a d)

/-- The record of a burn. -/
def burnRecord (d : Device) (image : Settings) (pairPos tool : Nat) (fw : W32) : OtpRecord :=
  { used := true, intact := true, image := image, check := checkValueOf image, pairPos, tool, fw, time := d.now }

/-- The response to the confirm takes its final result, unless a later request has replaced it. -/
def burnAnswer (result : Nat) (d : Device) : Device :=
  if d.comm.conn.isSome ∧ d.comm.result = 1 then commSend (d.onComm fun x => { x with result := result }) else d

/-- The new generation is in force. -/
def burnGood (image : Settings) (g pairPos : Nat) (d : Device) : Device :=
  let d := { d with od := { d.od with inForce := d.od.inForce.set 0x200002 pairPos } }
  let d := d.onComm fun x => { x with
    state := .none, burning := none, shadow := [], shadowCheck := 0, check := checkValueOf image, generation := g }
  let d := doridStart (safetyStart image d)
  let d := if d.comm.conn.isSome then commPair .run d else d
  let d := { d with ctl := { d.ctl with lead := d.ctl.lead || pairPos != 2 } }
  burnAnswer 0 (clearFault .otpBurnFail .module d)

/-- The generation is spent and invalid; the previous one stays in force. -/
def burnBad (d : Device) : Device :=
  burnAnswer 8 (raise .otpBurnFail .module 0
    (d.onComm fun x => { x with state := .none, burning := none, shadow := [], shadowCheck := 0 }))

/-- COMM_BURN_DONE: the burn and read-back complete. During a start the record is read once the firmware loads it. -/
def burnDone (good : Bool) (s : State) : State :=
  match s.dev.comm.burning with
  | none => s
  | some (image, g, pairPos, tool) =>
    let fw : W32 := BitVec.ofNat 32 (s.dev.fw.bank s.dev.fw.running).version
    let old := s.otp.records.getD (g - 1) {}
    let rec_ : OtpRecord := if good then { burnRecord s.dev image pairPos tool fw with invalid := old.invalid }
      else { used := true, invalid := true }
    let otp := { s.otp with records := s.otp.records.set (g - 1) rec_ }
    let dev := if !s.dev.scAlive ∨ !s.dev.boot.fwStarted then s.dev.onComm fun x => { x with state := .none, burning := none }
      else if good then burnGood image g pairPos s.dev
      else burnBad s.dev
    { s with otp := otp, dev := dev }

def execCommBurnDone (good : Bool) (s : State) : Host.Outcome State Fault Refusal := .next (burnDone good s)

end Sys2Proof.Machine
end

