-- ==== Sys2Proof/Machine/Boot.lean ====
section
/-!
DEFINITION. A start (chapter 17): the OTP checks, the milestones of Table 17.1, the choice of a firmware bank, the loading of
the stores, AUTO_READY.
-/

namespace Sys2Proof.Machine

def Device.onBoot (f : Boot → Boot) (d : Device) : Device := { d with boot := f d.boot }

/-- A start is under way: in BOOT, or in SAFE when an F4 fault has taken the module there before its firmware ran. -/
def Device.starting (d : Device) : Bool := (d.ctl.state == .boot || d.ctl.state == .safe) && !d.boot.fwStarted

/-! ## The OTP checks (R445, R446) -/


/-- OTP_READ_DONE: the areas have been read; a failed check takes the start to FAULT. The boot ROM runs on the core supply
(Table 17.1, first row). -/
def otpRead (good : Bool) (d : Device) : Device :=
  let d := { d with ctl := { d.ctl with coreSupplyOk := true } }
  if good then d.onBoot fun x => { x with otpDone := true } else enterFault d

def execOtpReadDone (factoryOk : Bool) (s : State) : Host.Outcome State Fault Refusal :=
  .next (if s.dev.starting ∧ !s.dev.boot.otpDone then
      s.onDev (otpRead (factoryOk && s.otp.fusesOk && s.otp.keysOk))
    else s)

/-- A record's digest, text and generation match, it is not marked invalid, and its check value is that of its image
(R444). -/
def OtpRecord.valid (r : OtpRecord) : Bool := r.used && r.intact && !r.invalid && r.check == checkValueOf r.image

/-- The record in force: the valid one with the highest generation, with that generation. -/
def Otp.inForce (o : Otp) : Option (Nat × OtpRecord) :=
  ((List.range 8).reverse.find? fun k => (o.records.getD k {}).valid).map fun k => (k + 1, o.records.getD k {})

/-- OTP_INTEGRITY_CHECK: in service, with the digest of the record in force. -/
def execOtpIntegrityCheck (factoryOk recordOk : Bool) (s : State) : Host.Outcome State Fault Refusal :=
  .next (if s.dev.ctl.state = .off ∨ s.dev.ctl.state = .boot then s
    else if factoryOk && s.otp.fusesOk && s.otp.keysOk && (recordOk || s.dev.comm.generation == 0) && !s.dev.forcedAt 0x1101 then s
    else s.onDev (raise .otpIntegrity .module 4))

/-! ## The milestones (R433, R437) -/

/-- SYNTH_LOCKED: warp training begins (R433, R436). -/
def synthLocked (d : Device) : Device :=
  let d := (d.onBoot fun x => { x with synthLocked := true }).onBist fun x => { x with synthOk := true }
  { d with gates := { d.gates with islands := d.gates.islands.map Island.train } }

def execSynthLocked (s : State) : Host.Outcome State Fault Refusal :=
  .next (if s.dev.starting ∧ !s.dev.boot.synthLocked then s.onDev synthLocked else s)

/-- Islands that have not trained. -/
def Device.untrained (d : Device) : Nat := (d.gates.islands.filter fun x => x.link != 2).length

/-- SC_STARTUP_TEST_DONE: the test fails where an island has not trained, 500 ms after the start. -/
def startupTest (good : Bool) (d : Device) : Device :=
  let n := d.untrained
  if good && n == 0 then
    (d.onBoot fun x => { x with scPassed := true, untrained := 0 }).onSafety fun x => { x with sc := .uncommissioned }
  else enterFault (d.onBoot fun x => { x with untrained := n })

/-- The test follows warp training (R433): every island has trained, or 500 ms have passed since the start (R437). -/
def Device.testTime (d : Device) : Bool := d.boot.synthLocked && (d.untrained == 0 || decide (ms 500 ≤ d.now))

def execScStartupTestDone (good : Bool) (s : State) : Host.Outcome State Fault Refusal :=
  .next (if s.dev.starting ∧ s.dev.safety.sc = .start ∧ s.dev.testTime then s.onDev (startupTest good) else s)

/-! ## The firmware bank (R450) -/

/-- A bank runs: a trial run stays one until it is accepted. -/
def Firmware.run (b : Bool) (x : Firmware) : Firmware :=
  { x with running := b, trial := x.next == some b || (x.trial && x.running == b) }

/-- The trial bank is tried once: a second start without its STANDBY is a failed trial. -/
def Firmware.tryNext (o : Otp) (x : Firmware) : Option Bool :=
  match x.next with
  | some b => if !x.trialStarted && bankGood o (x.bank b) then some b else none
  | none => none

/-- FW_BANK_SELECT: the bank record in force is its newer copy, and every change of it is written. -/
def bankSelect (o : Otp) (d : Device) : Device :=
  let x := d.fw.loadRecord
  match x.tryNext o with
  | some b =>
    { d with fw := ({ x with trialStarted := true } : Firmware).saveRecord.run b
             boot := { d.boot with bankRuns := true, trialRun := true } }
  | none =>
    let failed := x.next.isSome
    let x := if failed then ({ x with next := none, trialStarted := false } : Firmware).saveRecord else x
    let d := d.onBoot fun y => { y with trialFail := y.trialFail || failed }
    if bankGood o (x.bank x.active) then { d with fw := x.run x.active, boot := { d.boot with bankRuns := true } }
    else if bankGood o (x.bank !x.active) then
      { d with fw := ({ x with active := !x.active } : Firmware).saveRecord.run (!x.active)
               boot := { d.boot with bankRuns := true, bankFallback := true } }
    else enterFault { d with fw := x, boot := { d.boot with noBank := true } }

def execFwBankSelect (s : State) : Host.Outcome State Fault Refusal :=
  .next (if s.dev.starting ∧ s.dev.boot.otpDone ∧ !s.dev.boot.bankRuns then s.onDev (bankSelect s.otp) else s)

/-! ## The firmware starts (R435, R438, R439, R444, R452) -/

/-- The record in force with its safety image. -/
def loadRecord (o : Otp) (d : Device) : Device :=
  match o.inForce with
  | none => d.onBoot fun x => { x with noRecord := true, recordFallback := o.records.any fun r => r.used }
  | some (g, r) =>
    let above := (List.range 8).any fun k => decide (g ≤ k) && (o.records.getD k {}).used
    let d := d.onBoot fun x => { x with recordFallback := above }
    let d := d.onOd fun x => { x with inForce := x.inForce.set 0x200002 r.pairPos, inBeat := x.inForce.set 0x200002 r.pairPos }
    safetyStart r.image (d.onComm fun x => { x with check := r.check, generation := g })

/-- The copy of the settings store that serves: the valid one with the higher sequence number; whether the other is newer. -/
def Flash.copy (f : Flash) : Option (StoreCopy × Bool) :=
  if f.copy0.valid && (!f.copy1.valid || decide (f.copy1.seq < f.copy0.seq)) then
    some (f.copy0, !f.copy1.valid && decide (f.copy0.seq < f.copy1.seq))
  else if f.copy1.valid then some (f.copy1, !f.copy0.valid && decide (f.copy1.seq < f.copy0.seq))
  else none

/-- An object the settings store covers (R438). -/
def storeCovers (key : Nat) : Bool :=
  let ix := key / 256
  !(decide (0x7000 ≤ ix) && decide (ix ≤ 0x7FFF)) && key != 0x200002 &&
    match objFind ix (key % 256) objTable with
    | some (r, _, _) => r.acc == .rws
    | none => false

/-- The settings store. -/
def loadSettings (d : Device) : Device :=
  match d.flash.copy with
  | none => d.onBoot fun x => { x with storeDefaults := true, storeSeq := 0 }
  | some (c, old) =>
    let l := c.entries.filter fun e => storeCovers e.1
    let d := d.onBoot fun x => { x with storeOld := old, storeSeq := c.seq }
    let S := l.foldl (fun S e => S.set e.1 e.2) d.od.inForce
    d.onOd fun x => { x with inForce := S, inBeat := S, points := (l.map Prod.fst).filter curvePoint }

/-- The die map and the actuator positions (R72, R265). -/
def loadDiagnostics (d : Device) : Device :=
  let d := d.each d.flash.dieMap fun e => dieLost e.2 e.1
  { d with acts := d.acts.map fun x => match x.stored with
      | some p => { x with pos := p, homed := true }
      | none => x }

/-- The CAN ports start and send their boot-up messages (R435); one whose crossing has timed out stays absent. -/
def startPorts (d : Device) : Device :=
  let d := d.each [CanPort.canA, .canB, .canC] fun p d =>
    if (d.xing (p.num + 1)).phase = .timedOut then d else d.onCan p fun x => { x with conf := 0, nmt := 127 }
  let d := sendHeartbeat true 0 (sendHeartbeat false 0 d)
  if d.canSend 2 then isoClaim d else d

/-- FW_START: idMatch is the comparison of the identity key (R452). -/
def fwStart (o : Otp) (idMatch : Bool) (d : Device) : Device :=
  let d := loadDiagnostics (loadRecord o (loadSettings (d.onBoot fun x => { x with fwStarted := true })))
  let d := doridStart (d.each (List.range 32) slotSync)
  let d := { d with ctl := { d.ctl with lead := Cfg.pairPosition d.cfg != 2 } }
  let d := d.onBoot fun x => { x with idStatus := if idMatch then 1 else 2, idFail := !idMatch }
  let d := startPorts d
  if d.ctl.state = .boot then calStart (setState .calibrating d) else d

def execFwStart (idMatch : Bool) (s : State) : Host.Outcome State Fault Refusal :=
  .next (if s.dev.starting ∧ s.dev.boot.scPassed ∧ s.dev.boot.bankRuns then s.onDev (fwStart s.otp idMatch) else s)

/-! ## AUTO_READY (R434) -/

/-- AUTO_READY: command READY is taken by the module itself on its first arrival in STANDBY. -/
def execAutoReady (s : State) : Host.Outcome State Fault Refusal :=
  .next (if Cfg.autoReady s.dev.cfg ∧ s.dev.ctl.state = .standby ∧ !s.dev.ctl.firstStandbyDone then
      s.onDev fun d => (cmdReady d).2
    else s)

end Sys2Proof.Machine
end

