-- ==== Sys2Proof/Machine/Drive.lean ====
section
/-!
DEFINITION. The traction ports at tick 0 (chapter 4): engagement, the transitions of Table 4.2, the speed reference, and the
torque reference with its ceilings and shares.
-/

namespace Sys2Proof.Machine

/-! ## Drive request (R112-R114, R130) -/

/-- The follower of a present partner takes its ports' engagement from the lead. -/
def Device.partnerEngaged (d : Device) : PortId → Bool
  | .a => d.ctl.partner.engaged0
  | .b => d.ctl.partner.engaged1

/-- The filtered source value of a beat (R113); it is held while the source is invalid. -/
def curveFilter (p : PortId) (d : Device) : Device :=
  match d.sourceValue p with
  | none => d
  | some v =>
    let t := Cfg.curveFilt d.cfg p
    d.onPort p fun x => { x with
      curveInput := if t = 0 then v else x.curveInput + (v - x.curveInput) / (1000 * (t : Rat)) }

/-- The source becomes invalid or valid (R114); the OD source is judged at its writes and its timeout. -/
def curveValidity (p : PortId) (d : Device) : Device :=
  if Cfg.curveSrc d.cfg p = 0 then d
  else match (if d.forced 0x0402 p.num then none else d.sourceValue p), (d.port p).inputInvalid with
    | none, false => inputLost p d
    | some _, true => inputFound p d
    | _, _ => d

/-- The condition of R113, without its being met afresh. -/
def Device.requestMet (d : Device) (p : PortId) : Bool :=
  let x := d.port p
  if Cfg.curveSrc d.cfg p = 0 then Cfg.driveRequest d.cfg p
  else decide (Cfg.onThr d.cfg p ≤ x.curveInput) || (x.engaged && decide (Cfg.offThr d.cfg p ≤ x.curveInput))

/-- The request may be met afresh from now on (R114). -/
def Device.requestGone (d : Device) (p : PortId) : Bool :=
  if Cfg.curveSrc d.cfg p = 0 then !Cfg.driveRequest d.cfg p else decide ((d.port p).curveInput < Cfg.offThr d.cfg p)

/-- The drive request of a beat, which the lead alone evaluates (R130); RESTART_BLOCK ends with a beat in which it is absent
(R309). -/
def engagement (p : PortId) (d : Device) : Device :=
  let d := if d.leads then curveValidity p (curveFilter p d) else d
  let d := if d.leads && d.requestGone p then d.onPort p fun x => { x with afresh := false } else d
  let x := d.port p
  let on := if d.leads then d.requestMet p && !x.inputInvalid && !x.afresh else d.partnerEngaged p
  let d := d.onPort p fun x => { x with engaged := on }
  if on then d else d.onPsafe p fun x => { x with restartBlock := false }

/-! ## Transitions (Table 4.2) -/

/-- The reaction that bars arming: faults that arming itself clears do not (log entry 21). -/
def Device.barReaction (d : Device) (p : PortId) : Nat :=
  d.faults.active.foldl (fun m e =>
    if e.name.rearmCleared then m else e.acts.foldl (fun m a => if a.1.touches p.stage then max m a.2 else m) m) 0

/-- An F3 acts on a port: by a fault (R25), or by the loss of the lead's frames or of the guy line (R37, R424). -/
def Device.f3On (d : Device) (p : PortId) : Bool := d.ctl.fallbackReady || decide (3 ≤ d.reaction p.stage)

/-- The conditions of DISABLED to ARMED. Of the machine data MACHINE_TYPE alone is tested, as Table 4.2 names no other
(DESIGN CHOICE: R107 speaks of basic machine data; log entry 69). -/
def Device.mayArm (d : Device) (p : PortId) : Bool :=
  (d.ctl.state == .ready || d.ctl.state == .run) && Cfg.machineType d.cfg p != 0 && Cfg.portEnable d.cfg p
    && d.enablePin p.stage.group && p.stage.islands.all (fun i => (d.island i).armed) && !d.portLatched p
    && decide (d.barReaction p < 2) && !d.ctl.fallbackReady && !(d.port p).offsetMeas

/-- A port arms: the faults cleared by "port re-armed" end. -/
def armPort (p : PortId) (d : Device) : Device :=
  let l := d.faults.active.filter fun e => e.name.rearmCleared && e.acts.any fun a => a.1.touches p.stage
  (d.each l fun e => clearFault e.name e.scope).onPort p fun x => { x with state := .armed, stoByRule := false, obsDrop := 0 }

/-- The states in which R111 is evaluated with IDLE_ASC. -/
def ModState.idleAsc : ModState → Bool
  | .standby | .ready | .run | .stopping | .service => true
  | _ => false

/-- ASC with all gates off: the set R29 allows turns on, or ASC_UNAVAILABLE. The result tells whether ASC is taken. -/
def ascTake (p : PortId) (d : Device) : Bool × Device :=
  match d.ascSet p with
  | some upper => (true, (ascTurnOn p upper d).onStage p.stage fun g => { g with order := 3 })
  | none => (false, raise .ascUnavailable (.port p) 4 d)

/-- A DISABLED or ARMED port takes ASC by R111; in SAFE, R27 is applied without IDLE_ASC. -/
def idleAsc (p : PortId) (d : Device) : Device :=
  let r := ascTake p d
  if r.1 then
    let d := r.2.onPort p fun x => { x with state := .asc }
    if d.ctl.state.idleAsc then raise .idleAsc (.port p) 0 d else d
  else r.2

/-- R27 calls for ASC on a DISABLED or ARMED port, in a state in which it is evaluated (R111). -/
def Device.idleAscDue (d : Device) (p : PortId) : Bool :=
  (d.eng p).allOff && (d.ctl.state.idleAsc || d.ctl.state == .safe)
    && (d.wantsAsc p || d.forced 0x0402 p.num)

/-- A port in the states 1-4 takes its safe state; a shutdown the reaction has begun goes on. -/
def portToSafe (rule : Bool) (p : PortId) (d : Device) : Device :=
  let order := (d.stage p.stage).order
  if order = 0 ∨ (d.eng p).allOff then takeSafe rule p d
  else
    let st := if order = 3 then .asc else d.safeState p
    d.onPort p fun x => { x with
      state := st, stop := .none, stopStart := none, stillSince := none, catchStep := 0, reversing := false, obsDrop := 0
      coasting := false, speedReg := false, stoByRule := rule }

/-- Entry to FAULT. -/
def portFault (p : PortId) (d : Device) : Device :=
  let d := match (d.port p).state with
    | .armed | .catching | .running | .stopping => portToSafe false p d
    | _ => d
  d.onPort p fun x => { x with state := .fault, faultAsc := x.state == .asc }

/-- A latched fault in the port's scope, or module state FAULT. -/
def Device.inFault (d : Device) (p : PortId) : Bool := d.portLatched p || d.ctl.state == .fault

/-- In FAULT: the safe state held follows R27 and R29; the port leaves with its last latched fault. -/
def faultBeat (p : PortId) (d : Device) : Device :=
  let x := d.port p
  let off := x.eng.allOff
  let d :=
    if x.faultAsc then
      if off then d.onPort p fun x => { x with faultAsc := false }
      else if (d.stage p.stage).order = 3 ∧ !d.setHeld p x.ascUpper then (portOff p d).onPort p fun x => { x with faultAsc := false }
      else d
    else if off then
      if d.wantsAsc p then
        let r := ascTake p d
        r.2.onPort p fun x => { x with faultAsc := r.1 }
      else d
    else if (d.stage p.stage).order = 3 then d.onPort p fun x => { x with faultAsc := true }
    else d
  if d.inFault p then d else d.onPort p fun x => { x with state := if x.faultAsc then .asc else .sto, faultAsc := false, stoByRule := false }

/-- Entry to CATCHING: the terminal voltages are measured for 2 ms (R119); a catch that follows step 2 of R126 is kept for
R127. -/
def catchBegin (p : PortId) (d : Device) : Device :=
  d.onPort p fun x => { x with
    state := .catching, catchStep := 1, catchStart := some d.now, stoByRule := false, reversing := false, torqueNext := 0
    recatches := (x.recatches.filter fun t => decide (d.now < t + sec 10)) ++ (if x.obsDrop = 3 then [d.now] else [])
    obsDrop := 0
    eng := { x.eng with initDone := false, selecting := false, angleTest := none } }

/-- STO (Table 4.2): ASC where R27 calls for it, catching again after the rules of chapter 4, DISABLED once every cause has
cleared. -/
def stoBeat (p : PortId) (d : Device) : Device :=
  let x := d.port p
  let free := decide (d.barReaction p < 2) && !d.ctl.fallbackReady && !(d.psafe p).sto
  if !x.eng.allOff then
    if (d.stage p.stage).order = 3 then d.onPort p fun x => { x with state := .asc } else d
  else if d.ctl.state != .boot && d.ctl.state != .calibrating && d.wantsAsc p then
    let r := ascTake p d
    if r.1 then r.2.onPort p fun x => { x with state := .asc } else r.2
  else if x.stoByRule && d.ctl.state == .run && x.engaged && free then catchBegin p d
  else if free then d.onPort p fun x => { x with state := .disabled, obsFallback := false, stoByRule := false }
  else d

/-- ASC: a set that can no longer be held on turns off, and R29 chooses anew (its exit by R28 is ASC_EXIT's). -/
def ascBeat (p : PortId) (d : Device) : Device :=
  let x := d.port p
  if x.eng.allOff then d.onPort p fun x => { x with state := .sto }
  else if (d.stage p.stage).order = 3 ∧ !d.setHeld p x.ascUpper then (portOff p d).onPort p fun x => { x with state := .sto }
  else d

/-- DISABLED. -/
def disabledBeat (p : PortId) (d : Device) : Device :=
  if d.idleAscDue p then idleAsc p d
  else if d.mayArm p then armPort p d
  else d

/-- ARMED. -/
def armedBeat (p : PortId) (d : Device) : Device :=
  let x := d.port p
  if d.f3On p || (d.psafe p).sto then portToSafe false p d
  else if d.idleAscDue p then idleAsc p d
  else if !d.mayArm p then d.onPort p fun x => { x with state := .disabled, obsFallback := false }
  else if d.ctl.state == .run && x.engaged && !(d.psafe p).restartBlock then catchBegin p d
  else d

/-- The stop a port is called to: a safety demand before an F2 reaction (R314), the reaction before a command (R110). A
release waits for the end of a shift (R269). -/
def Device.stopCall (d : Device) (p : PortId) : StopCause :=
  if (d.psafe p).ss1 then .ss1
  else if d.reaction p.stage = 2 then .f2
  else if !Cfg.portEnable d.cfg p then .disable
  else if d.ctl.state == .stopping then .command
  else if !(d.port p).engaged && (d.shiftOn p).isNone then .release
  else .none

/-- Order of the stops: a higher one replaces a lower one. -/
def StopCause.rank : StopCause → Nat
  | .none => 0
  | .release => 1
  | .command => 2
  | .disable => 3
  | .f2 => 4
  | .ss1 => 5

/-- A stop begins, or a higher one replaces it (R115, R118, R123): in torque mode every stop but the ordinary one is carried
out under speed regulation, from the present speed. -/
def stopBegin (c : StopCause) (p : PortId) (d : Device) : Device :=
  let torque := Cfg.controlMode d.cfg p == 1
  let coast := c == .release && (torque || Cfg.releaseMode d.cfg p == 1)
  d.onPort p fun x =>
    let preset := !coast && (x.coasting || (torque && !x.speedReg))
    { x with
      state := .stopping, stop := c, stopStart := some d.now, stillSince := none, catchStep := 0, reversing := false
      coasting := coast, speedReg := torque && !coast, speedRef := if preset then x.eng.speed else x.speedRef }

/-- CATCHING (R119-R122). -/
def catchingBeat (p : PortId) (d : Device) : Device :=
  let x := d.port p
  let e := x.eng
  let call := d.stopCall p
  if d.f3On p || (d.psafe p).sto then portToSafe false p d
  else if !e.selecting then
    match call with
    | .ss1 | .f2 => takeSafe false p d
    | .disable | .command => stopEnds .disabled p d
    | .release => stopEnds .armed p d
    | .none =>
      if e.initDone && d.brakeReady p then
        d.onPort p fun x => { x with
          catchStep := if x.reversing then 4 else 5, eng := { x.eng with selecting := true, selStart := some d.now } }
      else d
  else if call != .none then stopBegin call p d
  else
    let slow := decide (ratAbs x.speedRef ≤ (Cfg.catchRevSpeed d.cfg p : Rat) / 100 * Cfg.ratedSpeed d.cfg p)
    let d := d.onPort p fun x => { x with
      reversing := x.reversing && !slow, catchStep := if x.reversing && !slow then 4 else if x.eng.fluxBuild then 3 else 5 }
    let settled := match e.selStart with
      | some t => decide (t + ms 20 ≤ d.now)
      | none => false
    if settled && decide ((Cfg.obsConfMin d.cfg p : Rat) ≤ e.obsConf) && !(d.port p).reversing then
      d.onPort p fun x => { x with state := .running, catchStep := 0, revLoop := false }
    else d

/-- Step 2 of R126 over the beats: T* is 0 in one, the gates turn off in the next. -/
def obsDropBeat (p : PortId) (d : Device) : Device :=
  if (d.port p).obsDrop = 1 then d.onPort p fun x => { x with obsDrop := 2 }
  else if (d.port p).obsDrop = 2 then
    (takeSafe true p d).onPort p fun x => { x with obsDrop := 3, recatchCount := addWrap 16 x.recatchCount 1 }
  else d

/-- RUNNING. -/
def runningBeat (p : PortId) (d : Device) : Device :=
  if d.f3On p || (d.psafe p).sto then portToSafe false p d
  else
    let d := obsDropBeat p d
    if (d.port p).state != .running then d
    else
      let call := d.stopCall p
      if call != .none then stopBegin call p d else d

/-- STOPPING (R110, R115, R123): the ends after standstill and of an F2 stop have rows of their own; a request that returns in
the beat in which standstill has held for 100 ms finds the port ARMED. -/
def stoppingBeat (p : PortId) (d : Device) : Device :=
  if d.f3On p || (d.psafe p).sto then portToSafe false p d
  else
    let d := obsDropBeat p d
    let x := d.port p
    if x.state != .stopping then d
    else
      let call := d.stopCall p
      if x.stop.rank < call.rank then stopBegin call p d
      else if x.stop == .release && call == .none && x.engaged then
        if lasted d.now x.stillSince (ms 100) then stopEnds .armed p d
        else d.onPort p fun x => { x with
          state := .running, stop := .none, stopStart := none, stillSince := none, coasting := false }
      else if x.coasting && x.torqueCmd == 0 then stopEnds .armed p d
      else
        let still := decide (ratAbs x.eng.speed < Cfg.standstillSpeed d.cfg p)
        d.onPort p fun x => { x with stillSince := if still then some (x.stillSince.getD d.now) else none }

/-- What clears with a port's state: IDLE_ASC outside ASC, OBS_LOST with its cause. -/
def portClears (p : PortId) (d : Device) : Device :=
  let x := d.port p
  let on := x.state == .running || x.state == .stopping
  let d := if x.state == .asc then d else clearFault .idleAsc (.port p) d
  if on && decide (x.eng.obsConf < (Cfg.obsConfMin d.cfg p : Rat)) then d else clearFault .obsLost (.port p) d

/-- A port without a motor stays in DISABLED, or returns there with its gates off (R3, R108). -/
def motorlessBeat (p : PortId) (d : Device) : Device :=
  if (d.port p).state == .disabled then d
  else if (d.eng p).allOff then stopEnds .disabled p d
  else if (d.stage p.stage).order = 1 then d
  else portOff p d

/-- PORT_STATE_CHANGE (R109): the transition of a beat. -/
def portBeat (p : PortId) (d : Device) : Device :=
  let d := if (d.stage p.stage).order = 2 ∧ phases.all (fun ph => ((d.eng p).leg ph).pending.isNone) then
    d.onStage p.stage fun g => { g with order := 3 } else d
  let d :=
    if Cfg.machineType d.cfg p = 0 then motorlessBeat p d
    else if d.inFault p && (d.port p).state != .fault then portFault p d
    else match (d.port p).state with
      | .disabled => disabledBeat p d
      | .armed => armedBeat p d
      | .catching => catchingBeat p d
      | .running => runningBeat p d
      | .stopping => stoppingBeat p d
      | .sto => stoBeat p d
      | .asc => ascBeat p d
      | .fault => faultBeat p d
  brakeBeat p (portClears p (d.onPort p fun x => { x with twSpeed := (d.srcWheel p).isSome }))

/-! ## Speed reference (R115, R121, R129, R310-R312) -/

/-- One beat of a ramp: away from 0 at one rate, towards 0 at another, through 0 on a change of sign; rates in rpm/s. -/
def rampStep (ref target up down : Rat) : Rat :=
  if ref * target < 0 then slew ref 0 (down / 1000000)
  else if ratAbs ref < ratAbs target then slew ref target (up / 1000000)
  else slew ref target (down / 1000000)


/-- Limits of the magnitude of the speed reference: SLS, partner-absent. -/
def Device.refCaps (d : Device) (p : PortId) : List Rat :=
  (d.slsRef p).toList ++ (if d.ctl.partnerAbsent then [d.partnerLimit p] else [])

def capAll (caps : List Rat) (v : Rat) : Rat := caps.foldl (fun v c => clampRat (-c) c v) v

/-- SLS, SDI or the partner-absent limit must brake the motor. -/
def Device.mustBrake (d : Device) (p : PortId) : Bool :=
  let x := d.psafe p
  let n := (d.eng p).speed
  ((d.refCaps p).any fun c => decide (c < ratAbs n)) || (x.sdi && !x.sdiMon && x.allowed n != n)

/-- The target of the reference before its limits. -/
def Device.refAim (d : Device) (p : PortId) : Rat :=
  let x := d.port p
  match x.state with
  | .running => if Cfg.controlMode d.cfg p = 1 then x.speedRef else d.refTarget p
  | .catching => if x.reversing then ratSign x.catchSpeed * ((Cfg.catchRevSpeed d.cfg p : Rat) / 100 * Cfg.ratedSpeed d.cfg p)
      else x.speedRef
  | _ => 0

/-- The reference of a port that this module regulates, over one beat. -/
def refBeat (p : PortId) (d : Device) : Device :=
  let x := d.port p
  let s := d.psafe p
  let caps := d.refCaps p
  let aim := s.allowed (capAll caps (d.refAim p))
  let above := caps.any fun c => decide (c < ratAbs x.speedRef)
  let wrong := s.sdi && !s.sdiMon && s.allowed x.speedRef != x.speedRef
  let safe := above || wrong || x.stop == .ss1 || x.stop == .f2
  let down := if safe then Cfg.ss1Decel d.scfg p.num
    else if x.state = .stopping then Cfg.stopDecel d.cfg p else Cfg.decel d.cfg p
  let from_ := if s.sdi && s.sdiMon then s.allowed x.speedRef else x.speedRef
  let moves := match x.state with
    | .running => true
    | .stopping => !x.coasting
    | .catching => x.reversing
    | _ => false
  if !moves then d
  else d.onPort p fun x => { x with
    speedRef := match x.shiftRef with
      | some r => s.allowed (capAll caps r)
      | none => rampStep from_ aim (Cfg.accel d.cfg p) down }

/-- In torque mode a braking by SLS, SDI or the partner-absent limit runs under speed regulation until the speed lies within
the limit (R118). -/
def torqueModeBeat (p : PortId) (d : Device) : Device :=
  let x := d.port p
  if Cfg.controlMode d.cfg p ≠ 1 ∨ x.state ≠ .running then d
  else if d.mustBrake p then
    if x.speedReg then d else d.onPort p fun x => { x with speedReg := true, speedRef := x.eng.speed }
  else d.onPort p fun x => { x with speedReg := false }

/-! ## Torque reference, shares and ceilings (R116-R118, R124, R130) -/

/-- One beat of TORQUE_SLEW, Nm. -/
def Device.torqueStep (d : Device) (p : PortId) : Rat :=
  (Cfg.torqueSlew d.cfg p : Rat) / 100 * Cfg.ratedTorque d.cfg p / 1000

/-- T* of torque mode before its slew and its limits. -/
def Device.torqueAim (d : Device) (p : PortId) : Rat :=
  let pct := if Cfg.curveSrc d.cfg p = 0 then Cfg.torqueRef d.cfg p else d.curveOut p
  (Cfg.direction d.cfg p : Rat) * pct / 100 * Cfg.ratedTorque d.cfg p

/-- The part of T* that takes the speed beyond SPEED_MAX, SLS, the partner-absent limit or SDI is removed (R118). -/
def Device.torqueCut (d : Device) (p : PortId) (t : Rat) : Rat :=
  let x := d.psafe p
  let n := (d.eng p).speed
  let beyond := (Cfg.speedMax d.cfg p :: d.refCaps p).any fun c => decide (c < ratAbs n)
  let raises := decide (0 < t * n)
  let sdi := x.sdi && decide (t * n ≥ 0) && x.allowed t != t
  if (beyond && raises) || sdi then 0 else t

/-- The torque a port's own regulation calls for: from its speed slot, or in torque mode; the slot's held output serves
until it closes, and during steps 2 and 3 of a shift. -/
def Device.ownTorque (d : Device) (p : PortId) : Rat :=
  let x := d.port p
  let slot := d.slot p.num
  let speed := if slot.mode == .closed then x.torqueNext else Config.loopOut p.num slot.output
  match x.state with
  | .running =>
    if x.obsDrop = 2 then 0
    else if !d.speedLoop p then slew x.torqueNext (d.torqueAim p) (d.torqueStep p)
    else speed
  | .stopping => if x.obsDrop = 2 then 0 else if x.coasting then slew x.torqueNext 0 (d.torqueStep p) else speed
  | .catching => if x.eng.selecting && x.revLoop then speed else 0
  | _ => 0

/-- The shares of the two modules of a machine torque (R130): a1 is the share of module 1, per cent. -/
def shares (t a1 c1 c2 : Rat) : Rat × Rat :=
  let t1 := t * a1 / 100
  let t2 := t - t1
  let (t1, t2) := if c1 < ratAbs t1 then (ratSign t1 * c1, t2 + (t1 - ratSign t1 * c1)) else (t1, t2)
  let (t1, t2) := if c2 < ratAbs t2 then (t1 + (t2 - ratSign t2 * c2), ratSign t2 * c2) else (t1, t2)
  (clampRat (-c1) c1 t1, t2)

/-- The share of module 1: SHARE_MODULE1; all of it on the lead alone; during the ramp of R38 from there to 50/50. -/
def Device.share1 (d : Device) (p : PortId) : Rat :=
  let one : Rat := if Cfg.pairPosition d.cfg = 1 then 100 else 0
  if !d.ctl.partnerAbsent then (Cfg.shareModule1 d.cfg p : Rat)
  else match d.ctl.shareRampStart with
    | some t => one + (50 - one) * min 1 (((d.now - t : Nat) : Rat) / 200000000)
    | none => one

/-- The partner's data of a port: share, machine torque and ceiling. -/
def PartnerData.motor (x : PartnerData) : PortId → Rat × Rat × Rat
  | .a => (x.share0, x.machine0, x.ceiling0)
  | .b => (x.share1, x.machine1, x.ceiling1)

/-- The machine torque reference T*_m of a lead: the ceilings of a shift act on it (R130, R270). -/
def Device.machineTorque (d : Device) (p : PortId) : Rat :=
  match d.forkCeil p with
  | some c => clampRat (-c) c (d.ownTorque p)
  | none => d.ownTorque p

/-- Own torque of a port and what the lead sends: machine torque and the partner's share. -/
def Device.torqueSplit (d : Device) (p : PortId) : Rat × Rat × Rat :=
  let t := d.ownTorque p
  let m := d.ctl.partner.motor p
  if !d.leads then
    let drives := match (d.port p).state with
      | .running | .stopping => (d.port p).obsDrop != 2
      | .catching => (d.eng p).selecting
      | _ => false
    (if drives then m.1 else 0, m.2.1, 0)
  else if !d.paired ∨ !d.ctl.partnerPresent ∨ (d.ctl.partnerAbsent ∧ d.ctl.shareRampStart.isNone) then (t, t, 0)
  else
    let t := d.machineTorque p
    let own := (d.port p).ceiling
    if Cfg.pairPosition d.cfg = 1 then
      let r := shares t (d.share1 p) own m.2.2
      (r.1, t, r.2)
    else
      let r := shares t (d.share1 p) m.2.2 own
      (r.2, t, r.1)

/-- Share of the port's current limit by IDIF_HIGH (R104). -/
def Device.idifFactor (d : Device) (p : PortId) : Rat := if d.activeAt .idifHigh (.port p) then 3 / 4 else 1

/-- TORQUE_LIM_MOT or TORQUE_LIM_GEN, Nm, for a torque (R117): generating where torque and speed oppose each other; without
torque or at standstill, where the spec names neither, motoring (DESIGN CHOICE, log entry 69). -/
def Device.baseCeiling (d : Device) (p : PortId) (t : Rat) : Rat :=
  let pct := if t * (d.eng p).speed < 0 then Cfg.torqueLimGen d.cfg p else Cfg.torqueLimMot d.cfg p
  (pct : Rat) / 1000 * Cfg.ratedTorque d.cfg p

/-- The ceilings that are torques of their own: code and Nm (R36, R117, R124, R218, R266-R268). -/
def Device.ownCeilings (d : Device) (p : PortId) (t : Rat) : List (Nat × Rat) :=
  let x := d.port p
  let base := d.baseCeiling p t
  let rated := Cfg.ratedTorque d.cfg p
  let gen := decide (t * x.eng.speed < 0)
  (if (d.psafe p).sto then [(1, 0)] else [])
    ++ (if gen then (if d.supply.conv.linkHigh && !d.safetyBraking p then [(5, 0)] else [])
        else if d.vLink < 950 then [(5, base * clampRat 0 1 ((d.vLink - 900) / 50))] else [])
    ++ (if d.ctl.partnerAbsent then [(11, rated)] else [])
    ++ (if x.locked then [(15, x.lockCeil / 100 * rated)] else [])
    ++ (match x.shiftCeil with
        | some c => [(15, c)]
        | none => [])
    ++ (if d.parkHolds || d.forkHolds p then [(15, 0)] else [])

/-- The arbiter's ceiling of a port (R230). -/
def Device.arbCeilings (d : Device) (p : PortId) : List (Nat × Rat) :=
  let x := d.supply
  let a := match p with
    | .a => (x.arbSrcA, x.arbA)
    | .b => (x.arbSrcB, x.arbB)
  match a.2 with
  | some c => [(a.1, c)]
  | none => []

/-- The share every ceiling is multiplied by (R104, R279, R286, R289). -/
def Device.ceilFactor (d : Device) (p : PortId) : Rat := d.stageLimit p.stage * d.windingFactor p * d.idifFactor p

def lowest (top : Rat) (l : List (Nat × Rat)) : Rat := l.foldl (fun m e => min m e.2) top

/-- The cause with the lowest ceiling below the base, ties to the lower code (R117). -/
def causeOf (base : Rat) (l : List (Nat × Rat)) : Nat :=
  (l.foldl (fun (m : Nat × Rat) e =>
    if e.2 < m.2 ∨ (e.2 = m.2 ∧ e.1 < m.1 ∧ m.1 ≠ 0) then e else m) (0, base)).1

/-- A safety function acts on the port (R117). -/
def Device.safetyActs (d : Device) (p : PortId) : Bool :=
  let s := d.psafe p
  let x := d.port p
  let slsActs := match d.slsRef p with
    | some c => decide (c ≤ ratAbs x.speedRef) || decide (c < ratAbs (d.refAim p))
    | none => false
  let sdiActs := s.sdi && (!s.sdiMon || s.allowed (d.refAim p) != d.refAim p)
  s.sto || s.ss1 || x.stop == .ss1 || slsActs || sdiActs

/-- LIMSRC of a port (R117, R118, R129). -/
def Device.limsrcOf (d : Device) (p : PortId) (t : Rat) (cut : Bool) : Nat :=
  let base := d.baseCeiling p t
  let x := d.port p
  let factors := (d.limitCauses p.stage ++ [(15, d.windingFactor p), (15, d.idifFactor p)]).map fun (e : Nat × Rat) => (e.1, e.2 * base)
  let vlim : List (Nat × Rat) := if x.eng.vlim then [(9, ratAbs x.eng.torque)] else []
  let fast := d.ctl.partnerAbsent && decide (d.partnerLimit p < ratAbs x.eng.speed)
  if d.safetyActs p then 1
  else if fast then 11
  else causeOf base (factors ++ d.ownCeilings p t ++ d.arbCeilings p ++ vlim ++ (if cut then [(10, 0)] else []))

/-- The locked-rotor ceiling slews to LR_HOLD (R124). -/
def lockBeat (p : PortId) (d : Device) : Device :=
  d.onPort p fun x => if x.locked then { x with
    lockCeil := slew x.lockCeil ((Cfg.lrHold d.cfg p : Rat) / 10) ((Cfg.torqueSlew d.cfg p : Rat) / 1000) } else x

/-- T* of a beat: own torque, its share, the ceilings (R116, R117, R130). -/
def torqueBeat (p : PortId) (d : Device) : Device :=
  let d := lockBeat p (torqueModeBeat p d)
  let r := d.torqueSplit p
  let raw := d.ownTorque p
  let mode := (d.port p).state == .running && !d.speedLoop p
  let own := if mode then d.torqueCut p r.1 else r.1
  let k := d.ceilFactor p
  let base := d.baseCeiling p own
  let c0 := k * lowest base (d.ownCeilings p own)
  let c := min c0 (k * lowest base (d.arbCeilings p))
  let src := d.limsrcOf p own (own != r.1)
  let t := clampRat (-c) c own
  let refused := match p with
    | .a => d.supply.refuseA
    | .b => d.supply.refuseB
  let lead := d.leads
  let d := d.onPort p fun x => { x with
    torqueNext := if lead then (if mode || x.coasting then d.torqueCut p raw else raw) else x.torqueNext
    machine := r.2.1, shareOut := r.2.2, share := if lead then r.2.2 else r.1
    torqueReq := clampRat (-c0) c0 own, ceiling := c, torqueCmd := t, limsrc := src, refused := refused
    paLimit := d.ctl.partnerAbsent, eng := { x.eng with tStar := t } }
  if !lead && (d.slot p.num).mode == .opened then
    d.onSlot p.num fun x => { x with output := Config.loopCode p.num r.2.1 }
  else d

/-- Step 6 of a shift (Table 10.3): the ceiling returns at RESTORE_SLEW; the shift is over once it is no longer the
lowest. -/
def shiftRestoreBeat (p : PortId) (d : Device) : Device :=
  match d.forkOf p, (d.port p).shiftCeil with
  | some n, some c =>
    if (d.act n).shift = 6 ∧ (d.act n).shiftRuns then
      let c := c + (Cfg.restoreSlew d.cfg n : Rat) / 100 * Cfg.ratedTorque d.cfg p / 1000
      let d := d.onPort p fun x => { x with shiftCeil := none }
      let own := d.ownTorque p
      if lowest (d.baseCeiling p own) (d.ownCeilings p own) ≤ c then
        shiftOver n d
      else d.onPort p fun x => { x with shiftCeil := some c, shiftRef := none }
    else d
  | _, _ => d


/-- What a port's timed conditions count from (R28, R123-R125). -/
def portTimes (p : PortId) (d : Device) : Device :=
  d.onPort p fun x =>
    let asc := x.state == .asc || (x.state == .fault && x.faultAsc)
    let on := x.state == .running || x.state == .stopping
    let f2 := x.state == .stopping && x.stop == .f2
    { x with
      ascOkSince := since d.now (asc && d.ascExitOk p) x.ascOkSince
      slowSince := since d.now (f2 && decide (ratAbs (d.portSpeed p) < Cfg.ss1Standstill d.scfg p.num)) x.slowSince
      lrAboveSince := since d.now (on && d.lrAbove p) x.lrAboveSince
      lrBelowSince := since d.now (on && d.lrBelow p) x.lrBelowSince }

/-- References and torque of a port over one beat. -/
def driveBeat (p : PortId) (d : Device) : Device :=
  let d := shiftRestoreBeat p d
  portTimes p (torqueBeat p (if d.leads then refBeat p d else d))

end Sys2Proof.Machine
end

