-- ==== Sys2Proof/Machine/Beat.lean ====
section
/-!
DEFINITION. BEAT_START: what happens at tick 0 of every beat (R13, R18): module time, pins, settings, the fast-path latch,
causes that have ended, the inputs, references and torque, and the states of ports and module.
-/

namespace Sys2Proof.Machine

/-! ## Time, pins, settings (R13, R22, R66, R105, R384) -/

/-- Module time goes on to the next multiple of 1 us. -/
def beatTime (d : Device) : Device := { d with ctl := { d.ctl with now := (d.ctl.now / 1000 + 1) * 1000 } }

/-- An enable pin as sampled; the islands show its level. -/
def samplePin (e : EnableGroup) (v : Bool) (d : Device) : Device :=
  if d.enablePin e == v then d
  else (setEnable e v d).each (groupIslands e) fun i => Device.onIsland i fun x => { x with enable := v }

/-- The pins of a beat. -/
def beatPins (b : BeatInput) (d : Device) : Device :=
  let d := if d.ctl.serviceNLow && !b.serviceNLow then serviceHigh d else d
  let d := samplePin .enAux b.enAux (samplePin .enConv b.enConv (samplePin .enB b.enB (samplePin .enA b.enA d)))
  { d with ctl := { d.ctl with serviceNLow := b.serviceNLow, pairOkIn := b.pairOkIn, fabricSpeed := b.fabricPct
                               pairStoIn := d.ctl.pairStoIn && b.pairStoIn } }

/-- Live writes come into force (R384); the control plane reads the settings of the beat (R13). -/
def takeLive (d : Device) : Device :=
  d.onOd fun x =>
    let S := x.live.foldl (fun (S : Settings) e => Settings.set S e.1 e.2) x.inForce
    { x with inForce := S, inBeat := S, live := [] }

/-- The newest frame of the partner serves from this beat (R105); module 2 yields the lead to a partner that claims it too
(R34); a partner that was lost at a commit counts again once its identity agrees (R403). -/
def takePartner (d : Device) : Device :=
  let d := match d.ctl.partnerNext with
    | some x =>
      let both := d.ctl.lead && x.lead && Cfg.pairPosition d.cfg == 2
      let d := if both then d.each ports giveSpeed else d
      { d with
        ctl := { d.ctl with partner := x, partnerNext := none, extrapEnded := false, lead := d.ctl.lead && !both }
        od := { d.od with partnerId := x.settingsId } }
    | none => d
  if d.paired && (d.ctl.identityLost || d.active .commitMissed) && d.sameIdentity then
    clearFault .commitMissed .module { d with ctl := { d.ctl with identityLost := false } }
  else d

/-- The partner counts as present (R32): PAIR_OK_IN high and a valid frame within 30 us; its loss has rows of its own. -/
def partnerSeen (d : Device) : Device :=
  let fresh := match d.ctl.lastGuy with
    | some t => decide (d.now < t + 30000)
    | none => false
  if d.paired && d.ctl.pairOkIn && fresh && !d.ctl.identityLost then
    { d with ctl := { d.ctl with partnerPresent := true } }
  else d

/-- The partner's flux is used in this beat (R32, R105): the partner is present and its flux not extrapolated to the end. -/
def pairFluxBeat (d : Device) : Device :=
  { d with ctl := { d.ctl with pairFlux := d.paired && d.ctl.partnerPresent && !d.ctl.extrapEnded } }

/-- A follower's time comes from its lead; with neither it runs free (R361). -/
def timeRole (d : Device) : Device :=
  if d.net.time.role = 4 ∧ !d.timeFromPartner then
    { d with net := { d.net with time := { d.net.time with role := 0, refAt := d.now } } }
  else d

/-- Stale frames leave the queues of a port in bus-off (R357). -/
def busOffBeat (d : Device) : Device :=
  d.each [.canA, .canB, .canC] fun p d => if (d.canPort p).conf = 2 then purgeStale p d else d

/-! ## The latch at tick 0 (R78, R79, R158) -/

/-- Every channel whose evaluations have come is latched. -/
def latchAll (evals : List BitStream) (d : Device) : Device :=
  d.each (evals.map fun w => w.ch.val) fun m d' =>
    let v := d.fastAt 0 evals m
    d'.onMchan m fun c => { c with latched := v.1, latchedOk := v.2 }

/-- First phase-current channel of a port. -/
def phaseChan : PortId → Nat
  | .a => 0
  | .b => 3

/-- The engine's inputs of a beat. -/
def latchPort (p : PortId) (d : Device) : Device :=
  let k := phaseChan p
  let i := (d.latchedVal k, d.latchedVal (k + 1), d.latchedVal (k + 2))
  let ok := [k, k + 1, k + 2, 6, 7, 8].all fun m => (d.mchan m).latchedOk
  let lo := d.latchedVal 8
  d.onEng p fun e => Engine.testPeak { e with
    iPrev := e.iNow, iPhase := i, iNow := clarke i.1 i.2.1 i.2.2, fastValid := ok, vLo := lo, vUp := d.vLink - lo
    npDev := d.vLink - lo - lo }

/-- The levels a phase passed through in the beat that has ended; what falls after it stays with the present beat (R78). -/
def levelsBeat (p : PortId) (d : Device) : Device :=
  d.onEng p fun e =>
    let done := e.changesNow.filter fun c => decide (c.2.1 < 400)
    let rest := (e.changesNow.filter fun c => decide (400 ≤ c.2.1)).map fun (c : Nat × Nat × PhaseLevel) => (c.1, c.2.1 - 400, c.2.2)
    { e with
      lvlPrev := e.changes.foldl (fun (l : List PhaseLevel) (c : Nat × Nat × PhaseLevel) => l.set c.1 c.2.2) e.lvlPrev
      changes := done, changesNow := rest }

/-! ## Conditions whose duration counts -/

/-- The conditions that rules judge by their duration. -/
def Device.watched (d : Device) : List (Watch × Bool) :=
  let c := d.supply.conv
  let x := d.supply.aux
  [(.linkDisagree, d.linkDisagrees), (.linkUv, d.ctl.state == .run && decide (d.linkSeen < 850)),
    (.linkOv, decide (1650 < d.linkHighSeen)), (.linkDisch, decide (1680 < d.vLinkHigh)),
    (.linkTrip, decide (1720 < d.linkHighSeen)), (.bus54Ov, d.busOver), (.bus54Uv, d.busUnder),
    (.convShed, c.running && decide (d.convWanted < c.count)), (.auxShed, x.running && decide (d.auxWanted < x.count)),
    (.batauxOc, d.supply.backup.diodeOn && d.batauxOver), (.gridAccept, d.acceptable), (.chargeEnd, d.chargeDone),
    (.tbatLost, d.tbatGone), (.bchgRestart, d.trickleLow), (.bchgNoCurrent, d.bchgNoCurrent),
    (.batauxGone, !d.bchgOn && decide (d.fineVal 27 < 9)), (.batauxBack, !d.bchgOn && decide (9 ≤ d.fineVal 27)),
    (.readyLow, d.ctl.state == .ready && decide (d.vLink < 900)), (.pairOkLow, !d.ctl.pairOkIn),
    (.npWarn, d.anySelecting && d.npAbove (1 / 2)), (.npHigh, d.anySelecting && d.npAbove 1)]
    ++ ports.map (fun p => (Watch.idif p, d.idifAbove p)) ++ ports.map (fun p => (Watch.diverge p, d.fluxAbove p))
    ++ [0, 1, 2, 3].map (fun n => (Watch.twPlaus n, d.implausible n))
    ++ [0, 1, 2, 3].map (fun n => (Watch.actStall n, d.actPushes n))
    ++ [0, 1, 2, 3].map (fun n => (Watch.burden n, d.burdenOver n))
    ++ ([GridCheck.linkLow, .uv, .uvDeep, .ov, .ovPeak, .freq, .unbal].map fun c => (Watch.grid c, d.gridBad c))
    ++ (ports.map fun p => (Watch.dwell p, d.dwellAbove p))
    ++ (ports.map fun p => (Watch.isum p, d.gatesSwitch p && d.isumAbove p))
    ++ ([0, 1, 2].map fun n => (Watch.fcDev n, (c.phases.getD n {}).active
        && d.fcOut n))

/-- A condition that holds keeps the time since which it has held; one that does not is dropped. -/
def watchBeat (d : Device) : Device :=
  { d with watch := d.watched.filterMap fun e => if e.2 then some (e.1, (d.watch.lookup e.1).getD d.now) else none }

/-! ## Causes that have ended (R26) -/

/-- A cause outside this block has ended: the phase error of the grid lock, the level of a wheel input; a safety output's
read-back that has been healthy for 1 s waits for a reset (R315). -/
def causeEnded (e : FaultName × Scope) (d : Device) : Device :=
  match e with
  | (.soFault, .output n) => if (d.sout n).fault then d.onSout n fun x => { x with healthy := true } else d
  | (.gridPll, sc) => clearFault .gridPll sc d
  | (.twSignal, sc) => clearFault .twSignal sc d
  | _ => d

/-- No channel of a stage is in lock-out. -/
def Device.noneLocked (d : Device) (sg : StageGroup) : Bool :=
  (sg.islands.flatMap islandChans).all fun g => !(d.chan g).locked

/-- The cause of an unlatched fault has ended, for those that clear with it and whose cause this block holds (R26). -/
def Device.causeGone (d : Device) (f : FaultName) (sc : Scope) : Bool :=
  match f, sc with
  | .actBoot, _ => d.noneLocked .act
  | .bootUv, _ => d.noneLocked .llcSec
  | .auxPhaseShed, _ => d.noneLocked .aux
  | .idifHigh, .port p => !d.idifAbove p
  | .npDevWarn, _ => !d.npAbove (1 / 2)
  | .gridUv, _ => !d.gridBad .uv && !d.gridBad .uvDeep
  | .gridOv, _ => !d.gridBad .ov && !d.gridBad .ovPeak
  | .gridFreq, _ => !d.gridBad .freq
  | .gridUnbal, _ => !d.gridBad .unbal
  | .gridLinkLow, _ => !d.gridBad .linkLow
  | .platTimeout, .channel g => decide (((d.chan g).platTimes.filter fun t => decide (d.now < t + sec 1)).length < 64)
  | .reedSaturated, .channel g => (d.chan g).satSince.isNone
  | _, _ => false

/-- Causes this block sees itself: those of R26; the link, the bus and single events, in SAFE; LINK_UV; a duplicate time rank. -/
def clearsBeat (d : Device) : Device :=
  let d := d.each d.faults.active fun e d => if d.causeGone e.name e.scope then clearFault e.name e.scope d else d
  let d := if (48 ≤ d.fastVal 23 ∧ !d.busUnder) ∨ !d.supply.llc.running then safeExitClear .bus54Uv .module d else d
  let d := if d.linkHighSeen ≤ 1720 then safeExitClear .linkTrip .module d else d
  let d := if d.linkDisagrees then d else safeExitClear .linkDisagree .module d
  let d := safeExitClear .llcRetry .module (safeExitClear .seqInterlock .module d)
  let d := if 850 ≤ d.linkSeen ∨ (d.ctl.state ≠ .run ∧ d.ctl.state ≠ .stopping) then clearFault .linkUv .module d else d
  match d.net.time.dupSeen with
  | some t => if t + sec 1 ≤ d.now then clearFault .timeRankDup .module d else d
  | none => d

/-! ## Wheels and the insulation monitor (R144, R145, R151) -/

def wheelsBeat (d : Device) : Device :=
  d.each [0, 1, 2, 3] fun n d => wheelBeat n (d.onWheel n (Wheel.passTake (Cfg.passMode d.cfg n)))


/-! ## Module state (Table 1.6) -/

/-- A port holds no torque: DISABLED, STO or ASC. -/
def Device.portDone (d : Device) (p : PortId) : Bool :=
  match (d.port p).state with
  | .disabled | .sto | .asc => true
  | _ => false

/-- The F4 cause is classed permanent (R297, R443). -/
def Device.permanentCause (d : Device) : Bool :=
  d.active .scFail || d.active .scWdog || d.active .stoReadback || d.active .otpIntegrity

/-- All ports of the returned partner are RUNNING, of those that drive a motor: the shares may return to 50/50 (R38, step 4). -/
def Device.rejoined (d : Device) : Bool :=
  d.ctl.lead && d.ctl.partnerAbsent && d.ctl.partnerPresent && d.ctl.shareRampStart.isNone
    && d.ctl.partner.state == ModState.run.code
    && (Cfg.machineType d.cfg .a == 0 || d.ctl.partner.portState0 == 3)
    && (Cfg.machineType d.cfg .b == 0 || d.ctl.partner.portState1 == 3)

/-- The module's own transitions of a beat. -/
def moduleBeat (d : Device) : Device :=
  let done := d.portDone .a && d.portDone .b
  let d := if d.rejoined then { d with ctl := { d.ctl with shareRampStart := some d.now } } else d
  match d.ctl.state with
  | .safe => if d.permanentCause then enterFault d else d
  | .stopping => if done then setState .ready d else d
  | .run => if d.ctl.fallbackReady && done then { setState .ready d with ctl := { (setState .ready d).ctl with fallbackReady := false } }
      else d
  | _ => d

/-! ## The beat -/

/-- Inputs of a beat, before anything is evaluated. -/
def beatInputs (b : BeatInput) (d : Device) : Device :=
  let d := timeRole (pairFluxBeat (partnerSeen (takePartner (takeLive (beatPins b (beatTime d))))))
  let d := watchBeat (latchAll b.evals (busOffBeat d))
  d.each ports fun p d => emfBeat p (levelsBeat p (latchPort p d))

/-- What the gate islands do at tick 0: a command that waited for its hold phase has been carried out (R50), a silent island
begins its training (R58), reed results reach their output tick (R14), and the waiting setting writes go out in the four frames of
the beat (R54). -/
def gatesBeat (d : Device) : Device :=
  let l := d.gates.islands.mapIdx fun i x => ((if x.link = 3 then x.train else x).beat (stageOfIsland i) d.now).serveAll
  countRetry 7 (l.map fun x => x.writes.length).sum { d with gates := { d.gates with islands := l } }

/-- What the blocks beside the ports do once a beat. -/
def beatBlocks (d : Device) : Device :=
  let d := fwBeat (isoBeat (wheelsBeat (gatesBeat d)))
  let d := bchgBeat (chargeBeat (supplyBeat d))
  d.each [0, 1, 2, 3] actBeat

/-- BEAT_START. -/
def beat (b : BeatInput) (d : Device) : Device :=
  let d := clearsBeat ((beatInputs b d).each b.ended causeEnded)
  let d := beatBlocks d
  let d := (d.each ports engagement).each ports portBeat
  let d := slotBeat (d.each ports driveBeat)
  moduleBeat (sliceSettle d)

def execBeatStart (b : BeatInput) (s : State) : Host.Outcome State Fault Refusal :=
  .next (if s.dev.ctl.state = .off ∨ s.dev.cross.timebaseStopped then s else s.onDev (beat b))

end Sys2Proof.Machine
end

