-- ==== Sys2Proof/Machine/Dispatch.lean ====
section
/-!
DEFINITION. One arm per command: a direct call of its meaning.
-/

namespace Sys2Proof.Machine

/-- The effect of a command on everything but the queue. -/
def exec (i : Instr) (s : State) : Host.Outcome State Fault Refusal :=
  match i with
  | .logicInRise => Sys2Proof.Machine.execLogicInRise s
  | .logicInLoss => Sys2Proof.Machine.execLogicInLoss s
  | .coreSupply => Sys2Proof.Machine.execCoreSupply s
  | .beatStart b => Sys2Proof.Machine.execBeatStart b s
  | .tractionDecision p ticks => Sys2Proof.Machine.execTractionDecision p ticks s
  | .outputTick p => Sys2Proof.Machine.execOutputTick p s
  | .overrun c => Sys2Proof.Machine.execOverrun c s
  | .lateResultDiscard c => Sys2Proof.Machine.execLateResultDiscard c s
  | .deadTTurnOn p ph => Sys2Proof.Machine.execDeadTTurnOn p ph s
  | .moduleCmdReady path => Sys2Proof.Machine.execModuleCmdReady path s
  | .moduleCmdRun path => Sys2Proof.Machine.execModuleCmdRun path s
  | .moduleCmdStop path => Sys2Proof.Machine.execModuleCmdStop path s
  | .moduleCmdStandby path => Sys2Proof.Machine.execModuleCmdStandby path s
  | .moduleCmdService path => Sys2Proof.Machine.execModuleCmdService path s
  | .moduleCmdLeaveService path => Sys2Proof.Machine.execModuleCmdLeaveService path s
  | .moduleCmdHandover path => Sys2Proof.Machine.execModuleCmdHandover path s
  | .moduleCmdReset path => Sys2Proof.Machine.execModuleCmdReset path s
  | .moduleCmdClearOverrun path => Sys2Proof.Machine.execModuleCmdClearOverrun path s
  | .linkLowInReady => Sys2Proof.Machine.execLinkLowInReady s
  | .serviceNHigh => Sys2Proof.Machine.execServiceNHigh s
  | .faultReport f sc r => Sys2Proof.Machine.execFaultReport f sc r s
  | .f2Escalation p => Sys2Proof.Machine.execF2Escalation p s
  | .ascExit p => Sys2Proof.Machine.execAscExit p s
  | .guyFrameTx => Sys2Proof.Machine.execGuyFrameTx s
  | .guyFrameRx tick bytes fcsOk => Sys2Proof.Machine.execGuyFrameRx tick bytes fcsOk s
  | .partnerFluxExtrapEnd => Sys2Proof.Machine.execPartnerFluxExtrapEnd s
  | .partnerAbsent late => Sys2Proof.Machine.execPartnerAbsent late s
  | .guyFrameTimeoutFollower late => Sys2Proof.Machine.execGuyFrameTimeoutFollower late s
  | .pairStoInHigh => Sys2Proof.Machine.execPairStoInHigh s
  | .handoverTime => Sys2Proof.Machine.execHandoverTime s
  | .handoverAbort late => Sys2Proof.Machine.execHandoverAbort late s
  | .joinTime => Sys2Proof.Machine.execJoinTime s
  | .shareRampDone => Sys2Proof.Machine.execShareRampDone s
  | .gateCommand isl cmds frame tick obs => Sys2Proof.Machine.execGateCommand isl cmds frame tick obs s
  | .platTimeout g => Sys2Proof.Machine.execPlatTimeout g s
  | .gateUvLockout g neg => Sys2Proof.Machine.execGateUvLockout g neg s
  | .gateUvRelease g neg => Sys2Proof.Machine.execGateUvRelease g neg s
  | .warpFrame isl f crcOk => Sys2Proof.Machine.execWarpFrame isl f crcOk s
  | .warpAckTimeout isl frame => Sys2Proof.Machine.execWarpAckTimeout isl frame s
  | .safePresetUpdate => Sys2Proof.Machine.execSafePresetUpdate s
  | .warpSilent isl late => Sys2Proof.Machine.execWarpSilent isl late s
  | .presetClassBOff isl => Sys2Proof.Machine.execPresetClassBOff isl s
  | .presetClassCOn isl => Sys2Proof.Machine.execPresetClassCOn isl s
  | .innerTurnOff leg => Sys2Proof.Machine.execInnerTurnOff leg s
  | .islandTrained isl => Sys2Proof.Machine.execIslandTrained isl s
  | .islandRearm isl => Sys2Proof.Machine.execIslandRearm isl s
  | .desatBlankEnd g => Sys2Proof.Machine.execDesatBlankEnd g s
  | .desatDetect g tick => Sys2Proof.Machine.execDesatDetect g tick s
  | .didtDetect g tick => Sys2Proof.Machine.execDidtDetect g tick s
  | .softTEnd isl tick => Sys2Proof.Machine.execSoftTEnd isl tick s
  | .enableLow e => Sys2Proof.Machine.execEnableLow e s
  | .enableRise e lowNs still => Sys2Proof.Machine.execEnableRise e lowNs still s
  | .reedUpdate => Sys2Proof.Machine.execReedUpdate s
  | .reedSaturated g => Sys2Proof.Machine.execReedSaturated g s
  | .gateLeakWindow high unmeasured => Sys2Proof.Machine.execGateLeakWindow high unmeasured s
  | .dieRetest path => Sys2Proof.Machine.execDieRetest path s
  | .dieRetestDone passed => Sys2Proof.Machine.execDieRetestDone passed s
  | .fswLimiter p => Sys2Proof.Machine.execFswLimiter p s
  | .fswDwellExt p => Sys2Proof.Machine.execFswDwellExt p s
  | .vlimEnter p => Sys2Proof.Machine.execVlimEnter p s
  | .vlimExit p => Sys2Proof.Machine.execVlimExit p s
  | .npDevWarn => Sys2Proof.Machine.execNpDevWarn s
  | .npDevHigh => Sys2Proof.Machine.execNpDevHigh s
  | .fluxBuildFail p => Sys2Proof.Machine.execFluxBuildFail p s
  | .angleTestPulseEnd p => Sys2Proof.Machine.execAngleTestPulseEnd p s
  | .angleTestPauseEnd p => Sys2Proof.Machine.execAngleTestPauseEnd p s
  | .idifHigh p => Sys2Proof.Machine.execIdifHigh p s
  | .fluxDiverge p => Sys2Proof.Machine.execFluxDiverge p s
  | .draftRestore path p => Sys2Proof.Machine.execDraftRestore path p s
  | .obsRepeat p => Sys2Proof.Machine.execObsRepeat p s
  | .driveRequestWrite path p v => Sys2Proof.Machine.execDriveRequestWrite path p v s
  | .speedInputWrite path p v => Sys2Proof.Machine.execSpeedInputWrite path p v s
  | .speedInputTimeout p late => Sys2Proof.Machine.execSpeedInputTimeout p late s
  | .finTimeout late => Sys2Proof.Machine.execFinTimeout late s
  | .finEdge period => Sys2Proof.Machine.execFinEdge period s
  | .catchWindowEnd p => Sys2Proof.Machine.execCatchWindowEnd p s
  | .catchFail p => Sys2Proof.Machine.execCatchFail p s
  | .standstillHeld p => Sys2Proof.Machine.execStandstillHeld p s
  | .stopTimeout p late => Sys2Proof.Machine.execStopTimeout p late s
  | .f2StopEnd p => Sys2Proof.Machine.execF2StopEnd p s
  | .lockedRotor p => Sys2Proof.Machine.execLockedRotor p s
  | .lockedClear p => Sys2Proof.Machine.execLockedClear p s
  | .terminalSpeedUpdate p => Sys2Proof.Machine.execTerminalSpeedUpdate p s
  | .twEdge n start runs => Sys2Proof.Machine.execTwEdge n start runs s
  | .twPulseEnd n start runs => Sys2Proof.Machine.execTwPulseEnd n start runs s
  | .twZeroTimeout n late => Sys2Proof.Machine.execTwZeroTimeout n late s
  | .twSignal n => Sys2Proof.Machine.execTwSignal n s
  | .twPlaus n => Sys2Proof.Machine.execTwPlaus n s
  | .fastWordPublish streams => Sys2Proof.Machine.execFastWordPublish streams s
  | .compExit ch eval streams => Sys2Proof.Machine.execCompExit ch eval streams s
  | .fineResultPublish ch clock clocks => Sys2Proof.Machine.execFineResultPublish ch clock clocks s
  | .fineResultRead path ch => Sys2Proof.Machine.execFineResultRead path ch s
  | .muxVisitEnd => Sys2Proof.Machine.execMuxVisitEnd s
  | .selfCal path => Sys2Proof.Machine.execSelfCal path s
  | .calibrationDone m => Sys2Proof.Machine.execCalibrationDone m s
  | .offsetRemeasureStart p => Sys2Proof.Machine.execOffsetRemeasureStart p s
  | .offsetRemeasureDone p offsets => Sys2Proof.Machine.execOffsetRemeasureDone p offsets s
  | .modFail ch clocks => Sys2Proof.Machine.execModFail ch clocks s
  | .modFailClear ch clocks => Sys2Proof.Machine.execModFailClear ch clocks s
  | .linkDisagree => Sys2Proof.Machine.execLinkDisagree s
  | .isum p => Sys2Proof.Machine.execIsum p s
  | .testvSliceStart ch => Sys2Proof.Machine.execTestvSliceStart ch s
  | .testvSliceEnd plus minus => Sys2Proof.Machine.execTestvSliceEnd plus minus s
  | .testvSliceAbort => Sys2Proof.Machine.execTestvSliceAbort s
  | .isoResult r c => Sys2Proof.Machine.execIsoResult r c s
  | .isoResume => Sys2Proof.Machine.execIsoResume s
  | .slotSample k evals => Sys2Proof.Machine.execSlotSample k evals s
  | .slotOutputApply k => Sys2Proof.Machine.execSlotOutputApply k s
  | .slotOverrun k => Sys2Proof.Machine.execSlotOverrun k s
  | .compInput k => Sys2Proof.Machine.execCompInput k s
  | .slotCmdOpen path k => Sys2Proof.Machine.execSlotCmdOpen path k s
  | .slotCmdClose path k => Sys2Proof.Machine.execSlotCmdClose path k s
  | .supplyCmdStart path => Sys2Proof.Machine.execSupplyCmdStart path s
  | .supplyCmdStop path => Sys2Proof.Machine.execSupplyCmdStop path s
  | .linkPrechargeConfirmed => Sys2Proof.Machine.execLinkPrechargeConfirmed s
  | .llcSoftStartDone => Sys2Proof.Machine.execLlcSoftStartDone s
  | .fcPrechargeDone n => Sys2Proof.Machine.execFcPrechargeDone n s
  | .fcPrechargeFail n late => Sys2Proof.Machine.execFcPrechargeFail n late s
  | .linkRampDone => Sys2Proof.Machine.execLinkRampDone s
  | .convCarrierPeak n => Sys2Proof.Machine.execConvCarrierPeak n s
  | .convFcDev n => Sys2Proof.Machine.execConvFcDev n s
  | .convPhaseShed => Sys2Proof.Machine.execConvPhaseShed s
  | .convPhaseReturn => Sys2Proof.Machine.execConvPhaseReturn s
  | .overloadAccountFull => Sys2Proof.Machine.execOverloadAccountFull s
  | .batLimitWrite path l v => Sys2Proof.Machine.execBatLimitWrite path l v s
  | .batLimitsStale late => Sys2Proof.Machine.execBatLimitsStale late s
  | .linkUv => Sys2Proof.Machine.execLinkUv s
  | .linkHigh => Sys2Proof.Machine.execLinkHigh s
  | .dischargeOn => Sys2Proof.Machine.execDischargeOn s
  | .dischargeOff => Sys2Proof.Machine.execDischargeOff s
  | .linkTrip => Sys2Proof.Machine.execLinkTrip s
  | .linkDischarge path => Sys2Proof.Machine.execLinkDischarge path s
  | .linkDischHot => Sys2Proof.Machine.execLinkDischHot s
  | .bus54Ov => Sys2Proof.Machine.execBus54Ov s
  | .bus54Uv => Sys2Proof.Machine.execBus54Uv s
  | .llcRestart => Sys2Proof.Machine.execLlcRestart s
  | .auxVSetWrite path v => Sys2Proof.Machine.execAuxVSetWrite path v s
  | .syncInEdge stamp => Sys2Proof.Machine.execSyncInEdge stamp s
  | .auxSynclost edge => Sys2Proof.Machine.execAuxSynclost edge s
  | .auxShedLightLoad => Sys2Proof.Machine.execAuxShedLightLoad s
  | .auxPhaseAdd => Sys2Proof.Machine.execAuxPhaseAdd s
  | .auxLoadStep => Sys2Proof.Machine.execAuxLoadStep s
  | .auxShedHoldEnd => Sys2Proof.Machine.execAuxShedHoldEnd s
  | .idealDiodeOn => Sys2Proof.Machine.execIdealDiodeOn s
  | .idealDiodeOff => Sys2Proof.Machine.execIdealDiodeOff s
  | .batauxOc => Sys2Proof.Machine.execBatauxOc s
  | .batauxRetry => Sys2Proof.Machine.execBatauxRetry s
  | .batauxLow => Sys2Proof.Machine.execBatauxLow s
  | .powerArbitration => Sys2Proof.Machine.execPowerArbitration s
  | .bus54Grant => Sys2Proof.Machine.execBus54Grant s
  | .chgCmdStart path => Sys2Proof.Machine.execChgCmdStart path s
  | .chgCmdStop path => Sys2Proof.Machine.execChgCmdStop path s
  | .chgCmdRearm path => Sys2Proof.Machine.execChgCmdRearm path s
  | .gridVUpdate f => Sys2Proof.Machine.execGridVUpdate f s
  | .gridAcceptance => Sys2Proof.Machine.execGridAcceptance s
  | .gridSupplyCheckFail c => Sys2Proof.Machine.execGridSupplyCheckFail c s
  | .pllLocked => Sys2Proof.Machine.execPllLocked s
  | .pllLockTimeout late => Sys2Proof.Machine.execPllLockTimeout late s
  | .gridRestart => Sys2Proof.Machine.execGridRestart s
  | .chargeComplete => Sys2Proof.Machine.execChargeComplete s
  | .chgWdRefresh path v => Sys2Proof.Machine.execChgWdRefresh path v s
  | .chgISetWrite path v => Sys2Proof.Machine.execChgISetWrite path v s
  | .chgVSetWrite path v => Sys2Proof.Machine.execChgVSetWrite path v s
  | .chgWdExpired refresh => Sys2Proof.Machine.execChgWdExpired refresh s
  | .tbatLost => Sys2Proof.Machine.execTbatLost s
  | .batauxTempRead r => Sys2Proof.Machine.execBatauxTempRead r s
  | .batauxDead => Sys2Proof.Machine.execBatauxDead s
  | .bchgRestartFast => Sys2Proof.Machine.execBchgRestartFast s
  | .bchgFastEnd c => Sys2Proof.Machine.execBchgFastEnd c s
  | .bchgSafetyTimerExpiry endSeen => Sys2Proof.Machine.execBchgSafetyTimerExpiry endSeen s
  | .bchgCeilingTimerExpiry endSeen => Sys2Proof.Machine.execBchgCeilingTimerExpiry endSeen s
  | .batauxLost => Sys2Proof.Machine.execBatauxLost s
  | .batauxPresent => Sys2Proof.Machine.execBatauxPresent s
  | .bchgCmdForceFast path => Sys2Proof.Machine.execBchgCmdForceFast path s
  | .bchgCmdRearm path => Sys2Proof.Machine.execBchgCmdRearm path s
  | .lampOc fault => Sys2Proof.Machine.execLampOc fault s
  | .lampRetry fault still => Sys2Proof.Machine.execLampRetry fault still s
  | .lampTestEnd => Sys2Proof.Machine.execLampTestEnd s
  | .hallEdge n h => Sys2Proof.Machine.execHallEdge n h s
  | .hallFault n => Sys2Proof.Machine.execHallFault n s
  | .actOcRecover n => Sys2Proof.Machine.execActOcRecover n s
  | .actCmdTarget path n k => Sys2Proof.Machine.execActCmdTarget path n k s
  | .actCmdHome path n => Sys2Proof.Machine.execActCmdHome path n s
  | .actCmdStop path n => Sys2Proof.Machine.execActCmdStop path n s
  | .actStallDetect n => Sys2Proof.Machine.execActStallDetect n s
  | .actTimeout n endStop => Sys2Proof.Machine.execActTimeout n endStop s
  | .diffWaitTimeout n late => Sys2Proof.Machine.execDiffWaitTimeout n late s
  | .shiftSyncReached n => Sys2Proof.Machine.execShiftSyncReached n s
  | .shiftStepTimeout n late => Sys2Proof.Machine.execShiftStepTimeout n late s
  | .actPauseEnd n => Sys2Proof.Machine.execActPauseEnd n s
  | .actThermalUpdate n => Sys2Proof.Machine.execActThermalUpdate n s
  | .dieTempEval temps => Sys2Proof.Machine.execDieTempEval temps s
  | .dieOt g => Sys2Proof.Machine.execDieOt g s
  | .dieOtIslandPreset isl => Sys2Proof.Machine.execDieOtIslandPreset isl s
  | .dieOtCooldown sg again => Sys2Proof.Machine.execDieOtCooldown sg again s
  | .ctrlTjUpdate a b => Sys2Proof.Machine.execCtrlTjUpdate a b s
  | .ctrlTsense => Sys2Proof.Machine.execCtrlTsense s
  | .ctrlOt => Sys2Proof.Machine.execCtrlOt s
  | .coolantHot => Sys2Proof.Machine.execCoolantHot s
  | .coolantFlow => Sys2Proof.Machine.execCoolantFlow s
  | .lctHot => Sys2Proof.Machine.execLctHot s
  | .wtTsense k => Sys2Proof.Machine.execWtTsense k s
  | .timebaseCorrection xtal ref => Sys2Proof.Machine.execTimebaseCorrection xtal ref s
  | .safetyCycle ecc => Sys2Proof.Machine.execSafetyCycle ecc s
  | .siLevelAccepted n high => Sys2Proof.Machine.execSiLevelAccepted n high s
  | .testPulse k low => Sys2Proof.Machine.execTestPulse k low s
  | .siDisc k => Sys2Proof.Machine.execSiDisc k s
  | .twoHandTimeout k => Sys2Proof.Machine.execTwoHandTimeout k s
  | .resetStuck => Sys2Proof.Machine.execResetStuck s
  | .speedXchk p => Sys2Proof.Machine.execSpeedXchk p s
  | .ss1StandstillReached p => Sys2Proof.Machine.execSs1StandstillReached p s
  | .ss1Timeout p => Sys2Proof.Machine.execSs1Timeout p s
  | .stoReadback p => Sys2Proof.Machine.execStoReadback p s
  | .sbcOff p => Sys2Proof.Machine.execSbcOff p s
  | .sbcReleaseWaitEnd p => Sys2Proof.Machine.execSbcReleaseWaitEnd p s
  | .soPulseTest n ret seen => Sys2Proof.Machine.execSoPulseTest n ret seen s
  | .soFault n => Sys2Proof.Machine.execSoFault n s
  | .scFail => Sys2Proof.Machine.execScFail s
  | .scWdog => Sys2Proof.Machine.execScWdog s
  | .doridProduce c => Sys2Proof.Machine.execDoridProduce c s
  | .doridFrameRx port net bytes => Sys2Proof.Machine.execDoridFrameRx port net bytes s
  | .doridExpired c frame => Sys2Proof.Machine.execDoridExpired c frame s
  | .doridErrrateHoldEnd c => Sys2Proof.Machine.execDoridErrrateHoldEnd c s
  | .doridTimeLost => Sys2Proof.Machine.execDoridTimeLost s
  | .commConnOpen path tool => Sys2Proof.Machine.execCommConnOpen path tool s
  | .commConnExpired confirmLost => Sys2Proof.Machine.execCommConnExpired confirmLost s
  | .commIdle xact => Sys2Proof.Machine.execCommIdle xact s
  | .commWrite xact index sub data => Sys2Proof.Machine.execCommWrite xact index sub data s
  | .commRead xact index sub => Sys2Proof.Machine.execCommRead xact index sub s
  | .commCheck xact => Sys2Proof.Machine.execCommCheck xact s
  | .commConfirm xact value => Sys2Proof.Machine.execCommConfirm xact value s
  | .commDiscard xact => Sys2Proof.Machine.execCommDiscard xact s
  | .proofTestEnter xact => Sys2Proof.Machine.execProofTestEnter xact s
  | .proofTestLeave xact => Sys2Proof.Machine.execProofTestLeave xact s
  | .commBurnDone good => Sys2Proof.Machine.execCommBurnDone good s
  | .proofTExpiry late => Sys2Proof.Machine.execProofTExpiry late s
  | .txqEnqueue cls data => Sys2Proof.Machine.execTxqEnqueue cls data s
  | .frameSent q => Sys2Proof.Machine.execFrameSent q s
  | .canFrameRx p f sof => Sys2Proof.Machine.execCanFrameRx p f sof s
  | .rxEntryRead path r => Sys2Proof.Machine.execRxEntryRead path r s
  | .canErrorStateChange p tec rec => Sys2Proof.Machine.execCanErrorStateChange p tec rec s
  | .canRecover path mask => Sys2Proof.Machine.execCanRecover path mask s
  | .canBusoffRecovered p => Sys2Proof.Machine.execCanBusoffRecovered p s
  | .canLoadMeasure p load => Sys2Proof.Machine.execCanLoadMeasure p load s
  | .isoAddressClaim heard => Sys2Proof.Machine.execIsoAddressClaim heard s
  | .isoPropRead item seq source => Sys2Proof.Machine.execIsoPropRead item seq source s
  | .isoPropWrite item seq source v => Sys2Proof.Machine.execIsoPropWrite item seq source v s
  | .nmtCommand onB cmd node => Sys2Proof.Machine.execNmtCommand onB cmd node s
  | .heartbeatTx onB => Sys2Proof.Machine.execHeartbeatTx onB s
  | .heartbeatLost k late => Sys2Proof.Machine.execHeartbeatLost k late s
  | .rpdoRx j data => Sys2Proof.Machine.execRpdoRx j data s
  | .tpdoTx j => Sys2Proof.Machine.execTpdoTx j s
  | .eth1ArpRequest vid ip => Sys2Proof.Machine.execEth1ArpRequest vid ip s
  | .eth1IcmpEcho h ip data => Sys2Proof.Machine.execEth1IcmpEcho h ip data s
  | .eth1Link => Sys2Proof.Machine.execEth1Link s
  | .timeRefTx => Sys2Proof.Machine.execTimeRefTx s
  | .timeRefRx bytes ident sof => Sys2Proof.Machine.execTimeRefRx bytes ident sof s
  | .timeRefMissed arrival => Sys2Proof.Machine.execTimeRefMissed arrival s
  | .timeOffset => Sys2Proof.Machine.execTimeOffset s
  | .timeLost late => Sys2Proof.Machine.execTimeLost late s
  | .glTimeErr => Sys2Proof.Machine.execGlTimeErr s
  | .glMsgRetransmit => Sys2Proof.Machine.execGlMsgRetransmit s
  | .guyLinkDown => Sys2Proof.Machine.execGuyLinkDown s
  | .guyLinkUp => Sys2Proof.Machine.execGuyLinkUp s
  | .captureItem typ source taken => Sys2Proof.Machine.execCaptureItem typ source taken s
  | .capPacketTimeout n => Sys2Proof.Machine.execCapPacketTimeout n s
  | .capRelease path n bytes => Sys2Proof.Machine.execCapRelease path n bytes s
  | .capStreamSend n => Sys2Proof.Machine.execCapStreamSend n s
  | .hkRead h ip port bytes => Sys2Proof.Machine.execHkRead h ip port bytes s
  | .hkWrite h ip port bytes => Sys2Proof.Machine.execHkWrite h ip port bytes s
  | .hkReadBlock h ip port bytes => Sys2Proof.Machine.execHkReadBlock h ip port bytes s
  | .hkSessionOpenRequest h ip port bytes => Sys2Proof.Machine.execHkSessionOpenRequest h ip port bytes s
  | .hkSessionProof h ip port bytes => Sys2Proof.Machine.execHkSessionProof h ip port bytes s
  | .hkSessionClose h ip port bytes => Sys2Proof.Machine.execHkSessionClose h ip port bytes s
  | .usdoRequest onB node r => Sys2Proof.Machine.execUsdoRequest onB node r s
  | .usdoTimeout onB node late => Sys2Proof.Machine.execUsdoTimeout onB node late s
  | .stagedWrite path index sub data => Sys2Proof.Machine.execStagedWrite path index sub data s
  | .liveWrite path index sub data => Sys2Proof.Machine.execLiveWrite path index sub data s
  | .commitCheck path => Sys2Proof.Machine.execCommitCheck path s
  | .checkDone => Sys2Proof.Machine.execCheckDone s
  | .commitNow path => Sys2Proof.Machine.execCommitNow path s
  | .commitAligned path => Sys2Proof.Machine.execCommitAligned path s
  | .commitAt path => Sys2Proof.Machine.execCommitAt path s
  | .commitDiscard path => Sys2Proof.Machine.execCommitDiscard path s
  | .commitLoadStart => Sys2Proof.Machine.execCommitLoadStart s
  | .commitLoaded => Sys2Proof.Machine.execCommitLoaded s
  | .commitApply => Sys2Proof.Machine.execCommitApply s
  | .commitLateLimit => Sys2Proof.Machine.execCommitLateLimit s
  | .shadowLockTimeout late => Sys2Proof.Machine.execShadowLockTimeout late s
  | .commitAnnounceRx m => Sys2Proof.Machine.execCommitAnnounceRx m s
  | .commitIdentityCompare => Sys2Proof.Machine.execCommitIdentityCompare s
  | .settingsStoreWrite => Sys2Proof.Machine.execSettingsStoreWrite s
  | .sessOpen path data => Sys2Proof.Machine.execSessOpen path data s
  | .sessProof path data => Sys2Proof.Machine.execSessProof path data s
  | .sessClose path => Sys2Proof.Machine.execSessClose path s
  | .sessChallengeLapse path late => Sys2Proof.Machine.execSessChallengeLapse path late s
  | .sessionIdle path late => Sys2Proof.Machine.execSessionIdle path late s
  | .sessLockout path => Sys2Proof.Machine.execSessLockout path s
  | .sessLockoutEnd path => Sys2Proof.Machine.execSessLockoutEnd path s
  | .keyProvision path data => Sys2Proof.Machine.execKeyProvision path data s
  | .keyRevoke path slot => Sys2Proof.Machine.execKeyRevoke path slot s
  | .eventPop path => Sys2Proof.Machine.execEventPop path s
  | .xingTimeout x edge down up => Sys2Proof.Machine.execXingTimeout x edge down up s
  | .crossingResync x down up => Sys2Proof.Machine.execCrossingResync x down up s
  | .crossingHoldTimeout x => Sys2Proof.Machine.execCrossingHoldTimeout x s
  | .timebaseFail => Sys2Proof.Machine.execTimebaseFail s
  | .timebaseLockHeld => Sys2Proof.Machine.execTimebaseLockHeld s
  | .bistPassStart => Sys2Proof.Machine.execBistPassStart s
  | .bistWarpSlice isl pass => Sys2Proof.Machine.execBistWarpSlice isl pass s
  | .bistFabricSlice l pass => Sys2Proof.Machine.execBistFabricSlice l pass s
  | .bistGuySlice l pass => Sys2Proof.Machine.execBistGuySlice l pass s
  | .bistPinInSlice n pass => Sys2Proof.Machine.execBistPinInSlice n pass s
  | .bistPinOutSlice n pass => Sys2Proof.Machine.execBistPinOutSlice n pass s
  | .bistGateSlice g inBand readBack => Sys2Proof.Machine.execBistGateSlice g inBand readBack s
  | .bistOverdue => Sys2Proof.Machine.execBistOverdue s
  | .injArm path => Sys2Proof.Machine.execInjArm path s
  | .injWithdraw path => Sys2Proof.Machine.execInjWithdraw path s
  | .injWithdrawAll path => Sys2Proof.Machine.execInjWithdrawAll path s
  | .injDurationEnd k => Sys2Proof.Machine.execInjDurationEnd k s
  | .otpReadDone factoryOk => Sys2Proof.Machine.execOtpReadDone factoryOk s
  | .synthLocked => Sys2Proof.Machine.execSynthLocked s
  | .scStartupTestDone good => Sys2Proof.Machine.execScStartupTestDone good s
  | .fwBankSelect => Sys2Proof.Machine.execFwBankSelect s
  | .fwStart idMatch => Sys2Proof.Machine.execFwStart idMatch s
  | .autoReady => Sys2Proof.Machine.execAutoReady s
  | .otpIntegrityCheck factoryOk recordOk => Sys2Proof.Machine.execOtpIntegrityCheck factoryOk recordOk s
  | .fwCmdOpen path => Sys2Proof.Machine.execFwCmdOpen path s
  | .fwEraseDone => Sys2Proof.Machine.execFwEraseDone s
  | .fwChunk path data => Sys2Proof.Machine.execFwChunk path data s
  | .fwCmdVerify path => Sys2Proof.Machine.execFwCmdVerify path s
  | .fwVerifyDone => Sys2Proof.Machine.execFwVerifyDone s
  | .fwCmdSelect path => Sys2Proof.Machine.execFwCmdSelect path s
  | .fwCmdAccept path steps burned => Sys2Proof.Machine.execFwCmdAccept path steps burned s
  | .fwCmdAbandon path => Sys2Proof.Machine.execFwCmdAbandon path s
  | .attestNonce path nonce => Sys2Proof.Machine.execAttestNonce path nonce s
  | .attestQuoteReady => Sys2Proof.Machine.execAttestQuoteReady s
  | .coreSupplyOk => Sys2Proof.Machine.execCoreSupplyOk s
  | .timebaseRunsAgain => Sys2Proof.Machine.execTimebaseRunsAgain s
  | .linkOvRelease => Sys2Proof.Machine.execLinkOvRelease s
  | .dischHotClear => Sys2Proof.Machine.execDischHotClear s
  | .comparatorRearm ch streams => Sys2Proof.Machine.execComparatorRearm ch streams s
  | .eth1LinkUp => Sys2Proof.Machine.execEth1LinkUp s
  | .burdenDisconnect n => Sys2Proof.Machine.execBurdenDisconnect n s
  | .burdenReconnect n => Sys2Proof.Machine.execBurdenReconnect n s
  | .bistPassOverdue => Sys2Proof.Machine.execBistPassOverdue s
  | .dvArmed => Sys2Proof.Machine.execDvArmed s
  | .chanStatusRead path ch => Sys2Proof.Machine.execChanStatusRead path ch s

end Sys2Proof.Machine
end

