-- ==== Sys2Proof/Safety.lean ====
section
/-!
DEFINITION. What counts as safe here: the invariants the statements speak of, and the states in which no port drives.
-/

namespace Sys2Proof.Machine

/-- The anti-rollback fuses are burned in order from fuse 0 (R446). -/
def Otp.fusesLegal (o : Otp) : Prop := ∀ k : Nat, k < 127 → o.fuses.getLsbD (k + 1) = true → o.fuses.getLsbD k = true

/-- A revoked key slot holds a key of all ones (Table 17.6). -/
def Otp.keysLegal (o : Otp) : Prop := ∀ k : Nat, k < 4 → o.revoked.getLsbD k = true → o.keys.getD k 0 = BitVec.allOnes 256

/-- The store holds what R443-R447 allow. -/
def Otp.Legal (o : Otp) : Prop := o.fusesLegal ∧ o.keysLegal ∧ o.keys.length = 4 ∧ o.records.length = 8

/-- Every bit burned in one store is burned in the other (R443). -/
def Otp.Grows (o o' : Otp) : Prop :=
  (∀ k : Nat, o.fuses.getLsbD k = true → o'.fuses.getLsbD k = true)
    ∧ (∀ k : Nat, o.fwRevoked.getLsbD k = true → o'.fwRevoked.getLsbD k = true)
    ∧ (∀ k : Nat, o.revoked.getLsbD k = true → o'.revoked.getLsbD k = true)
    ∧ (∀ k : Nat, o.provisioned.getLsbD k = true → o'.provisioned.getLsbD k = true)
    ∧ (∀ k b : Nat, (o.keys.getD k 0).getLsbD b = true → (o'.keys.getD k 0).getLsbD b = true)
    ∧ (∀ k : Nat, (o.records.getD k {}).used = true → (o'.records.getD k {}).used = true)
    ∧ (∀ k : Nat, (o.records.getD k {}).invalid = true → (o'.records.getD k {}).invalid = true)

/-- All gates of both ports are off as commanded. -/
def Device.portsOff (d : Device) : Bool := d.portA.eng.allOff && d.portB.eng.allOff

/-- The code with which a write of a command object is turned away before its value is looked at (R386, R388, R20);
none where it is not. -/
def Device.turnedAway (d : Device) (q : Path) (lvl : ObjLevel) (inFault : Bool) : Option W32 :=
  if d.busyOn q then some Abort.busy
  else if d.boot.noBank then some Abort.state
  else if !d.levelOpen q lvl then some Abort.access
  else if d.ctl.state = .fault ∧ !inFault then some Abort.state
  else none

/-- The path, the level and whether FAULT takes it, of a command that is a write of one command object or a read of one
object with an effect (R385, R386, R388, Table 1.6). -/
def State.asks (s : State) : Instr → Option (Path × ObjLevel × Bool)
  | .moduleCmdReady q | .moduleCmdRun q | .moduleCmdStop q | .moduleCmdStandby q => some (q, .b, false)
  | .moduleCmdService q | .moduleCmdLeaveService q => some (q, .v, false)
  | .moduleCmdHandover q | .moduleCmdClearOverrun q => some (q, .e, false)
  | .moduleCmdReset q => some (q, .v, true)
  | .driveRequestWrite q _ _ | .speedInputWrite q _ _ | .batLimitWrite q _ _ | .auxVSetWrite q _ | .supplyCmdStart q
  | .supplyCmdStop q | .chgCmdStart q | .chgCmdStop q | .chgCmdRearm q | .chgWdRefresh q _ | .chgISetWrite q _
  | .chgVSetWrite q _ | .bchgCmdForceFast q | .bchgCmdRearm q | .actCmdTarget q _ _ | .actCmdHome q _ | .actCmdStop q _
  | .commitCheck q | .commitNow q | .commitAligned q | .commitAt q | .commitDiscard q | .attestNonce q _ => some (q, .b, false)
  | .linkDischarge q | .sessOpen q _ | .sessProof q _ | .sessClose q => some (q, .b, true)
  | .fineResultRead q _ | .chanStatusRead q _ | .rxEntryRead q _ | .eventPop q => some (q, .b, true)
  | .draftRestore q _ | .selfCal q | .slotCmdOpen q _ | .slotCmdClose q _ | .canRecover q _ | .capRelease q _ _ =>
    some (q, .e, false)
  | .dieRetest q | .injArm q | .injWithdraw q | .injWithdrawAll q | .fwCmdOpen q | .fwChunk q _ | .fwCmdVerify q
  | .fwCmdSelect q | .fwCmdAccept q _ _ | .fwCmdAbandon q | .keyRevoke q _ => some (q, .v, false)
  | .keyProvision q _ => some (q, s.provisionLevel, false)
  | _ => none

/-- The module is powered and takes a write of a command object at a level on a path. -/
abbrev Device.takes (d : Device) (q : Path) (lvl : ObjLevel) (inFault : Bool) : Prop :=
  d.ctl.state ≠ .off ∧ d.turnedAway q lvl inFault = none

/-- A fault of that name and scope is active with at least that reaction (R24, R25). -/
def Device.hasFault (d : Device) (f : FaultName) (sc : Scope) (r : Nat) : Prop :=
  ∃ e ∈ d.faults.active, e.name = f ∧ e.scope = sc ∧ r ≤ e.reaction

/-- The commissioning connection of a tool on a path takes a request with a new TRANS (R335, R336). -/
abbrev Device.commTakes (d : Device) (q : Path) (tool xact : Nat) : Prop :=
  d.comm.conn = some (q, tool) ∧ d.ctl.state.commissions = true ∧ d.levelOpen q .e = true ∧ d.comm.trans ≠ some xact
    ∧ d.comm.state ≠ .burning

/-- One bit and one byte of a CRC register that runs most significant bit first with the polynomial of R323, its input bytes
reflected. -/
def msbCrcBit (c : BitVec 32) : BitVec 32 := if c.msb then (c <<< 1) ^^^ 0x1EDC6F41#32 else c <<< 1
def msbCrcByte (c : BitVec 32) (b : Byte) : BitVec 32 :=
  (List.range 8).foldl (fun c _ => msbCrcBit c) (c ^^^ (b.reverse.setWidth 32 <<< 24))

/-- A Hokuith datagram of an opcode without a session, whole and within 1,472 bytes (R376, Table 14.10). -/
abbrev hkPlain (op : Nat) (b : List Byte) : Prop :=
  20 ≤ b.length ∧ b.length ≤ 1472 ∧ b.length = 20 + field b 4 2 ∧ field b 0 2 = 0x4B48 ∧ field b 2 1 = 1 ∧ field b 3 1 = op
    ∧ field b 8 4 = 0

/-- The header of the response to it. -/
def hkHeader (op : Nat) (b : List Byte) : HkAnswer :=
  { opcode := op, session := 0, reqId := field b 12 4, items := 0, status := 0, body := [] }

/-- The module holds no response to the request's number that is 1 s old or younger (R375). -/
abbrev Device.hkFresh (d : Device) (q : Path) (b : List Byte) : Prop :=
  ∀ e ∈ (d.path q).cached, e.1.reqId ≠ field b 12 4 ∨ e.2 + sec 1 < d.now

end Sys2Proof.Machine
end

