-- ==== Sys2Proof/WellFormed.lean ====
section
/-!
DEFINITION. Commands the surroundings can send: readings name a channel at most once, and bytes fit the frame that carries
them. No row of the table carries an encoding (log entry 1), so this stands in place of a decoder's checks; the meanings do
not rely on it.
-/

namespace Sys2Proof

/-- No value twice. -/
def noRepeat [DecidableEq α] : List α → Bool
  | [] => true
  | x :: rest => !rest.contains x && noRepeat rest

/-- A CAN frame's length: 64 bytes, or 2,048 in CAN XL format (R344). -/
def CanFrame.fits (f : CanFrame) : Bool := f.data.length ≤ (if f.xl then 2048 else if f.fd then 64 else 8)

/-- Bytes of a frame on ETH1 (R374). -/
def datagramFits (l : List Byte) : Bool := l.length ≤ 1472

/-- A command is well formed. -/
def WellFormed : Instr → Bool
  | .beatStart b => noRepeat (b.evals.map fun w => w.ch) && noRepeat b.ended
  | .slotSample _ evals => noRepeat (evals.map fun w => w.ch)
  | .fastWordPublish streams => noRepeat (streams.map fun w => w.ch)
  | .compExit _ _ streams => noRepeat (streams.map fun w => w.ch)
  | .comparatorRearm _ streams => noRepeat (streams.map fun w => w.ch)
  | .gateCommand _ cmds _ _ obs => noRepeat (cmds.map Prod.fst) && noRepeat (obs.map fun o => o.die)
  | .gateLeakWindow high unmeasured => noRepeat high && noRepeat unmeasured
  | .dieTempEval temps => noRepeat (temps.map Prod.fst)
  | .dieRetestDone passed => noRepeat passed
  | .testPulse _ low => noRepeat low
  | .canFrameRx _ f _ => f.fits
  | .doridFrameRx _ _ bytes => bytes.length ≤ 64
  | .guyFrameRx _ bytes _ => bytes.length ≤ 404
  | .fwChunk _ data => data.length ≤ 1028
  | .hkRead _ _ _ bytes => datagramFits bytes
  | .hkWrite _ _ _ bytes => datagramFits bytes
  | .hkReadBlock _ _ _ bytes => datagramFits bytes
  | .hkSessionOpenRequest _ _ _ bytes => datagramFits bytes
  | .hkSessionProof _ _ _ bytes => datagramFits bytes
  | .hkSessionClose _ _ _ bytes => datagramFits bytes
  | _ => true

end Sys2Proof
end

