-- ==== Sys2Proof/Certificates/Slice0/Obligations.lean ====
section
/-!
DEFINITION. The statements for the provers. Each says under which conditions on the state and the operands a command runs,
and that its answer is the next state the rules give: an equation for the whole next state says the frame too, since what it
does not name is as it was.
-/

open Sys2Proof Sys2Proof.Machine

/-! ## Module control (chapter 1) -/

/-- One step: the front command runs with the rest of the queue. -/
def Obligations.StepRunsFront : Prop :=
  ∀ (c : Instr) (rest : List Instr) (s : State), step { s with pending := c :: rest } = exec c { s with pending := rest }

/-- R21, R433: the supply of the logic. -/
def Obligations.LogicSupplyEvents : Prop :=
  (∀ s : State, s.dev.ctl.state = .off → ∃ t : State, exec .logicInRise s = .next t ∧ t.pending = s.pending ∧ t.otp = s.otp
      ∧ t.dev.ctl.state = .boot ∧ t.dev.ctl.now = 0 ∧ t.dev.flash = s.dev.flash ∧ t.dev.fw.bank0 = s.dev.fw.bank0
      ∧ t.dev.fw.bank1 = s.dev.fw.bank1 ∧ t.dev.fw.active = s.dev.fw.active ∧ t.dev.faults = {} ∧ t.dev.gates = {})
  ∧ (∀ s : State, ∃ t : State, exec .logicInLoss s = .next t ∧ t.pending = s.pending ∧ t.dev.ctl.state = .off
      ∧ t.dev.flash = s.dev.flash ∧ t.dev.fw.bank0 = s.dev.fw.bank0 ∧ t.dev.fw.bank1 = s.dev.fw.bank1
      ∧ (s.dev.comm.burning = none → t.otp = s.otp))
  ∧ (∀ s : State, s.dev.ctl.state ≠ .off → exec .coreSupply s = .next (s.onDev fun d =>
      raise .coreSupply .module 4 { d with ctl := { d.ctl with coreSupplyOk := false } }))
  ∧ (∀ s : State, s.dev.ctl.state ≠ .off → s.dev.ctl.state ≠ .safe → exec .coreSupplyOk s = .next (s.onDev fun d =>
      { d with ctl := { d.ctl with coreSupplyOk := true } }))
  ∧ (∀ s : State, s.dev.ctl.state = .safe → exec .coreSupplyOk s = .next (s.onDev fun d =>
      clearFault .coreSupply .module { d with ctl := { d.ctl with coreSupplyOk := true } }))

/-- Table 1.6, R20, R21, R35: each code of MODULE_CMD that is taken and whose conditions hold. Table 1.6: a code of
MODULE_CMD in a state that does not take it is answered with "not possible in this state" and changes nothing else. -/
def Obligations.ModuleCommands : Prop :=
  (∀ (q : Path) (s : State), s.dev.takes q .b false → s.dev.ctl.state = .standby → s.dev.meas.calState ≠ 1 → s.dev.readyOk →
      exec (.moduleCmdReady q) s = .next (s.onDev fun d => answer q Abort.ok [] (setState .ready (touchPath q d))))
  ∧ (∀ (q : Path) (s : State), s.dev.takes q .b false → s.dev.ctl.state = .ready → s.dev.runOk →
      exec (.moduleCmdRun q) s = .next (s.onDev fun d => answer q Abort.ok [] (enterRun (touchPath q d))))
  ∧ (∀ (q : Path) (s : State), s.dev.takes q .b false → s.dev.ctl.state = .run →
      exec (.moduleCmdStop q) s = .next (s.onDev fun d => answer q Abort.ok [] (setState .stopping (touchPath q d))))
  ∧ (∀ (q : Path) (s : State), s.dev.takes q .b false →
      s.dev.ctl.state = .ready ∨ (s.dev.ctl.state = .safe ∧ s.dev.faults.highest < 4) →
      exec (.moduleCmdStandby q) s = .next (s.onDev fun d => answer q Abort.ok [] (enterStandby (touchPath q d))))
  ∧ (∀ (q : Path) (s : State), s.dev.takes q .v false → s.dev.ctl.state = .standby →
      exec (.moduleCmdService q) s = .next (s.onDev fun d => answer q Abort.ok [] (setState .service (touchPath q d))))
  ∧ (∀ (q : Path) (s : State), s.dev.takes q .v false → s.dev.ctl.state = .service →
      exec (.moduleCmdLeaveService q) s = .next (s.onDev fun d => answer q Abort.ok [] (enterStandby (touchPath q d))))
  ∧ (∀ (q : Path) (s : State), s.dev.takes q .e false → s.dev.paired → s.dev.ctl.lead → s.dev.ctl.partnerPresent →
      s.dev.shifting = false → s.dev.ctl.handoverT = none →
      exec (.moduleCmdHandover q) s = .next (s.onDev fun d =>
        let t := (d.now + 100000 + 9999) / 10000 * 10000
        let d := clearFault .handoverAbort .module (touchPath q d)
        answer q Abort.ok [] { d with
          ctl := { d.ctl with handoverT := some t, handoverAcked := false }
          net := { d.net with guy := { d.net.guy with hoReq := true, eventT := t } } }))
  ∧ (∀ (q : Path) (s : State), s.dev.takes q .v true → s.dev.ctl.state = .fault →
      exec (.moduleCmdReset q) s = .next (s.onDev fun d => answer q Abort.ok [] (startBoot (touchPath q d))))
  ∧ (∀ (q : Path) (s : State), s.dev.takes q .e false →
      exec (.moduleCmdClearOverrun q) s = .next (s.onDev fun d =>
        let d := touchPath q d
        answer q Abort.ok [] { d with ctl := { d.ctl with overrun := false } }))
  ∧ (∀ (q : Path) (s : State) (c : Instr) (lvl : ObjLevel) (inFault : Bool),
    (c = .moduleCmdReady q ∧ lvl = .b ∧ inFault = false ∧ s.dev.meas.calState ≠ 1
        ∧ ¬ (s.dev.ctl.state = .standby ∧ s.dev.readyOk = true))
      ∨ (c = .moduleCmdRun q ∧ lvl = .b ∧ inFault = false ∧ ¬ (s.dev.ctl.state = .ready ∧ s.dev.runOk = true))
      ∨ (c = .moduleCmdStop q ∧ lvl = .b ∧ inFault = false ∧ s.dev.ctl.state ≠ .run)
      ∨ (c = .moduleCmdStandby q ∧ lvl = .b ∧ inFault = false ∧ s.dev.ctl.state ≠ .ready
        ∧ (s.dev.ctl.state ≠ .safe ∨ 4 ≤ s.dev.faults.highest))
      ∨ (c = .moduleCmdService q ∧ lvl = .v ∧ inFault = false ∧ s.dev.ctl.state ≠ .standby)
      ∨ (c = .moduleCmdLeaveService q ∧ lvl = .v ∧ inFault = false ∧ s.dev.ctl.state ≠ .service)
      ∨ (c = .moduleCmdHandover q ∧ lvl = .e ∧ inFault = false ∧ s.dev.ctl.lead = false)
      ∨ (c = .moduleCmdReset q ∧ lvl = .v ∧ inFault = true ∧ s.dev.ctl.state ≠ .fault) →
    s.dev.takes q lvl inFault →
    exec c s = .next (s.onDev fun d => answer q Abort.state [] (touchPath q d)))

/-- R17, R21, R22, R102: the late-beat monitor and the transitions of the module without a command. -/
def Obligations.ModuleEvents : Prop :=
  (∀ (p : PortId) (s : State), s.dev.ctl.state ≠ .off → exec (.overrun (.traction p)) s = .next (s.onDev fun d =>
      let d := d.onEng p fun e => { e with holding := none, late := true }
      raise .overrun (.stage p.stage) 3 { d with ctl := { d.ctl with overrun := true } }))
  ∧ (∀ (i : Fin 64) (s : State), s.dev.ctl.state ≠ .off → exec (.overrun (.reed i)) s = .next (s.onDev fun d =>
      let d := d.onIsland i fun x => { x with chans := x.chans.map fun c => { c with reedHold := none } }
      raiseActs .overrun (.stage (stageOfIsland i)) 3 (islandActs i)
        { d with ctl := { d.ctl with overrun := true }
                 gates := { d.gates with reedLate := d.gates.reedLate.filter (fun j => j != i.val) ++ [i.val] } }))
  ∧ (∀ (k : Fin 32) (s : State), s.dev.ctl.state ≠ .off → exec (.overrun (.slot k)) s = .next (s.onDev (slotOverrun k)))
  ∧ (∀ s : State, s.dev.ctl.state ≠ .off → (s.dev.eng .a).late → exec (.lateResultDiscard (.traction .a)) s = .next (s.onDev fun d =>
        let d := (if (d.eng .a).fastValid then estimated .a d else d).onEng .a fun e => { e with late := false }
        { d with ctl := { d.ctl with latePortA := (d.ctl.latePortA + 1) % 2 ^ 32 } }))
  ∧ (∀ s : State, s.dev.ctl.state ≠ .off → (s.dev.eng .b).late → exec (.lateResultDiscard (.traction .b)) s = .next (s.onDev fun d =>
        let d := (if (d.eng .b).fastValid then estimated .b d else d).onEng .b fun e => { e with late := false }
        { d with ctl := { d.ctl with latePortB := (d.ctl.latePortB + 1) % 2 ^ 32 } }))
  ∧ (∀ (i : Fin 64) (s : State), s.dev.ctl.state ≠ .off → i.val ∈ s.dev.gates.reedLate →
      exec (.lateResultDiscard (.reed i)) s = .next (s.onDev fun d => countLate (stageOfIsland i)
        { d with gates := { d.gates with reedLate := d.gates.reedLate.filter fun j => j != i.val } }))
  ∧ (∀ (k : Fin 32) (s : State), s.dev.ctl.state ≠ .off → (s.dev.slot k).lateAwait →
      exec (.lateResultDiscard (.slot k)) s = .next (s.onDev fun d => countLate (slotStage k)
        (d.onSlot k fun x => { x with lateAwait := false, lateCount := (x.lateCount + 1) % 2 ^ 16 })))
  ∧ (∀ s : State, s.dev.ctl.state = .ready → s.dev.vLink < 900 → s.dev.held .readyLow 100000000 →
      exec .linkLowInReady s = .next (s.onDev enterStandby))
  ∧ (∀ s : State, s.dev.ctl.state = .ready → 900 ≤ s.dev.vLink → exec .linkLowInReady s = .next s)
  ∧ (∀ s : State, s.dev.ctl.state ≠ .off → ∃ t : State, exec .serviceNHigh s = .next t ∧ t.pending = s.pending
      ∧ t.otp = s.otp ∧ t.dev.ctl.serviceNLow = false ∧ t.dev.inj.active = []
      ∧ (s.dev.ctl.state = .service → t.dev.ctl.state = .standby)
      ∧ (s.dev.ctl.state ≠ .service → t.dev.ctl.state = s.dev.ctl.state))
  ∧ (∀ (p : PortId) (s : State), (s.dev.port p).state = .asc → s.dev.ascExitDue p →
      ∃ t : State, exec (.ascExit p) s = .next t ∧ t.pending = s.pending ∧ t.otp = s.otp ∧ (t.dev.port p).state = .sto
        ∧ t.dev.ctl = s.dev.ctl ∧ t.dev.faults = s.dev.faults ∧ t.dev.od = s.dev.od)
  ∧ (∀ (p : PortId) (s : State), (s.dev.port p).state = .fault → (s.dev.port p).faultAsc → s.dev.ascExitDue p →
      ∃ t : State, exec (.ascExit p) s = .next t ∧ t.pending = s.pending ∧ t.otp = s.otp ∧ (t.dev.port p).state = .fault
        ∧ (t.dev.port p).faultAsc = false ∧ t.dev.ctl = s.dev.ctl ∧ t.dev.faults = s.dev.faults ∧ t.dev.od = s.dev.od)
  ∧ (∀ (p : PortId) (s : State), s.dev.ascExitOk p = false → exec (.ascExit p) s = .next s)

/-- R32 to R38: the partner, the roles and the return of a module. -/
def Obligations.PairEvents : Prop :=
  (∀ s : State, s.dev.paired → s.dev.ctl.partnerPresent → s.dev.guySilent 20000 →
      exec .partnerFluxExtrapEnd s = .next (s.onDev fun d => { d with ctl := { d.ctl with extrapEnded := true } }))
  ∧ (∀ (late : Bool) (s : State), s.dev.paired → s.dev.ctl.partnerPresent → s.dev.partnerGone →
      ∃ t : State, exec (.partnerAbsent late) s = .next t
      ∧ t.pending = s.pending ∧ t.otp = s.otp ∧ t.dev.od = s.dev.od
      ∧ t.dev.ctl.partnerPresent = false ∧ t.dev.ctl.handoverT = none ∧ t.dev.ctl.handoverPending = false
      ∧ (s.dev.ctl.state = .run → t.dev.ctl.lead = true ∧ t.dev.ctl.partnerAbsent = true
          ∧ t.dev.ctl.partnerLossCount = (s.dev.ctl.partnerLossCount + 1) % 2 ^ 16)
      ∧ (s.dev.ctl.state ≠ .run → t.dev.ctl.lead = s.dev.ctl.lead ∧ t.dev.faults = s.dev.faults))
  ∧ (∀ s : State, s.dev.paired → s.dev.ctl.state = .run → s.dev.ctl.lead = false → s.dev.ctl.pairOkIn →
      s.dev.ctl.partnerPresent → s.dev.guySilent 30000 → ∀ late : Bool,
      exec (.guyFrameTimeoutFollower late) s = .next (s.onDev fun d =>
        let d := { d with ctl := { d.ctl with
          partnerPresent := false, handoverGiven := none, handoverPending := false
          fallbackReady := true, partnerLossCount := (d.ctl.partnerLossCount + 1) % 2 ^ 16 } }
        lateMisc late (portStop .b (portStop .a d))))
  ∧ (∀ s : State, s.dev.paired → s.dev.ctl.partnerPresent → s.dev.scAlive → exec .pairStoInHigh s = .next (s.onDev fun d =>
      let d := { d with ctl := { d.ctl with pairStoIn := true } }
      applyDemands .b (applyDemands .a (d.onSafety fun x => { x with pairIn := true, pairSto := true }))))
  ∧ (∀ s : State, s.dev.ctl.partnerPresent →
      (s.dev.ctl.lead ∧ reached s.dev.now s.dev.ctl.handoverT ∧ s.dev.ctl.handoverAcked)
        ∨ (s.dev.ctl.lead = false ∧ reached s.dev.now s.dev.ctl.handoverGiven) →
      ∃ t : State, exec .handoverTime s = .next t ∧ t.pending = s.pending ∧ t.otp = s.otp
        ∧ t.dev.ctl = { s.dev.ctl with
            lead := !s.dev.ctl.lead, handoverT := none, handoverGiven := none, handoverAcked := false
            handoverPending := false }
        ∧ t.dev.faults = s.dev.faults ∧ t.dev.gates = s.dev.gates ∧ t.dev.od = s.dev.od)
  ∧ (∀ (late : Bool) (s : State), s.dev.ctl.lead → reached (s.dev.now + 20000) s.dev.ctl.handoverT →
      s.dev.ctl.handoverAcked = false →
      exec (.handoverAbort late) s = .next (s.onDev fun d => lateMisc late (raise .handoverAbort .module 0 { d with
        ctl := { d.ctl with
          handoverT := none, handoverGiven := none, handoverAcked := false, handoverPending := false }
        net := { d.net with guy := { d.net.guy with hoReq := false, hoAck := false } } })))
  ∧ (∀ (late : Bool) (s : State), s.dev.ctl.lead = false → reached (s.dev.now + 20000) s.dev.ctl.handoverGiven →
      exec (.handoverAbort late) s = .next (s.onDev fun d => lateMisc late { d with
        ctl := { d.ctl with
          handoverT := none, handoverGiven := none, handoverAcked := false, handoverPending := false }
        net := { d.net with guy := { d.net.guy with hoReq := false, hoAck := false } } }))
  ∧ (∀ s : State, reached s.dev.now s.dev.ctl.joinT → s.dev.ctl.state = .ready → s.dev.runOk → s.dev.ctl.partnerPresent →
      ∃ t : State, exec .joinTime s = .next t ∧ t.pending = s.pending ∧ t.otp = s.otp ∧ t.dev.ctl.state = .run
        ∧ t.dev.ctl.lead = false ∧ t.dev.ctl.partnerAbsent = false ∧ t.dev.ctl.joinT = none ∧ t.dev.faults = s.dev.faults)
  ∧ (∀ s : State, reached s.dev.now s.dev.ctl.joinT →
      ¬ (s.dev.ctl.state = .ready ∧ s.dev.runOk = true ∧ s.dev.ctl.partnerPresent = true) → exec .joinTime s = .next (s.onDev fun d =>
        { d with ctl := { d.ctl with joinT := none, lead := d.ctl.lead || d.ctl.partnerAbsent }
                 net := { d.net with guy := { d.net.guy with join := false } } }))
  ∧ (∀ s : State, s.dev.ctl.lead → lasted s.dev.now s.dev.ctl.shareRampStart 200000000 → exec .shareRampDone s = .next (s.onDev fun d =>
      clearFault .partnerLost .module { d with ctl := { d.ctl with shareRampStart := none, partnerAbsent := false } }))

/-! ## Gate islands and power-stage protection (chapter 2) -/

/-- R9, R45 to R48, R50 to R52, R61, R70: gate commands and what the heddle reports on an edge and a rail. -/
def Obligations.GateChannelEvents : Prop :=
  (∀ (i : Fin 64) (cmds : List (Fin 8 × Bool)) (frame : Fin 4) (tick : Fin 50) (obs : List EdgeObs) (s : State),
      42 < tick.val ∨ (s.dev.island i).link ≠ 2 → exec (.gateCommand i cmds frame tick obs) s = .next s)
  ∧ (∀ (i : Fin 64) (cmds : List (Fin 8 × Bool)) (frame : Fin 4) (tick : Fin 50) (obs : List EdgeObs) (s : State),
      s.dev.ctl.state ≠ .off → tick.val ≤ 42 → (s.dev.island i).link = 2 →
      (s.dev.island i).safe = true ∨ (s.dev.island i).armed = false →
      exec (.gateCommand i cmds frame tick obs) s = .next (s.onDev fun d => d.onIsland i fun x => { x with
        unacked := match x.unacked with
          | none => none
          | some (l, n) =>
            let left := l.filter fun c => !(cmds.map Prod.fst).contains c.1
            if left.isEmpty then none else some (left, n) }))
  ∧ (∀ (i : Fin 64) (cmds : List (Fin 8 × Bool)) (frame : Fin 4) (tick : Fin 50) (obs : List EdgeObs) (s : State),
      s.dev.ctl.state ≠ .off → tick.val ≤ 42 → (s.dev.island i).link = 2 → (s.dev.island i).safe = false →
      (s.dev.island i).armed = true →
      ∃ t : State, exec (.gateCommand i cmds frame tick obs) s = .next t ∧ t.pending = s.pending ∧ t.otp = s.otp
        ∧ t.dev.od = s.dev.od ∧ t.dev.ctl.now = s.dev.ctl.now)
  ∧ (∀ (i : Fin 64) (k : Fin 8) (frame : Fin 4) (tick : Fin 50) (s : State), s.dev.ctl.state ≠ .off → tick.val ≤ 42 →
      (s.dev.island i).link = 2 → (s.dev.island i).safe = false → (s.dev.island i).armed = true →
      (s.dev.chan (8 * i + k)).later = none →
      (s.dev.chan (8 * i + k)).holdAt ≤ s.dev.now + 5 * (50 * frame + tick) → (s.dev.chan (8 * i + k)).soft = none →
      ∃ t : State, exec (.gateCommand i [(k, false)] frame tick []) s = .next t ∧ t.pending = s.pending ∧ t.otp = s.otp
        ∧ t.dev.ctl = s.dev.ctl ∧ t.dev.faults = s.dev.faults ∧ t.dev.portA = s.dev.portA ∧ t.dev.portB = s.dev.portB
        ∧ (t.dev.chan (8 * i + k)).cmdOn = false ∧ (t.dev.chan (8 * i + k)).gateOn = false)
  ∧ (∀ (g : Fin 512) (s : State), s.dev.ctl.state ≠ .off → exec (.platTimeout g) s = .next (s.onDev fun d =>
      let d := d.onChan g fun c => { c with
        platTimeout := true, platTimes := c.platTimes.filter (fun t => decide (d.now < t + 1000000000)) ++ [d.now] }
      if 64 ≤ (d.chan g).platTimes.length then raise .platTimeout (.channel g) 0 d else d))
  ∧ (∀ (g : Fin 512) (s : State), 464 ≤ g.val → exec (.gateUvLockout g true) s = .next s)
  ∧ (∀ (g : Fin 512) (neg : Bool) (s : State), s.dev.ctl.state ≠ .off → neg = false ∨ g.val < 464 →
      exec (.gateUvLockout g neg) s = .next (s.onDev fun d =>
        let d := d.onChan g fun c => GateChan.gateTo false d.now (d.edgeOf g) { c with
          uvPos := c.uvPos || !neg, uvNeg := c.uvNeg || neg }
        let d := d.onIsland (g / 8) fun x => { x with supplyOk := x.railOk (g / 8) }
        if uvFault g = .actBoot then raise .actBoot (.stage .act) 0 (actOff ((g - 488) / 6) d)
        else if uvFault g = .auxPhaseShed then raise .auxPhaseShed (.stage .aux) 1 (auxPhaseOff ((g - 472) / 2) d)
        else if uvFault g = .bootUv then raise .bootUv (.stage .llcSec) 0 d
        else gateUvReport g d))
  ∧ (∀ g : Fin 512, (g.val < 464 → uvFault g = .gateUv) ∧ (464 ≤ g.val → g.val < 472 → g.val % 4 < 2 → uvFault g = .bootUv)
      ∧ (472 ≤ g.val → g.val < 488 → g.val % 2 = 0 → uvFault g = .auxPhaseShed)
      ∧ (488 ≤ g.val → g.val % 2 = 0 → uvFault g = .actBoot)
      ∧ (464 ≤ g.val → g.val < 472 → 2 ≤ g.val % 4 → uvFault g = .gateUv)
      ∧ (472 ≤ g.val → g.val % 2 = 1 → uvFault g = .gateUv))
  ∧ (∀ (g : Fin 512) (neg : Bool) (s : State), s.dev.ctl.state ≠ .off →
      exec (.gateUvRelease g neg) s = .next (s.onDev (gateUvRelease g neg)))
  ∧ (∀ (g : Fin 512) (s : State), (s.dev.chan g).gateOn → s.dev.blankEnd g < s.dev.now + 1000 →
      exec (.desatBlankEnd g) s = .next (s.onDev (Device.onChan g fun c => { c with desatArmed := true })))
  ∧ (∀ (g : Fin 512) (s : State), (s.dev.chan g).gateOn = false ∨ s.dev.now + 1000 ≤ s.dev.blankEnd g →
      exec (.desatBlankEnd g) s = .next s)

/-- R51: a turn-on against a complementary position that is commanded on trips the interlock: SEQ_INTERLOCK with F4. -/
def Obligations.GateInterlockTrips : Prop :=
  ∀ (i : Fin 64) (k : Fin 8) (h : Nat) (frame : Fin 4) (tick : Fin 50) (obs : List EdgeObs) (s : State),
    s.dev.ctl.state ≠ .off → tick.val ≤ 42 →
    (s.dev.island i).link = 2 → (s.dev.island i).safe = false → (s.dev.island i).armed →
    h ∈ complementChans (8 * i + k) → (s.dev.chan h).cmdOn →
    ∃ t : State, exec (.gateCommand i [(k, true)] frame tick obs) s = .next t ∧ t.dev.hasFault .seqInterlock .module 4

/-- R53 to R58, R416, R436: the warp link of an island, its safe preset, training and re-arming. R59 to R64: short-circuit
protection and the turn-off order of a three-level leg. -/
def Obligations.WarpLinkEvents : Prop :=
  (∀ (i : Fin 64) (f : WarpFrame) (s : State), s.dev.ctl.state ≠ .off → s.dev.cross.timebaseStopped = false →
      exec (.warpFrame i f false) s = .next (s.onDev (Device.onIsland i fun x => { x with crcErr := min 255 (x.crcErr + 1) })))
  ∧ (∀ (i : Fin 64) (f : WarpFrame) (s : State), (s.dev.island i).link ≠ 2 → exec (.warpFrame i f true) s = .next s)
  ∧ (∀ (i : Fin 64) (f : WarpDown) (s : State), s.dev.ctl.state ≠ .off → s.dev.cross.timebaseStopped = false →
      (s.dev.island i).link = 2 → f.epoch.toNat ≠ (s.dev.island i).epoch →
      exec (.warpFrame i (.down f) true) s = .next (s.onDev (epochDiscard (13 + i))))
  ∧ (∀ (i : Fin 64) (f : WarpUp) (s : State), s.dev.ctl.state ≠ .off → s.dev.cross.timebaseStopped = false →
      (s.dev.island i).link = 2 → f.epoch.toNat ≠ (s.dev.island i).epoch →
      exec (.warpFrame i (.up f) true) s = .next (s.onDev (epochDiscard (13 + i))))
  ∧ (∀ (i : Fin 64) (f : WarpDown) (s : State), s.dev.ctl.state ≠ .off → s.dev.cross.timebaseStopped = false →
      (s.dev.island i).link = 2 → f.epoch.toNat = (s.dev.island i).epoch →
      exec (.warpFrame i (.down f) true) s = .next (s.onDev fun d =>
        let sg := stageOfIsland i
        let free := f.clear && d.enablePin sg.group && !(gateLatched.any fun n => d.activeAt n (.stage sg))
        let turn := f.bank && decide (d.od.lastCommit ≠ d.now)
        (d.onIsland i fun x =>
            let x := Island.setPreset f.presetOn f.cls sg d.now { x with
              enable := f.enable, bank := if turn then !x.bank else x.bank
              chans := if free then x.chans.map GateChan.unlatch else x.chans }
            match f.set with
            | some w => if x.credits = 0 then x else { x.setting w with credits := x.credits - 1 }
            | none => x).each (f.cmd.filter fun c => c.2.2.val ≤ 42) fun c =>
          gateCommands i (d.now + 5 * (50 * f.frame.val + c.2.2.val)) [(c.1, c.2.1)]))
  ∧ (∀ (i : Fin 64) (f : WarpUp) (s : State), s.dev.ctl.state ≠ .off → s.dev.cross.timebaseStopped = false →
      (s.dev.island i).link = 2 → f.epoch.toNat = (s.dev.island i).epoch →
      exec (.warpFrame i (.up f) true) s = .next (s.onDev (warpUp i f)))
  ∧ (∀ (i : Fin 64) (f : WarpUp) (d : Device), f.ack = [] → f.flt = [] → f.uv = [] → f.temp = none →
      warpUp i f d = d.onIsland i fun x => { x with credits := min 4 (x.credits + f.credit) })
  ∧ (∀ (i : Fin 64) (frame : Fin 4) (s : State), (s.dev.island i).unacked = none →
      exec (.warpAckTimeout i frame) s = .next s)
  ∧ (∀ (i : Fin 64) (frame : Fin 4) (l : List (Fin 8 × Bool)) (n : Nat) (s : State), s.dev.ctl.state ≠ .off →
      (s.dev.island i).unacked = some (l, n) → n ≤ 1 →
      exec (.warpAckTimeout i frame) s = .next (s.onDev fun d => d.onIsland i fun x => { x with
        missed := (x.missed.filter fun m => decide (d.now < m.2.2 + 1000)) ++ l.map fun c => (c.1, frame, d.now)
        unacked := some (l, 2), noack := min 255 (x.noack + 1) }))
  ∧ (∀ (i : Fin 64) (frame : Fin 4) (l : List (Fin 8 × Bool)) (n : Nat) (s : State), s.dev.ctl.state ≠ .off →
      (s.dev.island i).unacked = some (l, n) → 1 < n →
      exec (.warpAckTimeout i frame) s = .next (s.onDev fun d =>
        let d := raiseActs .warpNoack (.stage (stageOfIsland i)) 3 (islandActs i) (d.onIsland i fun x => { x with
          missed := (x.missed.filter fun m => decide (d.now < m.2.2 + 1000)) ++ l.map fun c => (c.1, frame, d.now)
          unacked := none })
        d.onIsland i fun x => { x.enterPreset (stageOfIsland i) d.now with notAcked := true }))
  ∧ (∀ s : State, s.dev.ctl.state ≠ .off → exec .safePresetUpdate s = .next (s.onDev fun d =>
      let d := d.each (List.range 64) fun i d =>
        if (d.island i).link = 2 then
          d.onIsland i (Island.setPreset (d.presetOf i).1 (d.presetOf i).2 (stageOfIsland i) d.now)
        else d
      if d.ctl.state != .boot && d.ctl.state != .calibrating then ascCheck .b (ascCheck .a d) else d))
  ∧ (∀ (i : Fin 64) (late : Bool) (s : State), (s.dev.island i).link = 2 →
      exec (.warpSilent i late) s = .next (s.onDev fun d => lateMisc late
        (raiseActs .warpSilent (.stage (stageOfIsland i)) 3 (islandActs i)
          (d.onIsland i fun x => { x.enterPreset (stageOfIsland i) d.now with link := 3, silent := true }))))
  ∧ (∀ (i : Fin 64) (late : Bool) (s : State), (s.dev.island i).link ≠ 2 → exec (.warpSilent i late) s = .next s)
  ∧ (∀ (i : Fin 64) (u : Nanos) (s : State), (s.dev.island i).presetDue = some u → u + 1000 ≤ s.dev.now →
      (s.dev.island i).presetOn = false → exec (.presetClassBOff i) s = .next (s.onDev fun d => d.onIsland i fun x =>
        { x.gates false (stageOfIsland i) d.now with presetDue := none }))
  ∧ (∀ (i : Fin 64) (u : Nanos) (s : State), (s.dev.island i).presetDue = some u →
      u + 5 * Cfg.deadT s.dev.cfg (stageOfIsland i).num < s.dev.now →
      (s.dev.island i).presetOn = true → exec (.presetClassCOn i) s = .next (s.onDev fun d => d.onIsland i fun x =>
        { x.gates true (stageOfIsland i) d.now with presetDue := none }))
  ∧ (∀ (i : Fin 64) (s : State), s.dev.ctl.state ≠ .off → (s.dev.island i).link = 1 →
      ∃ t : State, exec (.islandTrained i) s = .next t ∧ t.pending = s.pending ∧ t.otp = s.otp
        ∧ t.dev.gates = (s.dev.onIsland i fun x => { x with
            link := 2, epoch := (x.epoch + 1) % 16, armed := false, safe := true, credits := 4, unacked := none
            missed := [], params0 := profileOf s.dev.cfg (stageOfIsland i).num
            params1 := profileOf s.dev.cfg (stageOfIsland i).num }).gates
        ∧ t.dev.ctl = s.dev.ctl ∧ t.dev.faults = s.dev.faults)
  ∧ (∀ (i : Fin 64) (s : State), (s.dev.island i).link ≠ 1 → exec (.islandTrained i) s = .next s)
  ∧ (∀ (i : Fin 64) (s : State), s.dev.ctl.state ≠ .off → (s.dev.island i).link = 2 → (s.dev.island i).safe →
      s.dev.stageIdle (stageOfIsland i) → s.dev.enablePin (stageOfIsland i).group → s.dev.stoFree (stageOfIsland i) →
      (s.dev.island i).otPending = false →
      ∃ t : State, exec (.islandRearm i) s = .next t ∧ t.pending = s.pending ∧ t.otp = s.otp ∧ t.dev.ctl = s.dev.ctl
        ∧ t.dev.gates = (s.dev.onIsland i fun x => { x.gates false (stageOfIsland i) s.dev.now with
            armed := true, safe := false, presetDue := none, silent := false, notAcked := false }).gates)
  ∧ (∀ (i : Fin 64) (s : State), s.dev.enablePin (stageOfIsland i).group = false → exec (.islandRearm i) s = .next s)
  ∧ (∀ (g : Fin 512) (tick : Fin 200) (s : State), (s.dev.chan g).desatArmed → (s.dev.chan g).gateOn →
      s.dev.blankEnd g ≤ s.dev.now + 5 * tick →
      ∃ t : State, exec (.desatDetect g tick) s = .next t ∧ t.pending = s.pending ∧ t.otp = s.otp
        ∧ t.dev = positionTrip .desat g (s.dev.now + 5 * tick) s.dev ∧ t.dev.hasFault .desat (.stage (stageOfChan g)) 3)
  ∧ (∀ (g : Fin 512) (tick : Fin 200) (s : State), (s.dev.chan g).gateOn = false → exec (.desatDetect g tick) s = .next s)
  ∧ (∀ (g : Fin 512) (tick : Fin 200) (s : State), s.dev.ctl.state ≠ .off →
      ∃ t : State, exec (.didtDetect g tick) s = .next t ∧ t.pending = s.pending ∧ t.otp = s.otp
        ∧ t.dev = positionTrip .didtShort g (s.dev.now + 5 * tick) s.dev ∧ t.dev.hasFault .didtShort (.stage (stageOfChan g)) 3)
  ∧ (∀ (i : Fin 64) (tick : Fin 200) (s : State), s.dev.ctl.state ≠ .off → exec (.softTEnd i tick) s = .next (s.onDev fun d =>
      d.onIsland i fun x =>
        let ends := fun (u : SoftOff) =>
          (decide (u.start + 50 * x.param 15 (dHvLv 10 4 (stageOfIsland i).num) ≤ d.now + 5 * tick) && (!u.inner || u.outerAcked))
            || (u.inner && decide (u.start + 1000 ≤ d.now + 5 * tick))
        { x with chans := x.chans.map fun c => if c.soft.any ends then
          { c with soft := none, gateOn := false, cmdOn := false, desatArmed := false } else c }))
  ∧ (∀ (p : PortId) (ph : Phase) (s : State),
      ((s.dev.eng p).leg ph).level.isInner = false ∨ lasted s.dev.now ((s.dev.eng p).leg ph).outerAt 1000 = false →
      exec (.innerTurnOff (.port p ph)) s = .next s)
  ∧ (∀ (p : PortId) (ph : Phase) (s : State), s.dev.ctl.state ≠ .off → ((s.dev.eng p).leg ph).level.isInner →
      lasted s.dev.now ((s.dev.eng p).leg ph).outerAt 1000 → exec (.innerTurnOff (.port p ph)) s = .next (s.onDev fun d =>
        let d := d.each [1, 2, 4, 5] fun pos => issuePos false (posIsland p ph pos)
        let d := d.onEng p fun e => { e.onLeg ph fun _ => {} with changesNow := e.changesNow ++ [(ph.num, 24, .allOff)] }
        if (d.eng p).allOff then portAllOff p d else d))
  ∧ (∀ (n : Fin 3) (s : State), s.dev.ctl.state ≠ .off →
      lasted s.dev.now (s.dev.supply.conv.phases.getD n {}).outerAt 1000 →
      exec (.innerTurnOff (.conv n)) s = .next (s.onDev (convInnerOff n)))
  ∧ (∀ (n : Fin 3) (s : State), lasted s.dev.now (s.dev.supply.conv.phases.getD n {}).outerAt 1000 = false →
      exec (.innerTurnOff (.conv n)) s = .next s)

/-- R66 to R72: enable pins, the reed balancer, die loss and its retest. Each row completes with the whole effect given, for
every operand. -/
def Obligations.EnableAndDieEvents : Prop :=
  (∀ (e : EnableGroup) (s : State), s.dev.ctl.state ≠ .off → exec (.enableLow e) s = .next (s.onDev fun d =>
      let d := setEnable e false d
      let d := d.each (groupIslands e) fun i => Device.onIsland i fun x =>
        { x.enterPreset (stageOfIsland i) d.now with enable := false }
      let d := { d with inj := { d.inj with
        lowBy := if d.forced 0x0208 e.num then e.num :: d.inj.lowBy.filter fun k => k != e.num else d.inj.lowBy } }
      let d := if e = .enAux then { d with supply := { d.supply with aux := { d.supply.aux with crowbar := false } } } else d
      raise .enableLow (.group e) 3 d))
  ∧ (∀ (e : EnableGroup) (s : State), s.dev.ctl.state ≠ .off → ∃ t : State, exec (.enableLow e) s = .next t
      ∧ t.pending = s.pending ∧ t.otp = s.otp ∧ t.dev.hasFault .enableLow (.group e) 3)
  ∧ (∀ (e : EnableGroup) (lowNs : Nat) (still : List (FaultName × Scope)) (s : State), s.dev.ctl.state ≠ .off →
      lowNs < 10000 → s.dev.inj.lowBy.contains e.num = false →
      exec (.enableRise e lowNs still) s = .next (s.onDev fun d =>
        (clearFault .enableLow (.group e) (setEnable e true d)).each (groupIslands e) fun i =>
          Device.onIsland i fun x => { x with enable := true }))
  ∧ (∀ (e : EnableGroup) (lowNs : Nat) (still : List (FaultName × Scope)) (s : State), s.dev.ctl.state ≠ .off →
      10000 ≤ lowNs → s.dev.inj.lowBy.contains e.num = false →
      exec (.enableRise e lowNs still) s = .next (s.onDev fun d =>
        let d := (clearFault .enableLow (.group e) (setEnable e true d)).each (groupIslands e) fun i =>
          Device.onIsland i fun x => { x with enable := true }
        groupExtra e still (d.each e.stages (unlatchStage still))))
  ∧ (∀ (e : EnableGroup) (lowNs : Nat) (still : List (FaultName × Scope)) (s : State), s.dev.ctl.state ≠ .off →
      s.dev.inj.lowBy.contains e.num = true →
      exec (.enableRise e lowNs still) s = .next (s.onDev fun d =>
        let d := (clearFault .enableLow (.group e) (setEnable e true d)).each (groupIslands e) fun i =>
          Device.onIsland i fun x => { x with enable := true }
        { d with inj := { d.inj with lowBy := d.inj.lowBy.filter fun k => k != e.num } }))
  ∧ (∀ (still : List (FaultName × Scope)) (sg : StageGroup) (f : FaultName) (d : Device), f ∈ gateLatched →
      (∀ sc : Scope, (f, sc) ∉ still) → (unlatchStage still sg d).activeAt f (.stage sg) = false)
  ∧ (∀ s : State, s.dev.ctl.state ≠ .off → exec .reedUpdate s = .next (s.onDev fun d =>
      let d := d.each ((List.range 512).filter fun g => d.reedOn g && !d.gates.reedLate.contains (g / 8)) reedDie
      if Cfg.reedMode d.cfg = 2 then
        d.each (List.range 512) fun g => Device.onChan g fun c => { c with reedHold := some (expertTrim d.cfg g) }
      else d))
  ∧ (∀ s : State, (∀ g : Nat, g < 512 → s.dev.reedOn g = false) → Cfg.reedMode s.dev.cfg ≠ 2 → exec .reedUpdate s = .next s)
  ∧ (∀ (g : Fin 512) (u : Nanos) (s : State), (s.dev.chan g).satSince = some u →
      u + sec (Cfg.reedSatTime s.dev.cfg) ≤ s.dev.now →
      exec (.reedSaturated g) s = .next (s.onDev (raise .reedSaturated (.channel g) 0)))
  ∧ (∀ (g : Fin 512) (s : State), s.dev.forced 0x020A g = true →
      exec (.reedSaturated g) s = .next (s.onDev (raise .reedSaturated (.channel g) 0)))
  ∧ (∀ (g : Fin 512) (s : State), (s.dev.chan g).satSince = none → s.dev.forced 0x020A g = false →
      exec (.reedSaturated g) s = .next s)
  ∧ (∀ (h u : List (Fin 512)) (s : State), s.dev.ctl.state ≠ .off → exec (.gateLeakWindow h u) s = .next (s.onDev fun d =>
      d.each (List.range 512) fun g d =>
        if (d.chan g).disabled || (u.map Fin.val).contains g then d
        else if (h.map Fin.val).contains g || d.forced 0x0205 g then
          let d := d.onChan g fun c => { c with leakRun := c.leakRun + 1 }
          if 3 ≤ (d.chan g).leakRun then dieLost 1 g d else d
        else d.onChan g fun c => { c with leakRun := 0 }))
  ∧ (∀ s : State, s.dev.ctl.state ≠ .off → exec (.gateLeakWindow [] (List.ofFn id)) s = .next s)
  ∧ (∀ (q : Path) (s : State), s.dev.takes q .v false → s.dev.gates.retestState ≠ 1 →
      s.dev.ctl.state = .standby ∨ s.dev.ctl.state = .service → exec (.dieRetest q) s = .next (s.onDev fun d =>
        let d := touchPath q d
        answer q Abort.ok [] { d with gates := { d.gates with retestState := 1 } }))
  ∧ (∀ (q : Path) (s : State), s.dev.takes q .v false → s.dev.gates.retestState = 1 →
      exec (.dieRetest q) s = .next (s.onDev fun d => answer q Abort.busy [] (touchPath q d)))
  ∧ (∀ (q : Path) (s : State), s.dev.takes q .v false → s.dev.gates.retestState ≠ 1 →
      s.dev.ctl.state ≠ .standby → s.dev.ctl.state ≠ .service →
      exec (.dieRetest q) s = .next (s.onDev fun d => answer q Abort.state [] (touchPath q d)))
  ∧ (∀ (passed : List (Fin 512)) (s : State), s.dev.gates.retestState = 1 →
      exec (.dieRetestDone passed) s = .next (s.onDev fun d =>
        let gs := (List.range 512).filter fun g =>
          (passed.map Fin.val).contains g && (d.chan g).disabled && (d.dieCause g == 1 || d.dieCause g == 2)
        let d := d.each gs dieReturn
        { d with gates := { d.gates with retestState := 2, retestResult := gs.length } }.each (Scope.stages .module)
          dieLostReview))
  ∧ (∀ (passed : List (Fin 512)) (s : State), s.dev.gates.retestState ≠ 1 → exec (.dieRetestDone passed) s = .next s)

/-! ## Torque and flux engine (chapter 3) -/

/-- R14, R17, R51, R77, R94, R102: the decision of a beat, its output tick, the turn-on after DEAD_T, the restoring of the
draft table. -/
def Obligations.EngineDecisions : Prop :=
  (∀ (p : PortId) (ticks : Nat) (s : State), s.dev.ctl.state ≠ .off → ticks < 140 → (s.dev.eng p).late = false →
      ∃ t : State, exec (.tractionDecision p ticks) s = .next t ∧ t.pending = s.pending ∧ t.otp = s.otp
        ∧ (t.dev.eng p).holding ≠ none ∧ t.dev.gates = s.dev.gates ∧ t.dev.supply = s.dev.supply)
  ∧ (∀ (p : PortId) (ticks : Nat) (s : State), 140 ≤ ticks ∨ (s.dev.eng p).late = true →
      exec (.tractionDecision p ticks) s = .next s)
  ∧ (∀ (p : PortId) (s : State), (s.dev.eng p).holding = none → exec (.outputTick p) s = .next s)
  ∧ (∀ (p : PortId) (dec : Decision) (s : State), s.dev.ctl.state ≠ .off → (s.dev.eng p).holding = some dec →
      dec.code = none ∨ ((s.dev.eng p).selecting = false ∧ (s.dev.eng p).angleTest = none) →
      exec (.outputTick p) s = .next (s.onDev fun d => d.onEng p fun e => { e with
        holding := none, sel := dec.sel, dwellHold := dec.dwellHold
        commCount := if dec.commute then (e.commCount + 1) % 2 ^ 32 else e.commCount
        lastComm := if dec.commute then d.now else e.lastComm }))
  ∧ (∀ (p : PortId) (dec : Decision) (c : Nat) (s : State), s.dev.ctl.state ≠ .off → (s.dev.eng p).holding = some dec →
      dec.code = some c → (s.dev.eng p).selecting ∨ (s.dev.eng p).angleTest ≠ none →
      ∃ t : State, exec (.outputTick p) s = .next t
        ∧ t.pending = s.pending ∧ t.otp = s.otp ∧ (t.dev.eng p).code = c ∧ (t.dev.eng p).applied = s.dev.now + 700
        ∧ (t.dev.eng p).sel = dec.sel ∧ (t.dev.eng p).holding = none ∧ t.dev.ctl = s.dev.ctl ∧ t.dev.faults = s.dev.faults)
  ∧ (∀ (p : PortId) (ph : Phase) (s : State), ((s.dev.eng p).leg ph).pending = none →
      exec (.deadTTurnOn p ph) s = .next s)
  ∧ (∀ (p : PortId) (ph : Phase) (on : List Nat) (due off : Nanos) (s : State),
      ((s.dev.eng p).leg ph).pending = some (on, due, off) → s.dev.now + 1000 ≤ due →
      exec (.deadTTurnOn p ph) s = .next s)
  ∧ (∀ (p : PortId) (ph : Phase) (on : List Nat) (due off : Nanos) (s : State), s.dev.ctl.state ≠ .off →
      ((s.dev.eng p).leg ph).pending = some (on, due, off) → due < s.dev.now + 1000 →
      exec (.deadTTurnOn p ph) s = .next (s.onDev fun d =>
        let d := d.each on fun pos => issuePosAt due true (posIsland p ph pos)
        legStep p ph due (d.onEng p (Engine.onLeg ph fun l => { l with pending := none }))))
  ∧ (∀ (q : Path) (p : PortId) (s : State), s.dev.takes q .e false → s.dev.stageRefusal q = Abort.ok →
      exec (.draftRestore q p) s = .next (s.onDev fun d => answer q Abort.ok []
        ((touchPath q d).each (List.range 240) fun i => stage q (0x618001 + p.num * 0x80000 + i) (dDraft i))))

/-- R90, R96 to R100, R104, R106: the limiter, the voltage limit and the engine's checks. Each row completes with the whole effect
given, and leaves the state as it is where its condition does not hold. -/
def Obligations.EngineMonitors : Prop :=
  (∀ (p : PortId) (s : State), s.dev.ctl.state ≠ .off → exec (.fswLimiter p) s = .next (s.onDev fun d =>
      let e := d.eng p
      let hist := (e.stepsNow :: e.stepHist).take 50
      let n := hist.sum
      let lim := Cfg.fswMax d.cfg p
      let scale :=
        if 3 * lim < n ∧ e.fswScale < 256 then e.fswScale + 1
        else if 10 * n < 27 * lim ∧ e.dwellExt = 0 then max (e.fswScale - 1) 64 else e.fswScale
      let ext :=
        if 3 * lim < n ∧ 256 ≤ e.fswScale then min (e.dwellExt + 1) 100
        else if 10 * n < 27 * lim ∧ 0 < e.dwellExt then e.dwellExt - 1 else e.dwellExt
      let d := d.onEng p fun e => { e with
        stepHist := hist, stepsNow := 0, fAvg := n * 1000 / 3, fswScale := scale, dwellExt := ext }
      if ext = 0 then clearFault .fswDwellExt (.port p) d else d))
  ∧ (∀ (p : PortId) (s : State), s.dev.dwellAbove p → s.dev.held (.dwell p) 10000000 →
      exec (.fswDwellExt p) s = .next (s.onDev (raise .fswDwellExt (.port p) 0)))
  ∧ (∀ (p : PortId) (s : State), s.dev.dwellAbove p = false ∨ s.dev.held (.dwell p) 10000000 = false →
      exec (.fswDwellExt p) s = .next s)
  ∧ (∀ (p : PortId) (s : State), s.dev.voltAbove p (Cfg.vlimOn s.dev.cfg p) →
      exec (.vlimEnter p) s = .next (s.onDev (Device.onEng p fun e => { e with vlim := true })))
  ∧ (∀ (p : PortId) (s : State), s.dev.voltAbove p (Cfg.vlimOn s.dev.cfg p) = false → exec (.vlimEnter p) s = .next s)
  ∧ (∀ (p : PortId) (s : State), s.dev.voltAbove p (Cfg.vlimOff s.dev.cfg p) = false →
      exec (.vlimExit p) s = .next (s.onDev (Device.onEng p fun e => { e with vlim := false })))
  ∧ (∀ (p : PortId) (s : State), s.dev.voltAbove p (Cfg.vlimOff s.dev.cfg p) → exec (.vlimExit p) s = .next s)
  ∧ (∀ s : State, s.dev.anySelecting → s.dev.npAbove (1 / 2) → s.dev.held .npWarn 1000000 →
      exec .npDevWarn s = .next (s.onDev (raise .npDevWarn .bothPorts 0)))
  ∧ (∀ s : State, s.dev.anySelecting → s.dev.npAbove 1 → s.dev.held .npHigh 10000 →
      exec .npDevHigh s = .next (s.onDev (raise .npDevHigh .bothPorts 3)))
  ∧ (∀ s : State, s.dev.anySelecting = false → exec .npDevWarn s = .next s ∧ exec .npDevHigh s = .next s)
  ∧ (∀ (p : PortId) (s : State), (s.dev.eng p).fluxBuild →
      lasted s.dev.now (s.dev.eng p).fluxSince (1000000 * Cfg.fluxBuildT s.dev.cfg p) ∨ s.dev.forced 0x0302 p.num →
      exec (.fluxBuildFail p) s = .next (s.onDev (raise .fluxBuildFail (.port p) 3)))
  ∧ (∀ (p : PortId) (s : State), (s.dev.eng p).fluxBuild = false → exec (.fluxBuildFail p) s = .next s)
  ∧ (∀ (p : PortId) (a : AngleTest) (s : State), (s.dev.eng p).angleTest = some a → a.pausing = false →
      a.start + 1000 * Cfg.initPulseT s.dev.cfg p ≤ s.dev.now ∨ 226 ≤ (s.dev.eng p).iTop →
      exec (.angleTestPulseEnd p) s = .next (s.onDev fun d => d.onEng p fun e =>
        { e with angleTest := some { a with
            pausing := true, start := d.now, peak := 0, peaks := a.peaks ++ [max a.peak e.iTop] } }))
  ∧ (∀ (p : PortId) (s : State), (s.dev.eng p).angleTest = none →
      exec (.angleTestPulseEnd p) s = .next s ∧ exec (.angleTestPauseEnd p) s = .next s)
  ∧ (∀ (p : PortId) (a : AngleTest) (s : State), (s.dev.eng p).angleTest = some a → a.pausing = true →
      a.start + 100000 ≤ s.dev.now ∨ (s.dev.eng p).iTop < 2 → a.pulse < 5 →
      exec (.angleTestPauseEnd p) s = .next (s.onDev fun d => d.onEng p fun e =>
        { e with angleTest := some { a with pausing := false, start := d.now, pulse := a.pulse + 1 } }))
  ∧ (∀ (p : PortId) (a : AngleTest) (th : Rat) (s : State), (s.dev.eng p).angleTest = some a → a.pausing = true →
      a.start + 100000 ≤ s.dev.now ∨ (s.dev.eng p).iTop < 2 → 5 ≤ a.pulse →
      testAngle a.peaks = some th → s.dev.forced 0x0302 p.num = false →
      exec (.angleTestPauseEnd p) s = .next (s.onDev fun d => d.onEng p fun e =>
        let psi := Vec.polar (Cfg.psiM d.cfg p) th
        { e with psi := psi, we := 0, wslip := 0, theta := Vec.angle psi, flux := Vec.mag psi, angles := [], eps := []
                 angleTest := none, initDone := true, holding := none
                 sel := { tl := 0, fl := true, npb := e.sel.npb, sector := sectorOf (Vec.angle psi) } }))
  ∧ (∀ (p : PortId) (a : AngleTest) (s : State), (s.dev.eng p).angleTest = some a → a.pausing = true →
      a.start + 100000 ≤ s.dev.now ∨ (s.dev.eng p).iTop < 2 → 5 ≤ a.pulse →
      testAngle a.peaks = none ∨ s.dev.forced 0x0302 p.num = true → exec (.angleTestPauseEnd p) s = .next (s.onDev fun d =>
        raise .initAngleFail (.port p) 3 (d.onEng p fun e => { e with angleTest := none })))
  ∧ (∀ (p : PortId) (s : State), s.dev.idifAbove p → s.dev.held (.idif p) 100000 →
      exec (.idifHigh p) s = .next (s.onDev (raise .idifHigh (.port p) 1)))
  ∧ (∀ (p : PortId) (s : State), s.dev.fluxAbove p → s.dev.held (.diverge p) 10000 →
      exec (.fluxDiverge p) s = .next (s.onDev (raise .fluxDiverge (.port p) 3)))
  ∧ (∀ (p : PortId) (d : Device), (d.eng p).pairDec → (Cfg.idifMax d.cfg p : Rat) < (d.eng p).idif → d.idifAbove p)
  ∧ (∀ (p : PortId) (d : Device), 3 / 2 * Cfg.ratedFlux d.cfg p < (d.eng p).flux → d.fluxAbove p)
  ∧ (∀ (p : PortId) (d : Device), 0 < (d.eng p).dwellExt → d.dwellAbove p)

/-- R91: the entry of the draft table used in a beat, and where the dictionary holds it. -/
def Obligations.DraftTableEntry : Prop :=
  (∀ (tl : Int) (fl npb : Bool) (k : Nat), -2 ≤ tl → tl ≤ 2 → k < 12 →
    let fi := if fl then 0 else 1
    let ti := (2 - tl).toNat
    draftIndex { tl := tl, fl := fl, npb := npb, sector := k } = 24 * (5 * fi + ti) + 2 * k + (if npb then 1 else 0)
      ∧ draftIndex { tl := tl, fl := fl, npb := npb, sector := k } < 240)
  ∧ (∀ (S : Settings) (e : Nat), e < 240 →
      Cfg.draftTable S .a e = S.raw (0x6180 * 256 + (e + 1)) (dDraft e)
        ∧ Cfg.draftTable S .b e = S.raw (0x6980 * 256 + (e + 1)) (dDraft e))
  ∧ (∀ e : Nat, e < 240 → dDraft e ≤ 26)
  ∧ (∀ v : RuleView, rule303 v = false → (∀ e : Nat, e < 240 → v.S.lookup (0x618001 + e) ≠ none →
      Cfg.draftTable v.S .a e ≤ 26) ∧ (∀ e : Nat, e < 240 → v.S.lookup (0x698001 + e) ≠ none → Cfg.draftTable v.S .b e ≤ 26))
  ∧ (∀ (d : Device) (p : PortId) (x : Selection), (d.eng p).vlim = false →
      isZero (Cfg.draftTable d.cfg p (draftIndex x)) = false →
      d.wanted p x = Cfg.draftTable d.cfg p (draftIndex x))

/-- R85, R86: the selection state of a port keeps its ranges, the sector moves by one at most, and outside both inner bands
the torque level follows the sign of the error. -/
def Obligations.SelectionRanges : Prop :=
  (∀ (k hys : Nat) (th : Rat), k < 12 →
    sectorNext k hys th < 12 ∧ (sectorNext k hys th = k ∨ sectorNext k hys th = (k + 1) % 12 ∨ sectorNext k hys th = (k + 11) % 12))
  ∧ (∀ (k hys : Nat) (th : Rat), ratAbs (wrapDeg (th - 30 * k)) ≤ 15 + (hys : Rat) / 10 → sectorNext k hys th = k)
  ∧ (∀ (tl : Int) (e h1 h2 : Rat), -2 ≤ tl → tl ≤ 2 → -2 ≤ torqueLevel tl e h1 h2 ∧ torqueLevel tl e h1 h2 ≤ 2)
  ∧ (∀ (tl : Int) (e h1 h2 : Rat), 0 < h1 → h1 < h2 → -2 ≤ tl → tl ≤ 2 →
      (h2 ≤ e → torqueLevel tl e h1 h2 = 2) ∧ (e ≤ -h2 → torqueLevel tl e h1 h2 = -2)
        ∧ (h1 ≤ e → e < h2 → 1 ≤ torqueLevel tl e h1 h2) ∧ (e ≤ -h1 → -h2 < e → torqueLevel tl e h1 h2 ≤ -1))
  ∧ ∀ th : Rat, sectorOf th < 12

/-! ## Traction ports (chapter 4) -/

/-- R112 to R114, R133: the drive request and the sources of the speed curve. -/
def Obligations.PortInputs : Prop :=
  (∀ (q : Path) (p : PortId) (v : BitVec 8) (s : State), s.dev.takes q .b false → v.toNat ≤ 1 →
      exec (.driveRequestWrite q p v) s = .next (s.onDev fun d =>
        let d := touchPath q d
        answer q Abort.ok [] ((inputWritten p (pushLive (driveRequestKey p) v.toNat d)).onPort p fun x =>
          { x with afresh := x.afresh && Cfg.curveSrc d.cfg p != 0 })))
  ∧ (∀ (q : Path) (p : PortId) (v : BitVec 8) (s : State), s.dev.takes q .b false → 1 < v.toNat →
      exec (.driveRequestWrite q p v) s = .next (s.onDev fun d => answer q Abort.range [] (touchPath q d)))
  ∧ (∀ (q : Path) (p : PortId) (v : W32) (s : State), s.dev.takes q .b false → v.toNat / 2 ^ 23 % 256 ≠ 255 →
      exec (.speedInputWrite q p v) s = .next (s.onDev fun d =>
        answer q Abort.ok [] (inputWritten p (pushLive (speedInputKey p) v.toNat (touchPath q d)))))
  ∧ (∀ (q : Path) (p : PortId) (v : W32) (s : State), s.dev.takes q .b false → v.toNat / 2 ^ 23 % 256 = 255 →
      exec (.speedInputWrite q p v) s = .next (s.onDev fun d => answer q Abort.range [] (touchPath q d)))
  ∧ (∀ (p : PortId) (late : Bool) (s : State), s.dev.ctl.state ≠ .off → s.dev.inputTimedOut p →
      exec (.speedInputTimeout p late) s = .next (s.onDev fun d => lateMisc late
        (raise .curveSrcInvalid (.port p) 0 ((pushLive (driveRequestKey p) 0 d).onPort p fun x =>
          { x with inputInvalid := true, afresh := true, engaged := false }))))
  ∧ (∀ (p : PortId) (late : Bool) (s : State), s.dev.inputTimedOut p = false → exec (.speedInputTimeout p late) s = .next s)
  ∧ (∀ (u : Nanos) (late : Bool) (s : State), s.dev.fin.lastEdge = some u → u + 1000000000 ≤ s.dev.now →
      s.dev.fin.silent = false → exec (.finTimeout late) s = .next (s.onDev fun d =>
        let d := { d with fin := { d.fin with silent := true } }
        lateMisc late (d.each d.finPorts fun p d => if (d.finValue p).isNone then inputLost p d else d)))
  ∧ (∀ (late : Bool) (s : State), s.dev.fin.lastEdge = none ∨ s.dev.fin.silent → exec (.finTimeout late) s = .next s)
  ∧ (∀ (period : Nat) (u : Nanos) (s : State), s.dev.ctl.state ≠ .off → s.dev.fin.lastEdge = some u → 0 < period →
      s.dev.finPorts = [] → exec (.finEdge period) s = .next (s.onDev fun d => { d with fin :=
        { lastEdge := some d.now, silent := false, freq := 1000000000 / (period : Rat) } }))
  ∧ (∀ (period : Nat) (s : State), s.dev.ctl.state ≠ .off → exec (.finEdge period) s = .next (s.onDev fun d =>
      let d := { d with fin := {
        lastEdge := some d.now, silent := false
        freq := if d.fin.lastEdge.isNone || period == 0 then d.fin.freq else 1000000000 / (period : Rat) } }
      d.each d.finPorts fun p d =>
        if (d.finValue p).isSome && (d.port p).inputInvalid then inputFound p d
        else if (d.finValue p).isNone && !(d.port p).inputInvalid then inputLost p d else d))

/-- R119 to R128: catching, the ends of stops, locked rotor, the observer's repetition, the terminal-voltage speed. -/
def Obligations.PortEvents : Prop :=
  (∀ (p : PortId) (s : State), (s.dev.port p).state = .catching → (s.dev.port p).catchStep = 1 →
      lasted s.dev.now (s.dev.port p).catchStart 2000000 →
      ∃ t : State, exec (.catchWindowEnd p) s = .next t ∧ t.pending = s.pending ∧ t.otp = s.otp ∧ t.dev.od = s.dev.od
        ∧ (s.dev.srcWheel p = none → emfBelow (s.dev.lineVolts p) (Cfg.catchEmfMin s.dev.cfg p) →
            Cfg.machineType s.dev.cfg p = 1 → s.dev.wheelAngle p = none →
            (t.dev.port p).catchStep = 2 ∧ (t.dev.eng p).angleTest = some { start := s.dev.now }))
  ∧ (∀ (p : PortId) (s : State), (s.dev.port p).state ≠ .catching ∨ (s.dev.port p).catchStep ≠ 1 →
      exec (.catchWindowEnd p) s = .next s)
  ∧ (∀ (p : PortId) (s : State), (s.dev.port p).state = .catching →
      lasted s.dev.now (s.dev.eng p).selStart 100000000 ∨ s.dev.forced 0x0401 p.num →
      (s.dev.eng p).obsConf < (Cfg.obsConfMin s.dev.cfg p : Rat) →
      exec (.catchFail p) s = .next (s.onDev (raise .catchFail (.port p) 3)))
  ∧ (∀ (p : PortId) (s : State), (Cfg.obsConfMin s.dev.cfg p : Rat) ≤ (s.dev.eng p).obsConf →
      exec (.catchFail p) s = .next s)
  ∧ (∀ (p : PortId) (s : State), 3 ≤ ((s.dev.port p).recatches.filter fun u => decide (s.dev.now < u + sec 10)).length →
      exec (.obsRepeat p) s = .next (s.onDev (raise .obsRepeat (.port p) 3)))
  ∧ (∀ (p : PortId) (s : State), (s.dev.port p).state = .stopping →
      lasted s.dev.now (s.dev.port p).stillSince 100000000 →
      (s.dev.port p).stop = .release → ∃ t : State, exec (.standstillHeld p) s = .next t ∧ t.pending = s.pending
        ∧ t.otp = s.otp ∧ (t.dev.port p).state = .armed ∧ t.dev.ctl = s.dev.ctl ∧ t.dev.faults = s.dev.faults)
  ∧ (∀ (p : PortId) (s : State), (s.dev.port p).state = .stopping →
      lasted s.dev.now (s.dev.port p).stillSince 100000000 →
      (s.dev.port p).stop = .disable ∨ (s.dev.port p).stop = .command → ∃ t : State, exec (.standstillHeld p) s = .next t
        ∧ t.pending = s.pending ∧ t.otp = s.otp ∧ (t.dev.port p).state = .disabled ∧ t.dev.ctl = s.dev.ctl
        ∧ t.dev.faults = s.dev.faults)
  ∧ (∀ (p : PortId) (s : State), (s.dev.port p).state = .stopping →
      lasted s.dev.now (s.dev.port p).stillSince 100000000 →
      (s.dev.port p).stop = .ss1 → (s.dev.psafe p).ss1 = false → ∃ t : State, exec (.standstillHeld p) s = .next t
        ∧ (t.dev.port p).state = .disabled ∧ (t.dev.psafe p).restartBlock = true)
  ∧ (∀ (p : PortId) (late : Bool) (s : State), (s.dev.port p).state = .stopping →
      (s.dev.port p).stop = .release ∨ (s.dev.port p).stop = .disable ∨ (s.dev.port p).stop = .command →
      (s.dev.port p).coasting = false → (s.dev.port p).stillSince = none →
      lasted s.dev.now (s.dev.port p).stopStart (sec (Cfg.stopTimeout s.dev.cfg p)) ∨ s.dev.forced 0x0401 p.num →
      exec (.stopTimeout p late) s = .next (s.onDev fun d => lateMisc late (raise .stopTimeout (.port p) 2 d)))
  ∧ (∀ (p : PortId) (late : Bool) (s : State), (s.dev.port p).stop = .f2 ∨ (s.dev.port p).stop = .ss1 →
      exec (.stopTimeout p late) s = .next s)
  ∧ (∀ (p : PortId) (s : State), (s.dev.port p).state = .stopping → (s.dev.port p).stop = .f2 → s.dev.f2Ended p →
      s.dev.wantsAsc p = false →
      ∃ t : State, exec (.f2StopEnd p) s = .next t ∧ t.pending = s.pending ∧ t.otp = s.otp ∧ (t.dev.port p).state = .sto)
  ∧ (∀ (p : PortId) (s : State), (s.dev.port p).state = .stopping → (s.dev.port p).stop = .f2 → s.dev.f2Ended p →
      s.dev.wantsAsc p → (s.dev.ascSet p).isSome →
      ∃ t : State, exec (.f2StopEnd p) s = .next t ∧ t.pending = s.pending ∧ t.otp = s.otp ∧ (t.dev.port p).state = .asc)
  ∧ (∀ (p : PortId) (s : State), (s.dev.port p).state = .running ∨ (s.dev.port p).state = .stopping →
      (s.dev.port p).locked = false →
      s.dev.forced 0x0402 p.num ∨ (s.dev.lrAbove p = true
        ∧ (s.dev.eng p).lastComm + ms (Cfg.lrTime s.dev.cfg p) ≤ s.dev.now
        ∧ lasted s.dev.now (s.dev.port p).lrAboveSince (ms (Cfg.lrTime s.dev.cfg p)) = true) → ∃ t : State,
        exec (.lockedRotor p) s = .next t
        ∧ t.pending = s.pending ∧ t.otp = s.otp ∧ t.dev.hasFault .locked (.port p) 1 ∧ (t.dev.port p).locked = true
        ∧ (t.dev.port p).lrCount = ((s.dev.port p).lrCount + 1) % 2 ^ 16
        ∧ (t.dev.port p).state = (s.dev.port p).state)
  ∧ (∀ (p : PortId) (s : State), (s.dev.port p).locked →
      s.dev.now < (s.dev.eng p).lastComm + ms (Cfg.lrTime s.dev.cfg p)
        ∨ ((s.dev.port p).state ≠ .running ∧ (s.dev.port p).state ≠ .stopping)
        ∨ (lasted s.dev.now (s.dev.port p).lrBelowSince 1000000000 = true ∧ Cfg.lrHold s.dev.cfg p = 0) →
      exec (.lockedClear p) s = .next (s.onDev fun d =>
        clearFault .locked (.port p) (d.onPort p fun x => { x with locked := false })))
  ∧ (∀ (p : PortId) (s : State), (s.dev.port p).locked = false → exec (.lockedClear p) s = .next s)
  ∧ (∀ (p : PortId) (l : Rat × Rat) (s : State), s.dev.ctl.state ≠ .off → (s.dev.eng p).allOff →
      s.dev.emfBefore p = some l → exec (.terminalSpeedUpdate p) s = .next (s.onDev fun d =>
        let l1 := d.lineVolts p
        let n := if emfBelow l1 (Cfg.catchEmfMin d.cfg p) then 0 else d.rpmOf p (emfSpeed l l1)
        d.onPort p fun x => { x with termSpeed := n, termAngle := (emfVec l1).angle, termValid := true }))
  ∧ (∀ (p : PortId) (s : State), (s.dev.eng p).allOff = false ∨ s.dev.emfBefore p = none →
      exec (.terminalSpeedUpdate p) s = .next s)

/-- R13, R18, R50, R54, R109, R384: what a beat does, in its order: time, pins, live settings, partner data, the fast-path latch and
the watched conditions; the causes that have ended; the islands and the blocks beside the ports; engagement and port transitions;
references and torque; the slots; the module's own transition. -/
def Obligations.BeatOrder : Prop :=
  (∀ (b : BeatInput) (s : State), s.dev.ctl.state ≠ .off → s.dev.cross.timebaseStopped = false →
    exec (.beatStart b) s = .next (s.onDev fun d =>
      let d := timeRole (pairFluxBeat (partnerSeen (takePartner (takeLive (beatPins b (beatTime d))))))
      let d := watchBeat (latchAll b.evals (busOffBeat d))
      let d := emfBeat .b (levelsBeat .b (latchPort .b (emfBeat .a (levelsBeat .a (latchPort .a d)))))
      let d := clearsBeat (d.each b.ended causeEnded)
      let d := d |> fwBeat ∘ isoBeat ∘ wheelsBeat ∘ gatesBeat |> bchgBeat ∘ chargeBeat ∘ supplyBeat
      let d := d.each [0, 1, 2, 3] actBeat
      let d := portBeat .b (portBeat .a (engagement .b (engagement .a d)))
      let d := slotBeat (driveBeat .b (driveBeat .a d))
      moduleBeat (sliceSettle d)))
  ∧ (∀ (b : BeatInput) (s : State), s.dev.ctl.state = .off ∨ s.dev.cross.timebaseStopped → exec (.beatStart b) s = .next s)
  ∧ (∀ d : Device, (beatTime d).ctl.now % 1000 = 0 ∧ d.ctl.now < (beatTime d).ctl.now
      ∧ (beatTime d).ctl.now ≤ d.ctl.now + 1000)
  ∧ (∀ (b : BeatInput) (d : Device), (beatPins b d).ctl.serviceNLow = b.serviceNLow
      ∧ (beatPins b d).ctl.pairOkIn = b.pairOkIn ∧ (beatPins b d).enablePin .enA = b.enA
      ∧ (beatPins b d).enablePin .enB = b.enB ∧ (beatPins b d).enablePin .enConv = b.enConv
      ∧ (beatPins b d).enablePin .enAux = b.enAux ∧ (b.pairStoIn = false → (beatPins b d).ctl.pairStoIn = false))
  ∧ (∀ d : Device, (takeLive d).od.live = [] ∧ (d.od.live = [] → (takeLive d).od.inForce = d.od.inForce)
      ∧ (takeLive d).od.inBeat = (takeLive d).od.inForce)
  ∧ (∀ (d : Device) (w : Watch) (u : Nanos), (watchBeat d).watch.lookup w = some u →
      (w, true) ∈ d.watched ∧ (d.watch.lookup w = none → u = d.now))

/-- R116, R117: T* lies within the port's ceiling, and the engine regulates to exactly that torque. -/
def Obligations.TorqueWithinCeiling : Prop :=
  ∀ (p : PortId) (d : Device), 0 ≤ ((torqueBeat p d).port p).ceiling →
    ratAbs ((torqueBeat p d).port p).torqueCmd ≤ ((torqueBeat p d).port p).ceiling
      ∧ ((torqueBeat p d).eng p).tStar = ((torqueBeat p d).port p).torqueCmd

/-- R130: the shares of a machine torque. Each lies within its module's ceiling, and together they give the torque wherever
the ceilings allow it. -/
def Obligations.TorqueShares : Prop :=
  ∀ t a1 c1 c2 : Rat, 0 ≤ a1 → a1 ≤ 100 → 0 ≤ c1 → 0 ≤ c2 →
    ratAbs (shares t a1 c1 c2).1 ≤ c1 ∧ ratAbs (shares t a1 c1 c2).2 ≤ c2
      ∧ (ratAbs t ≤ c1 + c2 → (shares t a1 c1 c2).1 + (shares t a1 c1 c2).2 = t)

/-- R115: one beat of the speed ramp moves the reference by no more than the rate in force, never past its target, and comes
to 0 before it changes sign. -/
def Obligations.SpeedRamp : Prop :=
  ∀ ref target up down : Rat, 0 ≤ up → 0 ≤ down →
    ratAbs (rampStep ref target up down - ref) ≤ max up down / 1000000
      ∧ min ref target ≤ rampStep ref target up down ∧ rampStep ref target up down ≤ max ref target
      ∧ (ref * target < 0 → 0 ≤ ref * rampStep ref target up down)

/-! ## Tooth wheels (chapter 5) -/

/-- R136 to R149, R153: the edges and pulses of a wheel, standstill, its signal and its plausibility. -/
def Obligations.WheelEvents : Prop :=
  (∀ (n : Fin 4) (start : Nat) (runs : List TrackRun) (s : State), s.dev.ctl.state ≠ .off →
      exec (.twEdge n start runs) s = .next (s.onDev (twFeed n start runs)))
  ∧ (∀ (n : Fin 4) (start : Nat) (r : TrackRun) (s : State), s.dev.ctl.state ≠ .off → n < s.dev.wheels.length →
      (s.dev.wheel n).rawA = (s.dev.wheel n).levelA → (s.dev.wheel n).rawB = (s.dev.wheel n).trackB →
      0 < r.count → r.count < Cfg.filterN s.dev.cfg n →
      ∃ t : State, exec (.twEdge n start [r]) s = .next t ∧ t.pending = s.pending ∧ t.otp = s.otp
        ∧ (t.dev.wheel n).levelA = (s.dev.wheel n).levelA ∧ (t.dev.wheel n).trackB = (s.dev.wheel n).trackB
        ∧ (t.dev.wheel n).lastEdge = (s.dev.wheel n).lastEdge ∧ (t.dev.wheel n).index = (s.dev.wheel n).index
        ∧ t.dev.ctl = s.dev.ctl ∧ t.dev.faults = s.dev.faults)
  ∧ (∀ (n : Fin 4) (start : Nat) (r : TrackRun) (s : State), s.dev.ctl.state ≠ .off → n < s.dev.wheels.length →
      (s.dev.wheel n).rawA = (s.dev.wheel n).levelA → (s.dev.wheel n).rawB = (s.dev.wheel n).trackB →
      0 < r.count → Cfg.filterN s.dev.cfg n ≤ r.count → r.a ≠ (s.dev.wheel n).levelA → r.b = (s.dev.wheel n).trackB →
      Cfg.inputType s.dev.cfg n ≠ 0 → r.a ≠ Cfg.edgeSel s.dev.cfg n → Cfg.dirMode s.dev.cfg n = 1 →
      ∃ t : State, exec (.twEdge n start [r]) s = .next t ∧ t.pending = s.pending ∧ t.otp = s.otp
        ∧ (t.dev.wheel n).levelA = r.a ∧ (t.dev.wheel n).leading = some start
        ∧ t.dev.ctl = s.dev.ctl ∧ t.dev.faults = s.dev.faults)
  ∧ (∀ (n : Fin 4) (start : Nat) (r : TrackRun) (s : State), s.dev.ctl.state ≠ .off → n < s.dev.wheels.length →
      (s.dev.wheel n).rawA = (s.dev.wheel n).levelA → (s.dev.wheel n).rawB = (s.dev.wheel n).trackB →
      0 < r.count → Cfg.filterN s.dev.cfg n ≤ r.count → r.a ≠ (s.dev.wheel n).levelA → r.b = (s.dev.wheel n).trackB →
      Cfg.inputType s.dev.cfg n ≠ 0 → r.a ≠ Cfg.edgeSel s.dev.cfg n → Cfg.dirMode s.dev.cfg n = 2 →
      Cfg.refType s.dev.cfg n = 0 → (s.dev.wheel n).extra = none →
      ∃ t : State, exec (.twEdge n start [r]) s = .next t ∧ t.pending = s.pending ∧ t.otp = s.otp
        ∧ (t.dev.wheel n).lastEdge = some start
        ∧ (t.dev.wheel n).reverse = ((s.dev.wheel n).trackB != Cfg.bFwdLevel s.dev.cfg n)
        ∧ ((s.dev.wheel n).lastEdge = none → (t.dev.wheel n).standstill = false)
        ∧ t.dev.ctl = s.dev.ctl ∧ t.dev.faults = s.dev.faults)
  ∧ (∀ (n : Fin 4) (start : Nat) (runs : List TrackRun) (s : State), s.dev.ctl.state ≠ .off →
      Cfg.dirMode s.dev.cfg n = 1 → (s.dev.wheel n).leading ≠ none →
      exec (.twPulseEnd n start runs) s = .next (s.onDev (twFeed n start runs)))
  ∧ (∀ (n : Fin 4) (start : Nat) (runs : List TrackRun) (s : State),
      Cfg.dirMode s.dev.cfg n ≠ 1 ∨ (s.dev.wheel n).leading = none → exec (.twPulseEnd n start runs) s = .next s)
  ∧ (∀ (n : Fin 4) (start lead : Nat) (r : TrackRun) (s : State), s.dev.ctl.state ≠ .off → n < s.dev.wheels.length →
      (s.dev.wheel n).rawA = (s.dev.wheel n).levelA → (s.dev.wheel n).rawB = (s.dev.wheel n).trackB →
      0 < r.count → Cfg.filterN s.dev.cfg n ≤ r.count → r.a ≠ (s.dev.wheel n).levelA → r.b = (s.dev.wheel n).trackB →
      Cfg.inputType s.dev.cfg n ≠ 0 → r.a = Cfg.edgeSel s.dev.cfg n → Cfg.dirMode s.dev.cfg n = 1 →
      (s.dev.wheel n).leading = some lead →
      start - lead < 1000 * Cfg.pwMin s.dev.cfg n ∨ 1000 * Cfg.pwMax s.dev.cfg n < start - lead →
      ∃ t : State, exec (.twPulseEnd n start [r]) s = .next t ∧ t.pending = s.pending ∧ t.otp = s.otp
        ∧ (t.dev.wheel n).leading = none ∧ (t.dev.wheel n).pwErr = ((s.dev.wheel n).pwErr + 1) % 2 ^ 16
        ∧ (t.dev.wheel n).lastEdge = (s.dev.wheel n).lastEdge ∧ (t.dev.wheel n).index = (s.dev.wheel n).index)
  ∧ (∀ (n : Fin 4) (late : Bool) (s : State), s.dev.ctl.state ≠ .off → Cfg.inputType s.dev.cfg n ≠ 0 → s.dev.zeroDue n →
      (s.dev.wheel n).extra = none → exec (.twZeroTimeout n late) s = .next (s.onDev fun d => lateMisc late
        (d.onWheel n fun x => Wheel.validity d.cfg n { x with standstill := true, lastSpeed := 0 })))
  ∧ (∀ (n : Fin 4) (late : Bool) (s : State), s.dev.ctl.state ≠ .off → Cfg.inputType s.dev.cfg n ≠ 0 → s.dev.zeroDue n →
      exec (.twZeroTimeout n late) s = .next (s.onDev fun d => lateMisc late (twZero n d)))
  ∧ (∀ (n : Fin 4) (late : Bool) (s : State), Cfg.inputType s.dev.cfg n = 0 ∨ s.dev.zeroDue n = false →
      exec (.twZeroTimeout n late) s = .next s)
  ∧ (∀ (n : Fin 4) (s : State), s.dev.ctl.state ≠ .off → Cfg.inputType s.dev.cfg n ≠ 0 →
      exec (.twSignal n) s = .next (s.onDev fun d => raise .twSignal (.wheel n) 0 (d.onWheel n fun x =>
        Wheel.validity d.cfg n { x with signalOk := false })))
  ∧ (∀ (n : Fin 4) (s : State), Cfg.inputType s.dev.cfg n = 0 → exec (.twSignal n) s = .next s)
  ∧ (∀ (n : Fin 4) (s : State), s.dev.implausible n → s.dev.held (.twPlaus n) 100000000 →
      exec (.twPlaus n) s = .next (s.onDev (raise .twPlaus (.wheel n) 0)))
  ∧ (∀ (n : Fin 4) (s : State), s.dev.implausible n = false → exec (.twPlaus n) s = .next s)


/-! ## Measurement (chapter 6) -/

/-- R157 to R171: the results of the channels, their reading, the comparators, the visits of the multiplexed channel. -/
def Obligations.MeasurementResults : Prop :=
  (∀ (streams : List BitStream) (s : State), s.dev.ctl.state ≠ .off → ∃ t : State, exec (.fastWordPublish streams) s = .next t
      ∧ t.pending = s.pending ∧ t.otp = s.otp ∧ t.dev.ctl = s.dev.ctl ∧ t.dev.faults = s.dev.faults
      ∧ t.dev.meas.chans.length = s.dev.meas.chans.length
      ∧ ∀ m : Nat, m < 48 → m < s.dev.meas.chans.length → (t.dev.mchan m).fastSeq = ((s.dev.mchan m).fastSeq + 1) % 2 ^ 5
          ∧ ((s.dev.mchan m).modFail → (t.dev.mchan m).fastValue = -32768 ∧ (t.dev.mchan m).fastValid = false))
  ∧ (∀ (ch : Fin 48) (eval : Fin 10) (streams : List BitStream) (run : List Int) (high : Bool) (s : State),
      s.dev.ctl.state ≠ .off → s.dev.compOn ch → s.dev.compRun streams ch = some run → s.dev.compSide ch run = some high →
      (if high then (s.dev.mchan ch).outHi else (s.dev.mchan ch).outLo) = false → exec (.compExit ch eval streams) s =
        .next (s.onDev fun d => compAct ch high (compSlice ch (d.onMchan ch fun c => { c with
          outHi := high, outLo := !high, exitCount := min 255 (c.exitCount + 1), exitValue := run.getLastD 0
          exitAt := some (d.now + 100 * eval - 100 * (run.length - 1)) }))))
  ∧ (∀ (ch : Fin 48) (eval : Fin 10) (streams : List BitStream) (run : List Int) (high : Bool) (s : State),
      s.dev.compRun streams ch = some run → s.dev.compSide ch run = some high →
      (if high then (s.dev.mchan ch).outHi else (s.dev.mchan ch).outLo) = true → exec (.compExit ch eval streams) s = .next s)
  ∧ (∀ (ch : Fin 48) (eval : Fin 10) (streams : List BitStream) (s : State),
      s.dev.compRun streams ch = none ∨ s.dev.compOn ch = false → exec (.compExit ch eval streams) s = .next s)
  ∧ (∀ (d : Device) (m : Nat) (run : List Int), run ≠ [] → (∀ c ∈ run, (d.compBand m).2 < d.chanVal m c
      ∧ d.chanVal m c < (d.compBand m).1) → d.forced 0x0602 m = false → d.compSide m run = none)
  ∧ (∀ (ch : Fin 48) (streams : List BitStream) (run : List Int) (s : State), (s.dev.mchan ch).outHi ∨ (s.dev.mchan ch).outLo →
      s.dev.compRun streams ch = some run → s.dev.compInside ch run →
      exec (.comparatorRearm ch streams) s = .next (s.onDev fun d =>
        clearFault .compExit (.channel ch) (d.onMchan ch fun c => { c with outHi := false, outLo := false })))
  ∧ (∀ (ch : Fin 48) (streams : List BitStream) (s : State), (s.dev.mchan ch).outHi = false → (s.dev.mchan ch).outLo = false →
      exec (.comparatorRearm ch streams) s = .next s)
  ∧ (∀ (ch : Fin 48) (clock : Fin 40) (clocks : List ModClock) (s : State), s.dev.ctl.state ≠ .off →
      ch < s.dev.meas.chans.length → (s.dev.now + 25 * clock) % (s.dev.fineInForce ch (s.dev.now + 25 * clock)).span = 0 →
      ∃ t : State, exec (.fineResultPublish ch clock clocks) s = .next t ∧ t.pending = s.pending ∧ t.otp = s.otp
        ∧ (t.dev.mchan ch).fineSeq = ((s.dev.mchan ch).fineSeq + 1) % 2 ^ 5 ∧ (t.dev.mchan ch).fineRead = false
        ∧ (t.dev.mchan ch).fineOverrun = !(s.dev.mchan ch).fineRead
        ∧ ((s.dev.mchan ch).modFail → (t.dev.mchan ch).fineResult = -8388608 ∧ (t.dev.mchan ch).fineValid = false))
  ∧ (∀ (ch : Fin 48) (clock : Fin 40) (clocks : List ModClock) (s : State),
      (s.dev.now + 25 * clock) % (s.dev.fineInForce ch (s.dev.now + 25 * clock)).span ≠ 0 →
      exec (.fineResultPublish ch clock clocks) s = .next s)
  ∧ (∀ (q : Path) (ch : Fin 48) (s : State), s.dev.takes q .b true → exec (.fineResultRead q ch) s = .next (s.onDev fun d =>
      answer q Abort.ok (leBytes 4 (d.mchan ch).fineWord) ((touchPath q d).onMchan ch fun c => { c with fineRead := true })))
  ∧ (∀ (q : Path) (ch : Fin 48) (s : State), s.dev.takes q .b true → exec (.chanStatusRead q ch) s = .next (s.onDev fun d =>
      answer q Abort.ok (leBytes 4 (d.chanStatus ch)) ((touchPath q d).onMchan ch fun c => { c with ovrSeen := false })))
  ∧ (∀ s : State, s.dev.ctl.state ≠ .off → Cfg.muxResults s.dev.cfg ≤ s.dev.meas.visitCount →
      ∃ t : State, exec .muxVisitEnd s = .next t ∧ t.pending = s.pending ∧ t.otp = s.otp
      ∧ t.dev.meas.muxInput = nextInput (Cfg.muxMask s.dev.cfg) s.dev.meas.muxInput ∧ t.dev.meas.visitN = 0
      ∧ t.dev.meas.visitCount = 0)
  ∧ (∀ s : State, s.dev.meas.visitCount < Cfg.muxResults s.dev.cfg → exec .muxVisitEnd s = .next s)

/-- R173 to R178: self-calibration, deferred offsets, modulator monitoring and the cross-checks. R179 to R187, R468: test-
voltage slices, the insulation monitor, the burdens of the analog inputs. -/
def Obligations.CalibrationAndChecks : Prop :=
  (∀ (q : Path) (s : State), s.dev.takes q .e false → s.dev.ctl.state = .standby → s.dev.meas.calState ≠ 1 →
      exec (.selfCal q) s = .next (s.onDev fun d => answer q Abort.ok [] (calStart (touchPath q d))))
  ∧ (∀ (q : Path) (s : State), s.dev.takes q .e false → s.dev.ctl.state = .standby → s.dev.meas.calState = 1 →
      exec (.selfCal q) s = .next (s.onDev fun d => answer q Abort.busy [] (touchPath q d)))
  ∧ (∀ (q : Path) (s : State), s.dev.takes q .e false → s.dev.ctl.state ≠ .standby →
      exec (.selfCal q) s = .next (s.onDev fun d => answer q Abort.state [] (touchPath q d)))
  ∧ (∀ (m : CalMeas) (s : State), s.dev.meas.calState = 1 → lasted s.dev.now s.dev.meas.calSince 180000000 →
      s.dev.ctl.state = .calibrating ∨ s.dev.ctl.state = .standby →
      (∀ k : Nat, k < 8 → s.dev.calFails m k = false) → ∃ t : State, exec (.calibrationDone m) s = .next t
        ∧ t.pending = s.pending ∧ t.otp = s.otp ∧ t.dev.ctl.state = .standby ∧ t.dev.meas.calibrated = true
        ∧ t.dev.meas.calState = (if m.zeroA && m.zeroB then 2 else 3))
  ∧ (∀ (m : CalMeas) (k : Nat) (s : State), s.dev.meas.calState = 1 → lasted s.dev.now s.dev.meas.calSince 180000000 →
      s.dev.ctl.state = .calibrating → k < 8 →
      s.dev.calFails m k → ∃ t : State, exec (.calibrationDone m) s = .next t ∧ t.dev.ctl.state = .fault
        ∧ t.dev.meas.calState = 4 ∧ t.dev.hasFault .calFail .module 4)
  ∧ (∀ (m : CalMeas) (s : State), s.dev.meas.calState ≠ 1 ∨ lasted s.dev.now s.dev.meas.calSince 180000000 = false →
      exec (.calibrationDone m) s = .next s)
  ∧ (∀ (p : PortId) (s : State), s.dev.ctl.state = .standby ∨ s.dev.ctl.state = .ready → (s.dev.port p).state = .disabled →
      s.dev.deferred p → (s.dev.port p).offsetMeas = false →
      emfBelow (s.dev.lineVolts p) (Cfg.catchEmfMin s.dev.cfg p) →
      exec (.offsetRemeasureStart p) s = .next (s.onDev fun d => d.onPort p fun x =>
        { x with offsetMeas := true, offsetSince := some d.now }))
  ∧ (∀ (p : PortId) (s : State), s.dev.deferred p = false → exec (.offsetRemeasureStart p) s = .next s)
  ∧ (∀ (p : PortId) (l : List Int) (s : State), (s.dev.port p).offsetMeas →
      lasted s.dev.now (s.dev.port p).offsetSince 40000000 → ∃ t : State,
      exec (.offsetRemeasureDone p l) s = .next t ∧ t.pending = s.pending ∧ t.otp = s.otp
        ∧ (t.dev.port p).offsetMeas = false ∧ t.dev.deferred p = false ∧ t.dev.ctl = s.dev.ctl ∧ t.dev.gates = s.dev.gates
        ∧ ∀ k : Nat, k < 3 → 3 * p.num + k < s.dev.meas.chans.length →
            (t.dev.mchan (3 * p.num + k)).calOffset = l.getD k 0 ∧ (t.dev.mchan (3 * p.num + k)).calStored = false)
  ∧ (∀ (ch : Fin 48) (clocks : Option (List ModClock)) (s : State), s.dev.ctl.state ≠ .off → (s.dev.mchan ch).modFail = false →
      clocks = none ∨ (∃ l, clocks = some l ∧ stuckBits l = true) ∨ s.dev.forced 0x0601 ch = true →
      exec (.modFail ch clocks) s = .next (s.onDev (modFail ch)))
  ∧ (∀ (ch : Fin 48) (d : Device), d.openSlice = none →
      modFail ch d = raiseActs .modFail (.channel ch) (ownerReaction ch) (ownerActs ch) (d.onMchan ch fun c => { c with
        modOk := false, modFail := true, calModFail := true, fastValid := false, fastValue := -32768, fineTainted := true }))
  ∧ (∀ (ch : Fin 48) (l : List ModClock) (s : State), stuckBits l = false → s.dev.forced 0x0601 ch = false →
      exec (.modFail ch (some l)) s = .next s)
  ∧ (∀ (ch : Fin 48) (clocks : List ModClock) (s : State), (s.dev.mchan ch).modFail → healthyBits clocks →
      s.dev.forced 0x0601 ch = false → exec (.modFailClear ch clocks) s = .next (s.onDev fun d =>
      clearFault .modFail (.channel ch) (d.onMchan ch fun c => { c with modOk := true, modFail := false })))
  ∧ (∀ (ch : Fin 48) (clocks : List ModClock) (s : State), healthyBits clocks = false →
      exec (.modFailClear ch clocks) s = .next s)
  ∧ (∀ s : State, s.dev.ctl.state ≠ .off → s.dev.linkDisagrees → s.dev.held .linkDisagree 10000 →
      exec .linkDisagree s = .next (s.onDev (raise .linkDisagree .module 4)))
  ∧ (∀ s : State, (s.dev.mchan 6).subst ∨ (s.dev.mchan 7).subst → exec .linkDisagree s = .next s)
  ∧ (∀ (p : PortId) (s : State), s.dev.ctl.state ≠ .off → s.dev.gatesSwitch p → s.dev.isumAbove p →
      s.dev.held (.isum p) 10000 → exec (.isum p) s = .next (s.onDev (raise .isum (.port p) 3)))
  ∧ (∀ (p : PortId) (s : State), s.dev.gatesSwitch p = false ∨ s.dev.isumAbove p = false → exec (.isum p) s = .next s)
  ∧ (∀ (ch : Fin 8) (s : State), s.dev.ctl.state = .run → s.dev.bist.passState ≠ 0 →
      s.dev.bist.done.contains (7, ch.val) = false → s.dev.meas.slice = none →
      (∀ u, s.dev.meas.lastSlice = some u → u + 1000000 ≤ s.dev.now) →
      s.dev.bistReady → s.dev.sliceOk ch → exec (.testvSliceStart ch) s = .next (s.onDev fun d =>
        let d := d.onMchan ch fun c => { c with test := true, subst := true, fineTainted := true }
        { d with meas := { d.meas with slice := some { ch := ch, start := d.now }, lastSlice := some d.now } }))
  ∧ (∀ (ch : Fin 8) (s : State), s.dev.meas.slice ≠ none ∨ s.dev.bist.passState = 0 →
      exec (.testvSliceStart ch) s = .next s)
  ∧ (∀ (x : Slice) (y0 y1 : List ModClock) (s : State), s.dev.meas.slice = some x → x.aborted = none →
      x.start + 40000 ≤ s.dev.now → s.dev.slicePasses x.ch y0 y1 → s.dev.forced 0x0604 x.ch = false →
      ∃ t : State, exec (.testvSliceEnd y0 y1) s = .next t ∧ t.pending = s.pending ∧ t.otp = s.otp ∧ t.dev.meas.slice = none
        ∧ t.dev.meas.passCount = (s.dev.meas.passCount + 1) % 2 ^ 32 ∧ t.dev.ctl = s.dev.ctl ∧ t.dev.gates = s.dev.gates)
  ∧ (∀ (x : Slice) (y0 y1 : List ModClock) (s : State), s.dev.meas.slice = some x → x.aborted = none →
      x.start + 40000 ≤ s.dev.now → s.dev.slicePasses x.ch y0 y1 = false ∨ s.dev.forced 0x0604 x.ch = true →
      ∃ t : State, exec (.testvSliceEnd y0 y1) s = .next t
        ∧ t.dev.hasFault .measTestFail (sliceScope x.ch) (if x.ch ≤ 5 then 3 else 4))
  ∧ (∀ (x : Slice) (y0 y1 : List ModClock) (s : State), s.dev.meas.slice = some x → s.dev.now < x.start + 40000 →
      exec (.testvSliceEnd y0 y1) s = .next s)
  ∧ (∀ (x : Slice) (s : State), s.dev.meas.slice = some x → x.aborted = none → s.dev.now ≤ x.start + 36000 →
      s.dev.abortCause x → exec .testvSliceAbort s = .next (s.onDev fun d =>
      let d := d.onMchan x.ch fun c => { c with test := false }
      { d with meas := { d.meas with
          slice := some { x with aborted := some d.now }, abortCount := (d.meas.abortCount + 1) % 2 ^ 32 } }))
  ∧ (∀ (x : Slice) (s : State), s.dev.meas.slice = some x → s.dev.abortCause x = false → exec .testvSliceAbort s = .next s)
  ∧ (∀ (r c : Rat) (s : State), s.dev.ctl.state ≠ .off → Cfg.isoMode s.dev.cfg = 1 → s.dev.meas.iso.suspended = false →
      s.dev.injectedAt 0x0607 = [] →
      ∃ t : State, exec (.isoResult r c) s = .next t ∧ t.pending = s.pending ∧ t.otp = s.otp ∧ t.dev.meas.iso.valid = true
        ∧ t.dev.meas.iso.r = max 10 (min 10000 r) ∧ t.dev.meas.iso.c = c
        ∧ (r < Cfg.isoWarnKohm s.dev.cfg → 10 < Cfg.isoWarnKohm s.dev.cfg → t.dev.meas.iso.warn = true))
  ∧ (∀ (r c : Rat) (s : State), Cfg.isoMode s.dev.cfg ≠ 1 ∨ s.dev.meas.iso.suspended = true →
      exec (.isoResult r c) s = .next s)
  ∧ (∀ s : State, s.dev.meas.iso.suspended → s.dev.chg.switching = false →
      lasted s.dev.now s.dev.meas.iso.offSince 1000000000 → exec .isoResume s = .next (s.onDev fun d =>
      { d with meas := { d.meas with iso := { d.meas.iso with suspended := false, offSince := none } } }))
  ∧ (∀ (n : Fin 4) (s : State), s.dev.ctl.state ≠ .off → s.dev.burdenOn n → s.dev.held (.burden n) 10000000 →
      exec (.burdenDisconnect n) s = .next (s.onDev fun d =>
        { d with meas := { d.meas with burdenOff := d.meas.burdenOff.set n (some d.now) } }))
  ∧ (∀ (n : Fin 4) (s : State), lasted s.dev.now (s.dev.meas.burdenOff.getD n none) 1000000000 →
      exec (.burdenReconnect n) s = .next (s.onDev fun d =>
        { d with meas := { d.meas with burdenOff := d.meas.burdenOff.set n none } }))
  ∧ (∀ (n : Fin 4) (s : State), s.dev.meas.burdenOff.getD n none = none → exec (.burdenReconnect n) s = .next s)

/-! ## Compensator engine (chapter 7) -/

/-- R194 to R204: a slot's sample, its output tick, overrun and invalid input, and SLOT_CMD. -/
def Obligations.SlotCommands : Prop :=
  (∀ (k : Fin 32) (ev : List BitStream) (s : State), s.dev.ctl.state ≠ .off → (s.dev.slot k).mode ≠ .off →
      k < s.dev.slots.length → s.dev.sampleBeat k → ∃ t : State,
      exec (.slotSample k ev) s = .next t ∧ t.pending = s.pending ∧ t.otp = s.otp
        ∧ (t.dev.slot k).sampleSeq = ((s.dev.slot k).sampleSeq + 1) % 2 ^ 8
        ∧ (t.dev.slot k).outputDue = s.dev.now + 5 * (Cfg.sampleTick s.dev.cfg k + Cfg.latency s.dev.cfg k))
  ∧ (∀ (k : Fin 32) (ev : List BitStream) (s : State), s.dev.ctl.state ≠ .off → (s.dev.slot k).mode = .closed →
      k ≠ 2 → k ≠ 3 → k ≠ 7 → k < s.dev.slots.length → (s.dev.slot k).cmd = 0 → s.dev.sampleBeat k → ∃ t : State,
      exec (.slotSample k ev) s = .next t ∧ t.pending = s.pending ∧ t.otp = s.otp ∧ (t.dev.slot k).mode = .closed
        ∧ (t.dev.slot k).output = (s.dev.slot k).output ∧ t.dev.ctl = s.dev.ctl ∧ t.dev.gates = s.dev.gates)
  ∧ (∀ (k : Fin 32) (ev : List BitStream) (s : State), s.dev.sampleBeat k = false ∨ (s.dev.slot k).mode = .off →
      exec (.slotSample k ev) s = .next s)
  ∧ (∀ (k : Fin 32) (s : State), (s.dev.slot k).holding = none ∨ s.dev.now + 1000 ≤ (s.dev.slot k).outputDue →
      exec (.slotOutputApply k) s = .next s)
  ∧ (∀ (k : Fin 32) (y : Int) (xs ys : List Int) (sat cl : Bool) (s : State), s.dev.ctl.state ≠ .off →
      k < s.dev.slots.length → (s.dev.slot k).holding = some (y, xs, ys, sat, cl) →
      (s.dev.slot k).outputDue < s.dev.now + 1000 →
      exec (.slotOutputApply k) s = .next (s.onDev fun d =>
        let d := d.onSlot k fun x => { x with
          output := y, outputPrev := x.output, outputAt := x.outputDue, x := xs, y := ys, saturated := sat, clamped := cl
          holding := none }
        if (s.dev.slot k).firmware then slotDestination k d else d))
  ∧ (∀ (k : Fin 32) (s : State), s.dev.ctl.state ≠ .off → (s.dev.slot k).mode = .closed → (s.dev.slot k).holding ≠ none →
      ∃ t : State, exec (.slotOverrun k) s = .next t ∧ t.pending = s.pending ∧ t.otp = s.otp ∧ t.dev.ctl.overrun = true
        ∧ t.dev.ctl.state = s.dev.ctl.state
        ∧ ((s.dev.slot k).firmware → t.dev.hasFault .overrun (.stage (slotStage k)) 3)
        ∧ ((s.dev.slot k).firmware = false → t.dev.hasFault .overrun (.slot k) 3 ∧ (t.dev.slot k).late = true
            ∧ (t.dev.slot k).mode = .opened))
  ∧ (∀ (k : Fin 32) (s : State), (s.dev.slot k).mode ≠ .closed ∨ (s.dev.slot k).holding = none →
      exec (.slotOverrun k) s = .next s)
  ∧ (∀ (k : Fin 32) (s : State), (s.dev.slot k).firmware = false → (s.dev.slot k).mode = .closed →
      10 ≤ (s.dev.slot k).invalidRun → exec (.compInput k) s = .next (s.onDev (raise .compInput (.slot k) 0)))
  ∧ (∀ (k : Fin 32) (s : State), (s.dev.slot k).invalidRun < 10 ∨ (s.dev.slot k).firmware = true →
      exec (.compInput k) s = .next s)
  ∧ (∀ (q : Path) (k : Fin 32) (s : State), s.dev.takes q .e false → 24 ≤ k.val →
      exec (.slotCmdOpen q k) s = .next (s.onDev fun d => answer q Abort.ok [] (pushLive (0x372001 + k) 1
        ((touchPath q d).onSlot k fun x => { x with cmd := 1, cmdAt := if x.cmd = 0 then d.now else x.cmdAt }))))
  ∧ (∀ (q : Path) (k : Fin 32) (s : State), s.dev.takes q .e false → 24 ≤ k.val → Cfg.form s.dev.cfg k ≠ 0 →
      exec (.slotCmdClose q k) s = .next (s.onDev fun d => answer q Abort.ok [] (pushLive (0x372001 + k) 2
        ((touchPath q d).onSlot k fun x => { x with cmd := 2, cmdAt := if x.cmd = 0 then d.now else x.cmdAt }))))
  ∧ (∀ (q : Path) (k : Fin 32) (s : State), s.dev.takes q .e false → 24 ≤ k.val → Cfg.form s.dev.cfg k = 0 →
      exec (.slotCmdClose q k) s = .next (s.onDev fun d => answer q Abort.state [] (touchPath q d)))
  ∧ (∀ (q : Path) (k : Fin 32) (s : State), s.dev.takes q .e false → k.val < 24 →
      exec (.slotCmdOpen q k) s = .next (s.onDev fun d => answer q Abort.access [] (touchPath q d))
        ∧ exec (.slotCmdClose q k) s = .next (s.onDev fun d => answer q Abort.access [] (touchPath q d)))

/-- R192, R194: whatever the accumulator holds, the value of a slot lies in the signal range and the output within its
clamp; the flags show where saturation and the clamp acted. -/
def Obligations.SlotArithmetic : Prop :=
  ∀ (form : Nat) (c : List Int) (aw : Nat) (hi lo x0 : Int) (x y : List Int), lo ≤ hi →
    let r := slotCompute form c aw (hi, lo) x0 x y
    lo ≤ r.1 ∧ r.1 ≤ hi ∧ r.2.1 = (x0 :: x).take 3 ∧ r.2.2.1.length ≤ 3
      ∧ (r.2.2.2.2 = false → -8388608 ≤ r.1 ∧ r.1 ≤ 8388607)
      ∧ (aw = 0 → r.2.2.1 = (r.1 :: y).take 3)


/-! ## Supply (chapter 8) -/

/-- R207 to R216, R220: the supply chain, the battery converter's phases and the LLC's start. -/
def Obligations.SupplyChain : Prop :=
  (∀ (q : Path) (s : State), s.dev.takes q .b false → s.dev.ctl.state = .standby → s.dev.supply.chain = 0 →
      s.dev.meas.calState ≠ 1 → exec (.supplyCmdStart q) s = .next (s.onDev fun d =>
        let d := touchPath q d
        answer q Abort.ok [] { d with supply := { d.supply with
          chain := 1, calPause := false, llc := { d.supply.llc with startConv := true } } }))
  ∧ (∀ (q : Path) (s : State), s.dev.takes q .b false → s.dev.ctl.state = .standby → s.dev.supply.chain = 0 →
      s.dev.meas.calState = 1 → exec (.supplyCmdStart q) s = .next (s.onDev fun d =>
        answer q Abort.ok [] ((touchPath q d).onSupply fun x => { x with calPause := true })))
  ∧ (∀ (q : Path) (s : State), s.dev.takes q .b false → s.dev.ctl.state.chainRuns → s.dev.supply.chain ≠ 0 →
      exec (.supplyCmdStart q) s = .next (s.onDev fun d => answer q Abort.ok [] (chainRestart (touchPath q d))))
  ∧ (∀ (q : Path) (s : State), s.dev.takes q .b false →
      s.dev.ctl.state.chainRuns = false ∨ (s.dev.supply.chain = 0 ∧ s.dev.ctl.state ≠ .standby) →
      exec (.supplyCmdStart q) s = .next (s.onDev fun d => answer q Abort.state [] (touchPath q d)))
  ∧ (∀ (q : Path) (s : State), s.dev.takes q .b false → s.dev.ctl.state.chainRuns → exec (.supplyCmdStop q) s =
      .next (s.onDev fun d => answer q Abort.ok [] ((chainStop (touchPath q d)).onSupply fun x => { x with calPause := false })))
  ∧ (∀ (q : Path) (s : State), s.dev.takes q .b false → s.dev.ctl.state.chainRuns = false → exec (.supplyCmdStop q) s =
      .next (s.onDev fun d => answer q Abort.state [] (touchPath q d)))
  ∧ (∀ s : State, s.dev.supply.chain = 1 → 560 ≤ s.dev.linkFine → s.dev.stageCan .llcPri → s.dev.stageCan .llcSec →
      exec .linkPrechargeConfirmed s = .next (s.onDev fun d => llcStart (d.onSupply fun x => { x with chain := 3 })))
  ∧ (∀ s : State, s.dev.linkFine < 560 ∨ s.dev.supply.chain ≠ 1 → exec .linkPrechargeConfirmed s = .next s)
  ∧ (∀ s : State, s.dev.supply.llc.running → s.dev.supply.llc.inRange = false → 5292 / 100 ≤ s.dev.fineVal 23 →
      s.dev.fineVal 23 ≤ 5508 / 100 → s.dev.supply.chain ≠ 3 → exec .llcSoftStartDone s = .next (s.onDev fun d =>
        d.onLlc fun x => { x with inRange := true, startConv := x.startConv && decide (d.fineVal 23 ≤ 50) }))
  ∧ (∀ s : State, s.dev.supply.llc.running → s.dev.supply.llc.inRange = false → 5292 / 100 ≤ s.dev.fineVal 23 →
      s.dev.fineVal 23 ≤ 5508 / 100 → s.dev.supply.chain = 3 → exec .llcSoftStartDone s = .next (s.onDev fun d =>
        let d := d.onLlc fun x => { x with inRange := true, startConv := x.startConv && decide (d.fineVal 23 ≤ 50) }
        let d := (d.onSupply fun x => { x with chain := 5 }).onAux fun x => { x with startDue := true }
        convStart (if d.stageCan .aux then auxStart d else d)))
  ∧ (∀ s : State, s.dev.supply.llc.running = false ∨ s.dev.fineVal 23 < 5292 / 100 → exec .llcSoftStartDone s = .next s)
  ∧ (∀ (n : Fin 3) (s : State), (s.dev.supply.conv.phases.getD n {}).precharging → ratAbs (s.dev.fcSeen n) ≤ s.dev.vLink / 20 →
      s.dev.supply.conv.running → exec (.fcPrechargeDone n) s = .next (s.onDev fun d => d.onPhase n fun x => { x with
        precharging := false, preStart := none, active := true, shed := false }))
  ∧ (∀ (n : Fin 3) (s : State), (s.dev.supply.conv.phases.getD n {}).precharging → ratAbs (s.dev.fcSeen n) ≤ s.dev.vLink / 20 →
      exec (.fcPrechargeDone n) s = .next (s.onDev (fcDone n)))
  ∧ (∀ (n : Fin 3) (s : State), (s.dev.supply.conv.phases.getD n {}).precharging = false →
      exec (.fcPrechargeDone n) s = .next s)
  ∧ (∀ (n : Fin 3) (u : Nanos) (late : Bool) (s : State), (s.dev.supply.conv.phases.getD n {}).precharging →
      (s.dev.supply.conv.phases.getD n {}).preStart = some u → u + 5000000 ≤ s.dev.now →
      exec (.fcPrechargeFail n late) s = .next (s.onDev fun d => lateMisc late (raise .fcPrechargeFail (.stage .conv) 3 d)))
  ∧ (∀ (n : Fin 3) (late : Bool) (s : State), (s.dev.supply.conv.phases.getD n {}).precharging = false →
      exec (.fcPrechargeFail n late) s = .next s)
  ∧ (∀ s : State, s.dev.supply.chain = 6 → s.dev.supply.conv.running → s.dev.supply.conv.ramp = s.dev.supply.conv.setpoint →
      exec .linkRampDone s = .next (s.onDev (Device.onSupply fun x => { x with chain := 7 })))
  ∧ (∀ s : State, s.dev.supply.chain ≠ 6 ∨ s.dev.supply.conv.ramp ≠ s.dev.supply.conv.setpoint →
      exec .linkRampDone s = .next s)
  ∧ (∀ (n : Fin 3) (u : Nanos) (s : State), s.dev.supply.conv.running → s.dev.carrierPeakAt n = some u →
      (s.dev.supply.conv.phases.getD n {}).peakAt ≠ some u →
      exec (.convCarrierPeak n) s = .next (s.onDev (carrierPeak n u)))
  ∧ (∀ (n : Fin 3) (s : State), s.dev.carrierPeakAt n = none ∨ s.dev.supply.conv.running = false →
      exec (.convCarrierPeak n) s = .next s)
  ∧ (∀ (n : Fin 3) (u : Nanos) (s : State), s.dev.supply.conv.running → s.dev.carrierPeakAt n = some u →
      (s.dev.supply.conv.phases.getD n {}).peakAt ≠ some u → (s.dev.supply.conv.phases.getD n {}).active →
      (s.dev.supply.conv.phases.getD n {}).outerAt = none → (s.dev.supply.conv.phases.getD n {}).shed = false →
      ∃ t : State, exec (.convCarrierPeak n) s = .next t ∧ t.pending = s.pending ∧ t.otp = s.otp
        ∧ (t.dev.supply.conv.phases.getD n {}).duty = (s.dev.supply.conv.phases.getD n {}).dutyNext
        ∧ (t.dev.supply.conv.phases.getD n {}).peakAt = some u ∧ t.dev.ctl = s.dev.ctl ∧ t.dev.faults = s.dev.faults)
  ∧ (∀ (n : Fin 3) (s : State), (s.dev.supply.conv.phases.getD n {}).active → s.dev.fcOut n →
      s.dev.held (.fcDev n) 10000 → exec (.convFcDev n) s = .next (s.onDev (raise .convFcDev (.stage .conv) 3)))
  ∧ (∀ (n : Fin 3) (s : State), s.dev.fcOut n = false → exec (.convFcDev n) s = .next s)
  ∧ (∀ (n : Nat) (d : Device), (Cfg.fcDevTrip d.cfg : Rat) < ratAbs (d.fcSeen n) → d.fcOut n)

/-- R213, R215, R216: phase shedding of the converter, its overload account, and what the host says of the battery (R217). -/
def Obligations.ConverterLoad : Prop :=
  (∀ s : State, s.dev.supply.conv.running → s.dev.convWanted < s.dev.supply.conv.count → s.dev.held .convShed 20000000 →
      exec .convPhaseShed s = .next (s.onDev fun d =>
        let k := d.supply.conv.shedNext
        let first := d.supply.conv.phases.all fun x => !x.shed
        { (d.onConv fun c => { c with lastShed := if first then some k else c.lastShed }).onPhase k fun x =>
            { x with shed := true, shedAt := some d.now, returning := false } with
          watch := d.watch.filter fun e => e.1 != .convShed }))
  ∧ (∀ s : State, s.dev.supply.conv.count ≤ s.dev.convWanted → exec .convPhaseShed s = .next s)
  ∧ (∀ s : State, s.dev.supply.conv.running → s.dev.supply.conv.phases.any (fun x => x.shed) → s.dev.convOverload →
      exec .convPhaseReturn s = .next (s.onDev fun d => d.onConv fun c => { c with phases := c.phases.map fun x =>
        { x with returning := x.shed } }))
  ∧ (∀ s : State, s.dev.convOverload = false → exec .convPhaseReturn s = .next s)
  ∧ (∀ s : State, 4200000 ≤ s.dev.supply.conv.overload → exec .overloadAccountFull s = .next (s.onDev fun d =>
      d.onConv fun c => { c with overFull := true }))
  ∧ (∀ s : State, s.dev.supply.conv.overload < 4200000 → exec .overloadAccountFull s = .next s)
  ∧ (∀ acc p : Rat, 0 ≤ overloadStep acc p ∧ (560 < ratAbs p → 0 ≤ acc → overloadStep acc p = acc + (ratAbs p - 560))
      ∧ (ratAbs p ≤ 560 → (560 - ratAbs p) / 4 ≤ acc → overloadStep acc p = acc - (560 - ratAbs p) / 4))
  ∧ (∀ (q : Path) (l : BatLimit) (v : BitVec 16) (s : State), s.dev.takes q .b false →
      (match l with
        | .dischargeCurrent | .chargeCurrent => v.toNat ≤ 2000
        | .voltMax | .voltMin => 600 ≤ v.toNat ∧ v.toNat ≤ 1350) →
      s.dev.forcedAt 0x0802 = false →
      exec (.batLimitWrite q l v) s = .next (s.onDev fun d => answer q Abort.ok [] (clearFault .batLimitsStale (.stage .conv)
        ((pushLive (BatLimit.key l) v.toNat (touchPath q d)).onConv fun c => { c with lastLimit := some d.now, batStale := false }))))
  ∧ (∀ (q : Path) (l : BatLimit) (v : BitVec 16) (s : State), s.dev.takes q .b false →
      (match l with
        | .dischargeCurrent | .chargeCurrent => 2000 < v.toNat
        | .voltMax | .voltMin => v.toNat < 600 ∨ 1350 < v.toNat) →
      exec (.batLimitWrite q l v) s = .next (s.onDev fun d => answer q Abort.range [] (touchPath q d)))
  ∧ (∀ (late : Bool) (s : State), s.dev.ctl.state ≠ .off → Cfg.batLimitTimeout s.dev.cfg ≠ 0 →
      s.dev.supply.conv.lastLimit.getD 0 + ms (Cfg.batLimitTimeout s.dev.cfg) ≤ s.dev.now →
      exec (.batLimitsStale late) s = .next (s.onDev fun d => lateMisc late
        (raise .batLimitsStale (.stage .conv) 0 (d.onConv fun c => { c with batStale := true }))))
  ∧ (∀ (late : Bool) (s : State), Cfg.batLimitTimeout s.dev.cfg = 0 → exec (.batLimitsStale late) s = .next s)

/-- R212: the effective link setpoint; it is never below the battery voltage, since the converter boosts only; its ramp moves
by LINK_RAMP; the rule's own figures. -/
def Obligations.LinkSetpoint : Prop :=
  (∀ d : Device, d.linkSetpoint = min 1600 (max (Cfg.linkSet d.cfg : Rat) (11 / 10 * (d.mchan 12).value)))
  ∧ (∀ d : Device, 0 ≤ (d.mchan 12).value → (d.mchan 12).value ≤ 1600 → (d.mchan 12).value ≤ d.linkSetpoint)
  ∧ (∀ d : Device, d.supply.conv.running →
      (convBeat d).supply.conv.setpoint = d.linkSetpoint
      ∧ ratAbs ((convBeat d).supply.conv.ramp - d.supply.conv.ramp) ≤ (Cfg.linkRamp d.cfg : Rat) / 1000
      ∧ ratAbs ((convBeat d).supply.conv.ramp - d.linkSetpoint)
          = max 0 (ratAbs (d.supply.conv.ramp - d.linkSetpoint) - (Cfg.linkRamp d.cfg : Rat) / 1000))
  ∧ (∀ d : Device, (d.mchan 12).value = 1350 → Cfg.linkSet d.cfg = 1400 → d.linkSetpoint = 1485)

/-- R218, R219: the protection of the DC link and its discharge path. -/
def Obligations.LinkProtection : Prop :=
  (∀ s : State, s.dev.ctl.state = .run → s.dev.linkSeen < 850 → s.dev.held .linkUv 10000000 →
      exec .linkUv s = .next (s.onDev (raise .linkUv .module 2)))
  ∧ (∀ s : State, 850 ≤ s.dev.linkSeen ∨ s.dev.ctl.state ≠ .run → exec .linkUv s = .next s)
  ∧ (∀ d : Device, d.injectedAt 0x0803 = [] → d.linkSeen = d.vLink ∧ d.linkHighSeen = d.vLinkHigh)
  ∧ (∀ s : State, s.dev.ctl.state ≠ .off → 1650 < s.dev.linkHighSeen → s.dev.held .linkOv 2000 →
      exec .linkHigh s = .next (s.onDev fun d =>
        let d := raise .linkHigh .module 1 (d.onConv fun c => { c with linkHigh := true })
        if d.chg.switching then gridStop false d else d))
  ∧ (∀ s : State, s.dev.linkHighSeen ≤ 1650 → exec .linkHigh s = .next s)
  ∧ (∀ s : State, s.dev.supply.conv.linkHigh → s.dev.vLinkHigh < 1620 → exec .linkOvRelease s = .next (s.onDev fun d =>
      clearFault .linkHigh .module (d.onConv fun c => { c with linkHigh := false })))
  ∧ (∀ s : State, 1620 ≤ s.dev.vLinkHigh → exec .linkOvRelease s = .next s)
  ∧ (∀ s : State, s.dev.ctl.state ≠ .off → 1680 < s.dev.vLinkHigh → s.dev.held .linkDisch 2000 →
      s.dev.supply.conv.dischHot = false →
      exec .dischargeOn s = .next (s.onDev (Device.onConv fun c => { c with discharging := true })))
  ∧ (∀ s : State, s.dev.supply.conv.dischHot → exec .dischargeOn s = .next s)
  ∧ (∀ s : State, s.dev.supply.conv.discharging → s.dev.supply.conv.dischCmd = false → s.dev.vLinkHigh < 1660 →
      exec .dischargeOff s = .next (s.onDev (Device.onConv fun c => { c with discharging := false, dischCmd := false })))
  ∧ (∀ s : State, s.dev.supply.conv.discharging → s.dev.supply.conv.dischCmd → s.dev.vLinkHigh < 60 →
      exec .dischargeOff s = .next (s.onDev (Device.onConv fun c => { c with discharging := false, dischCmd := false })))
  ∧ (∀ s : State, s.dev.supply.conv.dischCmd → 60 ≤ s.dev.vLinkHigh → exec .dischargeOff s = .next s)
  ∧ (∀ s : State, s.dev.ctl.state ≠ .off → 1720 < s.dev.linkHighSeen → s.dev.held .linkTrip 2000 →
      exec .linkTrip s = .next (s.onDev (raise .linkTrip .module 4)))
  ∧ (∀ s : State, s.dev.linkHighSeen ≤ 1720 → exec .linkTrip s = .next s)
  ∧ (∀ (q : Path) (s : State), s.dev.takes q .b true →
      s.dev.ctl.state = .standby ∨ s.dev.ctl.state = .safe ∨ s.dev.ctl.state = .fault →
      exec (.linkDischarge q) s = .next (s.onDev fun d => answer q Abort.ok [] ((touchPath q d).onConv fun c =>
        { c with dischCmd := true, discharging := !c.dischHot })))
  ∧ (∀ (q : Path) (s : State), s.dev.takes q .b true →
      s.dev.ctl.state ≠ .standby → s.dev.ctl.state ≠ .safe → s.dev.ctl.state ≠ .fault →
      exec (.linkDischarge q) s = .next (s.onDev fun d => answer q Abort.state [] (touchPath q d)))
  ∧ (∀ s : State, s.dev.supply.conv.discharging → 250000 ≤ s.dev.supply.conv.dischAcc ∨ s.dev.forcedAt 0x0802 →
      exec .linkDischHot s = .next (s.onDev fun d =>
        raise .linkDischHot .module 0 (d.onConv fun c => { c with discharging := false, dischHot := true })))
  ∧ (∀ s : State, s.dev.supply.conv.discharging = false → exec .linkDischHot s = .next s)
  ∧ (∀ s : State, s.dev.supply.conv.dischHot → s.dev.supply.conv.dischAcc < 125000 →
      exec .dischHotClear s = .next (s.onDev fun d => clearFault .linkDischHot .module
        (d.onConv fun c => { c with dischHot := false, discharging := c.dischCmd })))
  ∧ (∀ s : State, 125000 ≤ s.dev.supply.conv.dischAcc → exec .dischHotClear s = .next s)

/-- R221 to R231: the intermediate bus, the 24 V buck, the backup path and the power arbiter. -/
def Obligations.BusesAndBackup : Prop :=
  (∀ s : State, s.dev.ctl.state ≠ .off → s.dev.busOver → s.dev.held .bus54Ov 2000 → exec .bus54Ov s = .next (s.onDev
      (raiseActs .bus54Ov (.stage .llcPri) 3 [(.stage .llcPri, 3), (.stage .llcSec, 3)])))
  ∧ (∀ s : State, s.dev.busOver = false → exec .bus54Ov s = .next s)
  ∧ (∀ d : Device, 58 < d.fastVal 23 → d.busOver)
  ∧ (∀ d : Device, d.supply.llc.running → d.supply.llc.inRange → d.fastVal 23 < 48 → d.busUnder)
  ∧ (∀ s : State, s.dev.busUnder → s.dev.held .bus54Uv 100000 → exec .bus54Uv s = .next (s.onDev (raise .bus54Uv .module 4)))
  ∧ (∀ s : State, s.dev.busUnder = false → exec .bus54Uv s = .next s)
  ∧ (∀ (u : Nanos) (s : State), s.dev.supply.llc.restart = some u →
      3 ≤ (s.dev.supply.llc.stops.filter fun x => decide (s.dev.now < x + sec 10)).length ∨ s.dev.forcedAt 0x0804 = true →
      exec .llcRestart s = .next (s.onDev fun d => raise .llcRetry .module 4 (d.onLlc fun x => { x with
        stops := x.stops.filter fun y => decide (d.now < y + sec 10), restart := none })))
  ∧ (∀ (u : Nanos) (s : State), s.dev.supply.llc.restart = some u → u + 100000000 ≤ s.dev.now →
      (s.dev.supply.llc.stops.filter fun x => decide (s.dev.now < x + sec 10)).length < 3 → s.dev.forcedAt 0x0804 = false →
      ((restartClears .llcSec (restartClears .llcPri s.dev)).stageCan .llcPri) →
      ((restartClears .llcSec (restartClears .llcPri s.dev)).stageCan .llcSec) →
      ∃ t : State, exec .llcRestart s = .next t ∧ t.pending = s.pending ∧ t.otp = s.otp
        ∧ t.dev.supply.llc.running = true ∧ t.dev.supply.llc.restart = none ∧ t.dev.ctl = s.dev.ctl)
  ∧ (∀ s : State, s.dev.supply.llc.restart = none → exec .llcRestart s = .next s)
  ∧ (∀ (q : Path) (v : BitVec 16) (s : State), s.dev.takes q .b false → 2400 ≤ v.toNat → v.toNat ≤ 3000 →
      exec (.auxVSetWrite q v) s = .next (s.onDev fun d => answer q Abort.ok [] (pushLive 0x282001 v.toNat (touchPath q d))))
  ∧ (∀ (q : Path) (v : BitVec 16) (s : State), s.dev.takes q .b false → v.toNat < 2400 ∨ 3000 < v.toNat →
      exec (.auxVSetWrite q v) s = .next (s.onDev fun d => answer q Abort.range [] (touchPath q d)))
  ∧ (∀ (stamp : Nat) (s : State), s.dev.ctl.state ≠ .off → Cfg.syncSrc s.dev.cfg = 1 → s.dev.forcedAt 0x0806 = false →
      ∃ t : State,
      exec (.syncInEdge stamp) s = .next t ∧ t.pending = s.pending ∧ t.otp = s.otp ∧ t.dev.supply.aux.lastSync = some stamp
        ∧ t.dev.supply.aux.running = s.dev.supply.aux.running ∧ t.dev.gates = s.dev.gates ∧ t.dev.ctl = s.dev.ctl)
  ∧ (∀ (stamp : Nat) (s : State), Cfg.syncSrc s.dev.cfg ≠ 1 → exec (.syncInEdge stamp) s = .next s)
  ∧ (∀ (e : Bool) (s : State), s.dev.supply.aux.syncLocked →
      (∀ u, s.dev.supply.aux.lastCounted = some u → u + max 5000 (3 * s.dev.supply.aux.syncPeriod) < s.dev.now + 1000) →
      exec (.auxSynclost e) s = .next (s.onDev fun d =>
      raise .auxSynclost (.stage .aux) 0 (d.onAux fun x => { x with
        syncLocked := false, syncLost := true, syncCount := 0
        syncLate := if e then (x.syncLate + 1) % 2 ^ 16 else x.syncLate })))
  ∧ (∀ (e : Bool) (s : State), s.dev.supply.aux.syncLocked = false → exec (.auxSynclost e) s = .next s)
  ∧ (∀ s : State, s.dev.supply.aux.running → s.dev.supply.aux.shedHold = false → s.dev.auxWanted < s.dev.supply.aux.count →
      s.dev.held .auxShed 1000000 → (∀ u, s.dev.supply.aux.shedLast = some u → u + 20000 ≤ s.dev.now) →
      s.dev.supply.aux.available ≤ s.dev.supply.aux.count ∨ s.dev.auxStep = false →
      exec .auxShedLightLoad s = .next (s.onDev fun d =>
        match [7, 6, 5, 4, 3, 2, 1, 0].find? fun k => d.supply.aux.active.getD k false with
        | some k => (auxPhaseOff k d).onAux fun x => { x with stepAbort := false, shedLast := some d.now }
        | none => d))
  ∧ (∀ s : State, s.dev.supply.aux.shedHold ∨ s.dev.supply.aux.count ≤ s.dev.auxWanted →
      exec .auxShedLightLoad s = .next s)
  ∧ (∀ s : State, s.dev.supply.aux.running → s.dev.supply.aux.count < s.dev.auxWanted →
      exec .auxPhaseAdd s = .next (s.onDev auxAdd))
  ∧ (∀ (d : Device) (k : Nat), [0, 1, 2, 3, 4, 5, 6, 7].find? (fun j => !d.supply.aux.active.getD j false && !d.supply.aux.lostPh.getD j false)
      = some k → auxAdd d = d.onAux fun x => { x with active := x.active.set k true })
  ∧ (∀ s : State, s.dev.auxWanted ≤ s.dev.supply.aux.count → exec .auxPhaseAdd s = .next s)
  ∧ (∀ s : State, s.dev.supply.aux.running → s.dev.supply.aux.count < s.dev.supply.aux.available → s.dev.auxStep →
      exec .auxLoadStep s = .next (s.onDev fun d => d.onAux fun x => { x with
        active := x.lostPh.map fun l => !l, stepAbort := true, shedHold := true, holdSince := some d.now }))
  ∧ (∀ s : State, s.dev.auxStep = false → exec .auxLoadStep s = .next s)
  ∧ (∀ (u : Nanos) (s : State), s.dev.supply.aux.shedHold → s.dev.supply.aux.holdSince = some u → u + 10000000 ≤ s.dev.now →
      exec .auxShedHoldEnd s = .next (s.onDev (Device.onAux fun x => { x with shedHold := false, holdSince := none })))
  ∧ (∀ s : State, s.dev.supply.aux.shedHold = false → exec .auxShedHoldEnd s = .next s)
  ∧ (∀ s : State, s.dev.ctl.state ≠ .off → s.dev.supply.backup.cause = 0 → s.dev.supply.backup.heldOpen = false →
      s.dev.fastVal 25 + 50 / 1000 ≤ s.dev.fastVal 27 →
      exec .idealDiodeOn s = .next (s.onDev (Device.onBackup fun x => { x with diodeOn := true })))
  ∧ (∀ s : State, s.dev.supply.backup.heldOpen ∨ s.dev.supply.backup.cause ≠ 0 → exec .idealDiodeOn s = .next s)
  ∧ (∀ s : State, s.dev.supply.backup.diodeOn → s.dev.fastVal 27 + 100 / 1000 ≤ s.dev.fastVal 25 →
      exec .idealDiodeOff s = .next (s.onDev (Device.onBackup fun x => { x with diodeOn := false })))
  ∧ (∀ s : State, s.dev.fastVal 25 < s.dev.fastVal 27 + 100 / 1000 → exec .idealDiodeOff s = .next s)
  ∧ (∀ s : State, s.dev.supply.backup.diodeOn → s.dev.batauxOver → s.dev.held .batauxOc 10000000 →
      exec .batauxOc s = .next (s.onDev fun d =>
      let l := (d.supply.backup.openings.filter fun u => decide (d.now < u + sec 60)) ++ [d.now]
      raise .batauxOc (.backup 1) 0 (d.onBackup fun x => { x with
        diodeOn := false, cause := 2, openings := l, heldOpen := x.heldOpen || decide (3 ≤ l.length) })))
  ∧ (∀ s : State, s.dev.batauxOver = false → exec .batauxOc s = .next s)
  ∧ (∀ s : State, s.dev.supply.backup.cause = 2 → s.dev.supply.backup.heldOpen = false →
      lasted s.dev.now s.dev.supply.backup.openings.getLast? 1000000000 →
      exec .batauxRetry s = .next (s.onDev fun d =>
        clearFault .batauxOc (.backup 1) (d.onBackup fun x => { x with cause := 0 })))
  ∧ (∀ s : State, s.dev.supply.backup.heldOpen → exec .batauxRetry s = .next s)
  ∧ (∀ s : State, s.dev.ctl.state ≠ .off →
      s.dev.fineVal 27 < (Cfg.batauxCutoff s.dev.cfg : Rat) / 10 ∨ s.dev.forcedAt 0x0806 →
      exec .batauxLow s = .next (s.onDev fun d => raise .batauxLow (.backup 1) 0 (d.onBackup fun x => { x with
        diodeOn := false, cause := if x.cause = 0 then 3 else x.cause })))
  ∧ (∀ s : State, (Cfg.batauxCutoff s.dev.cfg : Rat) / 10 ≤ s.dev.fineVal 27 → s.dev.forcedAt 0x0806 = false →
      exec .batauxLow s = .next s)
  ∧ (∀ s : State, s.dev.ctl.state ≠ .off → 10 ≤ s.dev.supply.powN →
      ∃ (t : State) (g : LinkGrants), exec .powerArbitration s = .next t ∧ t.pending = s.pending
      ∧ t.otp = s.otp ∧ t.dev = { s.dev with supply := t.dev.supply } ∧ t.dev.supply.powN = 0
      ∧ t.dev.supply.linkNext = some g ∧ g.gridGrant ≤ s.dev.gridRequest ∧ t.dev.supply.aux = s.dev.supply.aux)
  ∧ (∀ s : State, s.dev.supply.powN < 10 → exec .powerArbitration s = .next s)
  ∧ (∀ s : State, s.dev.ctl.state ≠ .off → ∃ (t : State) (g : BusGrants), exec .bus54Grant s = .next t ∧ t.pending = s.pending
      ∧ t.otp = s.otp ∧ t.dev.ctl = s.dev.ctl ∧ t.dev.faults = s.dev.faults ∧ t.dev.gates = s.dev.gates
      ∧ t.dev.supply.busNext = some g ∧ 0 ≤ g.share ∧ t.dev.supply.conv = s.dev.supply.conv)

/-! ## Charging (chapter 9) -/

/-- R234 to R244: the traction charge, from its command through the grid's acceptance to its end, and the host watchdog. -/
def Obligations.TractionCharge : Prop :=
  (∀ (q : Path) (s : State), s.dev.takes q .b false → Cfg.convMode s.dev.cfg = 1 → s.dev.ctl.state = .run →
      s.dev.chg.state = .idle ∨ s.dev.chg.state = .complete → s.dev.chg.gridOk = false ∨ s.dev.chg.lostHold →
      exec (.chgCmdStart q) s = .next (s.onDev fun d =>
        answer q Abort.ok [] (pushLive 0x290001 1 ((touchPath q d).onChg fun x => { x with
          state := .gridCheck, commanded := true, ending := none }))))
  ∧ (∀ (q : Path) (s : State), s.dev.takes q .b false → Cfg.convMode s.dev.cfg = 1 → s.dev.ctl.state = .run →
      s.dev.chg.state = .idle ∨ s.dev.chg.state = .complete → s.dev.chg.gridOk → s.dev.chg.lostHold = false →
      ∃ t : State, exec (.chgCmdStart q) s = .next t ∧ t.pending = s.pending ∧ t.otp = s.otp ∧ t.dev.ctl = s.dev.ctl
        ∧ t.dev.chg = { s.dev.chg with state := .sync, commanded := true, ending := none, step := 1
                                       stepStart := s.dev.now, pllLocked := false })
  ∧ (∀ (q : Path) (s : State), s.dev.takes q .b false →
      Cfg.convMode s.dev.cfg ≠ 1 ∨ s.dev.ctl.state ≠ .run ∨ s.dev.chg.state = .lockedOut →
      exec (.chgCmdStart q) s = .next (s.onDev fun d => answer q Abort.state [] (touchPath q d)))
  ∧ (∀ (q : Path) (s : State), s.dev.takes q .b false → s.dev.chg.state = .cc ∨ s.dev.chg.state = .cv →
      exec (.chgCmdStop q) s = .next (s.onDev fun d => answer q Abort.ok [] (pushLive 0x290001 2
        ((touchPath q d).onChg fun x => { x with ending := some false }))))
  ∧ (∀ (q : Path) (s : State), s.dev.takes q .b false → ∃ t : State, exec (.chgCmdRearm q) s = .next t
      ∧ t.pending = s.pending ∧ t.otp = s.otp ∧ t.dev.ctl = s.dev.ctl ∧ t.dev.chg.state ≠ .lockedOut
      ∧ t.dev.chg.state ≠ .complete ∧ t.dev.bchg = s.dev.bchg)
  ∧ (∀ (f : Rat) (s : State), s.dev.ctl.state ≠ .off → s.dev.chg.gridN ≠ 0 → ∃ t : State,
      exec (.gridVUpdate f) s = .next t ∧ t.pending = s.pending ∧ t.otp = s.otp
        ∧ t.dev = { s.dev.draw with chg := t.dev.chg } ∧ t.dev.chg.state = s.dev.chg.state ∧ t.dev.chg.gridF = f
        ∧ t.dev.chg.gridV = gridRms s.dev.chg.gridPos s.dev.chg.gridN ∧ t.dev.chg.gridN = 0
        ∧ (t.dev.chg.gridV ≠ 0 →
            t.dev.chg.unbalance * t.dev.chg.gridV = gridRms s.dev.chg.gridNeg s.dev.chg.gridN))
  ∧ (∀ (f : Rat) (s : State), s.dev.ctl.state = .off → exec (.gridVUpdate f) s = .next s)
  ∧ (∀ s : State, s.dev.ctl.state ≠ .off → s.dev.acceptable → s.dev.held .gridAccept 100000000 →
      s.dev.chg.state = .gridCheck → s.dev.chg.commanded → s.dev.chg.lostHold = false → s.dev.armReaction .grid < 3 →
      ∃ t : State, exec .gridAcceptance s = .next t ∧ t.pending = s.pending ∧ t.otp = s.otp ∧ t.dev.ctl = s.dev.ctl
        ∧ t.dev.chg = { s.dev.chg with gridOk := true, state := .sync, step := 1, stepStart := s.dev.now
                                       pllLocked := false, ending := none })
  ∧ (∀ s : State, s.dev.ctl.state ≠ .off → s.dev.acceptable → s.dev.held .gridAccept 100000000 →
      s.dev.chg.state ≠ .gridCheck → exec .gridAcceptance s =
        .next (s.onDev (Device.onChg fun x => { x with gridOk := true })))
  ∧ (∀ s : State, s.dev.acceptable = false ∨ s.dev.held .gridAccept 100000000 = false → exec .gridAcceptance s = .next s)
  ∧ (∀ (c : GridCheck) (s : State), s.dev.gridWatched → s.dev.gridFails c → c = .pll ∨ s.dev.held (.grid c) (gridFilter c) →
      exec (.gridSupplyCheckFail c) s = .next (s.onDev (raise (gridCheckFault c) (.stage .grid) 3)))
  ∧ (∀ (c : GridCheck) (s : State), s.dev.gridWatched = false → exec (.gridSupplyCheckFail c) s = .next s)
  ∧ (∀ s : State, s.dev.chg.gridV = 85 / 100 * (Cfg.gridVNom s.dev.cfg : Rat) → s.dev.injectedAt 0x0901 = [] →
      exec (.gridSupplyCheckFail .uv) s = .next s)
  ∧ (∀ s : State, s.dev.chg.state = .sync → s.dev.chg.step = 1 → s.dev.chg.stepStart + 50000000 ≤ s.dev.now →
      s.dev.reaction .grid < 3 → s.dev.ctl.enConv →
      (∀ k : Nat, k ∈ StageGroup.islands .grid → (s.dev.island k).link = 2) → ∃ t : State, exec .pllLocked s = .next t
        ∧ t.pending = s.pending ∧ t.otp = s.otp ∧ t.dev.chg = { s.dev.chg with
            pllLocked := true, step := 3, switching := true, iCmd := 0, vregScale := 0x7FFFFF }
        ∧ t.dev.meas.iso.suspended = true ∧ t.dev.ctl = s.dev.ctl ∧ t.dev.faults = s.dev.faults)
  ∧ (∀ s : State, s.dev.chg.state = .sync → s.dev.chg.step = 1 → s.dev.chg.stepStart + 50000000 ≤ s.dev.now →
      s.dev.ctl.enConv = false ∨ 3 ≤ s.dev.reaction .grid → exec .pllLocked s = .next (s.onDev fun d =>
        d.onChg fun x => { x with pllLocked := true, state := .retryWait, step := 0, stepStart := d.now }))
  ∧ (∀ s : State, s.dev.chg.state ≠ .sync ∨ s.dev.now < s.dev.chg.stepStart + 50000000 → exec .pllLocked s = .next s)
  ∧ (∀ (late : Bool) (s : State), s.dev.chg.state = .sync → s.dev.chg.pllLocked = false →
      s.dev.chg.stepStart + 300000000 ≤ s.dev.now → exec (.pllLockTimeout late) s = .next (s.onDev fun d =>
        lateMisc late (raise .gridPll (.stage .grid) 3 d)))
  ∧ (∀ (late : Bool) (s : State), s.dev.chg.pllLocked ∨ s.dev.now < s.dev.chg.stepStart + 300000000 →
      exec (.pllLockTimeout late) s = .next s)
  ∧ (∀ s : State, s.dev.chg.state = .retryWait → s.dev.chg.commanded → s.dev.acceptable →
      s.dev.held .gridAccept (sec (Cfg.gridRestartT s.dev.cfg)) →
      s.dev.chg.stepStart + sec (Cfg.gridRestartT s.dev.cfg) ≤ s.dev.now → s.dev.armReaction .grid < 3 →
      s.dev.injectedAt 0x0901 = [] →
      (s.dev.chg.restarts.filter fun t => decide (s.dev.now < t + sec 600)).length < 5 → ∃ t : State,
      exec .gridRestart s = .next t ∧ t.pending = s.pending ∧ t.otp = s.otp ∧ t.dev.ctl = s.dev.ctl
        ∧ t.dev.chg.state = .sync ∧ s.dev.now ∈ t.dev.chg.restarts)
  ∧ (∀ s : State, s.dev.chg.state = .retryWait → s.dev.chg.commanded → s.dev.acceptable →
      s.dev.held .gridAccept (sec (Cfg.gridRestartT s.dev.cfg)) →
      s.dev.chg.stepStart + sec (Cfg.gridRestartT s.dev.cfg) ≤ s.dev.now → s.dev.armReaction .grid < 3 →
      5 ≤ (s.dev.chg.restarts.filter fun t => decide (s.dev.now < t + sec 600)).length → ∃ t : State,
      exec .gridRestart s = .next t ∧ t.dev.chg.state = .lockedOut ∧ t.dev.hasFault .gridRetry (.stage .grid) 3)
  ∧ (∀ s : State, s.dev.chg.state ≠ .retryWait → exec .gridRestart s = .next s)
  ∧ (∀ s : State, s.dev.chg.state = .cv → Cfg.chgIEnd s.dev.cfg ≠ 0 → s.dev.fineVal 13 < (Cfg.chgIEnd s.dev.cfg : Rat) →
      s.dev.held .chargeEnd 60000000000 → s.dev.chg.ending = none →
      exec .chargeComplete s = .next (s.onDev (Device.onChg fun x => { x with ending := some true })))
  ∧ (∀ s : State, Cfg.chgIEnd s.dev.cfg = 0 ∨ s.dev.chg.state ≠ .cv → exec .chargeComplete s = .next s)
  ∧ (∀ s : State, s.dev.supply.conv.running → 20 ≤ s.dev.chg.iCmd → s.dev.latchedVal 13 < 5 →
      s.dev.held .tbatLost 1000000 → exec .tbatLost s = .next (s.onDev fun d =>
        raiseActs .tbatLost .module 3 [(.stage .grid, 3), (.stage .conv, 3), (.module, 2)]
          (d.onChg fun x => { x with lostHold := true })))
  ∧ (∀ s : State, s.dev.chg.iCmd < 20 → exec .tbatLost s = .next s)

/-- R242, R243: a refresh of the host watchdog by any of the charge commands, and its expiry. -/
def Obligations.HostWatchdog : Prop :=
  (∀ (q : Path) (v : BitVec 8) (s : State), s.dev.takes q .b false → exec (.chgWdRefresh q v) s = .next (s.onDev fun d =>
      answer q Abort.ok [] (clearFault .chgWdExpired .module ((touchPath q d).onChg fun x => { x with
        lastRefresh := some d.now, fallback := false }))))
  ∧ (∀ (q : Path) (v : BitVec 16) (s : State), s.dev.takes q .b false → v.toNat ≤ 2000 →
      exec (.chgISetWrite q v) s = .next (s.onDev fun d => answer q Abort.ok [] (clearFault .chgWdExpired .module
        ((pushLive 0x290002 v.toNat (touchPath q d)).onChg fun x => { x with
          lastRefresh := some d.now, fallback := false }))))
  ∧ (∀ (q : Path) (v : BitVec 16) (s : State), s.dev.takes q .b false → 2000 < v.toNat →
      exec (.chgISetWrite q v) s = .next (s.onDev fun d => answer q Abort.range [] (touchPath q d)))
  ∧ (∀ (q : Path) (v : BitVec 16) (s : State), s.dev.takes q .b false → 600 ≤ v.toNat → v.toNat ≤ 1350 →
      exec (.chgVSetWrite q v) s = .next (s.onDev fun d => answer q Abort.ok [] (clearFault .chgWdExpired .module
        ((pushLive 0x290003 v.toNat (touchPath q d)).onChg fun x => { x with
          lastRefresh := some d.now, fallback := false }))))
  ∧ (∀ (q : Path) (v : BitVec 16) (s : State), s.dev.takes q .b false → v.toNat < 600 ∨ 1350 < v.toNat →
      exec (.chgVSetWrite q v) s = .next (s.onDev fun d => answer q Abort.range [] (touchPath q d)))
  ∧ (∀ s : State, s.dev.ctl.state ≠ .off →
      s.dev.chg.lastRefresh.getD 0 + sec (Cfg.chgWdTime s.dev.cfg) ≤ s.dev.now → ∃ t : State,
      exec (.chgWdExpired none) s = .next t ∧ t.pending = s.pending ∧ t.otp = s.otp ∧ t.dev.chg.fallback = true
        ∧ t.dev.hasFault .chgWdExpired .module 0 ∧ t.dev.ctl = s.dev.ctl ∧ t.dev.bchg.state ≠ .fast
        ∧ t.dev.bchg.state ≠ .precharge ∧ t.dev.chg.wdLate = s.dev.chg.wdLate)
  ∧ (∀ s : State, s.dev.ctl.state ≠ .off →
      s.dev.chg.lastRefresh.getD 0 + sec (Cfg.chgWdTime s.dev.cfg) ≤ s.dev.now → ∃ t : State,
      exec (.chgWdExpired (some false)) s = .next t ∧ t.dev.chg.fallback = true
        ∧ t.dev.chg.wdLate = (s.dev.chg.wdLate + 1) % 2 ^ 16)
  ∧ (∀ s : State, s.dev.ctl.state ≠ .off →
      s.dev.chg.lastRefresh.getD 0 + sec (Cfg.chgWdTime s.dev.cfg) ≤ s.dev.now → exec (.chgWdExpired (some true)) s =
        .next (s.onDev fun d => clearFault .chgWdExpired .module (d.onChg fun x => { x with
          lastRefresh := some d.now, fallback := false })))
  ∧ (∀ (r : Option Bool) (s : State), s.dev.now < s.dev.chg.lastRefresh.getD 0 + sec (Cfg.chgWdTime s.dev.cfg) →
      s.dev.forcedAt 0x0903 = false →
      exec (.chgWdExpired r) s = .next s)

/-- R245 to R252: the backup charger. R253: the lamp outputs. -/
def Obligations.BackupCharger : Prop :=
  (∀ s : State, s.dev.ctl.state ≠ .off → ∃ t : State, exec (.batauxTempRead none) s = .next t ∧ t.pending = s.pending
      ∧ t.otp = s.otp ∧ t.dev.bchg.temp = none ∧ t.dev.hasFault .batauxTsense (.backup 0) 0 ∧ t.dev.bchg.state ≠ .fast
      ∧ t.dev.bchg.state ≠ .precharge ∧ t.dev.bchg.state ≠ .waitTemp)
  ∧ (∀ (x : Rat) (s : State), s.dev.ctl.state ≠ .off → s.dev.forcedAt 0x0904 = false → ∃ t : State,
      exec (.batauxTempRead (some x)) s = .next t ∧ t.pending = s.pending ∧ t.otp = s.otp
        ∧ t.dev.bchg.temp = some (ntcTemp x) ∧ t.dev.bchg.state = s.dev.bchg.state ∧ t.dev.ctl = s.dev.ctl
        ∧ ((Cfg.bchgTMax s.dev.cfg : Rat) ≤ ntcTemp x →
          t.dev.bchg.hotHold = true ∧ t.dev.hasFault .batauxHot (.backup 0) 0))
  ∧ (∀ (x : Rat) (s : State), s.dev.ctl.state ≠ .off → s.dev.forcedAt 0x0904 = false → ∃ t : State,
      exec (.batauxTempRead (some x)) s = .next t
        ∧ ((Cfg.bchgTMax s.dev.cfg : Rat) - 5 ≤ ntcTemp x → ntcTemp x < (Cfg.bchgTMax s.dev.cfg : Rat) →
          t.dev.bchg.hotHold = s.dev.bchg.hotHold)
        ∧ (ntcTemp x < (Cfg.bchgTMax s.dev.cfg : Rat) - 5 → t.dev.bchg.hotHold = false))
  ∧ (∀ s : State, s.dev.bchg.state = .precharge → s.dev.bchg.phaseStart + sec 1800 ≤ s.dev.now → ∃ t : State,
      exec .batauxDead s = .next t ∧ t.pending = s.pending ∧ t.otp = s.otp ∧ t.dev.bchg.state = .stopped
        ∧ t.dev.bchg.current = 0 ∧ t.dev.hasFault .batauxDead (.backup 0) 0 ∧ t.dev.ctl = s.dev.ctl)
  ∧ (∀ s : State, s.dev.bchg.state ≠ .precharge → exec .batauxDead s = .next s)
  ∧ (∀ (x : Rat) (s : State), s.dev.bchg.state = .trickle → s.dev.chg.fallback = false → s.dev.bchg.temp = some x →
      5 ≤ x → x ≤ 40 → s.dev.fineVal 27 < 18 * (Cfg.bchgRestartV s.dev.cfg : Rat) / 100 →
      s.dev.held .bchgRestart 60000000000 →
      exec .bchgRestartFast s = .next (s.onDev fun d => d.onCharger fun y => { y with
        state := .fast, phaseStart := d.now, timerPaused := false, dvArmed := false, endCause := 0
        vSum := 0, vN := 0, vBad := false, vMean := none, vPeak := none
        safetyRun := 0, safetySince := some d.now, ceilRun := 0, ceilSince := some d.now }))
  ∧ (∀ (x : Rat) (s : State), s.dev.bchg.state = .trickle → s.dev.chg.fallback = false → s.dev.bchg.temp = some x →
      x < 5 ∨ 40 < x → s.dev.fineVal 27 < 18 * (Cfg.bchgRestartV s.dev.cfg : Rat) / 100 →
      s.dev.held .bchgRestart 60000000000 → exec .bchgRestartFast s = .next (s.onDev fun d => d.onCharger fun y => { y with
        state := .waitTemp, phaseStart := d.now }))
  ∧ (∀ s : State, s.dev.chg.fallback ∨ s.dev.bchg.state ≠ .trickle → exec .bchgRestartFast s = .next s)
  ∧ (∀ s : State, s.dev.bchg.state = .fast → s.dev.bchg.phaseStart + sec (60 * Cfg.bchgDvHold s.dev.cfg) ≤ s.dev.now →
      exec .dvArmed s = .next (s.onDev (Device.onCharger fun x => { x with dvArmed := true })))
  ∧ (∀ s : State, s.dev.bchg.state ≠ .fast → exec .dvArmed s = .next s)
  ∧ (∀ (m p : Rat) (s : State), s.dev.bchg.dvArmed → s.dev.bchg.vMean = some m → s.dev.bchg.vPeak = some p →
      (s.dev.fastEnded .dv ↔ 18 * (Cfg.bchgDvCell s.dev.cfg : Rat) / 1000 ≤ p - m))
  ∧ (∀ (c : FastEnd) (s : State), s.dev.bchg.state = .fast → s.dev.fastEnded c → ∃ t : State,
      exec (.bchgFastEnd c) s = .next t ∧ t.pending = s.pending ∧ t.otp = s.otp ∧ t.dev = { s.dev with bchg := t.dev.bchg }
        ∧ t.dev.bchg.state = .trickle ∧ t.dev.bchg.recCause = fastEndCode c ∧ t.dev.bchg.endCause = fastEndCode c)
  ∧ (∀ s : State, s.dev.bchg.dvArmed = false → exec (.bchgFastEnd .dv) s = .next s ∧ exec (.bchgFastEnd .dtdt) s = .next s)
  ∧ (∀ (e : Bool) (s : State), s.dev.bchg.state = .fast →
      s.dev.tNom ≤ timerRun s.dev.bchg.safetyRun s.dev.bchg.safetySince s.dev.now → ∃ t : State,
      exec (.bchgSafetyTimerExpiry e) s = .next t ∧ t.pending = s.pending ∧ t.otp = s.otp ∧ t.dev.bchg.state = .stopped
        ∧ t.dev.bchg.recCause = 4 ∧ t.dev.hasFault .chgtime (.backup 0) 0 ∧ t.dev.ctl = s.dev.ctl
        ∧ t.dev.bchg.late = if e then (s.dev.bchg.late + 1) % 2 ^ 16 else s.dev.bchg.late)
  ∧ (∀ (e : Bool) (s : State), s.dev.bchg.state = .fast →
      2 * s.dev.tNom ≤ timerRun s.dev.bchg.ceilRun s.dev.bchg.ceilSince s.dev.now → ∃ t : State,
      exec (.bchgCeilingTimerExpiry e) s = .next t ∧ t.pending = s.pending ∧ t.otp = s.otp ∧ t.dev.bchg.state = .stopped
        ∧ t.dev.bchg.recCause = 5 ∧ t.dev.hasFault .chgtime (.backup 0) 0 ∧ t.dev.ctl = s.dev.ctl
        ∧ t.dev.bchg.late = if e then (s.dev.bchg.late + 1) % 2 ^ 16 else s.dev.bchg.late)
  ∧ (∀ (e : Bool) (s : State), s.dev.bchg.state ≠ .fast →
      exec (.bchgSafetyTimerExpiry e) s = .next s ∧ exec (.bchgCeilingTimerExpiry e) s = .next s)
  ∧ (∀ s : State, s.dev.ctl.state ≠ .off → s.dev.bchg.present → s.dev.batauxRemoved → ∃ t : State,
      exec .batauxLost s = .next t
      ∧ t.pending = s.pending ∧ t.otp = s.otp ∧ t.dev.bchg.state = .lost ∧ t.dev.bchg.present = false
      ∧ t.dev.supply.backup.diodeOn = false ∧ t.dev.supply.backup.cause = 4 ∧ t.dev.hasFault .batauxLost (.backup 0) 0
      ∧ t.dev.ctl = s.dev.ctl)
  ∧ (∀ s : State, s.dev.bchg.current = 0 → s.dev.fineVal 27 < 9 → s.dev.held .batauxGone 100000000 → s.dev.batauxRemoved)
  ∧ (∀ s : State, s.dev.bchg.current = 0 → 9 ≤ s.dev.fineVal 27 → s.dev.forcedAt 0x0904 = false →
      exec .batauxLost s = .next s)
  ∧ (∀ s : State, s.dev.ctl.state ≠ .off → s.dev.bchg.present = false → 9 ≤ s.dev.fineVal 27 →
      s.dev.held .batauxBack 2000000000 →
      exec .batauxPresent s = .next (s.onDev fun d => (d.onCharger fun x => { x with present := true }).onBackup fun x =>
        { x with cause := if x.cause = 4 then 0 else x.cause }))
  ∧ (∀ s : State, s.dev.bchg.present ∨ s.dev.fineVal 27 < 9 → exec .batauxPresent s = .next s)
  ∧ (∀ (q : Path) (x : Rat) (s : State), s.dev.takes q .b false → s.dev.bchg.state = .trickle → s.dev.bchg.temp = some x →
      5 ≤ x → x ≤ 40 → ∃ t : State, exec (.bchgCmdForceFast q) s = .next t ∧ t.pending = s.pending ∧ t.otp = s.otp
        ∧ t.dev.bchg.state = .fast ∧ t.dev.chg.fallback = false ∧ t.dev.ctl = s.dev.ctl)
  ∧ (∀ (q : Path) (s : State), s.dev.takes q .b false → s.dev.bchg.state = .stopped ∨ s.dev.bchg.state = .lost →
      exec (.bchgCmdForceFast q) s = .next (s.onDev fun d => answer q Abort.state [] (touchPath q d)))
  ∧ (∀ (q : Path) (s : State), s.dev.takes q .b false → s.dev.bchg.present = false →
      exec (.bchgCmdRearm q) s = .next (s.onDev fun d => answer q Abort.state [] (touchPath q d)))
  ∧ (∀ (q : Path) (s : State), s.dev.takes q .b false → s.dev.bchg.present → s.dev.bchg.state = .stopped →
      ∃ t : State, exec (.bchgCmdRearm q) s = .next t ∧ t.pending = s.pending ∧ t.otp = s.otp ∧ t.dev.ctl = s.dev.ctl
        ∧ t.dev.bchg.state ≠ .stopped)
  ∧ (∀ (flt : Bool) (s : State), s.dev.ctl.state ≠ .off → exec (.lampOc flt) s = .next (s.onDev fun d =>
      raise .lampOc (.backup (if flt then 3 else 2)) 0 (d.onLamp flt fun x => { x with off := true, offAt := d.now })))
  ∧ (∀ (flt : Bool) (s : State), s.dev.ctl.state = .off → exec (.lampOc flt) s = .next s)
  ∧ (∀ (flt : Bool) (s : State), (s.dev.lamps.get flt).off → (s.dev.lamps.get flt).offAt + 1000000000 ≤ s.dev.now →
      exec (.lampRetry flt false) s = .next (s.onDev fun d =>
        clearFault .lampOc (.backup (if flt then 3 else 2)) (d.onLamp flt fun x => { x with off := false, offAt := d.now })))
  ∧ (∀ (flt : Bool) (s : State), (s.dev.lamps.get flt).off → (s.dev.lamps.get flt).offAt + 1000000000 ≤ s.dev.now →
      exec (.lampRetry flt true) s = .next (s.onDev fun d => d.onLamp flt fun x => { x with off := true, offAt := d.now }))
  ∧ (∀ (flt still : Bool) (s : State), (s.dev.lamps.get flt).off = false ∨
      s.dev.now < (s.dev.lamps.get flt).offAt + 1000000000 → exec (.lampRetry flt still) s = .next s)
  ∧ (∀ s : State, 1000000000 ≤ s.dev.now →
      exec .lampTestEnd s = .next (s.onDev fun d => { d with lamps := { d.lamps with test := false } }))
  ∧ (∀ s : State, s.dev.now < 1000000000 → exec .lampTestEnd s = .next s)
/-! ## Gearbox actuators (chapter 10) -/

/-- R257 to R266: Hall edges, over-current, commands, stalls and timeouts of a drive. -/
def Obligations.ActuatorDrives : Prop :=
  (∀ (n : Fin 4) (h : Fin 8) (s : State), s.dev.ctl.state ≠ .off → n < s.dev.acts.length → h = 0 ∨ h = 7 →
      exec (.hallEdge n h) s = .next (s.onDev fun d => d.onAct n fun x => { x with
        hall := h, hallOkFrom := none, hallBadSince := some (x.hallBadSince.getD d.now) }))
  ∧ (∀ (n : Fin 4) (h : Fin 8) (s : State), s.dev.ctl.state = .off → exec (.hallEdge n h) s = .next s)
  ∧ (∀ (n : Fin 4) (s : State), s.dev.ctl.state ≠ .off → n < s.dev.acts.length → (s.dev.act n).hallLast = 1 →
      (s.dev.act n).busy = false → (s.dev.act n).op = .idle → -2147483648 ≤ (s.dev.act n).pos →
      (s.dev.act n).pos < 2147483647 → ∃ t : State, exec (.hallEdge n 3) s = .next t ∧ t.pending = s.pending
      ∧ t.otp = s.otp ∧ (t.dev.act n).pos = (s.dev.act n).pos + 1 ∧ (t.dev.act n).hall = 3
      ∧ t.dev = { s.dev.draw with acts := t.dev.acts } ∧ (t.dev.act n).hallSkip = (s.dev.act n).hallSkip)
  ∧ (∀ (n : Fin 4) (s : State), s.dev.ctl.state ≠ .off → n < s.dev.acts.length → (s.dev.act n).hallLast = 1 →
      (s.dev.act n).busy = false → (s.dev.act n).op = .holding → -2147483648 < (s.dev.act n).pos →
      (s.dev.act n).pos ≤ 2147483647 → ∃ t : State, exec (.hallEdge n 5) s = .next t
      ∧ (t.dev.act n).pos = (s.dev.act n).pos - 1)
  ∧ (∀ (n : Fin 4) (u : Nanos) (s : State), s.dev.ctl.state ≠ .off → n < s.dev.acts.length →
      (s.dev.act n).hallBadSince = some u → u + 1000000 ≤ s.dev.now → ∃ t : State,
      exec (.hallFault n) s = .next t ∧ t.pending = s.pending ∧ t.otp = s.otp ∧ t.dev.hasFault .hallFault (.actuator n) 3
      ∧ (t.dev.act n).homed = false ∧ (t.dev.act n).stored = none ∧ t.dev.ctl = s.dev.ctl
      ∧ (s.dev.activeAt .hallFault (.actuator n) = false → (t.dev.act n).iRef = 0 ∧ (t.dev.act n).cmd = none
          ∧ (t.dev.act n).op = if (s.dev.act n).op = .idle then .idle else .failed))
  ∧ (∀ (n : Fin 4) (s : State), (s.dev.act n).hallBadSince = none → (s.dev.act n).skipsOp < 4 →
      s.dev.forced 0x0A01 n = false → exec (.hallFault n) s = .next s)
  ∧ (∀ (n : Fin 4) (s : State), s.dev.activeAt .actOc (.actuator n) → (s.dev.act n).op = .failed → s.dev.ocOver n →
      exec (.actOcRecover n) s = .next (s.onDev (Device.onAct n fun x => { x with op := .idle })))
  ∧ (∀ (n : Fin 4) (s : State), s.dev.ocOver n = false → exec (.actOcRecover n) s = .next s)
  ∧ (∀ (q : Path) (n k : Fin 4) (s : State), s.dev.takes q .b false → s.dev.driveBlocked n = false →
      (s.dev.act n).busy = false → (s.dev.act n).homed → (s.dev.act n).therm < 1 → Cfg.actRole s.dev.cfg n = 0 →
      exec (.actCmdTarget q n k) s = .next (s.onDev fun d => answer q Abort.ok [] (pushLive (actCmdKey n) (16 + k)
        ((clearFault .overrun (.stage .act) (touchPath q d)).onAct n fun x => { x with cmd := some (16 + k) }))))
  ∧ (∀ (q : Path) (n k : Fin 4) (s : State), s.dev.takes q .b false → s.dev.driveBlocked n →
      exec (.actCmdTarget q n k) s = .next (s.onDev fun d => answer q Abort.state [] (touchPath q d))
        ∧ exec (.actCmdHome q n) s = .next (s.onDev fun d => answer q Abort.state [] (touchPath q d))
        ∧ exec (.actCmdStop q n) s = .next (s.onDev fun d => answer q Abort.state [] (touchPath q d)))
  ∧ (∀ (q : Path) (n k : Fin 4) (s : State), s.dev.takes q .b false → s.dev.driveBlocked n = false →
      (s.dev.act n).busy → exec (.actCmdTarget q n k) s = .next (s.onDev fun d => answer q Abort.state []
        ((touchPath q d).onAct n fun x => { x with cmdBusy := (x.cmdBusy + 1) % 2 ^ 8 })))
  ∧ (∀ (q : Path) (n : Fin 4) (s : State), s.dev.takes q .b false → s.dev.driveBlocked n = false →
      (s.dev.act n).busy = false → Cfg.actRole s.dev.cfg n ≠ 1 → Cfg.actRole s.dev.cfg n ≠ 2 →
      (s.dev.act n).therm < 1 →
      exec (.actCmdHome q n) s = .next (s.onDev fun d => answer q Abort.ok [] (pushLive (actCmdKey n) 0x20
        ((clearFault .overrun (.stage .act) (touchPath q d)).onAct n fun x => { x with cmd := some 0x20 }))))
  ∧ (∀ (q : Path) (n : Fin 4) (s : State), s.dev.takes q .b false → s.dev.driveBlocked n = false →
      exec (.actCmdStop q n) s = .next (s.onDev fun d => answer q Abort.ok [] (pushLive (actCmdKey n) 0x30
        ((touchPath q d).onAct n fun x => { x with cmd := some 0x30 }))))
  ∧ (∀ (n : Fin 4) (s : State), (s.dev.act n).op = .moving → n < s.dev.acts.length → s.dev.actStopped n →
      (s.dev.act n).homing → (s.dev.act n).shiftBad = false → ∃ t : State,
      exec (.actStallDetect n) s = .next t ∧ t.pending = s.pending ∧ t.otp = s.otp ∧ (t.dev.act n).homed = true
        ∧ (t.dev.act n).pos = Cfg.homePos s.dev.cfg n ∧ (t.dev.act n).op = .holding ∧ t.dev.ctl = s.dev.ctl)
  ∧ (∀ (n : Fin 4) (s : State), (s.dev.act n).op = .moving → n < s.dev.acts.length → s.dev.actStopped n →
      (s.dev.act n).homing = false → (s.dev.act n).goalEnd = false →
      (s.dev.act n).retries < Cfg.actRetries s.dev.cfg n → 0 < Cfg.backoff s.dev.cfg n →
      (s.dev.act n).pos ≤ (s.dev.act n).goal → exec (.actStallDetect n) s = .next (s.onDev fun d => d.onAct n fun x => { x with
        op := .backingOff, retries := x.retries + 1, iRef := 0, lastEdge := d.now
        backTo := x.pos - (Cfg.backoff d.cfg n : Int) }))
  ∧ (∀ (n : Fin 4) (s : State), (s.dev.act n).op = .moving → n < s.dev.acts.length → s.dev.actStopped n →
      (s.dev.act n).homing = false → (s.dev.act n).goalEnd = false →
      Cfg.actRetries s.dev.cfg n ≤ (s.dev.act n).retries → ∃ t : State,
      exec (.actStallDetect n) s = .next t ∧ (t.dev.act n).op = .failed ∧ (t.dev.act n).stall = true
        ∧ (t.dev.act n).iRef = 0 ∧ t.dev.hasFault .actStall (.actuator n) 0 ∧ t.dev.ctl = s.dev.ctl)
  ∧ (∀ (n : Fin 4) (s : State), s.dev.actPushes n = false ∨ (s.dev.act n).op = .holding →
      exec (.actStallDetect n) s = .next s)
  ∧ (∀ (n : Fin 4) (e : Bool) (s : State), (s.dev.act n).op = .moving ∨ (s.dev.act n).op = .seating →
      (s.dev.act n).opStart + ms (Cfg.opTMax s.dev.cfg n) ≤ s.dev.now → exec (.actTimeout n e) s = .next (s.onDev fun d =>
        raise .actTimeout (.actuator n) 0 ((actRelease n d).onAct n fun x => { x with
          op := .failed, homing := false, actLate := if e then (x.actLate + 1) % 2 ^ 8 else x.actLate })))
  ∧ (∀ (n : Fin 4) (e : Bool) (s : State), (s.dev.act n).op = .holding → exec (.actTimeout n e) s = .next s)
  ∧ (∀ (n : Fin 4) (late : Bool) (s : State), (s.dev.act n).diffWait →
      (s.dev.act n).stepStart + ms (Cfg.diffWaitT s.dev.cfg n) ≤ s.dev.now →
      exec (.diffWaitTimeout n late) s = .next (s.onDev fun d =>
        lateMisc late (d.onAct n fun x => { x with diffWait := false, op := .failed })))
  ∧ (∀ (n : Fin 4) (late : Bool) (s : State), (s.dev.act n).diffWait = false →
      exec (.diffWaitTimeout n late) s = .next s)
  ∧ (∀ (n : Fin 4) (s : State), (s.dev.act n).op = .pause → (s.dev.act n).pauseUntil ≤ s.dev.now → (s.dev.act n).homing →
      exec (.actPauseEnd n) s = .next (s.onDev fun d => d.onAct n fun x => { x with
        op := .moving, lastEdge := d.now, opStart := d.now }))
  ∧ (∀ (n : Fin 4) (s : State), s.dev.now < (s.dev.act n).pauseUntil → exec (.actPauseEnd n) s = .next s)

/-- R267 to R271: the steps of a shift and the thermal account of a drive. R258: which phase is modulated and which is held
low for a Hall code, in both directions of torque. -/
def Obligations.ShiftSequence : Prop :=
  (∀ (n : Fin 4) (x0 : Nanos) (s : State), (s.dev.act n).shift = 4 → (s.dev.act n).syncSince = some x0 →
      x0 + 20000000 ≤ s.dev.now → n < s.dev.acts.length → s.dev.shiftLost n = false →
      (s.dev.act n).pos ≠ Cfg.targetPos s.dev.cfg n (s.dev.act n).gear → ∃ t : State,
      exec (.shiftSyncReached n) s = .next t ∧ t.pending = s.pending ∧ t.otp = s.otp ∧ (t.dev.act n).shift = 5
        ∧ (t.dev.act n).stepStart = s.dev.now ∧ (t.dev.act n).goal = Cfg.targetPos s.dev.cfg n (s.dev.act n).gear
        ∧ t.dev.ctl = s.dev.ctl ∧ t.dev.faults = s.dev.faults)
  ∧ (∀ (n : Fin 4) (s : State), (s.dev.act n).syncSince = none → exec (.shiftSyncReached n) s = .next s)
  ∧ (∀ (n : Fin 4) (p : PortId) (late : Bool) (s : State), (s.dev.act n).shift = 2 → n < s.dev.acts.length → s.dev.forkPort n = some p →
      s.dev.shiftLost n = false → (s.dev.act n).stepStart + ms (Cfg.stepTMax s.dev.cfg n 2) ≤ s.dev.now → ∃ t : State,
      exec (.shiftStepTimeout n late) s = .next t ∧ t.pending = s.pending ∧ t.otp = s.otp ∧ (t.dev.act n).shift = 6
        ∧ t.dev.hasFault .shiftFail (.port p) 0 ∧ t.dev.ctl = s.dev.ctl)
  ∧ (∀ (n : Fin 4) (p : PortId) (late : Bool) (s : State), (s.dev.act n).shift = 4 → n < s.dev.acts.length → s.dev.forkPort n = some p →
      s.dev.shiftLost n = false → (s.dev.act n).stepStart + ms (Cfg.stepTMax s.dev.cfg n 4) ≤ s.dev.now → ∃ t : State,
      exec (.shiftStepTimeout n late) s = .next t ∧ (t.dev.act n).shift = 7 ∧ (t.dev.act n).op = .failed
        ∧ t.dev.hasFault .shiftFail (.port p) 1 ∧ (t.dev.port p).shiftRef = none ∧ (t.dev.port p).shiftCeil = none)
  ∧ (∀ (n : Fin 4) (late : Bool) (s : State), s.dev.forced 0x0A02 n = false →
      s.dev.now < (s.dev.act n).stepStart + ms (Cfg.stepTMax s.dev.cfg n (s.dev.act n).shift) →
      exec (.shiftStepTimeout n late) s = .next s)
  ∧ (∀ (n : Fin 4) (s : State), s.dev.ctl.state ≠ .off → n < s.dev.acts.length → due s.dev.now (s.dev.act n).thermAt 10000000 →
      0 < Cfg.actICont s.dev.cfg n → ∃ t : State,
      exec (.actThermalUpdate n) s = .next t ∧ t.pending = s.pending ∧ t.otp = s.otp
        ∧ (t.dev.act n).therm = (s.dev.act n).therm
            + ((s.dev.act n).meanSq / ((Cfg.actICont s.dev.cfg n : Rat) * Cfg.actICont s.dev.cfg n)
              - (s.dev.act n).therm) / 100 / (Cfg.thTau s.dev.cfg n : Rat)
        ∧ (t.dev.act n).iSq = 0 ∧ (t.dev.act n).iN = 0 ∧ t.dev.ctl = s.dev.ctl
        ∧ (s.dev.forced 0x0A02 n = false → (t.dev.act n).hot = decide (1 ≤ (t.dev.act n).therm))
        ∧ (1 ≤ (t.dev.act n).therm → t.dev.hasFault .actHot (.actuator n) 0))
  ∧ (∀ (n : Fin 4) (s : State), due s.dev.now (s.dev.act n).thermAt 10000000 = false →
      exec (.actThermalUpdate n) s = .next s)
  ∧ (∀ (h shift : Nat) (f : Bool), commutation h shift f = none ↔ ¬ (1 ≤ h ∧ h ≤ 6))
  ∧ (∀ (h shift hi lo : Nat) (f : Bool), commutation h shift f = some (hi, lo) →
      hi < 3 ∧ lo < 3 ∧ hi ≠ lo ∧ commutation h shift (!f) = some (lo, hi)
        ∧ commutation h (shift + 6) f = some (hi, lo) ∧ commutation h (shift + 3) f = some (lo, hi))

/-! ## Thermal management (chapter 11) -/

/-- R277 to R283: temperatures of the dies, their over-temperature and its end. R284 to R290: the controller die, the
coolant, the link capacitors, the windings, the timebase. -/
def Obligations.DieTemperatures : Prop :=
  (∀ (l : List (Fin 512 × Option Int)) (s : State), s.dev.ctl.state ≠ .off → due s.dev.now s.dev.therm.dieAt 50000 →
      ∃ t : State, exec (.dieTempEval l) s = .next t ∧ t.pending = s.pending ∧ t.otp = s.otp ∧ t.dev.ctl = s.dev.ctl
      ∧ t.dev.meas = s.dev.meas ∧ t.dev.slots = s.dev.slots ∧ t.dev.therm.dieAt = some s.dev.now)
  ∧ (∀ (l : List (Fin 512 × Option Int)) (s : State), due s.dev.now s.dev.therm.dieAt 50000 = false →
      exec (.dieTempEval l) s = .next s)
  ∧ (∀ (g : Fin 512) (s : State), s.dev.ctl.state ≠ .off → ∃ t : State, exec (.dieOt g) s = .next t ∧ t.pending = s.pending
      ∧ t.otp = s.otp ∧ t.dev.hasFault .dieOt (.stage (stageOfChan g)) 3)
  ∧ (∀ (g : Fin 512) (s : State), s.dev.ctl.state = .off → exec (.dieOt g) s = .next s)
  ∧ (∀ (k : Fin 64) (s : State), (s.dev.island k).otPending → (s.dev.island k).otAt + 10000 ≤ s.dev.now →
      (∃ c ∈ (s.dev.island k).chans, c.gateOn = true) → k.val < 61 → exec (.dieOtIslandPreset k) s =
        .next (s.onDev fun d => d.onIsland k (Island.enterPreset (stageOfIsland k) d.now)))
  ∧ (∀ (k : Fin 64) (s : State), (s.dev.island k).otPending → (s.dev.island k).otAt + 10000 ≤ s.dev.now →
      (∃ c ∈ (s.dev.island k).chans, c.gateOn = true) → 61 ≤ k.val → exec (.dieOtIslandPreset k) s =
        .next (s.onDev fun d => d.each ((islandChans k).filter fun g =>
          (((islandChans k).filter fun h => (d.chan h).ot).map actOf).contains (actOf g)) fun g =>
            Device.onChan g (GateChan.force false d.now (d.edgeOf g))))
  ∧ (∀ (k : Fin 64) (s : State), (∀ c ∈ (s.dev.island k).chans, c.gateOn = false) ∨ (s.dev.island k).otPending = false →
      exec (.dieOtIslandPreset k) s = .next s)
  ∧ (∀ (sg : StageGroup) (s : State), s.dev.activeAt .dieOt (.stage sg) →
      lasted s.dev.now (s.dev.therm.coolSince.getD sg.num none) 1000000000 → ∃ t : State,
      exec (.dieOtCooldown sg false) s = .next t ∧ t.pending = s.pending ∧ t.otp = s.otp
        ∧ t.dev.activeAt .dieOt (.stage sg) = false ∧ t.dev.ctl = s.dev.ctl
        ∧ (∀ k : Nat, k ∈ sg.islands → k < s.dev.gates.islands.length → (t.dev.island k).otPending = false)
        ∧ (∀ p : PortId, sg.port? = some p → (t.dev.port p).afresh = true))
  ∧ (∀ (sg : StageGroup) (s : State), s.dev.activeAt .dieOt (.stage sg) →
      lasted s.dev.now (s.dev.therm.coolSince.getD sg.num none) 1000000000 → exec (.dieOtCooldown sg true) s =
        .next (s.onDev fun d => { d with therm := { d.therm with coolSince := d.therm.coolSince.set sg.num none } }))
  ∧ (∀ (sg : StageGroup) (b : Bool) (s : State), s.dev.therm.coolSince.getD sg.num none = none →
      exec (.dieOtCooldown sg b) s = .next s)
  ∧ (∀ (d : Device) (g : Nat) (t : Int), d.hottestOf g = some t → (t : Rat) / 8 ≤ Cfg.dieTDerate d.cfg → d.dieFactorOf g = 1)
  ∧ (∀ (d : Device) (g : Nat) (t : Int), d.hottestOf g = some t → (Cfg.dieTDerate d.cfg : Rat) < 180 → 1440 ≤ t →
      d.dieFactorOf g = 0)
  ∧ (∀ (d : Device) (g : Nat), d.hottestOf g = none → d.dieFactorOf g = 1 / 4)
  ∧ (∀ (a b : Option Rat) (s : State), s.dev.ctl.state ≠ .off → s.dev.ctl.state ≠ .safe →
      due s.dev.now s.dev.therm.tjAt 1000000 → ∃ t : State, exec (.ctrlTjUpdate a b) s = .next t ∧ t.pending = s.pending ∧ t.otp = s.otp ∧ t.dev.therm.tjA = a
        ∧ t.dev.therm.tjB = b ∧ t.dev.ctl = s.dev.ctl
        ∧ (∀ x : Rat, t.dev.therm.tj = some x → 115 ≤ x → t.dev.therm.throttled = true
            ∧ t.dev.therm.q = throttleQ x ∧ t.dev.therm.ctrlFactor = fall 125 135 (1 / 2) x)
        ∧ (∀ x : Rat, t.dev.therm.tj = some x → x < 110 → t.dev.therm.throttled = false ∧ t.dev.therm.q = 0))
  ∧ (∀ (a b : Rat) (s : State), s.dev.ctl.state = .safe → (s.dev.entry? .ctrlOt .module).isSome →
      (∀ e ∈ s.dev.faults.active, 4 ≤ e.reaction ∨ e.name = .ctrlOt → e.name = .ctrlOt ∧ e.scope = .module) →
      a < 105 → b < 105 →
      due s.dev.now s.dev.therm.tjAt 1000000 → ∃ t : State,
      exec (.ctrlTjUpdate (some a) (some b)) s = .next t ∧ t.dev.ctl.state = .standby ∧ t.dev.active .ctrlOt = false)
  ∧ throttleQ 115 = 1 / 4 ∧ throttleQ 130 = 3 ∧ (∀ x : Rat, 1 / 4 ≤ throttleQ x ∧ throttleQ x ≤ 3)
  ∧ (∀ s : State, s.dev.ctl.state ≠ .off → s.dev.therm.tj = none →
      exec .ctrlTsense s = .next (s.onDev (raise .ctrlTsense .module 4)))
  ∧ (∀ (a b : Option Rat) (s : State), due s.dev.now s.dev.therm.tjAt 1000000 = false →
      exec (.ctrlTjUpdate a b) s = .next s)
  ∧ (∀ (x : Rat) (s : State), s.dev.ctl.state ≠ .off → s.dev.therm.tj = some x → s.dev.tjLost →
      exec .ctrlTsense s = .next (s.onDev (raise .ctrlTsense .module 0)))
  ∧ (∀ s : State, s.dev.tjLost = false → exec .ctrlTsense s = .next s)
  ∧ (∀ s : State, s.dev.ctl.state ≠ .off → exec .ctrlOt s = .next (s.onDev (raise .ctrlOt .module 4)))
  ∧ (∀ s : State, s.dev.ctl.state = .off → exec .ctrlOt s = .next s)
  ∧ (∀ s : State, s.dev.ctl.state ≠ .off → lasted s.dev.now s.dev.therm.inletSince 1000000000 →
      exec .coolantHot s = .next (s.onDev (raise .coolantHot .module 2)))
  ∧ (∀ s : State, lasted s.dev.now s.dev.therm.inletSince 1000000000 = false → s.dev.forced 0x0B04 8 = false →
      exec .coolantHot s = .next s)
  ∧ (∀ (x : Rat) (d : Device), (coolantInlet (some x) d).therm.inletSince =
      if 72 ≤ x then some (d.therm.inletSince.getD d.now) else none)
  ∧ (∀ s : State, s.dev.ctl.state ≠ .off → lasted s.dev.now s.dev.therm.flowSince 10000000000 →
      exec .coolantFlow s = .next (s.onDev (raise .coolantFlow .module 0)))
  ∧ (∀ s : State, lasted s.dev.now s.dev.therm.flowSince 10000000000 = false → s.dev.forced 0x0B04 9 = false →
      exec .coolantFlow s = .next s)
  ∧ (∀ (x y : Rat) (h : Thermal), h.coolIn = some x → h.coolOut = some y →
      (h.flowLow ↔ 3 ≤ h.pLoss ∧ 82 / 100 * h.pLoss + 2 < y - x))
  ∧ (∀ (x : Rat) (s : State), s.dev.ctl.state ≠ .off → some x ∈ s.dev.therm.lct → 110 ≤ x →
      exec .lctHot s = .next (s.onDev (raise .lctHot .module 2)))
  ∧ (∀ s : State, (∀ x : Rat, some x ∈ s.dev.therm.lct → x < 110) → exec .lctHot s = .next s)
  ∧ (∀ (k : Fin 4) (s : State), s.dev.ctl.state ≠ .off → s.dev.wtPorts k ≠ [] →
      s.dev.therm.wtAt.getD k 0 + 1000000000 ≤ s.dev.now → ∃ t : State, exec (.wtTsense k) s = .next t
      ∧ t.pending = s.pending ∧ t.otp = s.otp ∧ t.dev.therm.wt = s.dev.therm.wt.set k none ∧ t.dev.ctl = s.dev.ctl
      ∧ (∀ p : PortId, p ∈ s.dev.wtPorts k → t.dev.hasFault .wtTsense (.port p) 0))
  ∧ (∀ (k : Fin 4) (s : State), s.dev.wtPorts k = [] → exec (.wtTsense k) s = .next s)
  ∧ (∀ (x : Rat) (r : Option Rat) (s : State), s.dev.ctl.state ≠ .off → due s.dev.now s.dev.therm.tbAt 10000000 →
      ∃ t : State, exec (.timebaseCorrection (some x) r) s = .next t ∧ t.pending = s.pending ∧ t.otp = s.otp
        ∧ t.dev.ctl = s.dev.ctl ∧ t.dev.therm.tbTemp = tbCorrection x
        ∧ t.dev.therm.tbCorr = tbCorrection x + s.dev.net.time.trim ∧ t.dev.therm.tbAt = some s.dev.now
        ∧ (r = none → t.dev.hasFault .refTsense .module 0))
  ∧ (∀ (r : Option Rat) (s : State), s.dev.ctl.state ≠ .off → due s.dev.now s.dev.therm.tbAt 10000000 → ∃ t : State,
      exec (.timebaseCorrection none r) s = .next t ∧ t.dev.therm.tbTemp = s.dev.therm.tbTemp
        ∧ t.dev.hasFault .refTsense .module 0)
  ∧ (∀ (x r : Option Rat) (s : State), due s.dev.now s.dev.therm.tbAt 10000000 = false →
      exec (.timebaseCorrection x r) s = .next s)
/-! ## Safety functions (chapter 12) -/

/-- R298 to R306: safety inputs, their test pulses, the input functions' own events. R302, R303, R306: an input function
whose condition fails is demanded at once; with manual reset it stays so until a reset; two hands end their demand only when
both act within 500 ms after both have been released. -/
def Obligations.SafetyInputs : Prop :=
  (∀ (n : Fin 16) (h : Bool) (s : State), s.dev.ctl.state ≠ .off → (s.dev.input n).level ≠ h →
      due s.dev.now (s.dev.input n).levelAt (ms (Cfg.siFilt s.dev.scfg n)) → Cfg.resetSi s.dev.scfg ≠ n →
      exec (.siLevelAccepted n h) s = .next (s.onDev fun d => d.onInput n fun x => { x with level := h, levelAt := some d.now }))
  ∧ (∀ (n : Fin 16) (s : State), s.dev.ctl.state ≠ .off → (s.dev.input n).level = false →
      due s.dev.now (s.dev.input n).levelAt (ms (Cfg.siFilt s.dev.scfg n)) → Cfg.resetSi s.dev.scfg = n →
      exec (.siLevelAccepted n true) s = .next (s.onDev fun d =>
        (d.onInput n fun x => { x with level := true, levelAt := some d.now }).onSafety fun x => { x with
          resetHigh := some d.now }))
  ∧ (∀ (n : Fin 16) (u : Nanos) (s : State), s.dev.ctl.state ≠ .off → (s.dev.input n).level = true →
      due s.dev.now (s.dev.input n).levelAt (ms (Cfg.siFilt s.dev.scfg n)) → Cfg.resetSi s.dev.scfg = n →
      s.dev.safety.resetHigh = some u → s.dev.safety.resetHold = false → ∃ t : State,
      exec (.siLevelAccepted n false) s = .next t ∧ t.pending = s.pending ∧ t.otp = s.otp ∧ t.dev.ctl = s.dev.ctl
        ∧ t.dev.safety.resetHigh = none ∧ t.dev.safety.resetStuck = false
        ∧ t.dev.safety.resetDue = (s.dev.safety.resetDue
            || (decide (u + ms 100 ≤ s.dev.now) && decide (s.dev.now ≤ u + ms 5000))))
  ∧ (∀ (n : Fin 16) (h : Bool) (s : State), (s.dev.input n).level = h ∨
      due s.dev.now (s.dev.input n).levelAt (ms (Cfg.siFilt s.dev.scfg n)) = false → exec (.siLevelAccepted n h) s = .next s)
  ∧ (∀ (k : Fin 8) (l : List (Fin 16)) (s : State), s.dev.ctl.state ≠ .off → s.dev.scAlive → s.dev.pulseDue k → ∃ t : State,
      exec (.testPulse k l) s = .next t ∧ t.pending = s.pending ∧ t.otp = s.otp ∧ t.dev.ctl = s.dev.ctl
        ∧ t.dev.gates = s.dev.gates ∧ t.dev.safety.tpAt = s.dev.safety.tpAt.set k (some s.dev.now)
        ∧ (∀ n : Fin 16, n < s.dev.safety.inputs.length → Cfg.siTp s.dev.scfg n = k → n ∈ l → (s.dev.input n).cross = false →
            s.dev.forced 0x0C04 n = false → (t.dev.input n).failRun = 0
              ∧ (t.dev.input n).passRun = (s.dev.input n).passRun + 1 ∧ (t.dev.input n).test = (s.dev.input n).test)
        ∧ (∀ n : Fin 16, n < s.dev.safety.inputs.length → Cfg.siTp s.dev.scfg n = k → n ∉ l → 1 ≤ (s.dev.input n).failRun →
            (t.dev.input n).test = true ∧ (t.dev.input n).passRun = 0))
  ∧ (∀ (k : Fin 8) (l : List (Fin 16)) (s : State), s.dev.pulseDue k = false → exec (.testPulse k l) s = .next s)
  ∧ (∀ (k : Fin 16) (u : Nanos) (s : State), s.dev.ctl.state ≠ .off → s.dev.scAlive →
      (s.dev.fn k).discSince = some u → u + s.dev.discTime k < s.dev.now → exec (.siDisc k) s = .next (s.onDev fun d =>
        raise .siDisc (.inputFn k) 0 (d.onFn k fun x => { x with disc := true })))
  ∧ (∀ (k : Fin 16) (s : State), (s.dev.fn k).discSince = none → (s.dev.fn k).handSince = none →
      exec (.siDisc k) s = .next s)
  ∧ (∀ (k : Fin 16) (u : Nanos) (s : State), s.dev.scAlive → (s.dev.fn k).demand → (s.dev.fn k).firstHand = some u →
      u + 500000000 ≤ s.dev.now → ∃ t : State, exec (.twoHandTimeout k) s = .next t ∧ t.pending = s.pending ∧ t.otp = s.otp
        ∧ t.dev = { s.dev with safety := t.dev.safety } ∧ t.dev.safety.safeLate =
          (if s.dev.handOn k 0 && s.dev.handOn k 1 then (s.dev.safety.safeLate + 1) % 2 ^ 16 else s.dev.safety.safeLate)
        ∧ (k < s.dev.safety.fns.length → (t.dev.fn k).firstHand = none ∧ (t.dev.fn k).handsReady = false
            ∧ (t.dev.fn k).demand = true))
  ∧ (∀ (k : Fin 16) (s : State), (s.dev.fn k).demand = false ∨ (s.dev.fn k).firstHand = none →
      exec (.twoHandTimeout k) s = .next s)
  ∧ (∀ (u : Nanos) (s : State), s.dev.scAlive → s.dev.safety.resetHigh = some u → u + 5000000000 < s.dev.now →
      exec .resetStuck s = .next (s.onDev fun d =>
        raise .resetStuck .module 0 (d.onSafety fun x => { x with resetStuck := true, resetHold := true })))
  ∧ (∀ (u : Nanos) (s : State), s.dev.safety.resetHigh = some u → s.dev.now ≤ u + 5000000000 →
      s.dev.forced 0x0C04 (Cfg.resetSi s.dev.scfg) = false → exec .resetStuck s = .next s)
  ∧ (∀ (manual reset : Bool) (x : InputFn), (x.judge false manual reset).demand = true)
  ∧ (∀ (reset : Bool) (x : InputFn), (x.judge true false reset).demand = false)
  ∧ (∀ x : InputFn, (x.judge true true false).demand = x.demand ∧ (x.judge true true true).demand = false)
  ∧ (∀ (cond manual reset : Bool) (x : InputFn), (x.judge cond manual reset).waitReset → (x.judge cond manual reset).demand)
  ∧ (∀ (now : Nanos) (a b ra rb latched : Bool) (x : InputFn), x.demand = true →
      (twoHand now a b ra rb latched x).demand = false →
      a = true ∧ b = true ∧ ¬ (ra = true ∧ rb = true) ∧ latched = false ∧ x.handsReady = true
        ∧ ∀ u : Nanos, x.firstHand = some u → now ≤ u + ms 500)
  ∧ (∀ (now : Nanos) (a b ra rb latched : Bool) (x : InputFn), x.demand = false →
      (twoHand now a b ra rb latched x).demand = false →
      a = true ∧ b = true ∧ latched = false ∧ twoHand now a b ra rb latched x = x)

/-- R293 to R315: the safety core's cycle, safe stop and its ends, the brake and safety outputs, the core's failures. -/
def Obligations.DriveFunctions : Prop :=
  (∀ (ecc : Nat) (s : State), s.dev.ctl.state ≠ .off → s.dev.scAlive → s.dev.cycleDue → ∃ t : State,
      exec (.safetyCycle ecc) s = .next t ∧ t.pending = s.pending ∧ t.otp = s.otp ∧ t.dev.ctl = s.dev.ctl
      ∧ t.dev.safety.eccCorr = (s.dev.safety.eccCorr + ecc) % 2 ^ 32 ∧ t.dev.safety.cycleAt = some s.dev.now
      ∧ t.dev.safety.resetDue = false ∧ t.dev.safety.payloads = []
      ∧ t.dev.safety.image = s.dev.safety.image ∧ t.dev.safety.sc = s.dev.safety.sc
      ∧ (s.dev.safety.sc = .uncommissioned → ∀ p : PortId, (t.dev.psafe p).sto = true ∧ t.dev.activeAt .safetySto (.port p))
      ∧ (s.dev.safety.sc = .uncommissioned → ∀ o ∈ t.dev.safety.outs.take 4, o.on = false))
  ∧ (∀ (ecc : Nat) (s : State), s.dev.scAlive = false ∨ s.dev.now % 500000 ≠ 0 → exec (.safetyCycle ecc) s = .next s)
  ∧ (∀ (p : PortId) (s : State), s.dev.scAlive →
      lasted s.dev.now (s.dev.psafe p).xchkSince (ms (Cfg.safeXchkT s.dev.scfg p.num)) → ∃ t : State,
      exec (.speedXchk p) s = .next t ∧ t.pending = s.pending ∧ t.otp = s.otp ∧ t.dev.ctl = s.dev.ctl ∧ t.dev.hasFault .speedXchk (.port p) 0
      ∧ (t.dev.psafe p).xchkFault = true ∧ (t.dev.psafe p).sto = true)
  ∧ (∀ (p : PortId) (s : State), (s.dev.psafe p).xchkSince = none → exec (.speedXchk p) s = .next s)
  ∧ (∀ (p : PortId) (s : State), s.dev.scAlive → (s.dev.psafe p).ss1 → (s.dev.psafe p).sto = false → s.dev.ss1Wanted p →
      Cfg.safeSpeedSrc s.dev.scfg p.num ≠ 0 → lasted s.dev.now (s.dev.psafe p).slowSince 10000000 →
      ∃ t : State, exec (.ss1StandstillReached p) s = .next t ∧ t.pending = s.pending ∧ t.otp = s.otp
        ∧ t.dev.ctl = s.dev.ctl ∧ (t.dev.psafe p).sto = true ∧ (t.dev.psafe p).ss1 = false
        ∧ t.dev.hasFault .safetySto (.port p) 3)
  ∧ (∀ (p : PortId) (s : State), Cfg.safeSpeedSrc s.dev.scfg p.num = 0 ∨ (s.dev.psafe p).slowSince = none →
      exec (.ss1StandstillReached p) s = .next s)
  ∧ (∀ (p : PortId) (s : State), s.dev.scAlive → (s.dev.psafe p).ss1 → (s.dev.psafe p).sto = false → s.dev.ss1Wanted p →
      lasted s.dev.now (s.dev.psafe p).ss1Start (ms (Cfg.ss1Time s.dev.scfg p.num)) → ∃ t : State,
      exec (.ss1Timeout p) s = .next t ∧ t.pending = s.pending ∧ t.otp = s.otp ∧ t.dev.ctl = s.dev.ctl
        ∧ (t.dev.psafe p).sto = true ∧ (t.dev.psafe p).ss1 = false ∧ t.dev.hasFault .safetySto (.port p) 3
        ∧ (match p with | .a => t.dev.safety.lineA | .b => t.dev.safety.lineB) = true)
  ∧ (∀ (p : PortId) (s : State), (s.dev.psafe p).ss1 = false → exec (.ss1Timeout p) s = .next s)
  ∧ (∀ (p : PortId) (s : State), s.dev.scAlive → (s.dev.psafe p).sto →
      lasted s.dev.now (s.dev.psafe p).stoSince 10000000 → s.dev.gateStillOn p → ∃ t : State,
      exec (.stoReadback p) s = .next t ∧ t.pending = s.pending ∧ t.otp = s.otp ∧ t.dev.safety.sc = .fail
        ∧ t.dev.hasFault .stoReadback .module 4 ∧ (∀ o ∈ t.dev.safety.outs, o.on = false))
  ∧ (∀ (p : PortId) (s : State), s.dev.gateStillOn p = false → exec (.stoReadback p) s = .next s)
  ∧ (∀ (p : PortId) (n : Nat) (s : State), s.dev.brakeOut p = some n → (s.dev.psafe p).sto →
      lasted s.dev.now (s.dev.psafe p).stoSince (ms (Cfg.sbcDelay s.dev.scfg p.num)) →
      exec (.sbcOff p) s = .next (s.onDev (Device.onSout n fun x => { x with on := false })))
  ∧ (∀ (p : PortId) (s : State), (s.dev.psafe p).sto = false ∨ s.dev.brakeOut p = none → exec (.sbcOff p) s = .next s)
  ∧ (∀ (p : PortId) (s : State), (s.dev.psafe p).sbcWait →
      lasted s.dev.now (s.dev.psafe p).sbcOnAt (ms (Cfg.sbcReleaseT s.dev.scfg p.num)) →
      exec (.sbcReleaseWaitEnd p) s = .next (s.onDev (Device.onPsafe p fun x => { x with sbcWait := false })))
  ∧ (∀ (p : PortId) (s : State), (s.dev.psafe p).sbcWait = false → exec (.sbcReleaseWaitEnd p) s = .next s)
  ∧ (∀ (n : Fin 4) (s : State), s.dev.scAlive → n < s.dev.safety.outs.length → ∃ t : State,
      exec (.soFault n) s = .next t ∧ t.pending = s.pending ∧ t.otp = s.otp ∧ t.dev.ctl = s.dev.ctl
        ∧ t.dev.hasFault .soFault (.output n) 0 ∧ (t.dev.sout n).on = false ∧ (t.dev.sout n).fault = true
        ∧ (∀ p : PortId, s.dev.outServes n p → (t.dev.psafe p).sto = true))
  ∧ (∀ (n : Fin 4) (s : State), s.dev.scAlive = false → exec (.soFault n) s = .next s)
  ∧ (∀ (n : Fin 4) (ret : Bool) (s : State), s.dev.scAlive → (s.dev.sout n).on → Cfg.soPulse s.dev.scfg n →
      s.dev.offPulseDue n ret → exec (.soPulseTest n ret true) s = .next (s.onDev fun d => d.onSout n fun x => { x with
        pulseAt := if ret then x.pulseAt else d.now, retDone := ret }))
  ∧ (∀ (n : Fin 4) (ret : Bool) (s : State), s.dev.scAlive → (s.dev.sout n).on → Cfg.soPulse s.dev.scfg n →
      s.dev.offPulseDue n ret → n < s.dev.safety.outs.length → ∃ t : State, exec (.soPulseTest n ret false) s = .next t
        ∧ t.pending = s.pending ∧ t.otp = s.otp ∧ t.dev.hasFault .soFault (.output n) 0 ∧ (t.dev.sout n).on = false)
  ∧ (∀ (n : Fin 4) (ret seen : Bool) (s : State), (s.dev.sout n).on = false ∨ s.dev.offPulseDue n ret = false →
      exec (.soPulseTest n ret seen) s = .next s)
  ∧ (∀ (d : Device) (n : Nat), d.offPulseDue n false ↔ (d.sout n).pulseAt + 1000000000 ≤ d.now)
  ∧ (∀ s : State, s.dev.ctl.state ≠ .off → ∃ t : State, exec .scFail s = .next t ∧ t.pending = s.pending ∧ t.otp = s.otp
      ∧ t.dev.safety.sc = .fail ∧ t.dev.hasFault .scFail .module 4 ∧ t.dev.safety.pairOut = false
      ∧ (∀ o ∈ t.dev.safety.outs, o.on = false) ∧ (∀ p : PortId, (t.dev.psafe p).sto = true))
  ∧ (∀ s : State, s.dev.ctl.state ≠ .off → s.dev.ctl.state ≠ .fault → s.dev.active .scWdog = false → ∃ t : State,
      exec .scWdog s = .next t ∧ t.pending = s.pending ∧ t.otp = s.otp ∧ t.dev.safety.wdogLines = true
        ∧ t.dev.safety.sc = .fail ∧ t.dev.hasFault .scWdog .module 4 ∧ t.dev.ctl.state = .safe)

/-! ## Dorid and commissioning (chapter 13) -/

/-- R323: the CRC of a Dorid frame: the reflected register equals the most-significant-bit-first one with the polynomial of
the rule, input and output reflected; the rule's check value; the frame's last four bytes are the CRC, least significant
byte first. -/
def Obligations.DoridCrc : Prop :=
  (∀ l : List Byte, crc32c l = (l.foldl msbCrcByte 0xFFFFFFFF#32).reverse ^^^ 0xFFFFFFFF#32)
  ∧ crc32c [0x31#8, 0x32#8, 0x33#8, 0x34#8, 0x35#8, 0x36#8, 0x37#8, 0x38#8, 0x39#8] = 0xE3069283#32
  ∧ (∀ (id seq stamp : Nat) (l : List Byte), ∃ body : List Byte, body.length = 8 + l.length
      ∧ doridFrame id seq stamp l = body ++ [(crc32c body).setWidth 8, (crc32c body >>> 8).setWidth 8,
          (crc32c body >>> 16).setWidth 8, (crc32c body >>> 24).setWidth 8])

/-- R322, R325, R327: what a producer builds a consumer accepts: the checks of Table 13.4 pass a frame with the connection's
identity and length, a fresh sequence number and a stamp in its window, and yield its sequence number, age and payload; on
the CAN ports also in its padded form. -/
def Obligations.DoridFrameRoundTrip : Prop :=
  ∀ (d : Device) (c seq stamp : Nat) (l : List Byte), l.length = Cfg.dcLen d.scfg c → Cfg.dcConnId d.scfg c < 2 ^ 32 →
    seq < 2 ^ 16 → (d.conn c).state = .starting ∨ (1 ≤ (seq + 65536 - (d.conn c).seq) % 65536
      ∧ (seq + 65536 - (d.conn c).seq) % 65536 ≤ 32767) →
    -(ageAllowance d.scfg : Int) ≤ d.ageOf stamp → d.ageOf stamp ≤ Cfg.dcTe d.scfg c * 10 →
    d.forced 0x0D01 c = false →
    let frame := doridFrame (Cfg.dcConnId d.scfg c) seq stamp l
    d.doridCheck c frame = .ok (seq, d.ageOf stamp, l)
      ∧ (Cfg.dcPort d.scfg c = 1 ∨ (Cfg.dcPort d.scfg c = 0 ∧ Cfg.canaFormat d.cfg ≠ 1) → Cfg.dcLen d.scfg c ≤ 52 →
          d.doridCheck c (frame ++ List.replicate (fdLength frame.length - frame.length) 0) = .ok (seq, d.ageOf stamp, l))

/-- R325 to R331: producers, consumers, their deadlines and error rates. -/
def Obligations.DoridConnections : Prop :=
  (∀ (c : Fin 256) (s : State), s.dev.ctl.state ≠ .off → s.dev.scAlive → c ≠ 255 → s.dev.produces c →
      (s.dev.conn c).sends s.dev.now (ms (Cfg.dcPeriod s.dev.scfg c)) s.dev.safetyPayload → c < s.dev.dorid.length → ∃ t : State, exec (.doridProduce c) s = .next t ∧ t.pending = s.pending ∧ t.otp = s.otp
        ∧ t.dev.ctl = s.dev.ctl ∧ t.dev.faults = s.dev.faults ∧ t.dev.safety = s.dev.safety ∧ (t.dev.conn c).state = .run
        ∧ (t.dev.conn c).seq = (if (s.dev.conn c).started then ((s.dev.conn c).seq + 1) % 65536 else 0)
        ∧ (t.dev.conn c).started = true ∧ (t.dev.conn c).payload = s.dev.safetyPayload)
  ∧ (∀ s : State, s.dev.ctl.state ≠ .off → s.dev.scAlive → (s.dev.conn 255).sends s.dev.now 100000000 s.dev.comm.payload →
      exec (.doridProduce 255) s = .next (s.onDev commSend))
  ∧ (∀ (c : Fin 256) (s : State), c ≠ 255 → s.dev.produces c = false ∨
      (s.dev.conn c).sends s.dev.now (ms (Cfg.dcPeriod s.dev.scfg c)) s.dev.safetyPayload = false →
      exec (.doridProduce c) s = .next s)
  ∧ (∀ (x : DoridConn) (now period : Nat) (m : List Byte), x.sends now period m ↔
      x.started = false ∨ x.payload ≠ m ∨ x.lastSent + period ≤ now)
  ∧ (∀ (p : Fin 5) (net : W32) (l : List Byte) (s : State), s.dev.ctl.state ≠ .off → s.dev.scAlive → s.dev.portHears p →
      s.dev.consumerOf p net.toNat l = none → exec (.doridFrameRx p net l) s = .next (s.onDev fun d =>
        if p = 3 then { d with comm := { d.comm with unknown := (d.comm.unknown + 1) % 2 ^ 16 } } else d))
  ∧ (∀ (p : Fin 5) (net : W32) (l : List Byte) (s : State), s.dev.portHears p = false ∨ s.dev.scAlive = false →
      exec (.doridFrameRx p net l) s = .next s)
  ∧ (∀ (p : Fin 5) (net : W32) (c : Nat) (l m : List Byte) (seq : Nat) (age : Int) (s : State), s.dev.ctl.state ≠ .off →
      s.dev.scAlive → s.dev.portHears p → s.dev.consumerOf p net.toNat l = some c → (s.dev.conn c).state = .run →
      s.dev.comm.timeLost = false → s.dev.doridCheck c l = .ok (seq, age, m) →
      exec (.doridFrameRx p net l) s = .next (s.onDev fun d =>
        (d.onConn c fun x => { x with
          state := .run, seq := seq, rejoin := false, oneGood := false, errrate := false
          deadline := some ((((d.t100 : Int) - age) * 100000 + ms (Cfg.dcTe d.scfg c)).toNat) }).onSafety fun y =>
            { y with payloads := (y.payloads.filter fun e => e.1 != c) ++ [(c, m)] }))
  ∧ (∀ (p : Fin 5) (net : W32) (c : Nat) (l m : List Byte) (seq : Nat) (age : Int) (s : State), s.dev.ctl.state ≠ .off →
      s.dev.scAlive → s.dev.portHears p → s.dev.consumerOf p net.toNat l = some c →
      (s.dev.conn c).state = .expired ∧ ((s.dev.conn c).oneGood = false ∨ (s.dev.conn c).holdFrom ≠ none)
        ∨ s.dev.comm.timeLost →
      s.dev.doridCheck c l = .ok (seq, age, m) → exec (.doridFrameRx p net l) s = .next (s.onDev fun d =>
        d.onConn c fun x => { x with seq := seq, rejoin := true, oneGood := true }))
  ∧ (∀ (p : Fin 5) (net : W32) (c : Nat) (l m : List Byte) (seq : Nat) (age : Int) (s : State), s.dev.ctl.state ≠ .off →
      s.dev.scAlive → s.dev.portHears p → s.dev.consumerOf p net.toNat l = some c → (s.dev.conn c).state = .expired →
      (s.dev.conn c).oneGood → (s.dev.conn c).holdFrom = none → s.dev.comm.timeLost = false → c < s.dev.dorid.length →
      s.dev.doridCheck c l = .ok (seq, age, m) → ∃ t : State, exec (.doridFrameRx p net l) s = .next t
        ∧ t.pending = s.pending ∧ t.otp = s.otp ∧ (t.dev.conn c).state = .run ∧ (t.dev.conn c).seq = seq
        ∧ t.dev.activeAt .doridExpired (.conn c) = false ∧ t.dev.ctl = s.dev.ctl)
  ∧ (∀ (p : Fin 5) (net : W32) (c : Nat) (l : List Byte) (s : State), s.dev.ctl.state ≠ .off → s.dev.scAlive →
      s.dev.portHears p → s.dev.consumerOf p net.toNat l = some c → c < s.dev.dorid.length →
      s.dev.doridCheck c l = .error .crc →
      (s.dev.conn c).discards.length < 10 → ∃ t : State, exec (.doridFrameRx p net l) s = .next t
        ∧ t.pending = s.pending ∧ t.otp = s.otp ∧ (t.dev.conn c).crcErr = min 255 ((s.dev.conn c).crcErr + 1)
        ∧ (t.dev.conn c).state = (s.dev.conn c).state ∧ (t.dev.conn c).seq = (s.dev.conn c).seq
        ∧ t.dev.safety = s.dev.safety ∧ t.dev.faults = s.dev.faults)
  ∧ (∀ (p : Fin 5) (net : W32) (c : Nat) (l : List Byte) (e : DoridError) (s : State), s.dev.ctl.state ≠ .off →
      s.dev.scAlive → s.dev.portHears p → s.dev.consumerOf p net.toNat l = some c → c < s.dev.dorid.length →
      s.dev.doridCheck c l = .error e → (s.dev.conn c).errrate = false →
      10 ≤ ((s.dev.conn c).discards.filter fun t => decide (s.dev.now < t + sec 1)).length → ∃ t : State,
      exec (.doridFrameRx p net l) s = .next t ∧ (t.dev.conn c).state = .expired ∧ (t.dev.conn c).errrate = true
        ∧ t.dev.hasFault .doridErrrate (.conn c) 0 ∧ (∀ e ∈ t.dev.safety.payloads, e.1 ≠ c))
  ∧ (∀ (c : Fin 256) (f : Bool) (u : Nanos) (s : State), s.dev.consumes c → (s.dev.conn c).state = .run →
      (s.dev.conn c).deadline = some u → u ≤ s.dev.now → c < s.dev.dorid.length →
      ∃ t : State, exec (.doridExpired c f) s = .next t ∧ t.pending = s.pending ∧ t.otp = s.otp ∧ t.dev.ctl = s.dev.ctl
        ∧ (t.dev.conn c).state = .expired ∧ t.dev.hasFault .doridExpired (.conn c) 0
        ∧ (∀ e ∈ t.dev.safety.payloads, e.1 ≠ c.val)
        ∧ (t.dev.conn c).late = if f then min 255 ((s.dev.conn c).late + 1) else (s.dev.conn c).late)
  ∧ (∀ (c : Fin 256) (f : Bool) (s : State), (s.dev.conn c).state ≠ .run → exec (.doridExpired c f) s = .next s)
  ∧ (∀ (c : Fin 256) (u : Nanos) (s : State), (s.dev.conn c).holdFrom = some u → u + 1000000000 ≤ s.dev.now →
      exec (.doridErrrateHoldEnd c) s = .next (s.onDev
        (Device.onConn c fun x => { x with errrate := false, holdFrom := none })))
  ∧ (∀ (c : Fin 256) (s : State), (s.dev.conn c).holdFrom = none → exec (.doridErrrateHoldEnd c) s = .next s)
  ∧ (∀ s : State, s.dev.ctl.state ≠ .off → s.dev.scAlive → s.dev.noReference → ∃ t : State, exec .doridTimeLost s = .next t
      ∧ t.pending = s.pending ∧ t.otp = s.otp ∧ t.dev.ctl = s.dev.ctl ∧ t.dev.comm.timeLost = true
      ∧ t.dev.hasFault .doridTimeLost .module 0
      ∧ (∀ c : Nat, c < 256 → c < s.dev.dorid.length → s.dev.consumes c → (t.dev.conn c).state = .expired))
  ∧ (∀ s : State, s.dev.noReference = false → exec .doridTimeLost s = .next s)

/-- R335, R336: the commissioning connection and its requests; each request runs once per TRANS. -/
def Obligations.CommissioningRequests : Prop :=
  (∀ (q : Path) (tool : BitVec 9) (s : State), s.dev.comm.conn = none → q ≠ .canc → s.dev.levelOpen q .e →
      s.dev.ctl.state.commissions → ∃ t : State, exec (.commConnOpen q tool) s = .next t ∧ t.pending = s.pending
      ∧ t.otp = s.otp ∧ t.dev.comm.conn = some (q, tool.toNat) ∧ t.dev.comm.trans = none ∧ t.dev.ctl = s.dev.ctl
      ∧ (s.dev.ctl.state = .standby → s.dev.comm.state ≠ .burning →
          t.dev.comm.state = .editing ∧ t.dev.comm.shadow = s.dev.safety.image)
      ∧ (s.dev.ctl.state ≠ .standby → t.dev.comm.shadow = s.dev.comm.shadow))
  ∧ (∀ (q : Path) (tool : BitVec 9) (s : State), s.dev.comm.conn ≠ none ∨ q = .canc ∨ s.dev.levelOpen q .e = false →
      exec (.commConnOpen q tool) s = .next s)
  ∧ (∀ (f : Bool) (s : State), s.dev.comm.conn = none → exec (.commConnExpired f) s = .next s)
  ∧ (∀ (f : Bool) (u : Nanos) (s : State), s.dev.comm.conn ≠ none → (s.dev.conn 254).deadline = some u → u ≤ s.dev.now → ∃ t : State, exec (.commConnExpired f) s = .next t
      ∧ t.pending = s.pending ∧ t.otp = s.otp ∧ t.dev.comm.conn = none ∧ t.dev.ctl = s.dev.ctl
      ∧ (s.dev.comm.state ≠ .burning → t.dev.comm.state = .none ∧ t.dev.comm.shadow = [])
      ∧ (s.dev.comm.state = .burning → t.dev.comm.state = .burning ∧ t.dev.comm.burning = s.dev.comm.burning))
  ∧ (∀ (xact : BitVec 8) (q : Path) (tool : Nat) (s : State), s.dev.commTakes q tool xact.toNat → exec (.commIdle xact) s =
      .next (commAnswer 0 xact.toNat { result := 0 } { s with dev := commAlive (touchPath q s.dev) }))
  ∧ (∀ (xact : BitVec 8) (s : State), s.dev.comm.conn = none → exec (.commIdle xact) s = .next s)
  ∧ (∀ (xact : BitVec 8) (q : Path) (tool : Nat) (v : W32) (s : State), s.dev.comm.conn = some (q, tool) →
      s.dev.ctl.state.commissions → s.dev.levelOpen q .e → s.dev.comm.trans = some xact.toNat →
      exec (.commConfirm xact v) s = .next (s.onDev fun d => commSend (commAlive (touchPath q d))))
  ∧ (∀ (xact : BitVec 8) (q : Path) (tool : Nat) (s : State), s.dev.commTakes q tool xact.toNat →
      s.dev.ctl.state ≠ .standby → exec (.commCheck xact) s = .next (commAnswer 3 xact.toNat { result := 4 }
        { s with dev := commAlive (touchPath q s.dev) }) ∧ exec (.commDiscard xact) s = .next (commAnswer 5 xact.toNat { result := 4 }
        { s with dev := commAlive (touchPath q s.dev) }))
  ∧ (∀ (xact : BitVec 8) (ix : BitVec 16) (sub : BitVec 8) (l : List Byte) (q : Path) (tool : Nat) (r : ObjRow)
      (j k : Nat) (s : State), s.dev.commTakes q tool xact.toNat → s.dev.ctl.state = .standby → s.dev.comm.hasShadow →
      objFind ix.toNat sub.toNat objTable = some (r, j, k) → commObject ix.toNat sub.toNat → r.acc = .rws →
      l.length = r.ty.size → r.inRange (leNat l) → ix ≠ 0x2000 → ∃ t : State, exec (.commWrite xact ix sub l) s = .next t
        ∧ t.pending = s.pending ∧ t.otp = s.otp ∧ t.dev.ctl = s.dev.ctl ∧ t.dev.safety = s.dev.safety
        ∧ t.dev.comm.shadow = Settings.set s.dev.comm.shadow (ix.toNat * 256 + sub.toNat) (leNat l)
        ∧ t.dev.comm.state = .editing ∧ t.dev.comm.result = 0)
  ∧ (∀ (xact : BitVec 8) (ix : BitVec 16) (sub : BitVec 8) (q : Path) (tool : Nat) (r : ObjRow)
      (j k : Nat) (s : State), s.dev.commTakes q tool xact.toNat → s.dev.ctl.state = .standby → s.dev.comm.hasShadow →
      objFind ix.toNat sub.toNat objTable = some (r, j, k) → commObject ix.toNat sub.toNat →
      let v := leBytes r.ty.size (s.dev.comm.shadowValue ix.toNat sub.toNat (r.default j k))
      exec (.commRead xact ix sub) s = .next (commAnswer 2 xact.toNat
        { result := 0, index := ix.toNat, sub := sub.toNat, data := v } { s with dev := commAlive (touchPath q s.dev) }))
  ∧ (∀ (xact : BitVec 8) (q : Path) (tool : Nat) (s : State), s.dev.commTakes q tool xact.toNat →
      s.dev.ctl.state = .standby → s.dev.comm.hasShadow → (commAlive (touchPath q s.dev)).shadowRule = 0 → exec (.commCheck xact) s =
        .next (commAnswer 3 xact.toNat { result := 0, shadow := true } (State.onDev (fun d =>
          d.onComm fun x => { x with state := .checked, shadowCheck := checkValueOf x.shadow }) { s with dev := commAlive (touchPath q s.dev) })))
  ∧ (∀ (xact : BitVec 8) (q : Path) (tool : Nat) (v : W32) (s : State), s.dev.commTakes q tool xact.toNat →
      s.dev.ctl.state = .standby → s.dev.comm.state = .checked → v ≠ s.dev.comm.shadowCheck → exec (.commConfirm xact v) s =
        .next (commAnswer 4 xact.toNat { result := 6 } { s with dev := commAlive (touchPath q s.dev) }))
  ∧ (∀ (xact : BitVec 8) (q : Path) (tool g : Nat) (s : State), s.dev.commTakes q tool xact.toNat →
      s.dev.ctl.state = .standby → s.dev.comm.state = .checked → s.otp.nextGen = some g →
      s.otp.fusesOk → s.otp.keysOk → ∃ t : State, exec (.commConfirm xact s.dev.comm.shadowCheck) s = .next t ∧ t.pending = s.pending ∧ t.otp = s.otp
        ∧ t.dev.comm.state = .burning ∧ t.dev.comm.result = 1
        ∧ t.dev.comm.burning = some (s.dev.comm.shadow, g, s.dev.comm.pairPos, tool) ∧ t.dev.safety = s.dev.safety)
  ∧ (∀ (xact : BitVec 8) (q : Path) (tool : Nat) (s : State), s.dev.commTakes q tool xact.toNat →
      s.dev.ctl.state = .standby → exec (.commDiscard xact) s = .next (commAnswer 5 xact.toNat { result := 0 }
        (State.onDev loadShadow { s with dev := commAlive (touchPath q s.dev) })))

/-- R338 to R340, R444: the end of a burn, and proof-test mode. -/
def Obligations.BurnAndProofTest : Prop :=
  (∀ (img : Settings) (g pp tool : Nat) (s : State), s.dev.comm.burning = some (img, g, pp, tool) → s.dev.scAlive →
      s.dev.boot.fwStarted → 1 ≤ g → g ≤ s.otp.records.length → ∃ t : State, exec (.commBurnDone true) s = .next t
        ∧ t.pending = s.pending ∧ t.dev.safety.image = img ∧ t.dev.comm.generation = g ∧ t.dev.comm.burning = none
        ∧ t.dev.comm.check = checkValueOf img ∧ Cfg.pairPosition t.dev.cfg = pp
        ∧ (t.otp.records.getD (g - 1) {}).used = true ∧ (t.otp.records.getD (g - 1) {}).image = img
        ∧ (∀ k : Nat, k ≠ g - 1 → t.otp.records.getD k {} = s.otp.records.getD k {})
        ∧ t.otp = { s.otp with records := t.otp.records } ∧ t.dev.safety.sc = .run)
  ∧ (∀ (img : Settings) (g pp tool : Nat) (s : State), s.dev.comm.burning = some (img, g, pp, tool) → s.dev.scAlive →
      s.dev.boot.fwStarted → 1 ≤ g → g ≤ s.otp.records.length → ∃ t : State, exec (.commBurnDone false) s = .next t
        ∧ t.dev.safety = s.dev.safety ∧ t.dev.hasFault .otpBurnFail .module 0 ∧ t.dev.comm.state = .none
        ∧ t.dev.od = s.dev.od ∧ (t.otp.records.getD (g - 1) {}).used = true
        ∧ (t.otp.records.getD (g - 1) {}).invalid = true)
  ∧ (∀ (f : Bool) (s : State), s.dev.comm.burning = none → exec (.commBurnDone f) s = .next s)
  ∧ (∀ (xact : BitVec 8) (q : Path) (tool : Nat) (s : State), s.dev.commTakes q tool xact.toNat →
      s.dev.ctl.state = .ready ∨ s.dev.ctl.state = .run → s.dev.ctl.serviceNLow → s.dev.comm.state ≠ .proof → ∃ t : State,
      exec (.proofTestEnter xact) s = .next t ∧ t.pending = s.pending ∧ t.otp = s.otp ∧ t.dev.comm.state = .proof
        ∧ t.dev.comm.proofStart = s.dev.now ∧ t.dev.comm.shadow = [] ∧ t.dev.ctl = s.dev.ctl ∧ t.dev.comm.result = 0)
  ∧ (∀ (xact : BitVec 8) (q : Path) (tool : Nat) (s : State), s.dev.commTakes q tool xact.toNat →
      s.dev.ctl.serviceNLow = false → exec (.proofTestEnter xact) s = .next (commAnswer 6 xact.toNat { result := 4 }
        { s with dev := commAlive (touchPath q s.dev) }))
  ∧ (∀ (xact : BitVec 8) (q : Path) (tool : Nat) (s : State), s.dev.commTakes q tool xact.toNat →
      s.dev.comm.state = .proof → ∃ t : State, exec (.proofTestLeave xact) s = .next t
        ∧ t.pending = s.pending ∧ t.otp = s.otp ∧ t.dev.comm.state = .none ∧ t.dev.inj.active = []
        ∧ t.dev.activeAt .proofTest .module = false ∧ t.dev.ctl = s.dev.ctl)
  ∧ (∀ (late : Bool) (s : State), s.dev.comm.state = .proof →
      s.dev.comm.proofStart + sec (Cfg.proofT s.dev.scfg) ≤ s.dev.now → ∃ t : State,
      exec (.proofTExpiry late) s = .next t ∧ t.pending = s.pending ∧ t.otp = s.otp ∧ t.dev.comm.state = .none ∧ t.dev.inj.active = [] ∧ t.dev.activeAt .proofTest .module = false
      ∧ t.dev.ctl = s.dev.ctl ∧ t.dev.gates = s.dev.gates)
  ∧ (∀ (late : Bool) (s : State), s.dev.comm.state ≠ .proof ∨
      s.dev.now < s.dev.comm.proofStart + sec (Cfg.proofT s.dev.scfg) → exec (.proofTExpiry late) s = .next s)

/-! ## Networks, time, guy line, capture (chapter 14) -/

/-- R344, R349 to R359: transmit queues, receive objects, fault confinement and load of the CAN ports. -/
def Obligations.QueuesAndCan : Prop :=
  (∀ (c : Fin 14) (l : List Byte) (s : State), s.dev.ctl.state ≠ .off → Cfg.txqPort s.dev.cfg (s.dev.classQueue c) ≠ 0xFF →
      (s.dev.net.txq.getD (s.dev.classQueue c) {}).frames.length < 64 → exec (.txqEnqueue c l) s = .next (s.onDev fun d =>
        { d with net := { d.net with txq := d.net.txq.modify (d.classQueue c) fun x => { x with
          frames := x.frames ++ [{ cls := c, data := l, time := d.now }] } } }))
  ∧ (∀ (c : Fin 14) (l : List Byte) (s : State), s.dev.ctl.state ≠ .off → Cfg.txqPort s.dev.cfg (s.dev.classQueue c) ≠ 0xFF →
      64 ≤ (s.dev.net.txq.getD (s.dev.classQueue c) {}).frames.length → cyclicClass c →
      exec (.txqEnqueue c l) s = .next (s.onDev fun d =>
        { d with net := { d.net with txq := d.net.txq.modify (d.classQueue c) fun x => { x with
          full := true, drop := (x.drop + 1) % 2 ^ 32 } } }))
  ∧ (∀ (f : TxFrame) (d : Device), (∀ x ∈ d.net.txq, x.frames.length ≤ 64) →
      ∀ x ∈ (txEnqueue f d).net.txq, x.frames.length ≤ 64)
  ∧ (∀ (q : Fin 16) (f : TxFrame) (rest : List TxFrame) (s : State), (s.dev.net.txq.getD q {}).frames = f :: rest →
      s.dev.headWins q → s.dev.canSend (Cfg.txqPort s.dev.cfg q) → s.dev.net.waiting = [] → exec (.frameSent q) s = .next (s.onDev fun d =>
        { d with net := { d.net with
          lastSent := some (d.asSent q (Cfg.txqPort d.cfg q) f)
          txq := d.net.txq.modify q fun x => { x with frames := rest, full := false } } }))
  ∧ (∀ (q : Fin 16) (s : State), (s.dev.net.txq.getD q {}).frames = [] ∨ s.dev.canSend (Cfg.txqPort s.dev.cfg q) = false
      ∨ s.dev.headWins q = false → exec (.frameSent q) s = .next s)
  ∧ (∀ (d : Device) (q : Nat) (f : TxFrame) (rest : List TxFrame), (d.net.txq.getD q {}).frames = f :: rest →
      (d.headWins q ↔ ∀ r : Nat, r < 16 → r ≠ q → Cfg.txqPort d.cfg r = Cfg.txqPort d.cfg q → ∀ (g : TxFrame)
        (l : List TxFrame), (d.net.txq.getD r {}).frames = g :: l →
          d.headKey q f < d.headKey r g ∨ (d.headKey q f = d.headKey r g ∧ q < r)))
  ∧ (∀ (p : CanPort) (f : CanFrame) (sof r : Nat) (fw : Bool) (s : State), s.dev.canSend p.num → frameCarried f p →
      (f.xl = false ∨ f.data.length ≤ 64) → s.dev.rxMatch p f = some (r, fw) → ∃ t : State,
      exec (.canFrameRx p f sof) s = .next t ∧ t.pending = s.pending ∧ t.otp = s.otp ∧ t.dev.ctl = s.dev.ctl
        ∧ t.dev.rxObject r = (s.dev.rxObject r).receive fw f sof
        ∧ (∀ k : Nat, k ≠ r → t.dev.rxObject k = s.dev.rxObject k))
  ∧ (∀ (p : CanPort) (f : CanFrame) (sof : Nat) (s : State), s.dev.canSend p.num → frameCarried f p →
      (f.xl = false ∨ f.data.length ≤ 64) → s.dev.rxMatch p f = none →
      p ≠ .canC ∨ s.dev.isoService f.ident = false → exec (.canFrameRx p f sof) s = .next (s.onDev fun d =>
        d.onCan p fun x => { x with lastRx := some f, unmatched := (x.unmatched + 1) % 2 ^ 32 }))
  ∧ (∀ (p : CanPort) (f : CanFrame) (sof : Nat) (s : State), s.dev.canSend p.num → frameCarried f p → f.xl →
      64 < f.data.length → exec (.canFrameRx p f sof) s = .next (s.onDev fun d =>
        { d.onCan p fun x => { x with lastRx := some f } with
          net := { (d.onCan p fun x => { x with lastRx := some f }).net with rxLong := (d.net.rxLong + 1) % 2 ^ 32 } }))
  ∧ (∀ (p : CanPort) (f : CanFrame) (sof : Nat) (s : State), s.dev.canSend p.num = false ∨ frameCarried f p = false →
      exec (.canFrameRx p f sof) s = .next s)
  ∧ (∀ (q : Path) (r : Fin 2048) (s : State), s.dev.takes q .b true → exec (.rxEntryRead q r) s = .next (s.onDev fun d =>
      answer q Abort.ok (d.rxEntry r) ((touchPath q d).onRx r fun x => { x with isNew := false })))
  ∧ (∀ (p : CanPort) (tec rec : Nat) (s : State), (s.dev.canPort p).conf ≤ 1 → 256 ≤ tec → ∃ t : State,
      exec (.canErrorStateChange p tec rec) s = .next t ∧ t.pending = s.pending ∧ t.otp = s.otp ∧ t.dev.ctl = s.dev.ctl
        ∧ (t.dev.canPort p).conf = 2 ∧ (t.dev.canPort p).tec = min 511 tec
        ∧ t.dev.hasFault .canBusoff (.net (.can p)) 0)
  ∧ (∀ (p : CanPort) (tec rec : Nat) (s : State), (s.dev.canPort p).conf ≤ 1 → tec < 128 → rec < 128 → ∃ t : State,
      exec (.canErrorStateChange p tec rec) s = .next t ∧ (t.dev.canPort p).conf = 0
        ∧ t.dev.activeAt .canPassive (.net (.can p)) = false)
  ∧ (∀ (p : CanPort) (tec rec : Nat) (s : State), 1 < (s.dev.canPort p).conf → exec (.canErrorStateChange p tec rec) s = .next s)
  ∧ (∀ (q : Path) (m : BitVec 8) (s : State), s.dev.takes q .e false →
      (∀ k : Nat, k < 3 → (s.dev.cross.blocks.getD k {}).absent = false ∧ (s.dev.cross.xing.getD (k + 1) {}).phase ≠ .holding) →
      ∃ t : State, exec (.canRecover q m) s = .next t ∧ t.pending = s.pending ∧ t.otp = s.otp
        ∧ ∀ p : CanPort, (t.dev.canPort p).recovering = ((s.dev.canPort p).recovering
            || (m.toNat.testBit p.num && (s.dev.canPort p).conf == 2)) ∧ (t.dev.canPort p).conf = (s.dev.canPort p).conf)
  ∧ (∀ (q : Path) (m : BitVec 8) (s : State), s.dev.takes q .e false → m.toNat.testBit 1 →
      (s.dev.cross.blocks.getD 1 {}).absent → exec (.canRecover q m) s = .next (s.onDev fun d =>
        answer q Abort.absent [] (touchPath q d)))
  ∧ (∀ (p : CanPort) (s : State), (s.dev.canPort p).conf = 2 → p ≠ .canC →
      Cfg.busoffMode s.dev.cfg = 0 ∨ (s.dev.canPort p).recovering → ∃ t : State, exec (.canBusoffRecovered p) s = .next t
        ∧ t.pending = s.pending ∧ t.otp = s.otp ∧ t.dev.ctl = s.dev.ctl ∧ (t.dev.canPort p).conf = 0
        ∧ (t.dev.canPort p).tec = 0 ∧ (t.dev.canPort p).rec_ = 0
        ∧ t.dev.activeAt .canBusoff (.net (.can p)) = false)
  ∧ (∀ (p : CanPort) (s : State), (s.dev.canPort p).conf ≠ 2 → exec (.canBusoffRecovered p) s = .next s)
  ∧ (∀ (p : CanPort) (l : Nat) (s : State), (s.dev.canPort p).conf ≠ 3 → due s.dev.now (s.dev.canPort p).loadAt 100000000 →
      s.dev.forced 0x0E01 (canScope p).number = false → ∃ t : State, exec (.canLoadMeasure p l) s = .next t
      ∧ t.pending = s.pending ∧ t.otp = s.otp ∧ t.dev.ctl = s.dev.ctl ∧ (t.dev.canPort p).load = min l 1000
      ∧ (900 < l → 9 ≤ (s.dev.canPort p).loadHigh → (s.dev.canPort p).loadHigh ≤ 10 →
          t.dev.hasFault .canLoadHigh (.net (.can p)) 0))
  ∧ (∀ (p : CanPort) (l : Nat) (s : State), (s.dev.canPort p).conf = 3 ∨ due s.dev.now (s.dev.canPort p).loadAt 100000000 = false →
      exec (.canLoadMeasure p l) s = .next s)

/-- R345 to R348, R379, R387, R405: ISO 11783 and CANopen services, PDOs, the ETH1 port. -/
def Obligations.NetworkServices : Prop :=
  (∀ s : State, s.dev.canSend 2 → ∃ t : State, exec (.isoAddressClaim none) s = .next t ∧ t.pending = s.pending
      ∧ t.otp = s.otp ∧ t.dev.ctl = s.dev.ctl ∧ t.dev.net.isoTaken = s.dev.net.isoTaken
      ∧ (s.dev.net.isoAddr = none ∨ s.dev.net.isoAddr = some 254 → t.dev.net.isoAddr = some (Cfg.cancAddr s.dev.cfg))
      ∧ (∀ a : Nat, s.dev.net.isoAddr = some a → a ≠ 254 → t.dev.net.isoAddr = some a))
  ∧ (∀ (h : Option (BitVec 8 × BitVec 64)) (s : State), s.dev.canSend 2 = false → exec (.isoAddressClaim h) s = .next s)
  ∧ (∀ (a : BitVec 8) (name : BitVec 64) (s : State), s.dev.canSend 2 → s.dev.net.isoAddr = some a.toNat → a ≠ 254 →
      name.toNat < s.dev.isoName → ∃ t : State,
      exec (.isoAddressClaim (some (a, name))) s = .next t ∧ t.pending = s.pending ∧ t.otp = s.otp ∧ t.dev.ctl = s.dev.ctl
        ∧ t.dev.net.isoTaken = s.dev.net.isoTaken ++ [a.toNat]
        ∧ (∀ b : Nat, nextFree a.toNat (s.dev.net.isoTaken ++ [a.toNat]) = some b → t.dev.net.isoAddr = some b)
        ∧ (nextFree a.toNat (s.dev.net.isoTaken ++ [a.toNat]) = none → t.dev.net.isoAddr = some 254
            ∧ t.dev.hasFault .isoNoAddr (.net (.can .canC)) 0))
  ∧ (∀ (a : BitVec 8) (name : BitVec 64) (s : State), s.dev.canSend 2 → s.dev.net.isoAddr = some a.toNat → a ≠ 254 →
      s.dev.isoName ≤ name.toNat → exec (.isoAddressClaim (some (a, name))) s = exec (.isoAddressClaim none) s)
  ∧ (∀ (a : BitVec 8) (name : BitVec 64) (s : State), s.dev.canSend 2 → s.dev.net.isoAddr ≠ some a.toNat →
      a.toNat ∉ s.dev.net.isoTaken → exec (.isoAddressClaim (some (a, name))) s = .next (s.onDev fun d =>
        { d with net := { d.net with isoTaken := d.net.isoTaken ++ [a.toNat] } }))
  ∧ (∀ (a b : Nat) (l : List Nat), nextFree a l = some b → 128 ≤ b ∧ b ≤ 247 ∧ b ∉ l)
  ∧ (∀ (item seq src : BitVec 8) (w : Bool) (v : Nat) (s : State), s.dev.isoReady → s.dev.busyOn .canc = false →
      isoItem s item.toNat = some (w, v) → exec (.isoPropRead item seq src) s =
        .next (s.onDev (isoAnswer 0x81 item.toNat seq.toNat 0 src.toNat v)))
  ∧ (∀ (item seq src : BitVec 8) (v : W32) (s : State), s.dev.isoReady = false →
      exec (.isoPropRead item seq src) s = .next s ∧ exec (.isoPropWrite item seq src v) s = .next s)
  ∧ (∀ (item seq src : BitVec 8) (v : W32) (s : State), s.dev.isoReady → s.dev.busyOn .canc = false → item.toNat = 0 →
      exec (.isoPropWrite item seq src v) s = .next (s.onDev (isoError 0 seq.toNat 1 src.toNat)))
  ∧ (∀ (seq src : BitVec 8) (v : W32) (r : Nat) (s : State), s.dev.isoReady → s.dev.busyOn .canc = false → s.dev.ctl.state ≠ .fault →
      isoItem s 9 = some (true, r) → (cmdSpeedInput .a v.toNat s.dev).1 = Abort.ok → exec (.isoPropWrite 9 seq src v) s =
        .next (s.onDev fun d => isoAnswer 0x82 9 seq.toNat 0 src.toNat v.toNat (cmdSpeedInput .a v.toNat d).2))
  ∧ (∀ (b : Bool) (cmd node : BitVec 8) (s : State), s.dev.canSend (canOf b).num →
      node = 0 ∨ node.toNat = Cfg.canopenId s.dev.cfg (if b then 1 else 0) →
      (cmd = 1 → exec (.nmtCommand b cmd node) s = .next (s.onDev (Device.onCan (canOf b) fun x => { x with nmt := 5 })))
      ∧ (cmd = 2 → exec (.nmtCommand b cmd node) s = .next (s.onDev (Device.onCan (canOf b) fun x => { x with nmt := 4 })))
      ∧ (cmd = 128 → exec (.nmtCommand b cmd node) s = .next (s.onDev (Device.onCan (canOf b) fun x => { x with nmt := 127 }))))
  ∧ (∀ (b : Bool) (cmd node : BitVec 8) (s : State), node ≠ 0 → node.toNat ≠ Cfg.canopenId s.dev.cfg (if b then 1 else 0) →
      exec (.nmtCommand b cmd node) s = .next s)
  ∧ (∀ (b : Bool) (s : State), Cfg.hbProducer s.dev.cfg (if b then 1 else 0) ≠ 0 → (s.dev.canPort (canOf b)).conf ≠ 3 →
      due s.dev.now (s.dev.canPort (canOf b)).hbAt (ms (Cfg.hbProducer s.dev.cfg (if b then 1 else 0))) →
      exec (.heartbeatTx b) s = .next (s.onDev fun d =>
        let f : TxFrame :=
          { cls := 6 + (if b then 1 else 0), ident := 0x700 + Cfg.canopenId d.cfg (if b then 1 else 0)
            data := [BitVec.ofNat 8 (d.canPort (canOf b)).nmt] }
        txEnqueue f (d.onCan (canOf b) fun x => { x with hbAt := some d.now })))
  ∧ (∀ (b : Bool) (s : State), Cfg.hbProducer s.dev.cfg (if b then 1 else 0) = 0 → exec (.heartbeatTx b) s = .next s)
  ∧ (∀ (k : Fin 16) (late : Bool) (s : State), s.dev.ctl.state ≠ .off → Cfg.hbConsumer s.dev.cfg k % 65536 ≠ 0 →
      s.dev.heartbeatOver k →
      let e : Bool × Nat := ((Cfg.hbConsumer s.dev.cfg k).testBit 31, Cfg.hbConsumer s.dev.cfg k / 65536 % 256)
      (e ∉ s.dev.net.hbLost → exec (.heartbeatLost k late) s = .next (s.onDev fun d =>
          lateMisc late { d with net := { d.net with hbLost := d.net.hbLost ++ [e] } }))
        ∧ (e ∈ s.dev.net.hbLost → exec (.heartbeatLost k late) s = .next (s.onDev (lateMisc late))))
  ∧ (∀ (k : Fin 16) (late : Bool) (s : State), s.dev.heartbeatOver k = false → exec (.heartbeatLost k late) s = .next s)
  ∧ (∀ (j : Fin 32) (l : List Byte) (s : State), s.dev.pdoRuns j (Cfg.rpdoComm s.dev.cfg j 0) →
      l.length < ((mapEntries (Cfg.rpdoMap s.dev.cfg j)).map fun e => e.2.2).sum → exec (.rpdoRx j l) s = .next s)
  ∧ (∀ (j : Fin 32) (l : List Byte) (ix sub n : Nat) (s : State), s.dev.pdoRuns j (Cfg.rpdoComm s.dev.cfg j 0) →
      mapEntries (Cfg.rpdoMap s.dev.cfg j) = [(ix, sub, n)] → n ≤ l.length → exec (.rpdoRx j l) s =
        .next (writeItem (pdoPath s.dev (decide (16 ≤ j.val))) (fun _ => true) ix sub (l.take n) s).2)
  ∧ (∀ (j : Fin 32) (ix sub n : Nat) (s : State), s.dev.pdoRuns j (Cfg.tpdoComm s.dev.cfg j 0) →
      mapEntries (Cfg.tpdoMap s.dev.cfg j) = [(ix, sub, n)] →
      let r := readItem (pdoPath s.dev (decide (16 ≤ j.val))) (fun _ => true) ix sub s
      exec (.tpdoTx j) s = .next (r.2.2.onDev (txEnqueue { cls := if 16 ≤ j.val then 11 else 10
                                                           ident := Cfg.tpdoComm s.dev.cfg j 0 % 536870912
                                                           data := padTo n r.2.1 })))
  ∧ (∀ (j : Fin 32) (s : State), s.dev.pdoRuns j (Cfg.tpdoComm s.dev.cfg j 0) = false → exec (.tpdoTx j) s = .next s)
  ∧ (∀ (j : Fin 32) (l : List Byte) (s : State), s.dev.pdoRuns j (Cfg.rpdoComm s.dev.cfg j 0) = false →
      exec (.rpdoRx j l) s = .next s)
  ∧ (∀ (vid : BitVec 12) (ip : BitVec 32) (s : State), s.dev.eth1Hears vid → ip.toNat = Cfg.eth1Ip s.dev.cfg →
      exec (.eth1ArpRequest vid ip) s = .next (s.onDev (ethReply ip [])))
  ∧ (∀ (h : UdpHead) (ip : BitVec 32) (l : List Byte) (s : State), s.dev.eth1Hears h.vid → h.fragment = false →
      h.dest.toNat = Cfg.eth1Ip s.dev.cfg → exec (.eth1IcmpEcho h ip l) s = .next (s.onDev (ethReply ip l)))
  ∧ (∀ (vid : BitVec 12) (ip : BitVec 32) (s : State), s.dev.eth1Hears vid = false ∨ ip.toNat ≠ Cfg.eth1Ip s.dev.cfg →
      exec (.eth1ArpRequest vid ip) s = .next s)
  ∧ (∀ (h : UdpHead) (ip : BitVec 32) (l : List Byte) (s : State), s.dev.eth1Hears h.vid = false ∨ h.fragment
      ∨ h.dest.toNat ≠ Cfg.eth1Ip s.dev.cfg → exec (.eth1IcmpEcho h ip l) s = .next s)
  ∧ (∀ (d : Device) (vid : BitVec 12), d.eth1Hears vid ↔
      d.ctl.state ≠ .off ∧ d.net.eth1Up ∧ vid.toNat = Cfg.eth1Vlan d.cfg)
  ∧ (∀ s : State, s.dev.ctl.state ≠ .off → ∃ t : State, exec .eth1Link s = .next t ∧ t.pending = s.pending ∧ t.otp = s.otp
      ∧ t.dev.ctl = s.dev.ctl ∧ t.dev.net.eth1Up = false ∧ t.dev.hasFault .eth1Link (.net .eth1) 0
      ∧ ∀ (ip : BitVec 32) (port : BitVec 16), (t.dev.path (.hk ip port)).session = none)
  ∧ (∀ s : State, s.dev.ctl.state ≠ .off → s.dev.boot.fwStarted → ∃ t : State, exec .eth1LinkUp s = .next t ∧ t.pending = s.pending ∧ t.otp = s.otp
      ∧ t.dev.ctl = s.dev.ctl ∧ t.dev.net.eth1Up = true ∧ t.dev.activeAt .eth1Link (.net .eth1) = false)

/-- R360 to R369: time references, their misses, the guy line's frames and messages. -/
def Obligations.TimeAndGuyLine : Prop :=
  (∀ s : State, s.dev.net.canA.conf ≠ 3 → s.dev.candidate → s.dev.net.time.refPending →
      s.dev.now % 1000000 = 0 → s.dev.net.time.first ∨ s.dev.net.time.sofSent < s.dev.now → ∃ t : State,
      exec .timeRefTx s = .next t ∧ t.pending = s.pending ∧ t.otp = s.otp ∧ t.dev.ctl = s.dev.ctl
        ∧ t.dev.faults = s.dev.faults ∧ t.dev.net.time.role = (if s.dev.timeFromPartner then 4 else 2)
        ∧ t.dev.net.time.seq = (s.dev.net.time.seq + 1) % 2 ^ 8 ∧ t.dev.net.time.sofSent = s.dev.now
        ∧ t.dev.net.time.holdover = none ∧ t.dev.net.time.first = false)
  ∧ (∀ s : State, s.dev.candidate = false ∨ s.dev.net.time.refPending = false ∨ s.dev.now % 1000000 ≠ 0 →
      exec .timeRefTx s = .next s)
  ∧ (∀ (l : List Byte) (ident sof : Nat) (s : State), timeRefOf s.dev.cfg l ident = none →
      exec (.timeRefRx l ident sof) s = .next s)
  ∧ (∀ (l : List Byte) (ident sof : Nat) (r : TimeRef) (s : State), s.dev.canSend 0 → s.dev.forcedAt 0x0E03 = false →
      timeRefOf s.dev.cfg l ident = some r →
      r.rank ≠ Cfg.timeRank s.dev.cfg → r.rank < Cfg.timeRank s.dev.cfg ∨ s.dev.net.time.refPending = false → ∃ t : State,
      exec (.timeRefRx l ident sof) s = .next t ∧ t.pending = s.pending ∧ t.otp = s.otp
        ∧ t.dev.net.time.master = r.node ∧ t.dev.net.time.masterRank = r.rank ∧ t.dev.net.time.missed = 0
        ∧ t.dev.net.time.refPending = false ∧ t.dev.net.time.holdover = none
        ∧ t.dev.net.time.role = (if s.dev.timeFromPartner then 4 else 1) ∧ t.dev.activeAt .timeLost .module = false
        ∧ t.dev.ctl.state = s.dev.ctl.state)
  ∧ (∀ (l : List Byte) (ident sof : Nat) (r : TimeRef) (s : State), timeRefOf s.dev.cfg l ident = some r →
      Cfg.timeRank s.dev.cfg < r.rank → s.dev.net.time.refPending → exec (.timeRefRx l ident sof) s = .next s)
  ∧ (∀ d : Device, 0 ≤ slewLimit d.cfg → -(slewLimit d.cfg) ≤ (timeSlew d).net.time.trim
      ∧ (timeSlew d).net.time.trim ≤ slewLimit d.cfg ∧ (timeSlew d).ctl = d.ctl)
  ∧ (∀ (a : Bool) (s : State), s.dev.net.canA.conf ≠ 3 → s.dev.net.time.refPending = false → s.dev.refOverdue →
      s.dev.net.time.missed < 2 → exec (.timeRefMissed a) s = .next (s.onDev fun d => d.onTime fun t => { t with
        missed := t.missed + 1, sofSeen := none }))
  ∧ (∀ (a : Bool) (s : State), s.dev.net.canA.conf ≠ 3 → s.dev.net.time.refPending = false → s.dev.refOverdue →
      s.dev.net.time.missed = 2 → ∃ t : State, exec (.timeRefMissed a) s = .next t ∧ t.pending = s.pending ∧ t.otp = s.otp
        ∧ t.dev = { s.dev with net := t.dev.net } ∧ t.dev.net.time.missed = 3
        ∧ t.dev.net.time.role = (if s.dev.timeFromPartner then 4 else 3)
        ∧ t.dev.net.time.holdover = some (s.dev.net.time.holdover.getD s.dev.now)
        ∧ t.dev.net.time.refPending = s.dev.candidate
        ∧ t.dev.net.time.late = if a then (s.dev.net.time.late + 1) % 2 ^ 16 else s.dev.net.time.late)
  ∧ (∀ (a : Bool) (s : State), s.dev.net.time.refPending ∨ s.dev.refOverdue = false → exec (.timeRefMissed a) s = .next s)
  ∧ (∀ s : State, s.dev.ctl.state ≠ .off → lasted s.dev.now s.dev.net.time.offSince 1000000000 →
      exec .timeOffset s = .next (s.onDev (raise .timeOffset .module 0)))
  ∧ (∀ s : State, s.dev.net.time.offSince = none → s.dev.forcedAt 0x0E03 = false → exec .timeOffset s = .next s)
  ∧ (∀ (late : Bool) (u : Nanos) (s : State), s.dev.net.time.role = 3 → s.dev.net.time.holdover = some u →
      u + 100000000 ≤ s.dev.now →
      exec (.timeLost late) s = .next (s.onDev fun d => lateMisc late (raise .timeLost .module 0 d)))
  ∧ (∀ (late : Bool) (s : State), s.dev.net.time.role ≠ 3 ∨ s.dev.net.time.holdover = none →
      exec (.timeLost late) s = .next s)
  ∧ (∀ s : State, s.dev.paired → s.dev.ctl.partnerPresent → lasted s.dev.now s.dev.net.time.glSince 10000000 →
      exec .glTimeErr s = .next (s.onDev (raise .glTimeErr .module 0)))
  ∧ (∀ s : State, s.dev.net.time.glSince = none → s.dev.forcedAt 0x0E03 = false → exec .glTimeErr s = .next s)
  ∧ (∀ s : State, s.dev.paired → s.dev.net.guy.up → s.dev.ctl.state ≠ .boot → s.dev.guyDue →
      ∃ (t : State) (x : Sent),
      exec .guyFrameTx s = .next t ∧ t.pending = s.pending ∧ t.otp = s.otp ∧ t.dev.faults = s.dev.faults
        ∧ t.dev.net.guy.fseq = (s.dev.net.guy.fseq + 1) % 2 ^ 16 ∧ t.dev.net.guy.owed = 0 ∧ t.dev.net.guy.dorid = none
        ∧ t.dev.net.lastSent = some x ∧ x.port = 4 ∧ x.frame.data.length = 404)
  ∧ (∀ s : State, s.dev.net.guy.up = false ∨ s.dev.guyDue = false → exec .guyFrameTx s = .next s)
  ∧ (∀ (k : Fin 200) (l : List Byte) (f : Bool) (s : State), s.dev.paired → s.dev.net.guy.up →
      s.dev.forcedAt 0x0103 = false → s.dev.guyValid l f = false →
      exec (.guyFrameRx k l f) s = .next (s.onDev fun d => d.onGuy fun g => { g with err := (g.err + 1) % 2 ^ 32 }))
  ∧ (∀ (k : Fin 200) (l : List Byte) (f : Bool) (s : State), s.dev.paired → s.dev.net.guy.up →
      s.dev.forcedAt 0x0103 = false → s.dev.guyValid l f → ∃ t : State,
      exec (.guyFrameRx k l f) s = .next t ∧ t.pending = s.pending ∧ t.otp = s.otp ∧ t.dev.ctl.partnerNext = some (partnerOf l)
        ∧ t.dev.ctl.lastGuy = some s.dev.now ∧ t.dev.net.guy.rxTime = s.dev.now + 5 * k ∧ t.dev.ctl.lead = s.dev.ctl.lead
        ∧ t.dev.net.guy.epoch = field l 1 1 ∧ t.dev.net.guy.rxFseq = field l 2 2
        ∧ t.dev.ctl.state = s.dev.ctl.state ∧ t.dev.net.guy.err = s.dev.net.guy.err)
  ∧ (∀ (k : Fin 200) (l : List Byte) (f : Bool) (s : State), s.dev.net.guy.up = false → exec (.guyFrameRx k l f) s = .next s)
  ∧ (∀ s : State, exec .glMsgRetransmit s = .next (s.onDev fun d => d.onGuy fun g => { g with
      out := g.out.map fun m => if m.sent ∧ 3 ≤ m.frames then { m with sent := false, frames := 0 } else m }))
  ∧ (∀ s : State, exec .guyLinkDown s = .next (s.onDev fun d => d.onGuy fun g => { g with
      up := false, absent := g.absent + g.out.length, out := [], dorid := none }))
  ∧ (∀ s : State, s.dev.paired → s.dev.ctl.state ≠ .off → s.dev.boot.fwStarted → ∃ t : State,
      exec .guyLinkUp s = .next t ∧ t.pending = s.pending
      ∧ t.otp = s.otp ∧ t.dev.ctl = s.dev.ctl ∧ t.dev.net.guy.up = true
      ∧ t.dev.net.guy.epoch = (s.dev.net.guy.epoch + 1) % 2 ^ 8 ∧ t.dev.net.guy.credits = Cfg.glCredits s.dev.cfg)

/-- R370 to R374: capture rings never hold more than their size, a release frees whole closed packets alone, and what the
taps, the timeout, the release and the stream do to a ring. -/
def Obligations.CaptureRings : Prop :=
  (∀ (n cap top : Nat) (now : Nanos) (e : CapItem) (x : CapRing), x.used ≤ cap → (x.take n cap top now e).used ≤ cap)
  ∧ (∀ (n cap top : Nat) (now : Nanos) (e : CapItem) (x : CapRing), cap < (x.append n top now e).used + 8 →
      (x.take n cap top now e).dropped = (x.dropped + 1) % 2 ^ 32 ∧ (x.take n cap top now e).gap ≠ none)
  ∧ (∀ (b : Nat) (ps rest : List CapPacket), releasePackets b ps = some rest → ∃ gone : List CapPacket, ps = gone ++ rest
      ∧ (∀ p ∈ gone, p.closed = true) ∧ b = (gone.map fun p => p.length * 4).sum)
  ∧ (∀ (typ : Fin 16) (src : Fin 1024) (taken : Bool) (ws : List W32) (s : State), s.tapWords typ src = some ws →
      ∃ t : State, exec (.captureItem typ src taken) s = .next t
      ∧ t.pending = s.pending ∧ t.otp = s.otp ∧ t.dev = { s.dev with net := { s.dev.net with rings := t.dev.net.rings } }
      ∧ (∀ n : Nat, (s.dev.ring n).running = false → t.dev.ring n = s.dev.ring n)
      ∧ (∀ n k decim : Nat, n < 16 → n < s.dev.net.rings.length → (s.dev.ring n).running →
          ringSource s.dev.cfg n typ src = some (k, decim) → decim ≤ (s.dev.ring n).decim.getD k 0 →
          let i : CapItem := { typ := typ, source := src, time := s.dev.now, words := ws }
          let x : CapRing := { s.dev.ring n with decim := (s.dev.ring n).decim.set k 0 }
          t.dev.ring n = if taken then x.take n (Cfg.capSize s.dev.cfg n * 256) (Cfg.capPktWords s.dev.cfg n) s.dev.now i
            else x.drop (Cfg.capSize s.dev.cfg n * 256) (Cfg.capPktWords s.dev.cfg n) s.dev.now i))
  ∧ (∀ (typ : Fin 16) (src : Fin 1024) (taken : Bool) (s : State), s.tapWords typ src = none →
      exec (.captureItem typ src taken) s = .next s)
  ∧ (∀ (n : Fin 16) (p : CapPacket) (s : State), (s.dev.ring n).opened = some p →
      p.base + Cfg.capPktTime s.dev.cfg n * 1000 ≤ s.dev.now →
      exec (.capPacketTimeout n) s = .next (s.onDev (Device.onRing n CapRing.close)))
  ∧ (∀ (n : Fin 16) (s : State), (s.dev.ring n).opened = none → exec (.capPacketTimeout n) s = .next s)
  ∧ (∀ (q : Path) (n : Fin 16) (b : W32) (ps : List CapPacket) (s : State), s.dev.takes q .e false →
      Cfg.capMode s.dev.cfg n = 1 → releasePackets b.toNat (s.dev.ring n).packets = some ps →
      exec (.capRelease q n b) s = .next (s.onDev fun d => answer q Abort.ok []
        ((touchPath q d).onRing n fun x => { x with packets := ps })))
  ∧ (∀ (q : Path) (n : Fin 16) (b : W32) (s : State), s.dev.takes q .e false → Cfg.capMode s.dev.cfg n = 1 →
      releasePackets b.toNat (s.dev.ring n).packets = none →
      exec (.capRelease q n b) s = .next (s.onDev fun d => answer q Abort.range [] (touchPath q d)))
  ∧ (∀ (n : Fin 16) (p : CapPacket) (rest : List CapPacket) (s : State), s.dev.net.eth1Up → Cfg.capMode s.dev.cfg n = 2 →
      (s.dev.ring n).packets = p :: rest → p.closed → s.dev.eth1Idle → n < s.dev.net.rings.length → ∃ (t : State) (x : Sent),
      exec (.capStreamSend n) s = .next t
        ∧ t.pending = s.pending ∧ t.otp = s.otp ∧ (t.dev.ring n).packets = rest ∧ t.dev.net.lastSent = some x
        ∧ x.port = 3 ∧ x.frame.data = p.bytes n ∧ t.dev.ctl = s.dev.ctl ∧ t.dev.faults = s.dev.faults)
  ∧ (∀ (n : Fin 16) (s : State), (s.dev.ring n).packets = [] ∨ s.dev.eth1Idle = false → exec (.capStreamSend n) s = .next s)
  ∧ (∀ (q : Path) (n : Fin 16) (b : W32) (s : State), s.dev.takes q .e false → Cfg.capMode s.dev.cfg n ≠ 1 →
      exec (.capRelease q n b) s = .next (s.onDev fun d => answer q Abort.state [] (touchPath q d)))

/-! ## Object dictionary, commits, sessions (chapter 15) -/

/-- R384 to R388, R395: the order in which a write and a read are checked, the write of a staged and of a live object, and
what a setting reads as once it is set. -/
def Obligations.ObjectWrites : Prop :=
  (∀ (opened : ObjLevel → Bool) (ix sub : Nat) (l : List Byte) (s : State), s.dev.busy = false →
      (objFind ix sub objTable = none → writeCheck opened ix sub l s
        = .error (if objHasIndex ix then Abort.noSub else Abort.noIndex))
      ∧ ∀ (r : ObjRow) (j k : Nat), objFind ix sub objTable = some (r, j, k) →
        (opened (s.writeLevel r ix sub (leNat l)) = false → writeCheck opened ix sub l s = .error Abort.access)
        ∧ (opened (s.writeLevel r ix sub (leNat l)) → r.acc = .ro ∨ (r.acc = .rws ∧ s.dev.ownerSets ix sub) →
            writeCheck opened ix sub l s = .error Abort.readOnly)
        ∧ (opened (s.writeLevel r ix sub (leNat l)) → r.acc ≠ .ro → (r.acc = .rws → s.dev.ownerSets ix sub = false) →
            (l.length ≠ r.ty.size → writeCheck opened ix sub l s = .error Abort.length)
            ∧ (l.length = r.ty.size → (∀ n : Nat, r.ty ≠ .octets n) → r.inRange (leNat l) = false →
                writeCheck opened ix sub l s = .error Abort.range)
            ∧ (l.length = r.ty.size → r.inRange (leNat l) → mapWriteCheck opened ix sub (leNat l) ≠ Abort.ok →
                writeCheck opened ix sub l s = .error (mapWriteCheck opened ix sub (leNat l)))
            ∧ (l.length = r.ty.size → r.inRange (leNat l) → mapWriteCheck opened ix sub (leNat l) = Abort.ok →
                s.dev.boot.noBank ∨ (s.dev.ctl.state = .fault ∧ faultWrite ix sub (leNat l) = false) →
                writeCheck opened ix sub l s = .error Abort.state)
            ∧ (l.length = r.ty.size → r.inRange (leNat l) → mapWriteCheck opened ix sub (leNat l) = Abort.ok →
                s.dev.boot.noBank = false → s.dev.ctl.state ≠ .fault ∨ faultWrite ix sub (leNat l) →
                writeCheck opened ix sub l s = .ok r))
        ∧ (opened (readLevel r.rd) = false → readCheck opened ix sub s = .error Abort.access)
        ∧ (opened (readLevel r.rd) → r.acc = .wo → readCheck opened ix sub s = .error Abort.writeOnly)
        ∧ (opened (readLevel r.rd) → r.acc ≠ .wo → s.dev.bankless ix sub = false → readCheck opened ix sub s = .ok r))
  ∧ (∀ (opened : ObjLevel → Bool) (ix sub : Nat) (l : List Byte) (s : State), s.dev.busy →
      writeCheck opened ix sub l s = .error Abort.busy ∧ readCheck opened ix sub s = .error Abort.busy)
  ∧ (∀ (q : Path) (ix : BitVec 16) (sub : BitVec 8) (l : List Byte) (s : State), s.dev.ctl.state ≠ .off → s.dev.busyOn q →
      let t := s.onDev fun d => answer q Abort.busy [] (touchPath q d)
      exec (.stagedWrite q ix sub l) s = .next t ∧ exec (.liveWrite q ix sub l) s = .next t)
  ∧ (∀ (q : Path) (ix : BitVec 16) (sub : BitVec 8) (l : List Byte) (e : W32) (s : State), s.dev.ctl.state ≠ .off →
      s.dev.busyOn q = false →
      let u : State := { s with dev := touchPath q s.dev }
      writeCheck (u.dev.levelOpen q) ix.toNat sub.toNat l u = .error e →
        exec (.stagedWrite q ix sub l) s = .next (u.onDev (answer q e []))
          ∧ exec (.liveWrite q ix sub l) s = .next (u.onDev (answer q e [])))
  ∧ (∀ (q : Path) (ix : BitVec 16) (sub : BitVec 8) (l : List Byte) (r : ObjRow) (s : State), s.dev.ctl.state ≠ .off →
      s.dev.busyOn q = false → r.acc = .rws → s.dev.stageRefusal q = Abort.ok →
      let u : State := { s with dev := touchPath q s.dev }
      writeCheck (u.dev.levelOpen q) ix.toNat sub.toNat l u = .ok r → exec (.stagedWrite q ix sub l) s =
        .next (u.onDev fun d => answer q Abort.ok [] (stage q (ix.toNat * 256 + sub.toNat) (leNat l) d)))
  ∧ (∀ (q : Path) (ix : BitVec 16) (sub : BitVec 8) (l : List Byte) (r : ObjRow) (s : State), s.dev.ctl.state ≠ .off →
      s.dev.busyOn q = false → r.acc = .rws → s.dev.od.state.locked → s.dev.od.lock ≠ some q →
      let u : State := { s with dev := touchPath q s.dev }
      writeCheck (u.dev.levelOpen q) ix.toNat sub.toNat l u = .ok r → exec (.stagedWrite q ix sub l) s =
        .next (u.onDev (answer q Abort.shadowHeld [])))
  ∧ (∀ (q : Path) (ix : BitVec 16) (sub : BitVec 8) (l : List Byte) (r : ObjRow) (s : State), s.dev.ctl.state ≠ .off →
      s.dev.busyOn q = false → r.acc ≠ .rws →
      let u : State := { s with dev := touchPath q s.dev }
      let w := writeLive q ix.toNat sub.toNat (leNat l) l u
      writeCheck (u.dev.levelOpen q) ix.toNat sub.toNat l u = .ok r →
        exec (.liveWrite q ix sub l) s = .next (w.2.onDev (answer q w.1 [])))
  ∧ (∀ (S : Settings) (k v : Nat) (r : ObjRow) (j n : Nat), objFind (k / 256) (k % 256) objTable = some (r, j, n) →
      (S.set k v).raw k (r.default j n) = v ∧ ∀ k' dflt : Nat, k' ≠ k → (S.set k v).raw k' dflt = S.raw k' dflt)

/-- R375 to R378, R389, R390: Hokuith datagrams and USDO transfers. -/
def Obligations.HostProtocols : Prop :=
  (∀ (h : UdpHead) (ip : BitVec 32) (port : BitVec 16) (b : List Byte) (l : List HkItem) (s : State), s.dev.hkHears h →
      s.dev.hkFresh (.hk ip port) b →
      let u : State := { s with dev := touchPath (.hk ip port) s.dev }
      (hkPlain 1 b → hkItems 1 (field b 16 2) (b.drop 20) = some l →
          exec (.hkRead h ip port b) s = .next (hkItemsRun 1 ip port none (hkHeader 1 b) l u))
      ∧ (hkPlain 2 b → hkItems 2 (field b 16 2) (b.drop 20) = some l →
          exec (.hkWrite h ip port b) s = .next (hkItemsRun 2 ip port none (hkHeader 2 b) l u))
      ∧ (hkPlain 3 b → hkItems 3 (field b 16 2) (b.drop 20) = some l →
          exec (.hkReadBlock h ip port b) s = .next (hkItemsRun 3 ip port none (hkHeader 3 b) l u))
      ∧ (hkPlain 0x10 b → b.length = 40 → s.dev.busyOn (.hk ip port) = false →
          let r := cmdSessOpen (.hk ip port) ((b.drop 20).take 18) u
          exec (.hkSessionOpenRequest h ip port b) s = .next
            (hkSessionAnswer ip port none (hkHeader 0x10 b) ((r.2.dev.path (.hk ip port)).challengeBytes.2) r))
      ∧ (hkPlain 0x11 b → b.length = 52 → s.dev.busyOn (.hk ip port) = false →
          let r := cmdSessProof (.hk ip port) (b.drop 20) u
          exec (.hkSessionProof h ip port b) s = .next
            (hkSessionAnswer ip port none (hkHeader 0x11 b) ((r.2.dev.path (.hk ip port)).proofBytes.2) r)))
  ∧ (∀ (h : UdpHead) (ip : BitVec 32) (port : BitVec 16) (b key : List Byte) (s : State), s.dev.hkHears h →
      s.dev.hkFresh (.hk ip port) b → s.dev.hkSession (.hk ip port) b = some (some key) → b.length = 36 →
      field b 0 2 = 0x4B48 → field b 2 1 = 1 → field b 3 1 = 0x12 → field b 4 2 = 0 → s.dev.busyOn (.hk ip port) = false →
      exec (.hkSessionClose h ip port b) s = .next (s.onDev fun d => hkAnswer ip port
        { hkHeader 0x12 b with session := field b 8 4 } (some key) (closeSession (.hk ip port) (touchPath (.hk ip port) d))))
  ∧ (∀ (h : UdpHead) (ip : BitVec 32) (port : BitVec 16) (b : List Byte) (s : State), s.dev.hkHears h →
      b.length < 20 ∨ field b 0 2 ≠ 0x4B48 ∨ s.dev.hkSession (.hk ip port) b = none →
      exec (.hkRead h ip port b) s = .next (s.onDev hkDiscard) ∧ exec (.hkWrite h ip port b) s = .next (s.onDev hkDiscard)
        ∧ exec (.hkReadBlock h ip port b) s = .next (s.onDev hkDiscard)
        ∧ exec (.hkSessionOpenRequest h ip port b) s = .next (s.onDev hkDiscard)
        ∧ exec (.hkSessionProof h ip port b) s = .next (s.onDev hkDiscard)
        ∧ exec (.hkSessionClose h ip port b) s = .next (s.onDev hkDiscard))
  ∧ (∀ (h : UdpHead) (ip : BitVec 32) (port : BitVec 16) (b : List Byte) (a : HkAnswer) (u : Nanos) (s : State), s.dev.hkHears h →
      hkPlain 2 b → (s.dev.path (.hk ip port)).cached = [(a, u)] → a.reqId = field b 12 4 → s.dev.now ≤ u + sec 1 →
      exec (.hkWrite h ip port b) s = .next (s.onDev fun d =>
        hkSend ip port (hkBytes a true none) (touchPath (.hk ip port) d)))
  ∧ (∀ (h : UdpHead) (ip : BitVec 32) (port : BitVec 16) (b : List Byte) (s : State), s.dev.hkHears h = false →
      let t := if s.dev.ethTakes h then s.onDev (ethOther h.destPort) else s
      exec (.hkRead h ip port b) s = .next t ∧ exec (.hkWrite h ip port b) s = .next t
        ∧ exec (.hkReadBlock h ip port b) s = .next t ∧ exec (.hkSessionOpenRequest h ip port b) s = .next t
        ∧ exec (.hkSessionProof h ip port b) s = .next t ∧ exec (.hkSessionClose h ip port b) s = .next t)
  ∧ (∀ (op : Nat) (ip : BitVec 32) (port : BitVec 16) (key : Option (List Byte)) (a : HkAnswer) (l : List HkItem) (s : State),
      s.dev.busyOn (.hk ip port) → hkItemsRun op ip port key a l s = s.onDev fun d => hkAnswer ip port
        { a with items := l.length, status := 3, body := l.flatMap fun i => hkItemBytes i Abort.busy [] } key
        (d.onPath (.hk ip port) fun x => { x with last := l.map fun _ => (Abort.busy, []) }))
  ∧ (∀ (onB : Bool) (n : Fin 128) (s : State), s.dev.usdoServes onB → s.dev.busyOn (.usdo onB n) = false →
      let q : Path := .usdo onB n
      let u : State := { s with dev := touchPath q s.dev }
      (∀ (ix : BitVec 16) (sub : BitVec 8), exec (.usdoRequest onB n (.read ix sub)) s
          = .next (usdoRead q ix.toNat sub.toNat u))
      ∧ (∀ (ix : BitVec 16) (sub : BitVec 8) (l : List Byte), exec (.usdoRequest onB n (.write ix sub l)) s
          = .next (usdoWrite q ix.toNat sub.toNat l u))
      ∧ (∀ (ix : BitVec 16) (sub : BitVec 8) (total : Nat) (l : List Byte), 1024 < total →
          exec (.usdoRequest onB n (.writeStart ix sub total l)) s
            = .next (u.onDev fun d => answer q Abort.length [] (setTransfer q none d)))
      ∧ (∀ (ix : BitVec 16) (sub : BitVec 8) (total : Nat) (l : List Byte), total ≤ 1024 →
          exec (.usdoRequest onB n (.writeStart ix sub total l)) s
            = .next (u.onDev fun d => answer q Abort.ok [] (setTransfer q (some
              { key := ix.toNat * 256 + sub.toNat, write := true, buffer := l, total, at_ := d.now }) d)))
      ∧ (∀ (l : List Byte) (x : UsdoTransfer), (s.dev.path q).transfer = some x → x.write →
          x.buffer.length + l.length ≤ x.total → exec (.usdoRequest onB n (.segment l false)) s
            = .next (u.onDev fun d => answer q Abort.ok [] (setTransfer q (some
              { x with at_ := d.now, buffer := x.buffer ++ l }) d)))
      ∧ (∀ (l : List Byte) (x : UsdoTransfer), (s.dev.path q).transfer = some x → x.write →
          x.buffer.length + l.length = x.total → exec (.usdoRequest onB n (.segment l true)) s
            = .next (usdoWrite q (x.key / 256) (x.key % 256) (x.buffer ++ l) u))
      ∧ (∀ (l : List Byte) (last : Bool) (x : UsdoTransfer), (s.dev.path q).transfer = some x → x.write →
          x.total < x.buffer.length + l.length ∨ (last = true ∧ x.buffer.length + l.length ≠ x.total) →
          exec (.usdoRequest onB n (.segment l last)) s
            = .next (u.onDev fun d => answer q Abort.length [] (setTransfer q none d)))
      ∧ (∀ x : UsdoTransfer, (s.dev.path q).transfer = some x → x.write = false →
          exec (.usdoRequest onB n .readSegment) s = .next (u.onDev fun d => answer q Abort.ok (x.buffer.take usdoChunk)
            (setTransfer q (if (x.buffer.drop usdoChunk).isEmpty then none else some
              { x with at_ := d.now, buffer := x.buffer.drop usdoChunk }) d)))
      ∧ exec (.usdoRequest onB n .abort) s = .next (u.onDev (setTransfer q none))
      ∧ exec (.usdoRequest onB n .badSpecifier) s
          = .next (u.onDev fun d => answer q Abort.badSpecifier [] (setTransfer q none d)))
  ∧ (∀ (onB : Bool) (n : Fin 128) (r : UsdoRequest) (s : State), s.dev.usdoServes onB → s.dev.busyOn (.usdo onB n) →
      exec (.usdoRequest onB n r) s = .next (s.onDev fun d => answer (.usdo onB n) Abort.busy []
        (setTransfer (.usdo onB n) none (touchPath (.usdo onB n) d))))
  ∧ (∀ (onB : Bool) (n : Fin 128) (r : UsdoRequest) (s : State), s.dev.usdoServes onB = false →
      exec (.usdoRequest onB n r) s = .next s)
  ∧ (∀ (onB : Bool) (n : Fin 128) (late : Bool) (x : UsdoTransfer) (s : State),
      (s.dev.path (.usdo onB n)).transfer = some x →
      (x.at_ + sec 1 ≤ s.dev.now → exec (.usdoTimeout onB n late) s = .next (s.onDev fun d =>
        lateMisc late (answer (.usdo onB n) Abort.timedOut [] (setTransfer (.usdo onB n) none d))))
      ∧ (s.dev.now < x.at_ + sec 1 → exec (.usdoTimeout onB n late) s = .next s))
  ∧ (∀ (onB : Bool) (n : Fin 128) (late : Bool) (s : State), (s.dev.path (.usdo onB n)).transfer = none →
      exec (.usdoTimeout onB n late) s = .next s)

/-- R395 to R404, R439: COMMIT_CMD, the check, loading, the commit tick, the lock, the pair, the settings store. -/
def Obligations.CommitCommands : Prop :=
  (∀ (q : Path) (s : State), s.dev.takes q .b false → s.dev.ctl.state ≠ .calibrating →
      s.dev.od.state = .editing ∨ s.dev.od.state = .refused → s.dev.od.lock = some q →
      exec (.commitCheck q) s = .next (s.onDev fun d => answer q Abort.ok []
          (startCheck 0 ((touchPath q d).onOd fun x => { x with lastStaged := d.now })))
        ∧ exec (.commitNow q) s = .next (s.onDev fun d => answer q Abort.ok []
          (startCheck 2 ((touchPath q d).onOd fun x => { x with lastStaged := d.now })))
        ∧ exec (.commitAligned q) s = .next (s.onDev fun d => answer q Abort.ok []
          (startCheck 3 ((touchPath q d).onOd fun x => { x with lastStaged := d.now })))
        ∧ (s.dev.commitTimeOk → exec (.commitAt q) s = .next (s.onDev fun d => answer q Abort.ok []
          (startCheck 4 ((touchPath q d).onOd fun x => { x with lastStaged := d.now, commitT := d.commitTimeNow }))))
        ∧ (s.dev.commitTimeOk = false → exec (.commitAt q) s = .next (s.onDev fun d =>
          answer q Abort.range [] (touchPath q d))))
  ∧ (∀ (q : Path) (s : State), s.dev.takes q .b false → s.dev.ctl.state ≠ .calibrating → s.dev.od.state.locked →
      s.dev.od.lock = some q → ∃ t : State, exec (.commitDiscard q) s = .next t ∧ t.pending = s.pending ∧ t.otp = s.otp
        ∧ t.dev.od.state = .cancelled ∧ t.dev.od.shadow = none ∧ t.dev.od.lock = none
        ∧ t.dev.od.inForce = s.dev.od.inForce ∧ t.dev.ctl = s.dev.ctl)
  ∧ (∀ (q : Path) (s : State), s.dev.takes q .b false → s.dev.ctl.state ≠ .calibrating → s.dev.od.state.locked →
      s.dev.od.lock ≠ some q →
      let t := s.onDev fun d => answer q Abort.shadowHeld [] (touchPath q d)
      exec (.commitCheck q) s = .next t ∧ exec (.commitNow q) s = .next t ∧ exec (.commitAligned q) s = .next t
        ∧ exec (.commitAt q) s = .next t ∧ exec (.commitDiscard q) s = .next t)
  ∧ (∀ s : State, s.dev.od.state = .checking → s.dev.od.after = 0 → firstFailing allRules s.dev.ruleView = 0 → ∃ t : State,
      exec .checkDone s = .next t ∧ t.pending = s.pending ∧ t.otp = s.otp ∧ t.dev.od.state = .checked
        ∧ t.dev.od.shadowId = settingsIdOf s.dev.stagedSet ∧ t.dev = { s.dev with od := t.dev.od }
        ∧ t.dev.od.inForce = s.dev.od.inForce)
  ∧ (∀ s : State, s.dev.od.state = .checking → firstFailing allRules s.dev.ruleView ≠ 0 → ∃ t : State,
      exec .checkDone s = .next t ∧ t.pending = s.pending ∧ t.otp = s.otp ∧ t.dev.od.state = .refused
        ∧ t.dev.od.rule = firstFailing allRules s.dev.ruleView ∧ t.dev = { s.dev with od := t.dev.od }
        ∧ t.dev.od.inForce = s.dev.od.inForce ∧ t.dev.od.shadow = s.dev.od.shadow ∧ t.dev.od.lock = s.dev.od.lock)
  ∧ (∀ s : State, s.dev.od.state = .checking → s.dev.od.after ≠ 0 → firstFailing allRules s.dev.ruleView = 0 →
      exec .checkDone s = .next (s.onDev fun d => pendCommit d.od.after d))
  ∧ (∀ s : State, s.dev.od.state ≠ .checking → exec .checkDone s = .next s)
  ∧ (∀ s : State, s.dev.loadDue → s.dev.od.state = .checking → s.dev.od.after = 4 →
      exec .commitLoadStart s = .next (s.onDev (refuseCommit 0xFFFF)))
  ∧ (∀ s : State, s.dev.loadDue → s.dev.od.state = .pending → s.dev.od.mode = 4 →
      exec .commitLoadStart s = .next (s.onDev (Device.onOd fun x => { x with loading := true })))
  ∧ (∀ s : State, s.dev.loadDue = false → exec .commitLoadStart s = .next s)
  ∧ (∀ s : State, s.dev.od.state = .pending → s.dev.od.loading →
      exec .commitLoaded s = .next (s.onDev commitLoaded))
  ∧ (∀ s : State, s.dev.od.state ≠ .pending ∨ s.dev.od.loading = false → exec .commitLoaded s = .next s)
  ∧ (∀ d : Device, profileStages (changedKeys d.od.inForce d.stagedSet d.od.staged) = [] →
      commitLoaded d = { d with od := { d.od with loaded := true } })
  ∧ (∀ s : State, s.dev.od.state = .pending → s.dev.od.loaded → s.dev.commitDue →
      s.dev.forcedAt 0x0F01 = false ∨ s.dev.od.mode ≠ 4 → firstFailing instantRules s.dev.ruleView = 0 → ∃ t : State,
      exec .commitApply s = .next t ∧ t.pending = s.pending ∧ t.otp = s.otp ∧ t.dev.od.state = .done
        ∧ t.dev.od.inForce = s.dev.stagedSet ∧ t.dev.od.shadow = none ∧ t.dev.od.lock = none
        ∧ t.dev.od.lastCommit = s.dev.nextTick ∧ t.dev.od.storeDue = some s.dev.now ∧ t.dev.od.inBeat = s.dev.od.inBeat)
  ∧ (∀ s : State, s.dev.od.state = .pending → s.dev.od.loaded → s.dev.commitDue →
      s.dev.forcedAt 0x0F01 = false ∨ s.dev.od.mode ≠ 4 → firstFailing instantRules s.dev.ruleView ≠ 0 →
      exec .commitApply s = .next (s.onDev fun d => refuseCommit (firstFailing instantRules d.ruleView) d))
  ∧ (∀ s : State, s.dev.od.state = .pending → s.dev.od.loaded → s.dev.commitDue → s.dev.forcedAt 0x0F01 →
      s.dev.od.mode = 4 → ∃ t : State, exec .commitApply s = .next t ∧ t.pending = s.pending ∧ t.otp = s.otp
        ∧ t.dev = { s.dev with od := t.dev.od } ∧ t.dev.od.state = .checked ∧ t.dev.od.inForce = s.dev.od.inForce
        ∧ t.dev.od.shadow = s.dev.od.shadow ∧ t.dev.od.lock = s.dev.od.lock)
  ∧ (∀ s : State, s.dev.od.state ≠ .pending ∨ s.dev.od.loaded = false ∨ s.dev.commitDue = false →
      exec .commitApply s = .next s)
  ∧ (∀ s : State, s.dev.od.state = .pending → s.dev.od.mode = 4 → s.dev.od.loaded = false →
      (s.dev.od.commitT + 10000 ≤ s.dev.nextTick → exec .commitLateLimit s = .next (s.onDev (refuseCommit 0xFFFE)))
      ∧ (s.dev.nextTick < s.dev.od.commitT + 10000 → exec .commitLateLimit s = .next s))
  ∧ (∀ s : State, s.dev.od.state ≠ .pending ∨ s.dev.od.mode ≠ 4 ∨ s.dev.od.loaded → exec .commitLateLimit s = .next s)
  ∧ (∀ (late : Bool) (s : State), s.dev.od.state = .editing ∨ s.dev.od.state = .checked ∨ s.dev.od.state = .refused →
      s.dev.lockOver → exec (.shadowLockTimeout late) s = .next (s.onDev fun d => lateMisc late (cancelCommit d)))
  ∧ (∀ (late : Bool) (s : State), s.dev.od.state = .pending ∨ s.dev.od.state = .checking ∨ s.dev.lockOver = false →
      exec (.shadowLockTimeout late) s = .next s)
  ∧ (∀ (u : Nanos) (w : W32) (s : State), s.dev.paired → s.dev.net.guy.up → ∃ t : State,
      exec (.commitAnnounceRx (.announce u w)) s = .next t ∧ t.pending = s.pending ∧ t.otp = s.otp
        ∧ t.dev = { s.dev with od := t.dev.od } ∧ t.dev.od.announced = some (u, w)
        ∧ (t.dev.od.partnerMatch = true ↔
            s.dev.od.state = .pending ∧ s.dev.od.mode = 4 ∧ s.dev.od.commitT = u ∧ s.dev.od.shadowId = w))
  ∧ (∀ (u : Nanos) (s : State), s.dev.paired → s.dev.net.guy.up → ∃ t : State,
      exec (.commitAnnounceRx (.withdraw u)) s = .next t ∧ t.pending = s.pending ∧ t.otp = s.otp
        ∧ t.dev = { s.dev with od := t.dev.od } ∧ t.dev.od.announced
          = if (s.dev.od.announced.map Prod.fst) = some u then none else s.dev.od.announced)
  ∧ (∀ (m : GuyMsg) (s : State), s.dev.paired = false ∨ s.dev.net.guy.up = false →
      exec (.commitAnnounceRx m) s = .next s)
  ∧ (∀ (T : Nat) (s : State), s.dev.paired → s.dev.ctl.partnerPresent → s.dev.compareDue s.dev.lastFrame.txTime = some T →
      let done : ObjDict → ObjDict := fun y => { y with
        announced := y.announced.filter (fun e => e.1 != T), compareT := y.compareT.filter (· != T) }
      (s.dev.lastFrame.settingsId = s.dev.settingsId → exec .commitIdentityCompare s = .next (s.onDev (Device.onOd done)))
      ∧ (s.dev.lastFrame.settingsId ≠ s.dev.settingsId → s.dev.od.announced = some (T, s.dev.lastFrame.settingsId) →
          s.dev.ctl.state = .run → ∃ t : State, exec .commitIdentityCompare s = .next t
            ∧ t.dev.hasFault .commitMissed .module 2 ∧ t.dev.od.announced = none)
      ∧ (s.dev.lastFrame.settingsId ≠ s.dev.settingsId → s.dev.od.announced = some (T, s.dev.lastFrame.settingsId) →
          s.dev.ctl.state ≠ .run → exec .commitIdentityCompare s = .next (s.onDev (Device.onOd done)))
      ∧ (s.dev.lastFrame.settingsId ≠ s.dev.settingsId → s.dev.od.announced ≠ some (T, s.dev.lastFrame.settingsId) →
          s.dev.od.compareT = some T → ∃ t : State, exec .commitIdentityCompare s = .next t
            ∧ t.dev.ctl.partnerPresent = false ∧ t.dev.ctl.identityLost = true ∧ t.dev.od.compareT = none))
  ∧ (∀ s : State, s.dev.paired = false ∨ s.dev.ctl.partnerPresent = false ∨ s.dev.compareDue s.dev.lastFrame.txTime = none →
      exec .commitIdentityCompare s = .next s)
  ∧ (∀ (u : Nanos) (s : State), s.dev.od.storeDue = some u → ∃ t : State, exec .settingsStoreWrite s = .next t
      ∧ t.pending = s.pending ∧ t.otp = s.otp ∧ t.dev.od.storeDue = none ∧ t.dev.cfg = s.dev.cfg
      ∧ (t.dev.flash.copy0 = s.dev.flash.copy0 ∨ t.dev.flash.copy1 = s.dev.flash.copy1)
      ∧ (s.dev.flash.copy0.valid → s.dev.flash.copy1.valid → s.dev.flash.copy1.seq < s.dev.flash.copy0.seq →
          t.dev.flash.copy0 = s.dev.flash.copy0 ∧ t.dev.flash.copy1.entries = s.dev.storeEntries
            ∧ t.dev.flash.copy1.valid = true ∧ t.dev.flash.copy1.seq = (s.dev.flash.copy0.seq + 1) % 2 ^ 32))
  ∧ (∀ s : State, s.dev.od.storeDue = none → exec .settingsStoreWrite s = .next s)

/-- R390 to R394, R443: keys, the opening of sessions and their ends, lockout, the event queue. -/
def Obligations.SessionsAndEvents : Prop :=
  (∀ (q : Path) (l : List Byte) (s : State), s.dev.takes q s.provisionLevel false → l.length = 33 → leNat (l.take 1) ≤ 3 →
      s.dev.comm.burning = none → s.otp.provisioned.getLsbD (leNat (l.take 1)) = false →
      s.otp.revoked.getLsbD (leNat (l.take 1)) = false → s.otp.fusesOk → s.otp.keysOk → ∃ t : State, exec (.keyProvision q l) s = .next t
        ∧ t.pending = s.pending ∧ t.dev = answer q Abort.ok [] (touchPath q s.dev) ∧ t.otp = { s.otp with
          keys := s.otp.keys.modify (leNat (l.take 1)) fun x => x ||| BitVec.ofNat 256 (leNat (l.drop 1))
          provisioned := s.otp.provisioned ||| BitVec.ofNat 4 (2 ^ leNat (l.take 1)) })
  ∧ (∀ (q : Path) (l : List Byte) (s : State), s.dev.takes q s.provisionLevel false → l.length = 33 → leNat (l.take 1) ≤ 3 →
      s.dev.comm.burning = none → s.otp.provisioned.getLsbD (leNat (l.take 1)) ∨ s.otp.revoked.getLsbD (leNat (l.take 1)) →
      exec (.keyProvision q l) s = .next (s.onDev fun d => answer q Abort.state [] (touchPath q d)))
  ∧ (∀ (q : Path) (k : BitVec 8) (s : State), s.dev.takes q .v false → k.toNat ≤ 3 → s.dev.comm.burning = none →
      s.otp.fusesOk → s.otp.keysOk → ∃ t : State,
      exec (.keyRevoke q k) s = .next t ∧ t.pending = s.pending ∧ t.dev = answer q Abort.ok [] (touchPath q s.dev)
        ∧ t.otp = { s.otp with
          keys := s.otp.keys.modify k.toNat fun _ => BitVec.allOnes 256
          revoked := s.otp.revoked ||| BitVec.ofNat 4 (2 ^ k.toNat) })
  ∧ (∀ (q : Path) (k : BitVec 8) (s : State), s.dev.takes q .v false → k.toNat ≤ 3 → s.dev.comm.burning = none →
      s.otp.fusesOk = false ∨ s.otp.keysOk = false → exec (.keyRevoke q k) s = .next (s.onDev fun d =>
        answer q Abort.state [] (raise .otpIntegrity .module 4 (touchPath q d))))
  ∧ (∀ (q : Path) (l : List Byte) (s : State), s.dev.takes q .b true → l.length = 18 → leNat (l.take 1) ≤ 3 →
      1 ≤ leNat ((l.drop 1).take 1) → leNat ((l.drop 1).take 1) ≤ 2 → q ≠ .canc → (s.dev.path q).lockedOut = false →
      s.mayOpen (leNat (l.take 1)) (leNat ((l.drop 1).take 1)) → ∃ (t : State) (c : Challenge),
      exec (.sessOpen q l) s = .next t ∧ t.pending = s.pending ∧ t.otp = s.otp ∧ (t.dev.path q).challenge = some c
        ∧ c.slot = leNat (l.take 1) ∧ c.level = leNat ((l.drop 1).take 1) ∧ c.nh = l.drop 2 ∧ c.handle ≠ 0
        ∧ c.nm.length = 16 ∧ c.time = s.dev.now ∧ t.dev.ctl = s.dev.ctl ∧ t.dev.faults = s.dev.faults)
  ∧ (∀ (q : Path) (l : List Byte) (s : State), s.dev.takes q .b true → l.length = 18 → leNat (l.take 1) ≤ 3 →
      1 ≤ leNat ((l.drop 1).take 1) → leNat ((l.drop 1).take 1) ≤ 2 → q = .canc ∨ (s.dev.path q).lockedOut →
      exec (.sessOpen q l) s = .next (s.onDev fun d => answer q Abort.access [] (touchPath q d)))
  ∧ (∀ (q : Path) (l : List Byte) (s : State), s.dev.takes q .b true → l.length = 18 → leNat (l.take 1) ≤ 3 →
      1 ≤ leNat ((l.drop 1).take 1) → leNat ((l.drop 1).take 1) ≤ 2 → q ≠ .canc → (s.dev.path q).lockedOut = false →
      s.mayOpen (leNat (l.take 1)) (leNat ((l.drop 1).take 1)) = false → exec (.sessOpen q l) s = .next (s.onDev fun d =>
        answer q Abort.access [] (lockOut q ((touchPath q d).onPath q fun x => { x with
          challenge := none, failures := d.recentFailures q ++ [d.now] }))))
  ∧ (∀ (q : Path) (l : List Byte) (c : Challenge) (s : State), s.dev.takes q .b true → l.length = 32 →
      (s.dev.path q).challenge = some c → s.mayOpen c.slot c.level →
      l = c.ph (s.otp.keyBytes c.slot) (Cfg.nodeNumber s.dev.cfg) → ∃ (t : State) (x : Session),
      exec (.sessProof q l) s = .next t ∧ t.pending = s.pending ∧ t.otp = s.otp ∧ (t.dev.path q).session = some x
        ∧ x.level = c.level ∧ x.slot = c.slot ∧ x.handle = c.handle ∧ x.lastUse = s.dev.now
        ∧ (t.dev.path q).challenge = none ∧ t.dev.ctl = s.dev.ctl)
  ∧ (∀ (q : Path) (l : List Byte) (c : Challenge) (s : State), s.dev.takes q .b true → l.length = 32 →
      (s.dev.path q).challenge = some c → l ≠ c.ph (s.otp.keyBytes c.slot) (Cfg.nodeNumber s.dev.cfg) →
      (s.dev.path q).session = none → ∃ t : State, exec (.sessProof q l) s = .next t ∧ (t.dev.path q).session = none
        ∧ (t.dev.path q).challenge = none ∧ (t.dev.path q).failures = s.dev.recentFailures q ++ [s.dev.now]
        ∧ (t.dev.path q).last = [(Abort.access, [])])
  ∧ (∀ (q : Path) (s : State), s.dev.takes q .b true → exec (.sessClose q) s = .next (s.onDev fun d =>
      answer q Abort.ok [] (closeSession q (touchPath q d))))
  ∧ (∀ (q : Path) (d : Device), ((closeSession q d).path q).session = none
      ∧ (∀ e ∈ (closeSession q d).inj.active, e.path ≠ q)
      ∧ (∀ e ∈ d.inj.active, e.path ≠ q → e ∈ (closeSession q d).inj.active))
  ∧ (∀ (q : Path) (late : Bool) (c : Challenge) (s : State), (s.dev.path q).challenge = some c →
      (c.time + sec 5 ≤ s.dev.now → exec (.sessChallengeLapse q late) s = .next (s.onDev fun d =>
        lateMisc late (d.onPath q fun x => { x with challenge := none })))
      ∧ (s.dev.now < c.time + sec 5 → exec (.sessChallengeLapse q late) s = .next s))
  ∧ (∀ (q : Path) (late : Bool) (s : State), (s.dev.path q).challenge = none →
      exec (.sessChallengeLapse q late) s = .next s)
  ∧ (∀ (q : Path) (late : Bool) (x : Session) (s : State), (s.dev.path q).session = some x →
      (x.lastUse + sec (Cfg.sessionIdle s.dev.cfg) ≤ s.dev.now → exec (.sessionIdle q late) s
        = .next (s.onDev fun d => lateMisc late (closeSession q d)))
      ∧ (s.dev.now < x.lastUse + sec (Cfg.sessionIdle s.dev.cfg) → exec (.sessionIdle q late) s = .next s))
  ∧ (∀ (q : Path) (late : Bool) (s : State), (s.dev.path q).session = none → exec (.sessionIdle q late) s = .next s)
  ∧ (∀ (q : Path) (s : State), s.dev.ctl.state ≠ .off → (s.dev.path q).lockedOut = false →
      3 ≤ (s.dev.recentFailures q).length ∨ s.dev.forced 0x0F02 q.num → ∃ t : State,
      exec (.sessLockout q) s = .next t ∧ t.pending = s.pending ∧ t.otp = s.otp ∧ t.dev.ctl = s.dev.ctl
        ∧ (t.dev.path q).lockedOut = true ∧ (t.dev.path q).lockedAt = s.dev.now ∧ (t.dev.path q).challenge = none
        ∧ t.dev.hasFault .sessLockout .module 0)
  ∧ (∀ (q : Path) (s : State), s.dev.ctl.state = .off ∨ (s.dev.path q).lockedOut
      ∨ ((s.dev.recentFailures q).length < 3 ∧ s.dev.forced 0x0F02 q.num = false) → exec (.sessLockout q) s = .next s)
  ∧ (∀ (q : Path) (s : State), (s.dev.path q).lockedOut → (s.dev.path q).lockedAt + sec 60 ≤ s.dev.now →
      (∀ e ∈ s.dev.od.paths, e.2.lockedOut = true → e.1 = q) → ∃ t : State,
      exec (.sessLockoutEnd q) s = .next t ∧ t.pending = s.pending ∧ t.otp = s.otp ∧ t.dev.ctl = s.dev.ctl
        ∧ (t.dev.path q).lockedOut = false ∧ (t.dev.path q).failures = [] ∧ t.dev.activeAt .sessLockout .module = false)
  ∧ (∀ (q : Path) (s : State), (s.dev.path q).lockedOut = false ∨ s.dev.now < (s.dev.path q).lockedAt + sec 60 →
      exec (.sessLockoutEnd q) s = .next s)
  ∧ (∀ (q : Path) (e : Event) (rest : List Event) (s : State), s.dev.takes q .b true → s.dev.faults.events = e :: rest →
      exec (.eventPop q) s = .next (s.onDev fun d => answer q Abort.ok e.bytes
        { touchPath q d with faults := { d.faults with events := rest, attnHeld := d.faults.attnHeld && !rest.isEmpty } }))
  ∧ (∀ (q : Path) (s : State), s.dev.takes q .b true → s.dev.faults.events = [] →
      exec (.eventPop q) s = .next (s.onDev fun d => answer q Abort.noData [] (touchPath q d)))
  ∧ (∀ (e : Event) (d : Device), (d.faults.events.length < 64 →
        (pushEvent e d).faults.events = d.faults.events ++ [{ e with lostBefore := d.faults.lostFlag }]
          ∧ (pushEvent e d).faults.lost = d.faults.lost ∧ (pushEvent e d).faults.lostFlag = false)
      ∧ (64 ≤ d.faults.events.length → (pushEvent e d).faults.events = d.faults.events
          ∧ (pushEvent e d).faults.lost = (d.faults.lost + 1) % 2 ^ 32 ∧ (pushEvent e d).faults.lostFlag = true))
  ∧ (∀ e : Event, e.bytes.length = 16)

/-! ## Crossings, timebase, self-test, injection (chapter 16) -/

/-- R408 to R414, R417 to R419, R427 to R429: crossings of clock domains and the 8 words each holds in a direction, the timebase,
error injection. Of the requests that wait, an arbiter takes one of the highest rank (the least number), and among equals the next
after the one it served last, or from the start where none comes after it; the crypto engine passes from the holder that frees it
to the one the arbiter names. -/
def Obligations.Crossings : Prop :=
  (∀ (x : Fin 54) (edge : Bool) (down up : List Nat) (s : State), s.dev.ctl.state.inService → (s.dev.xing x).phase ≠ .timedOut →
      (s.dev.xing x).phase ≠ .holding → x.val = 1 ∨ x.val = 2 ∨ x.val = 3 →
      let p := canPortOf (x.val - 1)
      ∃ t, exec (.xingTimeout x edge down up) s = .next t ∧ t.pending = s.pending ∧ t.otp = s.otp ∧ t.dev.ctl = s.dev.ctl
        ∧ (t.dev.canPort p).conf = 3 ∧ t.dev.hasFault .xingTimeout (canScope p) 0)
  ∧ (∀ (x : Fin 54) (edge : Bool) (down up : List Nat) (s : State), s.dev.ctl.state ≠ .off → s.dev.ctl.state.inService = false →
      (s.dev.xing x).phase ≠ .timedOut → (s.dev.xing x).phase ≠ .holding → exec (.xingTimeout x edge down up) s =
        .next (s.onDev fun d => (xingHold x down up d).onXing x fun y => { y with phase := .holding, since := some d.now }))
  ∧ (∀ (x : Fin 54) (edge : Bool) (down up : List Nat) (s : State), (s.dev.xing x).phase = .timedOut ∨ (s.dev.xing x).phase = .holding →
      s.dev.ctl.state ≠ .off → exec (.xingTimeout x edge down up) s = .next (s.onDev (xingHold x down up)))
  ∧ (∀ (x : Fin 54) (edge : Bool) (down up : List Nat) (s : State), s.dev.ctl.state.inService → (s.dev.xing x).phase ≠ .timedOut →
      (s.dev.xing x).phase ≠ .holding → ∃ t, exec (.xingTimeout x edge down up) s = .next t
        ∧ t = s.onDev (fun d => xingFail x edge (xingHold x down up d)) ∧ (x.val = 0 → t.dev.cross.timebaseStopped)
        ∧ (x.val = 4 → t.dev.net.eth1Up = false ∧ t.dev.hasFault .eth1Link (.net .eth1) 0)
        ∧ (x.val = 5 → t.dev.net.guy.up = false ∧ t.dev.net.guy.out = [] ∧ t.dev.hasFault .xingTimeout (.net .eth2) 0)
        ∧ (6 ≤ x.val → (s.dev.mchan (x - 6)).modFail = false →
            ∃ r : Nat, t.dev.hasFault .modFail (.channel (x - 6)) r))
  ∧ (∀ (x : Fin 54) (down up : List Nat) (d : Device), x.val < d.cross.xing.length →
      let word : Nat → XWord := fun v =>
        { epoch := (match xingBlock x with | some b => (d.cross.blocks.getD b {}).epoch | none => 0), data := v }
      ((xingHold x down up d).xing x).toClock = ((d.xing x).toClock ++ down.map word).take 8
        ∧ ((xingHold x down up d).xing x).toFabric = ((d.xing x).toFabric ++ up.map word).take 8
        ∧ ((xingHold x down up d).xing x).phase = (d.xing x).phase
        ∧ ∀ y : Nat, y ≠ x.val → (xingHold x down up d).xing y = d.xing y)
  ∧ (∀ (x : Fin 54) (edge : Bool) (d : Device), x.val < d.cross.xing.length →
      let y := (d.onXing x fun y => { y with
        phase := .timedOut, timeouts := addSat 15 y.timeouts 1, late := if edge then addSat 15 y.late 1 else y.late, since := none })
      xingFail x edge d = xingEffect x y ∧ (y.xing x).phase = .timedOut ∧ (y.xing x).timeouts = min 15 ((d.xing x).timeouts + 1)
        ∧ (edge → (y.xing x).late = min 15 ((d.xing x).late + 1)))
  ∧ (∀ (x : Fin 54) (s : State), ((s.dev.xing x).phase = .holding → lasted s.dev.now (s.dev.xing x).since (ms 10) →
        exec (.crossingHoldTimeout x) s = .next (s.onDev (xingFail x false)))
      ∧ ((s.dev.xing x).phase ≠ .holding ∨ lasted s.dev.now (s.dev.xing x).since (ms 10) = false →
        exec (.crossingHoldTimeout x) s = .next s))
  ∧ (∀ (x : Fin 54) (down up : List Nat) (b : Nat) (s : State), s.dev.ctl.state ≠ .off → xingBlock x = some b →
      let h := xingHold x down up s.dev
      let old := (h.xing x).toClock.length + (h.xing x).toFabric.length
      let u : Nat → Device := fun n =>
        discardStale b n (h.onXing x fun y => { y with phase := .running, since := none, toClock := [], toFabric := [] })
      ((h.xing x).phase = .holding → exec (.crossingResync x down up) s = .next { s with dev := u 0 })
      ∧ ((h.xing x).phase = .timedOut → exec (.crossingResync x down up) s = .next { s with dev := xingRestart x (u old) })
      ∧ ((h.xing x).phase = .running → exec (.crossingResync x down up) s = .next { s with dev := xingReset x (u old) }))
  ∧ (∀ (down up : List Nat) (s : State), s.dev.ctl.state ≠ .off → exec (.crossingResync 0 down up) s = .next (s.onDev fun d =>
      (xingHold 0 down up d).onXing 0 fun y => { y with phase := .running, since := none, toClock := [], toFabric := [] }))
  ∧ (∀ (x : Fin 54) (edge : Bool) (down up : List Nat) (s : State), s.dev.ctl.state = .off →
      exec (.xingTimeout x edge down up) s = .next s ∧ exec (.crossingResync x down up) s = .next s
        ∧ exec .timebaseFail s = .next s)
  ∧ (∀ s : State, s.dev.ctl.state.inService → (s.dev.xing 0).phase ≠ .timedOut → (s.dev.xing 0).phase ≠ .holding →
      ∃ t, exec .timebaseFail s = .next t ∧ t.pending = s.pending ∧ t.otp = s.otp ∧ t.dev.cross.timebaseStopped
        ∧ t.dev.safety.wdogLines ∧ (∀ p : PortId, (t.dev.psafe p).sto) ∧ t.dev.bist.synthOk = false)
  ∧ (∀ s : State, s.dev.ctl.state ≠ .off → s.dev.ctl.state.inService = false → (s.dev.xing 0).phase = .running →
      exec .timebaseFail s = .next (s.onDev (Device.onXing 0 fun y => { y with phase := .holding, since := some s.dev.now })))
  ∧ (∀ s : State, s.dev.cross.timebaseStopped → ∃ t, exec .timebaseRunsAgain s = .next t ∧ t.pending = s.pending
      ∧ t.otp = s.otp ∧ t.dev.hasFault .timebaseFail .module 4 ∧ t.dev.cross.timebaseStopped = false
      ∧ t.dev.cross.runsAgain = s.dev.now)
  ∧ (∀ s : State, s.dev.cross.timebaseStopped = false → exec .timebaseRunsAgain s = .next s)
  ∧ (∀ s : State, s.dev.active .timebaseFail → s.dev.cross.timebaseStopped = false →
      (s.dev.cross.runsAgain + ms 100 ≤ s.dev.now → exec .timebaseLockHeld s =
        .next (s.onDev fun d => clearFault .timebaseFail .module (d.onBist fun x => { x with synthOk := true })))
      ∧ (s.dev.now < s.dev.cross.runsAgain + ms 100 → exec .timebaseLockHeld s = .next s))
  ∧ (∀ s : State, s.dev.active .timebaseFail = false ∨ s.dev.cross.timebaseStopped → exec .timebaseLockHeld s = .next s)
  ∧ (∀ (q : Path) (s : State), s.dev.takes q .v false → s.dev.ctl.state ≠ .calibrating →
      let x := s.dev.path q
      let rest := s.dev.inj.active.filter fun i => !(i.point == x.injPoint && i.arg == x.injArg)
      (injPoints.contains x.injPoint = false →
        exec (.injArm q) s = .next (s.onDev fun d => answer q Abort.range [] (touchPath q d)))
      ∧ (injPoints.contains x.injPoint → injPointsS.contains x.injPoint → s.dev.refusesS q → exec (.injArm q) s =
        .next (s.onDev fun d => answer q Abort.access [] ((touchPath q d).onInj fun y => { y with refusedS := true })))
      ∧ (injPoints.contains x.injPoint → (injPointsS.contains x.injPoint → s.dev.refusesS q = false) → 8 ≤ rest.length →
        exec (.injArm q) s = .next (s.onDev fun d => answer q Abort.busy [] (touchPath q d)))
      ∧ (injPoints.contains x.injPoint → (injPointsS.contains x.injPoint → s.dev.refusesS q = false) → rest.length < 8 →
        exec (.injArm q) s = .next (s.onDev fun d =>
          let i : Injection :=
            { path := q, point := x.injPoint, arg := x.injArg, value := x.injValue, duration := x.injDuration, armedAt := d.now }
          let u := (touchPath q d).onInj fun y => { y with
            active := rest ++ [i], point := x.injPoint, hits := 0, refusedS := false, count := addWrap 32 y.count 1 }
          answer q Abort.ok [] (if x.injPoint = 0x1004 then injRestart x.injArg u
            else if x.injPoint = 0x0D03 then raise .otpBurnFail .module 0 u else u))))
  ∧ (∀ (q : Path) (s : State), s.dev.takes q .v false → s.dev.ctl.state ≠ .calibrating →
      exec (.injWithdraw q) s = .next (s.onDev fun d => answer q Abort.ok [] ((touchPath q d).onInj fun y => { y with
        active := y.active.filter fun i => !(i.point == (s.dev.path q).injPoint && i.arg == (s.dev.path q).injArg) }))
      ∧ exec (.injWithdrawAll q) s =
        .next (s.onDev fun d => answer q Abort.ok [] ((touchPath q d).onInj fun y => { y with active := [] })))
  ∧ (∀ (q : Path) (s : State), s.dev.takes q .v false → s.dev.ctl.state = .calibrating →
      let t := s.onDev fun d => answer q Abort.state [] (touchPath q d)
      exec (.injArm q) s = .next t ∧ exec (.injWithdraw q) s = .next t ∧ exec (.injWithdrawAll q) s = .next t)
  ∧ (∀ (k : Fin 8) (i : Injection) (s : State), s.dev.inj.active[k.val]? = some i →
      (i.armedAt + 1000 * i.duration ≤ s.dev.now → exec (.injDurationEnd k) s =
        .next (s.onDev fun d => d.onInj fun y => { y with active := y.active.eraseIdx k }))
      ∧ (s.dev.now < i.armedAt + 1000 * i.duration → exec (.injDurationEnd k) s = .next s))
  ∧ (∀ (k : Fin 8) (s : State), s.dev.inj.active.length ≤ k.val → exec (.injDurationEnd k) s = .next s)
  ∧ (∀ served reqs : List (Nat × Nat), arbNext served reqs = none ↔ reqs = [])
  ∧ (∀ (served reqs : List (Nat × Nat)) (r n : Nat), arbNext served reqs = some (r, n) →
      (r, n) ∈ reqs ∧ (∀ w ∈ reqs, r ≤ w.1)
        ∧ (∀ k m : Nat, served.lookup r = some k → (r, m) ∈ reqs → k < m → k < n ∧ n ≤ m)
        ∧ ((∀ k m : Nat, served.lookup r = some k → (r, m) ∈ reqs → m ≤ k) → ∀ m : Nat, (r, m) ∈ reqs → n ≤ m))
  ∧ (∀ (r n : Nat) (served : List (Nat × Nat)), (arbServed (r, n) served).lookup r = some n
      ∧ ∀ r' : Nat, r' ≠ r → (arbServed (r, n) served).lookup r' = served.lookup r')
  ∧ (∀ (w : Nat × Nat) (d : Device), d.cross.crypto.holder = none → (cryptoAsk w d).cross.crypto.holder = some w
      ∧ (cryptoAsk w d).cross.retry = d.cross.retry)
  ∧ (∀ (w h : Nat × Nat) (d : Device), d.cross.crypto.holder = some h → (cryptoAsk w d).cross.crypto.holder = some h
      ∧ (cryptoAsk w d).cross.crypto.waiting = d.cross.crypto.waiting ++ [w]
      ∧ (cryptoAsk w d).cross.retry.getD 15 0 = if 15 < d.cross.retry.length then (d.cross.retry.getD 15 0 + 1) % 2 ^ 16 else 0)
  ∧ (∀ (w : Nat × Nat) (d : Device), d.cross.crypto.holder = some w → (cryptoFree w d).cross.crypto.holder
      = arbNext d.cross.crypto.served (d.cross.crypto.waiting.filter fun e => e != w))
  ∧ (∀ (x : Island) (r n : Nat) (v : SettingWrite) (rest : List (Nat × Nat × SettingWrite)), x.link = 2 → x.credits ≠ 0 →
      x.writes = (r, n, v) :: rest → arbNext x.served (x.writes.map fun w => (w.1, w.2.1)) = some (r, n) →
      (∀ w ∈ rest, (w.1, w.2.1) ≠ (r, n)) →
      x.serve = { x.setting v with writes := rest, served := arbServed (r, n) x.served })
  ∧ (∀ x : Island, x.link ≠ 2 ∨ x.credits = 0 ∨ x.writes = [] → x.serve = x)

/-- R421 to R426: a pass of self-test and its slices. -/
def Obligations.SelfTestSlices : Prop :=
  (∀ s : State, s.dev.ctl.state.selfTests → s.dev.passDue → ∃ t, exec .bistPassStart s = .next t
        ∧ t.pending = s.pending ∧ t.otp = s.otp ∧ t.dev = { s.dev with bist := t.dev.bist }
        ∧ t.dev.bist.progress = 0 ∧ t.dev.bist.done = [] ∧ t.dev.bist.passStart = some s.dev.now
        ∧ (s.dev.bistReady → t.dev.bist.passState = 1 ∧ t.dev.bist.deferCount = s.dev.bist.deferCount)
        ∧ (s.dev.bistReady = false → t.dev.bist.passState = 3
          ∧ t.dev.bist.deferCount = addWrap 32 s.dev.bist.deferCount 1
          ∧ (t.dev.bist.deferCore ↔ s.dev.ctl.coreSupplyOk = false) ∧ (t.dev.bist.deferClock ↔ s.dev.clockGood = false)
          ∧ (t.dev.bist.deferLogic ↔ s.dev.logicGood = false)))
  ∧ (∀ s : State, s.dev.ctl.state.selfTests = false ∨ s.dev.passDue = false → exec .bistPassStart s = .next s)
  ∧ (∀ d : Device, (d.bistReady ↔ d.ctl.coreSupplyOk ∧ d.clockGood ∧ d.logicGood ∧ d.forcedAt 0x1003 = false)
      ∧ (d.passDue ↔ d.bist.passState = 0
          ∧ ∀ u : Nanos, d.bist.passStart = some u → u + ms (Cfg.bistPeriod d.cfg) ≤ d.now))
  ∧ (∀ (i : Fin 64) (l : Fin 96) (g : Fin 4) (m n : Nat) (c : Fin 512) (pass band : Bool) (s : State),
      s.dev.ctl.state.selfTests → s.dev.bist.passState ≠ 0 → s.dev.bistReady = false → s.dev.bist.done = [] →
      bistInPins.contains m → bistOutPins.contains n → s.dev.gateSkipped c = false → s.dev.gatePlaced c →
      let t := s.onDev bistDefer
      exec (.bistWarpSlice i pass) s = .next t ∧ exec (.bistFabricSlice l pass) s = .next t
        ∧ exec (.bistGuySlice g pass) s = .next t ∧ exec (.bistPinInSlice m pass) s = .next t
        ∧ exec (.bistPinOutSlice n pass) s = .next t ∧ exec (.bistGateSlice c band pass) s = .next t)
  ∧ (∀ s : State, s.dev.ctl.state.selfTests → s.dev.bist.passState ≠ 0 → s.dev.bistReady →
      (∀ i : Fin 64, s.dev.bist.done.contains (1, i.val) = false → ∃ t, exec (.bistWarpSlice i false) s = .next t
        ∧ t.pending = s.pending ∧ t.otp = s.otp ∧ t.dev.hasFault .bistWarp (.stage (stageOfIsland i)) 3)
      ∧ (∀ l : Fin 96, s.dev.bist.done.contains (2, l.val) = false → ∃ t, exec (.bistFabricSlice l false) s = .next t
        ∧ t.pending = s.pending ∧ t.otp = s.otp ∧ t.dev.hasFault .bistFabric .module 4)
      ∧ (∀ l : Fin 4, s.dev.bist.done.contains (3, l.val) = false → ∃ t, exec (.bistGuySlice l false) s = .next t
        ∧ t.pending = s.pending ∧ t.otp = s.otp ∧ t.dev.hasFault .bistGuy .bothPorts 3
        ∧ t.dev.bist.guyBar ∧ t.dev.pairOkOut = false ∧ (l.val = 3 → t.dev.safety.guySto))
      ∧ (∀ n : Nat, bistInPins.contains n → s.dev.bist.done.contains (4, n) = false →
        ∃ t, exec (.bistPinInSlice n false) s = .next t ∧ t.pending = s.pending ∧ t.otp = s.otp
          ∧ t.dev.hasFault .bistPin (.pin n) (if pinGroup n = none then 0 else 3))
      ∧ (∀ n : Nat, bistOutPins.contains n → s.dev.bist.done.contains (5, n) = false →
        ∃ t, exec (.bistPinOutSlice n false) s = .next t ∧ t.pending = s.pending ∧ t.otp = s.otp
          ∧ t.dev.hasFault .bistPin (.pin n) (if pinGroup n = none then 0 else 3))
      ∧ (∀ g : Fin 512, s.dev.bist.done.contains (6, g.val) = false → s.dev.gateSkipped g = false → s.dev.gatePlaced g →
        ∃ t, exec (.bistGateSlice g true false) s = .next t ∧ t.pending = s.pending ∧ t.otp = s.otp
          ∧ t.dev.hasFault .bistGate (.stage (stageOfChan g)) 3))
  ∧ (∀ s : State, s.dev.ctl.state.selfTests → s.dev.bist.passState ≠ 0 → s.dev.bistReady → s.dev.bist.failing = [] →
      s.dev.bist.progress + 1 < passTotal → s.dev.faults.active = [] → s.dev.injectedAt 0x1002 = [] →
      let done := fun (t : State) (e : Nat × Nat) => t.pending = s.pending ∧ t.otp = s.otp
        ∧ t.dev.bist.done = s.dev.bist.done ++ [e] ∧ t.dev.bist.progress = s.dev.bist.progress + 1 ∧ t.dev.bist.failing = []
        ∧ t.dev.faults.active = []
      (∀ i : Fin 64, s.dev.bist.done.contains (1, i.val) = false →
        ∃ t, exec (.bistWarpSlice i true) s = .next t ∧ done t (1, i.val))
      ∧ (∀ l : Fin 96, s.dev.bist.done.contains (2, l.val) = false →
        ∃ t, exec (.bistFabricSlice l true) s = .next t ∧ done t (2, l.val))
      ∧ (∀ l : Fin 4, s.dev.bist.done.contains (3, l.val) = false →
        ∃ t, exec (.bistGuySlice l true) s = .next t ∧ done t (3, l.val))
      ∧ (∀ n : Nat, bistInPins.contains n → s.dev.bist.done.contains (4, n) = false →
        ∃ t, exec (.bistPinInSlice n true) s = .next t ∧ done t (4, n))
      ∧ (∀ n : Nat, bistOutPins.contains n → s.dev.bist.done.contains (5, n) = false →
        ∃ t, exec (.bistPinOutSlice n true) s = .next t ∧ done t (5, n))
      ∧ (∀ g : Fin 512, s.dev.bist.done.contains (6, g.val) = false → s.dev.gateSkipped g = false → s.dev.gatePlaced g →
        ∃ t, exec (.bistGateSlice g true true) s = .next t ∧ done t (6, g.val)))
  ∧ (∀ (g : Fin 512) (band pass : Bool) (s : State), s.dev.gateSkipped g = false → s.dev.gatePlaced g = false →
      exec (.bistGateSlice g band pass) s = .next s)
  ∧ (∀ (g : Fin 512) (band pass : Bool) (s : State), s.dev.gateSkipped g → s.dev.ctl.state.selfTests →
      s.dev.bist.passState ≠ 0 → s.dev.bistReady → s.dev.bist.done.contains (6, g.val) = false →
      s.dev.bist.progress + 1 < passTotal → ∃ t, exec (.bistGateSlice g band pass) s = .next t
        ∧ t.pending = s.pending ∧ t.otp = s.otp ∧ t.dev = { s.dev with bist := t.dev.bist }
        ∧ t.dev.bist.skipCount = addWrap 32 s.dev.bist.skipCount 1
        ∧ t.dev.bist.done = s.dev.bist.done ++ [(6, g.val)] ∧ t.dev.bist.progress = s.dev.bist.progress + 1)
  ∧ (∀ (t k : Nat) (pass : Bool) (scope : Nat → Scope) (onFail onClear : Device → Device) (d : Device),
      injPicks (d.injected 0x1002 k) t → bistVerdict t k pass scope onFail onClear d = onFail (bistFailed t k d))
  ∧ (∀ (i : Fin 64) (l : Fin 96) (g : Fin 4) (m n : Nat) (c : Fin 512) (pass band : Bool) (s : State),
      s.dev.ctl.state.selfTests = false ∨ s.dev.bist.passState = 0 → exec (.bistWarpSlice i pass) s = .next s
        ∧ exec (.bistFabricSlice l pass) s = .next s ∧ exec (.bistGuySlice g pass) s = .next s
        ∧ exec (.bistPinInSlice m pass) s = .next s ∧ exec (.bistPinOutSlice n pass) s = .next s
        ∧ exec (.bistGateSlice c band pass) s = .next s)
  ∧ (∀ s : State, (s.dev.bist.passState ≠ 0 → lasted s.dev.now s.dev.bist.passStart (sec 2) → exec .bistPassOverdue s =
        .next (s.onDev fun d => d.onBist fun x => { x with passState := 2 }))
      ∧ (s.dev.bist.passState = 0 ∨ lasted s.dev.now s.dev.bist.passStart (sec 2) = false →
        exec .bistPassOverdue s = .next s))
  ∧ (∀ s : State, s.dev.bist.passState = 2 → lasted s.dev.now s.dev.bist.passStart (sec 12) → ∃ t,
      exec .bistOverdue s = .next t ∧ t.pending = s.pending ∧ t.otp = s.otp ∧ t.dev.hasFault .bistOverdue .module 2)
  ∧ (∀ s : State, s.dev.bist.passState ≠ 2 ∨ lasted s.dev.now s.dev.bist.passStart (sec 12) = false →
      exec .bistOverdue s = .next s)
/-! ## Start-up and firmware (chapter 17) -/

/-- R433 to R439, R444 to R446, R450, R452: a start and what it loads. -/
def Obligations.StartUp : Prop :=
  (∀ (factory : Bool) (s : State), s.dev.starting → s.dev.boot.otpDone = false →
      (factory && s.otp.fusesOk && s.otp.keysOk → exec (.otpReadDone factory) s = .next (s.onDev fun d =>
        { d with ctl := { d.ctl with coreSupplyOk := true }, boot := { d.boot with otpDone := true } }))
      ∧ ((factory && s.otp.fusesOk && s.otp.keysOk) = false → ∃ t, exec (.otpReadDone factory) s = .next t
        ∧ t.pending = s.pending ∧ t.otp = s.otp ∧ t.dev.ctl.state = .fault ∧ t.dev.boot.otpDone = false))
  ∧ (∀ (factory : Bool) (s : State), s.dev.starting = false ∨ s.dev.boot.otpDone → exec (.otpReadDone factory) s = .next s)
  ∧ (∀ o : Otp, (o.fusesOk ↔ o.fusesLegal) ∧ (o.keysOk ↔ o.keysLegal))
  ∧ (∀ s : State, s.dev.starting → s.dev.boot.synthLocked = false → exec .synthLocked s = .next (s.onDev fun d =>
      { d with boot := { d.boot with synthLocked := true }, bist := { d.bist with synthOk := true }
               gates := { d.gates with islands := d.gates.islands.map Island.train } }))
  ∧ (∀ s : State, s.dev.starting = false ∨ s.dev.boot.synthLocked → exec .synthLocked s = .next s)
  ∧ (∀ s : State, s.dev.starting → s.dev.safety.sc = .start → s.dev.boot.synthLocked → s.dev.untrained = 0 →
      exec (.scStartupTestDone true) s = .next (s.onDev fun d => { d with
        boot := { d.boot with scPassed := true, untrained := 0 }, safety := { d.safety with sc := .uncommissioned } }))
  ∧ (∀ (good : Bool) (s : State), s.dev.starting → s.dev.safety.sc = .start → s.dev.testTime →
      good = false ∨ s.dev.untrained ≠ 0 → ∃ t, exec (.scStartupTestDone good) s = .next t
        ∧ t.pending = s.pending ∧ t.otp = s.otp ∧ t.dev.ctl.state = .fault ∧ t.dev.boot.untrained = s.dev.untrained)
  ∧ (∀ (good : Bool) (s : State), s.dev.starting = false ∨ s.dev.safety.sc ≠ .start ∨ s.dev.testTime = false →
      exec (.scStartupTestDone good) s = .next s)
  ∧ (∀ s : State, s.dev.starting → s.dev.boot.otpDone → s.dev.boot.bankRuns = false →
      let r : BankRecord := if s.dev.fw.rec0.seq ≤ s.dev.fw.rec1.seq then s.dev.fw.rec1 else s.dev.fw.rec0
      (∀ b : Bool, r.next = some b → r.started = false → bankGood s.otp (s.dev.fw.bank b) → ∃ t, exec .fwBankSelect s = .next t
        ∧ t.pending = s.pending ∧ t.otp = s.otp ∧ t.dev.ctl = s.dev.ctl ∧ t.dev.boot.bankRuns ∧ t.dev.boot.trialRun
        ∧ t.dev.fw.running = b ∧ t.dev.fw.trial ∧ t.dev.fw.active = r.active ∧ t.dev.fw.next = some b ∧ t.dev.fw.trialStarted)
      ∧ (r.next = none → bankGood s.otp (s.dev.fw.bank r.active) → ∃ t, exec .fwBankSelect s = .next t
        ∧ t.pending = s.pending ∧ t.otp = s.otp ∧ t.dev.ctl = s.dev.ctl ∧ t.dev.boot.bankRuns
        ∧ t.dev.fw.running = r.active ∧ t.dev.fw.active = r.active ∧ t.dev.boot.bankFallback = s.dev.boot.bankFallback
        ∧ t.dev.fw.rec0 = s.dev.fw.rec0 ∧ t.dev.fw.rec1 = s.dev.fw.rec1)
      ∧ (r.next = none → bankGood s.otp (s.dev.fw.bank r.active) = false → bankGood s.otp (s.dev.fw.bank !r.active) →
        ∃ t, exec .fwBankSelect s = .next t ∧ t.pending = s.pending ∧ t.otp = s.otp ∧ t.dev.boot.bankRuns
        ∧ t.dev.fw.running = (!r.active) ∧ t.dev.fw.active = (!r.active) ∧ t.dev.boot.bankFallback)
      ∧ (∀ b : Bool, r.next = some b → r.started ∨ bankGood s.otp (s.dev.fw.bank b) = false →
        bankGood s.otp (s.dev.fw.bank r.active) → ∃ t, exec .fwBankSelect s = .next t
        ∧ t.pending = s.pending ∧ t.otp = s.otp ∧ t.dev.boot.bankRuns ∧ t.dev.fw.running = r.active
        ∧ t.dev.fw.next = none ∧ t.dev.fw.trialStarted = false ∧ t.dev.boot.trialFail)
      ∧ ((∀ b : Bool, bankGood s.otp (s.dev.fw.bank b) = false) → ∃ t, exec .fwBankSelect s = .next t
        ∧ t.pending = s.pending ∧ t.otp = s.otp ∧ t.dev.ctl.state = .fault ∧ t.dev.boot.noBank))
  ∧ (∀ s : State, s.dev.starting = false ∨ s.dev.boot.otpDone = false ∨ s.dev.boot.bankRuns → exec .fwBankSelect s = .next s)
  ∧ (∀ (same : Bool) (s : State), s.dev.ctl.state = .boot → s.dev.boot.fwStarted = false → s.dev.boot.scPassed →
      s.dev.boot.bankRuns → s.dev.flash.dieMap = [] → ∃ t, exec (.fwStart same) s = .next t ∧ t.pending = s.pending
        ∧ t.otp = s.otp ∧ t.dev.ctl.state = .calibrating ∧ t.dev.boot.fwStarted
        ∧ t.dev.boot.idStatus = (if same then 1 else 2) ∧ t.dev.boot.idFail = !same
        ∧ (s.otp.inForce = none → t.dev.boot.noRecord ∧ t.dev.comm.generation = s.dev.comm.generation)
        ∧ (∀ g r, s.otp.inForce = some (g, r) → t.dev.comm.generation = g ∧ t.dev.comm.check = r.check
          ∧ t.dev.safety.image = r.image))
  ∧ (∀ (same : Bool) (s : State), s.dev.starting = false ∨ s.dev.boot.scPassed = false ∨ s.dev.boot.bankRuns = false →
      exec (.fwStart same) s = .next s)
  ∧ (∀ (o : Otp) (g : Nat) (r : OtpRecord), o.inForce = some (g, r) → 1 ≤ g ∧ g ≤ 8 ∧ o.records.getD (g - 1) {} = r ∧ r.valid
      ∧ ∀ k : Nat, g ≤ k → k < 8 → (o.records.getD k {}).valid = false)
  ∧ (∀ s : State, Cfg.autoReady s.dev.cfg → s.dev.ctl.state = .standby → s.dev.ctl.firstStandbyDone = false → s.dev.readyOk →
      s.dev.meas.calState ≠ 1 → ∃ t, exec .autoReady s = .next t ∧ t.pending = s.pending ∧ t.otp = s.otp
        ∧ t.dev.ctl = { s.dev.ctl with state := .ready, firstStandbyDone := true })
  ∧ (∀ s : State, s.dev.ctl.state ≠ .standby ∨ s.dev.ctl.firstStandbyDone ∨ Cfg.autoReady s.dev.cfg = false →
      exec .autoReady s = .next s)
  ∧ (∀ (factory record : Bool) (s : State), s.dev.ctl.state ≠ .off → s.dev.ctl.state ≠ .boot →
      (factory && s.otp.fusesOk && s.otp.keysOk && (record || s.dev.comm.generation == 0) → s.dev.forcedAt 0x1101 = false →
        exec (.otpIntegrityCheck factory record) s = .next s)
      ∧ ((factory && s.otp.fusesOk && s.otp.keysOk && (record || s.dev.comm.generation == 0)) = false ∨ s.dev.forcedAt 0x1101 →
        ∃ t, exec (.otpIntegrityCheck factory record) s = .next t ∧ t.pending = s.pending ∧ t.otp = s.otp
          ∧ t.dev.hasFault .otpIntegrity .module 4))
  ∧ (∀ (factory record : Bool) (s : State), s.dev.ctl.state = .off ∨ s.dev.ctl.state = .boot →
      exec (.otpIntegrityCheck factory record) s = .next s)

/-- R446, R447, R449, R451, R453: firmware update, anti-rollback and attestation. -/
def Obligations.FirmwareUpdate : Prop :=
  (∀ (q : Path) (s : State), s.dev.takes q .v false → s.dev.ctl.state = .standby →
      exec (.fwCmdOpen q) s = .next (s.onDev fun d => answer q Abort.ok []
        ((cryptoFree (3, 0) (touchPath q d)).onFw fun x => { x with state := .erasing, result := 0, written := [], buffer := [] }))
      ∧ exec (.fwCmdAbandon q) s = .next (s.onDev fun d => answer q Abort.ok []
        ((cryptoFree (3, 0) (touchPath q d)).onFw fun x =>
          let y : Firmware := { x with state := .idle, next := none, buffer := [] }
          if x.next.isSome then y.saveRecord else y))
      ∧ (s.dev.fw.state = .receiving → exec (.fwCmdVerify q) s = .next (s.onDev fun d => answer q Abort.ok []
        (if s.dev.fw.complete then cryptoAsk (3, 0) ((touchPath q d).onFw fun x => { x with state := .verifying })
          else (touchPath q d).onFw fun x => { x with state := .failed, result := 9 })))
      ∧ (s.dev.fw.state ≠ .receiving → exec (.fwCmdVerify q) s =
        .next (s.onDev fun d => answer q Abort.state [] (touchPath q d)))
      ∧ (s.dev.fw.state = .verified → exec (.fwCmdSelect q) s = .next (s.onDev fun d => answer q Abort.ok []
        ((touchPath q d).onFw fun x =>
          ({ x with state := .selected, next := some !x.active, trialStarted := false } : Firmware).saveRecord)))
      ∧ (s.dev.fw.state ≠ .verified → exec (.fwCmdSelect q) s =
        .next (s.onDev fun d => answer q Abort.state [] (touchPath q d))))
  ∧ (∀ (q : Path) (steps : Nat) (burned : Bool) (s : State), s.dev.takes q .v false → s.dev.ctl.state ≠ .standby →
      let t := s.onDev fun d => answer q Abort.state [] (touchPath q d)
      exec (.fwCmdOpen q) s = .next t ∧ exec (.fwCmdVerify q) s = .next t ∧ exec (.fwCmdSelect q) s = .next t
        ∧ exec (.fwCmdAbandon q) s = .next t ∧ exec (.fwCmdAccept q steps burned) s = .next t)
  ∧ (∀ (q : Path) (steps : Nat) (s : State), s.dev.takes q .v false → s.dev.ctl.state = .standby →
      let x := s.dev.fw.bank s.dev.fw.running
      s.otp.fusesOk → s.otp.keysOk → x.secVer ≤ 128 → x.secVer - s.otp.arCount ≤ steps → exec (.fwCmdAccept q steps true) s =
        .next { s with
          otp := Otp.revokeKey x (s.otp.burnFuses (s.otp.arCount + (x.secVer - s.otp.arCount)))
          dev := answer q Abort.ok [] ((touchPath q s.dev).onFw fun y => { y with trial := false, result := 0 }) })
  ∧ (∀ (q : Path) (steps : Nat) (burned : Bool) (s : State), s.dev.takes q .v false → s.dev.ctl.state = .standby →
      let x := s.dev.fw.bank s.dev.fw.running
      s.otp.fusesOk → s.otp.keysOk → x.secVer ≤ 128 → steps < x.secVer - s.otp.arCount → ∃ t, exec (.fwCmdAccept q steps burned) s = .next t
        ∧ t.pending = s.pending ∧ t.otp = s.otp.burnFuses (s.otp.arCount + steps) ∧ t.dev.fw.trial = s.dev.fw.trial
        ∧ (burned = false → t.dev.fw.result = 10))
  ∧ (∀ (q : Path) (steps : Nat) (burned : Bool) (s : State), s.dev.takes q .v false → s.dev.ctl.state = .standby →
      s.otp.fusesOk = false ∨ s.otp.keysOk = false → exec (.fwCmdAccept q steps burned) s = .next (s.onDev fun d =>
        answer q Abort.state [] (raise .otpIntegrity .module 4 (touchPath q d))))
  ∧ (∀ x : Firmware, max x.rec0.seq x.rec1.seq + 1 < 2 ^ 32 → x.saveRecord.loadRecord.active = x.active
      ∧ x.saveRecord.loadRecord.next = x.next ∧ x.saveRecord.loadRecord.trialStarted = x.trialStarted)
  ∧ (∀ (o : Otp) (n k : Nat), k < 128 →
      (o.burnFuses n).fuses.getLsbD k = (o.fuses.getLsbD k || decide (k < n)))
  ∧ (∀ (o : Otp) (n : Nat), o.fusesLegal → o.arCount ≤ n → n ≤ 128 → (o.burnFuses n).arCount = n)
  ∧ (∀ s : State, (s.dev.fw.state = .erasing → exec .fwEraseDone s = .next (s.onDev fun d => d.onFw fun x =>
        { (x.onOther fun _ => { factory := false }) with state := .receiving }))
      ∧ (s.dev.fw.state ≠ .erasing → exec .fwEraseDone s = .next s))
  ∧ (∀ (x : Firmware) (f : Bank → Bank), (x.onOther f).bank x.active = x.bank x.active
      ∧ (x.onOther f).bank (!x.active) = f (x.bank !x.active))
  ∧ (∀ (q : Path) (l : List Byte) (s : State), s.dev.takes q .v false → l.length = 1024 →
      let off := (touchPath q s.dev).current 0x901002 0
      (s.dev.ctl.state = .standby → s.dev.fw.state = .receiving → off % 1024 = 0 → off < 8388608 →
        s.dev.fw.written.contains (off / 1024) = false → s.dev.fw.buffer.length < 16 → exec (.fwChunk q l) s =
          .next (s.onDev fun d => answer q Abort.ok [] (pushLive 0x901002 (off + 1024) ((touchPath q d).onFw fun x =>
            { x with buffer := x.buffer ++ [(off / 1024, l)], written := x.written ++ [off / 1024] }))))
      ∧ (s.dev.ctl.state ≠ .standby ∨ s.dev.fw.state ≠ .receiving →
        exec (.fwChunk q l) s = .next (s.onDev fun d => answer q Abort.state [] (touchPath q d)))
      ∧ (s.dev.ctl.state = .standby → s.dev.fw.state = .receiving → off % 1024 ≠ 0 ∨ 8388608 ≤ off →
        exec (.fwChunk q l) s = .next (s.onDev fun d => answer q Abort.range [] (touchPath q d)))
      ∧ (s.dev.ctl.state = .standby → s.dev.fw.state = .receiving → off % 1024 = 0 → off < 8388608 →
        s.dev.fw.written.contains (off / 1024) = false → 16 ≤ s.dev.fw.buffer.length →
        exec (.fwChunk q l) s = .next (s.onDev fun d => answer q Abort.busy [] (touchPath q d))))
  ∧ (∀ d : Device, (d.fw.buffer = [] → fwBeat d = d) ∧ (fwBeat d).fw.written = d.fw.written
      ∧ (fwBeat d).fw.flushed = d.fw.flushed ∧ (fwBeat d).fw.bank d.fw.active = d.fw.bank d.fw.active)
  ∧ (∀ s : State, s.dev.fw.state = .verifying → s.dev.fw.buffer = [] → s.dev.cross.crypto.holder = some (3, 0) →
      let r := s.dev.fw.other.result s.otp
      exec .fwVerifyDone s = .next (s.onDev fun d => (cryptoFree (3, 0) d).onFw fun x =>
        { x with state := if r = 0 then .verified else .failed, result := r }))
  ∧ (∀ s : State, s.dev.fw.state ≠ .verifying ∨ s.dev.fw.buffer ≠ [] ∨ s.dev.cross.crypto.holder ≠ some (3, 0) →
      exec .fwVerifyDone s = .next s)
  ∧ (∀ (o : Otp) (x : Bank), x.secVer < o.arCount ∨ o.fwRevoked.getLsbD x.keyId = true → bankGood o x = false)
  ∧ (∀ (o : Otp) (x : Bank), x.factory = false → x.field 8 4 ≠ 0x1560 ∨ 1 < x.keyId
      ∨ Config.shake256 (x.bytes 256 x.bodyLen) 512 ≠ x.bytes 32 64
      ∨ Config.slhVerify (Config.firmwareKey x.keyId) (signedWith fwContext (x.bytes 0 256))
          (x.bytes (256 + x.bodyLen) 29792) = false → bankGood o x = false)
  ∧ (∀ (q : Path) (l : List Byte) (s : State), s.dev.takes q .b false → l.length = 32 → s.dev.boot.idStatus = 1 →
      s.dev.boot.attest ≠ 1 → ∃ t, exec (.attestNonce q l) s = .next t ∧ t.pending = s.pending ∧ t.otp = s.otp
        ∧ t.dev.boot.attest = 1 ∧ t.dev.boot.nonce = l
        ∧ t.dev.boot.latched = ({ s with dev := touchPath q s.dev } : State).quoteFields l
        ∧ (s.dev.cross.crypto.holder = none → t.dev.cross.crypto.holder = some (2, 0)))
  ∧ (∀ (q : Path) (l : List Byte) (s : State), s.dev.takes q .b false → l.length = 32 →
      (s.dev.boot.idStatus ≠ 1 → exec (.attestNonce q l) s = .next (s.onDev fun d => answer q Abort.state [] (touchPath q d)))
      ∧ (s.dev.boot.idStatus = 1 → s.dev.boot.attest = 1 →
        exec (.attestNonce q l) s = .next (s.onDev fun d => answer q Abort.busy [] (touchPath q d))))
  ∧ (∀ (s : State) (l : List Byte), l.length = 32 → (s.quoteFields l).length = 176)
  ∧ (∀ s : State, s.dev.boot.attest = 1 → s.dev.boot.latched.length = 176 → ∃ t, exec .attestQuoteReady s = .next t
      ∧ t.pending = s.pending ∧ t.otp = s.otp ∧ t.dev.boot.attest = 2 ∧ t.dev.boot.quote.length = 17264
      ∧ t.dev.boot.quote.take 176 = s.dev.boot.latched)
  ∧ (∀ s : State, s.dev.boot.attest ≠ 1 → exec .attestQuoteReady s = .next s)

/-! ## The whole machine -/

/-- With no command waiting the block idles; what reset leaves (the model's choice for what the spec gives no reset value
of: log entries 1 and 2). -/
def Obligations.IdleAndReset : Prop :=
  (∀ s : State, s.pending = [] → step s = .next s)
  ∧ State.reset.pending = [] ∧ State.reset.otp.Legal ∧ State.reset.dev.ctl.state = .boot ∧ State.reset.dev.ctl.now = 0 ∧ State.reset.dev.portsOff = true
  ∧ State.reset.dev.od.inForce = [] ∧ State.reset.dev.faults.active = []
  ∧ State.reset.dev.fw.bank0.factory ∧ State.reset.dev.fw.bank1.factory ∧ State.reset.otp.inForce = none

/-- R20, R385, R386, R388, R450: a request that is turned away is answered with its abort code and changes nothing else; in
OFF nothing answers. -/
def Obligations.RefusedRequests : Prop :=
  ∀ (c : Instr) (q : Path) (lvl : ObjLevel) (inFault : Bool) (s : State), s.asks c = some (q, lvl, inFault) →
    (s.dev.ctl.state = .off → exec c s = .next s)
    ∧ ∀ e : W32, s.dev.ctl.state ≠ .off → s.dev.turnedAway q lvl inFault = some e →
      exec c s = .next (s.onDev fun d => answer q e [] (touchPath q d))

/-- R24, R25: a report of a fault that is active with at least that reaction and acts on all it would act on changes
nothing; a report ends no other fault but that of proof-test mode; F4 takes an operating module to SAFE, F2 at module scope
takes RUN to STOPPING. R24, R25: a report of a detector, and the F2 stop that has overrun its time. -/
def Obligations.FaultReactions : Prop :=
  (∀ (f : FaultName) (sc : Scope) (r : Fin 5) (e : FaultEntry) (s : State), s.dev.ctl.state ≠ .off →
      s.dev.entry? f sc = some e → r.val ≤ e.reaction → e.acts.contains (sc, r.val) → s.dev.inj.active = [] →
      exec (.faultReport f sc r) s = .next s)
  ∧ (∀ (f : FaultName) (sc : Scope) (r : Fin 5) (s : State), s.dev.ctl.state ≠ .off → f ≠ .proofTest →
      ∃ t, exec (.faultReport f sc r) s = .next t ∧ t.pending = s.pending ∧ t.otp = s.otp ∧ t.dev.hasFault f sc r
        ∧ ∀ e ∈ s.dev.faults.active, e.name ≠ .proofTest → (e.name ≠ f ∨ e.scope ≠ sc) → e ∈ t.dev.faults.active)
  ∧ (∀ (f : FaultName) (s : State), s.dev.ctl.state ≠ .off → s.dev.ctl.state ≠ .fault → s.dev.entry? f .module = none →
      ∃ t, exec (.faultReport f .module 4) s = .next t ∧ t.pending = s.pending ∧ t.otp = s.otp ∧ t.dev.ctl.state = .safe)
  ∧ (∀ (f : FaultName) (s : State), s.dev.ctl.state = .run → s.dev.entry? f .module = none →
      ∃ t, exec (.faultReport f .module 2) s = .next t ∧ t.pending = s.pending ∧ t.otp = s.otp ∧ t.dev.ctl.state = .stopping)
  ∧ (∀ (f : FaultName) (sc : Scope) (r : Fin 5) (s : State), s.dev.ctl.state ≠ .off →
      exec (.faultReport f sc r) s = .next (s.onDev (raise f sc r)))
  ∧ (∀ (f : FaultName) (s : State), s.dev.ctl.state ≠ .off → s.dev.entry? f (.stage .conv) = none → ∃ t, exec (.faultReport f (.stage .conv) 2) s = .next t ∧ t.pending = s.pending ∧ t.otp = s.otp
        ∧ t.dev.ctl = s.dev.ctl ∧ (t.dev.stage .conv).ramping = (s.dev.stage .conv).running)
  ∧ (∀ (p : PortId) (s : State), (s.dev.port p).state = .stopping → s.dev.f2TimeOver p →
      exec (.f2Escalation p) s = .next (s.onDev fun d =>
        d.each (d.faults.active.filter fun e =>
            e.acts.any (fun a => a.1.touches p.stage && a.2 == 2) && !e.acts.contains (.port p, 3)) fun e =>
          raiseActs e.name e.scope (max 3 e.reaction) (e.acts ++ [(.port p, 3)])))
  ∧ (∀ (p : PortId) (s : State), (s.dev.port p).state ≠ .stopping ∨ s.dev.f2TimeOver p = false →
      exec (.f2Escalation p) s = .next s)

/-- Every command answers a next state and leaves the queue alone, and the OTP store changes only by LOGIC_IN_LOSS,
COMM_BURN_DONE, FW_CMD 0x04, KEY_PROVISION and KEY_REVOKE, under their own rows or as a write of their objects (R443, R444, R446,
R390). -/
def Obligations.CommandsComplete : Prop :=
  ∀ (c : Instr) (s : State), ∃ t : State, exec c s = .next t ∧ t.pending = s.pending
    ∧ ((c ≠ .logicInLoss ∧ (∀ good : Bool, c ≠ .commBurnDone good) ∧ (∀ q n b, c ≠ .fwCmdAccept q n b)
        ∧ (∀ q l, c ≠ .keyProvision q l) ∧ (∀ q k, c ≠ .keyRevoke q k) ∧ (∀ q ix sub l, c ≠ .stagedWrite q ix sub l)
        ∧ (∀ q ix sub l, c ≠ .liveWrite q ix sub l) ∧ (∀ b n r, c ≠ .usdoRequest b n r) ∧ (∀ j l, c ≠ .rpdoRx j l)
        ∧ (∀ h ip port b, c ≠ .hkWrite h ip port b)) → t.otp = s.otp)

/-- R443: no step takes back a bit of the OTP store. -/
def Obligations.OtpGrows : Prop := ∀ s t : State, step s = .next t → s.otp.Grows t.otp

/-- R443 to R447: every step keeps the store as the rules allow it. -/
def Obligations.OtpLegalKept : Prop := ∀ s t : State, s.otp.Legal → step s = .next t → t.otp.Legal
end

