-- ==== Sys2Proof/Laws/State.lean ====
section
/-!
SUPPORT. What each update of the state leaves alone: one lemma per update and field.
-/

namespace Sys2Proof.Machine

@[simp] theorem Device.onPort_ctl (p : PortId) (f : Port → Port) (d : Device) : (d.onPort p f).ctl = d.ctl := by cases p <;> rfl
@[simp] theorem Device.onPort_faults (p : PortId) (f : Port → Port) (d : Device) : (d.onPort p f).faults = d.faults := by cases p <;> rfl
@[simp] theorem Device.onPort_gates (p : PortId) (f : Port → Port) (d : Device) : (d.onPort p f).gates = d.gates := by cases p <;> rfl
@[simp] theorem Device.onPort_fin (p : PortId) (f : Port → Port) (d : Device) : (d.onPort p f).fin = d.fin := by cases p <;> rfl
@[simp] theorem Device.onPort_wheels (p : PortId) (f : Port → Port) (d : Device) : (d.onPort p f).wheels = d.wheels := by cases p <;> rfl
@[simp] theorem Device.onPort_meas (p : PortId) (f : Port → Port) (d : Device) : (d.onPort p f).meas = d.meas := by cases p <;> rfl
@[simp] theorem Device.onPort_slots (p : PortId) (f : Port → Port) (d : Device) : (d.onPort p f).slots = d.slots := by cases p <;> rfl
@[simp] theorem Device.onPort_supply (p : PortId) (f : Port → Port) (d : Device) : (d.onPort p f).supply = d.supply := by cases p <;> rfl
@[simp] theorem Device.onPort_chg (p : PortId) (f : Port → Port) (d : Device) : (d.onPort p f).chg = d.chg := by cases p <;> rfl
@[simp] theorem Device.onPort_bchg (p : PortId) (f : Port → Port) (d : Device) : (d.onPort p f).bchg = d.bchg := by cases p <;> rfl
@[simp] theorem Device.onPort_lamps (p : PortId) (f : Port → Port) (d : Device) : (d.onPort p f).lamps = d.lamps := by cases p <;> rfl
@[simp] theorem Device.onPort_acts (p : PortId) (f : Port → Port) (d : Device) : (d.onPort p f).acts = d.acts := by cases p <;> rfl
@[simp] theorem Device.onPort_therm (p : PortId) (f : Port → Port) (d : Device) : (d.onPort p f).therm = d.therm := by cases p <;> rfl
@[simp] theorem Device.onPort_safety (p : PortId) (f : Port → Port) (d : Device) : (d.onPort p f).safety = d.safety := by cases p <;> rfl
@[simp] theorem Device.onPort_dorid (p : PortId) (f : Port → Port) (d : Device) : (d.onPort p f).dorid = d.dorid := by cases p <;> rfl
@[simp] theorem Device.onPort_comm (p : PortId) (f : Port → Port) (d : Device) : (d.onPort p f).comm = d.comm := by cases p <;> rfl
@[simp] theorem Device.onPort_net (p : PortId) (f : Port → Port) (d : Device) : (d.onPort p f).net = d.net := by cases p <;> rfl
@[simp] theorem Device.onPort_od (p : PortId) (f : Port → Port) (d : Device) : (d.onPort p f).od = d.od := by cases p <;> rfl
@[simp] theorem Device.onPort_cross (p : PortId) (f : Port → Port) (d : Device) : (d.onPort p f).cross = d.cross := by cases p <;> rfl
@[simp] theorem Device.onPort_bist (p : PortId) (f : Port → Port) (d : Device) : (d.onPort p f).bist = d.bist := by cases p <;> rfl
@[simp] theorem Device.onPort_inj (p : PortId) (f : Port → Port) (d : Device) : (d.onPort p f).inj = d.inj := by cases p <;> rfl
@[simp] theorem Device.onPort_boot (p : PortId) (f : Port → Port) (d : Device) : (d.onPort p f).boot = d.boot := by cases p <;> rfl
@[simp] theorem Device.onPort_fw (p : PortId) (f : Port → Port) (d : Device) : (d.onPort p f).fw = d.fw := by cases p <;> rfl
@[simp] theorem Device.onPort_flash (p : PortId) (f : Port → Port) (d : Device) : (d.onPort p f).flash = d.flash := by cases p <;> rfl
@[simp] theorem Device.onPort_watch (p : PortId) (f : Port → Port) (d : Device) : (d.onPort p f).watch = d.watch := by cases p <;> rfl
@[simp] theorem Device.onPort_fresh (p : PortId) (f : Port → Port) (d : Device) : (d.onPort p f).fresh = d.fresh := by cases p <;> rfl

@[simp] theorem Device.onEng_ctl (p : PortId) (f : Engine → Engine) (d : Device) : (d.onEng p f).ctl = d.ctl := by cases p <;> rfl
@[simp] theorem Device.onEng_faults (p : PortId) (f : Engine → Engine) (d : Device) : (d.onEng p f).faults = d.faults := by cases p <;> rfl
@[simp] theorem Device.onEng_gates (p : PortId) (f : Engine → Engine) (d : Device) : (d.onEng p f).gates = d.gates := by cases p <;> rfl
@[simp] theorem Device.onEng_fin (p : PortId) (f : Engine → Engine) (d : Device) : (d.onEng p f).fin = d.fin := by cases p <;> rfl
@[simp] theorem Device.onEng_wheels (p : PortId) (f : Engine → Engine) (d : Device) : (d.onEng p f).wheels = d.wheels := by cases p <;> rfl
@[simp] theorem Device.onEng_meas (p : PortId) (f : Engine → Engine) (d : Device) : (d.onEng p f).meas = d.meas := by cases p <;> rfl
@[simp] theorem Device.onEng_slots (p : PortId) (f : Engine → Engine) (d : Device) : (d.onEng p f).slots = d.slots := by cases p <;> rfl
@[simp] theorem Device.onEng_supply (p : PortId) (f : Engine → Engine) (d : Device) : (d.onEng p f).supply = d.supply := by cases p <;> rfl
@[simp] theorem Device.onEng_chg (p : PortId) (f : Engine → Engine) (d : Device) : (d.onEng p f).chg = d.chg := by cases p <;> rfl
@[simp] theorem Device.onEng_bchg (p : PortId) (f : Engine → Engine) (d : Device) : (d.onEng p f).bchg = d.bchg := by cases p <;> rfl
@[simp] theorem Device.onEng_lamps (p : PortId) (f : Engine → Engine) (d : Device) : (d.onEng p f).lamps = d.lamps := by cases p <;> rfl
@[simp] theorem Device.onEng_acts (p : PortId) (f : Engine → Engine) (d : Device) : (d.onEng p f).acts = d.acts := by cases p <;> rfl
@[simp] theorem Device.onEng_therm (p : PortId) (f : Engine → Engine) (d : Device) : (d.onEng p f).therm = d.therm := by cases p <;> rfl
@[simp] theorem Device.onEng_safety (p : PortId) (f : Engine → Engine) (d : Device) : (d.onEng p f).safety = d.safety := by cases p <;> rfl
@[simp] theorem Device.onEng_dorid (p : PortId) (f : Engine → Engine) (d : Device) : (d.onEng p f).dorid = d.dorid := by cases p <;> rfl
@[simp] theorem Device.onEng_comm (p : PortId) (f : Engine → Engine) (d : Device) : (d.onEng p f).comm = d.comm := by cases p <;> rfl
@[simp] theorem Device.onEng_net (p : PortId) (f : Engine → Engine) (d : Device) : (d.onEng p f).net = d.net := by cases p <;> rfl
@[simp] theorem Device.onEng_od (p : PortId) (f : Engine → Engine) (d : Device) : (d.onEng p f).od = d.od := by cases p <;> rfl
@[simp] theorem Device.onEng_cross (p : PortId) (f : Engine → Engine) (d : Device) : (d.onEng p f).cross = d.cross := by cases p <;> rfl
@[simp] theorem Device.onEng_bist (p : PortId) (f : Engine → Engine) (d : Device) : (d.onEng p f).bist = d.bist := by cases p <;> rfl
@[simp] theorem Device.onEng_inj (p : PortId) (f : Engine → Engine) (d : Device) : (d.onEng p f).inj = d.inj := by cases p <;> rfl
@[simp] theorem Device.onEng_boot (p : PortId) (f : Engine → Engine) (d : Device) : (d.onEng p f).boot = d.boot := by cases p <;> rfl
@[simp] theorem Device.onEng_fw (p : PortId) (f : Engine → Engine) (d : Device) : (d.onEng p f).fw = d.fw := by cases p <;> rfl
@[simp] theorem Device.onEng_flash (p : PortId) (f : Engine → Engine) (d : Device) : (d.onEng p f).flash = d.flash := by cases p <;> rfl
@[simp] theorem Device.onEng_watch (p : PortId) (f : Engine → Engine) (d : Device) : (d.onEng p f).watch = d.watch := by cases p <;> rfl
@[simp] theorem Device.onEng_fresh (p : PortId) (f : Engine → Engine) (d : Device) : (d.onEng p f).fresh = d.fresh := by cases p <;> rfl

@[simp] theorem Device.onIsland_ctl (n : Nat) (f : Island → Island) (d : Device) : (d.onIsland n f).ctl = d.ctl := rfl
@[simp] theorem Device.onIsland_faults (n : Nat) (f : Island → Island) (d : Device) : (d.onIsland n f).faults = d.faults := rfl
@[simp] theorem Device.onIsland_portA (n : Nat) (f : Island → Island) (d : Device) : (d.onIsland n f).portA = d.portA := rfl
@[simp] theorem Device.onIsland_portB (n : Nat) (f : Island → Island) (d : Device) : (d.onIsland n f).portB = d.portB := rfl
@[simp] theorem Device.onIsland_fin (n : Nat) (f : Island → Island) (d : Device) : (d.onIsland n f).fin = d.fin := rfl
@[simp] theorem Device.onIsland_wheels (n : Nat) (f : Island → Island) (d : Device) : (d.onIsland n f).wheels = d.wheels := rfl
@[simp] theorem Device.onIsland_meas (n : Nat) (f : Island → Island) (d : Device) : (d.onIsland n f).meas = d.meas := rfl
@[simp] theorem Device.onIsland_slots (n : Nat) (f : Island → Island) (d : Device) : (d.onIsland n f).slots = d.slots := rfl
@[simp] theorem Device.onIsland_supply (n : Nat) (f : Island → Island) (d : Device) : (d.onIsland n f).supply = d.supply := rfl
@[simp] theorem Device.onIsland_chg (n : Nat) (f : Island → Island) (d : Device) : (d.onIsland n f).chg = d.chg := rfl
@[simp] theorem Device.onIsland_bchg (n : Nat) (f : Island → Island) (d : Device) : (d.onIsland n f).bchg = d.bchg := rfl
@[simp] theorem Device.onIsland_lamps (n : Nat) (f : Island → Island) (d : Device) : (d.onIsland n f).lamps = d.lamps := rfl
@[simp] theorem Device.onIsland_acts (n : Nat) (f : Island → Island) (d : Device) : (d.onIsland n f).acts = d.acts := rfl
@[simp] theorem Device.onIsland_therm (n : Nat) (f : Island → Island) (d : Device) : (d.onIsland n f).therm = d.therm := rfl
@[simp] theorem Device.onIsland_safety (n : Nat) (f : Island → Island) (d : Device) : (d.onIsland n f).safety = d.safety := rfl
@[simp] theorem Device.onIsland_dorid (n : Nat) (f : Island → Island) (d : Device) : (d.onIsland n f).dorid = d.dorid := rfl
@[simp] theorem Device.onIsland_comm (n : Nat) (f : Island → Island) (d : Device) : (d.onIsland n f).comm = d.comm := rfl
@[simp] theorem Device.onIsland_net (n : Nat) (f : Island → Island) (d : Device) : (d.onIsland n f).net = d.net := rfl
@[simp] theorem Device.onIsland_od (n : Nat) (f : Island → Island) (d : Device) : (d.onIsland n f).od = d.od := rfl
@[simp] theorem Device.onIsland_cross (n : Nat) (f : Island → Island) (d : Device) : (d.onIsland n f).cross = d.cross := rfl
@[simp] theorem Device.onIsland_bist (n : Nat) (f : Island → Island) (d : Device) : (d.onIsland n f).bist = d.bist := rfl
@[simp] theorem Device.onIsland_inj (n : Nat) (f : Island → Island) (d : Device) : (d.onIsland n f).inj = d.inj := rfl
@[simp] theorem Device.onIsland_boot (n : Nat) (f : Island → Island) (d : Device) : (d.onIsland n f).boot = d.boot := rfl
@[simp] theorem Device.onIsland_fw (n : Nat) (f : Island → Island) (d : Device) : (d.onIsland n f).fw = d.fw := rfl
@[simp] theorem Device.onIsland_flash (n : Nat) (f : Island → Island) (d : Device) : (d.onIsland n f).flash = d.flash := rfl
@[simp] theorem Device.onIsland_watch (n : Nat) (f : Island → Island) (d : Device) : (d.onIsland n f).watch = d.watch := rfl
@[simp] theorem Device.onIsland_fresh (n : Nat) (f : Island → Island) (d : Device) : (d.onIsland n f).fresh = d.fresh := rfl

@[simp] theorem Device.onChan_ctl (n : Nat) (f : GateChan → GateChan) (d : Device) : (d.onChan n f).ctl = d.ctl := rfl
@[simp] theorem Device.onChan_faults (n : Nat) (f : GateChan → GateChan) (d : Device) : (d.onChan n f).faults = d.faults := rfl
@[simp] theorem Device.onChan_portA (n : Nat) (f : GateChan → GateChan) (d : Device) : (d.onChan n f).portA = d.portA := rfl
@[simp] theorem Device.onChan_portB (n : Nat) (f : GateChan → GateChan) (d : Device) : (d.onChan n f).portB = d.portB := rfl
@[simp] theorem Device.onChan_fin (n : Nat) (f : GateChan → GateChan) (d : Device) : (d.onChan n f).fin = d.fin := rfl
@[simp] theorem Device.onChan_wheels (n : Nat) (f : GateChan → GateChan) (d : Device) : (d.onChan n f).wheels = d.wheels := rfl
@[simp] theorem Device.onChan_meas (n : Nat) (f : GateChan → GateChan) (d : Device) : (d.onChan n f).meas = d.meas := rfl
@[simp] theorem Device.onChan_slots (n : Nat) (f : GateChan → GateChan) (d : Device) : (d.onChan n f).slots = d.slots := rfl
@[simp] theorem Device.onChan_supply (n : Nat) (f : GateChan → GateChan) (d : Device) : (d.onChan n f).supply = d.supply := rfl
@[simp] theorem Device.onChan_chg (n : Nat) (f : GateChan → GateChan) (d : Device) : (d.onChan n f).chg = d.chg := rfl
@[simp] theorem Device.onChan_bchg (n : Nat) (f : GateChan → GateChan) (d : Device) : (d.onChan n f).bchg = d.bchg := rfl
@[simp] theorem Device.onChan_lamps (n : Nat) (f : GateChan → GateChan) (d : Device) : (d.onChan n f).lamps = d.lamps := rfl
@[simp] theorem Device.onChan_acts (n : Nat) (f : GateChan → GateChan) (d : Device) : (d.onChan n f).acts = d.acts := rfl
@[simp] theorem Device.onChan_therm (n : Nat) (f : GateChan → GateChan) (d : Device) : (d.onChan n f).therm = d.therm := rfl
@[simp] theorem Device.onChan_safety (n : Nat) (f : GateChan → GateChan) (d : Device) : (d.onChan n f).safety = d.safety := rfl
@[simp] theorem Device.onChan_dorid (n : Nat) (f : GateChan → GateChan) (d : Device) : (d.onChan n f).dorid = d.dorid := rfl
@[simp] theorem Device.onChan_comm (n : Nat) (f : GateChan → GateChan) (d : Device) : (d.onChan n f).comm = d.comm := rfl
@[simp] theorem Device.onChan_net (n : Nat) (f : GateChan → GateChan) (d : Device) : (d.onChan n f).net = d.net := rfl
@[simp] theorem Device.onChan_od (n : Nat) (f : GateChan → GateChan) (d : Device) : (d.onChan n f).od = d.od := rfl
@[simp] theorem Device.onChan_cross (n : Nat) (f : GateChan → GateChan) (d : Device) : (d.onChan n f).cross = d.cross := rfl
@[simp] theorem Device.onChan_bist (n : Nat) (f : GateChan → GateChan) (d : Device) : (d.onChan n f).bist = d.bist := rfl
@[simp] theorem Device.onChan_inj (n : Nat) (f : GateChan → GateChan) (d : Device) : (d.onChan n f).inj = d.inj := rfl
@[simp] theorem Device.onChan_boot (n : Nat) (f : GateChan → GateChan) (d : Device) : (d.onChan n f).boot = d.boot := rfl
@[simp] theorem Device.onChan_fw (n : Nat) (f : GateChan → GateChan) (d : Device) : (d.onChan n f).fw = d.fw := rfl
@[simp] theorem Device.onChan_flash (n : Nat) (f : GateChan → GateChan) (d : Device) : (d.onChan n f).flash = d.flash := rfl
@[simp] theorem Device.onChan_watch (n : Nat) (f : GateChan → GateChan) (d : Device) : (d.onChan n f).watch = d.watch := rfl
@[simp] theorem Device.onChan_fresh (n : Nat) (f : GateChan → GateChan) (d : Device) : (d.onChan n f).fresh = d.fresh := rfl

@[simp] theorem Device.onStage_ctl (sg : StageGroup) (f : Stage → Stage) (d : Device) : (d.onStage sg f).ctl = d.ctl := rfl
@[simp] theorem Device.onStage_faults (sg : StageGroup) (f : Stage → Stage) (d : Device) : (d.onStage sg f).faults = d.faults := rfl
@[simp] theorem Device.onStage_portA (sg : StageGroup) (f : Stage → Stage) (d : Device) : (d.onStage sg f).portA = d.portA := rfl
@[simp] theorem Device.onStage_portB (sg : StageGroup) (f : Stage → Stage) (d : Device) : (d.onStage sg f).portB = d.portB := rfl
@[simp] theorem Device.onStage_fin (sg : StageGroup) (f : Stage → Stage) (d : Device) : (d.onStage sg f).fin = d.fin := rfl
@[simp] theorem Device.onStage_wheels (sg : StageGroup) (f : Stage → Stage) (d : Device) : (d.onStage sg f).wheels = d.wheels := rfl
@[simp] theorem Device.onStage_meas (sg : StageGroup) (f : Stage → Stage) (d : Device) : (d.onStage sg f).meas = d.meas := rfl
@[simp] theorem Device.onStage_slots (sg : StageGroup) (f : Stage → Stage) (d : Device) : (d.onStage sg f).slots = d.slots := rfl
@[simp] theorem Device.onStage_supply (sg : StageGroup) (f : Stage → Stage) (d : Device) : (d.onStage sg f).supply = d.supply := rfl
@[simp] theorem Device.onStage_chg (sg : StageGroup) (f : Stage → Stage) (d : Device) : (d.onStage sg f).chg = d.chg := rfl
@[simp] theorem Device.onStage_bchg (sg : StageGroup) (f : Stage → Stage) (d : Device) : (d.onStage sg f).bchg = d.bchg := rfl
@[simp] theorem Device.onStage_lamps (sg : StageGroup) (f : Stage → Stage) (d : Device) : (d.onStage sg f).lamps = d.lamps := rfl
@[simp] theorem Device.onStage_acts (sg : StageGroup) (f : Stage → Stage) (d : Device) : (d.onStage sg f).acts = d.acts := rfl
@[simp] theorem Device.onStage_therm (sg : StageGroup) (f : Stage → Stage) (d : Device) : (d.onStage sg f).therm = d.therm := rfl
@[simp] theorem Device.onStage_safety (sg : StageGroup) (f : Stage → Stage) (d : Device) : (d.onStage sg f).safety = d.safety := rfl
@[simp] theorem Device.onStage_dorid (sg : StageGroup) (f : Stage → Stage) (d : Device) : (d.onStage sg f).dorid = d.dorid := rfl
@[simp] theorem Device.onStage_comm (sg : StageGroup) (f : Stage → Stage) (d : Device) : (d.onStage sg f).comm = d.comm := rfl
@[simp] theorem Device.onStage_net (sg : StageGroup) (f : Stage → Stage) (d : Device) : (d.onStage sg f).net = d.net := rfl
@[simp] theorem Device.onStage_od (sg : StageGroup) (f : Stage → Stage) (d : Device) : (d.onStage sg f).od = d.od := rfl
@[simp] theorem Device.onStage_cross (sg : StageGroup) (f : Stage → Stage) (d : Device) : (d.onStage sg f).cross = d.cross := rfl
@[simp] theorem Device.onStage_bist (sg : StageGroup) (f : Stage → Stage) (d : Device) : (d.onStage sg f).bist = d.bist := rfl
@[simp] theorem Device.onStage_inj (sg : StageGroup) (f : Stage → Stage) (d : Device) : (d.onStage sg f).inj = d.inj := rfl
@[simp] theorem Device.onStage_boot (sg : StageGroup) (f : Stage → Stage) (d : Device) : (d.onStage sg f).boot = d.boot := rfl
@[simp] theorem Device.onStage_fw (sg : StageGroup) (f : Stage → Stage) (d : Device) : (d.onStage sg f).fw = d.fw := rfl
@[simp] theorem Device.onStage_flash (sg : StageGroup) (f : Stage → Stage) (d : Device) : (d.onStage sg f).flash = d.flash := rfl
@[simp] theorem Device.onStage_watch (sg : StageGroup) (f : Stage → Stage) (d : Device) : (d.onStage sg f).watch = d.watch := rfl
@[simp] theorem Device.onStage_fresh (sg : StageGroup) (f : Stage → Stage) (d : Device) : (d.onStage sg f).fresh = d.fresh := rfl

@[simp] theorem Device.onSlot_ctl (n : Nat) (f : Slot → Slot) (d : Device) : (d.onSlot n f).ctl = d.ctl := rfl
@[simp] theorem Device.onSlot_faults (n : Nat) (f : Slot → Slot) (d : Device) : (d.onSlot n f).faults = d.faults := rfl
@[simp] theorem Device.onSlot_gates (n : Nat) (f : Slot → Slot) (d : Device) : (d.onSlot n f).gates = d.gates := rfl
@[simp] theorem Device.onSlot_portA (n : Nat) (f : Slot → Slot) (d : Device) : (d.onSlot n f).portA = d.portA := rfl
@[simp] theorem Device.onSlot_portB (n : Nat) (f : Slot → Slot) (d : Device) : (d.onSlot n f).portB = d.portB := rfl
@[simp] theorem Device.onSlot_fin (n : Nat) (f : Slot → Slot) (d : Device) : (d.onSlot n f).fin = d.fin := rfl
@[simp] theorem Device.onSlot_wheels (n : Nat) (f : Slot → Slot) (d : Device) : (d.onSlot n f).wheels = d.wheels := rfl
@[simp] theorem Device.onSlot_meas (n : Nat) (f : Slot → Slot) (d : Device) : (d.onSlot n f).meas = d.meas := rfl
@[simp] theorem Device.onSlot_supply (n : Nat) (f : Slot → Slot) (d : Device) : (d.onSlot n f).supply = d.supply := rfl
@[simp] theorem Device.onSlot_chg (n : Nat) (f : Slot → Slot) (d : Device) : (d.onSlot n f).chg = d.chg := rfl
@[simp] theorem Device.onSlot_bchg (n : Nat) (f : Slot → Slot) (d : Device) : (d.onSlot n f).bchg = d.bchg := rfl
@[simp] theorem Device.onSlot_lamps (n : Nat) (f : Slot → Slot) (d : Device) : (d.onSlot n f).lamps = d.lamps := rfl
@[simp] theorem Device.onSlot_acts (n : Nat) (f : Slot → Slot) (d : Device) : (d.onSlot n f).acts = d.acts := rfl
@[simp] theorem Device.onSlot_therm (n : Nat) (f : Slot → Slot) (d : Device) : (d.onSlot n f).therm = d.therm := rfl
@[simp] theorem Device.onSlot_safety (n : Nat) (f : Slot → Slot) (d : Device) : (d.onSlot n f).safety = d.safety := rfl
@[simp] theorem Device.onSlot_dorid (n : Nat) (f : Slot → Slot) (d : Device) : (d.onSlot n f).dorid = d.dorid := rfl
@[simp] theorem Device.onSlot_comm (n : Nat) (f : Slot → Slot) (d : Device) : (d.onSlot n f).comm = d.comm := rfl
@[simp] theorem Device.onSlot_net (n : Nat) (f : Slot → Slot) (d : Device) : (d.onSlot n f).net = d.net := rfl
@[simp] theorem Device.onSlot_od (n : Nat) (f : Slot → Slot) (d : Device) : (d.onSlot n f).od = d.od := rfl
@[simp] theorem Device.onSlot_cross (n : Nat) (f : Slot → Slot) (d : Device) : (d.onSlot n f).cross = d.cross := rfl
@[simp] theorem Device.onSlot_bist (n : Nat) (f : Slot → Slot) (d : Device) : (d.onSlot n f).bist = d.bist := rfl
@[simp] theorem Device.onSlot_inj (n : Nat) (f : Slot → Slot) (d : Device) : (d.onSlot n f).inj = d.inj := rfl
@[simp] theorem Device.onSlot_boot (n : Nat) (f : Slot → Slot) (d : Device) : (d.onSlot n f).boot = d.boot := rfl
@[simp] theorem Device.onSlot_fw (n : Nat) (f : Slot → Slot) (d : Device) : (d.onSlot n f).fw = d.fw := rfl
@[simp] theorem Device.onSlot_flash (n : Nat) (f : Slot → Slot) (d : Device) : (d.onSlot n f).flash = d.flash := rfl
@[simp] theorem Device.onSlot_watch (n : Nat) (f : Slot → Slot) (d : Device) : (d.onSlot n f).watch = d.watch := rfl
@[simp] theorem Device.onSlot_fresh (n : Nat) (f : Slot → Slot) (d : Device) : (d.onSlot n f).fresh = d.fresh := rfl

@[simp] theorem Device.onWheel_ctl (n : Nat) (f : Wheel → Wheel) (d : Device) : (d.onWheel n f).ctl = d.ctl := rfl
@[simp] theorem Device.onWheel_faults (n : Nat) (f : Wheel → Wheel) (d : Device) : (d.onWheel n f).faults = d.faults := rfl
@[simp] theorem Device.onWheel_gates (n : Nat) (f : Wheel → Wheel) (d : Device) : (d.onWheel n f).gates = d.gates := rfl
@[simp] theorem Device.onWheel_portA (n : Nat) (f : Wheel → Wheel) (d : Device) : (d.onWheel n f).portA = d.portA := rfl
@[simp] theorem Device.onWheel_portB (n : Nat) (f : Wheel → Wheel) (d : Device) : (d.onWheel n f).portB = d.portB := rfl
@[simp] theorem Device.onWheel_fin (n : Nat) (f : Wheel → Wheel) (d : Device) : (d.onWheel n f).fin = d.fin := rfl
@[simp] theorem Device.onWheel_meas (n : Nat) (f : Wheel → Wheel) (d : Device) : (d.onWheel n f).meas = d.meas := rfl
@[simp] theorem Device.onWheel_slots (n : Nat) (f : Wheel → Wheel) (d : Device) : (d.onWheel n f).slots = d.slots := rfl
@[simp] theorem Device.onWheel_supply (n : Nat) (f : Wheel → Wheel) (d : Device) : (d.onWheel n f).supply = d.supply := rfl
@[simp] theorem Device.onWheel_chg (n : Nat) (f : Wheel → Wheel) (d : Device) : (d.onWheel n f).chg = d.chg := rfl
@[simp] theorem Device.onWheel_bchg (n : Nat) (f : Wheel → Wheel) (d : Device) : (d.onWheel n f).bchg = d.bchg := rfl
@[simp] theorem Device.onWheel_lamps (n : Nat) (f : Wheel → Wheel) (d : Device) : (d.onWheel n f).lamps = d.lamps := rfl
@[simp] theorem Device.onWheel_acts (n : Nat) (f : Wheel → Wheel) (d : Device) : (d.onWheel n f).acts = d.acts := rfl
@[simp] theorem Device.onWheel_therm (n : Nat) (f : Wheel → Wheel) (d : Device) : (d.onWheel n f).therm = d.therm := rfl
@[simp] theorem Device.onWheel_safety (n : Nat) (f : Wheel → Wheel) (d : Device) : (d.onWheel n f).safety = d.safety := rfl
@[simp] theorem Device.onWheel_dorid (n : Nat) (f : Wheel → Wheel) (d : Device) : (d.onWheel n f).dorid = d.dorid := rfl
@[simp] theorem Device.onWheel_comm (n : Nat) (f : Wheel → Wheel) (d : Device) : (d.onWheel n f).comm = d.comm := rfl
@[simp] theorem Device.onWheel_net (n : Nat) (f : Wheel → Wheel) (d : Device) : (d.onWheel n f).net = d.net := rfl
@[simp] theorem Device.onWheel_od (n : Nat) (f : Wheel → Wheel) (d : Device) : (d.onWheel n f).od = d.od := rfl
@[simp] theorem Device.onWheel_cross (n : Nat) (f : Wheel → Wheel) (d : Device) : (d.onWheel n f).cross = d.cross := rfl
@[simp] theorem Device.onWheel_bist (n : Nat) (f : Wheel → Wheel) (d : Device) : (d.onWheel n f).bist = d.bist := rfl
@[simp] theorem Device.onWheel_inj (n : Nat) (f : Wheel → Wheel) (d : Device) : (d.onWheel n f).inj = d.inj := rfl
@[simp] theorem Device.onWheel_boot (n : Nat) (f : Wheel → Wheel) (d : Device) : (d.onWheel n f).boot = d.boot := rfl
@[simp] theorem Device.onWheel_fw (n : Nat) (f : Wheel → Wheel) (d : Device) : (d.onWheel n f).fw = d.fw := rfl
@[simp] theorem Device.onWheel_flash (n : Nat) (f : Wheel → Wheel) (d : Device) : (d.onWheel n f).flash = d.flash := rfl
@[simp] theorem Device.onWheel_watch (n : Nat) (f : Wheel → Wheel) (d : Device) : (d.onWheel n f).watch = d.watch := rfl
@[simp] theorem Device.onWheel_fresh (n : Nat) (f : Wheel → Wheel) (d : Device) : (d.onWheel n f).fresh = d.fresh := rfl

@[simp] theorem Device.onAct_ctl (n : Nat) (f : Actuator → Actuator) (d : Device) : (d.onAct n f).ctl = d.ctl := rfl
@[simp] theorem Device.onAct_faults (n : Nat) (f : Actuator → Actuator) (d : Device) : (d.onAct n f).faults = d.faults := rfl
@[simp] theorem Device.onAct_gates (n : Nat) (f : Actuator → Actuator) (d : Device) : (d.onAct n f).gates = d.gates := rfl
@[simp] theorem Device.onAct_portA (n : Nat) (f : Actuator → Actuator) (d : Device) : (d.onAct n f).portA = d.portA := rfl
@[simp] theorem Device.onAct_portB (n : Nat) (f : Actuator → Actuator) (d : Device) : (d.onAct n f).portB = d.portB := rfl
@[simp] theorem Device.onAct_fin (n : Nat) (f : Actuator → Actuator) (d : Device) : (d.onAct n f).fin = d.fin := rfl
@[simp] theorem Device.onAct_wheels (n : Nat) (f : Actuator → Actuator) (d : Device) : (d.onAct n f).wheels = d.wheels := rfl
@[simp] theorem Device.onAct_meas (n : Nat) (f : Actuator → Actuator) (d : Device) : (d.onAct n f).meas = d.meas := rfl
@[simp] theorem Device.onAct_slots (n : Nat) (f : Actuator → Actuator) (d : Device) : (d.onAct n f).slots = d.slots := rfl
@[simp] theorem Device.onAct_supply (n : Nat) (f : Actuator → Actuator) (d : Device) : (d.onAct n f).supply = d.supply := rfl
@[simp] theorem Device.onAct_chg (n : Nat) (f : Actuator → Actuator) (d : Device) : (d.onAct n f).chg = d.chg := rfl
@[simp] theorem Device.onAct_bchg (n : Nat) (f : Actuator → Actuator) (d : Device) : (d.onAct n f).bchg = d.bchg := rfl
@[simp] theorem Device.onAct_lamps (n : Nat) (f : Actuator → Actuator) (d : Device) : (d.onAct n f).lamps = d.lamps := rfl
@[simp] theorem Device.onAct_therm (n : Nat) (f : Actuator → Actuator) (d : Device) : (d.onAct n f).therm = d.therm := rfl
@[simp] theorem Device.onAct_safety (n : Nat) (f : Actuator → Actuator) (d : Device) : (d.onAct n f).safety = d.safety := rfl
@[simp] theorem Device.onAct_dorid (n : Nat) (f : Actuator → Actuator) (d : Device) : (d.onAct n f).dorid = d.dorid := rfl
@[simp] theorem Device.onAct_comm (n : Nat) (f : Actuator → Actuator) (d : Device) : (d.onAct n f).comm = d.comm := rfl
@[simp] theorem Device.onAct_net (n : Nat) (f : Actuator → Actuator) (d : Device) : (d.onAct n f).net = d.net := rfl
@[simp] theorem Device.onAct_od (n : Nat) (f : Actuator → Actuator) (d : Device) : (d.onAct n f).od = d.od := rfl
@[simp] theorem Device.onAct_cross (n : Nat) (f : Actuator → Actuator) (d : Device) : (d.onAct n f).cross = d.cross := rfl
@[simp] theorem Device.onAct_bist (n : Nat) (f : Actuator → Actuator) (d : Device) : (d.onAct n f).bist = d.bist := rfl
@[simp] theorem Device.onAct_inj (n : Nat) (f : Actuator → Actuator) (d : Device) : (d.onAct n f).inj = d.inj := rfl
@[simp] theorem Device.onAct_boot (n : Nat) (f : Actuator → Actuator) (d : Device) : (d.onAct n f).boot = d.boot := rfl
@[simp] theorem Device.onAct_fw (n : Nat) (f : Actuator → Actuator) (d : Device) : (d.onAct n f).fw = d.fw := rfl
@[simp] theorem Device.onAct_flash (n : Nat) (f : Actuator → Actuator) (d : Device) : (d.onAct n f).flash = d.flash := rfl
@[simp] theorem Device.onAct_watch (n : Nat) (f : Actuator → Actuator) (d : Device) : (d.onAct n f).watch = d.watch := rfl
@[simp] theorem Device.onAct_fresh (n : Nat) (f : Actuator → Actuator) (d : Device) : (d.onAct n f).fresh = d.fresh := rfl

@[simp] theorem Device.onMchan_ctl (n : Nat) (f : MeasChan → MeasChan) (d : Device) : (d.onMchan n f).ctl = d.ctl := rfl
@[simp] theorem Device.onMchan_faults (n : Nat) (f : MeasChan → MeasChan) (d : Device) : (d.onMchan n f).faults = d.faults := rfl
@[simp] theorem Device.onMchan_gates (n : Nat) (f : MeasChan → MeasChan) (d : Device) : (d.onMchan n f).gates = d.gates := rfl
@[simp] theorem Device.onMchan_portA (n : Nat) (f : MeasChan → MeasChan) (d : Device) : (d.onMchan n f).portA = d.portA := rfl
@[simp] theorem Device.onMchan_portB (n : Nat) (f : MeasChan → MeasChan) (d : Device) : (d.onMchan n f).portB = d.portB := rfl
@[simp] theorem Device.onMchan_fin (n : Nat) (f : MeasChan → MeasChan) (d : Device) : (d.onMchan n f).fin = d.fin := rfl
@[simp] theorem Device.onMchan_wheels (n : Nat) (f : MeasChan → MeasChan) (d : Device) : (d.onMchan n f).wheels = d.wheels := rfl
@[simp] theorem Device.onMchan_slots (n : Nat) (f : MeasChan → MeasChan) (d : Device) : (d.onMchan n f).slots = d.slots := rfl
@[simp] theorem Device.onMchan_supply (n : Nat) (f : MeasChan → MeasChan) (d : Device) : (d.onMchan n f).supply = d.supply := rfl
@[simp] theorem Device.onMchan_chg (n : Nat) (f : MeasChan → MeasChan) (d : Device) : (d.onMchan n f).chg = d.chg := rfl
@[simp] theorem Device.onMchan_bchg (n : Nat) (f : MeasChan → MeasChan) (d : Device) : (d.onMchan n f).bchg = d.bchg := rfl
@[simp] theorem Device.onMchan_lamps (n : Nat) (f : MeasChan → MeasChan) (d : Device) : (d.onMchan n f).lamps = d.lamps := rfl
@[simp] theorem Device.onMchan_acts (n : Nat) (f : MeasChan → MeasChan) (d : Device) : (d.onMchan n f).acts = d.acts := rfl
@[simp] theorem Device.onMchan_therm (n : Nat) (f : MeasChan → MeasChan) (d : Device) : (d.onMchan n f).therm = d.therm := rfl
@[simp] theorem Device.onMchan_safety (n : Nat) (f : MeasChan → MeasChan) (d : Device) : (d.onMchan n f).safety = d.safety := rfl
@[simp] theorem Device.onMchan_dorid (n : Nat) (f : MeasChan → MeasChan) (d : Device) : (d.onMchan n f).dorid = d.dorid := rfl
@[simp] theorem Device.onMchan_comm (n : Nat) (f : MeasChan → MeasChan) (d : Device) : (d.onMchan n f).comm = d.comm := rfl
@[simp] theorem Device.onMchan_net (n : Nat) (f : MeasChan → MeasChan) (d : Device) : (d.onMchan n f).net = d.net := rfl
@[simp] theorem Device.onMchan_od (n : Nat) (f : MeasChan → MeasChan) (d : Device) : (d.onMchan n f).od = d.od := rfl
@[simp] theorem Device.onMchan_cross (n : Nat) (f : MeasChan → MeasChan) (d : Device) : (d.onMchan n f).cross = d.cross := rfl
@[simp] theorem Device.onMchan_bist (n : Nat) (f : MeasChan → MeasChan) (d : Device) : (d.onMchan n f).bist = d.bist := rfl
@[simp] theorem Device.onMchan_inj (n : Nat) (f : MeasChan → MeasChan) (d : Device) : (d.onMchan n f).inj = d.inj := rfl
@[simp] theorem Device.onMchan_boot (n : Nat) (f : MeasChan → MeasChan) (d : Device) : (d.onMchan n f).boot = d.boot := rfl
@[simp] theorem Device.onMchan_fw (n : Nat) (f : MeasChan → MeasChan) (d : Device) : (d.onMchan n f).fw = d.fw := rfl
@[simp] theorem Device.onMchan_flash (n : Nat) (f : MeasChan → MeasChan) (d : Device) : (d.onMchan n f).flash = d.flash := rfl
@[simp] theorem Device.onMchan_watch (n : Nat) (f : MeasChan → MeasChan) (d : Device) : (d.onMchan n f).watch = d.watch := rfl
@[simp] theorem Device.onMchan_fresh (n : Nat) (f : MeasChan → MeasChan) (d : Device) : (d.onMchan n f).fresh = d.fresh := rfl

@[simp] theorem Device.onConn_ctl (n : Nat) (f : DoridConn → DoridConn) (d : Device) : (d.onConn n f).ctl = d.ctl := rfl
@[simp] theorem Device.onConn_faults (n : Nat) (f : DoridConn → DoridConn) (d : Device) : (d.onConn n f).faults = d.faults := rfl
@[simp] theorem Device.onConn_gates (n : Nat) (f : DoridConn → DoridConn) (d : Device) : (d.onConn n f).gates = d.gates := rfl
@[simp] theorem Device.onConn_portA (n : Nat) (f : DoridConn → DoridConn) (d : Device) : (d.onConn n f).portA = d.portA := rfl
@[simp] theorem Device.onConn_portB (n : Nat) (f : DoridConn → DoridConn) (d : Device) : (d.onConn n f).portB = d.portB := rfl
@[simp] theorem Device.onConn_fin (n : Nat) (f : DoridConn → DoridConn) (d : Device) : (d.onConn n f).fin = d.fin := rfl
@[simp] theorem Device.onConn_wheels (n : Nat) (f : DoridConn → DoridConn) (d : Device) : (d.onConn n f).wheels = d.wheels := rfl
@[simp] theorem Device.onConn_meas (n : Nat) (f : DoridConn → DoridConn) (d : Device) : (d.onConn n f).meas = d.meas := rfl
@[simp] theorem Device.onConn_slots (n : Nat) (f : DoridConn → DoridConn) (d : Device) : (d.onConn n f).slots = d.slots := rfl
@[simp] theorem Device.onConn_supply (n : Nat) (f : DoridConn → DoridConn) (d : Device) : (d.onConn n f).supply = d.supply := rfl
@[simp] theorem Device.onConn_chg (n : Nat) (f : DoridConn → DoridConn) (d : Device) : (d.onConn n f).chg = d.chg := rfl
@[simp] theorem Device.onConn_bchg (n : Nat) (f : DoridConn → DoridConn) (d : Device) : (d.onConn n f).bchg = d.bchg := rfl
@[simp] theorem Device.onConn_lamps (n : Nat) (f : DoridConn → DoridConn) (d : Device) : (d.onConn n f).lamps = d.lamps := rfl
@[simp] theorem Device.onConn_acts (n : Nat) (f : DoridConn → DoridConn) (d : Device) : (d.onConn n f).acts = d.acts := rfl
@[simp] theorem Device.onConn_therm (n : Nat) (f : DoridConn → DoridConn) (d : Device) : (d.onConn n f).therm = d.therm := rfl
@[simp] theorem Device.onConn_safety (n : Nat) (f : DoridConn → DoridConn) (d : Device) : (d.onConn n f).safety = d.safety := rfl
@[simp] theorem Device.onConn_comm (n : Nat) (f : DoridConn → DoridConn) (d : Device) : (d.onConn n f).comm = d.comm := rfl
@[simp] theorem Device.onConn_net (n : Nat) (f : DoridConn → DoridConn) (d : Device) : (d.onConn n f).net = d.net := rfl
@[simp] theorem Device.onConn_od (n : Nat) (f : DoridConn → DoridConn) (d : Device) : (d.onConn n f).od = d.od := rfl
@[simp] theorem Device.onConn_cross (n : Nat) (f : DoridConn → DoridConn) (d : Device) : (d.onConn n f).cross = d.cross := rfl
@[simp] theorem Device.onConn_bist (n : Nat) (f : DoridConn → DoridConn) (d : Device) : (d.onConn n f).bist = d.bist := rfl
@[simp] theorem Device.onConn_inj (n : Nat) (f : DoridConn → DoridConn) (d : Device) : (d.onConn n f).inj = d.inj := rfl
@[simp] theorem Device.onConn_boot (n : Nat) (f : DoridConn → DoridConn) (d : Device) : (d.onConn n f).boot = d.boot := rfl
@[simp] theorem Device.onConn_fw (n : Nat) (f : DoridConn → DoridConn) (d : Device) : (d.onConn n f).fw = d.fw := rfl
@[simp] theorem Device.onConn_flash (n : Nat) (f : DoridConn → DoridConn) (d : Device) : (d.onConn n f).flash = d.flash := rfl
@[simp] theorem Device.onConn_watch (n : Nat) (f : DoridConn → DoridConn) (d : Device) : (d.onConn n f).watch = d.watch := rfl
@[simp] theorem Device.onConn_fresh (n : Nat) (f : DoridConn → DoridConn) (d : Device) : (d.onConn n f).fresh = d.fresh := rfl

@[simp] theorem Device.onCan_ctl (p : CanPort) (f : CanState → CanState) (d : Device) : (d.onCan p f).ctl = d.ctl := by cases p <;> rfl
@[simp] theorem Device.onCan_faults (p : CanPort) (f : CanState → CanState) (d : Device) : (d.onCan p f).faults = d.faults := by cases p <;> rfl
@[simp] theorem Device.onCan_gates (p : CanPort) (f : CanState → CanState) (d : Device) : (d.onCan p f).gates = d.gates := by cases p <;> rfl
@[simp] theorem Device.onCan_portA (p : CanPort) (f : CanState → CanState) (d : Device) : (d.onCan p f).portA = d.portA := by cases p <;> rfl
@[simp] theorem Device.onCan_portB (p : CanPort) (f : CanState → CanState) (d : Device) : (d.onCan p f).portB = d.portB := by cases p <;> rfl
@[simp] theorem Device.onCan_fin (p : CanPort) (f : CanState → CanState) (d : Device) : (d.onCan p f).fin = d.fin := by cases p <;> rfl
@[simp] theorem Device.onCan_wheels (p : CanPort) (f : CanState → CanState) (d : Device) : (d.onCan p f).wheels = d.wheels := by cases p <;> rfl
@[simp] theorem Device.onCan_meas (p : CanPort) (f : CanState → CanState) (d : Device) : (d.onCan p f).meas = d.meas := by cases p <;> rfl
@[simp] theorem Device.onCan_slots (p : CanPort) (f : CanState → CanState) (d : Device) : (d.onCan p f).slots = d.slots := by cases p <;> rfl
@[simp] theorem Device.onCan_supply (p : CanPort) (f : CanState → CanState) (d : Device) : (d.onCan p f).supply = d.supply := by cases p <;> rfl
@[simp] theorem Device.onCan_chg (p : CanPort) (f : CanState → CanState) (d : Device) : (d.onCan p f).chg = d.chg := by cases p <;> rfl
@[simp] theorem Device.onCan_bchg (p : CanPort) (f : CanState → CanState) (d : Device) : (d.onCan p f).bchg = d.bchg := by cases p <;> rfl
@[simp] theorem Device.onCan_lamps (p : CanPort) (f : CanState → CanState) (d : Device) : (d.onCan p f).lamps = d.lamps := by cases p <;> rfl
@[simp] theorem Device.onCan_acts (p : CanPort) (f : CanState → CanState) (d : Device) : (d.onCan p f).acts = d.acts := by cases p <;> rfl
@[simp] theorem Device.onCan_therm (p : CanPort) (f : CanState → CanState) (d : Device) : (d.onCan p f).therm = d.therm := by cases p <;> rfl
@[simp] theorem Device.onCan_safety (p : CanPort) (f : CanState → CanState) (d : Device) : (d.onCan p f).safety = d.safety := by cases p <;> rfl
@[simp] theorem Device.onCan_dorid (p : CanPort) (f : CanState → CanState) (d : Device) : (d.onCan p f).dorid = d.dorid := by cases p <;> rfl
@[simp] theorem Device.onCan_comm (p : CanPort) (f : CanState → CanState) (d : Device) : (d.onCan p f).comm = d.comm := by cases p <;> rfl
@[simp] theorem Device.onCan_od (p : CanPort) (f : CanState → CanState) (d : Device) : (d.onCan p f).od = d.od := by cases p <;> rfl
@[simp] theorem Device.onCan_cross (p : CanPort) (f : CanState → CanState) (d : Device) : (d.onCan p f).cross = d.cross := by cases p <;> rfl
@[simp] theorem Device.onCan_bist (p : CanPort) (f : CanState → CanState) (d : Device) : (d.onCan p f).bist = d.bist := by cases p <;> rfl
@[simp] theorem Device.onCan_inj (p : CanPort) (f : CanState → CanState) (d : Device) : (d.onCan p f).inj = d.inj := by cases p <;> rfl
@[simp] theorem Device.onCan_boot (p : CanPort) (f : CanState → CanState) (d : Device) : (d.onCan p f).boot = d.boot := by cases p <;> rfl
@[simp] theorem Device.onCan_fw (p : CanPort) (f : CanState → CanState) (d : Device) : (d.onCan p f).fw = d.fw := by cases p <;> rfl
@[simp] theorem Device.onCan_flash (p : CanPort) (f : CanState → CanState) (d : Device) : (d.onCan p f).flash = d.flash := by cases p <;> rfl
@[simp] theorem Device.onCan_watch (p : CanPort) (f : CanState → CanState) (d : Device) : (d.onCan p f).watch = d.watch := by cases p <;> rfl
@[simp] theorem Device.onCan_fresh (p : CanPort) (f : CanState → CanState) (d : Device) : (d.onCan p f).fresh = d.fresh := by cases p <;> rfl

@[simp] theorem Device.onPsafe_ctl (p : PortId) (f : PortSafety → PortSafety) (d : Device) : (d.onPsafe p f).ctl = d.ctl := by cases p <;> rfl
@[simp] theorem Device.onPsafe_faults (p : PortId) (f : PortSafety → PortSafety) (d : Device) : (d.onPsafe p f).faults = d.faults := by cases p <;> rfl
@[simp] theorem Device.onPsafe_gates (p : PortId) (f : PortSafety → PortSafety) (d : Device) : (d.onPsafe p f).gates = d.gates := by cases p <;> rfl
@[simp] theorem Device.onPsafe_portA (p : PortId) (f : PortSafety → PortSafety) (d : Device) : (d.onPsafe p f).portA = d.portA := by cases p <;> rfl
@[simp] theorem Device.onPsafe_portB (p : PortId) (f : PortSafety → PortSafety) (d : Device) : (d.onPsafe p f).portB = d.portB := by cases p <;> rfl
@[simp] theorem Device.onPsafe_fin (p : PortId) (f : PortSafety → PortSafety) (d : Device) : (d.onPsafe p f).fin = d.fin := by cases p <;> rfl
@[simp] theorem Device.onPsafe_wheels (p : PortId) (f : PortSafety → PortSafety) (d : Device) : (d.onPsafe p f).wheels = d.wheels := by cases p <;> rfl
@[simp] theorem Device.onPsafe_meas (p : PortId) (f : PortSafety → PortSafety) (d : Device) : (d.onPsafe p f).meas = d.meas := by cases p <;> rfl
@[simp] theorem Device.onPsafe_slots (p : PortId) (f : PortSafety → PortSafety) (d : Device) : (d.onPsafe p f).slots = d.slots := by cases p <;> rfl
@[simp] theorem Device.onPsafe_supply (p : PortId) (f : PortSafety → PortSafety) (d : Device) : (d.onPsafe p f).supply = d.supply := by cases p <;> rfl
@[simp] theorem Device.onPsafe_chg (p : PortId) (f : PortSafety → PortSafety) (d : Device) : (d.onPsafe p f).chg = d.chg := by cases p <;> rfl
@[simp] theorem Device.onPsafe_bchg (p : PortId) (f : PortSafety → PortSafety) (d : Device) : (d.onPsafe p f).bchg = d.bchg := by cases p <;> rfl
@[simp] theorem Device.onPsafe_lamps (p : PortId) (f : PortSafety → PortSafety) (d : Device) : (d.onPsafe p f).lamps = d.lamps := by cases p <;> rfl
@[simp] theorem Device.onPsafe_acts (p : PortId) (f : PortSafety → PortSafety) (d : Device) : (d.onPsafe p f).acts = d.acts := by cases p <;> rfl
@[simp] theorem Device.onPsafe_therm (p : PortId) (f : PortSafety → PortSafety) (d : Device) : (d.onPsafe p f).therm = d.therm := by cases p <;> rfl
@[simp] theorem Device.onPsafe_dorid (p : PortId) (f : PortSafety → PortSafety) (d : Device) : (d.onPsafe p f).dorid = d.dorid := by cases p <;> rfl
@[simp] theorem Device.onPsafe_comm (p : PortId) (f : PortSafety → PortSafety) (d : Device) : (d.onPsafe p f).comm = d.comm := by cases p <;> rfl
@[simp] theorem Device.onPsafe_net (p : PortId) (f : PortSafety → PortSafety) (d : Device) : (d.onPsafe p f).net = d.net := by cases p <;> rfl
@[simp] theorem Device.onPsafe_od (p : PortId) (f : PortSafety → PortSafety) (d : Device) : (d.onPsafe p f).od = d.od := by cases p <;> rfl
@[simp] theorem Device.onPsafe_cross (p : PortId) (f : PortSafety → PortSafety) (d : Device) : (d.onPsafe p f).cross = d.cross := by cases p <;> rfl
@[simp] theorem Device.onPsafe_bist (p : PortId) (f : PortSafety → PortSafety) (d : Device) : (d.onPsafe p f).bist = d.bist := by cases p <;> rfl
@[simp] theorem Device.onPsafe_inj (p : PortId) (f : PortSafety → PortSafety) (d : Device) : (d.onPsafe p f).inj = d.inj := by cases p <;> rfl
@[simp] theorem Device.onPsafe_boot (p : PortId) (f : PortSafety → PortSafety) (d : Device) : (d.onPsafe p f).boot = d.boot := by cases p <;> rfl
@[simp] theorem Device.onPsafe_fw (p : PortId) (f : PortSafety → PortSafety) (d : Device) : (d.onPsafe p f).fw = d.fw := by cases p <;> rfl
@[simp] theorem Device.onPsafe_flash (p : PortId) (f : PortSafety → PortSafety) (d : Device) : (d.onPsafe p f).flash = d.flash := by cases p <;> rfl
@[simp] theorem Device.onPsafe_watch (p : PortId) (f : PortSafety → PortSafety) (d : Device) : (d.onPsafe p f).watch = d.watch := by cases p <;> rfl
@[simp] theorem Device.onPsafe_fresh (p : PortId) (f : PortSafety → PortSafety) (d : Device) : (d.onPsafe p f).fresh = d.fresh := by cases p <;> rfl

@[simp] theorem Device.onBist_ctl (f : SelfTest → SelfTest) (d : Device) : (d.onBist f).ctl = d.ctl := rfl
@[simp] theorem Device.onBist_faults (f : SelfTest → SelfTest) (d : Device) : (d.onBist f).faults = d.faults := rfl
@[simp] theorem Device.onBist_gates (f : SelfTest → SelfTest) (d : Device) : (d.onBist f).gates = d.gates := rfl
@[simp] theorem Device.onBist_portA (f : SelfTest → SelfTest) (d : Device) : (d.onBist f).portA = d.portA := rfl
@[simp] theorem Device.onBist_portB (f : SelfTest → SelfTest) (d : Device) : (d.onBist f).portB = d.portB := rfl
@[simp] theorem Device.onBist_fin (f : SelfTest → SelfTest) (d : Device) : (d.onBist f).fin = d.fin := rfl
@[simp] theorem Device.onBist_wheels (f : SelfTest → SelfTest) (d : Device) : (d.onBist f).wheels = d.wheels := rfl
@[simp] theorem Device.onBist_meas (f : SelfTest → SelfTest) (d : Device) : (d.onBist f).meas = d.meas := rfl
@[simp] theorem Device.onBist_slots (f : SelfTest → SelfTest) (d : Device) : (d.onBist f).slots = d.slots := rfl
@[simp] theorem Device.onBist_supply (f : SelfTest → SelfTest) (d : Device) : (d.onBist f).supply = d.supply := rfl
@[simp] theorem Device.onBist_chg (f : SelfTest → SelfTest) (d : Device) : (d.onBist f).chg = d.chg := rfl
@[simp] theorem Device.onBist_bchg (f : SelfTest → SelfTest) (d : Device) : (d.onBist f).bchg = d.bchg := rfl
@[simp] theorem Device.onBist_lamps (f : SelfTest → SelfTest) (d : Device) : (d.onBist f).lamps = d.lamps := rfl
@[simp] theorem Device.onBist_acts (f : SelfTest → SelfTest) (d : Device) : (d.onBist f).acts = d.acts := rfl
@[simp] theorem Device.onBist_therm (f : SelfTest → SelfTest) (d : Device) : (d.onBist f).therm = d.therm := rfl
@[simp] theorem Device.onBist_safety (f : SelfTest → SelfTest) (d : Device) : (d.onBist f).safety = d.safety := rfl
@[simp] theorem Device.onBist_dorid (f : SelfTest → SelfTest) (d : Device) : (d.onBist f).dorid = d.dorid := rfl
@[simp] theorem Device.onBist_comm (f : SelfTest → SelfTest) (d : Device) : (d.onBist f).comm = d.comm := rfl
@[simp] theorem Device.onBist_net (f : SelfTest → SelfTest) (d : Device) : (d.onBist f).net = d.net := rfl
@[simp] theorem Device.onBist_od (f : SelfTest → SelfTest) (d : Device) : (d.onBist f).od = d.od := rfl
@[simp] theorem Device.onBist_cross (f : SelfTest → SelfTest) (d : Device) : (d.onBist f).cross = d.cross := rfl
@[simp] theorem Device.onBist_inj (f : SelfTest → SelfTest) (d : Device) : (d.onBist f).inj = d.inj := rfl
@[simp] theorem Device.onBist_boot (f : SelfTest → SelfTest) (d : Device) : (d.onBist f).boot = d.boot := rfl
@[simp] theorem Device.onBist_fw (f : SelfTest → SelfTest) (d : Device) : (d.onBist f).fw = d.fw := rfl
@[simp] theorem Device.onBist_flash (f : SelfTest → SelfTest) (d : Device) : (d.onBist f).flash = d.flash := rfl
@[simp] theorem Device.onBist_watch (f : SelfTest → SelfTest) (d : Device) : (d.onBist f).watch = d.watch := rfl
@[simp] theorem Device.onBist_fresh (f : SelfTest → SelfTest) (d : Device) : (d.onBist f).fresh = d.fresh := rfl

@[simp] theorem Device.onPath_ctl (q : Path) (f : PathState → PathState) (d : Device) : (d.onPath q f).ctl = d.ctl := rfl
@[simp] theorem Device.onPath_faults (q : Path) (f : PathState → PathState) (d : Device) : (d.onPath q f).faults = d.faults := rfl
@[simp] theorem Device.onPath_gates (q : Path) (f : PathState → PathState) (d : Device) : (d.onPath q f).gates = d.gates := rfl
@[simp] theorem Device.onPath_portA (q : Path) (f : PathState → PathState) (d : Device) : (d.onPath q f).portA = d.portA := rfl
@[simp] theorem Device.onPath_portB (q : Path) (f : PathState → PathState) (d : Device) : (d.onPath q f).portB = d.portB := rfl
@[simp] theorem Device.onPath_fin (q : Path) (f : PathState → PathState) (d : Device) : (d.onPath q f).fin = d.fin := rfl
@[simp] theorem Device.onPath_wheels (q : Path) (f : PathState → PathState) (d : Device) : (d.onPath q f).wheels = d.wheels := rfl
@[simp] theorem Device.onPath_meas (q : Path) (f : PathState → PathState) (d : Device) : (d.onPath q f).meas = d.meas := rfl
@[simp] theorem Device.onPath_slots (q : Path) (f : PathState → PathState) (d : Device) : (d.onPath q f).slots = d.slots := rfl
@[simp] theorem Device.onPath_supply (q : Path) (f : PathState → PathState) (d : Device) : (d.onPath q f).supply = d.supply := rfl
@[simp] theorem Device.onPath_chg (q : Path) (f : PathState → PathState) (d : Device) : (d.onPath q f).chg = d.chg := rfl
@[simp] theorem Device.onPath_bchg (q : Path) (f : PathState → PathState) (d : Device) : (d.onPath q f).bchg = d.bchg := rfl
@[simp] theorem Device.onPath_lamps (q : Path) (f : PathState → PathState) (d : Device) : (d.onPath q f).lamps = d.lamps := rfl
@[simp] theorem Device.onPath_acts (q : Path) (f : PathState → PathState) (d : Device) : (d.onPath q f).acts = d.acts := rfl
@[simp] theorem Device.onPath_therm (q : Path) (f : PathState → PathState) (d : Device) : (d.onPath q f).therm = d.therm := rfl
@[simp] theorem Device.onPath_safety (q : Path) (f : PathState → PathState) (d : Device) : (d.onPath q f).safety = d.safety := rfl
@[simp] theorem Device.onPath_dorid (q : Path) (f : PathState → PathState) (d : Device) : (d.onPath q f).dorid = d.dorid := rfl
@[simp] theorem Device.onPath_comm (q : Path) (f : PathState → PathState) (d : Device) : (d.onPath q f).comm = d.comm := rfl
@[simp] theorem Device.onPath_net (q : Path) (f : PathState → PathState) (d : Device) : (d.onPath q f).net = d.net := rfl
@[simp] theorem Device.onPath_cross (q : Path) (f : PathState → PathState) (d : Device) : (d.onPath q f).cross = d.cross := rfl
@[simp] theorem Device.onPath_bist (q : Path) (f : PathState → PathState) (d : Device) : (d.onPath q f).bist = d.bist := rfl
@[simp] theorem Device.onPath_inj (q : Path) (f : PathState → PathState) (d : Device) : (d.onPath q f).inj = d.inj := rfl
@[simp] theorem Device.onPath_boot (q : Path) (f : PathState → PathState) (d : Device) : (d.onPath q f).boot = d.boot := rfl
@[simp] theorem Device.onPath_fw (q : Path) (f : PathState → PathState) (d : Device) : (d.onPath q f).fw = d.fw := rfl
@[simp] theorem Device.onPath_flash (q : Path) (f : PathState → PathState) (d : Device) : (d.onPath q f).flash = d.flash := rfl
@[simp] theorem Device.onPath_watch (q : Path) (f : PathState → PathState) (d : Device) : (d.onPath q f).watch = d.watch := rfl
@[simp] theorem Device.onPath_fresh (q : Path) (f : PathState → PathState) (d : Device) : (d.onPath q f).fresh = d.fresh := rfl

@[simp] theorem Device.draw_ctl (d : Device) : (d.draw).ctl = d.ctl := rfl
@[simp] theorem Device.draw_faults (d : Device) : (d.draw).faults = d.faults := rfl
@[simp] theorem Device.draw_gates (d : Device) : (d.draw).gates = d.gates := rfl
@[simp] theorem Device.draw_portA (d : Device) : (d.draw).portA = d.portA := rfl
@[simp] theorem Device.draw_portB (d : Device) : (d.draw).portB = d.portB := rfl
@[simp] theorem Device.draw_fin (d : Device) : (d.draw).fin = d.fin := rfl
@[simp] theorem Device.draw_wheels (d : Device) : (d.draw).wheels = d.wheels := rfl
@[simp] theorem Device.draw_meas (d : Device) : (d.draw).meas = d.meas := rfl
@[simp] theorem Device.draw_slots (d : Device) : (d.draw).slots = d.slots := rfl
@[simp] theorem Device.draw_supply (d : Device) : (d.draw).supply = d.supply := rfl
@[simp] theorem Device.draw_chg (d : Device) : (d.draw).chg = d.chg := rfl
@[simp] theorem Device.draw_bchg (d : Device) : (d.draw).bchg = d.bchg := rfl
@[simp] theorem Device.draw_lamps (d : Device) : (d.draw).lamps = d.lamps := rfl
@[simp] theorem Device.draw_acts (d : Device) : (d.draw).acts = d.acts := rfl
@[simp] theorem Device.draw_therm (d : Device) : (d.draw).therm = d.therm := rfl
@[simp] theorem Device.draw_safety (d : Device) : (d.draw).safety = d.safety := rfl
@[simp] theorem Device.draw_dorid (d : Device) : (d.draw).dorid = d.dorid := rfl
@[simp] theorem Device.draw_comm (d : Device) : (d.draw).comm = d.comm := rfl
@[simp] theorem Device.draw_net (d : Device) : (d.draw).net = d.net := rfl
@[simp] theorem Device.draw_od (d : Device) : (d.draw).od = d.od := rfl
@[simp] theorem Device.draw_cross (d : Device) : (d.draw).cross = d.cross := rfl
@[simp] theorem Device.draw_bist (d : Device) : (d.draw).bist = d.bist := rfl
@[simp] theorem Device.draw_inj (d : Device) : (d.draw).inj = d.inj := rfl
@[simp] theorem Device.draw_boot (d : Device) : (d.draw).boot = d.boot := rfl
@[simp] theorem Device.draw_fw (d : Device) : (d.draw).fw = d.fw := rfl
@[simp] theorem Device.draw_flash (d : Device) : (d.draw).flash = d.flash := rfl
@[simp] theorem Device.draw_watch (d : Device) : (d.draw).watch = d.watch := rfl

@[simp] theorem touchPath_ctl (q : Path) (d : Device) : (touchPath q d).ctl = d.ctl := rfl
@[simp] theorem touchPath_faults (q : Path) (d : Device) : (touchPath q d).faults = d.faults := rfl
@[simp] theorem touchPath_gates (q : Path) (d : Device) : (touchPath q d).gates = d.gates := rfl
@[simp] theorem touchPath_portA (q : Path) (d : Device) : (touchPath q d).portA = d.portA := rfl
@[simp] theorem touchPath_portB (q : Path) (d : Device) : (touchPath q d).portB = d.portB := rfl
@[simp] theorem touchPath_fin (q : Path) (d : Device) : (touchPath q d).fin = d.fin := rfl
@[simp] theorem touchPath_wheels (q : Path) (d : Device) : (touchPath q d).wheels = d.wheels := rfl
@[simp] theorem touchPath_meas (q : Path) (d : Device) : (touchPath q d).meas = d.meas := rfl
@[simp] theorem touchPath_slots (q : Path) (d : Device) : (touchPath q d).slots = d.slots := rfl
@[simp] theorem touchPath_supply (q : Path) (d : Device) : (touchPath q d).supply = d.supply := rfl
@[simp] theorem touchPath_chg (q : Path) (d : Device) : (touchPath q d).chg = d.chg := rfl
@[simp] theorem touchPath_bchg (q : Path) (d : Device) : (touchPath q d).bchg = d.bchg := rfl
@[simp] theorem touchPath_lamps (q : Path) (d : Device) : (touchPath q d).lamps = d.lamps := rfl
@[simp] theorem touchPath_acts (q : Path) (d : Device) : (touchPath q d).acts = d.acts := rfl
@[simp] theorem touchPath_therm (q : Path) (d : Device) : (touchPath q d).therm = d.therm := rfl
@[simp] theorem touchPath_safety (q : Path) (d : Device) : (touchPath q d).safety = d.safety := rfl
@[simp] theorem touchPath_dorid (q : Path) (d : Device) : (touchPath q d).dorid = d.dorid := rfl
@[simp] theorem touchPath_comm (q : Path) (d : Device) : (touchPath q d).comm = d.comm := rfl
@[simp] theorem touchPath_net (q : Path) (d : Device) : (touchPath q d).net = d.net := rfl
@[simp] theorem touchPath_cross (q : Path) (d : Device) : (touchPath q d).cross = d.cross := rfl
@[simp] theorem touchPath_bist (q : Path) (d : Device) : (touchPath q d).bist = d.bist := rfl
@[simp] theorem touchPath_inj (q : Path) (d : Device) : (touchPath q d).inj = d.inj := rfl
@[simp] theorem touchPath_boot (q : Path) (d : Device) : (touchPath q d).boot = d.boot := rfl
@[simp] theorem touchPath_fw (q : Path) (d : Device) : (touchPath q d).fw = d.fw := rfl
@[simp] theorem touchPath_flash (q : Path) (d : Device) : (touchPath q d).flash = d.flash := rfl
@[simp] theorem touchPath_watch (q : Path) (d : Device) : (touchPath q d).watch = d.watch := rfl
@[simp] theorem touchPath_fresh (q : Path) (d : Device) : (touchPath q d).fresh = d.fresh := rfl

@[simp] theorem pushLive_ctl (key v : Nat) (d : Device) : (pushLive key v d).ctl = d.ctl := rfl
@[simp] theorem pushLive_faults (key v : Nat) (d : Device) : (pushLive key v d).faults = d.faults := rfl
@[simp] theorem pushLive_gates (key v : Nat) (d : Device) : (pushLive key v d).gates = d.gates := rfl
@[simp] theorem pushLive_portA (key v : Nat) (d : Device) : (pushLive key v d).portA = d.portA := rfl
@[simp] theorem pushLive_portB (key v : Nat) (d : Device) : (pushLive key v d).portB = d.portB := rfl
@[simp] theorem pushLive_fin (key v : Nat) (d : Device) : (pushLive key v d).fin = d.fin := rfl
@[simp] theorem pushLive_wheels (key v : Nat) (d : Device) : (pushLive key v d).wheels = d.wheels := rfl
@[simp] theorem pushLive_meas (key v : Nat) (d : Device) : (pushLive key v d).meas = d.meas := rfl
@[simp] theorem pushLive_slots (key v : Nat) (d : Device) : (pushLive key v d).slots = d.slots := rfl
@[simp] theorem pushLive_supply (key v : Nat) (d : Device) : (pushLive key v d).supply = d.supply := rfl
@[simp] theorem pushLive_chg (key v : Nat) (d : Device) : (pushLive key v d).chg = d.chg := rfl
@[simp] theorem pushLive_bchg (key v : Nat) (d : Device) : (pushLive key v d).bchg = d.bchg := rfl
@[simp] theorem pushLive_lamps (key v : Nat) (d : Device) : (pushLive key v d).lamps = d.lamps := rfl
@[simp] theorem pushLive_acts (key v : Nat) (d : Device) : (pushLive key v d).acts = d.acts := rfl
@[simp] theorem pushLive_therm (key v : Nat) (d : Device) : (pushLive key v d).therm = d.therm := rfl
@[simp] theorem pushLive_safety (key v : Nat) (d : Device) : (pushLive key v d).safety = d.safety := rfl
@[simp] theorem pushLive_dorid (key v : Nat) (d : Device) : (pushLive key v d).dorid = d.dorid := rfl
@[simp] theorem pushLive_comm (key v : Nat) (d : Device) : (pushLive key v d).comm = d.comm := rfl
@[simp] theorem pushLive_net (key v : Nat) (d : Device) : (pushLive key v d).net = d.net := rfl
@[simp] theorem pushLive_cross (key v : Nat) (d : Device) : (pushLive key v d).cross = d.cross := rfl
@[simp] theorem pushLive_bist (key v : Nat) (d : Device) : (pushLive key v d).bist = d.bist := rfl
@[simp] theorem pushLive_inj (key v : Nat) (d : Device) : (pushLive key v d).inj = d.inj := rfl
@[simp] theorem pushLive_boot (key v : Nat) (d : Device) : (pushLive key v d).boot = d.boot := rfl
@[simp] theorem pushLive_fw (key v : Nat) (d : Device) : (pushLive key v d).fw = d.fw := rfl
@[simp] theorem pushLive_flash (key v : Nat) (d : Device) : (pushLive key v d).flash = d.flash := rfl
@[simp] theorem pushLive_watch (key v : Nat) (d : Device) : (pushLive key v d).watch = d.watch := rfl
@[simp] theorem pushLive_fresh (key v : Nat) (d : Device) : (pushLive key v d).fresh = d.fresh := rfl

@[simp] theorem Device.onPort_same (p : PortId) (f : Port → Port) (d : Device) : (d.onPort p f).port p = f (d.port p) := by cases p <;> rfl
@[simp] theorem Device.onEng_same (p : PortId) (f : Engine → Engine) (d : Device) : (d.onEng p f).eng p = f (d.eng p) := by cases p <;> rfl
@[simp] theorem Device.onEng_port (p : PortId) (f : Engine → Engine) (d : Device) : (d.onEng p f).port p = { d.port p with eng := f (d.eng p) } := by cases p <;> rfl
@[simp] theorem Device.onPsafe_same (p : PortId) (f : PortSafety → PortSafety) (d : Device) : (d.onPsafe p f).psafe p = f (d.psafe p) := by cases p <;> rfl
@[simp] theorem Device.onCan_same (p : CanPort) (f : CanState → CanState) (d : Device) : (d.onCan p f).canPort p = f (d.canPort p) := by cases p <;> rfl
@[simp] theorem State.onDev_dev (f : Device → Device) (s : State) : (s.onDev f).dev = f s.dev := rfl
@[simp] theorem State.onDev_otp (f : Device → Device) (s : State) : (s.onDev f).otp = s.otp := rfl
@[simp] theorem State.onDev_pending (f : Device → Device) (s : State) : (s.onDev f).pending = s.pending := rfl

end Sys2Proof.Machine
end

