-- ==== Sys2Proof/Laws/Ops.lean ====
section
/-!
SUPPORT. What the shared operations can change: for each, one lemma per part of the device that it leaves alone.
-/

namespace Sys2Proof.Machine

/-- A part that every operation of a run over a list leaves alone is left alone by the run. -/
theorem Device.each_keeps (g : Device → β) (f : α → Device → Device) (h : ∀ a d, g (f a d) = g d) (l : List α) (d : Device) :
    g (Device.each l f d) = g d := by
  unfold Device.each
  induction l generalizing d with
  | nil => rfl
  | cons a t ih => rw [List.foldl_cons, ih, h]

/-- The same for a fold. -/
theorem foldl_keeps (g : Device → β) (f : Device → α → Device) (h : ∀ a d, g (f d a) = g d) (l : List α) (d : Device) :
    g (l.foldl f d) = g d := by
  induction l generalizing d with
  | nil => rfl
  | cons a t ih => rw [List.foldl_cons, ih, h]

/-- The same for an operation that may be left out. -/
theorem ite_keeps (g : Device → β) (f : Device → Device) (c : Prop) [Decidable c] (x : Device) (h : g (f x) = g x) :
    g (if c then f x else x) = g x := by split <;> first | exact h | rfl

@[simp] theorem issue_frame (i : Nat) (c : List (Fin 8 × Bool)) (d : Device) :
    (issue i c d).ctl = d.ctl ∧ (issue i c d).faults = d.faults ∧ (issue i c d).portA = d.portA ∧ (issue i c d).portB =
    d.portB ∧ (issue i c d).fin = d.fin ∧ (issue i c d).wheels = d.wheels ∧ (issue i c d).meas = d.meas ∧ (issue i c
    d).slots = d.slots ∧ (issue i c d).supply = d.supply ∧ (issue i c d).chg = d.chg ∧ (issue i c d).bchg = d.bchg ∧ (issue
    i c d).lamps = d.lamps ∧ (issue i c d).acts = d.acts ∧ (issue i c d).therm = d.therm ∧ (issue i c d).safety = d.safety ∧
    (issue i c d).dorid = d.dorid ∧ (issue i c d).comm = d.comm ∧ (issue i c d).net = d.net ∧ (issue i c d).od = d.od ∧
    (issue i c d).cross = d.cross ∧ (issue i c d).bist = d.bist ∧ (issue i c d).inj = d.inj ∧ (issue i c d).boot = d.boot ∧
    (issue i c d).fw = d.fw ∧ (issue i c d).flash = d.flash ∧ (issue i c d).watch = d.watch ∧ (issue i c d).fresh = d.fresh :=
  by refine ⟨rfl, rfl, rfl, rfl, rfl, rfl, rfl, rfl, rfl, rfl, rfl, rfl, rfl, rfl, rfl, rfl, rfl, rfl, rfl, rfl, rfl, rfl, rfl, rfl, rfl, rfl, rfl⟩

@[simp] theorem issuePos_frame (on : Bool) (i : Nat) (d : Device) :
    (issuePos on i d).ctl = d.ctl ∧ (issuePos on i d).faults = d.faults ∧ (issuePos on i d).portA = d.portA ∧ (issuePos on i
    d).portB = d.portB ∧ (issuePos on i d).fin = d.fin ∧ (issuePos on i d).wheels = d.wheels ∧ (issuePos on i d).meas =
    d.meas ∧ (issuePos on i d).slots = d.slots ∧ (issuePos on i d).supply = d.supply ∧ (issuePos on i d).chg = d.chg ∧
    (issuePos on i d).bchg = d.bchg ∧ (issuePos on i d).lamps = d.lamps ∧ (issuePos on i d).acts = d.acts ∧ (issuePos on i
    d).therm = d.therm ∧ (issuePos on i d).safety = d.safety ∧ (issuePos on i d).dorid = d.dorid ∧ (issuePos on i d).comm =
    d.comm ∧ (issuePos on i d).net = d.net ∧ (issuePos on i d).od = d.od ∧ (issuePos on i d).cross = d.cross ∧ (issuePos on
    i d).bist = d.bist ∧ (issuePos on i d).inj = d.inj ∧ (issuePos on i d).boot = d.boot ∧ (issuePos on i d).fw = d.fw ∧
    (issuePos on i d).flash = d.flash ∧ (issuePos on i d).watch = d.watch ∧ (issuePos on i d).fresh = d.fresh :=
  by refine ⟨rfl, rfl, rfl, rfl, rfl, rfl, rfl, rfl, rfl, rfl, rfl, rfl, rfl, rfl, rfl, rfl, rfl, rfl, rfl, rfl, rfl, rfl, rfl, rfl, rfl, rfl, rfl⟩

@[simp] theorem issueChan_frame (on : Bool) (g : Nat) (d : Device) :
    (issueChan on g d).ctl = d.ctl ∧ (issueChan on g d).faults = d.faults ∧ (issueChan on g d).portA = d.portA ∧ (issueChan
    on g d).portB = d.portB ∧ (issueChan on g d).fin = d.fin ∧ (issueChan on g d).wheels = d.wheels ∧ (issueChan on g
    d).meas = d.meas ∧ (issueChan on g d).slots = d.slots ∧ (issueChan on g d).supply = d.supply ∧ (issueChan on g d).chg =
    d.chg ∧ (issueChan on g d).bchg = d.bchg ∧ (issueChan on g d).lamps = d.lamps ∧ (issueChan on g d).acts = d.acts ∧
    (issueChan on g d).therm = d.therm ∧ (issueChan on g d).safety = d.safety ∧ (issueChan on g d).dorid = d.dorid ∧
    (issueChan on g d).comm = d.comm ∧ (issueChan on g d).net = d.net ∧ (issueChan on g d).od = d.od ∧ (issueChan on g
    d).cross = d.cross ∧ (issueChan on g d).bist = d.bist ∧ (issueChan on g d).inj = d.inj ∧ (issueChan on g d).boot =
    d.boot ∧ (issueChan on g d).fw = d.fw ∧ (issueChan on g d).flash = d.flash ∧ (issueChan on g d).watch = d.watch ∧
    (issueChan on g d).fresh = d.fresh :=
  by refine ⟨rfl, rfl, rfl, rfl, rfl, rfl, rfl, rfl, rfl, rfl, rfl, rfl, rfl, rfl, rfl, rfl, rfl, rfl, rfl, rfl, rfl, rfl, rfl, rfl, rfl, rfl, rfl⟩

@[simp] theorem each_issuePos_frame (on : Bool) (l : List Nat) (d : Device) :
    (Device.each l (issuePos on) d).ctl = d.ctl ∧ (Device.each l (issuePos on) d).faults = d.faults ∧ (Device.each l
    (issuePos on) d).portA = d.portA ∧ (Device.each l (issuePos on) d).portB = d.portB ∧ (Device.each l (issuePos on) d).fin
    = d.fin ∧ (Device.each l (issuePos on) d).wheels = d.wheels ∧ (Device.each l (issuePos on) d).meas = d.meas ∧
    (Device.each l (issuePos on) d).slots = d.slots ∧ (Device.each l (issuePos on) d).supply = d.supply ∧ (Device.each l
    (issuePos on) d).chg = d.chg ∧ (Device.each l (issuePos on) d).bchg = d.bchg ∧ (Device.each l (issuePos on) d).lamps =
    d.lamps ∧ (Device.each l (issuePos on) d).acts = d.acts ∧ (Device.each l (issuePos on) d).therm = d.therm ∧ (Device.each
    l (issuePos on) d).safety = d.safety ∧ (Device.each l (issuePos on) d).dorid = d.dorid ∧ (Device.each l (issuePos on)
    d).comm = d.comm ∧ (Device.each l (issuePos on) d).net = d.net ∧ (Device.each l (issuePos on) d).od = d.od ∧
    (Device.each l (issuePos on) d).cross = d.cross ∧ (Device.each l (issuePos on) d).bist = d.bist ∧ (Device.each l
    (issuePos on) d).inj = d.inj ∧ (Device.each l (issuePos on) d).boot = d.boot ∧ (Device.each l (issuePos on) d).fw = d.fw
    ∧ (Device.each l (issuePos on) d).flash = d.flash ∧ (Device.each l (issuePos on) d).watch = d.watch ∧ (Device.each l
    (issuePos on) d).fresh = d.fresh :=
  ⟨Device.each_keeps (·.ctl) _ (fun _ _ => by simp) _ _,
      Device.each_keeps (·.faults) _ (fun _ _ => by simp) _ _,
      Device.each_keeps (·.portA) _ (fun _ _ => by simp) _ _,
      Device.each_keeps (·.portB) _ (fun _ _ => by simp) _ _,
      Device.each_keeps (·.fin) _ (fun _ _ => by simp) _ _,
      Device.each_keeps (·.wheels) _ (fun _ _ => by simp) _ _,
      Device.each_keeps (·.meas) _ (fun _ _ => by simp) _ _,
      Device.each_keeps (·.slots) _ (fun _ _ => by simp) _ _,
      Device.each_keeps (·.supply) _ (fun _ _ => by simp) _ _,
      Device.each_keeps (·.chg) _ (fun _ _ => by simp) _ _,
      Device.each_keeps (·.bchg) _ (fun _ _ => by simp) _ _,
      Device.each_keeps (·.lamps) _ (fun _ _ => by simp) _ _,
      Device.each_keeps (·.acts) _ (fun _ _ => by simp) _ _,
      Device.each_keeps (·.therm) _ (fun _ _ => by simp) _ _,
      Device.each_keeps (·.safety) _ (fun _ _ => by simp) _ _,
      Device.each_keeps (·.dorid) _ (fun _ _ => by simp) _ _,
      Device.each_keeps (·.comm) _ (fun _ _ => by simp) _ _,
      Device.each_keeps (·.net) _ (fun _ _ => by simp) _ _,
      Device.each_keeps (·.od) _ (fun _ _ => by simp) _ _,
      Device.each_keeps (·.cross) _ (fun _ _ => by simp) _ _,
      Device.each_keeps (·.bist) _ (fun _ _ => by simp) _ _,
      Device.each_keeps (·.inj) _ (fun _ _ => by simp) _ _,
      Device.each_keeps (·.boot) _ (fun _ _ => by simp) _ _,
      Device.each_keeps (·.fw) _ (fun _ _ => by simp) _ _,
      Device.each_keeps (·.flash) _ (fun _ _ => by simp) _ _,
      Device.each_keeps (·.watch) _ (fun _ _ => by simp) _ _,
      Device.each_keeps (·.fresh) _ (fun _ _ => by simp) _ _⟩

@[simp] theorem each_issueChan_frame (on : Bool) (l : List Nat) (d : Device) :
    (Device.each l (issueChan on) d).ctl = d.ctl ∧ (Device.each l (issueChan on) d).faults = d.faults ∧ (Device.each l
    (issueChan on) d).portA = d.portA ∧ (Device.each l (issueChan on) d).portB = d.portB ∧ (Device.each l (issueChan on)
    d).fin = d.fin ∧ (Device.each l (issueChan on) d).wheels = d.wheels ∧ (Device.each l (issueChan on) d).meas = d.meas ∧
    (Device.each l (issueChan on) d).slots = d.slots ∧ (Device.each l (issueChan on) d).supply = d.supply ∧ (Device.each l
    (issueChan on) d).chg = d.chg ∧ (Device.each l (issueChan on) d).bchg = d.bchg ∧ (Device.each l (issueChan on) d).lamps
    = d.lamps ∧ (Device.each l (issueChan on) d).acts = d.acts ∧ (Device.each l (issueChan on) d).therm = d.therm ∧
    (Device.each l (issueChan on) d).safety = d.safety ∧ (Device.each l (issueChan on) d).dorid = d.dorid ∧ (Device.each l
    (issueChan on) d).comm = d.comm ∧ (Device.each l (issueChan on) d).net = d.net ∧ (Device.each l (issueChan on) d).od =
    d.od ∧ (Device.each l (issueChan on) d).cross = d.cross ∧ (Device.each l (issueChan on) d).bist = d.bist ∧ (Device.each
    l (issueChan on) d).inj = d.inj ∧ (Device.each l (issueChan on) d).boot = d.boot ∧ (Device.each l (issueChan on) d).fw =
    d.fw ∧ (Device.each l (issueChan on) d).flash = d.flash ∧ (Device.each l (issueChan on) d).watch = d.watch ∧
    (Device.each l (issueChan on) d).fresh = d.fresh :=
  ⟨Device.each_keeps (·.ctl) _ (fun _ _ => by simp) _ _,
      Device.each_keeps (·.faults) _ (fun _ _ => by simp) _ _,
      Device.each_keeps (·.portA) _ (fun _ _ => by simp) _ _,
      Device.each_keeps (·.portB) _ (fun _ _ => by simp) _ _,
      Device.each_keeps (·.fin) _ (fun _ _ => by simp) _ _,
      Device.each_keeps (·.wheels) _ (fun _ _ => by simp) _ _,
      Device.each_keeps (·.meas) _ (fun _ _ => by simp) _ _,
      Device.each_keeps (·.slots) _ (fun _ _ => by simp) _ _,
      Device.each_keeps (·.supply) _ (fun _ _ => by simp) _ _,
      Device.each_keeps (·.chg) _ (fun _ _ => by simp) _ _,
      Device.each_keeps (·.bchg) _ (fun _ _ => by simp) _ _,
      Device.each_keeps (·.lamps) _ (fun _ _ => by simp) _ _,
      Device.each_keeps (·.acts) _ (fun _ _ => by simp) _ _,
      Device.each_keeps (·.therm) _ (fun _ _ => by simp) _ _,
      Device.each_keeps (·.safety) _ (fun _ _ => by simp) _ _,
      Device.each_keeps (·.dorid) _ (fun _ _ => by simp) _ _,
      Device.each_keeps (·.comm) _ (fun _ _ => by simp) _ _,
      Device.each_keeps (·.net) _ (fun _ _ => by simp) _ _,
      Device.each_keeps (·.od) _ (fun _ _ => by simp) _ _,
      Device.each_keeps (·.cross) _ (fun _ _ => by simp) _ _,
      Device.each_keeps (·.bist) _ (fun _ _ => by simp) _ _,
      Device.each_keeps (·.inj) _ (fun _ _ => by simp) _ _,
      Device.each_keeps (·.boot) _ (fun _ _ => by simp) _ _,
      Device.each_keeps (·.fw) _ (fun _ _ => by simp) _ _,
      Device.each_keeps (·.flash) _ (fun _ _ => by simp) _ _,
      Device.each_keeps (·.watch) _ (fun _ _ => by simp) _ _,
      Device.each_keeps (·.fresh) _ (fun _ _ => by simp) _ _⟩

@[simp] theorem txEnqueue_frame (f : TxFrame) (d : Device) :
    (txEnqueue f d).ctl = d.ctl ∧ (txEnqueue f d).faults = d.faults ∧ (txEnqueue f d).gates = d.gates ∧ (txEnqueue f
    d).portA = d.portA ∧ (txEnqueue f d).portB = d.portB ∧ (txEnqueue f d).fin = d.fin ∧ (txEnqueue f d).wheels = d.wheels ∧
    (txEnqueue f d).meas = d.meas ∧ (txEnqueue f d).slots = d.slots ∧ (txEnqueue f d).supply = d.supply ∧ (txEnqueue f
    d).chg = d.chg ∧ (txEnqueue f d).bchg = d.bchg ∧ (txEnqueue f d).lamps = d.lamps ∧ (txEnqueue f d).acts = d.acts ∧
    (txEnqueue f d).therm = d.therm ∧ (txEnqueue f d).safety = d.safety ∧ (txEnqueue f d).dorid = d.dorid ∧ (txEnqueue f
    d).comm = d.comm ∧ (txEnqueue f d).od = d.od ∧ (txEnqueue f d).cross = d.cross ∧ (txEnqueue f d).bist = d.bist ∧
    (txEnqueue f d).inj = d.inj ∧ (txEnqueue f d).boot = d.boot ∧ (txEnqueue f d).fw = d.fw ∧ (txEnqueue f d).flash =
    d.flash ∧ (txEnqueue f d).watch = d.watch ∧ (txEnqueue f d).fresh = d.fresh :=
  by simp only [txEnqueue]; split <;> (try split) <;> (try split) <;> (try split) <;> simp

@[simp] theorem pushEvent_frame (e : Event) (d : Device) :
    (pushEvent e d).ctl = d.ctl ∧ (pushEvent e d).gates = d.gates ∧ (pushEvent e d).portA = d.portA ∧ (pushEvent e d).portB
    = d.portB ∧ (pushEvent e d).fin = d.fin ∧ (pushEvent e d).wheels = d.wheels ∧ (pushEvent e d).meas = d.meas ∧ (pushEvent
    e d).slots = d.slots ∧ (pushEvent e d).supply = d.supply ∧ (pushEvent e d).chg = d.chg ∧ (pushEvent e d).bchg = d.bchg ∧
    (pushEvent e d).lamps = d.lamps ∧ (pushEvent e d).acts = d.acts ∧ (pushEvent e d).therm = d.therm ∧ (pushEvent e
    d).safety = d.safety ∧ (pushEvent e d).dorid = d.dorid ∧ (pushEvent e d).comm = d.comm ∧ (pushEvent e d).net = d.net ∧
    (pushEvent e d).od = d.od ∧ (pushEvent e d).cross = d.cross ∧ (pushEvent e d).bist = d.bist ∧ (pushEvent e d).inj =
    d.inj ∧ (pushEvent e d).boot = d.boot ∧ (pushEvent e d).fw = d.fw ∧ (pushEvent e d).flash = d.flash ∧ (pushEvent e
    d).watch = d.watch ∧ (pushEvent e d).fresh = d.fresh :=
  by unfold pushEvent; split <;> simp

@[simp] theorem emcyOn_frame (onB : Bool) (f : FaultName) (r : Nat) (sc : Scope) (d : Device) :
    (emcyOn onB f r sc d).ctl = d.ctl ∧ (emcyOn onB f r sc d).faults = d.faults ∧ (emcyOn onB f r sc d).gates = d.gates ∧
    (emcyOn onB f r sc d).portA = d.portA ∧ (emcyOn onB f r sc d).portB = d.portB ∧ (emcyOn onB f r sc d).fin = d.fin ∧
    (emcyOn onB f r sc d).wheels = d.wheels ∧ (emcyOn onB f r sc d).meas = d.meas ∧ (emcyOn onB f r sc d).slots = d.slots ∧
    (emcyOn onB f r sc d).supply = d.supply ∧ (emcyOn onB f r sc d).chg = d.chg ∧ (emcyOn onB f r sc d).bchg = d.bchg ∧
    (emcyOn onB f r sc d).lamps = d.lamps ∧ (emcyOn onB f r sc d).acts = d.acts ∧ (emcyOn onB f r sc d).therm = d.therm ∧
    (emcyOn onB f r sc d).safety = d.safety ∧ (emcyOn onB f r sc d).dorid = d.dorid ∧ (emcyOn onB f r sc d).comm = d.comm ∧
    (emcyOn onB f r sc d).od = d.od ∧ (emcyOn onB f r sc d).cross = d.cross ∧ (emcyOn onB f r sc d).bist = d.bist ∧ (emcyOn
    onB f r sc d).inj = d.inj ∧ (emcyOn onB f r sc d).boot = d.boot ∧ (emcyOn onB f r sc d).fw = d.fw ∧ (emcyOn onB f r sc
    d).flash = d.flash ∧ (emcyOn onB f r sc d).watch = d.watch ∧ (emcyOn onB f r sc d).fresh = d.fresh :=
  by simp only [emcyOn]; split <;> (split <;> simp)

@[simp] theorem emcy_frame (f : FaultName) (r : Nat) (sc : Scope) (d : Device) :
    (emcy f r sc d).ctl = d.ctl ∧ (emcy f r sc d).faults = d.faults ∧ (emcy f r sc d).gates = d.gates ∧ (emcy f r sc
    d).portA = d.portA ∧ (emcy f r sc d).portB = d.portB ∧ (emcy f r sc d).fin = d.fin ∧ (emcy f r sc d).wheels = d.wheels ∧
    (emcy f r sc d).meas = d.meas ∧ (emcy f r sc d).slots = d.slots ∧ (emcy f r sc d).supply = d.supply ∧ (emcy f r sc
    d).chg = d.chg ∧ (emcy f r sc d).bchg = d.bchg ∧ (emcy f r sc d).lamps = d.lamps ∧ (emcy f r sc d).acts = d.acts ∧ (emcy
    f r sc d).therm = d.therm ∧ (emcy f r sc d).safety = d.safety ∧ (emcy f r sc d).dorid = d.dorid ∧ (emcy f r sc d).comm =
    d.comm ∧ (emcy f r sc d).od = d.od ∧ (emcy f r sc d).cross = d.cross ∧ (emcy f r sc d).bist = d.bist ∧ (emcy f r sc
    d).inj = d.inj ∧ (emcy f r sc d).boot = d.boot ∧ (emcy f r sc d).fw = d.fw ∧ (emcy f r sc d).flash = d.flash ∧ (emcy f r
    sc d).watch = d.watch ∧ (emcy f r sc d).fresh = d.fresh :=
  by simp [emcy]

@[simp] theorem report_frame (k : Nat) (f : FaultName) (r : Nat) (sc : Scope) (d : Device) :
    (report k f r sc d).ctl = d.ctl ∧ (report k f r sc d).gates = d.gates ∧ (report k f r sc d).portA = d.portA ∧ (report k
    f r sc d).portB = d.portB ∧ (report k f r sc d).fin = d.fin ∧ (report k f r sc d).wheels = d.wheels ∧ (report k f r sc
    d).meas = d.meas ∧ (report k f r sc d).slots = d.slots ∧ (report k f r sc d).supply = d.supply ∧ (report k f r sc d).chg
    = d.chg ∧ (report k f r sc d).bchg = d.bchg ∧ (report k f r sc d).lamps = d.lamps ∧ (report k f r sc d).acts = d.acts ∧
    (report k f r sc d).therm = d.therm ∧ (report k f r sc d).safety = d.safety ∧ (report k f r sc d).dorid = d.dorid ∧
    (report k f r sc d).comm = d.comm ∧ (report k f r sc d).od = d.od ∧ (report k f r sc d).cross = d.cross ∧ (report k f r
    sc d).bist = d.bist ∧ (report k f r sc d).inj = d.inj ∧ (report k f r sc d).boot = d.boot ∧ (report k f r sc d).fw =
    d.fw ∧ (report k f r sc d).flash = d.flash ∧ (report k f r sc d).watch = d.watch ∧ (report k f r sc d).fresh = d.fresh :=
  by simp [report]

@[simp] theorem answer_frame (q : Path) (c : W32) (l : List Byte) (d : Device) :
    (answer q c l d).ctl = d.ctl ∧ (answer q c l d).faults = d.faults ∧ (answer q c l d).gates = d.gates ∧ (answer q c l
    d).portA = d.portA ∧ (answer q c l d).portB = d.portB ∧ (answer q c l d).fin = d.fin ∧ (answer q c l d).wheels =
    d.wheels ∧ (answer q c l d).meas = d.meas ∧ (answer q c l d).slots = d.slots ∧ (answer q c l d).supply = d.supply ∧
    (answer q c l d).chg = d.chg ∧ (answer q c l d).bchg = d.bchg ∧ (answer q c l d).lamps = d.lamps ∧ (answer q c l d).acts
    = d.acts ∧ (answer q c l d).therm = d.therm ∧ (answer q c l d).safety = d.safety ∧ (answer q c l d).dorid = d.dorid ∧
    (answer q c l d).comm = d.comm ∧ (answer q c l d).cross = d.cross ∧ (answer q c l d).bist = d.bist ∧ (answer q c l
    d).inj = d.inj ∧ (answer q c l d).boot = d.boot ∧ (answer q c l d).fw = d.fw ∧ (answer q c l d).flash = d.flash ∧
    (answer q c l d).watch = d.watch ∧ (answer q c l d).fresh = d.fresh :=
  by simp [answer]

@[simp] theorem openSlots_frame (ks : List Nat) (d : Device) :
    (openSlots ks d).ctl = d.ctl ∧ (openSlots ks d).faults = d.faults ∧ (openSlots ks d).gates = d.gates ∧ (openSlots ks
    d).portA = d.portA ∧ (openSlots ks d).portB = d.portB ∧ (openSlots ks d).fin = d.fin ∧ (openSlots ks d).wheels =
    d.wheels ∧ (openSlots ks d).meas = d.meas ∧ (openSlots ks d).supply = d.supply ∧ (openSlots ks d).chg = d.chg ∧
    (openSlots ks d).bchg = d.bchg ∧ (openSlots ks d).lamps = d.lamps ∧ (openSlots ks d).acts = d.acts ∧ (openSlots ks
    d).therm = d.therm ∧ (openSlots ks d).safety = d.safety ∧ (openSlots ks d).dorid = d.dorid ∧ (openSlots ks d).comm =
    d.comm ∧ (openSlots ks d).net = d.net ∧ (openSlots ks d).od = d.od ∧ (openSlots ks d).cross = d.cross ∧ (openSlots ks
    d).bist = d.bist ∧ (openSlots ks d).inj = d.inj ∧ (openSlots ks d).boot = d.boot ∧ (openSlots ks d).fw = d.fw ∧
    (openSlots ks d).flash = d.flash ∧ (openSlots ks d).watch = d.watch ∧ (openSlots ks d).fresh = d.fresh :=
  by
    unfold openSlots
    exact ⟨Device.each_keeps (·.ctl) _ (fun _ _ => by simp) _ _,
      Device.each_keeps (·.faults) _ (fun _ _ => by simp) _ _,
      Device.each_keeps (·.gates) _ (fun _ _ => by simp) _ _,
      Device.each_keeps (·.portA) _ (fun _ _ => by simp) _ _,
      Device.each_keeps (·.portB) _ (fun _ _ => by simp) _ _,
      Device.each_keeps (·.fin) _ (fun _ _ => by simp) _ _,
      Device.each_keeps (·.wheels) _ (fun _ _ => by simp) _ _,
      Device.each_keeps (·.meas) _ (fun _ _ => by simp) _ _,
      Device.each_keeps (·.supply) _ (fun _ _ => by simp) _ _,
      Device.each_keeps (·.chg) _ (fun _ _ => by simp) _ _,
      Device.each_keeps (·.bchg) _ (fun _ _ => by simp) _ _,
      Device.each_keeps (·.lamps) _ (fun _ _ => by simp) _ _,
      Device.each_keeps (·.acts) _ (fun _ _ => by simp) _ _,
      Device.each_keeps (·.therm) _ (fun _ _ => by simp) _ _,
      Device.each_keeps (·.safety) _ (fun _ _ => by simp) _ _,
      Device.each_keeps (·.dorid) _ (fun _ _ => by simp) _ _,
      Device.each_keeps (·.comm) _ (fun _ _ => by simp) _ _,
      Device.each_keeps (·.net) _ (fun _ _ => by simp) _ _,
      Device.each_keeps (·.od) _ (fun _ _ => by simp) _ _,
      Device.each_keeps (·.cross) _ (fun _ _ => by simp) _ _,
      Device.each_keeps (·.bist) _ (fun _ _ => by simp) _ _,
      Device.each_keeps (·.inj) _ (fun _ _ => by simp) _ _,
      Device.each_keeps (·.boot) _ (fun _ _ => by simp) _ _,
      Device.each_keeps (·.fw) _ (fun _ _ => by simp) _ _,
      Device.each_keeps (·.flash) _ (fun _ _ => by simp) _ _,
      Device.each_keeps (·.watch) _ (fun _ _ => by simp) _ _,
      Device.each_keeps (·.fresh) _ (fun _ _ => by simp) _ _⟩

@[simp] theorem legOuterOff_frame (p : PortId) (ph : Phase) (d : Device) :
    (legOuterOff p ph d).ctl = d.ctl ∧ (legOuterOff p ph d).faults = d.faults ∧ (legOuterOff p ph d).fin = d.fin ∧
    (legOuterOff p ph d).wheels = d.wheels ∧ (legOuterOff p ph d).meas = d.meas ∧ (legOuterOff p ph d).slots = d.slots ∧
    (legOuterOff p ph d).supply = d.supply ∧ (legOuterOff p ph d).chg = d.chg ∧ (legOuterOff p ph d).bchg = d.bchg ∧
    (legOuterOff p ph d).lamps = d.lamps ∧ (legOuterOff p ph d).acts = d.acts ∧ (legOuterOff p ph d).therm = d.therm ∧
    (legOuterOff p ph d).safety = d.safety ∧ (legOuterOff p ph d).dorid = d.dorid ∧ (legOuterOff p ph d).comm = d.comm ∧
    (legOuterOff p ph d).net = d.net ∧ (legOuterOff p ph d).od = d.od ∧ (legOuterOff p ph d).cross = d.cross ∧ (legOuterOff
    p ph d).bist = d.bist ∧ (legOuterOff p ph d).inj = d.inj ∧ (legOuterOff p ph d).boot = d.boot ∧ (legOuterOff p ph d).fw
    = d.fw ∧ (legOuterOff p ph d).flash = d.flash ∧ (legOuterOff p ph d).watch = d.watch ∧ (legOuterOff p ph d).fresh =
    d.fresh :=
  by unfold legOuterOff; split <;> simp

@[simp] theorem portGatesStop_frame (p : PortId) (d : Device) :
    (portGatesStop p d).ctl = d.ctl ∧ (portGatesStop p d).faults = d.faults ∧ (portGatesStop p d).gates = d.gates ∧
    (portGatesStop p d).fin = d.fin ∧ (portGatesStop p d).wheels = d.wheels ∧ (portGatesStop p d).meas = d.meas ∧
    (portGatesStop p d).slots = d.slots ∧ (portGatesStop p d).supply = d.supply ∧ (portGatesStop p d).chg = d.chg ∧
    (portGatesStop p d).bchg = d.bchg ∧ (portGatesStop p d).lamps = d.lamps ∧ (portGatesStop p d).acts = d.acts ∧
    (portGatesStop p d).therm = d.therm ∧ (portGatesStop p d).safety = d.safety ∧ (portGatesStop p d).dorid = d.dorid ∧
    (portGatesStop p d).comm = d.comm ∧ (portGatesStop p d).net = d.net ∧ (portGatesStop p d).od = d.od ∧ (portGatesStop p
    d).cross = d.cross ∧ (portGatesStop p d).bist = d.bist ∧ (portGatesStop p d).inj = d.inj ∧ (portGatesStop p d).boot =
    d.boot ∧ (portGatesStop p d).fw = d.fw ∧ (portGatesStop p d).flash = d.flash ∧ (portGatesStop p d).watch = d.watch ∧
    (portGatesStop p d).fresh = d.fresh :=
  by simp [portGatesStop]

@[simp] theorem portOff_frame (p : PortId) (d : Device) :
    (portOff p d).ctl = d.ctl ∧ (portOff p d).faults = d.faults ∧ (portOff p d).fin = d.fin ∧ (portOff p d).wheels =
    d.wheels ∧ (portOff p d).meas = d.meas ∧ (portOff p d).slots = d.slots ∧ (portOff p d).supply = d.supply ∧ (portOff p
    d).chg = d.chg ∧ (portOff p d).bchg = d.bchg ∧ (portOff p d).lamps = d.lamps ∧ (portOff p d).acts = d.acts ∧ (portOff p
    d).therm = d.therm ∧ (portOff p d).safety = d.safety ∧ (portOff p d).dorid = d.dorid ∧ (portOff p d).comm = d.comm ∧
    (portOff p d).net = d.net ∧ (portOff p d).od = d.od ∧ (portOff p d).cross = d.cross ∧ (portOff p d).bist = d.bist ∧
    (portOff p d).inj = d.inj ∧ (portOff p d).boot = d.boot ∧ (portOff p d).fw = d.fw ∧ (portOff p d).flash = d.flash ∧
    (portOff p d).watch = d.watch ∧ (portOff p d).fresh = d.fresh :=
  by simp [portOff, phases]

@[simp] theorem convOff_frame (d : Device) :
    (convOff d).ctl = d.ctl ∧ (convOff d).faults = d.faults ∧ (convOff d).portA = d.portA ∧ (convOff d).portB = d.portB ∧
    (convOff d).fin = d.fin ∧ (convOff d).wheels = d.wheels ∧ (convOff d).meas = d.meas ∧ (convOff d).chg = d.chg ∧ (convOff
    d).bchg = d.bchg ∧ (convOff d).lamps = d.lamps ∧ (convOff d).acts = d.acts ∧ (convOff d).therm = d.therm ∧ (convOff
    d).safety = d.safety ∧ (convOff d).dorid = d.dorid ∧ (convOff d).comm = d.comm ∧ (convOff d).net = d.net ∧ (convOff
    d).od = d.od ∧ (convOff d).cross = d.cross ∧ (convOff d).bist = d.bist ∧ (convOff d).inj = d.inj ∧ (convOff d).boot =
    d.boot ∧ (convOff d).fw = d.fw ∧ (convOff d).flash = d.flash ∧ (convOff d).watch = d.watch ∧ (convOff d).fresh = d.fresh :=
  by simp [convOff, Device.each]

@[simp] theorem gridOff_frame (d : Device) :
    (gridOff d).ctl = d.ctl ∧ (gridOff d).faults = d.faults ∧ (gridOff d).portA = d.portA ∧ (gridOff d).portB = d.portB ∧
    (gridOff d).fin = d.fin ∧ (gridOff d).wheels = d.wheels ∧ (gridOff d).meas = d.meas ∧ (gridOff d).supply = d.supply ∧
    (gridOff d).bchg = d.bchg ∧ (gridOff d).lamps = d.lamps ∧ (gridOff d).acts = d.acts ∧ (gridOff d).therm = d.therm ∧
    (gridOff d).safety = d.safety ∧ (gridOff d).dorid = d.dorid ∧ (gridOff d).comm = d.comm ∧ (gridOff d).net = d.net ∧
    (gridOff d).od = d.od ∧ (gridOff d).cross = d.cross ∧ (gridOff d).bist = d.bist ∧ (gridOff d).inj = d.inj ∧ (gridOff
    d).boot = d.boot ∧ (gridOff d).fw = d.fw ∧ (gridOff d).flash = d.flash ∧ (gridOff d).watch = d.watch ∧ (gridOff d).fresh
    = d.fresh :=
  by simp [gridOff]

@[simp] theorem llcOff_frame (d : Device) :
    (llcOff d).ctl = d.ctl ∧ (llcOff d).faults = d.faults ∧ (llcOff d).portA = d.portA ∧ (llcOff d).portB = d.portB ∧
    (llcOff d).fin = d.fin ∧ (llcOff d).wheels = d.wheels ∧ (llcOff d).meas = d.meas ∧ (llcOff d).chg = d.chg ∧ (llcOff
    d).bchg = d.bchg ∧ (llcOff d).lamps = d.lamps ∧ (llcOff d).acts = d.acts ∧ (llcOff d).therm = d.therm ∧ (llcOff
    d).safety = d.safety ∧ (llcOff d).dorid = d.dorid ∧ (llcOff d).comm = d.comm ∧ (llcOff d).net = d.net ∧ (llcOff d).od =
    d.od ∧ (llcOff d).cross = d.cross ∧ (llcOff d).bist = d.bist ∧ (llcOff d).inj = d.inj ∧ (llcOff d).boot = d.boot ∧
    (llcOff d).fw = d.fw ∧ (llcOff d).flash = d.flash ∧ (llcOff d).watch = d.watch ∧ (llcOff d).fresh = d.fresh :=
  by simp [llcOff, Device.each]

@[simp] theorem auxOff_frame (d : Device) :
    (auxOff d).ctl = d.ctl ∧ (auxOff d).faults = d.faults ∧ (auxOff d).portA = d.portA ∧ (auxOff d).portB = d.portB ∧
    (auxOff d).fin = d.fin ∧ (auxOff d).wheels = d.wheels ∧ (auxOff d).meas = d.meas ∧ (auxOff d).chg = d.chg ∧ (auxOff
    d).bchg = d.bchg ∧ (auxOff d).lamps = d.lamps ∧ (auxOff d).acts = d.acts ∧ (auxOff d).therm = d.therm ∧ (auxOff
    d).safety = d.safety ∧ (auxOff d).dorid = d.dorid ∧ (auxOff d).comm = d.comm ∧ (auxOff d).net = d.net ∧ (auxOff d).od =
    d.od ∧ (auxOff d).cross = d.cross ∧ (auxOff d).bist = d.bist ∧ (auxOff d).inj = d.inj ∧ (auxOff d).boot = d.boot ∧
    (auxOff d).fw = d.fw ∧ (auxOff d).flash = d.flash ∧ (auxOff d).watch = d.watch ∧ (auxOff d).fresh = d.fresh :=
  by simp [auxOff, Device.each]

@[simp] theorem actRelease_frame (n : Nat) (d : Device) :
    (actRelease n d).ctl = d.ctl ∧ (actRelease n d).faults = d.faults ∧ (actRelease n d).portA = d.portA ∧ (actRelease n
    d).portB = d.portB ∧ (actRelease n d).fin = d.fin ∧ (actRelease n d).wheels = d.wheels ∧ (actRelease n d).meas = d.meas
    ∧ (actRelease n d).slots = d.slots ∧ (actRelease n d).supply = d.supply ∧ (actRelease n d).chg = d.chg ∧ (actRelease n
    d).bchg = d.bchg ∧ (actRelease n d).lamps = d.lamps ∧ (actRelease n d).therm = d.therm ∧ (actRelease n d).safety =
    d.safety ∧ (actRelease n d).dorid = d.dorid ∧ (actRelease n d).comm = d.comm ∧ (actRelease n d).net = d.net ∧
    (actRelease n d).od = d.od ∧ (actRelease n d).cross = d.cross ∧ (actRelease n d).bist = d.bist ∧ (actRelease n d).inj =
    d.inj ∧ (actRelease n d).boot = d.boot ∧ (actRelease n d).fw = d.fw ∧ (actRelease n d).flash = d.flash ∧ (actRelease n
    d).watch = d.watch ∧ (actRelease n d).fresh = d.fresh :=
  by simp -implicitDefEqProofs [actRelease]

@[simp] theorem actOff_frame (n : Nat) (d : Device) :
    (actOff n d).ctl = d.ctl ∧ (actOff n d).faults = d.faults ∧ (actOff n d).portA = d.portA ∧ (actOff n d).portB = d.portB
    ∧ (actOff n d).fin = d.fin ∧ (actOff n d).wheels = d.wheels ∧ (actOff n d).meas = d.meas ∧ (actOff n d).slots = d.slots
    ∧ (actOff n d).supply = d.supply ∧ (actOff n d).chg = d.chg ∧ (actOff n d).bchg = d.bchg ∧ (actOff n d).lamps = d.lamps
    ∧ (actOff n d).therm = d.therm ∧ (actOff n d).safety = d.safety ∧ (actOff n d).dorid = d.dorid ∧ (actOff n d).comm =
    d.comm ∧ (actOff n d).net = d.net ∧ (actOff n d).od = d.od ∧ (actOff n d).cross = d.cross ∧ (actOff n d).bist = d.bist ∧
    (actOff n d).inj = d.inj ∧ (actOff n d).boot = d.boot ∧ (actOff n d).fw = d.fw ∧ (actOff n d).flash = d.flash ∧ (actOff
    n d).watch = d.watch ∧ (actOff n d).fresh = d.fresh :=
  by simp -implicitDefEqProofs [actOff]

@[simp] theorem portStop_frame (p : PortId) (d : Device) :
    (portStop p d).ctl = d.ctl ∧ (portStop p d).faults = d.faults ∧ (portStop p d).fin = d.fin ∧ (portStop p d).wheels =
    d.wheels ∧ (portStop p d).meas = d.meas ∧ (portStop p d).slots = d.slots ∧ (portStop p d).supply = d.supply ∧ (portStop
    p d).chg = d.chg ∧ (portStop p d).bchg = d.bchg ∧ (portStop p d).lamps = d.lamps ∧ (portStop p d).acts = d.acts ∧
    (portStop p d).therm = d.therm ∧ (portStop p d).safety = d.safety ∧ (portStop p d).dorid = d.dorid ∧ (portStop p d).comm
    = d.comm ∧ (portStop p d).net = d.net ∧ (portStop p d).od = d.od ∧ (portStop p d).cross = d.cross ∧ (portStop p d).bist
    = d.bist ∧ (portStop p d).inj = d.inj ∧ (portStop p d).boot = d.boot ∧ (portStop p d).fw = d.fw ∧ (portStop p d).flash =
    d.flash ∧ (portStop p d).watch = d.watch ∧ (portStop p d).fresh = d.fresh :=
  by unfold portStop; split <;> simp

@[simp] theorem bchgPause_frame (d : Device) :
    (bchgPause d).ctl = d.ctl ∧ (bchgPause d).faults = d.faults ∧ (bchgPause d).gates = d.gates ∧ (bchgPause d).portA =
    d.portA ∧ (bchgPause d).portB = d.portB ∧ (bchgPause d).fin = d.fin ∧ (bchgPause d).wheels = d.wheels ∧ (bchgPause
    d).meas = d.meas ∧ (bchgPause d).slots = d.slots ∧ (bchgPause d).supply = d.supply ∧ (bchgPause d).chg = d.chg ∧
    (bchgPause d).lamps = d.lamps ∧ (bchgPause d).acts = d.acts ∧ (bchgPause d).therm = d.therm ∧ (bchgPause d).safety =
    d.safety ∧ (bchgPause d).dorid = d.dorid ∧ (bchgPause d).comm = d.comm ∧ (bchgPause d).net = d.net ∧ (bchgPause d).od =
    d.od ∧ (bchgPause d).cross = d.cross ∧ (bchgPause d).bist = d.bist ∧ (bchgPause d).inj = d.inj ∧ (bchgPause d).boot =
    d.boot ∧ (bchgPause d).fw = d.fw ∧ (bchgPause d).flash = d.flash ∧ (bchgPause d).watch = d.watch ∧ (bchgPause d).fresh =
    d.fresh :=
  by refine ⟨rfl, rfl, rfl, rfl, rfl, rfl, rfl, rfl, rfl, rfl, rfl, rfl, rfl, rfl, rfl, rfl, rfl, rfl, rfl, rfl, rfl, rfl, rfl, rfl, rfl, rfl, rfl⟩

@[simp] theorem llcStop_frame (d : Device) :
    (llcStop d).ctl = d.ctl ∧ (llcStop d).faults = d.faults ∧ (llcStop d).portA = d.portA ∧ (llcStop d).portB = d.portB ∧
    (llcStop d).fin = d.fin ∧ (llcStop d).wheels = d.wheels ∧ (llcStop d).meas = d.meas ∧ (llcStop d).chg = d.chg ∧ (llcStop
    d).bchg = d.bchg ∧ (llcStop d).lamps = d.lamps ∧ (llcStop d).acts = d.acts ∧ (llcStop d).therm = d.therm ∧ (llcStop
    d).safety = d.safety ∧ (llcStop d).dorid = d.dorid ∧ (llcStop d).comm = d.comm ∧ (llcStop d).net = d.net ∧ (llcStop
    d).od = d.od ∧ (llcStop d).cross = d.cross ∧ (llcStop d).bist = d.bist ∧ (llcStop d).inj = d.inj ∧ (llcStop d).boot =
    d.boot ∧ (llcStop d).fw = d.fw ∧ (llcStop d).flash = d.flash ∧ (llcStop d).watch = d.watch ∧ (llcStop d).fresh = d.fresh :=
  by simp only [llcStop]; split <;> simp

@[simp] theorem gridStop_frame (l : Bool) (d : Device) :
    (gridStop l d).ctl = d.ctl ∧ (gridStop l d).faults = d.faults ∧ (gridStop l d).portA = d.portA ∧ (gridStop l d).portB =
    d.portB ∧ (gridStop l d).fin = d.fin ∧ (gridStop l d).wheels = d.wheels ∧ (gridStop l d).meas = d.meas ∧ (gridStop l
    d).supply = d.supply ∧ (gridStop l d).bchg = d.bchg ∧ (gridStop l d).lamps = d.lamps ∧ (gridStop l d).acts = d.acts ∧
    (gridStop l d).therm = d.therm ∧ (gridStop l d).safety = d.safety ∧ (gridStop l d).dorid = d.dorid ∧ (gridStop l d).comm
    = d.comm ∧ (gridStop l d).net = d.net ∧ (gridStop l d).od = d.od ∧ (gridStop l d).cross = d.cross ∧ (gridStop l d).bist
    = d.bist ∧ (gridStop l d).inj = d.inj ∧ (gridStop l d).boot = d.boot ∧ (gridStop l d).fw = d.fw ∧ (gridStop l d).flash =
    d.flash ∧ (gridStop l d).watch = d.watch ∧ (gridStop l d).fresh = d.fresh :=
  by simp only [gridStop]; split <;> (try split) <;> simp

@[simp] theorem stageOff_frame (l : Bool) (sg : StageGroup) (d : Device) :
    (stageOff l sg d).ctl = d.ctl ∧ (stageOff l sg d).faults = d.faults ∧ (stageOff l sg d).fin = d.fin ∧ (stageOff l sg
    d).wheels = d.wheels ∧ (stageOff l sg d).meas = d.meas ∧ (stageOff l sg d).bchg = d.bchg ∧ (stageOff l sg d).lamps =
    d.lamps ∧ (stageOff l sg d).therm = d.therm ∧ (stageOff l sg d).safety = d.safety ∧ (stageOff l sg d).dorid = d.dorid ∧
    (stageOff l sg d).comm = d.comm ∧ (stageOff l sg d).net = d.net ∧ (stageOff l sg d).od = d.od ∧ (stageOff l sg d).cross
    = d.cross ∧ (stageOff l sg d).bist = d.bist ∧ (stageOff l sg d).inj = d.inj ∧ (stageOff l sg d).boot = d.boot ∧
    (stageOff l sg d).fw = d.fw ∧ (stageOff l sg d).flash = d.flash ∧ (stageOff l sg d).watch = d.watch ∧ (stageOff l sg
    d).fresh = d.fresh :=
  by cases sg <;> simp [stageOff, Device.each]

@[simp] theorem chainStop_frame (d : Device) :
    (chainStop d).ctl = d.ctl ∧ (chainStop d).faults = d.faults ∧ (chainStop d).portA = d.portA ∧ (chainStop d).portB =
    d.portB ∧ (chainStop d).fin = d.fin ∧ (chainStop d).wheels = d.wheels ∧ (chainStop d).meas = d.meas ∧ (chainStop d).chg
    = d.chg ∧ (chainStop d).lamps = d.lamps ∧ (chainStop d).therm = d.therm ∧ (chainStop d).safety = d.safety ∧ (chainStop
    d).dorid = d.dorid ∧ (chainStop d).comm = d.comm ∧ (chainStop d).net = d.net ∧ (chainStop d).od = d.od ∧ (chainStop
    d).cross = d.cross ∧ (chainStop d).bist = d.bist ∧ (chainStop d).inj = d.inj ∧ (chainStop d).boot = d.boot ∧ (chainStop
    d).fw = d.fw ∧ (chainStop d).flash = d.flash ∧ (chainStop d).watch = d.watch ∧ (chainStop d).fresh = d.fresh :=
  ⟨(show (chainStop d).ctl = d.ctl by simp [chainStop, Device.each]),
      (show (chainStop d).faults = d.faults by simp [chainStop, Device.each]),
      (show (chainStop d).portA = d.portA by simp [chainStop, Device.each]),
      (show (chainStop d).portB = d.portB by simp [chainStop, Device.each]),
      (show (chainStop d).fin = d.fin by simp [chainStop, Device.each]),
      (show (chainStop d).wheels = d.wheels by simp [chainStop, Device.each]),
      (show (chainStop d).meas = d.meas by simp [chainStop, Device.each]),
      (show (chainStop d).chg = d.chg by simp [chainStop, Device.each]),
      (show (chainStop d).lamps = d.lamps by simp [chainStop, Device.each]),
      (show (chainStop d).therm = d.therm by simp [chainStop, Device.each]),
      (show (chainStop d).safety = d.safety by simp [chainStop, Device.each]),
      (show (chainStop d).dorid = d.dorid by simp [chainStop, Device.each]),
      (show (chainStop d).comm = d.comm by simp [chainStop, Device.each]),
      (show (chainStop d).net = d.net by simp [chainStop, Device.each]),
      (show (chainStop d).od = d.od by simp [chainStop, Device.each]),
      (show (chainStop d).cross = d.cross by simp [chainStop, Device.each]),
      (show (chainStop d).bist = d.bist by simp [chainStop, Device.each]),
      (show (chainStop d).inj = d.inj by simp [chainStop, Device.each]),
      (show (chainStop d).boot = d.boot by simp [chainStop, Device.each]),
      (show (chainStop d).fw = d.fw by simp [chainStop, Device.each]),
      (show (chainStop d).flash = d.flash by simp [chainStop, Device.each]),
      (show (chainStop d).watch = d.watch by simp [chainStop, Device.each]),
      (show (chainStop d).fresh = d.fresh by simp [chainStop, Device.each])⟩

@[simp] theorem chargeIdle_frame (d : Device) :
    (chargeIdle d).ctl = d.ctl ∧ (chargeIdle d).faults = d.faults ∧ (chargeIdle d).portA = d.portA ∧ (chargeIdle d).portB =
    d.portB ∧ (chargeIdle d).fin = d.fin ∧ (chargeIdle d).wheels = d.wheels ∧ (chargeIdle d).meas = d.meas ∧ (chargeIdle
    d).supply = d.supply ∧ (chargeIdle d).bchg = d.bchg ∧ (chargeIdle d).lamps = d.lamps ∧ (chargeIdle d).acts = d.acts ∧
    (chargeIdle d).therm = d.therm ∧ (chargeIdle d).safety = d.safety ∧ (chargeIdle d).dorid = d.dorid ∧ (chargeIdle d).comm
    = d.comm ∧ (chargeIdle d).net = d.net ∧ (chargeIdle d).od = d.od ∧ (chargeIdle d).cross = d.cross ∧ (chargeIdle d).bist
    = d.bist ∧ (chargeIdle d).inj = d.inj ∧ (chargeIdle d).boot = d.boot ∧ (chargeIdle d).fw = d.fw ∧ (chargeIdle d).flash =
    d.flash ∧ (chargeIdle d).watch = d.watch ∧ (chargeIdle d).fresh = d.fresh :=
  by simp only [chargeIdle]; split <;> simp

@[simp] theorem proofEnd_frame (d : Device) :
    (proofEnd d).ctl = d.ctl ∧ (proofEnd d).gates = d.gates ∧ (proofEnd d).portA = d.portA ∧ (proofEnd d).portB = d.portB ∧
    (proofEnd d).fin = d.fin ∧ (proofEnd d).wheels = d.wheels ∧ (proofEnd d).meas = d.meas ∧ (proofEnd d).slots = d.slots ∧
    (proofEnd d).supply = d.supply ∧ (proofEnd d).chg = d.chg ∧ (proofEnd d).bchg = d.bchg ∧ (proofEnd d).lamps = d.lamps ∧
    (proofEnd d).acts = d.acts ∧ (proofEnd d).therm = d.therm ∧ (proofEnd d).safety = d.safety ∧ (proofEnd d).dorid =
    d.dorid ∧ (proofEnd d).od = d.od ∧ (proofEnd d).cross = d.cross ∧ (proofEnd d).bist = d.bist ∧ (proofEnd d).boot =
    d.boot ∧ (proofEnd d).fw = d.fw ∧ (proofEnd d).flash = d.flash ∧ (proofEnd d).watch = d.watch ∧ (proofEnd d).fresh =
    d.fresh :=
  by simp only [proofEnd]; split <;> (try split) <;> simp

@[simp] theorem setState_frame (m : ModState) (d : Device) :
    (setState m d).portA = d.portA ∧ (setState m d).portB = d.portB ∧ (setState m d).fin = d.fin ∧ (setState m d).wheels =
    d.wheels ∧ (setState m d).meas = d.meas ∧ (setState m d).lamps = d.lamps ∧ (setState m d).therm = d.therm ∧ (setState m
    d).safety = d.safety ∧ (setState m d).dorid = d.dorid ∧ (setState m d).od = d.od ∧ (setState m d).cross = d.cross ∧
    (setState m d).bist = d.bist ∧ (setState m d).boot = d.boot ∧ (setState m d).fw = d.fw ∧ (setState m d).flash = d.flash
    ∧ (setState m d).watch = d.watch ∧ (setState m d).fresh = d.fresh :=
  by
    unfold setState
    exact ⟨((ite_keeps (·.portA) proofEnd _ _ (by simp)).trans ((ite_keeps (·.portA) (fun x => { x with chg := { x.chg with lostHold := false } }) _ _ rfl).trans ((ite_keeps (·.portA) (fun x => { x with inj := { x.inj with active := [] } }) _ _ rfl).trans ((ite_keeps (·.portA) (fun x => { x with gates := { x.gates with retestState := 3 } }) _ _ rfl).trans ((ite_keeps (·.portA) chainStop _ _ (by simp)).trans (ite_keeps (·.portA) chargeIdle _ _ (by simp))))))),
      ((ite_keeps (·.portB) proofEnd _ _ (by simp)).trans ((ite_keeps (·.portB) (fun x => { x with chg := { x.chg with lostHold := false } }) _ _ rfl).trans ((ite_keeps (·.portB) (fun x => { x with inj := { x.inj with active := [] } }) _ _ rfl).trans ((ite_keeps (·.portB) (fun x => { x with gates := { x.gates with retestState := 3 } }) _ _ rfl).trans ((ite_keeps (·.portB) chainStop _ _ (by simp)).trans (ite_keeps (·.portB) chargeIdle _ _ (by simp))))))),
      ((ite_keeps (·.fin) proofEnd _ _ (by simp)).trans ((ite_keeps (·.fin) (fun x => { x with chg := { x.chg with lostHold := false } }) _ _ rfl).trans ((ite_keeps (·.fin) (fun x => { x with inj := { x.inj with active := [] } }) _ _ rfl).trans ((ite_keeps (·.fin) (fun x => { x with gates := { x.gates with retestState := 3 } }) _ _ rfl).trans ((ite_keeps (·.fin) chainStop _ _ (by simp)).trans (ite_keeps (·.fin) chargeIdle _ _ (by simp))))))),
      ((ite_keeps (·.wheels) proofEnd _ _ (by simp)).trans ((ite_keeps (·.wheels) (fun x => { x with chg := { x.chg with lostHold := false } }) _ _ rfl).trans ((ite_keeps (·.wheels) (fun x => { x with inj := { x.inj with active := [] } }) _ _ rfl).trans ((ite_keeps (·.wheels) (fun x => { x with gates := { x.gates with retestState := 3 } }) _ _ rfl).trans ((ite_keeps (·.wheels) chainStop _ _ (by simp)).trans (ite_keeps (·.wheels) chargeIdle _ _ (by simp))))))),
      ((ite_keeps (·.meas) proofEnd _ _ (by simp)).trans ((ite_keeps (·.meas) (fun x => { x with chg := { x.chg with lostHold := false } }) _ _ rfl).trans ((ite_keeps (·.meas) (fun x => { x with inj := { x.inj with active := [] } }) _ _ rfl).trans ((ite_keeps (·.meas) (fun x => { x with gates := { x.gates with retestState := 3 } }) _ _ rfl).trans ((ite_keeps (·.meas) chainStop _ _ (by simp)).trans (ite_keeps (·.meas) chargeIdle _ _ (by simp))))))),
      ((ite_keeps (·.lamps) proofEnd _ _ (by simp)).trans ((ite_keeps (·.lamps) (fun x => { x with chg := { x.chg with lostHold := false } }) _ _ rfl).trans ((ite_keeps (·.lamps) (fun x => { x with inj := { x.inj with active := [] } }) _ _ rfl).trans ((ite_keeps (·.lamps) (fun x => { x with gates := { x.gates with retestState := 3 } }) _ _ rfl).trans ((ite_keeps (·.lamps) chainStop _ _ (by simp)).trans (ite_keeps (·.lamps) chargeIdle _ _ (by simp))))))),
      ((ite_keeps (·.therm) proofEnd _ _ (by simp)).trans ((ite_keeps (·.therm) (fun x => { x with chg := { x.chg with lostHold := false } }) _ _ rfl).trans ((ite_keeps (·.therm) (fun x => { x with inj := { x.inj with active := [] } }) _ _ rfl).trans ((ite_keeps (·.therm) (fun x => { x with gates := { x.gates with retestState := 3 } }) _ _ rfl).trans ((ite_keeps (·.therm) chainStop _ _ (by simp)).trans (ite_keeps (·.therm) chargeIdle _ _ (by simp))))))),
      ((ite_keeps (·.safety) proofEnd _ _ (by simp)).trans ((ite_keeps (·.safety) (fun x => { x with chg := { x.chg with lostHold := false } }) _ _ rfl).trans ((ite_keeps (·.safety) (fun x => { x with inj := { x.inj with active := [] } }) _ _ rfl).trans ((ite_keeps (·.safety) (fun x => { x with gates := { x.gates with retestState := 3 } }) _ _ rfl).trans ((ite_keeps (·.safety) chainStop _ _ (by simp)).trans (ite_keeps (·.safety) chargeIdle _ _ (by simp))))))),
      ((ite_keeps (·.dorid) proofEnd _ _ (by simp)).trans ((ite_keeps (·.dorid) (fun x => { x with chg := { x.chg with lostHold := false } }) _ _ rfl).trans ((ite_keeps (·.dorid) (fun x => { x with inj := { x.inj with active := [] } }) _ _ rfl).trans ((ite_keeps (·.dorid) (fun x => { x with gates := { x.gates with retestState := 3 } }) _ _ rfl).trans ((ite_keeps (·.dorid) chainStop _ _ (by simp)).trans (ite_keeps (·.dorid) chargeIdle _ _ (by simp))))))),
      ((ite_keeps (·.od) proofEnd _ _ (by simp)).trans ((ite_keeps (·.od) (fun x => { x with chg := { x.chg with lostHold := false } }) _ _ rfl).trans ((ite_keeps (·.od) (fun x => { x with inj := { x.inj with active := [] } }) _ _ rfl).trans ((ite_keeps (·.od) (fun x => { x with gates := { x.gates with retestState := 3 } }) _ _ rfl).trans ((ite_keeps (·.od) chainStop _ _ (by simp)).trans (ite_keeps (·.od) chargeIdle _ _ (by simp))))))),
      ((ite_keeps (·.cross) proofEnd _ _ (by simp)).trans ((ite_keeps (·.cross) (fun x => { x with chg := { x.chg with lostHold := false } }) _ _ rfl).trans ((ite_keeps (·.cross) (fun x => { x with inj := { x.inj with active := [] } }) _ _ rfl).trans ((ite_keeps (·.cross) (fun x => { x with gates := { x.gates with retestState := 3 } }) _ _ rfl).trans ((ite_keeps (·.cross) chainStop _ _ (by simp)).trans (ite_keeps (·.cross) chargeIdle _ _ (by simp))))))),
      ((ite_keeps (·.bist) proofEnd _ _ (by simp)).trans ((ite_keeps (·.bist) (fun x => { x with chg := { x.chg with lostHold := false } }) _ _ rfl).trans ((ite_keeps (·.bist) (fun x => { x with inj := { x.inj with active := [] } }) _ _ rfl).trans ((ite_keeps (·.bist) (fun x => { x with gates := { x.gates with retestState := 3 } }) _ _ rfl).trans ((ite_keeps (·.bist) chainStop _ _ (by simp)).trans (ite_keeps (·.bist) chargeIdle _ _ (by simp))))))),
      ((ite_keeps (·.boot) proofEnd _ _ (by simp)).trans ((ite_keeps (·.boot) (fun x => { x with chg := { x.chg with lostHold := false } }) _ _ rfl).trans ((ite_keeps (·.boot) (fun x => { x with inj := { x.inj with active := [] } }) _ _ rfl).trans ((ite_keeps (·.boot) (fun x => { x with gates := { x.gates with retestState := 3 } }) _ _ rfl).trans ((ite_keeps (·.boot) chainStop _ _ (by simp)).trans (ite_keeps (·.boot) chargeIdle _ _ (by simp))))))),
      ((ite_keeps (·.fw) proofEnd _ _ (by simp)).trans ((ite_keeps (·.fw) (fun x => { x with chg := { x.chg with lostHold := false } }) _ _ rfl).trans ((ite_keeps (·.fw) (fun x => { x with inj := { x.inj with active := [] } }) _ _ rfl).trans ((ite_keeps (·.fw) (fun x => { x with gates := { x.gates with retestState := 3 } }) _ _ rfl).trans ((ite_keeps (·.fw) chainStop _ _ (by simp)).trans (ite_keeps (·.fw) chargeIdle _ _ (by simp))))))),
      ((ite_keeps (·.flash) proofEnd _ _ (by simp)).trans ((ite_keeps (·.flash) (fun x => { x with chg := { x.chg with lostHold := false } }) _ _ rfl).trans ((ite_keeps (·.flash) (fun x => { x with inj := { x.inj with active := [] } }) _ _ rfl).trans ((ite_keeps (·.flash) (fun x => { x with gates := { x.gates with retestState := 3 } }) _ _ rfl).trans ((ite_keeps (·.flash) chainStop _ _ (by simp)).trans (ite_keeps (·.flash) chargeIdle _ _ (by simp))))))),
      ((ite_keeps (·.watch) proofEnd _ _ (by simp)).trans ((ite_keeps (·.watch) (fun x => { x with chg := { x.chg with lostHold := false } }) _ _ rfl).trans ((ite_keeps (·.watch) (fun x => { x with inj := { x.inj with active := [] } }) _ _ rfl).trans ((ite_keeps (·.watch) (fun x => { x with gates := { x.gates with retestState := 3 } }) _ _ rfl).trans ((ite_keeps (·.watch) chainStop _ _ (by simp)).trans (ite_keeps (·.watch) chargeIdle _ _ (by simp))))))),
      ((ite_keeps (·.fresh) proofEnd _ _ (by simp)).trans ((ite_keeps (·.fresh) (fun x => { x with chg := { x.chg with lostHold := false } }) _ _ rfl).trans ((ite_keeps (·.fresh) (fun x => { x with inj := { x.inj with active := [] } }) _ _ rfl).trans ((ite_keeps (·.fresh) (fun x => { x with gates := { x.gates with retestState := 3 } }) _ _ rfl).trans ((ite_keeps (·.fresh) chainStop _ _ (by simp)).trans (ite_keeps (·.fresh) chargeIdle _ _ (by simp)))))))⟩

@[simp] theorem enterSafe_frame (d : Device) :
    (enterSafe d).fin = d.fin ∧ (enterSafe d).wheels = d.wheels ∧ (enterSafe d).meas = d.meas ∧ (enterSafe d).lamps =
    d.lamps ∧ (enterSafe d).therm = d.therm ∧ (enterSafe d).safety = d.safety ∧ (enterSafe d).dorid = d.dorid ∧ (enterSafe
    d).od = d.od ∧ (enterSafe d).cross = d.cross ∧ (enterSafe d).bist = d.bist ∧ (enterSafe d).boot = d.boot ∧ (enterSafe
    d).fw = d.fw ∧ (enterSafe d).flash = d.flash ∧ (enterSafe d).watch = d.watch ∧ (enterSafe d).fresh = d.fresh :=
  by simp only [enterSafe]; split <;> simp [Scope.stages, Device.each]

@[simp] theorem each_stageOff_frame (l : Bool) (sgs : List StageGroup) (d : Device) :
    (Device.each sgs (stageOff l) d).ctl = d.ctl ∧ (Device.each sgs (stageOff l) d).faults = d.faults ∧ (Device.each sgs
    (stageOff l) d).fin = d.fin ∧ (Device.each sgs (stageOff l) d).wheels = d.wheels ∧ (Device.each sgs (stageOff l) d).meas
    = d.meas ∧ (Device.each sgs (stageOff l) d).bchg = d.bchg ∧ (Device.each sgs (stageOff l) d).lamps = d.lamps ∧
    (Device.each sgs (stageOff l) d).therm = d.therm ∧ (Device.each sgs (stageOff l) d).safety = d.safety ∧ (Device.each sgs
    (stageOff l) d).dorid = d.dorid ∧ (Device.each sgs (stageOff l) d).comm = d.comm ∧ (Device.each sgs (stageOff l) d).net
    = d.net ∧ (Device.each sgs (stageOff l) d).od = d.od ∧ (Device.each sgs (stageOff l) d).cross = d.cross ∧ (Device.each
    sgs (stageOff l) d).bist = d.bist ∧ (Device.each sgs (stageOff l) d).inj = d.inj ∧ (Device.each sgs (stageOff l) d).boot
    = d.boot ∧ (Device.each sgs (stageOff l) d).fw = d.fw ∧ (Device.each sgs (stageOff l) d).flash = d.flash ∧ (Device.each
    sgs (stageOff l) d).watch = d.watch ∧ (Device.each sgs (stageOff l) d).fresh = d.fresh :=
  ⟨Device.each_keeps (·.ctl) _ (fun _ _ => by simp) _ _,
      Device.each_keeps (·.faults) _ (fun _ _ => by simp) _ _,
      Device.each_keeps (·.fin) _ (fun _ _ => by simp) _ _,
      Device.each_keeps (·.wheels) _ (fun _ _ => by simp) _ _,
      Device.each_keeps (·.meas) _ (fun _ _ => by simp) _ _,
      Device.each_keeps (·.bchg) _ (fun _ _ => by simp) _ _,
      Device.each_keeps (·.lamps) _ (fun _ _ => by simp) _ _,
      Device.each_keeps (·.therm) _ (fun _ _ => by simp) _ _,
      Device.each_keeps (·.safety) _ (fun _ _ => by simp) _ _,
      Device.each_keeps (·.dorid) _ (fun _ _ => by simp) _ _,
      Device.each_keeps (·.comm) _ (fun _ _ => by simp) _ _,
      Device.each_keeps (·.net) _ (fun _ _ => by simp) _ _,
      Device.each_keeps (·.od) _ (fun _ _ => by simp) _ _,
      Device.each_keeps (·.cross) _ (fun _ _ => by simp) _ _,
      Device.each_keeps (·.bist) _ (fun _ _ => by simp) _ _,
      Device.each_keeps (·.inj) _ (fun _ _ => by simp) _ _,
      Device.each_keeps (·.boot) _ (fun _ _ => by simp) _ _,
      Device.each_keeps (·.fw) _ (fun _ _ => by simp) _ _,
      Device.each_keeps (·.flash) _ (fun _ _ => by simp) _ _,
      Device.each_keeps (·.watch) _ (fun _ _ => by simp) _ _,
      Device.each_keeps (·.fresh) _ (fun _ _ => by simp) _ _⟩

@[simp] theorem f2Stage_frame (sg : StageGroup) (d : Device) :
    (f2Stage sg d).ctl = d.ctl ∧ (f2Stage sg d).faults = d.faults ∧ (f2Stage sg d).portA = d.portA ∧ (f2Stage sg d).portB =
    d.portB ∧ (f2Stage sg d).fin = d.fin ∧ (f2Stage sg d).wheels = d.wheels ∧ (f2Stage sg d).meas = d.meas ∧ (f2Stage sg
    d).chg = d.chg ∧ (f2Stage sg d).bchg = d.bchg ∧ (f2Stage sg d).lamps = d.lamps ∧ (f2Stage sg d).therm = d.therm ∧
    (f2Stage sg d).safety = d.safety ∧ (f2Stage sg d).dorid = d.dorid ∧ (f2Stage sg d).comm = d.comm ∧ (f2Stage sg d).net =
    d.net ∧ (f2Stage sg d).od = d.od ∧ (f2Stage sg d).cross = d.cross ∧ (f2Stage sg d).bist = d.bist ∧ (f2Stage sg d).inj =
    d.inj ∧ (f2Stage sg d).boot = d.boot ∧ (f2Stage sg d).fw = d.fw ∧ (f2Stage sg d).flash = d.flash ∧ (f2Stage sg d).watch
    = d.watch ∧ (f2Stage sg d).fresh = d.fresh :=
  by cases sg <;> simp [f2Stage, Device.each]

@[simp] theorem each_f2Stage_frame (sgs : List StageGroup) (d : Device) :
    (Device.each sgs f2Stage d).ctl = d.ctl ∧ (Device.each sgs f2Stage d).faults = d.faults ∧ (Device.each sgs f2Stage
    d).portA = d.portA ∧ (Device.each sgs f2Stage d).portB = d.portB ∧ (Device.each sgs f2Stage d).fin = d.fin ∧
    (Device.each sgs f2Stage d).wheels = d.wheels ∧ (Device.each sgs f2Stage d).meas = d.meas ∧ (Device.each sgs f2Stage
    d).chg = d.chg ∧ (Device.each sgs f2Stage d).bchg = d.bchg ∧ (Device.each sgs f2Stage d).lamps = d.lamps ∧ (Device.each
    sgs f2Stage d).therm = d.therm ∧ (Device.each sgs f2Stage d).safety = d.safety ∧ (Device.each sgs f2Stage d).dorid =
    d.dorid ∧ (Device.each sgs f2Stage d).comm = d.comm ∧ (Device.each sgs f2Stage d).net = d.net ∧ (Device.each sgs f2Stage
    d).od = d.od ∧ (Device.each sgs f2Stage d).cross = d.cross ∧ (Device.each sgs f2Stage d).bist = d.bist ∧ (Device.each
    sgs f2Stage d).inj = d.inj ∧ (Device.each sgs f2Stage d).boot = d.boot ∧ (Device.each sgs f2Stage d).fw = d.fw ∧
    (Device.each sgs f2Stage d).flash = d.flash ∧ (Device.each sgs f2Stage d).watch = d.watch ∧ (Device.each sgs f2Stage
    d).fresh = d.fresh :=
  ⟨Device.each_keeps (·.ctl) _ (fun _ _ => by simp) _ _,
      Device.each_keeps (·.faults) _ (fun _ _ => by simp) _ _,
      Device.each_keeps (·.portA) _ (fun _ _ => by simp) _ _,
      Device.each_keeps (·.portB) _ (fun _ _ => by simp) _ _,
      Device.each_keeps (·.fin) _ (fun _ _ => by simp) _ _,
      Device.each_keeps (·.wheels) _ (fun _ _ => by simp) _ _,
      Device.each_keeps (·.meas) _ (fun _ _ => by simp) _ _,
      Device.each_keeps (·.chg) _ (fun _ _ => by simp) _ _,
      Device.each_keeps (·.bchg) _ (fun _ _ => by simp) _ _,
      Device.each_keeps (·.lamps) _ (fun _ _ => by simp) _ _,
      Device.each_keeps (·.therm) _ (fun _ _ => by simp) _ _,
      Device.each_keeps (·.safety) _ (fun _ _ => by simp) _ _,
      Device.each_keeps (·.dorid) _ (fun _ _ => by simp) _ _,
      Device.each_keeps (·.comm) _ (fun _ _ => by simp) _ _,
      Device.each_keeps (·.net) _ (fun _ _ => by simp) _ _,
      Device.each_keeps (·.od) _ (fun _ _ => by simp) _ _,
      Device.each_keeps (·.cross) _ (fun _ _ => by simp) _ _,
      Device.each_keeps (·.bist) _ (fun _ _ => by simp) _ _,
      Device.each_keeps (·.inj) _ (fun _ _ => by simp) _ _,
      Device.each_keeps (·.boot) _ (fun _ _ => by simp) _ _,
      Device.each_keeps (·.fw) _ (fun _ _ => by simp) _ _,
      Device.each_keeps (·.flash) _ (fun _ _ => by simp) _ _,
      Device.each_keeps (·.watch) _ (fun _ _ => by simp) _ _,
      Device.each_keeps (·.fresh) _ (fun _ _ => by simp) _ _⟩

@[simp] theorem sliceReact_frame (a : Scope × Nat) (d : Device) :
    (sliceReact a d).ctl = d.ctl ∧ (sliceReact a d).faults = d.faults ∧ (sliceReact a d).gates = d.gates ∧ (sliceReact a
    d).portA = d.portA ∧ (sliceReact a d).portB = d.portB ∧ (sliceReact a d).fin = d.fin ∧ (sliceReact a d).wheels =
    d.wheels ∧ (sliceReact a d).slots = d.slots ∧ (sliceReact a d).supply = d.supply ∧ (sliceReact a d).chg = d.chg ∧
    (sliceReact a d).bchg = d.bchg ∧ (sliceReact a d).lamps = d.lamps ∧ (sliceReact a d).acts = d.acts ∧ (sliceReact a
    d).therm = d.therm ∧ (sliceReact a d).safety = d.safety ∧ (sliceReact a d).dorid = d.dorid ∧ (sliceReact a d).comm =
    d.comm ∧ (sliceReact a d).net = d.net ∧ (sliceReact a d).od = d.od ∧ (sliceReact a d).cross = d.cross ∧ (sliceReact a
    d).bist = d.bist ∧ (sliceReact a d).inj = d.inj ∧ (sliceReact a d).boot = d.boot ∧ (sliceReact a d).fw = d.fw ∧
    (sliceReact a d).flash = d.flash ∧ (sliceReact a d).watch = d.watch ∧ (sliceReact a d).fresh = d.fresh :=
  by unfold sliceReact sliceAbort; split <;> (try split) <;> simp

@[simp] theorem reactOne_frame (l : Bool) (a : Scope × Nat) (d : Device) :
    (reactOne l a d).fin = d.fin ∧ (reactOne l a d).wheels = d.wheels ∧ (reactOne l a d).lamps = d.lamps ∧ (reactOne l a
    d).therm = d.therm ∧ (reactOne l a d).safety = d.safety ∧ (reactOne l a d).dorid = d.dorid ∧ (reactOne l a d).od = d.od
    ∧ (reactOne l a d).cross = d.cross ∧ (reactOne l a d).bist = d.bist ∧ (reactOne l a d).boot = d.boot ∧ (reactOne l a
    d).fw = d.fw ∧ (reactOne l a d).flash = d.flash ∧ (reactOne l a d).watch = d.watch ∧ (reactOne l a d).fresh = d.fresh :=
  by
      unfold reactOne; dsimp only; split
      · simp
      · split <;> simp [each_stageOff_frame]
      · split <;> simp
      · simp

@[simp] theorem each_reactOne_frame (l : Bool) (acts : List (Scope × Nat)) (d : Device) :
    (Device.each acts (reactOne l) d).fin = d.fin ∧ (Device.each acts (reactOne l) d).wheels = d.wheels ∧ (Device.each acts
    (reactOne l) d).lamps = d.lamps ∧ (Device.each acts (reactOne l) d).therm = d.therm ∧ (Device.each acts (reactOne l)
    d).safety = d.safety ∧ (Device.each acts (reactOne l) d).dorid = d.dorid ∧ (Device.each acts (reactOne l) d).od = d.od ∧
    (Device.each acts (reactOne l) d).cross = d.cross ∧ (Device.each acts (reactOne l) d).bist = d.bist ∧ (Device.each acts
    (reactOne l) d).boot = d.boot ∧ (Device.each acts (reactOne l) d).fw = d.fw ∧ (Device.each acts (reactOne l) d).flash =
    d.flash ∧ (Device.each acts (reactOne l) d).watch = d.watch ∧ (Device.each acts (reactOne l) d).fresh = d.fresh :=
  ⟨Device.each_keeps (·.fin) _ (fun _ _ => by simp) _ _,
      Device.each_keeps (·.wheels) _ (fun _ _ => by simp) _ _,
      Device.each_keeps (·.lamps) _ (fun _ _ => by simp) _ _,
      Device.each_keeps (·.therm) _ (fun _ _ => by simp) _ _,
      Device.each_keeps (·.safety) _ (fun _ _ => by simp) _ _,
      Device.each_keeps (·.dorid) _ (fun _ _ => by simp) _ _,
      Device.each_keeps (·.od) _ (fun _ _ => by simp) _ _,
      Device.each_keeps (·.cross) _ (fun _ _ => by simp) _ _,
      Device.each_keeps (·.bist) _ (fun _ _ => by simp) _ _,
      Device.each_keeps (·.boot) _ (fun _ _ => by simp) _ _,
      Device.each_keeps (·.fw) _ (fun _ _ => by simp) _ _,
      Device.each_keeps (·.flash) _ (fun _ _ => by simp) _ _,
      Device.each_keeps (·.watch) _ (fun _ _ => by simp) _ _,
      Device.each_keeps (·.fresh) _ (fun _ _ => by simp) _ _⟩

@[simp] theorem injHit_frame (f : FaultName) (sc : Scope) (d : Device) :
    (injHit f sc d).ctl = d.ctl ∧ (injHit f sc d).faults = d.faults ∧ (injHit f sc d).gates = d.gates ∧ (injHit f sc
    d).portA = d.portA ∧ (injHit f sc d).portB = d.portB ∧ (injHit f sc d).fin = d.fin ∧ (injHit f sc d).wheels = d.wheels ∧
    (injHit f sc d).meas = d.meas ∧ (injHit f sc d).slots = d.slots ∧ (injHit f sc d).supply = d.supply ∧ (injHit f sc
    d).chg = d.chg ∧ (injHit f sc d).bchg = d.bchg ∧ (injHit f sc d).lamps = d.lamps ∧ (injHit f sc d).acts = d.acts ∧
    (injHit f sc d).therm = d.therm ∧ (injHit f sc d).safety = d.safety ∧ (injHit f sc d).dorid = d.dorid ∧ (injHit f sc
    d).comm = d.comm ∧ (injHit f sc d).net = d.net ∧ (injHit f sc d).od = d.od ∧ (injHit f sc d).cross = d.cross ∧ (injHit f
    sc d).bist = d.bist ∧ (injHit f sc d).boot = d.boot ∧ (injHit f sc d).fw = d.fw ∧ (injHit f sc d).flash = d.flash ∧
    (injHit f sc d).watch = d.watch :=
  by simp only [injHit]; split <;> simp

@[simp] theorem sbcOff_frame (p : PortId) (d : Device) :
    (sbcOff p d).ctl = d.ctl ∧ (sbcOff p d).faults = d.faults ∧ (sbcOff p d).gates = d.gates ∧ (sbcOff p d).portA = d.portA
    ∧ (sbcOff p d).portB = d.portB ∧ (sbcOff p d).fin = d.fin ∧ (sbcOff p d).wheels = d.wheels ∧ (sbcOff p d).meas = d.meas
    ∧ (sbcOff p d).slots = d.slots ∧ (sbcOff p d).supply = d.supply ∧ (sbcOff p d).chg = d.chg ∧ (sbcOff p d).bchg = d.bchg
    ∧ (sbcOff p d).lamps = d.lamps ∧ (sbcOff p d).acts = d.acts ∧ (sbcOff p d).therm = d.therm ∧ (sbcOff p d).dorid =
    d.dorid ∧ (sbcOff p d).comm = d.comm ∧ (sbcOff p d).net = d.net ∧ (sbcOff p d).od = d.od ∧ (sbcOff p d).cross = d.cross
    ∧ (sbcOff p d).bist = d.bist ∧ (sbcOff p d).inj = d.inj ∧ (sbcOff p d).boot = d.boot ∧ (sbcOff p d).fw = d.fw ∧ (sbcOff
    p d).flash = d.flash ∧ (sbcOff p d).watch = d.watch ∧ (sbcOff p d).fresh = d.fresh :=
  by refine ⟨rfl, rfl, rfl, rfl, rfl, rfl, rfl, rfl, rfl, rfl, rfl, rfl, rfl, rfl, rfl, rfl, rfl, rfl, rfl, rfl, rfl, rfl, rfl, rfl, rfl, rfl, rfl⟩

@[simp] theorem brakeHit_frame (f : FaultName) (acts : List (Scope × Nat)) (d : Device) :
    (brakeHit f acts d).ctl = d.ctl ∧ (brakeHit f acts d).faults = d.faults ∧ (brakeHit f acts d).gates = d.gates ∧
    (brakeHit f acts d).portA = d.portA ∧ (brakeHit f acts d).portB = d.portB ∧ (brakeHit f acts d).fin = d.fin ∧ (brakeHit
    f acts d).wheels = d.wheels ∧ (brakeHit f acts d).meas = d.meas ∧ (brakeHit f acts d).slots = d.slots ∧ (brakeHit f acts
    d).supply = d.supply ∧ (brakeHit f acts d).chg = d.chg ∧ (brakeHit f acts d).bchg = d.bchg ∧ (brakeHit f acts d).lamps =
    d.lamps ∧ (brakeHit f acts d).acts = d.acts ∧ (brakeHit f acts d).therm = d.therm ∧ (brakeHit f acts d).dorid = d.dorid
    ∧ (brakeHit f acts d).comm = d.comm ∧ (brakeHit f acts d).net = d.net ∧ (brakeHit f acts d).od = d.od ∧ (brakeHit f acts
    d).cross = d.cross ∧ (brakeHit f acts d).bist = d.bist ∧ (brakeHit f acts d).inj = d.inj ∧ (brakeHit f acts d).boot =
    d.boot ∧ (brakeHit f acts d).fw = d.fw ∧ (brakeHit f acts d).flash = d.flash ∧ (brakeHit f acts d).watch = d.watch ∧
    (brakeHit f acts d).fresh = d.fresh :=
  by
    unfold brakeHit
    exact ⟨(show _ = d.ctl by split <;> first | rfl | exact Device.each_keeps (·.ctl) _ (fun _ _ => by simp) _ _),
      (show _ = d.faults by split <;> first | rfl | exact Device.each_keeps (·.faults) _ (fun _ _ => by simp) _ _),
      (show _ = d.gates by split <;> first | rfl | exact Device.each_keeps (·.gates) _ (fun _ _ => by simp) _ _),
      (show _ = d.portA by split <;> first | rfl | exact Device.each_keeps (·.portA) _ (fun _ _ => by simp) _ _),
      (show _ = d.portB by split <;> first | rfl | exact Device.each_keeps (·.portB) _ (fun _ _ => by simp) _ _),
      (show _ = d.fin by split <;> first | rfl | exact Device.each_keeps (·.fin) _ (fun _ _ => by simp) _ _),
      (show _ = d.wheels by split <;> first | rfl | exact Device.each_keeps (·.wheels) _ (fun _ _ => by simp) _ _),
      (show _ = d.meas by split <;> first | rfl | exact Device.each_keeps (·.meas) _ (fun _ _ => by simp) _ _),
      (show _ = d.slots by split <;> first | rfl | exact Device.each_keeps (·.slots) _ (fun _ _ => by simp) _ _),
      (show _ = d.supply by split <;> first | rfl | exact Device.each_keeps (·.supply) _ (fun _ _ => by simp) _ _),
      (show _ = d.chg by split <;> first | rfl | exact Device.each_keeps (·.chg) _ (fun _ _ => by simp) _ _),
      (show _ = d.bchg by split <;> first | rfl | exact Device.each_keeps (·.bchg) _ (fun _ _ => by simp) _ _),
      (show _ = d.lamps by split <;> first | rfl | exact Device.each_keeps (·.lamps) _ (fun _ _ => by simp) _ _),
      (show _ = d.acts by split <;> first | rfl | exact Device.each_keeps (·.acts) _ (fun _ _ => by simp) _ _),
      (show _ = d.therm by split <;> first | rfl | exact Device.each_keeps (·.therm) _ (fun _ _ => by simp) _ _),
      (show _ = d.dorid by split <;> first | rfl | exact Device.each_keeps (·.dorid) _ (fun _ _ => by simp) _ _),
      (show _ = d.comm by split <;> first | rfl | exact Device.each_keeps (·.comm) _ (fun _ _ => by simp) _ _),
      (show _ = d.net by split <;> first | rfl | exact Device.each_keeps (·.net) _ (fun _ _ => by simp) _ _),
      (show _ = d.od by split <;> first | rfl | exact Device.each_keeps (·.od) _ (fun _ _ => by simp) _ _),
      (show _ = d.cross by split <;> first | rfl | exact Device.each_keeps (·.cross) _ (fun _ _ => by simp) _ _),
      (show _ = d.bist by split <;> first | rfl | exact Device.each_keeps (·.bist) _ (fun _ _ => by simp) _ _),
      (show _ = d.inj by split <;> first | rfl | exact Device.each_keeps (·.inj) _ (fun _ _ => by simp) _ _),
      (show _ = d.boot by split <;> first | rfl | exact Device.each_keeps (·.boot) _ (fun _ _ => by simp) _ _),
      (show _ = d.fw by split <;> first | rfl | exact Device.each_keeps (·.fw) _ (fun _ _ => by simp) _ _),
      (show _ = d.flash by split <;> first | rfl | exact Device.each_keeps (·.flash) _ (fun _ _ => by simp) _ _),
      (show _ = d.watch by split <;> first | rfl | exact Device.each_keeps (·.watch) _ (fun _ _ => by simp) _ _),
      (show _ = d.fresh by split <;> first | rfl | exact Device.each_keeps (·.fresh) _ (fun _ _ => by simp) _ _)⟩

@[simp] theorem raiseActs_frame (f : FaultName) (sc : Scope) (r : Nat) (acts : List (Scope × Nat)) (d : Device) :
    (raiseActs f sc r acts d).fin = d.fin ∧ (raiseActs f sc r acts d).wheels = d.wheels ∧ (raiseActs f sc r acts d).lamps =
    d.lamps ∧ (raiseActs f sc r acts d).therm = d.therm ∧ (raiseActs f sc r acts d).dorid = d.dorid ∧ (raiseActs f sc r acts
    d).od = d.od ∧ (raiseActs f sc r acts d).cross = d.cross ∧ (raiseActs f sc r acts d).bist = d.bist ∧ (raiseActs f sc r
    acts d).boot = d.boot ∧ (raiseActs f sc r acts d).fw = d.fw ∧ (raiseActs f sc r acts d).flash = d.flash ∧ (raiseActs f
    sc r acts d).watch = d.watch :=
  by simp only [raiseActs]; split <;> (try split) <;> simp [each_reactOne_frame]

@[simp] theorem raise_frame (f : FaultName) (sc : Scope) (r : Nat) (d : Device) :
    (raise f sc r d).fin = d.fin ∧ (raise f sc r d).wheels = d.wheels ∧ (raise f sc r d).lamps = d.lamps ∧ (raise f sc r
    d).therm = d.therm ∧ (raise f sc r d).dorid = d.dorid ∧ (raise f sc r d).od = d.od ∧ (raise f sc r d).cross = d.cross ∧
    (raise f sc r d).bist = d.bist ∧ (raise f sc r d).boot = d.boot ∧ (raise f sc r d).fw = d.fw ∧ (raise f sc r d).flash =
    d.flash ∧ (raise f sc r d).watch = d.watch :=
  by simp [raise]

@[simp] theorem clearFault_frame (f : FaultName) (sc : Scope) (d : Device) :
    (clearFault f sc d).ctl = d.ctl ∧ (clearFault f sc d).gates = d.gates ∧ (clearFault f sc d).portA = d.portA ∧
    (clearFault f sc d).portB = d.portB ∧ (clearFault f sc d).fin = d.fin ∧ (clearFault f sc d).wheels = d.wheels ∧
    (clearFault f sc d).meas = d.meas ∧ (clearFault f sc d).slots = d.slots ∧ (clearFault f sc d).supply = d.supply ∧
    (clearFault f sc d).chg = d.chg ∧ (clearFault f sc d).bchg = d.bchg ∧ (clearFault f sc d).lamps = d.lamps ∧ (clearFault
    f sc d).acts = d.acts ∧ (clearFault f sc d).therm = d.therm ∧ (clearFault f sc d).safety = d.safety ∧ (clearFault f sc
    d).dorid = d.dorid ∧ (clearFault f sc d).comm = d.comm ∧ (clearFault f sc d).od = d.od ∧ (clearFault f sc d).cross =
    d.cross ∧ (clearFault f sc d).bist = d.bist ∧ (clearFault f sc d).inj = d.inj ∧ (clearFault f sc d).boot = d.boot ∧
    (clearFault f sc d).fw = d.fw ∧ (clearFault f sc d).flash = d.flash ∧ (clearFault f sc d).watch = d.watch ∧ (clearFault
    f sc d).fresh = d.fresh :=
  by unfold clearFault; split <;> simp

@[simp] theorem clearAll_frame (f : FaultName) (d : Device) :
    (clearAll f d).ctl = d.ctl ∧ (clearAll f d).gates = d.gates ∧ (clearAll f d).portA = d.portA ∧ (clearAll f d).portB =
    d.portB ∧ (clearAll f d).fin = d.fin ∧ (clearAll f d).wheels = d.wheels ∧ (clearAll f d).meas = d.meas ∧ (clearAll f
    d).slots = d.slots ∧ (clearAll f d).supply = d.supply ∧ (clearAll f d).chg = d.chg ∧ (clearAll f d).bchg = d.bchg ∧
    (clearAll f d).lamps = d.lamps ∧ (clearAll f d).acts = d.acts ∧ (clearAll f d).therm = d.therm ∧ (clearAll f d).safety =
    d.safety ∧ (clearAll f d).dorid = d.dorid ∧ (clearAll f d).comm = d.comm ∧ (clearAll f d).od = d.od ∧ (clearAll f
    d).cross = d.cross ∧ (clearAll f d).bist = d.bist ∧ (clearAll f d).inj = d.inj ∧ (clearAll f d).boot = d.boot ∧
    (clearAll f d).fw = d.fw ∧ (clearAll f d).flash = d.flash ∧ (clearAll f d).watch = d.watch ∧ (clearAll f d).fresh =
    d.fresh :=
  by
    unfold clearAll
    exact ⟨Device.each_keeps (·.ctl) _ (fun _ _ => by simp) _ _,
      Device.each_keeps (·.gates) _ (fun _ _ => by simp) _ _,
      Device.each_keeps (·.portA) _ (fun _ _ => by simp) _ _,
      Device.each_keeps (·.portB) _ (fun _ _ => by simp) _ _,
      Device.each_keeps (·.fin) _ (fun _ _ => by simp) _ _,
      Device.each_keeps (·.wheels) _ (fun _ _ => by simp) _ _,
      Device.each_keeps (·.meas) _ (fun _ _ => by simp) _ _,
      Device.each_keeps (·.slots) _ (fun _ _ => by simp) _ _,
      Device.each_keeps (·.supply) _ (fun _ _ => by simp) _ _,
      Device.each_keeps (·.chg) _ (fun _ _ => by simp) _ _,
      Device.each_keeps (·.bchg) _ (fun _ _ => by simp) _ _,
      Device.each_keeps (·.lamps) _ (fun _ _ => by simp) _ _,
      Device.each_keeps (·.acts) _ (fun _ _ => by simp) _ _,
      Device.each_keeps (·.therm) _ (fun _ _ => by simp) _ _,
      Device.each_keeps (·.safety) _ (fun _ _ => by simp) _ _,
      Device.each_keeps (·.dorid) _ (fun _ _ => by simp) _ _,
      Device.each_keeps (·.comm) _ (fun _ _ => by simp) _ _,
      Device.each_keeps (·.od) _ (fun _ _ => by simp) _ _,
      Device.each_keeps (·.cross) _ (fun _ _ => by simp) _ _,
      Device.each_keeps (·.bist) _ (fun _ _ => by simp) _ _,
      Device.each_keeps (·.inj) _ (fun _ _ => by simp) _ _,
      Device.each_keeps (·.boot) _ (fun _ _ => by simp) _ _,
      Device.each_keeps (·.fw) _ (fun _ _ => by simp) _ _,
      Device.each_keeps (·.flash) _ (fun _ _ => by simp) _ _,
      Device.each_keeps (·.watch) _ (fun _ _ => by simp) _ _,
      Device.each_keeps (·.fresh) _ (fun _ _ => by simp) _ _⟩

end Sys2Proof.Machine
end

