-- ==== Sys2Proof/Laws/Host.lean ====
section
/-!
SUPPORT. What a write and a read over a path do: turned away with one of the codes of R386, or run and answered.
-/

namespace Sys2Proof.Machine

theorem touchPath_busyOn (q r : Path) (d : Device) : (touchPath q d).busyOn r = d.busyOn r := rfl

theorem touchPath_noBank (q : Path) (d : Device) : (touchPath q d).boot.noBank = d.boot.noBank := rfl

theorem lookup_step [BEq κ] (a : κ × α) (t : List (κ × α)) (k : κ) :
    (a :: t).lookup k = if k == a.1 then some a.2 else t.lookup k := by
  obtain ⟨x, y⟩ := a
  rw [List.lookup_cons]
  cases k == x <;> rfl

theorem lookup_map_snd [BEq κ] [LawfulBEq κ] (g : κ → α → α) (l : List (κ × α)) (k : κ) :
    (l.map fun e => (e.1, g e.1 e.2)).lookup k = (l.lookup k).map (g k) := by
  induction l with
  | nil => rfl
  | cons a t ih =>
    rw [List.map_cons, lookup_step, lookup_step, ih]
    by_cases h : (k == a.1) = true
    · rw [if_pos h, if_pos h, eq_of_beq h]; rfl
    · rw [if_neg h, if_neg h]

theorem lookup_append_none [BEq κ] (l m : List (κ × α)) (k : κ) (h : l.lookup k = none) :
    (l ++ m).lookup k = m.lookup k := by
  induction l with
  | nil => rfl
  | cons a t ih =>
    rw [lookup_step] at h
    split at h
    · cases h
    · rename_i hk
      rw [List.cons_append, lookup_step, if_neg hk, ih h]

theorem lookup_none_of_any [BEq κ] [LawfulBEq κ] (l : List (κ × α)) (k : κ) (h : (l.any fun e => e.1 == k) = false) :
    l.lookup k = none := by
  induction l with
  | nil => rfl
  | cons a t ih =>
    simp only [List.any_cons, Bool.or_eq_false_iff] at h
    have h1 : ¬ (k == a.1) = true := by
      intro hk
      have := eq_of_beq hk
      subst this
      simp at h
    rw [lookup_step, if_neg h1, ih h.2]

/-- The state of a path after an update of it. -/
theorem Device.onPath_path (q : Path) (f : PathState → PathState) (d : Device) :
    (d.onPath q f).path q = f (d.path q) := by
  unfold Device.onPath Device.path
  by_cases h : (d.od.paths.any fun e => e.1 == q) = true
  · simp only [h, if_true]
    have hl : (d.od.paths.map fun e => if e.1 == q then (q, f e.2) else e)
        = d.od.paths.map fun e => (e.1, (fun k x => if k == q then f x else x) e.1 e.2) := by
      apply List.map_congr_left
      intro e _
      by_cases he : e.1 == q
      · simp only [he, if_true]; rw [eq_of_beq he]
      · simp [he]
    rw [hl, lookup_map_snd (fun k x => if k == q then f x else x)]
    cases hk : d.od.paths.lookup q with
    | some x => simp
    | none =>
      exfalso
      obtain ⟨e, he, hq⟩ := List.any_eq_true.mp h
      have := List.lookup_eq_none_iff.mp hk e he
      simp [eq_of_beq hq] at this
  · have h' : (d.od.paths.any fun e => e.1 == q) = false := by cases hx : d.od.paths.any fun e => e.1 == q <;> simp_all
    simp only [h', if_false, Bool.false_eq_true]
    rw [lookup_append_none _ _ _ (lookup_none_of_any _ _ h'), lookup_none_of_any _ _ h']
    simp

theorem touchPath_levelOpen (q : Path) (lvl : ObjLevel) (d : Device) :
    (touchPath q d).levelOpen q lvl = d.levelOpen q lvl := by
  have hp : (touchPath q d).path q
      = { d.path q with session := (d.path q).session.map fun ss => { ss with lastUse := d.now } } :=
    Device.onPath_path q _ d
  cases lvl <;> simp only [Device.levelOpen, hp]
  · cases (d.path q).session <;> rfl
  · cases (d.path q).session <;> rfl

/-- A write that is taken runs, and its answer goes out. -/
theorem hostWrite_takes {q : Path} {lvl : ObjLevel} {inFault : Bool} {f : State → W32 × State} {s : State}
    (h : s.dev.takes q lvl inFault) :
    hostWrite q lvl inFault f s =
      { (f { s with dev := touchPath q s.dev }).2 with
        dev := answer q (f { s with dev := touchPath q s.dev }).1 [] (f { s with dev := touchPath q s.dev }).2.dev } := by
  obtain ⟨h0, h1⟩ := h
  unfold Device.turnedAway at h1
  unfold hostWrite
  simp only [touchPath_busyOn, touchPath_noBank, touchPath_levelOpen, h0, if_false]
  split at h1
  · cases h1
  split at h1
  · cases h1
  split at h1
  · cases h1
  split at h1
  · cases h1
  simp_all

/-- A write that is turned away leaves everything but the path and the answer as it was. -/
theorem hostWrite_away {q : Path} {lvl : ObjLevel} {inFault : Bool} {f : State → W32 × State} {s : State} {e : W32}
    (h0 : s.dev.ctl.state ≠ .off) (h1 : s.dev.turnedAway q lvl inFault = some e) :
    hostWrite q lvl inFault f s = { s with dev := answer q e [] (touchPath q s.dev) } := by
  unfold Device.turnedAway at h1
  unfold hostWrite
  simp only [touchPath_busyOn, touchPath_noBank, touchPath_levelOpen, h0, if_false]
  split at h1
  · cases h1; simp_all
  split at h1
  · cases h1; simp_all
  split at h1
  · cases h1; simp_all
  split at h1
  · cases h1; simp_all
  cases h1

/-- A read that is taken runs, and its answer goes out with the data. -/
theorem hostRead_takes {q : Path} {lvl : ObjLevel} {f : State → W32 × List Byte × State} {s : State}
    (h : s.dev.takes q lvl true) :
    hostRead q lvl f s =
      { (f { s with dev := touchPath q s.dev }).2.2 with
        dev := answer q (f { s with dev := touchPath q s.dev }).1 (f { s with dev := touchPath q s.dev }).2.1
          (f { s with dev := touchPath q s.dev }).2.2.dev } := by
  obtain ⟨h0, h1⟩ := h
  unfold Device.turnedAway at h1
  unfold hostRead
  simp only [touchPath_busyOn, touchPath_noBank, touchPath_levelOpen, h0, if_false]
  split at h1
  · cases h1
  split at h1
  · cases h1
  split at h1
  · cases h1
  simp_all

end Sys2Proof.Machine
end

