-- ==== Sys2Proof/Laws/Modes.lean ====
section
/-!
SUPPORT. The module state after the operations that set it, and what else they keep.
-/

namespace Sys2Proof.Machine

/-- What a passage to a state does to module control. -/
theorem setState_ctl (m : ModState) (d : Device) :
    (setState m d).ctl
      = { d.ctl with state := m, firstStandbyDone := d.ctl.firstStandbyDone || d.ctl.state == .standby } := by
  unfold setState
  exact (ite_keeps (·.ctl) proofEnd _ _ (by simp)).trans
    ((ite_keeps (·.ctl) (fun x => { x with chg := { x.chg with lostHold := false } }) _ _ rfl).trans
      ((ite_keeps (·.ctl) (fun x => { x with inj := { x.inj with active := [] } }) _ _ rfl).trans
        ((ite_keeps (·.ctl) (fun x => { x with gates := { x.gates with retestState := 3 } }) _ _ rfl).trans
          ((ite_keeps (·.ctl) chainStop _ _ (by simp)).trans (ite_keeps (·.ctl) chargeIdle _ _ (by simp))))))

@[simp] theorem setState_state (m : ModState) (d : Device) : (setState m d).ctl.state = m := by rw [setState_ctl]

theorem chainStart_ctl (d : Device) : (chainStart d).ctl = d.ctl := rfl

theorem calStart_ctl (d : Device) : (calStart d).ctl = d.ctl := by
  simp only [calStart]
  split <;> simp

theorem enterStandby_ctl (d : Device) :
    (enterStandby d).ctl
      = { d.ctl with state := .standby, firstStandbyDone := d.ctl.firstStandbyDone || d.ctl.state == .standby } := by
  simp only [enterStandby]
  split
  · rw [calStart_ctl, setState_ctl]
  · have h : ∀ (b : Bool) (x : Device), (if b then chainStart x else x).ctl = x.ctl := by intro b x; cases b <;> rfl
    rw [h, setState_ctl]

@[simp] theorem enterStandby_state (d : Device) : (enterStandby d).ctl.state = .standby := by rw [enterStandby_ctl]

/-- F4 takes a module that is not in SAFE, FAULT or OFF to SAFE (Table 1.7). -/
theorem enterSafe_state (d : Device) (h : d.ctl.state ≠ .off) (h2 : d.ctl.state ≠ .fault) :
    (enterSafe d).ctl.state = .safe := by
  have h3 : (Device.each (Scope.stages .module) (stageOff true) d).ctl = d.ctl := by simp
  simp only [enterSafe, h3]
  cases hs : d.ctl.state <;> simp_all

end Sys2Proof.Machine
end

