-- ==== Sys2Proof/Laws/Ports.lean ====
section
/-!
SUPPORT. What a stage shutdown and a report leave alone on a traction port: everything but the engine, the last speed and the
validity of the terminal speed, and the records of the reversal and of the EMF.
-/

namespace Sys2Proof.Machine

/-- The part of a port that a shutdown leaves alone: all of it but five fields. -/
def Port.still (x : Port) : Port := { x with lastSpeed := 0, termValid := false, revLoop := false, emfHist := [], eng := {} }

theorem Device.onPort_keeps (g : Port → β) (f : Port → Port) (h : ∀ x, g (f x) = g x) (p q : PortId) (d : Device) :
    g ((d.onPort p f).port q) = g (d.port q) := by
  cases p <;> cases q <;> simp [Device.onPort, Device.port, h]

theorem onEng_still (p q : PortId) (f : Engine → Engine) (d : Device) :
    ((d.onEng p f).port q).still = (d.port q).still :=
  Device.onPort_keeps Port.still _ (by intro x; rfl) p q d

theorem port_of_parts {d e : Device} (h : d.portA = e.portA ∧ d.portB = e.portB) (q : PortId) : d.port q = e.port q := by
  cases q
  · exact h.1
  · exact h.2

theorem issuePos_port (on : Bool) (i : Nat) (d : Device) (q : PortId) : (issuePos on i d).port q = d.port q :=
  port_of_parts ⟨by simp, by simp⟩ q

theorem legOuterOff_still (p : PortId) (ph : Phase) (d : Device) (q : PortId) :
    ((legOuterOff p ph d).port q).still = (d.port q).still := by
  unfold legOuterOff
  split
  · exact onEng_still ..
  · rw [onEng_still, issuePos_port, issuePos_port]

theorem portGatesStop_still (p : PortId) (d : Device) (q : PortId) :
    ((portGatesStop p d).port q).still = (d.port q).still :=
  Device.onPort_keeps Port.still _ (by intro x; rfl) p q d

theorem portOff_still (p : PortId) (d : Device) (q : PortId) : ((portOff p d).port q).still = (d.port q).still := by
  have h : ∀ (x : Device) (f : Stage → Stage), (x.onStage p.stage f).port q = x.port q :=
    fun x f => port_of_parts ⟨by simp, by simp⟩ q
  unfold portOff
  rw [h]
  exact (foldl_keeps (fun x => (x.port q).still) (fun d ph => legOuterOff p ph d)
    (fun ph x => legOuterOff_still p ph x q) phases _).trans (portGatesStop_still p d q)

theorem portStop_still (p : PortId) (d : Device) (q : PortId) : ((portStop p d).port q).still = (d.port q).still := by
  unfold portStop
  split
  · rfl
  · exact portOff_still p d q

theorem stageOff_still (l : Bool) (sg : StageGroup) (d : Device) (q : PortId) :
    ((stageOff l sg d).port q).still = (d.port q).still := by
  have h : ∀ x : Device, x.portA = d.portA → x.portB = d.portB → (x.port q).still = (d.port q).still :=
    fun x ha hb => by rw [port_of_parts ⟨ha, hb⟩ q]
  cases sg
  · exact portStop_still _ d q
  · exact portStop_still _ d q
  all_goals exact h _ (by simp [stageOff, Device.each]) (by simp [stageOff, Device.each])

theorem setState_port (m : ModState) (d : Device) (q : PortId) : (setState m d).port q = d.port q :=
  port_of_parts ⟨by simp, by simp⟩ q

theorem enterSafe_still (d : Device) (q : PortId) : ((enterSafe d).port q).still = (d.port q).still := by
  have h : ((Device.each (Scope.stages .module) (stageOff true) d).port q).still = (d.port q).still :=
    Device.each_keeps (fun x => (x.port q).still) _ (fun sg x => stageOff_still true sg x q) _ d
  simp only [enterSafe]
  split <;> first | rw [setState_port, h] | rw [h]

theorem reactOne_still (l : Bool) (a : Scope × Nat) (d : Device) (q : PortId) :
    ((reactOne l a d).port q).still = (d.port q).still := by
  have h : ∀ x : Device, x.portA = d.portA → x.portB = d.portB → (x.port q).still = (d.port q).still :=
    fun x ha hb => by rw [port_of_parts ⟨ha, hb⟩ q]
  have h0 : ((sliceReact a d).port q).still = (d.port q).still := h _ (by simp) (by simp)
  unfold reactOne
  dsimp only
  split
  · exact (enterSafe_still _ q).trans h0
  · split
    · exact h _ (by simp) (by simp)
    · exact h _ (by simp) (by simp)
    · exact (Device.each_keeps (fun x => (x.port q).still) _ (fun sg x => stageOff_still l sg x q) _ _).trans h0
  · split
    · rw [setState_port]; exact h _ (by simp) (by simp)
    · exact h _ (by simp) (by simp)
  · exact h0

/-- A report leaves a port as it was but for its engine, its last speed and the validity of its terminal speed. -/
theorem raiseActs_still (f : FaultName) (sc : Scope) (r : Nat) (acts : List (Scope × Nat)) (d : Device) (q : PortId) :
    ((raiseActs f sc r acts d).port q).still = (d.port q).still := by
  have hr : ∀ (l : List (Scope × Nat)) (x : Device), ((Device.each l (reactOne f.latched) x).port q).still = (x.port q).still :=
    fun l x => Device.each_keeps (fun x => (x.port q).still) _ (fun a x => reactOne_still _ a x q) l x
  have hb : ∀ (l : List (Scope × Nat)) (x : Device), ((brakeHit f l x).port q).still = (x.port q).still :=
    fun l x => by rw [port_of_parts (d := brakeHit f l x) (e := x) ⟨by simp, by simp⟩ q]
  have hp : ∀ x : Device, x.portA = d.portA → x.portB = d.portB → (x.port q).still = (d.port q).still :=
    fun x ha hb => by rw [port_of_parts ⟨ha, hb⟩ q]
  simp only [raiseActs]
  split
  · split
    · rw [hb, hr]; exact hp _ (by simp) (by simp)
    · rw [hb, hr]; exact hp _ (by simp) (by simp)
  · rw [hb, hr]; exact hp _ (by simp) (by simp)

theorem raise_still (f : FaultName) (sc : Scope) (r : Nat) (d : Device) (q : PortId) :
    ((raise f sc r d).port q).still = (d.port q).still := raiseActs_still ..

end Sys2Proof.Machine
end

