-- ==== Sys2Proof/Laws/Raise.lean ====
section
/-!
SUPPORT. What a report to the fault manager does: the fault is active, module control is touched by F4 and by F2 at module
scope alone, F4 leads to SAFE.
-/

namespace Sys2Proof.Machine

@[simp] theorem pushEvent_active (e : Event) (d : Device) : (pushEvent e d).faults.active = d.faults.active := by
  unfold pushEvent; split <;> rfl

@[simp] theorem report_active (k : Nat) (f : FaultName) (r : Nat) (sc : Scope) (d : Device) :
    (report k f r sc d).faults.active = d.faults.active := by
  simp [report]

/-- An entry that is not the proof test's survives the end of proof-test mode. -/
theorem proofEnd_mem {e : FaultEntry} {d : Device} (h : e ∈ d.faults.active) (hn : e.name ≠ .proofTest) :
    e ∈ (proofEnd d).faults.active := by
  simp only [proofEnd]
  split
  · split
    · simp [h, hn]
    · exact h
  · exact h

theorem ite_ends (f : Device → Device) (c : Prop) [Decidable c] (x : Device) :
    (if c then f x else x) = f x ∨ (if c then f x else x) = x := by
  split
  · exact .inl rfl
  · exact .inr rfl

/-- Leaving a state ends proof-test mode or leaves the fault manager alone. -/
theorem setState_ends (m : ModState) (d : Device) :
    ∃ x : Device, x.faults = d.faults ∧ (setState m d = proofEnd x ∨ setState m d = x) := by
  unfold setState
  refine ⟨_, ?_, ite_ends proofEnd ..⟩
  exact (ite_keeps (·.faults) (fun x => { x with chg := { x.chg with lostHold := false } }) _ _ rfl).trans
    ((ite_keeps (·.faults) (fun x => { x with inj := { x.inj with active := [] } }) _ _ rfl).trans
      ((ite_keeps (·.faults) (fun x => { x with gates := { x.gates with retestState := 3 } }) _ _ rfl).trans
        ((ite_keeps (·.faults) chainStop _ _ (by simp)).trans (ite_keeps (·.faults) chargeIdle _ _ (by simp)))))

theorem setState_mem {e : FaultEntry} {d : Device} (m : ModState) (h : e ∈ d.faults.active) (hn : e.name ≠ .proofTest) :
    e ∈ (setState m d).faults.active := by
  obtain ⟨x, hx, h1 | h1⟩ := setState_ends m d
  · rw [h1]; exact proofEnd_mem (by rw [hx]; exact h) hn
  · rw [h1, hx]; exact h

theorem enterSafe_mem {e : FaultEntry} {d : Device} (h : e ∈ d.faults.active) (hn : e.name ≠ .proofTest) :
    e ∈ (enterSafe d).faults.active := by
  have h1 : e ∈ (Device.each (Scope.stages .module) (stageOff true) d).faults.active := by simpa using h
  unfold enterSafe
  generalize Device.each (Scope.stages .module) (stageOff true) d = x at h1 ⊢
  dsimp only
  split <;> first | exact setState_mem _ h1 hn | exact h1

theorem reactOne_mem {e : FaultEntry} {d : Device} (l : Bool) (a : Scope × Nat) (h : e ∈ d.faults.active)
    (hn : e.name ≠ .proofTest) : e ∈ (reactOne l a d).faults.active := by
  have h0 : e ∈ (sliceReact a d).faults.active := by simpa using h
  unfold reactOne
  dsimp only
  split
  · exact enterSafe_mem h0 hn
  · split <;> simpa using h
  · split
    · exact setState_mem _ (by simpa using h) hn
    · simpa using h
  · exact h0

theorem each_reactOne_mem {e : FaultEntry} (l : Bool) (acts : List (Scope × Nat)) (d : Device) (h : e ∈ d.faults.active)
    (hn : e.name ≠ .proofTest) : e ∈ (Device.each acts (reactOne l) d).faults.active := by
  unfold Device.each
  induction acts generalizing d with
  | nil => exact h
  | cons a t ih => exact ih _ (reactOne_mem l a h hn)

theorem brakeHit_mem {e : FaultEntry} (f : FaultName) (acts : List (Scope × Nat)) {d : Device} (h : e ∈ d.faults.active) :
    e ∈ (brakeHit f acts d).faults.active := by simpa using h

@[simp] theorem injHit_entry (f g : FaultName) (sc sc' : Scope) (d : Device) :
    (injHit f sc d).entry? g sc' = d.entry? g sc' := by
  unfold Device.entry?; simp

/-- After a report the fault is active with the reported reaction or a higher one (R24, R25). -/
theorem raiseActs_hasFault (f : FaultName) (sc : Scope) (r : Nat) (acts : List (Scope × Nat)) (d : Device)
    (hf : f ≠ .proofTest) : (raiseActs f sc r acts d).hasFault f sc r := by
  simp only [raiseActs, injHit_entry]
  split
  · rename_i e he
    have hm : e ∈ d.faults.active := List.mem_of_find?_eq_some he
    have hp := List.find?_some he
    simp only [Bool.and_eq_true, beq_iff_eq] at hp
    split
    · rename_i hr
      refine ⟨_, brakeHit_mem _ _ (each_reactOne_mem _ _ _ (List.mem_map.mpr ⟨e, by simpa using hm, rfl⟩) ?_), ?_⟩
      · simp [hp.1, hp.2, hf]
      · simp [hp.1, hp.2, hr]
    · refine ⟨{ e with reaction := r, acts := acts }, brakeHit_mem _ _ (each_reactOne_mem _ _ _ ?_ ?_), ?_⟩
      · simp only [report_active]
        exact List.mem_map.mpr ⟨e, by simpa using hm, by simp [hp.1, hp.2]⟩
      · simp [hp.1, hf]
      · simp [hp.1, hp.2]
  · refine ⟨{ name := f, scope := sc, reaction := r, acts := acts, time := d.now }, brakeHit_mem _ _ (each_reactOne_mem _ _ _ ?_ hf), ?_⟩
    · simp [Device.now]
    · simp

theorem raise_hasFault (f : FaultName) (sc : Scope) (r : Nat) (d : Device) (hf : f ≠ .proofTest) :
    (raise f sc r d).hasFault f sc r := raiseActs_hasFault _ _ _ _ _ hf

/-- A reaction other than F4, and other than F2 at module scope, leaves module control alone. -/
theorem reactOne_ctl (l : Bool) (a : Scope × Nat) (d : Device) (h4 : a.2 ≠ 4) (h2 : a ≠ (.module, 2)) :
    (reactOne l a d).ctl = d.ctl := by
  obtain ⟨sc, r⟩ := a
  dsimp only at h4
  unfold reactOne
  dsimp only
  split
  · simp_all
  · split <;> simp
  · split
    · rename_i hm
      simp only [Bool.and_eq_true, beq_iff_eq] at hm
      exact absurd (by simp_all) h2
    · simp
  · simp

theorem raise_ctl (f : FaultName) (sc : Scope) (r : Nat) (d : Device) (h4 : r ≠ 4) (h2 : (sc, r) ≠ (.module, 2)) :
    (raise f sc r d).ctl = d.ctl := by
  simp only [raise, raiseActs]
  split
  · split
    · simp only [List.filter_cons, List.filter_nil]
      split
      · simp [Device.each, reactOne_ctl _ _ _ h4 h2]
      · simp [Device.each]
    · simp [Device.each, reactOne_ctl _ _ _ h4 h2]
  · simp [Device.each, reactOne_ctl _ _ _ h4 h2]

/-- A report with F4 of a fault not yet at F4 takes an operating module to SAFE (Table 1.7). -/
theorem raise_safe (f : FaultName) (d : Device) (h : ∀ e, d.entry? f .module = some e → e.reaction < 4)
    (h0 : d.ctl.state ≠ .off) (h1 : d.ctl.state ≠ .fault) : (raise f .module 4 d).ctl.state = .safe := by
  have hb : ∀ x : Device, (brakeHit f [(.module, 4)] x).ctl = x.ctl := by simp
  simp only [raise, raiseActs, injHit_entry]
  split
  · rename_i e he
    have hr := h e he
    rw [if_neg (by omega)]
    simp only [hb, Device.each, List.foldl_cons, List.foldl_nil, reactOne]
    exact enterSafe_state _ (by simpa using h0) (by simpa using h1)
  · simp only [hb, Device.each, List.foldl_cons, List.foldl_nil, reactOne]
    exact enterSafe_state _ (by simpa using h0) (by simpa using h1)

end Sys2Proof.Machine
end

