-- ==== Sys2Proof/Tests/Slice0.lean ====
section
/-!
SUPPORT. Tests and witnesses: for every statement with hypotheses, values that meet the hypotheses of each of its clauses;
an ill-formed term for each check of WellFormed; and small tests of single steps whose expected results are the spec's.
-/

namespace Sys2Proof.Tests

open Sys2Proof.Machine

set_option Elab.async false

/-! ## Small states -/

/-- The path of the tests: client 0 on CANA. -/
def host : Path := .usdo false 0

/-- A module in a state, all pins closed, with a level-2 session on the path of the tests. -/
def dv (m : ModState) : Device :=
  { ctl := { state := m, serviceNLow := true, coreSupplyOk := true, enA := true, enB := true, enConv := true, enAux := true }
    od := { paths := [(host, { session := some { level := 2, slot := 0, handle := 1, key := [], lastUse := 0 } })] } }

def st (d : Device) : State := { State.reset with dev := d }

/-- The same with one part of the device changed. -/
def ct (f : ModuleCtl → ModuleCtl) (d : Device) : Device := { d with ctl := f d.ctl }
def tm (t : Nanos) : Device → Device := ct fun c => { c with now := t }
def me (f : Meas → Meas) (d : Device) : Device := { d with meas := f d.meas }
def gt (f : Gates → Gates) (d : Device) : Device := { d with gates := f d.gates }
def th (f : Thermal → Thermal) (d : Device) : Device := { d with therm := f d.therm }
def nt (f : Net → Net) (d : Device) : Device := { d with net := f d.net }
def cr (f : Cross → Cross) (d : Device) : Device := { d with cross := f d.cross }
def bo (f : Boot → Boot) (d : Device) : Device := { d with boot := f d.boot }
def cm (f : Comm → Comm) (d : Device) : Device := { d with comm := f d.comm }
def od (f : ObjDict → ObjDict) (d : Device) : Device := { d with od := f d.od }
def bs (f : SelfTest → SelfTest) (d : Device) : Device := { d with bist := f d.bist }
def sf (f : Safety → Safety) (d : Device) : Device := { d with safety := f d.safety }
def ev (l : List Event) (d : Device) : Device := { d with faults := { d.faults with events := l } }
/-- Settings in force, and the safety image with the safety core running on it. -/
def cfg (l : Settings) : Device → Device := od fun o => { o with inForce := l, inBeat := l }
def scfg (l : Settings) : Device → Device := sf fun x => { x with image := l, sc := .run }
/-- A latched value in volts or amperes, a fast and a fine value of a channel. -/
def lat (m : Nat) (v : Rat) (d : Device) : Device := d.onMchan m fun c => { c with latched := (v * 32767 / d.chanRange m).ceil }
def fast (m : Nat) (v : Rat) (d : Device) : Device := d.onMchan m fun c => { c with fastValue := (v * 32767 / d.chanRange m).ceil }
def fine (m : Nat) (v : Rat) (d : Device) : Device := d.onMchan m fun c => { c with value := v }
def link (v : Rat) (d : Device) : Device := lat 6 v (lat 7 v d)
/-- A fault that is active. -/
def flt (f : FaultName) (sc : Scope) (r : Nat) (d : Device) : Device :=
  { d with faults := { d.faults with active := d.faults.active ++ [{ name := f, scope := sc, reaction := r, acts := [(sc, r)], time := 0 }] } }
/-- Module 1 of a pair whose partner is present. -/
def pair (d : Device) : Device := cfg [(0x200002, 1)] (ct (fun c => { c with partnerPresent := true, lead := true, pairOkIn := true }) d)
/-- Everything Table 1.6 asks of READY. -/
def rdy (d : Device) : Device :=
  link 1400 { d with comm := { d.comm with generation := 1 }
                     supply := { d.supply with chain := 7, llc := { d.supply.llc with inRange := true, running := true } } }
/-- The islands of a stage armed and trained. -/
def arm (sg : StageGroup) (d : Device) : Device :=
  d.each sg.islands fun i => Device.onIsland i fun x => { x with armed := true, safe := false, link := 2 }
/-- CAN ports error-active, NMT operational; ETH1 up. -/
def cans (d : Device) : Device :=
  nt (fun n => { n with canA := { conf := 0, nmt := 5 }, canB := { conf := 0, nmt := 5 }, canC := { conf := 0 }, eth1Up := true
                        isoAddr := some 128 }) d
/-- A tool's commissioning connection; its shadow image is empty. -/
def tool (d : Device) : Device := cm (fun x => { x with conn := some (host, 7), state := .editing }) (scfg [] d)
/-- The row of an object and the places of its index and subindex in it. -/
def objRow (ix sub : Nat) : ObjRow × Nat × Nat := (objFind ix sub objTable).getD (⟨0, 0, 1, 0, 0, .bool, .ro, .b, .b, .any, .const 0⟩, 0, 0)
/-- The guy line up on module 1 of a pair. -/
def guy (d : Device) : Device := nt (fun n => { n with guy := { up := true } }) (pair d)
/-- Receive and transmit PDO 1 of CANA enabled, mapping one byte of 0x6110:01. -/
def pdos (d : Device) : Device :=
  cfg [(0x140001, 0x201), (0x160000, 1), (0x160001, 0x61100108), (0x180001, 0x181), (0x1a0000, 1), (0x1a0001, 0x61100108)] (cans d)
/-- A Hokuith datagram of an opcode with a number of items. -/
def hkBytesOf (op items : Byte) (body : List Byte) : List Byte :=
  [0x48, 0x4B, 1, op, BitVec.ofNat 8 body.length, 0, 0, 0, 0, 0, 0, 0, 0, 0, 0, 0, items, 0, 0, 0] ++ body
/-- SESSION_CLOSE in session 1 with its tag. -/
def closeBytes : List Byte :=
  let l : List Byte := [0x48, 0x4B, 1, 0x12, 0, 0, 0, 0, 1, 0, 0, 0, 0, 0, 0, 0, 0, 0, 0, 0]
  l ++ hkTag [] l "HK-Q"
/-- A partner whose settings identity is that of the settings in force plus a number. -/
def sameId (n : W32) (d : Device) : Device :=
  ct (fun c => { c with partner := { settingsId := settingsIdOf [(0x200002, 1)] + n } }) (pair d)
/-- A challenge for a level-1 session with slot 0, and the path that holds it. -/
def chal : Challenge := { slot := 0, level := 1, nh := [1], nm := [2], handle := 3, time := 0 }
def challenged (d : Device) : Device := od (fun o => { o with paths := [(host, { challenge := some chal })] }) d
/-- Thirty-two bytes that are not the proof owed. -/
def badProof : List Byte :=
  if chal.ph (Otp.keyBytes { provisioned := 1 } 0) (Cfg.nodeNumber []) = List.replicate 32 0 then List.replicate 32 1
  else List.replicate 32 0
/-- A valid commissioning record of an empty image. -/
def record : OtpRecord := { used := true, intact := true, check := checkValueOf [] }
/-- A firmware bank whose manifest names a security version. -/
def bankV (v : Byte) : Bank := { chunks := [(0, List.replicate 14 0 ++ v :: List.replicate 1009 0)] }

/-- A set whose load shedding setting may not change while the converter runs (rule 802). -/
def instantFails (d : Device) : Device :=
  od (fun o => { o with shadow := some [(0x380001, 5)] }) { d with supply := { d.supply with conv := { running := true } } }
/-- The source of a ring that takes item type 1 of source 2, every item. -/
def ringSrc : Nat × Nat := (0x3e4007, 1 * 268435456 + 2 * 262144)

/-- An injection point set on the path of the tests. -/
def inject (n : Nat) (d : Device) : Device :=
  od (fun o => { o with paths := [(host, { session := some { level := 2, slot := 0, handle := 1, key := [], lastUse := 0 }, injPoint := n })] }) d


/-- Conditions that have held since module time 0. -/
def wa (l : List Watch) (d : Device) : Device := { d with watch := l.map fun w => (w, 0) }
/-- An injection point armed at time 0 for 5 us, and the time 1 ns later. -/
def inj (point arg : Nat) (value : Int) (d : Device) : Device :=
  tm 1 { d with inj := { d.inj with active := [{ path := host, point := point, arg := arg, value := value, duration := 5, armedAt := 0 }] } }
def su (f : Supply → Supply) (d : Device) : Device := { d with supply := f d.supply }
def ch (f : Charge → Charge) (d : Device) : Device := { d with chg := f d.chg }
def bc (f : BackupCharger → BackupCharger) (d : Device) : Device := { d with bchg := f d.bchg }
def fwr (f : Firmware → Firmware) (d : Device) : Device := { d with fw := f d.fw }
/-- A port, its engine, a wheel, an actuator with one part changed. -/
def po (p : PortId) (f : Port → Port) (d : Device) : Device := d.onPort p f
def en (p : PortId) (f : Engine → Engine) (d : Device) : Device := d.onPort p fun x => { x with eng := f x.eng }
def wh (f : Wheel → Wheel) (d : Device) : Device := d.onWheel 0 f
def isl (i : Nat) (f : Island → Island) (d : Device) : Device := d.onIsland i f
def ac (f : Actuator → Actuator) (d : Device) : Device := { d with acts := d.acts.map f }
def psf (p : PortId) (f : PortSafety → PortSafety) (d : Device) : Device := d.onPsafe p f
/-- The core supply, the clock and the logic supply good, so that a self-test pass is not deferred. -/
def bistOk (d : Device) : Device := bs (fun x => { x with synthOk := true }) (fine 44 20 d)
def bisting : Device := bistOk (bs (fun x => { x with passState := 1 }) (dv .run))
/-- The gates of port A off for 200 ns on armed islands, nothing demanding STO. -/
def gateTest : Device := sf (fun x => { x with lineA := false }) (tm 200 (arm .portA (bistOk (bs (fun x => { x with passState := 1 }) (dv .run)))))
/-- An acceptable grid, seen since module time 0. -/
def gridUp (d : Device) : Device :=
  tm (ms 100) (wa [.gridAccept] (link 1400 (ch (fun x => { x with gridV := 400, gridF := 50 }) d)))
/-- An actuator that has pushed against a stop since module time 0. -/
def stalled (d : Device) : Device := tm (sec 10) (wa [.actStall 0] (ac (fun x => { x with iRef := 100 }) d))
/-- The fork of port A in a step of a shift whose time is over. -/
def forking (k : Nat) : Device := tm (sec 100) (po .a (fun x => { x with state := .running }) (sf (fun x => { x with portA := { sto := false } }) (ac (fun x => { x with shift := k }) (dv .run))))
/-- Port A stopping under SS1. -/
def ss1On (f : PortSafety → PortSafety) : Device :=
  scfg [(0x701001, 1), (0x701005, 2), (0x703001, 1)] (psf .a (fun x => f { x with ss1 := true, sto := false }) (dv .run))
/-- A valid message of connection 0 and a module that consumes it from CANA. -/
def dorFrame : List Byte :=
  let b : List Byte := [0, 0, 0, 0, 1, 0, 0, 0] ++ List.replicate 8 0
  b ++ leBytes 4 (crc32c b).toNat
def hears (x : DoridPhase) : Device := scfg [(0x710001, 1)] (cans { dv .run with dorid := List.replicate 256 { state := x } })
/-- A USDO transfer of three bytes under way, one byte held. -/
def moving (write : Bool) (n : Nat) : Device :=
  od (fun o => { o with paths := [(host, { transfer := some { key := 0, write := write, buffer := List.replicate n 1, total := 3 } })] }) (cans (dv .run))
def hkHead : UdpHead := { vid := 0, dest := 0xc0a80a0a, destPort := 4980, fragment := false }
/-- A partner frame of 20 us whose settings identity is that of the settings in force plus a number, and a commit to compare. -/
def framed (n : W32) (m : ModState) (announced compareT : Option Nanos) : Device :=
  od (fun o => { o with announced := announced.map fun t => (t, settingsIdOf [(0x200002, 1)] + n), compareT := compareT }) <|
    ct (fun c => { c with partner := { txTime := 20000, settingsId := settingsIdOf [(0x200002, 1)] + n } }) (pair (dv m))
/-- The choice of a bank under way, from one record. -/
def choosing (r : BankRecord) : Device :=
  fwr (fun x => { x with rec0 := r, rec1 := r }) (bo (fun x => { x with otpDone := true }) (dv .boot))
/-- A bank of an update whose manifest names a security version. -/
def bankF (v : Byte) : Bank := { bankV v with factory := false }
/-- Every island trained. -/
def trained (d : Device) : Device := gt (fun g => { g with islands := g.islands.map fun x => { x with link := 2 } }) d

/-! ## Lemmas of the witnesses that no evaluation closes -/

theorem omega_zero (d : Device) (p : PortId) : d.omega p 0 = 0 := by simp [Device.omega]

theorem emf_zero (d : Device) (p : PortId) : d.emfAbove p 0 0 = false := by
  simp [Device.emfAbove, omega_zero]

theorem emf_below (d : Device) (p : PortId) (v : Rat) (h : 0 < v) : d.emfBelowV p 0 v = true := by
  have : 0 < v * v := mul_pos h h
  simp [Device.emfBelowV, omega_zero, h, this]

/-- Port A in a state at standstill on a charged link, where the exit condition of ASC has held for 10 ms. -/
def ascPort (x : PortState) (f : Bool) : Device :=
  tm (ms 10) (link 1000 ((dv .run).onPort .a fun p => { p with state := x, faultAsc := f, ascOkSince := some 0 }))

theorem asc_due : (ascPort .asc false).ascExitDue .a = true ∧ (ascPort .fault true).ascExitDue .a = true := by
  have ok : ∀ d : Device, d.portSpeed .a = 0 → 0 < 85 / 100 * d.vLink → Cfg.ascSpeed d.cfg .a = 0 → d.ascExitOk .a = true := by
    intro d h0 h1 h2
    simp [Device.ascExitOk, h0, emf_below _ _ _ h1, h2]
  have h := ok (ascPort .asc false) (by decide +kernel) (by decide +kernel) (by decide +kernel)
  have g := ok (ascPort .fault true) (by decide +kernel) (by decide +kernel) (by decide +kernel)
  exact ⟨by simp only [Device.ascExitDue, h]; decide +kernel, by simp only [Device.ascExitDue, g]; decide +kernel⟩

theorem rpm_zero (d : Device) (p : PortId) : d.rpmOf p (0 - 0) = 0 := by unfold Device.rpmOf; split <;> simp

theorem reset_legal : State.reset.otp.Legal := by
  refine ⟨fun k _ h => ?_, fun k _ h => ?_, rfl, rfl⟩
  · change (0#128).getLsbD (k + 1) = true at h; simp at h
  · change (0#4).getLsbD k = true at h; simp at h

theorem fuses_legal : Otp.fusesLegal { fuses := 3 } ∧ Otp.arCount { fuses := 3 } ≤ 128 ∧ 128 ≤ 128 :=
  ⟨by unfold Otp.fusesLegal; decide +kernel, by decide +kernel, by decide⟩

theorem same_id : (st (sameId 0 (dv .run))).dev.ctl.partner.settingsId = (st (sameId 0 (dv .run))).dev.settingsId := by
  show settingsIdOf [(0x200002, 1)] + 0 = settingsIdOf [(0x200002, 1)]
  simp

theorem other_id : settingsIdOf [(0x200002, 1)] + 1 ≠ settingsIdOf [(0x200002, 1)] := by
  generalize settingsIdOf [(0x200002, 1)] = x
  bv_omega

/-- A self-calibration whose measurements end. -/
def calRun : Device := tm (ms 180) (me (fun m => { m with calState := 1, calSince := some 0 }) (dv .calibrating))

theorem cal_passes (k : Nat) (hk : k < 8) : (st calRun).dev.calFails {} k = false := by
  have h : ∀ k : Nat, k < 8 → ((st calRun).dev.mchan k).calModFail = false ∧ (st calRun).dev.forced 0x0605 k = false := by decide +kernel
  obtain ⟨h, h'⟩ := h k hk
  generalize (st calRun).dev = d at *
  simp [Device.calFails, calVal, h, h']

theorem cal_fails : (st (calRun.onMchan 7 fun c => { c with calModFail := true })).dev.calFails {} 7 = true := by
  have h : ((st (calRun.onMchan 7 fun c => { c with calModFail := true })).dev.mchan 7).calModFail = true := by decide +kernel
  generalize (st (calRun.onMchan 7 fun c => { c with calModFail := true })).dev = d at *
  simp [Device.calFails, h]

theorem fast_as_is (d : Device) (m : Nat) (y : Rat) (h0 : (d.mchan m).calOffset = 0) (h1 : (d.mchan m).calGain = 2 ^ 30)
    (h2 : d.therm.refTemp = some 25) : d.correctFast m y = clampInt (-32767) 32767 (roundCode y) := by
  have e : (y - ((d.mchan m).calOffset : Rat) / 256) * d.gainOf m = y := by
    simp only [Device.gainOf, h0, h1, h2]; norm_num
  simp only [Device.correctFast, e]

/-- A test slice of M00 under way, 40 us after its start; with TEST_LEVEL 0 silent streams pass it, with 75 % they fail. -/
def sliced : Device := tm 40000 (me (fun m => { m with slice := some { ch := 0, start := 0 } }) (dv .run))
def sliced0 : Device := cfg [(0x361101, 0)] sliced

theorem slice_passes : sliced0.slicePasses 0 [] [] = true := by
  have f := fun y : Rat => fast_as_is sliced0 0 y (by decide +kernel) (by decide +kernel) (by decide +kernel)
  have c : Cfg.testLevel sliced0.cfg = 0 := by decide +kernel
  unfold Device.slicePasses
  rw [f, c]
  decide +kernel

theorem slice_fails : sliced.slicePasses 0 [] [] = false := by
  have f := fun y : Rat => fast_as_is sliced 0 y (by decide +kernel) (by decide +kernel) (by decide +kernel)
  have c : Cfg.testLevel sliced.cfg = 75 := by decide +kernel
  unfold Device.slicePasses
  rw [f, c]
  decide +kernel

def offWheel : Device :=
  tm (ms 100) <| wa [.twPlaus 0] <| cfg [(0x250001, 1), (0x610011, 1)] (((dv .run).onWheel 0 fun x => { x with readingValid := true, beatReading := true, speed := 100 }).onPort .a fun x =>
    { x with state := .running, eng := { x.eng with obsConf := 40 } })

theorem implausible_wheel : offWheel.implausible 0 = true := by
  have h : offWheel.ownSpeed .a = 0 := rpm_zero offWheel .a
  have e : Cfg.plausTol offWheel.cfg 0 = 10 := by decide +kernel
  simp only [Device.implausible, ports, List.any_cons, h, e]
  rw [Bool.and_eq_true, Bool.or_eq_true]
  exact ⟨by decide, Or.inl (by decide +kernel)⟩

theorem record_in_force : Otp.inForce { records := [record] } = some (1, record) := by
  have v : record.valid = true := by simp [OtpRecord.valid, record]
  have e : ∀ k : Nat, 1 ≤ k → k < 8 → (([record] : List OtpRecord).getD k {}).valid = false := by
    intro k h1 h2
    obtain ⟨n, rfl⟩ : ∃ n, k = n + 1 := ⟨k - 1, by omega⟩
    simp [OtpRecord.valid]
  simp only [Otp.inForce]
  have r : (List.range 8).reverse = [7, 6, 5, 4, 3, 2, 1, 0] := by decide
  rw [r]
  simp [List.find?, OtpRecord.valid]
  simp [record]

theorem leBytes_len (n v : Nat) : (leBytes n v).length = n := by
  induction n generalizing v with
  | zero => rfl
  | succ n ih => simp [leBytes, ih]

/-- The keys of a commissioning image with no Dorid connection. -/
def plainKey (k : Nat) : Bool :=
  k / 256 ≤ 0x707F || (0x7100 ≤ k / 256 && k / 256 ≤ 0x71FF && Cfg.dcRole [] (k / 256 - 0x7100) != 0)
    || (k / 256 == 0x7200 && decide (k % 256 ≤ 3))

theorem image_length : (safetyImageBytes []).length ≤ 3584 := by
  have e : (safetyImageBytes []).length = ((((objTable.filter fun r => r.acc == .rws && decide (0x7000 ≤ r.ix)
      && decide (r.ix ≤ 0x7200)).flatMap ObjRow.objects).filter fun o => plainKey o.1).map fun o => o.2.1).sum := by
    simp only [safetyImageBytes, Settings.bytes, objectsOf, List.length_flatMap, leBytes_len]
    exact ((List.mergeSort_perm _ _).map _).sum_eq
  rw [e]
  decide +kernel

theorem first_safety (v : RuleView) (h : v.F = []) (hs : ((safetyRules.take 20).any fun r => r.2 v) = false) :
    safetyRules.find? (fun r => r.2 v) = none := by
  have e : rule1311 v = false := by
    simp only [rule1311, h, decide_eq_false_iff_not, not_lt]; exact image_length
  have f : safetyRules = safetyRules.take 20 ++ [(1311, rule1311)] := rfl
  rw [f, List.find?_append, Option.or_eq_none_iff]
  refine ⟨List.find?_eq_none.2 fun r hr => ?_, by simp [e]⟩
  simpa using List.any_eq_false.1 hs r hr

theorem first_all (v : RuleView) (h : v.F = []) (hs : ((safetyRules.take 20).any fun r => r.2 v) = false)
    (h0 : ((allRules.take 38).any fun r => r.2 v) = false) (h1 : ((allRules.drop 59).any fun r => r.2 v) = false) :
    firstFailing allRules v = 0 := by
  have f : allRules = allRules.take 38 ++ safetyRules ++ allRules.drop 59 := rfl
  have g : ∀ l : List (Nat × (RuleView → Bool)), (l.any fun r => r.2 v) = false → l.find? (fun r => r.2 v) = none :=
    fun l hl => List.find?_eq_none.2 fun r hr => by simpa using List.any_eq_false.1 hl r hr
  rw [firstFailing, f, List.find?_append, List.find?_append, g _ h0, first_safety v h hs, g _ h1]
  rfl

theorem pad_len (n : Nat) (l : List Byte) : (padTo n l).length = n := by simp [padTo]; omega

theorem good_proof : ∀ s : State, s = { st (challenged (dv .run)) with otp := { provisioned := 1 } } →
    s.dev.takes host .b true ∧ (chal.ph (Otp.keyBytes { provisioned := 1 } 0) (Cfg.nodeNumber [])).length = 32
      ∧ (s.dev.path host).challenge = some chal ∧ s.mayOpen chal.slot chal.level
      ∧ chal.ph (Otp.keyBytes { provisioned := 1 } 0) (Cfg.nodeNumber [])
          = chal.ph (s.otp.keyBytes chal.slot) (Cfg.nodeNumber s.dev.cfg) := by
  rintro s rfl
  exact ⟨by decide +kernel, pad_len 32 _, by decide +kernel, by decide +kernel, rfl⟩

theorem bad_proof : badProof.length = 32
    ∧ badProof ≠ chal.ph (Otp.keyBytes { provisioned := 1 } 0) (Cfg.nodeNumber []) := by
  unfold badProof
  split
  · next h => rw [h]; decide
  · next h => exact ⟨by decide, fun e => h e.symm⟩

theorem close_session : closeBytes.length = 36 ∧ closeBytes.drop 20 = hkTag [] (closeBytes.take 20) "HK-Q" := by
  have l : ∀ x y : List Byte, x.length = 20 → (x ++ y).take 20 = x ∧ (x ++ y).drop 20 = y := by
    intro x y h; simp [h]
  refine ⟨by simp [closeBytes, hkTag, pad_len], ?_⟩
  rw [closeBytes, (l _ _ (by rfl)).1, (l _ _ (by rfl)).2]

theorem shadow_rule : (commAlive (touchPath host (st (tool (dv .standby))).dev)).shadowRule = 0 := by
  rw [Device.shadowRule, firstFailing, first_safety _ rfl (by decide +kernel)]; rfl

/-- The session of datagram tests. -/
def hkOpen : Device :=
  od (fun o => { o with paths := [(.hk 1 1, { session := some { level := 1, slot := 0, handle := 1, key := [], lastUse := 0 } })] })
    (cans (dv .run))

theorem hk_session : (st hkOpen).dev.hkSession (.hk 1 1) closeBytes = some (some []) := by
  have f : field closeBytes 8 4 = 1 := by decide +kernel
  have p : ((st hkOpen).dev.path (.hk 1 1)).session = some { level := 1, slot := 0, handle := 1, key := [], lastUse := 0 } := by
    decide +kernel
  simp only [Device.hkSession, f, p, close_session.1]
  rw [if_neg (by decide), if_pos ⟨by decide, by decide, close_session.2⟩]

theorem name_bounds (m n : Nat) (hm : m < 2048) (hn : n < 2097152) :
    0 < fields [(63, 1), (60, 2), (56, 0), (49, 0), (40, 128), (35, 0), (32, 0), (21, m), (0, n)]
      ∧ fields [(63, 1), (60, 2), (56, 0), (49, 0), (40, 128), (35, 0), (32, 0), (21, m), (0, n)] ≤ 18446744073709551615 := by
  simp only [fields, List.foldl]
  omega

theorem isoName_eq : (st (cans (dv .run))).dev.isoName
    = fields [(63, 1), (60, 2), (56, 0), (49, 0), (40, 128), (35, 0), (32, 0), (21, Config.manufacturerCode.toNat),
        (0, Config.serialNumber.toNat % 2097152)] := by
  have c : (Cfg.isoDcInst (st (cans (dv .run))).dev.cfg, Cfg.isoDevClass (st (cans (dv .run))).dev.cfg,
      Cfg.isoFunction (st (cans (dv .run))).dev.cfg, Cfg.isoFuncInst (st (cans (dv .run))).dev.cfg,
      Cfg.pairPosition (st (cans (dv .run))).dev.cfg) = (0, 0, 128, 0, 0) := by decide +kernel
  simp only [Prod.mk.injEq] at c
  obtain ⟨c1, c2, c3, c4, c5⟩ := c
  generalize st (cans (dv .run)) = s at *
  simp only [Device.isoName, c1, c2, c3, c4, c5, if_neg (show ¬ (0 = 2) by decide)]

theorem isoName_bounds : 0 < (st (cans (dv .run))).dev.isoName ∧ (st (cans (dv .run))).dev.isoName ≤ 18446744073709551615 := by
  rw [isoName_eq]
  exact name_bounds _ _ Config.manufacturerCode.isLt (Nat.mod_lt _ (by decide))

theorem framed_same : (st (framed 0 .run none none)).dev.lastFrame.settingsId = (st (framed 0 .run none none)).dev.settingsId := by
  show settingsIdOf [(0x200002, 1)] + 0 = settingsIdOf [(0x200002, 1)]
  simp

/-- M00 with a comparator of one evaluation, whose upper limit is a REAL32. -/
def compPort (hi : Nat) : Device :=
  cfg [(0x360901, 1), (0x360601, hi)] ((dv .run).onMchan 0 fun c => { c with modOk := true, fastSettle := 0 })

theorem comp_silent (d : Device) (hf : Cfg.compFilt d.cfg 0 = 1) (hs : (d.mchan 0).subst = false) (hm : (d.mchan 0).modFail = false)
    (hu : d.fastUsable 0 = true) (h0 : (d.mchan 0).calOffset = 0) (h1 : (d.mchan 0).calGain = 2 ^ 30)
    (h2 : d.therm.refTemp = some 25) : d.compRun [{ ch := 0, clocks := [] }] 0 = some [0] := by
  have z : clampInt (-32767) 32767 (roundCode (32767 * fastFilter (clocksBefore (4 * 0) []))) = 0 := by decide +kernel
  have e : d.evalAt (streamsBefore (4 * 0) [{ ch := 0, clocks := [] }]) 0 = some (0, true) := by
    simp only [Device.evalAt, Device.substitute, hs, Device.evalCode, hm, streamsBefore, streamOf, List.map, List.find?]
    simp [fast_as_is d 0 _ h0 h1 h2, hu]
    exact z
  simp only [Device.compRun, hf, List.range, List.range.loop, List.mapM_cons, List.mapM_nil, e]
  rfl

theorem comp_run : (st (compPort 0)).dev.compRun [{ ch := 0, clocks := [] }] 0 = some [0]
    ∧ (st ((compPort 0x42c80000).onMchan 0 fun c => { c with outHi := true })).dev.compRun [{ ch := 0, clocks := [] }] 0 = some [0]
    ∧ (st ((compPort 0).onMchan 0 fun c => { c with outHi := true })).dev.compRun [{ ch := 0, clocks := [] }] 0 = some [0] := by
  refine ⟨comp_silent _ ?_ ?_ ?_ ?_ ?_ ?_ ?_, comp_silent _ ?_ ?_ ?_ ?_ ?_ ?_ ?_, comp_silent _ ?_ ?_ ?_ ?_ ?_ ?_ ?_⟩ <;> decide +kernel

/-- Port A at the end of an F2 stop above the speed that wants ASC, its islands able to hold it. -/
def ascF2 : Device :=
  tm (ms 10) (cfg [(0x603001, 0x3f800000), (0x610001, 1)]
    (po .a (fun x => { x with state := .stopping, stop := .f2, slowSince := some 0, lastSpeed := 5 }) (arm .portA (dv .run))))

theorem asc_wanted : (st ascF2).dev.wantsAsc .a = true := by
  have h : Cfg.machineType (st ascF2).dev.cfg .a = 1 ∧ 0 < Cfg.ascSpeed (st ascF2).dev.cfg .a
      ∧ Cfg.ascSpeed (st ascF2).dev.cfg .a < ratAbs ((st ascF2).dev.portSpeed .a) := by decide +kernel
  simp [Device.wantsAsc, Device.wantsAscAt, h.1, h.2.1, h.2.2]

/-- A module that joins its pair at 5 ns with the settings of its partner. -/
def joining : Device := tm 5 (ct (fun c => { c with joinT := some 5 }) (scfg [] (sameId 0 (dv .ready))))

theorem joining_ok : (st joining).dev.runOk = true := by
  have h : (st joining).dev.safety.sc = .run ∧ (st joining).dev.active .tbatLost = false ∧ (st joining).dev.bist.guyBar = false := by
    decide +kernel
  have i : (st joining).dev.sameIdentity = true := by
    show (((0 : W32) == 0) && (settingsIdOf [(0x200002, 1)] + 0 == settingsIdOf [(0x200002, 1)])) = true
    simp
  simp [Device.runOk, h.1, h.2.1, h.2.2, i]

theorem uint_not (r : ObjRow) (k : Nat) (h : r.ty = .uint k) (n : Nat) : r.ty ≠ .octets n := by simp [h]

theorem factory_good : bankGood {} {} = true := by simp [bankGood, Bank.result, Otp.arCount]

/-- An image of an empty body whose digest field holds zeros. -/
def image : Bank :=
  { factory := false, chunks := [(0, [0x4E, 0x59, 0x4D, 0x46, 1, 0, 0, 0, 0x60, 0x15, 0, 0] ++ List.replicate 1012 0)] }

/-- A bank verifies where the open digest and signature functions accept it (log entry 3). -/
theorem image_verifies (hd : Config.shake256 [] 512 = List.replicate 64 0)
    (hs : Config.slhVerify (Config.firmwareKey 0) (signedWith fwContext (image.bytes 0 256)) (image.bytes 256 29792) = true) :
    bankGood {} image = true := by
  have b : image.bodyLen = 0 := by decide +kernel
  have k : image.keyId = 0 := by decide +kernel
  have z : image.bytes 256 0 = [] := rfl
  have e : image.bytes 32 64 = List.replicate 64 0 := by decide +kernel
  have f0 : image.field 0 4 = fwText := by decide +kernel
  have f1 : image.field 4 1 = 1 := by decide +kernel
  have f2 : image.field 8 4 = 0x1560 := by decide +kernel
  have f3 : image.field 12 2 = 0 := by decide +kernel
  have c : (image.chunks.lookup 0).isNone = false := by decide +kernel
  have a : ¬ image.secVer < Otp.arCount {} := by decide +kernel
  have y : ¬ (image.factory = true) := by decide
  rw [bankGood, Bank.result, if_neg y, if_neg (by simp [c]), if_neg (by simp [f0, f1]), if_neg (by simp [f2]), if_neg (by simp [f3]), if_neg a]
  simp [Bank.imageLen, b, k, z, e, hd, hs]

/-! ## Witnesses

One theorem for each statement with hypotheses; its parts follow the order of the statement's clauses. Whether a firmware bank
verifies rests on the open signature function (log entry 3), so no value meets a hypothesis on a good bank by evaluation alone;
image_verifies shows a bank that is good where the open functions accept it. -/

theorem witness_LogicSupplyEvents :
    (∃ (s : State), s.dev.ctl.state = .off)
    ∧ (∃ (s : State), s.dev.ctl.state ≠ .off)
    ∧ (∃ (s : State), s.dev.ctl.state ≠ .off ∧ s.dev.ctl.state ≠ .safe)
    ∧ (∃ (s : State), s.dev.ctl.state = .safe) :=
  ⟨⟨st (dv .off), by decide +kernel⟩,
   ⟨st (dv .boot), by decide +kernel⟩,
   ⟨st (dv .boot), by decide +kernel⟩,
   ⟨st (dv .safe), by decide +kernel⟩⟩

theorem witness_ModuleCommands :
    (∃ (q : Path) (s : State), s.dev.takes q .b false ∧ s.dev.ctl.state = .standby ∧ s.dev.meas.calState ≠ 1 ∧ s.dev.readyOk)
    ∧ (∃ (q : Path) (s : State), s.dev.takes q .b false ∧ s.dev.ctl.state = .ready ∧ s.dev.runOk)
    ∧ (∃ (q : Path) (s : State), s.dev.takes q .b false ∧ s.dev.ctl.state = .run)
    ∧ (∃ (q : Path) (s : State), s.dev.takes q .b false ∧ (s.dev.ctl.state = .ready ∨ (s.dev.ctl.state = .safe ∧ s.dev.faults.highest < 4)))
    ∧ (∃ (q : Path) (s : State), s.dev.takes q .v false ∧ s.dev.ctl.state = .standby)
    ∧ (∃ (q : Path) (s : State), s.dev.takes q .v false ∧ s.dev.ctl.state = .service)
    ∧ (∃ (q : Path) (s : State), s.dev.takes q .e false ∧ s.dev.paired ∧ s.dev.ctl.lead ∧ s.dev.ctl.partnerPresent ∧ s.dev.shifting = false ∧ s.dev.ctl.handoverT = none)
    ∧ (∃ (q : Path) (s : State), s.dev.takes q .v true ∧ s.dev.ctl.state = .fault)
    ∧ (∃ (q : Path) (s : State), s.dev.takes q .e false)
    ∧ (∃ (q : Path) (s : State) (c : Instr) (lvl : ObjLevel) (inFault : Bool), ((c = .moduleCmdReady q ∧ lvl = .b ∧ inFault = false ∧ s.dev.meas.calState ≠ 1 ∧ ¬ (s.dev.ctl.state = .standby ∧ s.dev.readyOk = true)) ∨ (c = .moduleCmdRun q ∧ lvl = .b ∧ inFault = false ∧ ¬ (s.dev.ctl.state = .ready ∧ s.dev.runOk = true)) ∨ (c = .moduleCmdStop q ∧ lvl = .b ∧ inFault = false ∧ s.dev.ctl.state ≠ .run) ∨ (c = .moduleCmdStandby q ∧ lvl = .b ∧ inFault = false ∧ s.dev.ctl.state ≠ .ready ∧ (s.dev.ctl.state ≠ .safe ∨ 4 ≤ s.dev.faults.highest)) ∨ (c = .moduleCmdService q ∧ lvl = .v ∧ inFault = false ∧ s.dev.ctl.state ≠ .standby) ∨ (c = .moduleCmdLeaveService q ∧ lvl = .v ∧ inFault = false ∧ s.dev.ctl.state ≠ .service) ∨ (c = .moduleCmdHandover q ∧ lvl = .e ∧ inFault = false ∧ s.dev.ctl.lead = false) ∨ (c = .moduleCmdReset q ∧ lvl = .v ∧ inFault = true ∧ s.dev.ctl.state ≠ .fault)) ∧ s.dev.takes q lvl inFault) :=
  ⟨⟨host, st (rdy (dv .standby)), by decide +kernel⟩,
   ⟨host, st (sf (fun x => { x with sc := .run }) (dv .ready)), by decide +kernel⟩,
   ⟨host, st (dv .run), by decide +kernel⟩,
   ⟨host, st (sf (fun x => { x with sc := .run }) (dv .ready)), by decide +kernel⟩,
   ⟨host, st (rdy (dv .standby)), by decide +kernel⟩,
   ⟨host, st (dv .service), by decide +kernel⟩,
   ⟨host, st (pair (dv .run)), by decide +kernel⟩,
   ⟨host, st (dv .fault), by decide +kernel⟩,
   ⟨host, st (rdy (dv .standby)), by decide +kernel⟩,
   ⟨host, st (rdy (dv .standby)), .moduleCmdRun host, .b, false, by decide +kernel⟩⟩

theorem witness_ModuleEvents :
    (∃ (s : State), s.dev.ctl.state ≠ .off)
    ∧ (∃ (s : State), s.dev.ctl.state ≠ .off ∧ (s.dev.eng .a).late)
    ∧ (∃ (s : State), s.dev.ctl.state ≠ .off ∧ (s.dev.eng .b).late)
    ∧ (∃ (i : Fin 64) (s : State), s.dev.ctl.state ≠ .off ∧ i.val ∈ s.dev.gates.reedLate)
    ∧ (∃ (k : Fin 32) (s : State), s.dev.ctl.state ≠ .off ∧ (s.dev.slot k).lateAwait)
    ∧ (∃ (s : State), s.dev.ctl.state = .ready ∧ s.dev.vLink < 900 ∧ s.dev.held .readyLow 100000000)
    ∧ (∃ (s : State), s.dev.ctl.state = .ready ∧ 900 ≤ s.dev.vLink)
    ∧ (∃ (p : PortId) (s : State), (s.dev.port p).state = .asc ∧ s.dev.ascExitDue p)
    ∧ (∃ (p : PortId) (s : State), (s.dev.port p).state = .fault ∧ (s.dev.port p).faultAsc ∧ s.dev.ascExitDue p)
    ∧ (∃ (p : PortId) (s : State), s.dev.ascExitOk p = false) :=
  ⟨⟨st ((dv .run).onEng .a fun e => { e with late := true }), by decide +kernel⟩,
   ⟨st ((dv .run).onEng .a fun e => { e with late := true }), by decide +kernel⟩,
   ⟨st ((dv .run).onEng .b fun e => { e with late := true }), by decide +kernel⟩,
   ⟨3, st (gt (fun g => { g with reedLate := [3] }) (dv .run)), by decide +kernel⟩,
   ⟨3, st { dv .run with slots := List.replicate 32 { lateAwait := true } }, by decide +kernel⟩,
   ⟨st (tm (ms 100) (wa [.readyLow] (link 899 (dv .ready)))), by decide +kernel⟩,
   ⟨st (link 900 (dv .ready)), by decide +kernel⟩,
   ⟨.a, st (ascPort .asc false), by decide +kernel, asc_due.1⟩,
   ⟨.a, st (ascPort .fault true), by decide +kernel, by decide +kernel, asc_due.2⟩,
   ⟨.a, st ((dv .run).onEng .a fun e => { e with late := true }), by decide +kernel⟩⟩

theorem witness_PairEvents :
    (∃ (s : State), s.dev.paired ∧ s.dev.ctl.partnerPresent ∧ s.dev.guySilent 20000)
    ∧ (∃ (s : State), s.dev.paired ∧ s.dev.ctl.partnerPresent ∧ s.dev.partnerGone)
    ∧ (∃ (s : State), s.dev.paired ∧ s.dev.ctl.state = .run ∧ s.dev.ctl.lead = false ∧ s.dev.ctl.pairOkIn ∧ s.dev.ctl.partnerPresent ∧ s.dev.guySilent 30000)
    ∧ (∃ (s : State), s.dev.paired ∧ s.dev.ctl.partnerPresent ∧ s.dev.scAlive)
    ∧ (∃ (s : State), s.dev.ctl.partnerPresent ∧ ((s.dev.ctl.lead ∧ reached s.dev.now s.dev.ctl.handoverT ∧ s.dev.ctl.handoverAcked) ∨ (s.dev.ctl.lead = false ∧ reached s.dev.now s.dev.ctl.handoverGiven)))
    ∧ (∃ (s : State), s.dev.ctl.lead ∧ reached (s.dev.now + 20000) s.dev.ctl.handoverT ∧ s.dev.ctl.handoverAcked = false)
    ∧ (∃ (s : State), s.dev.ctl.lead = false ∧ reached (s.dev.now + 20000) s.dev.ctl.handoverGiven)
    ∧ (∃ (s : State), reached s.dev.now s.dev.ctl.joinT ∧ s.dev.ctl.state = .ready ∧ s.dev.runOk ∧ s.dev.ctl.partnerPresent)
    ∧ (∃ (s : State), reached s.dev.now s.dev.ctl.joinT ∧ ¬ (s.dev.ctl.state = .ready ∧ s.dev.runOk = true ∧ s.dev.ctl.partnerPresent = true))
    ∧ (∃ (s : State), s.dev.ctl.lead ∧ lasted s.dev.now s.dev.ctl.shareRampStart 200000000) :=
  ⟨⟨st (pair (dv .run)), by decide +kernel⟩,
   ⟨st (pair (dv .run)), by decide +kernel⟩,
   ⟨st (ct (fun c => { c with lead := false }) (pair (dv .run))), by decide +kernel⟩,
   ⟨st (sf (fun x => { x with sc := .run }) (pair (dv .run))), by decide +kernel⟩,
   ⟨st (tm 5 (ct (fun c => { c with handoverT := some 5, handoverAcked := true }) (pair (dv .run)))), by decide +kernel⟩,
   ⟨st (ct (fun c => { c with handoverT := some 5 }) (pair (dv .run))), by decide +kernel⟩,
   ⟨st (ct (fun c => { c with lead := false, handoverGiven := some 5 }) (pair (dv .run))), by decide +kernel⟩,
   ⟨st joining, by decide +kernel, by decide +kernel, joining_ok, by decide +kernel⟩,
   ⟨st (tm 5 (ct (fun c => { c with joinT := some 5 }) (pair (dv .standby)))), by decide +kernel⟩,
   ⟨st (tm (ms 200) (ct (fun c => { c with shareRampStart := some 0 }) (pair (dv .run)))), by decide +kernel⟩⟩

theorem witness_GateChannelEvents :
    (∃ (i : Fin 64) (tick : Fin 50) (s : State), (42 < tick.val ∨ (s.dev.island i).link ≠ 2))
    ∧ (∃ (i : Fin 64) (tick : Fin 50) (s : State), s.dev.ctl.state ≠ .off ∧ tick.val ≤ 42 ∧ (s.dev.island i).link = 2 ∧ ((s.dev.island i).safe = true ∨ (s.dev.island i).armed = false))
    ∧ (∃ (i : Fin 64) (tick : Fin 50) (s : State), s.dev.ctl.state ≠ .off ∧ tick.val ≤ 42 ∧ (s.dev.island i).link = 2 ∧ (s.dev.island i).safe = false ∧ (s.dev.island i).armed = true)
    ∧ (∃ (i : Fin 64) (k : Fin 8) (frame : Fin 4) (tick : Fin 50) (s : State), s.dev.ctl.state ≠ .off ∧ tick.val ≤ 42 ∧ (s.dev.island i).link = 2 ∧ (s.dev.island i).safe = false ∧ (s.dev.island i).armed = true ∧ (s.dev.chan (8 * i + k)).later = none ∧ (s.dev.chan (8 * i + k)).holdAt ≤ s.dev.now + 5 * (50 * frame + tick) ∧ (s.dev.chan (8 * i + k)).soft = none)
    ∧ (∃ (s : State), s.dev.ctl.state ≠ .off)
    ∧ (∃ (g : Fin 512), 464 ≤ g.val)
    ∧ (∃ (g : Fin 512) (neg : Bool) (s : State), s.dev.ctl.state ≠ .off ∧ (neg = false ∨ g.val < 464))
    ∧ (∃ (g : Fin 512), g.val < 464)
    ∧ (∃ (g : Fin 512), 464 ≤ g.val ∧ g.val < 472 ∧ g.val % 4 < 2)
    ∧ (∃ (g : Fin 512), 472 ≤ g.val ∧ g.val < 488 ∧ g.val % 2 = 0)
    ∧ (∃ (g : Fin 512), 488 ≤ g.val ∧ g.val % 2 = 0)
    ∧ (∃ (g : Fin 512), 464 ≤ g.val ∧ g.val < 472 ∧ 2 ≤ g.val % 4)
    ∧ (∃ (g : Fin 512), 472 ≤ g.val ∧ g.val % 2 = 1)
    ∧ (∃ (g : Fin 512) (s : State), (s.dev.chan g).gateOn ∧ s.dev.blankEnd g < s.dev.now + 1000)
    ∧ (∃ (g : Fin 512) (s : State), ((s.dev.chan g).gateOn = false ∨ s.dev.now + 1000 ≤ s.dev.blankEnd g)) :=
  ⟨⟨0, 43, st (arm .portA (dv .run)), by decide +kernel⟩,
   ⟨0, 42, st (isl 0 (fun x => { x with link := 2 }) (dv .run)), by decide +kernel⟩,
   ⟨0, 42, st (arm .portA (dv .run)), by decide +kernel⟩,
   ⟨0, 0, 0, 42, st (arm .portA (dv .run)), by decide +kernel⟩,
   ⟨st (arm .portA (dv .run)), by decide +kernel⟩,
   ⟨511, by decide +kernel⟩,
   ⟨511, false, st (arm .portA (dv .run)), by decide +kernel⟩,
   ⟨463, by decide +kernel⟩,
   ⟨464, by decide +kernel⟩,
   ⟨472, by decide +kernel⟩,
   ⟨488, by decide +kernel⟩,
   ⟨466, by decide +kernel⟩,
   ⟨511, by decide +kernel⟩,
   ⟨8, st ((dv .run).onChan 8 fun c => { c with gateOn := true }), by decide +kernel⟩,
   ⟨511, st (arm .portA (dv .run)), by decide +kernel⟩⟩

theorem witness_GateInterlockTrips :
    (∃ (i : Fin 64) (k : Fin 8) (h : Nat) (tick : Fin 50) (s : State), s.dev.ctl.state ≠ .off ∧ tick.val ≤ 42 ∧ (s.dev.island i).link = 2 ∧ (s.dev.island i).safe = false ∧ (s.dev.island i).armed ∧ h ∈ complementChans (8 * i + k) ∧ (s.dev.chan h).cmdOn) :=
  ⟨0, 0, 32, 42, st ((arm .portA (dv .run)).onChan 32 fun c => { c with cmdOn := true }), by decide +kernel⟩

theorem witness_WarpLinkEvents :
    (∃ (s : State), s.dev.ctl.state ≠ .off ∧ s.dev.cross.timebaseStopped = false)
    ∧ (∃ (i : Fin 64) (s : State), (s.dev.island i).link ≠ 2)
    ∧ (∃ (i : Fin 64) (f : WarpDown) (s : State), s.dev.ctl.state ≠ .off ∧ s.dev.cross.timebaseStopped = false ∧ (s.dev.island i).link = 2 ∧ f.epoch.toNat ≠ (s.dev.island i).epoch)
    ∧ (∃ (i : Fin 64) (f : WarpUp) (s : State), s.dev.ctl.state ≠ .off ∧ s.dev.cross.timebaseStopped = false ∧ (s.dev.island i).link = 2 ∧ f.epoch.toNat ≠ (s.dev.island i).epoch)
    ∧ (∃ (i : Fin 64) (f : WarpDown) (s : State), s.dev.ctl.state ≠ .off ∧ s.dev.cross.timebaseStopped = false ∧ (s.dev.island i).link = 2 ∧ f.epoch.toNat = (s.dev.island i).epoch)
    ∧ (∃ (i : Fin 64) (f : WarpUp) (s : State), s.dev.ctl.state ≠ .off ∧ s.dev.cross.timebaseStopped = false ∧ (s.dev.island i).link = 2 ∧ f.epoch.toNat = (s.dev.island i).epoch)
    ∧ (∃ (f : WarpUp), f.ack = [] ∧ f.flt = [] ∧ f.uv = [] ∧ f.temp = none)
    ∧ (∃ (i : Fin 64) (s : State), (s.dev.island i).unacked = none)
    ∧ (∃ (i : Fin 64) (l : List (Fin 8 × Bool)) (n : Nat) (s : State), s.dev.ctl.state ≠ .off ∧ (s.dev.island i).unacked = some (l, n) ∧ n ≤ 1)
    ∧ (∃ (i : Fin 64) (l : List (Fin 8 × Bool)) (n : Nat) (s : State), s.dev.ctl.state ≠ .off ∧ (s.dev.island i).unacked = some (l, n) ∧ 1 < n)
    ∧ (∃ (s : State), s.dev.ctl.state ≠ .off)
    ∧ (∃ (i : Fin 64) (s : State), (s.dev.island i).link = 2)
    ∧ (∃ (i : Fin 64) (u : Nanos) (s : State), (s.dev.island i).presetDue = some u ∧ u + 1000 ≤ s.dev.now ∧ (s.dev.island i).presetOn = false)
    ∧ (∃ (i : Fin 64) (u : Nanos) (s : State), (s.dev.island i).presetDue = some u ∧ u + 5 * Cfg.deadT s.dev.cfg (stageOfIsland i).num < s.dev.now ∧ (s.dev.island i).presetOn = true)
    ∧ (∃ (i : Fin 64) (s : State), s.dev.ctl.state ≠ .off ∧ (s.dev.island i).link = 1)
    ∧ (∃ (i : Fin 64) (s : State), (s.dev.island i).link ≠ 1)
    ∧ (∃ (i : Fin 64) (s : State), s.dev.ctl.state ≠ .off ∧ (s.dev.island i).link = 2 ∧ (s.dev.island i).safe ∧ s.dev.stageIdle (stageOfIsland i) ∧ s.dev.enablePin (stageOfIsland i).group ∧ s.dev.stoFree (stageOfIsland i) ∧ (s.dev.island i).otPending = false)
    ∧ (∃ (i : Fin 64) (s : State), s.dev.enablePin (stageOfIsland i).group = false)
    ∧ (∃ (g : Fin 512) (tick : Fin 200) (s : State), (s.dev.chan g).desatArmed ∧ (s.dev.chan g).gateOn ∧ s.dev.blankEnd g ≤ s.dev.now + 5 * tick)
    ∧ (∃ (g : Fin 512) (s : State), (s.dev.chan g).gateOn = false)
    ∧ (∃ (p : PortId) (ph : Phase) (s : State), (((s.dev.eng p).leg ph).level.isInner = false ∨ lasted s.dev.now ((s.dev.eng p).leg ph).outerAt 1000 = false))
    ∧ (∃ (p : PortId) (ph : Phase) (s : State), s.dev.ctl.state ≠ .off ∧ ((s.dev.eng p).leg ph).level.isInner ∧ lasted s.dev.now ((s.dev.eng p).leg ph).outerAt 1000)
    ∧ (∃ (n : Fin 3) (s : State), s.dev.ctl.state ≠ .off ∧ lasted s.dev.now (s.dev.supply.conv.phases.getD n {}).outerAt 1000)
    ∧ (∃ (n : Fin 3) (s : State), lasted s.dev.now (s.dev.supply.conv.phases.getD n {}).outerAt 1000 = false) :=
  ⟨⟨st (dv .boot), by decide +kernel⟩,
   ⟨17, st (dv .boot), by decide +kernel⟩,
   ⟨17, { epoch := 1, frame := 0 }, st (arm .portA (dv .run)), by decide +kernel⟩,
   ⟨17, { epoch := 1, frame := 0 }, st (arm .portA (dv .run)), by decide +kernel⟩,
   ⟨17, { epoch := 0, frame := 0, presetOn := true, cls := .c }, st (arm .portA (dv .run)), by decide +kernel⟩,
   ⟨17, { epoch := 0, frame := 0, credit := 1 }, st (arm .portA (dv .run)), by decide +kernel⟩,
   ⟨{ epoch := 0, frame := 0, credit := 1 }, by decide +kernel⟩,
   ⟨17, st (dv .boot), by decide +kernel⟩,
   ⟨0, [(3, true)], 1, st ((dv .run).onIsland 0 fun x => { x with unacked := some ([(3, true)], 1) }), by decide +kernel⟩,
   ⟨0, [(3, true)], 2, st ((dv .run).onIsland 0 fun x => { x with unacked := some ([(3, true)], 2) }), by decide +kernel⟩,
   ⟨st (dv .boot), by decide +kernel⟩,
   ⟨17, st (arm .portA (dv .run)), by decide +kernel⟩,
   ⟨0, 0, st (tm 1000 (isl 0 (fun x => { x with presetDue := some 0 }) (dv .run))), by decide +kernel⟩,
   ⟨0, 0, st (tm (ms 1) (isl 0 (fun x => { x with presetDue := some 0, presetOn := true }) (dv .run))), by decide +kernel⟩,
   ⟨0, st (isl 0 (fun x => { x with link := 1 }) (dv .run)), by decide +kernel⟩,
   ⟨17, st (dv .boot), by decide +kernel⟩,
   ⟨0, st (sf (fun x => { x with lineA := false }) ((dv .standby).onIsland 0 fun x => { x with link := 2 })), by decide +kernel⟩,
   ⟨18, st (ct (fun c => { c with enB := false }) (dv .standby)), by decide +kernel⟩,
   ⟨9, 199, st ((dv .run).onChan 9 fun c => { c with gateOn := true, desatArmed := true }), by decide +kernel⟩,
   ⟨9, st (dv .boot), by decide +kernel⟩,
   ⟨.a, .u, st (dv .boot), by decide +kernel⟩,
   ⟨.a, .u, st (tm 1000 (en .a (fun e => e.onLeg .u fun l => { l with level := .innerP, outerAt := some 0 }) (dv .run))), by decide +kernel⟩,
   ⟨1, st (tm 1000 (su (fun x => { x with conv := { phases := List.replicate 3 { outerAt := some 0 } } }) (dv .run))), by decide +kernel⟩,
   ⟨0, st (dv .boot), by decide +kernel⟩⟩

theorem witness_EnableAndDieEvents :
    (∃ (s : State), s.dev.ctl.state ≠ .off)
    ∧ (∃ (e : EnableGroup) (lowNs : Nat) (s : State), s.dev.ctl.state ≠ .off ∧ lowNs < 10000 ∧ s.dev.inj.lowBy.contains e.num = false)
    ∧ (∃ (e : EnableGroup) (lowNs : Nat) (s : State), s.dev.ctl.state ≠ .off ∧ 10000 ≤ lowNs ∧ s.dev.inj.lowBy.contains e.num = false)
    ∧ (∃ (e : EnableGroup) (s : State), s.dev.ctl.state ≠ .off ∧ s.dev.inj.lowBy.contains e.num = true)
    ∧ (∃ (still : List (FaultName × Scope)) (f : FaultName), f ∈ gateLatched ∧ (∀ sc : Scope, (f, sc) ∉ still))
    ∧ (∃ (s : State), (∀ g : Nat, g < 512 → s.dev.reedOn g = false) ∧ Cfg.reedMode s.dev.cfg ≠ 2)
    ∧ (∃ (g : Fin 512) (u : Nanos) (s : State), (s.dev.chan g).satSince = some u ∧ u + sec (Cfg.reedSatTime s.dev.cfg) ≤ s.dev.now)
    ∧ (∃ (g : Fin 512) (s : State), s.dev.forced 0x020A g = true)
    ∧ (∃ (g : Fin 512) (s : State), (s.dev.chan g).satSince = none ∧ s.dev.forced 0x020A g = false)
    ∧ (∃ (q : Path) (s : State), s.dev.takes q .v false ∧ s.dev.gates.retestState ≠ 1 ∧ (s.dev.ctl.state = .standby ∨ s.dev.ctl.state = .service))
    ∧ (∃ (q : Path) (s : State), s.dev.takes q .v false ∧ s.dev.gates.retestState = 1)
    ∧ (∃ (q : Path) (s : State), s.dev.takes q .v false ∧ s.dev.gates.retestState ≠ 1 ∧ s.dev.ctl.state ≠ .standby ∧ s.dev.ctl.state ≠ .service)
    ∧ (∃ (s : State), s.dev.gates.retestState = 1)
    ∧ (∃ (s : State), s.dev.gates.retestState ≠ 1) :=
  ⟨⟨st (dv .standby), by decide +kernel⟩,
   ⟨.enA, 0, st (dv .standby), by decide +kernel⟩,
   ⟨.enA, 10000, st (dv .run), by decide +kernel⟩,
   ⟨.enB, st { dv .run with inj := { lowBy := [1] } }, by decide +kernel⟩,
   ⟨[], .desat, by decide +kernel, by simp⟩,
   ⟨st (dv .standby), by decide +kernel⟩,
   ⟨5, 0, st (tm (sec 100) ((dv .run).onChan 5 fun c => { c with satSince := some 0 })), by decide +kernel⟩,
   ⟨5, st (inj 0x020A 5 0 (dv .run)), by decide +kernel⟩,
   ⟨511, st (dv .standby), by decide +kernel⟩,
   ⟨host, st (dv .standby), by decide +kernel⟩,
   ⟨host, st (gt (fun g => { g with retestState := 1 }) (dv .service)), by decide +kernel⟩,
   ⟨host, st ((dv .run).onChan 511 fun c => { c with satSince := some 0 }), by decide +kernel⟩,
   ⟨st (gt (fun g => { g with retestState := 1 }) (dv .service)), by decide +kernel⟩,
   ⟨st (dv .standby), by decide +kernel⟩⟩

theorem witness_EngineDecisions :
    (∃ (p : PortId) (ticks : Nat) (s : State), s.dev.ctl.state ≠ .off ∧ ticks < 140 ∧ (s.dev.eng p).late = false)
    ∧ (∃ (p : PortId) (ticks : Nat) (s : State), (140 ≤ ticks ∨ (s.dev.eng p).late = true))
    ∧ (∃ (p : PortId) (s : State), (s.dev.eng p).holding = none)
    ∧ (∃ (p : PortId) (dec : Decision) (s : State), s.dev.ctl.state ≠ .off ∧ (s.dev.eng p).holding = some dec ∧ (dec.code = none ∨ ((s.dev.eng p).selecting = false ∧ (s.dev.eng p).angleTest = none)))
    ∧ (∃ (p : PortId) (dec : Decision) (c : Nat) (s : State), s.dev.ctl.state ≠ .off ∧ (s.dev.eng p).holding = some dec ∧ dec.code = some c ∧ ((s.dev.eng p).selecting ∨ (s.dev.eng p).angleTest ≠ none))
    ∧ (∃ (p : PortId) (ph : Phase) (s : State), ((s.dev.eng p).leg ph).pending = none)
    ∧ (∃ (p : PortId) (ph : Phase) (on : List Nat) (due : Nanos) (off : Nanos) (s : State), ((s.dev.eng p).leg ph).pending = some (on, due, off) ∧ s.dev.now + 1000 ≤ due)
    ∧ (∃ (p : PortId) (ph : Phase) (on : List Nat) (due : Nanos) (off : Nanos) (s : State), s.dev.ctl.state ≠ .off ∧ ((s.dev.eng p).leg ph).pending = some (on, due, off) ∧ due < s.dev.now + 1000)
    ∧ (∃ (q : Path) (s : State), s.dev.takes q .e false ∧ s.dev.stageRefusal q = Abort.ok) :=
  ⟨⟨.a, 139, st (dv .run), by decide +kernel⟩,
   ⟨.a, 140, st (dv .run), by decide +kernel⟩,
   ⟨.a, st (dv .run), by decide +kernel⟩,
   ⟨.a, { sel := {}, commute := false, code := none, dwellHold := true }, st ((dv .run).onEng .a fun e => { e with holding := some { sel := {}, commute := false, code := none, dwellHold := true } }), by decide +kernel⟩,
   ⟨.b, { sel := {}, commute := true, code := some 26, dwellHold := false }, 26, st ((dv .run).onEng .b fun e => { e with holding := some { sel := {}, commute := true, code := some 26, dwellHold := false }, selecting := true }), by decide +kernel⟩,
   ⟨.a, .v, st (dv .run), by decide +kernel⟩,
   ⟨.a, .u, [1], 2000, 0, st (tm 1000 (en .a (fun e => e.onLeg .u fun l => { l with pending := some ([1], 2000, 0) }) (dv .run))), by decide +kernel⟩,
   ⟨.a, .v, [1], 400, 0, st ((dv .run).onEng .a fun e => { e with legV := { pending := some ([1], 400, 0) } }), by decide +kernel⟩,
   ⟨host, st (dv .run), by decide +kernel⟩⟩

theorem witness_EngineMonitors :
    (∃ (s : State), s.dev.ctl.state ≠ .off)
    ∧ (∃ (p : PortId) (s : State), s.dev.dwellAbove p ∧ s.dev.held (.dwell p) 10000000)
    ∧ (∃ (p : PortId) (s : State), (s.dev.dwellAbove p = false ∨ s.dev.held (.dwell p) 10000000 = false))
    ∧ (∃ (p : PortId) (s : State), s.dev.voltAbove p (Cfg.vlimOn s.dev.cfg p))
    ∧ (∃ (p : PortId) (s : State), s.dev.voltAbove p (Cfg.vlimOn s.dev.cfg p) = false)
    ∧ (∃ (p : PortId) (s : State), s.dev.voltAbove p (Cfg.vlimOff s.dev.cfg p) = false)
    ∧ (∃ (p : PortId) (s : State), s.dev.voltAbove p (Cfg.vlimOff s.dev.cfg p))
    ∧ (∃ (s : State), s.dev.anySelecting ∧ s.dev.npAbove (1 / 2) ∧ s.dev.held .npWarn 1000000)
    ∧ (∃ (s : State), s.dev.anySelecting ∧ s.dev.npAbove 1 ∧ s.dev.held .npHigh 10000)
    ∧ (∃ (s : State), s.dev.anySelecting = false)
    ∧ (∃ (p : PortId) (s : State), (s.dev.eng p).fluxBuild ∧ (lasted s.dev.now (s.dev.eng p).fluxSince (1000000 * Cfg.fluxBuildT s.dev.cfg p) ∨ s.dev.forced 0x0302 p.num))
    ∧ (∃ (p : PortId) (s : State), (s.dev.eng p).fluxBuild = false)
    ∧ (∃ (p : PortId) (a : AngleTest) (s : State), (s.dev.eng p).angleTest = some a ∧ a.pausing = false ∧ (a.start + 1000 * Cfg.initPulseT s.dev.cfg p ≤ s.dev.now ∨ 226 ≤ (s.dev.eng p).iTop))
    ∧ (∃ (p : PortId) (s : State), (s.dev.eng p).angleTest = none)
    ∧ (∃ (p : PortId) (a : AngleTest) (s : State), (s.dev.eng p).angleTest = some a ∧ a.pausing = true ∧ (a.start + 100000 ≤ s.dev.now ∨ (s.dev.eng p).iTop < 2) ∧ a.pulse < 5)
    ∧ (∃ (p : PortId) (a : AngleTest) (th : Rat) (s : State), (s.dev.eng p).angleTest = some a ∧ a.pausing = true ∧ (a.start + 100000 ≤ s.dev.now ∨ (s.dev.eng p).iTop < 2) ∧ 5 ≤ a.pulse ∧ testAngle a.peaks = some th ∧ s.dev.forced 0x0302 p.num = false)
    ∧ (∃ (p : PortId) (a : AngleTest) (s : State), (s.dev.eng p).angleTest = some a ∧ a.pausing = true ∧ (a.start + 100000 ≤ s.dev.now ∨ (s.dev.eng p).iTop < 2) ∧ 5 ≤ a.pulse ∧ (testAngle a.peaks = none ∨ s.dev.forced 0x0302 p.num = true))
    ∧ (∃ (p : PortId) (s : State), s.dev.idifAbove p ∧ s.dev.held (.idif p) 100000)
    ∧ (∃ (p : PortId) (s : State), s.dev.fluxAbove p ∧ s.dev.held (.diverge p) 10000)
    ∧ (∃ (p : PortId) (d : Device), (d.eng p).pairDec ∧ (Cfg.idifMax d.cfg p : Rat) < (d.eng p).idif)
    ∧ (∃ (p : PortId) (d : Device), 3 / 2 * Cfg.ratedFlux d.cfg p < (d.eng p).flux)
    ∧ (∃ (p : PortId) (d : Device), 0 < (d.eng p).dwellExt) :=
  ⟨⟨st ((dv .run).onEng .a fun e => { e with dwellExt := 1 }), by decide +kernel⟩,
   ⟨.a, st (tm (ms 10) (wa [.dwell .a] (en .a (fun e => { e with dwellExt := 1 }) (dv .run)))), by decide +kernel⟩,
   ⟨.a, st ((dv .run).onEng .a fun e => { e with dwellExt := 1 }), by decide +kernel⟩,
   ⟨.a, st ((dv .run).onEng .a fun e => { e with dwellExt := 1 }), by decide +kernel⟩,
   ⟨.a, st (link 1000 (dv .run)), by decide +kernel⟩,
   ⟨.a, st (link 1000 (dv .run)), by decide +kernel⟩,
   ⟨.a, st ((dv .run).onEng .a fun e => { e with dwellExt := 1 }), by decide +kernel⟩,
   ⟨st (tm (ms 1) (wa [.npWarn] (lat 7 200 (en .a (fun e => { e with selecting := true, vUp := 1000 }) (dv .run))))), by decide +kernel⟩,
   ⟨st (tm (ms 1) (wa [.npHigh] (lat 7 200 (en .a (fun e => { e with selecting := true, vUp := 1000 }) (dv .run))))), by decide +kernel⟩,
   ⟨st ((dv .run).onEng .a fun e => { e with dwellExt := 1 }), by decide +kernel⟩,
   ⟨.a, st (tm (sec 10) (en .a (fun e => { e with fluxBuild := true, fluxSince := some 0 }) (dv .run))), by decide +kernel⟩,
   ⟨.a, st ((dv .run).onEng .a fun e => { e with dwellExt := 1 }), by decide +kernel⟩,
   ⟨.a, { start := 0 }, st (tm (ms 1) (en .a (fun e => { e with angleTest := some { start := 0 } }) (dv .run))), by decide +kernel⟩,
   ⟨.a, st ((dv .run).onEng .a fun e => { e with dwellExt := 1 }), by decide +kernel⟩,
   ⟨.a, { pulse := 4, pausing := true }, st ((dv .run).onEng .a fun e => { e with angleTest := some { pulse := 4, pausing := true } }), by decide +kernel⟩,
   ⟨.a, { pulse := 5, pausing := true, peaks := [104, 50, 0, 0, 0, 50] }, 0, st (tm 100000 (en .a (fun e => { e with angleTest := some { pulse := 5, pausing := true, peaks := [104, 50, 0, 0, 0, 50] } }) (dv .run))), by decide +kernel⟩,
   ⟨.a, { pulse := 5, pausing := true, peaks := [1, 1, 1, 1, 1, 1] }, st ((dv .run).onEng .a fun e => { e with angleTest := some { pulse := 5, pausing := true, peaks := [1, 1, 1, 1, 1, 1] } }), by decide +kernel⟩,
   ⟨.a, st (tm (ms 100) (wa [.idif .a] (en .a (fun e => { e with pairDec := true, idif := 10000 }) (dv .run)))), by decide +kernel⟩,
   ⟨.a, st (tm (ms 100) (wa [.diverge .a] (en .a (fun e => { e with flux := 10000 }) (dv .run)))), by decide +kernel⟩,
   ⟨.a, en .a (fun e => { e with pairDec := true, idif := 10000 }) (dv .run), by decide +kernel⟩,
   ⟨.a, en .a (fun e => { e with flux := 10000 }) (dv .run), by decide +kernel⟩,
   ⟨.a, en .a (fun e => { e with dwellExt := 1 }) (dv .run), by decide +kernel⟩⟩

theorem witness_DraftTableEntry :
    (∃ (tl : Int) (k : Nat), -2 ≤ tl ∧ tl ≤ 2 ∧ k < 12)
    ∧ (∃ (e : Nat), e < 240)
    ∧ (∃ (v : RuleView) (e : Nat), rule303 v = false ∧ e < 240 ∧ v.S.lookup (0x618001 + e) ≠ none)
    ∧ (∃ (v : RuleView) (e : Nat), rule303 v = false ∧ e < 240 ∧ v.S.lookup (0x698001 + e) ≠ none)
    ∧ (∃ (d : Device) (p : PortId) (x : Selection), (d.eng p).vlim = false ∧ isZero (Cfg.draftTable d.cfg p (draftIndex x)) = false) :=
  ⟨⟨2, 11, by decide +kernel⟩,
   ⟨11, by decide +kernel⟩,
   ⟨{ S := [(0x618001, 26), (0x6980f0, 26)], F := [], d := dv .run }, 0, by decide +kernel⟩,
   ⟨{ S := [(0x618001, 26), (0x6980f0, 26)], F := [], d := dv .run }, 239, by decide +kernel⟩,
   ⟨dv .run, .a, { tl := 2 }, by decide +kernel⟩⟩

theorem witness_SelectionRanges :
    (∃ (k : Nat), k < 12)
    ∧ (∃ (k : Nat) (hys : Nat) (th : Rat), ratAbs (wrapDeg (th - 30 * k)) ≤ 15 + (hys : Rat) / 10)
    ∧ (∃ (tl : Int), -2 ≤ tl ∧ tl ≤ 2)
    ∧ (∃ (tl : Int) (e : Rat) (h1 : Rat) (h2 : Rat), 0 < h1 ∧ h1 < h2 ∧ -2 ≤ tl ∧ tl ≤ 2 ∧ h2 ≤ e)
    ∧ (∃ (tl : Int) (e : Rat) (h1 : Rat) (h2 : Rat), 0 < h1 ∧ h1 < h2 ∧ -2 ≤ tl ∧ tl ≤ 2 ∧ e ≤ -h2)
    ∧ (∃ (tl : Int) (e : Rat) (h1 : Rat) (h2 : Rat), 0 < h1 ∧ h1 < h2 ∧ -2 ≤ tl ∧ tl ≤ 2 ∧ h1 ≤ e ∧ e < h2)
    ∧ (∃ (tl : Int) (e : Rat) (h1 : Rat) (h2 : Rat), 0 < h1 ∧ h1 < h2 ∧ -2 ≤ tl ∧ tl ≤ 2 ∧ e ≤ -h1 ∧ -h2 < e) :=
  ⟨⟨11, by decide +kernel⟩,
   ⟨0, 11, 1, by decide +kernel⟩,
   ⟨-2, by decide +kernel⟩,
   ⟨-2, 18, 1, 18, by decide +kernel⟩,
   ⟨0, -2, 1, 2, by decide +kernel⟩,
   ⟨-2, 1, 1, 18, by decide +kernel⟩,
   ⟨-2, -1, 1, 18, by decide +kernel⟩⟩

theorem witness_PortInputs :
    (∃ (q : Path) (v : BitVec 8) (s : State), s.dev.takes q .b false ∧ v.toNat ≤ 1)
    ∧ (∃ (q : Path) (v : BitVec 8) (s : State), s.dev.takes q .b false ∧ 1 < v.toNat)
    ∧ (∃ (q : Path) (v : W32) (s : State), s.dev.takes q .b false ∧ v.toNat / 2 ^ 23 % 256 ≠ 255)
    ∧ (∃ (q : Path) (v : W32) (s : State), s.dev.takes q .b false ∧ v.toNat / 2 ^ 23 % 256 = 255)
    ∧ (∃ (p : PortId) (s : State), s.dev.ctl.state ≠ .off ∧ s.dev.inputTimedOut p)
    ∧ (∃ (p : PortId) (s : State), s.dev.inputTimedOut p = false)
    ∧ (∃ (u : Nanos) (s : State), s.dev.fin.lastEdge = some u ∧ u + 1000000000 ≤ s.dev.now ∧ s.dev.fin.silent = false)
    ∧ (∃ (s : State), (s.dev.fin.lastEdge = none ∨ s.dev.fin.silent))
    ∧ (∃ (period : Nat) (u : Nanos) (s : State), s.dev.ctl.state ≠ .off ∧ s.dev.fin.lastEdge = some u ∧ 0 < period ∧ s.dev.finPorts = [])
    ∧ (∃ (s : State), s.dev.ctl.state ≠ .off) :=
  ⟨⟨host, 1, st (dv .run), by decide +kernel⟩,
   ⟨host, 2, st (dv .run), by decide +kernel⟩,
   ⟨host, 0x7f7fffff, st (dv .run), by decide +kernel⟩,
   ⟨host, 0x7F800000, st (dv .run), by decide +kernel⟩,
   ⟨.a, st (tm 100000000 ((dv .run).onPort .a fun x => { x with lastInput := some 0 })), by decide +kernel⟩,
   ⟨.a, st (dv .run), by decide +kernel⟩,
   ⟨0, st (tm 1000000000 { dv .run with fin := { lastEdge := some 0 } }), by decide +kernel⟩,
   ⟨st (dv .run), by decide +kernel⟩,
   ⟨1, 0, st (tm 1000000000 { dv .run with fin := { lastEdge := some 0 } }), by decide +kernel⟩,
   ⟨st (dv .run), by decide +kernel⟩⟩

theorem witness_PortEvents :
    (∃ (p : PortId) (s : State), (s.dev.port p).state = .catching ∧ (s.dev.port p).catchStep = 1 ∧ lasted s.dev.now (s.dev.port p).catchStart 2000000)
    ∧ (∃ (p : PortId) (s : State), ((s.dev.port p).state ≠ .catching ∨ (s.dev.port p).catchStep ≠ 1))
    ∧ (∃ (p : PortId) (s : State), (s.dev.port p).state = .catching ∧ (lasted s.dev.now (s.dev.eng p).selStart 100000000 ∨ s.dev.forced 0x0401 p.num) ∧ (s.dev.eng p).obsConf < (Cfg.obsConfMin s.dev.cfg p : Rat))
    ∧ (∃ (p : PortId) (s : State), (Cfg.obsConfMin s.dev.cfg p : Rat) ≤ (s.dev.eng p).obsConf)
    ∧ (∃ (p : PortId) (s : State), 3 ≤ ((s.dev.port p).recatches.filter fun u => decide (s.dev.now < u + sec 10)).length)
    ∧ (∃ (p : PortId) (s : State), (s.dev.port p).state = .stopping ∧ lasted s.dev.now (s.dev.port p).stillSince 100000000 ∧ (s.dev.port p).stop = .release)
    ∧ (∃ (p : PortId) (s : State), (s.dev.port p).state = .stopping ∧ lasted s.dev.now (s.dev.port p).stillSince 100000000 ∧ ((s.dev.port p).stop = .disable ∨ (s.dev.port p).stop = .command))
    ∧ (∃ (p : PortId) (s : State), (s.dev.port p).state = .stopping ∧ lasted s.dev.now (s.dev.port p).stillSince 100000000 ∧ (s.dev.port p).stop = .ss1 ∧ (s.dev.psafe p).ss1 = false)
    ∧ (∃ (p : PortId) (s : State), (s.dev.port p).state = .stopping ∧ ((s.dev.port p).stop = .release ∨ (s.dev.port p).stop = .disable ∨ (s.dev.port p).stop = .command) ∧ (s.dev.port p).coasting = false ∧ (s.dev.port p).stillSince = none ∧ (lasted s.dev.now (s.dev.port p).stopStart (sec (Cfg.stopTimeout s.dev.cfg p)) ∨ s.dev.forced 0x0401 p.num))
    ∧ (∃ (p : PortId) (s : State), ((s.dev.port p).stop = .f2 ∨ (s.dev.port p).stop = .ss1))
    ∧ (∃ (p : PortId) (s : State), (s.dev.port p).state = .stopping ∧ (s.dev.port p).stop = .f2 ∧ s.dev.f2Ended p ∧ s.dev.wantsAsc p = false)
    ∧ (∃ (p : PortId) (s : State), (s.dev.port p).state = .stopping ∧ (s.dev.port p).stop = .f2 ∧ s.dev.f2Ended p ∧ s.dev.wantsAsc p ∧ (s.dev.ascSet p).isSome)
    ∧ (∃ (p : PortId) (s : State), ((s.dev.port p).state = .running ∨ (s.dev.port p).state = .stopping) ∧ (s.dev.port p).locked = false ∧ (s.dev.forced 0x0402 p.num ∨ (s.dev.lrAbove p = true ∧ (s.dev.eng p).lastComm + ms (Cfg.lrTime s.dev.cfg p) ≤ s.dev.now ∧ lasted s.dev.now (s.dev.port p).lrAboveSince (ms (Cfg.lrTime s.dev.cfg p)) = true)))
    ∧ (∃ (p : PortId) (s : State), (s.dev.port p).locked ∧ (s.dev.now < (s.dev.eng p).lastComm + ms (Cfg.lrTime s.dev.cfg p) ∨ ((s.dev.port p).state ≠ .running ∧ (s.dev.port p).state ≠ .stopping) ∨ (lasted s.dev.now (s.dev.port p).lrBelowSince 1000000000 = true ∧ Cfg.lrHold s.dev.cfg p = 0)))
    ∧ (∃ (p : PortId) (s : State), (s.dev.port p).locked = false)
    ∧ (∃ (p : PortId) (l : Rat × Rat) (s : State), s.dev.ctl.state ≠ .off ∧ (s.dev.eng p).allOff ∧ s.dev.emfBefore p = some l)
    ∧ (∃ (p : PortId) (s : State), ((s.dev.eng p).allOff = false ∨ s.dev.emfBefore p = none)) :=
  ⟨⟨.a, st (tm (ms 2) (po .a (fun x => { x with state := .catching, catchStep := 1, catchStart := some 0 }) (dv .run))), by decide +kernel⟩,
   ⟨.a, st (dv .run), by decide +kernel⟩,
   ⟨.a, st (tm (ms 100) (po .a (fun x => { x with state := .catching, eng := { selStart := some 0 } }) (dv .run))), by decide +kernel⟩,
   ⟨.a, st (en .a (fun e => { e with obsConf := 100 }) (dv .run)), by decide +kernel⟩,
   ⟨.a, st ((dv .run).onPort .a fun x => { x with recatches := [1, 2, 3] }), by decide +kernel⟩,
   ⟨.a, st (tm (ms 100) (po .a (fun x => { x with state := .stopping, stop := .release, stillSince := some 0 }) (dv .run))), by decide +kernel⟩,
   ⟨.a, st (tm (ms 100) (po .a (fun x => { x with state := .stopping, stop := .disable, stillSince := some 0 }) (dv .run))), by decide +kernel⟩,
   ⟨.a, st (tm (ms 100) (po .a (fun x => { x with state := .stopping, stop := .ss1, stillSince := some 0 }) (dv .run))), by decide +kernel⟩,
   ⟨.a, st (tm (sec 1000) (po .a (fun x => { x with state := .stopping, stop := .release, stopStart := some 0 }) (dv .run))), by decide +kernel⟩,
   ⟨.a, st ((dv .run).onPort .a fun x => { x with state := .stopping, stillSince := some 0, stop := .ss1 }), by decide +kernel⟩,
   ⟨.a, st (tm (ms 10) (po .a (fun x => { x with state := .stopping, stop := .f2, slowSince := some 0 }) (dv .run))), by decide +kernel⟩,
   ⟨.a, st ascF2, by decide +kernel, by decide +kernel, by decide +kernel, asc_wanted, by decide +kernel⟩,
   ⟨.a, st (inj 0x0402 0 0 (po .a (fun x => { x with state := .running }) (dv .run))), by decide +kernel⟩,
   ⟨.a, st (tm 499999999 ((dv .run).onPort .a fun x => { x with locked := true })), by decide +kernel⟩,
   ⟨.a, st ((dv .run).onPort .a fun x => { x with state := .catching, catchStep := 1 }), by decide +kernel⟩,
   ⟨.a, (1, 2), st (tm (ms 1) (po .a (fun x => { x with emfHist := [(0, 1, 2)] }) (dv .run))), by decide +kernel⟩,
   ⟨.a, st ((dv .run).onPort .a fun x => { x with state := .catching, catchStep := 1 }), by decide +kernel⟩⟩

theorem witness_BeatOrder :
    (∃ (s : State), s.dev.ctl.state ≠ .off ∧ s.dev.cross.timebaseStopped = false)
    ∧ (∃ (s : State), (s.dev.ctl.state = .off ∨ s.dev.cross.timebaseStopped))
    ∧ (∃ (b : BeatInput), b.pairStoIn = false)
    ∧ (∃ (d : Device), d.od.live = [])
    ∧ (∃ (d : Device) (w : Watch) (u : Nanos), (watchBeat d).watch.lookup w = some u ∧ d.watch.lookup w = none) :=
  ⟨⟨st (dv .boot), by decide +kernel⟩,
   ⟨st (cr (fun x => { x with timebaseStopped := true }) (dv .boot)), by decide +kernel⟩,
   ⟨{}, by decide +kernel⟩,
   ⟨dv .run, by decide +kernel⟩,
   ⟨dv .run, .linkUv, 0, by decide +kernel⟩⟩

theorem witness_TorqueWithinCeiling :
    (∃ (p : PortId) (d : Device), 0 ≤ ((torqueBeat p d).port p).ceiling) :=
  ⟨.a, dv .boot, by decide +kernel⟩

theorem witness_TorqueShares :
    (∃ (t : Rat) (a1 : Rat) (c1 : Rat) (c2 : Rat), 0 ≤ a1 ∧ a1 ≤ 100 ∧ 0 ≤ c1 ∧ 0 ≤ c2 ∧ ratAbs t ≤ c1 + c2) :=
  ⟨100, 100, 100, 100, by decide +kernel⟩

theorem witness_SpeedRamp :
    (∃ (ref : Rat) (target : Rat) (up : Rat) (down : Rat), 0 ≤ up ∧ 0 ≤ down ∧ ref * target < 0) :=
  ⟨100, -1, 0, 0, by decide +kernel⟩

theorem witness_WheelEvents :
    (∃ (s : State), s.dev.ctl.state ≠ .off)
    ∧ (∃ (n : Fin 4) (r : TrackRun) (s : State), s.dev.ctl.state ≠ .off ∧ n < s.dev.wheels.length ∧ (s.dev.wheel n).rawA = (s.dev.wheel n).levelA ∧ (s.dev.wheel n).rawB = (s.dev.wheel n).trackB ∧ 0 < r.count ∧ r.count < Cfg.filterN s.dev.cfg n)
    ∧ (∃ (n : Fin 4) (r : TrackRun) (s : State), s.dev.ctl.state ≠ .off ∧ n < s.dev.wheels.length ∧ (s.dev.wheel n).rawA = (s.dev.wheel n).levelA ∧ (s.dev.wheel n).rawB = (s.dev.wheel n).trackB ∧ 0 < r.count ∧ Cfg.filterN s.dev.cfg n ≤ r.count ∧ r.a ≠ (s.dev.wheel n).levelA ∧ r.b = (s.dev.wheel n).trackB ∧ Cfg.inputType s.dev.cfg n ≠ 0 ∧ r.a ≠ Cfg.edgeSel s.dev.cfg n ∧ Cfg.dirMode s.dev.cfg n = 1)
    ∧ (∃ (n : Fin 4) (r : TrackRun) (s : State), s.dev.ctl.state ≠ .off ∧ n < s.dev.wheels.length ∧ (s.dev.wheel n).rawA = (s.dev.wheel n).levelA ∧ (s.dev.wheel n).rawB = (s.dev.wheel n).trackB ∧ 0 < r.count ∧ Cfg.filterN s.dev.cfg n ≤ r.count ∧ r.a ≠ (s.dev.wheel n).levelA ∧ r.b = (s.dev.wheel n).trackB ∧ Cfg.inputType s.dev.cfg n ≠ 0 ∧ r.a ≠ Cfg.edgeSel s.dev.cfg n ∧ Cfg.dirMode s.dev.cfg n = 2 ∧ Cfg.refType s.dev.cfg n = 0 ∧ (s.dev.wheel n).extra = none)
    ∧ (∃ (n : Fin 4) (s : State), s.dev.ctl.state ≠ .off ∧ Cfg.dirMode s.dev.cfg n = 1 ∧ (s.dev.wheel n).leading ≠ none)
    ∧ (∃ (n : Fin 4) (s : State), (Cfg.dirMode s.dev.cfg n ≠ 1 ∨ (s.dev.wheel n).leading = none))
    ∧ (∃ (n : Fin 4) (start : Nat) (lead : Nat) (r : TrackRun) (s : State), s.dev.ctl.state ≠ .off ∧ n < s.dev.wheels.length ∧ (s.dev.wheel n).rawA = (s.dev.wheel n).levelA ∧ (s.dev.wheel n).rawB = (s.dev.wheel n).trackB ∧ 0 < r.count ∧ Cfg.filterN s.dev.cfg n ≤ r.count ∧ r.a ≠ (s.dev.wheel n).levelA ∧ r.b = (s.dev.wheel n).trackB ∧ Cfg.inputType s.dev.cfg n ≠ 0 ∧ r.a = Cfg.edgeSel s.dev.cfg n ∧ Cfg.dirMode s.dev.cfg n = 1 ∧ (s.dev.wheel n).leading = some lead ∧ (start - lead < 1000 * Cfg.pwMin s.dev.cfg n ∨ 1000 * Cfg.pwMax s.dev.cfg n < start - lead))
    ∧ (∃ (n : Fin 4) (s : State), s.dev.ctl.state ≠ .off ∧ Cfg.inputType s.dev.cfg n ≠ 0 ∧ s.dev.zeroDue n ∧ (s.dev.wheel n).extra = none)
    ∧ (∃ (n : Fin 4) (s : State), s.dev.ctl.state ≠ .off ∧ Cfg.inputType s.dev.cfg n ≠ 0 ∧ s.dev.zeroDue n)
    ∧ (∃ (n : Fin 4) (s : State), (Cfg.inputType s.dev.cfg n = 0 ∨ s.dev.zeroDue n = false))
    ∧ (∃ (n : Fin 4) (s : State), s.dev.ctl.state ≠ .off ∧ Cfg.inputType s.dev.cfg n ≠ 0)
    ∧ (∃ (n : Fin 4) (s : State), Cfg.inputType s.dev.cfg n = 0)
    ∧ (∃ (n : Fin 4) (s : State), s.dev.implausible n ∧ s.dev.held (.twPlaus n) 100000000)
    ∧ (∃ (n : Fin 4) (s : State), s.dev.implausible n = false) :=
  ⟨⟨st (dv .run), by decide +kernel⟩,
   ⟨0, { a := true, count := 1 }, st (dv .run), by decide +kernel⟩,
   ⟨0, { a := true, count := 100 }, st (cfg [(0x250001, 1), (0x350002, 0), (0x250005, 1)] (dv .run)), by decide +kernel⟩,
   ⟨0, { a := true, count := 100 }, st (cfg [(0x250001, 1), (0x250005, 2)] (dv .run)), by decide +kernel⟩,
   ⟨0, st (cfg [(0x250001, 1), (0x250005, 1)] ((dv .run).onWheel 0 fun x => { x with leading := some 5 })), by decide +kernel⟩,
   ⟨0, st (dv .run), by decide +kernel⟩,
   ⟨0, 100, 5, { a := true, count := 100 }, st (cfg [(0x250001, 1), (0x350002, 1), (0x250005, 1)] (wh (fun x => { x with leading := some 5 }) (dv .run))), by decide +kernel⟩,
   ⟨0, st (tm (sec 100) (cfg [(0x250001, 1)] (dv .run))), by decide +kernel⟩,
   ⟨0, st (tm (sec 100) (cfg [(0x250001, 1)] (dv .run))), by decide +kernel⟩,
   ⟨0, st (dv .run), by decide +kernel⟩,
   ⟨0, st (cfg [(0x250001, 1), (0x250005, 1)] (dv .run)), by decide +kernel⟩,
   ⟨0, st (dv .run), by decide +kernel⟩,
   ⟨0, st offWheel, implausible_wheel, by decide +kernel⟩,
   ⟨0, st (dv .run), by decide +kernel⟩⟩

theorem witness_MeasurementResults :
    (∃ (s : State), s.dev.ctl.state ≠ .off)
    ∧ (∃ (ch : Fin 48) (streams : List BitStream) (run : List Int) (high : Bool) (s : State), s.dev.ctl.state ≠ .off ∧ s.dev.compOn ch ∧ s.dev.compRun streams ch = some run ∧ s.dev.compSide ch run = some high ∧ (if high then (s.dev.mchan ch).outHi else (s.dev.mchan ch).outLo) = false)
    ∧ (∃ (ch : Fin 48) (streams : List BitStream) (run : List Int) (high : Bool) (s : State), s.dev.compRun streams ch = some run ∧ s.dev.compSide ch run = some high ∧ (if high then (s.dev.mchan ch).outHi else (s.dev.mchan ch).outLo) = true)
    ∧ (∃ (ch : Fin 48) (streams : List BitStream) (s : State), (s.dev.compRun streams ch = none ∨ s.dev.compOn ch = false))
    ∧ (∃ (d : Device) (m : Nat) (run : List Int), run ≠ [] ∧ (∀ c ∈ run, (d.compBand m).2 < d.chanVal m c ∧ d.chanVal m c < (d.compBand m).1) ∧ d.forced 0x0602 m = false)
    ∧ (∃ (ch : Fin 48) (streams : List BitStream) (run : List Int) (s : State), ((s.dev.mchan ch).outHi ∨ (s.dev.mchan ch).outLo) ∧ s.dev.compRun streams ch = some run ∧ s.dev.compInside ch run)
    ∧ (∃ (ch : Fin 48) (s : State), (s.dev.mchan ch).outHi = false ∧ (s.dev.mchan ch).outLo = false)
    ∧ (∃ (ch : Fin 48) (clock : Fin 40) (s : State), s.dev.ctl.state ≠ .off ∧ ch < s.dev.meas.chans.length ∧ (s.dev.now + 25 * clock) % (s.dev.fineInForce ch (s.dev.now + 25 * clock)).span = 0)
    ∧ (∃ (ch : Fin 48) (clock : Fin 40) (s : State), (s.dev.now + 25 * clock) % (s.dev.fineInForce ch (s.dev.now + 25 * clock)).span ≠ 0)
    ∧ (∃ (q : Path) (s : State), s.dev.takes q .b true)
    ∧ (∃ (s : State), s.dev.ctl.state ≠ .off ∧ Cfg.muxResults s.dev.cfg ≤ s.dev.meas.visitCount)
    ∧ (∃ (s : State), s.dev.meas.visitCount < Cfg.muxResults s.dev.cfg) :=
  ⟨⟨st (dv .boot), by decide +kernel⟩,
   ⟨0, [{ ch := 0, clocks := [] }], [0], true, st (compPort 0), by decide +kernel, by decide +kernel, comp_run.1, by decide +kernel, by decide +kernel⟩,
   ⟨0, [{ ch := 0, clocks := [] }], [0], true, st ((compPort 0).onMchan 0 fun c => { c with outHi := true }), comp_run.2.2, by decide +kernel, by decide +kernel⟩,
   ⟨6, [], st (dv .boot), by decide +kernel⟩,
   ⟨dv .run, 0, [0], by decide, by simp; decide +kernel, by decide +kernel⟩,
   ⟨0, [{ ch := 0, clocks := [] }], [0], st ((compPort 0x42c80000).onMchan 0 fun c => { c with outHi := true }), by decide +kernel, comp_run.2.1, by decide +kernel⟩,
   ⟨6, st (dv .boot), by decide +kernel⟩,
   ⟨6, 0, st (dv .boot), by decide +kernel⟩,
   ⟨6, 39, st (dv .boot), by decide +kernel⟩,
   ⟨host, st (dv .run), by decide +kernel⟩,
   ⟨st (me (fun m => { m with visitCount := 255 }) (dv .run)), by decide +kernel⟩,
   ⟨st (dv .boot), by decide +kernel⟩⟩

theorem witness_CalibrationAndChecks :
    (∃ (q : Path) (s : State), s.dev.takes q .e false ∧ s.dev.ctl.state = .standby ∧ s.dev.meas.calState ≠ 1)
    ∧ (∃ (q : Path) (s : State), s.dev.takes q .e false ∧ s.dev.ctl.state = .standby ∧ s.dev.meas.calState = 1)
    ∧ (∃ (q : Path) (s : State), s.dev.takes q .e false ∧ s.dev.ctl.state ≠ .standby)
    ∧ (∃ (m : CalMeas) (s : State), s.dev.meas.calState = 1 ∧ lasted s.dev.now s.dev.meas.calSince 180000000 ∧ (s.dev.ctl.state = .calibrating ∨ s.dev.ctl.state = .standby) ∧ (∀ k : Nat, k < 8 → s.dev.calFails m k = false))
    ∧ (∃ (m : CalMeas) (k : Nat) (s : State), s.dev.meas.calState = 1 ∧ lasted s.dev.now s.dev.meas.calSince 180000000 ∧ s.dev.ctl.state = .calibrating ∧ k < 8 ∧ s.dev.calFails m k)
    ∧ (∃ (s : State), (s.dev.meas.calState ≠ 1 ∨ lasted s.dev.now s.dev.meas.calSince 180000000 = false))
    ∧ (∃ (p : PortId) (s : State), (s.dev.ctl.state = .standby ∨ s.dev.ctl.state = .ready) ∧ (s.dev.port p).state = .disabled ∧ s.dev.deferred p ∧ (s.dev.port p).offsetMeas = false ∧ emfBelow (s.dev.lineVolts p) (Cfg.catchEmfMin s.dev.cfg p))
    ∧ (∃ (p : PortId) (s : State), s.dev.deferred p = false)
    ∧ (∃ (p : PortId) (s : State), (s.dev.port p).offsetMeas ∧ lasted s.dev.now (s.dev.port p).offsetSince 40000000)
    ∧ (∃ (ch : Fin 48) (clocks : Option (List ModClock)) (s : State), s.dev.ctl.state ≠ .off ∧ (s.dev.mchan ch).modFail = false ∧ (clocks = none ∨ (∃ l, clocks = some l ∧ stuckBits l = true) ∨ s.dev.forced 0x0601 ch = true))
    ∧ (∃ (d : Device), d.openSlice = none)
    ∧ (∃ (ch : Fin 48) (l : List ModClock) (s : State), stuckBits l = false ∧ s.dev.forced 0x0601 ch = false)
    ∧ (∃ (ch : Fin 48) (clocks : List ModClock) (s : State), (s.dev.mchan ch).modFail ∧ healthyBits clocks ∧ s.dev.forced 0x0601 ch = false)
    ∧ (∃ (clocks : List ModClock), healthyBits clocks = false)
    ∧ (∃ (s : State), s.dev.ctl.state ≠ .off ∧ s.dev.linkDisagrees ∧ s.dev.held .linkDisagree 10000)
    ∧ (∃ (s : State), ((s.dev.mchan 6).subst ∨ (s.dev.mchan 7).subst))
    ∧ (∃ (p : PortId) (s : State), s.dev.ctl.state ≠ .off ∧ s.dev.gatesSwitch p ∧ s.dev.isumAbove p ∧ s.dev.held (.isum p) 10000)
    ∧ (∃ (p : PortId) (s : State), (s.dev.gatesSwitch p = false ∨ s.dev.isumAbove p = false))
    ∧ (∃ (ch : Fin 8) (s : State), s.dev.ctl.state = .run ∧ s.dev.bist.passState ≠ 0 ∧ s.dev.bist.done.contains (7, ch.val) = false ∧ s.dev.meas.slice = none ∧ (∀ u, s.dev.meas.lastSlice = some u → u + 1000000 ≤ s.dev.now) ∧ s.dev.bistReady ∧ s.dev.sliceOk ch)
    ∧ (∃ (s : State), (s.dev.meas.slice ≠ none ∨ s.dev.bist.passState = 0))
    ∧ (∃ (x : Slice) (y0 : List ModClock) (y1 : List ModClock) (s : State), s.dev.meas.slice = some x ∧ x.aborted = none ∧ x.start + 40000 ≤ s.dev.now ∧ s.dev.slicePasses x.ch y0 y1 ∧ s.dev.forced 0x0604 x.ch = false)
    ∧ (∃ (x : Slice) (y0 : List ModClock) (y1 : List ModClock) (s : State), s.dev.meas.slice = some x ∧ x.aborted = none ∧ x.start + 40000 ≤ s.dev.now ∧ (s.dev.slicePasses x.ch y0 y1 = false ∨ s.dev.forced 0x0604 x.ch = true))
    ∧ (∃ (x : Slice) (s : State), s.dev.meas.slice = some x ∧ s.dev.now < x.start + 40000)
    ∧ (∃ (x : Slice) (s : State), s.dev.meas.slice = some x ∧ x.aborted = none ∧ s.dev.now ≤ x.start + 36000 ∧ s.dev.abortCause x)
    ∧ (∃ (x : Slice) (s : State), s.dev.meas.slice = some x ∧ s.dev.abortCause x = false)
    ∧ (∃ (s : State), s.dev.ctl.state ≠ .off ∧ Cfg.isoMode s.dev.cfg = 1 ∧ s.dev.meas.iso.suspended = false ∧ s.dev.injectedAt 0x0607 = [])
    ∧ (∃ (s : State), (Cfg.isoMode s.dev.cfg ≠ 1 ∨ s.dev.meas.iso.suspended = true))
    ∧ (∃ (s : State), s.dev.meas.iso.suspended ∧ s.dev.chg.switching = false ∧ lasted s.dev.now s.dev.meas.iso.offSince 1000000000)
    ∧ (∃ (n : Fin 4) (s : State), s.dev.ctl.state ≠ .off ∧ s.dev.burdenOn n ∧ s.dev.held (.burden n) 10000000)
    ∧ (∃ (n : Fin 4) (s : State), lasted s.dev.now (s.dev.meas.burdenOff.getD n none) 1000000000)
    ∧ (∃ (n : Fin 4) (s : State), s.dev.meas.burdenOff.getD n none = none) :=
  ⟨⟨host, st (dv .standby), by decide +kernel⟩,
   ⟨host, st (me (fun m => { m with calState := 1 }) (dv .standby)), by decide +kernel⟩,
   ⟨host, st (me (fun m => { m with calState := 1 }) (dv .calibrating)), by decide +kernel⟩,
   ⟨{}, st calRun, by decide +kernel, by decide +kernel, by decide +kernel, cal_passes⟩,
   ⟨{}, 7, st (calRun.onMchan 7 fun c => { c with calModFail := true }), by decide +kernel, by decide +kernel, by decide +kernel, by decide, cal_fails⟩,
   ⟨st (dv .standby), by decide +kernel⟩,
   ⟨.b, st (me (fun m => { m with deferB := true }) (dv .ready)), by decide +kernel⟩,
   ⟨.b, st (dv .standby), by decide +kernel⟩,
   ⟨.a, st (tm (ms 40) (po .a (fun x => { x with offsetMeas := true, offsetSince := some 0 }) (dv .run))), by decide +kernel⟩,
   ⟨47, none, st (dv .standby), by decide +kernel⟩,
   ⟨dv .run, by decide +kernel⟩,
   ⟨47, [], st (dv .standby), by decide +kernel⟩,
   ⟨3, (List.replicate 200 [{ bit := true }, { bit := false }]).flatten, st ((dv .run).onMchan 3 fun c => { c with modFail := true }), by decide +kernel⟩,
   ⟨[], by decide +kernel⟩,
   ⟨st (tm (ms 1) (wa [.linkDisagree] (lat 6 1000 (dv .run)))), by decide +kernel⟩,
   ⟨st ((dv .run).onMchan 7 fun c => { c with subst := true }), by decide +kernel⟩,
   ⟨.a, st (tm (ms 1) (wa [.isum .a] (lat 0 100 (en .a (fun e => { e with selecting := true }) (dv .run))))), by decide +kernel⟩,
   ⟨.b, st (dv .standby), by decide +kernel⟩,
   ⟨6, st (bs (fun x => { x with passState := 1 }) (bistOk ((dv .run).onMchan 7 fun c => { c with modOk := true }))), by decide +kernel, by decide +kernel, by decide +kernel, by decide +kernel, (by intro u h; cases h), by decide +kernel, by decide +kernel⟩,
   ⟨st (dv .standby), by decide +kernel⟩,
   ⟨{ ch := 0, start := 0 }, [], [], st sliced0, by decide +kernel, by decide +kernel, by decide +kernel, slice_passes, by decide +kernel⟩,
   ⟨{ ch := 0, start := 0 }, [], [], st sliced, by decide +kernel, by decide +kernel, by decide +kernel, Or.inl slice_fails⟩,
   ⟨{ ch := 0, start := 0 }, st (me (fun m => { m with slice := some { ch := 0, start := 0 } }) (dv .run)), by decide +kernel⟩,
   ⟨{ ch := 0, start := 0 }, st (tm 1000 ((sliced).onMchan 0 fun c => { c with outHi := true })), by decide +kernel⟩,
   ⟨{ ch := 0, start := 0 }, st (me (fun m => { m with slice := some { ch := 0, start := 0 } }) (dv .run)), by decide +kernel⟩,
   ⟨st (dv .standby), by decide +kernel⟩,
   ⟨st (me (fun m => { m with iso := { suspended := true } }) (dv .run)), by decide +kernel⟩,
   ⟨st (tm (sec 1) (me (fun m => { m with iso := { suspended := true, offSince := some 0 } }) (dv .run))), by decide +kernel⟩,
   ⟨1, st (tm (ms 10) (wa [.burden 1] (cfg [(0x260202, 2)] (dv .run)))), by decide +kernel⟩,
   ⟨1, st (tm (sec 1) (me (fun m => { m with burdenOff := List.replicate 4 (some 0) }) (dv .run))), by decide +kernel⟩,
   ⟨3, st (dv .standby), by decide +kernel⟩⟩

theorem witness_SlotCommands :
    (∃ (k : Fin 32) (s : State), s.dev.ctl.state ≠ .off ∧ (s.dev.slot k).mode ≠ .off ∧ k < s.dev.slots.length ∧ s.dev.sampleBeat k)
    ∧ (∃ (k : Fin 32) (s : State), s.dev.ctl.state ≠ .off ∧ (s.dev.slot k).mode = .closed ∧ k ≠ 2 ∧ k ≠ 3 ∧ k ≠ 7 ∧ k < s.dev.slots.length ∧ (s.dev.slot k).cmd = 0 ∧ s.dev.sampleBeat k)
    ∧ (∃ (k : Fin 32) (s : State), (s.dev.sampleBeat k = false ∨ (s.dev.slot k).mode = .off))
    ∧ (∃ (k : Fin 32) (s : State), ((s.dev.slot k).holding = none ∨ s.dev.now + 1000 ≤ (s.dev.slot k).outputDue))
    ∧ (∃ (k : Fin 32) (y : Int) (xs : List Int) (ys : List Int) (sat : Bool) (cl : Bool) (s : State), s.dev.ctl.state ≠ .off ∧ k < s.dev.slots.length ∧ (s.dev.slot k).holding = some (y, xs, ys, sat, cl) ∧ (s.dev.slot k).outputDue < s.dev.now + 1000)
    ∧ (∃ (k : Fin 32) (s : State), s.dev.ctl.state ≠ .off ∧ (s.dev.slot k).mode = .closed ∧ (s.dev.slot k).holding ≠ none)
    ∧ (∃ (k : Fin 32) (s : State), ((s.dev.slot k).mode ≠ .closed ∨ (s.dev.slot k).holding = none))
    ∧ (∃ (k : Fin 32) (s : State), (s.dev.slot k).firmware = false ∧ (s.dev.slot k).mode = .closed ∧ 10 ≤ (s.dev.slot k).invalidRun)
    ∧ (∃ (k : Fin 32) (s : State), ((s.dev.slot k).invalidRun < 10 ∨ (s.dev.slot k).firmware = true))
    ∧ (∃ (q : Path) (k : Fin 32) (s : State), s.dev.takes q .e false ∧ 24 ≤ k.val)
    ∧ (∃ (q : Path) (k : Fin 32) (s : State), s.dev.takes q .e false ∧ 24 ≤ k.val ∧ Cfg.form s.dev.cfg k ≠ 0)
    ∧ (∃ (q : Path) (k : Fin 32) (s : State), s.dev.takes q .e false ∧ 24 ≤ k.val ∧ Cfg.form s.dev.cfg k = 0)
    ∧ (∃ (q : Path) (k : Fin 32) (s : State), s.dev.takes q .e false ∧ k.val < 24) :=
  ⟨⟨31, st (cfg [(0x371f02, 1), (0x371f03, 0)] ((dv .run).onSlot 31 fun x => { x with mode := .closed })), by decide +kernel⟩,
   ⟨31, st (cfg [(0x371f02, 1), (0x371f03, 0)] ((dv .run).onSlot 31 fun x => { x with mode := .closed })), by decide +kernel⟩,
   ⟨31, st (cfg [(0x371f02, 2), (0x371f03, 1)] (dv .run)), by decide +kernel⟩,
   ⟨31, st (cfg [(0x371f02, 1), (0x371f03, 0)] ((dv .run).onSlot 31 fun x => { x with mode := .closed })), by decide +kernel⟩,
   ⟨31, 7, [1, 2, 3], [7, 4, 5], false, true, st ((dv .run).onSlot 31 fun x => { x with holding := some (7, [1, 2, 3], [7, 4, 5], false, true) }), by decide +kernel⟩,
   ⟨24, st ((dv .run).onSlot 24 fun x => { x with mode := .closed, holding := some (7, [], [], false, false) }), by decide +kernel⟩,
   ⟨31, st (cfg [(0x371f02, 1), (0x371f03, 0)] ((dv .run).onSlot 31 fun x => { x with mode := .closed })), by decide +kernel⟩,
   ⟨24, st ((dv .run).onSlot 24 fun x => { x with mode := .closed, invalidRun := 10 }), by decide +kernel⟩,
   ⟨31, st (cfg [(0x371f02, 1), (0x371f03, 0)] ((dv .run).onSlot 31 fun x => { x with mode := .closed })), by decide +kernel⟩,
   ⟨host, 31, st (cfg [(0x371f02, 1), (0x371f03, 0)] ((dv .run).onSlot 31 fun x => { x with mode := .closed })), by decide +kernel⟩,
   ⟨host, 31, st (cfg [(0x371f01, 1)] (dv .run)), by decide +kernel⟩,
   ⟨host, 31, st (cfg [(0x371f02, 1), (0x371f03, 0)] ((dv .run).onSlot 31 fun x => { x with mode := .closed })), by decide +kernel⟩,
   ⟨host, 23, st (cfg [(0x371f02, 1), (0x371f03, 0)] ((dv .run).onSlot 31 fun x => { x with mode := .closed })), by decide +kernel⟩⟩

theorem witness_SlotArithmetic :
    (∃ (form : Nat) (c : List Int) (aw : Nat) (hi : Int) (lo : Int) (x0 : Int) (x : List Int) (y : List Int), lo ≤ hi ∧ (let r := slotCompute form c aw (hi, lo) x0 x y; r.2.2.2.2 = false))
    ∧ (∃ (form : Nat) (c : List Int) (aw : Nat) (hi : Int) (lo : Int) (x0 : Int) (x : List Int) (y : List Int), lo ≤ hi ∧ (let r := slotCompute form c aw (hi, lo) x0 x y; aw = 0)) :=
  ⟨⟨1, [], 1, 5, -8388608, 5, [], [], by decide +kernel⟩,
   ⟨1, [], 0, 5, 5, 5, [], [], by decide +kernel⟩⟩

theorem witness_SupplyChain :
    (∃ (q : Path) (s : State), s.dev.takes q .b false ∧ s.dev.ctl.state = .standby ∧ s.dev.supply.chain = 0 ∧ s.dev.meas.calState ≠ 1)
    ∧ (∃ (q : Path) (s : State), s.dev.takes q .b false ∧ s.dev.ctl.state = .standby ∧ s.dev.supply.chain = 0 ∧ s.dev.meas.calState = 1)
    ∧ (∃ (q : Path) (s : State), s.dev.takes q .b false ∧ s.dev.ctl.state.chainRuns ∧ s.dev.supply.chain ≠ 0)
    ∧ (∃ (q : Path) (s : State), s.dev.takes q .b false ∧ (s.dev.ctl.state.chainRuns = false ∨ (s.dev.supply.chain = 0 ∧ s.dev.ctl.state ≠ .standby)))
    ∧ (∃ (q : Path) (s : State), s.dev.takes q .b false ∧ s.dev.ctl.state.chainRuns)
    ∧ (∃ (q : Path) (s : State), s.dev.takes q .b false ∧ s.dev.ctl.state.chainRuns = false)
    ∧ (∃ (s : State), s.dev.supply.chain = 1 ∧ 560 ≤ s.dev.linkFine ∧ s.dev.stageCan .llcPri ∧ s.dev.stageCan .llcSec)
    ∧ (∃ (s : State), (s.dev.linkFine < 560 ∨ s.dev.supply.chain ≠ 1))
    ∧ (∃ (s : State), s.dev.supply.llc.running ∧ s.dev.supply.llc.inRange = false ∧ 5292 / 100 ≤ s.dev.fineVal 23 ∧ s.dev.fineVal 23 ≤ 5508 / 100 ∧ s.dev.supply.chain ≠ 3)
    ∧ (∃ (s : State), s.dev.supply.llc.running ∧ s.dev.supply.llc.inRange = false ∧ 5292 / 100 ≤ s.dev.fineVal 23 ∧ s.dev.fineVal 23 ≤ 5508 / 100 ∧ s.dev.supply.chain = 3)
    ∧ (∃ (s : State), (s.dev.supply.llc.running = false ∨ s.dev.fineVal 23 < 5292 / 100))
    ∧ (∃ (n : Fin 3) (s : State), (s.dev.supply.conv.phases.getD n {}).precharging ∧ ratAbs (s.dev.fcSeen n) ≤ s.dev.vLink / 20 ∧ s.dev.supply.conv.running)
    ∧ (∃ (n : Fin 3) (s : State), (s.dev.supply.conv.phases.getD n {}).precharging ∧ ratAbs (s.dev.fcSeen n) ≤ s.dev.vLink / 20)
    ∧ (∃ (n : Fin 3) (s : State), (s.dev.supply.conv.phases.getD n {}).precharging = false)
    ∧ (∃ (n : Fin 3) (u : Nanos) (s : State), (s.dev.supply.conv.phases.getD n {}).precharging ∧ (s.dev.supply.conv.phases.getD n {}).preStart = some u ∧ u + 5000000 ≤ s.dev.now)
    ∧ (∃ (s : State), s.dev.supply.chain = 6 ∧ s.dev.supply.conv.running ∧ s.dev.supply.conv.ramp = s.dev.supply.conv.setpoint)
    ∧ (∃ (s : State), (s.dev.supply.chain ≠ 6 ∨ s.dev.supply.conv.ramp ≠ s.dev.supply.conv.setpoint))
    ∧ (∃ (n : Fin 3) (u : Nanos) (s : State), s.dev.supply.conv.running ∧ s.dev.carrierPeakAt n = some u ∧ (s.dev.supply.conv.phases.getD n {}).peakAt ≠ some u)
    ∧ (∃ (n : Fin 3) (s : State), (s.dev.carrierPeakAt n = none ∨ s.dev.supply.conv.running = false))
    ∧ (∃ (n : Fin 3) (u : Nanos) (s : State), s.dev.supply.conv.running ∧ s.dev.carrierPeakAt n = some u ∧ (s.dev.supply.conv.phases.getD n {}).peakAt ≠ some u ∧ (s.dev.supply.conv.phases.getD n {}).active ∧ (s.dev.supply.conv.phases.getD n {}).outerAt = none ∧ (s.dev.supply.conv.phases.getD n {}).shed = false)
    ∧ (∃ (n : Fin 3) (s : State), (s.dev.supply.conv.phases.getD n {}).active ∧ s.dev.fcOut n ∧ s.dev.held (.fcDev n) 10000)
    ∧ (∃ (n : Fin 3) (s : State), s.dev.fcOut n = false)
    ∧ (∃ (n : Nat) (d : Device), (Cfg.fcDevTrip d.cfg : Rat) < ratAbs (d.fcSeen n)) :=
  ⟨⟨host, st (dv .standby), by decide +kernel⟩,
   ⟨host, st (me (fun m => { m with calState := 1 }) (dv .standby)), by decide +kernel⟩,
   ⟨host, st (fine 6 560 (fine 7 600 (arm .llcPri (arm .llcSec { dv .standby with supply := { chain := 1 } })))), by decide +kernel⟩,
   ⟨host, st (dv .run), by decide +kernel⟩,
   ⟨host, st (dv .standby), by decide +kernel⟩,
   ⟨host, st (dv .safe), by decide +kernel⟩,
   ⟨st (fine 6 560 (fine 7 600 (arm .llcPri (arm .llcSec { dv .standby with supply := { chain := 1 } })))), by decide +kernel⟩,
   ⟨st (dv .standby), by decide +kernel⟩,
   ⟨st (fine 23 (5292 / 100) { dv .standby with supply := { chain := 4, llc := { running := true } } }), by decide +kernel⟩,
   ⟨st (fine 23 54 (su (fun x => { x with chain := 3, llc := { running := true } }) (dv .standby))), by decide +kernel⟩,
   ⟨st (dv .standby), by decide +kernel⟩,
   ⟨2, st (fast 16 500 (link 1000 { dv .standby with supply := { conv := { running := true, phases := [{}, {}, { precharging := true }] } } })), by decide +kernel⟩,
   ⟨2, st (fast 16 500 (link 1000 { dv .standby with supply := { conv := { running := true, phases := [{}, {}, { precharging := true }] } } })), by decide +kernel⟩,
   ⟨2, st (dv .standby), by decide +kernel⟩,
   ⟨1, 0, st (tm (ms 5) (su (fun x => { x with conv := { phases := List.replicate 3 { precharging := true, preStart := some 0 } } }) (dv .standby))), by decide +kernel⟩,
   ⟨st { dv .standby with supply := { chain := 6, conv := { running := true, ramp := 1500, setpoint := 1500 } } }, by decide +kernel⟩,
   ⟨st (dv .standby), by decide +kernel⟩,
   ⟨0, 0, st (su (fun x => { x with conv := { running := true, carrier := some 0 } }) (dv .run)), by decide +kernel⟩,
   ⟨2, st (dv .standby), by decide +kernel⟩,
   ⟨0, 0, st (su (fun x => { x with conv := { running := true, carrier := some 0, phases := List.replicate 3 { active := true } } }) (dv .run)), by decide +kernel⟩,
   ⟨0, st (tm (ms 1) (wa [.fcDev 0] (lat 16 1000 (su (fun x => { x with conv := { running := true, phases := List.replicate 3 { active := true } } }) (dv .run))))), by decide +kernel⟩,
   ⟨2, st (fast 16 500 (link 1000 { dv .standby with supply := { conv := { running := true, phases := [{}, {}, { precharging := true }] } } })), by decide +kernel⟩,
   ⟨0, dv .run, by decide +kernel⟩⟩

theorem witness_ConverterLoad :
    (∃ (s : State), s.dev.supply.conv.running ∧ s.dev.convWanted < s.dev.supply.conv.count ∧ s.dev.held .convShed 20000000)
    ∧ (∃ (s : State), s.dev.supply.conv.count ≤ s.dev.convWanted)
    ∧ (∃ (s : State), s.dev.supply.conv.running ∧ s.dev.supply.conv.phases.any (fun x => x.shed) ∧ s.dev.convOverload)
    ∧ (∃ (s : State), s.dev.convOverload = false)
    ∧ (∃ (s : State), 4200000 ≤ s.dev.supply.conv.overload)
    ∧ (∃ (s : State), s.dev.supply.conv.overload < 4200000)
    ∧ (∃ (acc : Rat) (p : Rat), 560 < ratAbs p ∧ 0 ≤ acc)
    ∧ (∃ (acc : Rat) (p : Rat), ratAbs p ≤ 560 ∧ (560 - ratAbs p) / 4 ≤ acc)
    ∧ (∃ (q : Path) (l : BatLimit) (v : BitVec 16) (s : State), s.dev.takes q .b false ∧ (match l with | .dischargeCurrent | .chargeCurrent => v.toNat ≤ 2000 | .voltMax | .voltMin => 600 ≤ v.toNat ∧ v.toNat ≤ 1350) ∧ s.dev.forcedAt 0x0802 = false)
    ∧ (∃ (q : Path) (l : BatLimit) (v : BitVec 16) (s : State), s.dev.takes q .b false ∧ (match l with | .dischargeCurrent | .chargeCurrent => 2000 < v.toNat | .voltMax | .voltMin => v.toNat < 600 ∨ 1350 < v.toNat))
    ∧ (∃ (s : State), s.dev.ctl.state ≠ .off ∧ Cfg.batLimitTimeout s.dev.cfg ≠ 0 ∧ s.dev.supply.conv.lastLimit.getD 0 + ms (Cfg.batLimitTimeout s.dev.cfg) ≤ s.dev.now)
    ∧ (∃ (s : State), Cfg.batLimitTimeout s.dev.cfg = 0) :=
  ⟨⟨st (tm (ms 20) (wa [.convShed] (cfg [(0x380001, 50)] (su (fun x => { x with conv := { running := true, phases := List.replicate 3 { active := true } } }) (dv .run))))), by decide +kernel⟩,
   ⟨st { dv .standby with supply := { conv := { running := true, power := 200, phases := [{ active := true }, { active := true }, { active := true }] } } }, by decide +kernel⟩,
   ⟨st { dv .standby with supply := { conv := { running := true, power := 111, phases := [{ active := true }, { shed := true }, { shed := true }] } } }, by decide +kernel⟩,
   ⟨st { dv .run with supply := { conv := { overload := 4200000 } } }, by decide +kernel⟩,
   ⟨st { dv .run with supply := { conv := { overload := 4200000 } } }, by decide +kernel⟩,
   ⟨st { dv .standby with supply := { conv := { running := true, power := 199, phases := [{ active := true }, { active := true }, { active := true }] } } }, by decide +kernel⟩,
   ⟨0, -561, by decide +kernel⟩,
   ⟨0, 560, by decide +kernel⟩,
   ⟨host, .voltMax, 600, st (dv .run), by decide +kernel, by decide, by decide +kernel⟩,
   ⟨host, .voltMax, 599, st (dv .run), by decide +kernel, by decide⟩,
   ⟨st (tm 500000000 (dv .run)), by decide +kernel⟩,
   ⟨st (cfg [(0x380008, 0)] (dv .run)), by decide +kernel⟩⟩

theorem witness_LinkSetpoint :
    (∃ (d : Device), 0 ≤ (d.mchan 12).value ∧ (d.mchan 12).value ≤ 1600)
    ∧ (∃ (d : Device), d.supply.conv.running)
    ∧ (∃ (d : Device), (d.mchan 12).value = 1350 ∧ Cfg.linkSet d.cfg = 1400) :=
  ⟨⟨fine 12 1600 (dv .run), by decide +kernel⟩,
   ⟨{ dv .run with supply := { conv := { running := true } } }, by decide +kernel⟩,
   ⟨cfg [(0x280002, 1400)] (fine 12 1350 (dv .run)), by decide +kernel⟩⟩

theorem witness_LinkProtection :
    (∃ (s : State), s.dev.ctl.state = .run ∧ s.dev.linkSeen < 850 ∧ s.dev.held .linkUv 10000000)
    ∧ (∃ (s : State), (850 ≤ s.dev.linkSeen ∨ s.dev.ctl.state ≠ .run))
    ∧ (∃ (d : Device), d.injectedAt 0x0803 = [])
    ∧ (∃ (s : State), s.dev.ctl.state ≠ .off ∧ 1650 < s.dev.linkHighSeen ∧ s.dev.held .linkOv 2000)
    ∧ (∃ (s : State), s.dev.linkHighSeen ≤ 1650)
    ∧ (∃ (s : State), s.dev.supply.conv.linkHigh ∧ s.dev.vLinkHigh < 1620)
    ∧ (∃ (s : State), 1620 ≤ s.dev.vLinkHigh)
    ∧ (∃ (s : State), s.dev.ctl.state ≠ .off ∧ 1680 < s.dev.vLinkHigh ∧ s.dev.held .linkDisch 2000 ∧ s.dev.supply.conv.dischHot = false)
    ∧ (∃ (s : State), s.dev.supply.conv.dischHot)
    ∧ (∃ (s : State), s.dev.supply.conv.discharging ∧ s.dev.supply.conv.dischCmd = false ∧ s.dev.vLinkHigh < 1660)
    ∧ (∃ (s : State), s.dev.supply.conv.discharging ∧ s.dev.supply.conv.dischCmd ∧ s.dev.vLinkHigh < 60)
    ∧ (∃ (s : State), s.dev.supply.conv.dischCmd ∧ 60 ≤ s.dev.vLinkHigh)
    ∧ (∃ (s : State), s.dev.ctl.state ≠ .off ∧ 1720 < s.dev.linkHighSeen ∧ s.dev.held .linkTrip 2000)
    ∧ (∃ (s : State), s.dev.linkHighSeen ≤ 1720)
    ∧ (∃ (q : Path) (s : State), s.dev.takes q .b true ∧ (s.dev.ctl.state = .standby ∨ s.dev.ctl.state = .safe ∨ s.dev.ctl.state = .fault))
    ∧ (∃ (q : Path) (s : State), s.dev.takes q .b true ∧ s.dev.ctl.state ≠ .standby ∧ s.dev.ctl.state ≠ .safe ∧ s.dev.ctl.state ≠ .fault)
    ∧ (∃ (s : State), s.dev.supply.conv.discharging ∧ (250000 ≤ s.dev.supply.conv.dischAcc ∨ s.dev.forcedAt 0x0802))
    ∧ (∃ (s : State), s.dev.supply.conv.discharging = false)
    ∧ (∃ (s : State), s.dev.supply.conv.dischHot ∧ s.dev.supply.conv.dischAcc < 125000)
    ∧ (∃ (s : State), 125000 ≤ s.dev.supply.conv.dischAcc) :=
  ⟨⟨st (tm (ms 10) (wa [.linkUv] (link 849 (dv .run)))), by decide +kernel⟩,
   ⟨st (link 850 (dv .run)), by decide +kernel⟩,
   ⟨dv .run, by decide +kernel⟩,
   ⟨st (tm 2000 (wa [.linkOv] (link 1651 (dv .run)))), by decide +kernel⟩,
   ⟨st (link 849 (dv .run)), by decide +kernel⟩,
   ⟨st (link 1619 { dv .run with supply := { conv := { linkHigh := true } } }), by decide +kernel⟩,
   ⟨st (lat 6 1651 (dv .run)), by decide +kernel⟩,
   ⟨st (tm 2000 (wa [.linkDisch] (link 1690 (dv .run)))), by decide +kernel⟩,
   ⟨st { dv .run with supply := { conv := { dischHot := true } } }, by decide +kernel⟩,
   ⟨st (link 1659 { dv .run with supply := { conv := { discharging := true } } }), by decide +kernel⟩,
   ⟨st (su (fun x => { x with conv := { discharging := true, dischCmd := true } }) (dv .run)), by decide +kernel⟩,
   ⟨st (link 60 { dv .run with supply := { conv := { dischCmd := true } } }), by decide +kernel⟩,
   ⟨st (tm 2000 (wa [.linkTrip] (link 1721 (dv .run)))), by decide +kernel⟩,
   ⟨st (link 849 (dv .run)), by decide +kernel⟩,
   ⟨host, st (dv .standby), by decide +kernel⟩,
   ⟨host, st (link 849 (dv .run)), by decide +kernel⟩,
   ⟨st { dv .run with supply := { conv := { discharging := true, dischAcc := 250000 } } }, by decide +kernel⟩,
   ⟨st (link 849 (dv .run)), by decide +kernel⟩,
   ⟨st { dv .run with supply := { conv := { dischHot := true } } }, by decide +kernel⟩,
   ⟨st { dv .run with supply := { conv := { discharging := true, dischAcc := 250000 } } }, by decide +kernel⟩⟩

theorem witness_BusesAndBackup :
    (∃ (s : State), s.dev.ctl.state ≠ .off ∧ s.dev.busOver ∧ s.dev.held .bus54Ov 2000)
    ∧ (∃ (s : State), s.dev.busOver = false)
    ∧ (∃ (d : Device), 58 < d.fastVal 23)
    ∧ (∃ (d : Device), d.supply.llc.running ∧ d.supply.llc.inRange ∧ d.fastVal 23 < 48)
    ∧ (∃ (s : State), s.dev.busUnder ∧ s.dev.held .bus54Uv 100000)
    ∧ (∃ (s : State), s.dev.busUnder = false)
    ∧ (∃ (u : Nanos) (s : State), s.dev.supply.llc.restart = some u ∧ (3 ≤ (s.dev.supply.llc.stops.filter fun x => decide (s.dev.now < x + sec 10)).length ∨ s.dev.forcedAt 0x0804 = true))
    ∧ (∃ (u : Nanos) (s : State), s.dev.supply.llc.restart = some u ∧ u + 100000000 ≤ s.dev.now ∧ (s.dev.supply.llc.stops.filter fun x => decide (s.dev.now < x + sec 10)).length < 3 ∧ s.dev.forcedAt 0x0804 = false ∧ ((restartClears .llcSec (restartClears .llcPri s.dev)).stageCan .llcPri) ∧ ((restartClears .llcSec (restartClears .llcPri s.dev)).stageCan .llcSec))
    ∧ (∃ (s : State), s.dev.supply.llc.restart = none)
    ∧ (∃ (q : Path) (v : BitVec 16) (s : State), s.dev.takes q .b false ∧ 2400 ≤ v.toNat ∧ v.toNat ≤ 3000)
    ∧ (∃ (q : Path) (v : BitVec 16) (s : State), s.dev.takes q .b false ∧ (v.toNat < 2400 ∨ 3000 < v.toNat))
    ∧ (∃ (s : State), s.dev.ctl.state ≠ .off ∧ Cfg.syncSrc s.dev.cfg = 1 ∧ s.dev.forcedAt 0x0806 = false)
    ∧ (∃ (s : State), Cfg.syncSrc s.dev.cfg ≠ 1)
    ∧ (∃ (s : State), s.dev.supply.aux.syncLocked ∧ (∀ u, s.dev.supply.aux.lastCounted = some u → u + max 5000 (3 * s.dev.supply.aux.syncPeriod) < s.dev.now + 1000))
    ∧ (∃ (s : State), s.dev.supply.aux.syncLocked = false)
    ∧ (∃ (s : State), s.dev.supply.aux.running ∧ s.dev.supply.aux.shedHold = false ∧ s.dev.auxWanted < s.dev.supply.aux.count ∧ s.dev.held .auxShed 1000000 ∧ (∀ u, s.dev.supply.aux.shedLast = some u → u + 20000 ≤ s.dev.now) ∧ (s.dev.supply.aux.available ≤ s.dev.supply.aux.count ∨ s.dev.auxStep = false))
    ∧ (∃ (s : State), (s.dev.supply.aux.shedHold ∨ s.dev.supply.aux.count ≤ s.dev.auxWanted))
    ∧ (∃ (s : State), s.dev.supply.aux.running ∧ s.dev.supply.aux.count < s.dev.auxWanted)
    ∧ (∃ (d : Device) (k : Nat), ([0, 1, 2, 3, 4, 5, 6, 7].find? (fun j => !d.supply.aux.active.getD j false && !d.supply.aux.lostPh.getD j false) = some k))
    ∧ (∃ (s : State), s.dev.auxWanted ≤ s.dev.supply.aux.count)
    ∧ (∃ (s : State), s.dev.supply.aux.running ∧ s.dev.supply.aux.count < s.dev.supply.aux.available ∧ s.dev.auxStep)
    ∧ (∃ (s : State), s.dev.auxStep = false)
    ∧ (∃ (u : Nanos) (s : State), s.dev.supply.aux.shedHold ∧ s.dev.supply.aux.holdSince = some u ∧ u + 10000000 ≤ s.dev.now)
    ∧ (∃ (s : State), s.dev.supply.aux.shedHold = false)
    ∧ (∃ (s : State), s.dev.ctl.state ≠ .off ∧ s.dev.supply.backup.cause = 0 ∧ s.dev.supply.backup.heldOpen = false ∧ s.dev.fastVal 25 + 50 / 1000 ≤ s.dev.fastVal 27)
    ∧ (∃ (s : State), (s.dev.supply.backup.heldOpen ∨ s.dev.supply.backup.cause ≠ 0))
    ∧ (∃ (s : State), s.dev.supply.backup.diodeOn ∧ s.dev.fastVal 27 + 100 / 1000 ≤ s.dev.fastVal 25)
    ∧ (∃ (s : State), s.dev.fastVal 25 < s.dev.fastVal 27 + 100 / 1000)
    ∧ (∃ (s : State), s.dev.supply.backup.diodeOn ∧ s.dev.batauxOver ∧ s.dev.held .batauxOc 10000000)
    ∧ (∃ (s : State), s.dev.batauxOver = false)
    ∧ (∃ (s : State), s.dev.supply.backup.cause = 2 ∧ s.dev.supply.backup.heldOpen = false ∧ lasted s.dev.now s.dev.supply.backup.openings.getLast? 1000000000)
    ∧ (∃ (s : State), s.dev.supply.backup.heldOpen)
    ∧ (∃ (s : State), s.dev.ctl.state ≠ .off ∧ (s.dev.fineVal 27 < (Cfg.batauxCutoff s.dev.cfg : Rat) / 10 ∨ s.dev.forcedAt 0x0806))
    ∧ (∃ (s : State), (Cfg.batauxCutoff s.dev.cfg : Rat) / 10 ≤ s.dev.fineVal 27 ∧ s.dev.forcedAt 0x0806 = false)
    ∧ (∃ (s : State), s.dev.ctl.state ≠ .off ∧ 10 ≤ s.dev.supply.powN)
    ∧ (∃ (s : State), s.dev.supply.powN < 10)
    ∧ (∃ (s : State), s.dev.ctl.state ≠ .off) :=
  ⟨⟨st (tm 2000 (wa [.bus54Ov] (inj 0x0804 0 0 (dv .run)))), by decide +kernel⟩,
   ⟨st (fast 23 47 { dv .run with supply := { llc := { running := true, inRange := true } } }), by decide +kernel⟩,
   ⟨fast 23 59 (dv .run), by decide +kernel⟩,
   ⟨su (fun x => { x with llc := { running := true, inRange := true } }) (dv .run), by decide +kernel⟩,
   ⟨st (tm 100000 (wa [.bus54Uv] (fast 23 47 (su (fun x => { x with llc := { running := true, inRange := true } }) (dv .run))))), by decide +kernel⟩,
   ⟨st (fast 23 59 (dv .run)), by decide +kernel⟩,
   ⟨5, st { dv .run with supply := { llc := { restart := some 5, stops := [1, 2, 3] } } }, by decide +kernel⟩,
   ⟨5, st (tm 100000005 (arm .llcPri (arm .llcSec { dv .run with supply := { llc := { restart := some 5 } } }))), by decide +kernel⟩,
   ⟨st (fast 23 59 (dv .run)), by decide +kernel⟩,
   ⟨host, 2400, st (fast 23 59 (dv .run)), by decide +kernel⟩,
   ⟨host, 0, st (fast 23 59 (dv .run)), by decide +kernel⟩,
   ⟨st (cfg [(0x282003, 1)] (dv .run)), by decide +kernel⟩,
   ⟨st (fast 23 59 (dv .run)), by decide +kernel⟩,
   ⟨st { dv .run with supply := { aux := { syncLocked := true } } }, by decide +kernel⟩,
   ⟨st (fast 23 59 (dv .run)), by decide +kernel⟩,
   ⟨st (tm (ms 1) (wa [.auxShed] (su (fun x => { x with aux := { running := true, active := List.replicate 8 true } }) (dv .run)))), by decide +kernel, by decide +kernel, by decide +kernel, by decide +kernel, (by intro u h; cases h), by decide +kernel⟩,
   ⟨st (fast 23 59 (dv .run)), by decide +kernel⟩,
   ⟨st { dv .run with supply := { aux := { running := true, iOut := 320, active := [true, true, true, true, true, true, true, false] } } }, by decide +kernel⟩,
   ⟨dv .run, 0, by decide +kernel⟩,
   ⟨st { dv .run with supply := { aux := { running := true, iOut := 0, active := List.replicate 8 true } } }, by decide +kernel⟩,
   ⟨st { dv .run with supply := { aux := { running := true, iOut := 320, active := [true, true, true, true, true, true, true, false] } } }, by decide +kernel⟩,
   ⟨st (fast 25 0 (dv .run)), by decide +kernel⟩,
   ⟨0, st (tm (ms 10) (su (fun x => { x with aux := { shedHold := true, holdSince := some 0 } }) (dv .run))), by decide +kernel⟩,
   ⟨st (fast 23 59 (dv .run)), by decide +kernel⟩,
   ⟨st (fast 27 20 (dv .run)), by decide +kernel⟩,
   ⟨st { dv .run with supply := { backup := { heldOpen := true } } }, by decide +kernel⟩,
   ⟨st (fast 25 20 (su (fun x => { x with backup := { diodeOn := true } }) (dv .run))), by decide +kernel⟩,
   ⟨st (fast 23 59 (dv .run)), by decide +kernel⟩,
   ⟨st (tm (ms 10) (wa [.batauxOc] (inj 0x0806 0 0 (su (fun x => { x with backup := { diodeOn := true } }) (dv .run))))), by decide +kernel⟩,
   ⟨st (fast 28 0 (dv .run)), by decide +kernel⟩,
   ⟨st (tm (sec 1) (su (fun x => { x with backup := { cause := 2, openings := [0] } }) (dv .run))), by decide +kernel⟩,
   ⟨st { dv .run with supply := { backup := { heldOpen := true } } }, by decide +kernel⟩,
   ⟨st (fast 23 59 (dv .run)), by decide +kernel⟩,
   ⟨st (fine 27 30 (dv .run)), by decide +kernel⟩,
   ⟨st (su (fun x => { x with powN := 10 }) (dv .run)), by decide +kernel⟩,
   ⟨st (fast 23 59 (dv .run)), by decide +kernel⟩,
   ⟨st (fast 23 59 (dv .run)), by decide +kernel⟩⟩

theorem witness_TractionCharge :
    (∃ (q : Path) (s : State), s.dev.takes q .b false ∧ Cfg.convMode s.dev.cfg = 1 ∧ s.dev.ctl.state = .run ∧ (s.dev.chg.state = .idle ∨ s.dev.chg.state = .complete) ∧ (s.dev.chg.gridOk = false ∨ s.dev.chg.lostHold))
    ∧ (∃ (q : Path) (s : State), s.dev.takes q .b false ∧ Cfg.convMode s.dev.cfg = 1 ∧ s.dev.ctl.state = .run ∧ (s.dev.chg.state = .idle ∨ s.dev.chg.state = .complete) ∧ s.dev.chg.gridOk ∧ s.dev.chg.lostHold = false)
    ∧ (∃ (q : Path) (s : State), s.dev.takes q .b false ∧ (Cfg.convMode s.dev.cfg ≠ 1 ∨ s.dev.ctl.state ≠ .run ∨ s.dev.chg.state = .lockedOut))
    ∧ (∃ (q : Path) (s : State), s.dev.takes q .b false ∧ (s.dev.chg.state = .cc ∨ s.dev.chg.state = .cv))
    ∧ (∃ (q : Path) (s : State), s.dev.takes q .b false)
    ∧ (∃ (s : State), s.dev.ctl.state ≠ .off ∧ s.dev.chg.gridN ≠ 0)
    ∧ (∃ (s : State), s.dev.ctl.state = .off)
    ∧ (∃ (s : State), s.dev.ctl.state ≠ .off ∧ s.dev.acceptable ∧ s.dev.held .gridAccept 100000000 ∧ s.dev.chg.state = .gridCheck ∧ s.dev.chg.commanded ∧ s.dev.chg.lostHold = false ∧ s.dev.armReaction .grid < 3)
    ∧ (∃ (s : State), s.dev.ctl.state ≠ .off ∧ s.dev.acceptable ∧ s.dev.held .gridAccept 100000000 ∧ s.dev.chg.state ≠ .gridCheck)
    ∧ (∃ (s : State), (s.dev.acceptable = false ∨ s.dev.held .gridAccept 100000000 = false))
    ∧ (∃ (c : GridCheck) (s : State), s.dev.gridWatched ∧ s.dev.gridFails c ∧ (c = .pll ∨ s.dev.held (.grid c) (gridFilter c)))
    ∧ (∃ (s : State), s.dev.gridWatched = false)
    ∧ (∃ (s : State), s.dev.chg.gridV = 85 / 100 * (Cfg.gridVNom s.dev.cfg : Rat) ∧ s.dev.injectedAt 0x0901 = [])
    ∧ (∃ (s : State), s.dev.chg.state = .sync ∧ s.dev.chg.step = 1 ∧ s.dev.chg.stepStart + 50000000 ≤ s.dev.now ∧ s.dev.reaction .grid < 3 ∧ s.dev.ctl.enConv ∧ (∀ k : Nat, k ∈ StageGroup.islands .grid → (s.dev.island k).link = 2))
    ∧ (∃ (s : State), s.dev.chg.state = .sync ∧ s.dev.chg.step = 1 ∧ s.dev.chg.stepStart + 50000000 ≤ s.dev.now ∧ (s.dev.ctl.enConv = false ∨ 3 ≤ s.dev.reaction .grid))
    ∧ (∃ (s : State), (s.dev.chg.state ≠ .sync ∨ s.dev.now < s.dev.chg.stepStart + 50000000))
    ∧ (∃ (s : State), s.dev.chg.state = .sync ∧ s.dev.chg.pllLocked = false ∧ s.dev.chg.stepStart + 300000000 ≤ s.dev.now)
    ∧ (∃ (s : State), (s.dev.chg.pllLocked ∨ s.dev.now < s.dev.chg.stepStart + 300000000))
    ∧ (∃ (s : State), s.dev.chg.state = .retryWait ∧ s.dev.chg.commanded ∧ s.dev.acceptable ∧ s.dev.held .gridAccept (sec (Cfg.gridRestartT s.dev.cfg)) ∧ s.dev.chg.stepStart + sec (Cfg.gridRestartT s.dev.cfg) ≤ s.dev.now ∧ s.dev.armReaction .grid < 3 ∧ s.dev.injectedAt 0x0901 = [] ∧ (s.dev.chg.restarts.filter fun t => decide (s.dev.now < t + sec 600)).length < 5)
    ∧ (∃ (s : State), s.dev.chg.state = .retryWait ∧ s.dev.chg.commanded ∧ s.dev.acceptable ∧ s.dev.held .gridAccept (sec (Cfg.gridRestartT s.dev.cfg)) ∧ s.dev.chg.stepStart + sec (Cfg.gridRestartT s.dev.cfg) ≤ s.dev.now ∧ s.dev.armReaction .grid < 3 ∧ 5 ≤ (s.dev.chg.restarts.filter fun t => decide (s.dev.now < t + sec 600)).length)
    ∧ (∃ (s : State), s.dev.chg.state ≠ .retryWait)
    ∧ (∃ (s : State), s.dev.chg.state = .cv ∧ Cfg.chgIEnd s.dev.cfg ≠ 0 ∧ s.dev.fineVal 13 < (Cfg.chgIEnd s.dev.cfg : Rat) ∧ s.dev.held .chargeEnd 60000000000 ∧ s.dev.chg.ending = none)
    ∧ (∃ (s : State), (Cfg.chgIEnd s.dev.cfg = 0 ∨ s.dev.chg.state ≠ .cv))
    ∧ (∃ (s : State), s.dev.supply.conv.running ∧ 20 ≤ s.dev.chg.iCmd ∧ s.dev.latchedVal 13 < 5 ∧ s.dev.held .tbatLost 1000000)
    ∧ (∃ (s : State), s.dev.chg.iCmd < 20) :=
  ⟨⟨host, st (dv .run), by decide +kernel⟩,
   ⟨host, st (ch (fun x => { x with gridOk := true }) (cfg [(0x280001, 1)] (dv .run))), by decide +kernel⟩,
   ⟨host, st (cfg [(0x280001, 0)] (dv .run)), by decide +kernel⟩,
   ⟨host, st { dv .run with chg := { state := .cc } }, by decide +kernel⟩,
   ⟨host, st (dv .run), by decide +kernel⟩,
   ⟨st (ch (fun x => { x with gridN := 1 }) (dv .run)), by decide +kernel⟩,
   ⟨st (dv .off), by decide +kernel⟩,
   ⟨st (gridUp (ch (fun x => { x with state := .gridCheck, commanded := true }) (dv .run))), by decide +kernel⟩,
   ⟨st (gridUp (dv .run)), by decide +kernel⟩,
   ⟨st (dv .run), by decide +kernel⟩,
   ⟨.uv, st (tm (ms 200) (wa [.grid .uv] (ch (fun x => { x with state := .cc }) (dv .run)))), by decide +kernel⟩,
   ⟨st (dv .run), by decide +kernel⟩,
   ⟨st { dv .run with chg := { gridV := 340 } }, by decide +kernel⟩,
   ⟨st (tm (ms 50) (arm .grid (ch (fun x => { x with state := .sync, step := 1 }) (dv .run)))), by decide +kernel⟩,
   ⟨st (tm (ms 50) (ct (fun c => { c with enConv := false }) (ch (fun x => { x with state := .sync, step := 1 }) (dv .run)))), by decide +kernel⟩,
   ⟨st (dv .run), by decide +kernel⟩,
   ⟨st (tm (ms 300) (ch (fun x => { x with state := .sync }) (dv .run))), by decide +kernel⟩,
   ⟨st (dv .run), by decide +kernel⟩,
   ⟨st (tm (sec 1000) (gridUp (ch (fun x => { x with state := .retryWait, commanded := true }) (dv .run)))), by decide +kernel⟩,
   ⟨st (tm (sec 1000) (gridUp (ch (fun x => { x with state := .retryWait, commanded := true, restarts := List.replicate 5 (sec 1000) }) (dv .run)))), by decide +kernel⟩,
   ⟨st (dv .run), by decide +kernel⟩,
   ⟨st (tm (sec 60) (wa [.chargeEnd] (cfg [(0x290007, 5)] (ch (fun x => { x with state := .cv }) (dv .run))))), by decide +kernel⟩,
   ⟨st (dv .run), by decide +kernel⟩,
   ⟨st (tm (ms 1) (wa [.tbatLost] (su (fun x => { x with conv := { running := true } }) (ch (fun x => { x with iCmd := 20 }) (dv .run))))), by decide +kernel⟩,
   ⟨st (dv .run), by decide +kernel⟩⟩

theorem witness_HostWatchdog :
    (∃ (q : Path) (s : State), s.dev.takes q .b false)
    ∧ (∃ (q : Path) (v : BitVec 16) (s : State), s.dev.takes q .b false ∧ v.toNat ≤ 2000)
    ∧ (∃ (q : Path) (v : BitVec 16) (s : State), s.dev.takes q .b false ∧ 2000 < v.toNat)
    ∧ (∃ (q : Path) (v : BitVec 16) (s : State), s.dev.takes q .b false ∧ 600 ≤ v.toNat ∧ v.toNat ≤ 1350)
    ∧ (∃ (q : Path) (v : BitVec 16) (s : State), s.dev.takes q .b false ∧ (v.toNat < 600 ∨ 1350 < v.toNat))
    ∧ (∃ (s : State), s.dev.ctl.state ≠ .off ∧ s.dev.chg.lastRefresh.getD 0 + sec (Cfg.chgWdTime s.dev.cfg) ≤ s.dev.now)
    ∧ (∃ (s : State), s.dev.now < s.dev.chg.lastRefresh.getD 0 + sec (Cfg.chgWdTime s.dev.cfg) ∧ s.dev.forcedAt 0x0903 = false) :=
  ⟨⟨host, st (dv .run), by decide +kernel⟩,
   ⟨host, 2000, st (dv .run), by decide +kernel⟩,
   ⟨host, 2001, st (dv .run), by decide +kernel⟩,
   ⟨host, 600, st (dv .run), by decide +kernel⟩,
   ⟨host, 2000, st (dv .run), by decide +kernel⟩,
   ⟨st (tm 10000000000 (dv .run)), by decide +kernel⟩,
   ⟨st (dv .run), by decide +kernel⟩⟩

theorem witness_BackupCharger :
    (∃ (s : State), s.dev.ctl.state ≠ .off)
    ∧ (∃ (s : State), s.dev.ctl.state ≠ .off ∧ s.dev.forcedAt 0x0904 = false)
    ∧ (∃ (s : State), s.dev.bchg.state = .precharge ∧ s.dev.bchg.phaseStart + sec 1800 ≤ s.dev.now)
    ∧ (∃ (s : State), s.dev.bchg.state ≠ .precharge)
    ∧ (∃ (x : Rat) (s : State), s.dev.bchg.state = .trickle ∧ s.dev.chg.fallback = false ∧ s.dev.bchg.temp = some x ∧ 5 ≤ x ∧ x ≤ 40 ∧ s.dev.fineVal 27 < 18 * (Cfg.bchgRestartV s.dev.cfg : Rat) / 100 ∧ s.dev.held .bchgRestart 60000000000)
    ∧ (∃ (x : Rat) (s : State), s.dev.bchg.state = .trickle ∧ s.dev.chg.fallback = false ∧ s.dev.bchg.temp = some x ∧ (x < 5 ∨ 40 < x) ∧ s.dev.fineVal 27 < 18 * (Cfg.bchgRestartV s.dev.cfg : Rat) / 100 ∧ s.dev.held .bchgRestart 60000000000)
    ∧ (∃ (s : State), (s.dev.chg.fallback ∨ s.dev.bchg.state ≠ .trickle))
    ∧ (∃ (s : State), s.dev.bchg.state = .fast ∧ s.dev.bchg.phaseStart + sec (60 * Cfg.bchgDvHold s.dev.cfg) ≤ s.dev.now)
    ∧ (∃ (s : State), s.dev.bchg.state ≠ .fast)
    ∧ (∃ (m : Rat) (p : Rat) (s : State), s.dev.bchg.dvArmed ∧ s.dev.bchg.vMean = some m ∧ s.dev.bchg.vPeak = some p)
    ∧ (∃ (c : FastEnd) (s : State), s.dev.bchg.state = .fast ∧ s.dev.fastEnded c)
    ∧ (∃ (s : State), s.dev.bchg.dvArmed = false)
    ∧ (∃ (s : State), s.dev.bchg.state = .fast ∧ s.dev.tNom ≤ timerRun s.dev.bchg.safetyRun s.dev.bchg.safetySince s.dev.now)
    ∧ (∃ (s : State), s.dev.bchg.state = .fast ∧ 2 * s.dev.tNom ≤ timerRun s.dev.bchg.ceilRun s.dev.bchg.ceilSince s.dev.now)
    ∧ (∃ (s : State), s.dev.ctl.state ≠ .off ∧ s.dev.bchg.present ∧ s.dev.batauxRemoved)
    ∧ (∃ (s : State), s.dev.bchg.current = 0 ∧ s.dev.fineVal 27 < 9 ∧ s.dev.held .batauxGone 100000000)
    ∧ (∃ (s : State), s.dev.bchg.current = 0 ∧ 9 ≤ s.dev.fineVal 27 ∧ s.dev.forcedAt 0x0904 = false)
    ∧ (∃ (s : State), s.dev.ctl.state ≠ .off ∧ s.dev.bchg.present = false ∧ 9 ≤ s.dev.fineVal 27 ∧ s.dev.held .batauxBack 2000000000)
    ∧ (∃ (s : State), (s.dev.bchg.present ∨ s.dev.fineVal 27 < 9))
    ∧ (∃ (q : Path) (x : Rat) (s : State), s.dev.takes q .b false ∧ s.dev.bchg.state = .trickle ∧ s.dev.bchg.temp = some x ∧ 5 ≤ x ∧ x ≤ 40)
    ∧ (∃ (q : Path) (s : State), s.dev.takes q .b false ∧ (s.dev.bchg.state = .stopped ∨ s.dev.bchg.state = .lost))
    ∧ (∃ (q : Path) (s : State), s.dev.takes q .b false ∧ s.dev.bchg.present = false)
    ∧ (∃ (q : Path) (s : State), s.dev.takes q .b false ∧ s.dev.bchg.present ∧ s.dev.bchg.state = .stopped)
    ∧ (∃ (s : State), s.dev.ctl.state = .off)
    ∧ (∃ (flt : Bool) (s : State), (s.dev.lamps.get flt).off ∧ (s.dev.lamps.get flt).offAt + 1000000000 ≤ s.dev.now)
    ∧ (∃ (flt : Bool) (s : State), ((s.dev.lamps.get flt).off = false ∨ s.dev.now < (s.dev.lamps.get flt).offAt + 1000000000))
    ∧ (∃ (s : State), 1000000000 ≤ s.dev.now)
    ∧ (∃ (s : State), s.dev.now < 1000000000) :=
  ⟨⟨st (dv .run), by decide +kernel⟩,
   ⟨st (dv .run), by decide +kernel⟩,
   ⟨st (tm 1800000000000 { dv .run with bchg := { state := .precharge } }), by decide +kernel⟩,
   ⟨st (dv .run), by decide +kernel⟩,
   ⟨5, st (tm (sec 60) (wa [.bchgRestart] (bc (fun x => { x with state := .trickle, temp := some 5 }) (dv .run)))), by decide +kernel⟩,
   ⟨4, st (tm (sec 60) (wa [.bchgRestart] (bc (fun x => { x with state := .trickle, temp := some 4 }) (dv .run)))), by decide +kernel⟩,
   ⟨st (dv .run), by decide +kernel⟩,
   ⟨st (tm 3600000000000 { dv .run with bchg := { state := .fast } }), by decide +kernel⟩,
   ⟨st (dv .run), by decide +kernel⟩,
   ⟨2, 3, st (bc (fun x => { x with dvArmed := true, vMean := some 2, vPeak := some 3 }) (dv .run)), by decide +kernel⟩,
   ⟨.ceiling, st (tm 3600000000000 { dv .run with bchg := { state := .fast } }), by decide +kernel⟩,
   ⟨st (dv .run), by decide +kernel⟩,
   ⟨st (tm 100000000000000 { dv .run with bchg := { state := .fast, safetySince := some 0 } }), by decide +kernel⟩,
   ⟨st (tm 100000000000000 { dv .run with bchg := { state := .fast, ceilSince := some 0 } }), by decide +kernel⟩,
   ⟨st (tm (ms 100) (wa [.batauxGone] (bc (fun x => { x with present := true }) (dv .run)))), by decide +kernel⟩,
   ⟨st (tm (ms 100) (wa [.batauxGone] (dv .run))), by decide +kernel⟩,
   ⟨st (fine 27 10 { dv .run with bchg := { state := .trickle, temp := some 5 } }), by decide +kernel⟩,
   ⟨st (tm (sec 2) (wa [.batauxBack] (fine 27 9 (dv .run)))), by decide +kernel⟩,
   ⟨st (dv .run), by decide +kernel⟩,
   ⟨host, 5, st (fine 27 10 { dv .run with bchg := { state := .trickle, temp := some 5 } }), by decide +kernel⟩,
   ⟨host, st { dv .run with bchg := { state := .stopped } }, by decide +kernel⟩,
   ⟨host, st (dv .run), by decide +kernel⟩,
   ⟨host, st { dv .run with bchg := { present := true, state := .stopped } }, by decide +kernel⟩,
   ⟨st (dv .off), by decide +kernel⟩,
   ⟨true, st (tm (sec 1) { dv .run with lamps := { flt := { off := true }, chg := { off := true } } }), by decide +kernel⟩,
   ⟨true, st (dv .run), by decide +kernel⟩,
   ⟨st (tm 1800000000000 { dv .run with bchg := { state := .precharge } }), by decide +kernel⟩,
   ⟨st (dv .run), by decide +kernel⟩⟩

theorem witness_ActuatorDrives :
    (∃ (n : Fin 4) (h : Fin 8) (s : State), s.dev.ctl.state ≠ .off ∧ n < s.dev.acts.length ∧ (h = 0 ∨ h = 7))
    ∧ (∃ (s : State), s.dev.ctl.state = .off)
    ∧ (∃ (n : Fin 4) (s : State), s.dev.ctl.state ≠ .off ∧ n < s.dev.acts.length ∧ (s.dev.act n).hallLast = 1 ∧ (s.dev.act n).busy = false ∧ (s.dev.act n).op = .idle ∧ -2147483648 ≤ (s.dev.act n).pos ∧ (s.dev.act n).pos < 2147483647)
    ∧ (∃ (n : Fin 4) (s : State), s.dev.ctl.state ≠ .off ∧ n < s.dev.acts.length ∧ (s.dev.act n).hallLast = 1 ∧ (s.dev.act n).busy = false ∧ (s.dev.act n).op = .holding ∧ -2147483648 < (s.dev.act n).pos ∧ (s.dev.act n).pos ≤ 2147483647)
    ∧ (∃ (n : Fin 4) (u : Nanos) (s : State), s.dev.ctl.state ≠ .off ∧ n < s.dev.acts.length ∧ (s.dev.act n).hallBadSince = some u ∧ u + 1000000 ≤ s.dev.now)
    ∧ (∃ (n : Fin 4) (s : State), (s.dev.act n).hallBadSince = none ∧ (s.dev.act n).skipsOp < 4 ∧ s.dev.forced 0x0A01 n = false)
    ∧ (∃ (n : Fin 4) (s : State), s.dev.activeAt .actOc (.actuator n) ∧ (s.dev.act n).op = .failed ∧ s.dev.ocOver n)
    ∧ (∃ (n : Fin 4) (s : State), s.dev.ocOver n = false)
    ∧ (∃ (q : Path) (n : Fin 4) (s : State), s.dev.takes q .b false ∧ s.dev.driveBlocked n = false ∧ (s.dev.act n).busy = false ∧ (s.dev.act n).homed ∧ (s.dev.act n).therm < 1 ∧ Cfg.actRole s.dev.cfg n = 0)
    ∧ (∃ (q : Path) (n : Fin 4) (s : State), s.dev.takes q .b false ∧ s.dev.driveBlocked n)
    ∧ (∃ (q : Path) (n : Fin 4) (s : State), s.dev.takes q .b false ∧ s.dev.driveBlocked n = false ∧ (s.dev.act n).busy)
    ∧ (∃ (q : Path) (n : Fin 4) (s : State), s.dev.takes q .b false ∧ s.dev.driveBlocked n = false ∧ (s.dev.act n).busy = false ∧ Cfg.actRole s.dev.cfg n ≠ 1 ∧ Cfg.actRole s.dev.cfg n ≠ 2 ∧ (s.dev.act n).therm < 1)
    ∧ (∃ (q : Path) (n : Fin 4) (s : State), s.dev.takes q .b false ∧ s.dev.driveBlocked n = false)
    ∧ (∃ (n : Fin 4) (s : State), (s.dev.act n).op = .moving ∧ n < s.dev.acts.length ∧ s.dev.actStopped n ∧ (s.dev.act n).homing ∧ (s.dev.act n).shiftBad = false)
    ∧ (∃ (n : Fin 4) (s : State), (s.dev.act n).op = .moving ∧ n < s.dev.acts.length ∧ s.dev.actStopped n ∧ (s.dev.act n).homing = false ∧ (s.dev.act n).goalEnd = false ∧ (s.dev.act n).retries < Cfg.actRetries s.dev.cfg n ∧ 0 < Cfg.backoff s.dev.cfg n ∧ (s.dev.act n).pos ≤ (s.dev.act n).goal)
    ∧ (∃ (n : Fin 4) (s : State), (s.dev.act n).op = .moving ∧ n < s.dev.acts.length ∧ s.dev.actStopped n ∧ (s.dev.act n).homing = false ∧ (s.dev.act n).goalEnd = false ∧ Cfg.actRetries s.dev.cfg n ≤ (s.dev.act n).retries)
    ∧ (∃ (n : Fin 4) (s : State), (s.dev.actPushes n = false ∨ (s.dev.act n).op = .holding))
    ∧ (∃ (n : Fin 4) (s : State), ((s.dev.act n).op = .moving ∨ (s.dev.act n).op = .seating) ∧ (s.dev.act n).opStart + ms (Cfg.opTMax s.dev.cfg n) ≤ s.dev.now)
    ∧ (∃ (n : Fin 4) (s : State), (s.dev.act n).op = .holding)
    ∧ (∃ (n : Fin 4) (s : State), (s.dev.act n).diffWait ∧ (s.dev.act n).stepStart + ms (Cfg.diffWaitT s.dev.cfg n) ≤ s.dev.now)
    ∧ (∃ (n : Fin 4) (s : State), (s.dev.act n).diffWait = false)
    ∧ (∃ (n : Fin 4) (s : State), (s.dev.act n).op = .pause ∧ (s.dev.act n).pauseUntil ≤ s.dev.now ∧ (s.dev.act n).homing)
    ∧ (∃ (n : Fin 4) (s : State), s.dev.now < (s.dev.act n).pauseUntil) :=
  ⟨⟨3, 7, st (dv .run), by decide +kernel⟩,
   ⟨st (dv .off), by decide +kernel⟩,
   ⟨0, st (ac (fun x => { x with hallLast := 1 }) (dv .run)), by decide +kernel⟩,
   ⟨0, st { dv .run with acts := [{ hallLast := 1, op := .holding, pos := 2147483646 }] }, by decide +kernel⟩,
   ⟨0, 0, st (tm 100000000 (flt .actOc (.actuator 0) 3 { dv .run with acts := [{ op := .failed, ocTimes := [0] }] })), by decide +kernel⟩,
   ⟨0, st (ac (fun x => { x with hallBadSince := none }) (dv .run)), by decide +kernel⟩,
   ⟨0, st (tm 100000000 (flt .actOc (.actuator 0) 3 { dv .run with acts := [{ op := .failed, ocTimes := [0] }] })), by decide +kernel⟩,
   ⟨0, st (tm 99999999 { dv .run with acts := [{ op := .failed, ocTimes := [0] }] }), by decide +kernel⟩,
   ⟨host, 0, st (arm .act <| cfg [(0x2a0001, 0)] { dv .run with supply := { chain := 7 }, acts := [{ homed := true, therm := 99 / 100 }] }), by decide +kernel⟩,
   ⟨host, 3, st (dv .run), by decide +kernel⟩,
   ⟨host, 0, st { dv .run with supply := { chain := 7 }, acts := [{ op := .moving }] }, by decide +kernel⟩,
   ⟨host, 3, st (arm .act <| cfg [(0x2a0001, 0)] { dv .run with supply := { chain := 7 }, acts := [{ homed := true, therm := 99 / 100 }] }), by decide +kernel⟩,
   ⟨host, 3, st (arm .act <| cfg [(0x2a0001, 0)] { dv .run with supply := { chain := 7 }, acts := [{ homed := true, therm := 99 / 100 }] }), by decide +kernel⟩,
   ⟨0, st (stalled (ac (fun x => { x with op := .moving, homing := true }) (dv .run))), by decide +kernel⟩,
   ⟨0, st (stalled (cfg [(0x3a000a, 3), (0x3a000b, 5)] (ac (fun x => { x with op := .moving }) (dv .run)))), by decide +kernel⟩,
   ⟨0, st (stalled (ac (fun x => { x with op := .moving, retries := 255 }) (dv .run))), by decide +kernel⟩,
   ⟨3, st (dv .run), by decide +kernel⟩,
   ⟨0, st (tm 1000000000 { dv .run with acts := [{ op := .moving }] }), by decide +kernel⟩,
   ⟨0, st { dv .run with acts := [{ hallLast := 1, op := .holding, pos := 2147483646 }] }, by decide +kernel⟩,
   ⟨0, st (tm (sec 100) (ac (fun x => { x with diffWait := true }) (dv .run))), by decide +kernel⟩,
   ⟨3, st (dv .run), by decide +kernel⟩,
   ⟨0, st { dv .run with acts := [{ op := .pause, homing := true }] }, by decide +kernel⟩,
   ⟨0, st { dv .run with acts := [{ pauseUntil := 1 }] }, by decide +kernel⟩⟩

theorem witness_ShiftSequence :
    (∃ (n : Fin 4) (x0 : Nanos) (s : State), (s.dev.act n).shift = 4 ∧ (s.dev.act n).syncSince = some x0 ∧ x0 + 20000000 ≤ s.dev.now ∧ n < s.dev.acts.length ∧ s.dev.shiftLost n = false ∧ (s.dev.act n).pos ≠ Cfg.targetPos s.dev.cfg n (s.dev.act n).gear)
    ∧ (∃ (n : Fin 4) (s : State), (s.dev.act n).syncSince = none)
    ∧ (∃ (n : Fin 4) (p : PortId) (s : State), (s.dev.act n).shift = 2 ∧ n < s.dev.acts.length ∧ s.dev.forkPort n = some p ∧ s.dev.shiftLost n = false ∧ (s.dev.act n).stepStart + ms (Cfg.stepTMax s.dev.cfg n 2) ≤ s.dev.now)
    ∧ (∃ (n : Fin 4) (p : PortId) (s : State), (s.dev.act n).shift = 4 ∧ n < s.dev.acts.length ∧ s.dev.forkPort n = some p ∧ s.dev.shiftLost n = false ∧ (s.dev.act n).stepStart + ms (Cfg.stepTMax s.dev.cfg n 4) ≤ s.dev.now)
    ∧ (∃ (n : Fin 4) (s : State), s.dev.forced 0x0A02 n = false ∧ s.dev.now < (s.dev.act n).stepStart + ms (Cfg.stepTMax s.dev.cfg n (s.dev.act n).shift))
    ∧ (∃ (n : Fin 4) (s : State), s.dev.ctl.state ≠ .off ∧ n < s.dev.acts.length ∧ due s.dev.now (s.dev.act n).thermAt 10000000 ∧ 0 < Cfg.actICont s.dev.cfg n)
    ∧ (∃ (n : Fin 4) (s : State), due s.dev.now (s.dev.act n).thermAt 10000000 = false)
    ∧ (∃ (h : Nat) (shift : Nat) (hi : Nat) (lo : Nat) (f : Bool), commutation h shift f = some (hi, lo)) :=
  ⟨⟨0, 0, st (ac (fun x => { x with syncSince := some 0, pos := 5 }) (forking 4)), by decide +kernel⟩,
   ⟨0, st (dv .run), by decide +kernel⟩,
   ⟨0, .a, st (forking 2), by decide +kernel⟩,
   ⟨0, .a, st (forking 4), by decide +kernel⟩,
   ⟨0, st (tm 20000000 { dv .run with acts := [{ shift := 4, syncSince := some 0, pos := 100 }] }), by decide +kernel⟩,
   ⟨0, st (tm 20000000 { dv .run with acts := [{ shift := 4, syncSince := some 0, pos := 100 }] }), by decide +kernel⟩,
   ⟨0, st (ac (fun x => { x with thermAt := some 0 }) (dv .run)), by decide +kernel⟩,
   ⟨6, 6, 1, 0, true, by decide +kernel⟩⟩

theorem witness_DieTemperatures :
    (∃ (s : State), s.dev.ctl.state ≠ .off ∧ due s.dev.now s.dev.therm.dieAt 50000)
    ∧ (∃ (s : State), due s.dev.now s.dev.therm.dieAt 50000 = false)
    ∧ (∃ (s : State), s.dev.ctl.state ≠ .off)
    ∧ (∃ (s : State), s.dev.ctl.state = .off)
    ∧ (∃ (k : Fin 64) (s : State), (s.dev.island k).otPending ∧ (s.dev.island k).otAt + 10000 ≤ s.dev.now ∧ (∃ c ∈ (s.dev.island k).chans, c.gateOn = true) ∧ k.val < 61)
    ∧ (∃ (k : Fin 64) (s : State), (s.dev.island k).otPending ∧ (s.dev.island k).otAt + 10000 ≤ s.dev.now ∧ (∃ c ∈ (s.dev.island k).chans, c.gateOn = true) ∧ 61 ≤ k.val)
    ∧ (∃ (k : Fin 64) (s : State), ((∀ c ∈ (s.dev.island k).chans, c.gateOn = false) ∨ (s.dev.island k).otPending = false))
    ∧ (∃ (sg : StageGroup) (s : State), s.dev.activeAt .dieOt (.stage sg) ∧ lasted s.dev.now (s.dev.therm.coolSince.getD sg.num none) 1000000000)
    ∧ (∃ (sg : StageGroup) (s : State), s.dev.therm.coolSince.getD sg.num none = none)
    ∧ (∃ (d : Device) (g : Nat) (t : Int), d.hottestOf g = some t ∧ (t : Rat) / 8 ≤ Cfg.dieTDerate d.cfg)
    ∧ (∃ (d : Device) (g : Nat) (t : Int), d.hottestOf g = some t ∧ (Cfg.dieTDerate d.cfg : Rat) < 180 ∧ 1440 ≤ t)
    ∧ (∃ (d : Device) (g : Nat), d.hottestOf g = none)
    ∧ (∃ (s : State), s.dev.ctl.state ≠ .off ∧ s.dev.ctl.state ≠ .safe ∧ due s.dev.now s.dev.therm.tjAt 1000000)
    ∧ (∃ (a : Rat) (b : Rat) (s : State), s.dev.ctl.state = .safe ∧ (s.dev.entry? .ctrlOt .module).isSome ∧ (∀ e ∈ s.dev.faults.active, 4 ≤ e.reaction ∨ e.name = .ctrlOt → e.name = .ctrlOt ∧ e.scope = .module) ∧ a < 105 ∧ b < 105 ∧ due s.dev.now s.dev.therm.tjAt 1000000)
    ∧ (∃ (s : State), s.dev.ctl.state ≠ .off ∧ s.dev.therm.tj = none)
    ∧ (∃ (s : State), due s.dev.now s.dev.therm.tjAt 1000000 = false)
    ∧ (∃ (x : Rat) (s : State), s.dev.ctl.state ≠ .off ∧ s.dev.therm.tj = some x ∧ s.dev.tjLost)
    ∧ (∃ (s : State), s.dev.tjLost = false)
    ∧ (∃ (s : State), s.dev.ctl.state ≠ .off ∧ lasted s.dev.now s.dev.therm.inletSince 1000000000)
    ∧ (∃ (s : State), lasted s.dev.now s.dev.therm.inletSince 1000000000 = false ∧ s.dev.forced 0x0B04 8 = false)
    ∧ (∃ (s : State), s.dev.ctl.state ≠ .off ∧ lasted s.dev.now s.dev.therm.flowSince 10000000000)
    ∧ (∃ (s : State), lasted s.dev.now s.dev.therm.flowSince 10000000000 = false ∧ s.dev.forced 0x0B04 9 = false)
    ∧ (∃ (x : Rat) (y : Rat) (h : Thermal), h.coolIn = some x ∧ h.coolOut = some y)
    ∧ (∃ (x : Rat) (s : State), s.dev.ctl.state ≠ .off ∧ some x ∈ s.dev.therm.lct ∧ 110 ≤ x)
    ∧ (∃ s : State, ∀ x : Rat, some x ∈ s.dev.therm.lct → x < 110)
    ∧ (∃ (k : Fin 4) (s : State), s.dev.ctl.state ≠ .off ∧ s.dev.wtPorts k ≠ [] ∧ s.dev.therm.wtAt.getD k 0 + 1000000000 ≤ s.dev.now)
    ∧ (∃ (k : Fin 4) (s : State), s.dev.wtPorts k = [])
    ∧ (∃ (s : State), s.dev.ctl.state ≠ .off ∧ due s.dev.now s.dev.therm.tbAt 10000000)
    ∧ (∃ (s : State), due s.dev.now s.dev.therm.tbAt 10000000 = false) :=
  ⟨⟨st ((dv .run).onIsland 3 fun x => { x with otPending := true, chans := [{ gateOn := true }] }), by decide +kernel⟩,
   ⟨st (th (fun x => { x with dieAt := some 0 }) (dv .run)), by decide +kernel⟩,
   ⟨st ((dv .run).onIsland 3 fun x => { x with otPending := true, chans := [{ gateOn := true }] }), by decide +kernel⟩,
   ⟨st (dv .off), by decide +kernel⟩,
   ⟨0, st (tm 10000 (isl 0 (fun x => { x with otPending := true, chans := List.replicate 8 { gateOn := true } }) (dv .run))), by decide +kernel⟩,
   ⟨61, st (tm 10000 (isl 61 (fun x => { x with otPending := true, chans := List.replicate 8 { gateOn := true } }) (dv .run))), by decide +kernel⟩,
   ⟨3, st (dv .run), by decide +kernel⟩,
   ⟨.portA, st (tm (sec 1) (th (fun x => { x with coolSince := List.replicate 8 (some 0) }) (flt .dieOt (.stage .portA) 3 (dv .run)))), by decide +kernel⟩,
   ⟨.portA, st ((dv .run).onIsland 3 fun x => { x with otPending := true, chans := [{ gateOn := true }] }), by decide +kernel⟩,
   ⟨(dv .run).onChan 0 (fun c => { c with temp := some 1120 }), 0, 1200, by decide +kernel⟩,
   ⟨(dv .run).onChan 0 (fun c => { c with temp := some 1440 }), 0, 1520, by decide +kernel⟩,
   ⟨(dv .run).onChan 0 (fun c => { c with temp := some 1120 }), 17, by decide +kernel⟩,
   ⟨st ((dv .run).onIsland 3 fun x => { x with otPending := true, chans := [{ gateOn := true }] }), by decide +kernel⟩,
   ⟨104, 104, st (flt .ctrlOt .module 4 (dv .safe)), by decide +kernel⟩,
   ⟨st (th (fun x => { x with tjA := none, tjB := none }) (dv .run)), by decide +kernel⟩,
   ⟨st (th (fun x => { x with tjAt := some 0 }) (dv .run)), by decide +kernel⟩,
   ⟨100, st (th (fun x => { x with tjA := some 100, tjB := none }) (dv .run)), by decide +kernel⟩,
   ⟨st ((dv .run).onIsland 3 fun x => { x with otPending := true, chans := [{ gateOn := true }] }), by decide +kernel⟩,
   ⟨st (tm (sec 1) (th (fun x => { x with inletSince := some 0 }) (dv .run))), by decide +kernel⟩,
   ⟨st ((dv .run).onIsland 3 fun x => { x with otPending := true, chans := [{ gateOn := true }] }), by decide +kernel⟩,
   ⟨st (tm (sec 10) (th (fun x => { x with flowSince := some 0 }) (dv .run))), by decide +kernel⟩,
   ⟨st ((dv .run).onIsland 3 fun x => { x with otPending := true, chans := [{ gateOn := true }] }), by decide +kernel⟩,
   ⟨0, 0, {}, by decide +kernel⟩,
   ⟨110, st (th (fun x => { x with lct := [some 110, none, none, none] }) (dv .run)), by decide +kernel⟩,
   ⟨st (th (fun x => { x with lct := [some 109, none] }) (dv .run)), by simp [st, th]; norm_num⟩,
   ⟨0, st (tm (sec 1) (cfg [(0x610010, 1)] (dv .run))), by decide +kernel⟩,
   ⟨0, st ((dv .run).onIsland 3 fun x => { x with otPending := true, chans := [{ gateOn := true }] }), by decide +kernel⟩,
   ⟨st ((dv .run).onIsland 3 fun x => { x with otPending := true, chans := [{ gateOn := true }] }), by decide +kernel⟩,
   ⟨st (th (fun x => { x with tbAt := some 0 }) (dv .run)), by decide +kernel⟩⟩

theorem witness_SafetyInputs :
    (∃ (n : Fin 16) (h : Bool) (s : State), s.dev.ctl.state ≠ .off ∧ (s.dev.input n).level ≠ h ∧ due s.dev.now (s.dev.input n).levelAt (ms (Cfg.siFilt s.dev.scfg n)) ∧ Cfg.resetSi s.dev.scfg ≠ n)
    ∧ (∃ (n : Fin 16) (s : State), s.dev.ctl.state ≠ .off ∧ (s.dev.input n).level = false ∧ due s.dev.now (s.dev.input n).levelAt (ms (Cfg.siFilt s.dev.scfg n)) ∧ Cfg.resetSi s.dev.scfg = n)
    ∧ (∃ (n : Fin 16) (u : Nanos) (s : State), s.dev.ctl.state ≠ .off ∧ (s.dev.input n).level = true ∧ due s.dev.now (s.dev.input n).levelAt (ms (Cfg.siFilt s.dev.scfg n)) ∧ Cfg.resetSi s.dev.scfg = n ∧ s.dev.safety.resetHigh = some u ∧ s.dev.safety.resetHold = false)
    ∧ (∃ (n : Fin 16) (h : Bool) (s : State), ((s.dev.input n).level = h ∨ due s.dev.now (s.dev.input n).levelAt (ms (Cfg.siFilt s.dev.scfg n)) = false))
    ∧ (∃ (k : Fin 8) (s : State), s.dev.ctl.state ≠ .off ∧ s.dev.scAlive ∧ s.dev.pulseDue k)
    ∧ (∃ (k : Fin 8) (s : State), s.dev.pulseDue k = false)
    ∧ (∃ (k : Fin 16) (u : Nanos) (s : State), s.dev.ctl.state ≠ .off ∧ s.dev.scAlive ∧ (s.dev.fn k).discSince = some u ∧ u + s.dev.discTime k < s.dev.now)
    ∧ (∃ (k : Fin 16) (s : State), (s.dev.fn k).discSince = none ∧ (s.dev.fn k).handSince = none)
    ∧ (∃ (k : Fin 16) (u : Nanos) (s : State), s.dev.scAlive ∧ (s.dev.fn k).demand ∧ (s.dev.fn k).firstHand = some u ∧ u + 500000000 ≤ s.dev.now)
    ∧ (∃ (k : Fin 16) (s : State), ((s.dev.fn k).demand = false ∨ (s.dev.fn k).firstHand = none))
    ∧ (∃ (u : Nanos) (s : State), s.dev.scAlive ∧ s.dev.safety.resetHigh = some u ∧ u + 5000000000 < s.dev.now)
    ∧ (∃ (u : Nanos) (s : State), s.dev.safety.resetHigh = some u ∧ s.dev.now ≤ u + 5000000000 ∧ s.dev.forced 0x0C04 (Cfg.resetSi s.dev.scfg) = false)
    ∧ (∃ (cond : Bool) (manual : Bool) (reset : Bool) (x : InputFn), (x.judge cond manual reset).waitReset)
    ∧ (∃ (now : Nanos) (a b ra rb latched : Bool) (x : InputFn), x.demand = true ∧ (twoHand now a b ra rb latched x).demand = false)
    ∧ (∃ (now : Nanos) (a : Bool) (b : Bool) (ra : Bool) (rb : Bool) (latched : Bool) (x : InputFn), x.demand = false ∧ (twoHand now a b ra rb latched x).demand = false) :=
  ⟨⟨15, true, st (dv .run), by decide +kernel⟩,
   ⟨15, st (scfg [(0x700002, 15)] (dv .run)), by decide +kernel⟩,
   ⟨0, 5, st (sf (fun x => { x with resetHigh := some 5, inputs := [{ level := true }] }) (scfg [(0x700002, 0)] (dv .run))), by decide +kernel⟩,
   ⟨15, false, st (dv .run), by decide +kernel⟩,
   ⟨0, st (scfg [(0x700002, 15)] (dv .run)), by decide +kernel⟩,
   ⟨7, st (dv .run), by decide +kernel⟩,
   ⟨0, 0, st (tm (sec 100) (scfg [] (sf (fun x => { x with fns := [{ discSince := some 0 }] }) (dv .run)))), by decide +kernel⟩,
   ⟨15, st (dv .run), by decide +kernel⟩,
   ⟨0, 0, st (tm (ms 500) (scfg [] (sf (fun x => { x with fns := [{ firstHand := some 0 }] }) (dv .run)))), by decide +kernel⟩,
   ⟨15, st (dv .run), by decide +kernel⟩,
   ⟨0, st (tm (sec 6) (scfg [] (sf (fun x => { x with resetHigh := some 0 }) (dv .run)))), by decide +kernel⟩,
   ⟨5, st (sf (fun x => { x with resetHigh := some 5, inputs := [{ level := true }] }) (scfg [(0x700002, 0)] (dv .run))), by decide +kernel⟩,
   ⟨true, true, false, { waitReset := true }, by decide +kernel⟩,
   ⟨0, true, true, false, false, false, { handsReady := true }, by decide⟩,
   ⟨5, true, true, true, false, false, { demand := false }, by decide +kernel⟩⟩

theorem witness_DriveFunctions :
    (∃ (s : State), s.dev.ctl.state ≠ .off ∧ s.dev.scAlive ∧ s.dev.cycleDue)
    ∧ (∃ (s : State), (s.dev.scAlive = false ∨ s.dev.now % 500000 ≠ 0))
    ∧ (∃ (p : PortId) (s : State), s.dev.scAlive ∧ lasted s.dev.now (s.dev.psafe p).xchkSince (ms (Cfg.safeXchkT s.dev.scfg p.num)))
    ∧ (∃ (p : PortId) (s : State), (s.dev.psafe p).xchkSince = none)
    ∧ (∃ (p : PortId) (s : State), s.dev.scAlive ∧ (s.dev.psafe p).ss1 ∧ (s.dev.psafe p).sto = false ∧ s.dev.ss1Wanted p ∧ Cfg.safeSpeedSrc s.dev.scfg p.num ≠ 0 ∧ lasted s.dev.now (s.dev.psafe p).slowSince 10000000)
    ∧ (∃ (p : PortId) (s : State), (Cfg.safeSpeedSrc s.dev.scfg p.num = 0 ∨ (s.dev.psafe p).slowSince = none))
    ∧ (∃ (p : PortId) (s : State), s.dev.scAlive ∧ (s.dev.psafe p).ss1 ∧ (s.dev.psafe p).sto = false ∧ s.dev.ss1Wanted p ∧ lasted s.dev.now (s.dev.psafe p).ss1Start (ms (Cfg.ss1Time s.dev.scfg p.num)))
    ∧ (∃ (p : PortId) (s : State), (s.dev.psafe p).ss1 = false)
    ∧ (∃ (p : PortId) (s : State), s.dev.scAlive ∧ (s.dev.psafe p).sto ∧ lasted s.dev.now (s.dev.psafe p).stoSince 10000000 ∧ s.dev.gateStillOn p)
    ∧ (∃ (p : PortId) (s : State), s.dev.gateStillOn p = false)
    ∧ (∃ (p : PortId) (n : Nat) (s : State), s.dev.brakeOut p = some n ∧ (s.dev.psafe p).sto ∧ lasted s.dev.now (s.dev.psafe p).stoSince (ms (Cfg.sbcDelay s.dev.scfg p.num)))
    ∧ (∃ (p : PortId) (s : State), ((s.dev.psafe p).sto = false ∨ s.dev.brakeOut p = none))
    ∧ (∃ (p : PortId) (s : State), (s.dev.psafe p).sbcWait ∧ lasted s.dev.now (s.dev.psafe p).sbcOnAt (ms (Cfg.sbcReleaseT s.dev.scfg p.num)))
    ∧ (∃ (p : PortId) (s : State), (s.dev.psafe p).sbcWait = false)
    ∧ (∃ (n : Fin 4) (s : State), s.dev.scAlive ∧ n < s.dev.safety.outs.length)
    ∧ (∃ (s : State), s.dev.scAlive = false)
    ∧ (∃ (n : Fin 4) (ret : Bool) (s : State), s.dev.scAlive ∧ (s.dev.sout n).on ∧ Cfg.soPulse s.dev.scfg n ∧ s.dev.offPulseDue n ret)
    ∧ (∃ (n : Fin 4) (ret : Bool) (s : State), s.dev.scAlive ∧ (s.dev.sout n).on ∧ Cfg.soPulse s.dev.scfg n ∧ s.dev.offPulseDue n ret ∧ n < s.dev.safety.outs.length)
    ∧ (∃ (n : Fin 4) (ret : Bool) (s : State), ((s.dev.sout n).on = false ∨ s.dev.offPulseDue n ret = false))
    ∧ (∃ (s : State), s.dev.ctl.state ≠ .off)
    ∧ (∃ (s : State), s.dev.ctl.state ≠ .off ∧ s.dev.ctl.state ≠ .fault ∧ s.dev.active .scWdog = false) :=
  ⟨⟨st (scfg [] (dv .run)), by decide +kernel⟩,
   ⟨st (sf (fun x => { x with sc := .fail }) (dv .run)), by decide +kernel⟩,
   ⟨.a, st (tm (sec 100) (scfg [] (psf .a (fun x => { x with xchkSince := some 0 }) (dv .run)))), by decide +kernel⟩,
   ⟨.a, st (scfg [] (dv .run)), by decide +kernel⟩,
   ⟨.a, st (tm (ms 10) (ss1On (fun x => { x with slowSince := some 0 }))), by decide +kernel⟩,
   ⟨.a, st (scfg [] (dv .run)), by decide +kernel⟩,
   ⟨.a, st (tm (sec 100) (ss1On (fun x => { x with ss1Start := some 0 }))), by decide +kernel⟩,
   ⟨.a, st (scfg [] (dv .run)), by decide +kernel⟩,
   ⟨.a, st (inj 0x0C03 0 0 (scfg [] (psf .a (fun x => { x with stoSince := some 0 }) (dv .run))) |> tm (ms 10)), by decide +kernel⟩,
   ⟨.a, st (scfg [] (dv .run)), by decide +kernel⟩,
   ⟨.a, 0, st (scfg [(0x704001, 1)] (sf (fun x => { x with outs := [{ on := true }] }) (dv .run))), by decide +kernel⟩,
   ⟨.a, st (scfg [] (dv .run)), by decide +kernel⟩,
   ⟨.a, st (tm (sec 100) (scfg [] (psf .a (fun x => { x with sbcWait := true, sbcOnAt := some 0 }) (dv .run)))), by decide +kernel⟩,
   ⟨.a, st (scfg [] (dv .run)), by decide +kernel⟩,
   ⟨3, st (scfg [] (dv .run)), by decide +kernel⟩,
   ⟨st (sf (fun x => { x with sc := .fail }) (dv .run)), by decide +kernel⟩,
   ⟨0, false, st (tm (sec 2) (scfg [(0x706002, 1)] (sf (fun x => { x with outs := List.replicate 4 { on := true } }) (dv .run)))), by decide +kernel⟩,
   ⟨0, false, st (tm (sec 2) (scfg [(0x706002, 1)] (sf (fun x => { x with outs := List.replicate 4 { on := true } }) (dv .run)))), by decide +kernel⟩,
   ⟨3, true, st (scfg [] (dv .run)), by decide +kernel⟩,
   ⟨st (scfg [] (dv .run)), by decide +kernel⟩,
   ⟨st (scfg [] (dv .run)), by decide +kernel⟩⟩

theorem witness_DoridFrameRoundTrip :
    (∃ (d : Device) (c : Nat) (seq : Nat) (stamp : Nat) (l : List Byte), l.length = Cfg.dcLen d.scfg c ∧ Cfg.dcConnId d.scfg c < 2 ^ 32 ∧ seq < 2 ^ 16 ∧ ((d.conn c).state = .starting ∨ (1 ≤ (seq + 65536 - (d.conn c).seq) % 65536 ∧ (seq + 65536 - (d.conn c).seq) % 65536 ≤ 32767)) ∧ -(ageAllowance d.scfg : Int) ≤ d.ageOf stamp ∧ d.ageOf stamp ≤ Cfg.dcTe d.scfg c * 10 ∧ d.forced 0x0D01 c = false ∧ (let frame := doridFrame (Cfg.dcConnId d.scfg c) seq stamp l; (Cfg.dcPort d.scfg c = 1 ∨ (Cfg.dcPort d.scfg c = 0 ∧ Cfg.canaFormat d.cfg ≠ 1)) ∧ Cfg.dcLen d.scfg c ≤ 52)) :=
  ⟨{ dv .run with dorid := [{ state := .starting }] }, 0, 0, 0, List.replicate 8 0, by decide +kernel⟩

theorem witness_DoridConnections :
    (∃ (c : Fin 256) (s : State), s.dev.ctl.state ≠ .off ∧ s.dev.scAlive ∧ c ≠ 255 ∧ s.dev.produces c ∧ (s.dev.conn c).sends s.dev.now (ms (Cfg.dcPeriod s.dev.scfg c)) s.dev.safetyPayload ∧ c < s.dev.dorid.length)
    ∧ (∃ (s : State), s.dev.ctl.state ≠ .off ∧ s.dev.scAlive ∧ (s.dev.conn 255).sends s.dev.now 100000000 s.dev.comm.payload)
    ∧ (∃ (c : Fin 256) (s : State), c ≠ 255 ∧ (s.dev.produces c = false ∨ (s.dev.conn c).sends s.dev.now (ms (Cfg.dcPeriod s.dev.scfg c)) s.dev.safetyPayload = false))
    ∧ (∃ (p : Fin 5) (net : W32) (l : List Byte) (s : State), s.dev.ctl.state ≠ .off ∧ s.dev.scAlive ∧ s.dev.portHears p ∧ s.dev.consumerOf p net.toNat l = none)
    ∧ (∃ (p : Fin 5) (s : State), (s.dev.portHears p = false ∨ s.dev.scAlive = false))
    ∧ (∃ (p : Fin 5) (net : W32) (c : Nat) (l : List Byte) (m : List Byte) (seq : Nat) (age : Int) (s : State), s.dev.ctl.state ≠ .off ∧ s.dev.scAlive ∧ s.dev.portHears p ∧ s.dev.consumerOf p net.toNat l = some c ∧ (s.dev.conn c).state = .run ∧ s.dev.comm.timeLost = false ∧ s.dev.doridCheck c l = .ok (seq, age, m))
    ∧ (∃ (p : Fin 5) (net : W32) (c : Nat) (l : List Byte) (m : List Byte) (seq : Nat) (age : Int) (s : State), s.dev.ctl.state ≠ .off ∧ s.dev.scAlive ∧ s.dev.portHears p ∧ s.dev.consumerOf p net.toNat l = some c ∧ ((s.dev.conn c).state = .expired ∧ ((s.dev.conn c).oneGood = false ∨ (s.dev.conn c).holdFrom ≠ none) ∨ s.dev.comm.timeLost) ∧ s.dev.doridCheck c l = .ok (seq, age, m))
    ∧ (∃ (p : Fin 5) (net : W32) (c : Nat) (l : List Byte) (m : List Byte) (seq : Nat) (age : Int) (s : State), s.dev.ctl.state ≠ .off ∧ s.dev.scAlive ∧ s.dev.portHears p ∧ s.dev.consumerOf p net.toNat l = some c ∧ (s.dev.conn c).state = .expired ∧ (s.dev.conn c).oneGood ∧ (s.dev.conn c).holdFrom = none ∧ s.dev.comm.timeLost = false ∧ c < s.dev.dorid.length ∧ s.dev.doridCheck c l = .ok (seq, age, m))
    ∧ (∃ (p : Fin 5) (net : W32) (c : Nat) (l : List Byte) (s : State), s.dev.ctl.state ≠ .off ∧ s.dev.scAlive ∧ s.dev.portHears p ∧ s.dev.consumerOf p net.toNat l = some c ∧ c < s.dev.dorid.length ∧ s.dev.doridCheck c l = .error .crc ∧ (s.dev.conn c).discards.length < 10)
    ∧ (∃ (p : Fin 5) (net : W32) (c : Nat) (l : List Byte) (e : DoridError) (s : State), s.dev.ctl.state ≠ .off ∧ s.dev.scAlive ∧ s.dev.portHears p ∧ s.dev.consumerOf p net.toNat l = some c ∧ c < s.dev.dorid.length ∧ s.dev.doridCheck c l = .error e ∧ (s.dev.conn c).errrate = false ∧ 10 ≤ ((s.dev.conn c).discards.filter fun t => decide (s.dev.now < t + sec 1)).length)
    ∧ (∃ (c : Fin 256) (u : Nanos) (s : State), s.dev.consumes c ∧ (s.dev.conn c).state = .run ∧ (s.dev.conn c).deadline = some u ∧ u ≤ s.dev.now ∧ c < s.dev.dorid.length)
    ∧ (∃ (c : Fin 256) (s : State), (s.dev.conn c).state ≠ .run)
    ∧ (∃ (c : Fin 256) (u : Nanos) (s : State), (s.dev.conn c).holdFrom = some u ∧ u + 1000000000 ≤ s.dev.now)
    ∧ (∃ (c : Fin 256) (s : State), (s.dev.conn c).holdFrom = none)
    ∧ (∃ (s : State), s.dev.ctl.state ≠ .off ∧ s.dev.scAlive ∧ s.dev.noReference)
    ∧ (∃ (s : State), s.dev.noReference = false) :=
  ⟨⟨254, st (scfg [(0x71fe01, 2)] (dv .run)), by decide +kernel⟩,
   ⟨st (scfg [(0x71fe01, 2)] (dv .run)), by decide +kernel⟩,
   ⟨254, st (scfg [] (dv .run)), by decide +kernel⟩,
   ⟨0, 0, [], st (scfg [] (cans (dv .run))), by decide +kernel⟩,
   ⟨0, st (scfg [(0x71fe01, 2)] (dv .run)), by decide +kernel⟩,
   ⟨0, 0, 0, dorFrame, List.replicate 8 0, 1, 0, st (hears .run), by decide +kernel⟩,
   ⟨0, 0, 0, dorFrame, List.replicate 8 0, 1, 0, st (hears .expired), by decide +kernel⟩,
   ⟨0, 0, 0, dorFrame, List.replicate 8 0, 1, 0, st { hears .run with dorid := List.replicate 256 { state := .expired, oneGood := true } }, by decide +kernel⟩,
   ⟨0, 0, 0, [], st (hears .run), by decide +kernel⟩,
   ⟨0, 0, 0, [], .crc, st { hears .run with dorid := List.replicate 256 { state := .run, discards := List.replicate 10 0 } }, by decide +kernel⟩,
   ⟨0, 0, st { hears .run with dorid := List.replicate 256 { state := .run, deadline := some 0 } }, by decide +kernel⟩,
   ⟨254, st (scfg [(0x71fe01, 2)] (dv .run)), by decide +kernel⟩,
   ⟨0, 0, st (tm (sec 1) { hears .run with dorid := List.replicate 256 { state := .run, holdFrom := some 0 } }), by decide +kernel⟩,
   ⟨254, st (scfg [(0x71fe01, 2)] (dv .run)), by decide +kernel⟩,
   ⟨st (tm (sec 600) (scfg [] (dv .run))), by decide +kernel⟩,
   ⟨st (scfg [(0x71fe01, 2)] (dv .run)), by decide +kernel⟩⟩

theorem witness_CommissioningRequests :
    (∃ (q : Path) (s : State), s.dev.comm.conn = none ∧ q ≠ .canc ∧ s.dev.levelOpen q .e ∧ s.dev.ctl.state.commissions)
    ∧ (∃ (q : Path) (s : State), (s.dev.comm.conn ≠ none ∨ q = .canc ∨ s.dev.levelOpen q .e = false))
    ∧ (∃ (s : State), s.dev.comm.conn = none)
    ∧ (∃ (u : Nanos) (s : State), s.dev.comm.conn ≠ none ∧ (s.dev.conn 254).deadline = some u ∧ u ≤ s.dev.now)
    ∧ (∃ (xact : BitVec 8) (q : Path) (tool : Nat) (s : State), s.dev.commTakes q tool xact.toNat)
    ∧ (∃ (xact : BitVec 8) (q : Path) (tool : Nat) (s : State), s.dev.comm.conn = some (q, tool) ∧ s.dev.ctl.state.commissions ∧ s.dev.levelOpen q .e ∧ s.dev.comm.trans = some xact.toNat)
    ∧ (∃ (xact : BitVec 8) (q : Path) (tool : Nat) (s : State), s.dev.commTakes q tool xact.toNat ∧ s.dev.ctl.state ≠ .standby)
    ∧ (∃ (xact : BitVec 8) (ix : BitVec 16) (sub : BitVec 8) (l : List Byte) (q : Path) (tool : Nat) (r : ObjRow) (j : Nat) (k : Nat) (s : State), s.dev.commTakes q tool xact.toNat ∧ s.dev.ctl.state = .standby ∧ s.dev.comm.hasShadow ∧ objFind ix.toNat sub.toNat objTable = some (r, j, k) ∧ commObject ix.toNat sub.toNat ∧ r.acc = .rws ∧ l.length = r.ty.size ∧ r.inRange (leNat l) ∧ ix ≠ 0x2000)
    ∧ (∃ (xact : BitVec 8) (ix : BitVec 16) (sub : BitVec 8) (q : Path) (tool : Nat) (r : ObjRow) (j : Nat) (k : Nat) (s : State), s.dev.commTakes q tool xact.toNat ∧ s.dev.ctl.state = .standby ∧ s.dev.comm.hasShadow ∧ objFind ix.toNat sub.toNat objTable = some (r, j, k) ∧ commObject ix.toNat sub.toNat)
    ∧ (∃ (xact : BitVec 8) (q : Path) (tool : Nat) (s : State), s.dev.commTakes q tool xact.toNat ∧ s.dev.ctl.state = .standby ∧ s.dev.comm.hasShadow ∧ (commAlive (touchPath q s.dev)).shadowRule = 0)
    ∧ (∃ (xact : BitVec 8) (q : Path) (tool : Nat) (v : W32) (s : State), s.dev.commTakes q tool xact.toNat ∧ s.dev.ctl.state = .standby ∧ s.dev.comm.state = .checked ∧ v ≠ s.dev.comm.shadowCheck)
    ∧ (∃ (xact : BitVec 8) (q : Path) (tool : Nat) (g : Nat) (s : State), s.dev.commTakes q tool xact.toNat ∧ s.dev.ctl.state = .standby ∧ s.dev.comm.state = .checked ∧ s.otp.nextGen = some g ∧ s.otp.fusesOk ∧ s.otp.keysOk)
    ∧ (∃ (xact : BitVec 8) (q : Path) (tool : Nat) (s : State), s.dev.commTakes q tool xact.toNat ∧ s.dev.ctl.state = .standby) :=
  ⟨⟨host, st (dv .standby), by decide +kernel⟩,
   ⟨host, st (cm (fun x => { x with conn := some (host, 7) }) (dv .run)), by decide +kernel⟩,
   ⟨st (dv .standby), by decide +kernel⟩,
   ⟨0, st (cm (fun x => { x with conn := some (host, 7) }) { dv .run with dorid := List.replicate 256 { deadline := some 0 } }), by decide +kernel⟩,
   ⟨1, host, 7, st (cm (fun x => { x with conn := some (host, 7) }) (dv .run)), by decide +kernel⟩,
   ⟨9, host, 7, st (cm (fun x => { x with trans := some 9 }) (tool (dv .run))), by decide +kernel⟩,
   ⟨1, host, 7, st (cm (fun x => { x with conn := some (host, 7) }) (dv .run)), by decide +kernel⟩,
   ⟨1, 0x7000, 1, [20, 0], host, 7, (objRow 0x7000 1).1, (objRow 0x7000 1).2.1, (objRow 0x7000 1).2.2, st ((tool (dv .standby))), by decide +kernel⟩,
   ⟨1, 0x7000, 1, host, 7, (objRow 0x7000 1).1, (objRow 0x7000 1).2.1, (objRow 0x7000 1).2.2, st ((tool (dv .standby))), by decide +kernel⟩,
   ⟨1, host, 7, st (tool (dv .standby)), by decide +kernel, by decide +kernel, by decide +kernel, shadow_rule⟩,
   ⟨1, host, 7, 1, st (cm (fun x => { x with state := .checked }) (tool (dv .standby))), by decide +kernel⟩,
   ⟨1, host, 7, 1, st (cm (fun x => { x with state := .checked }) (tool (dv .standby))), by decide +kernel⟩,
   ⟨1, host, 7, st (tool (dv .standby)), by decide +kernel⟩⟩

theorem witness_BurnAndProofTest :
    (∃ (img : Settings) (g : Nat) (pp : Nat) (tool : Nat) (s : State), s.dev.comm.burning = some (img, g, pp, tool) ∧ s.dev.scAlive ∧ s.dev.boot.fwStarted ∧ 1 ≤ g ∧ g ≤ s.otp.records.length)
    ∧ (∃ (s : State), s.dev.comm.burning = none)
    ∧ (∃ (xact : BitVec 8) (q : Path) (tool : Nat) (s : State), s.dev.commTakes q tool xact.toNat ∧ (s.dev.ctl.state = .ready ∨ s.dev.ctl.state = .run) ∧ s.dev.ctl.serviceNLow ∧ s.dev.comm.state ≠ .proof)
    ∧ (∃ (xact : BitVec 8) (q : Path) (tool : Nat) (s : State), s.dev.commTakes q tool xact.toNat ∧ s.dev.ctl.serviceNLow = false)
    ∧ (∃ (xact : BitVec 8) (q : Path) (tool : Nat) (s : State), s.dev.commTakes q tool xact.toNat ∧ s.dev.comm.state = .proof)
    ∧ (∃ (s : State), s.dev.comm.state = .proof ∧ s.dev.comm.proofStart + sec (Cfg.proofT s.dev.scfg) ≤ s.dev.now)
    ∧ (∃ (s : State), (s.dev.comm.state ≠ .proof ∨ s.dev.now < s.dev.comm.proofStart + sec (Cfg.proofT s.dev.scfg))) :=
  ⟨⟨[(0x700002, 3)], 8, 1, 7, st (scfg [] (bo (fun x => { x with fwStarted := true }) (cm (fun x => { x with burning := some ([(0x700002, 3)], 8, 1, 7) }) (dv .standby)))), by decide +kernel⟩,
   ⟨st (dv .run), by decide +kernel⟩,
   ⟨1, host, 7, st (tool (dv .run)), by decide +kernel⟩,
   ⟨1, host, 7, st (ct (fun c => { c with serviceNLow := false }) (tool (dv .run))), by decide +kernel⟩,
   ⟨1, host, 7, st (cm (fun x => { x with state := .proof }) (tool (dv .run))), by decide +kernel⟩,
   ⟨st (tm (sec 600) (cm (fun x => { x with state := .proof }) (scfg [] (dv .run)))), by decide +kernel⟩,
   ⟨st (scfg [] (bo (fun x => { x with fwStarted := true }) (cm (fun x => { x with burning := some ([(0x700002, 3)], 8, 1, 7) }) (dv .standby)))), by decide +kernel⟩⟩

theorem witness_QueuesAndCan :
    (∃ (c : Fin 14) (s : State), s.dev.ctl.state ≠ .off ∧ Cfg.txqPort s.dev.cfg (s.dev.classQueue c) ≠ 0xFF ∧ (s.dev.net.txq.getD (s.dev.classQueue c) {}).frames.length < 64)
    ∧ (∃ (c : Fin 14) (s : State), s.dev.ctl.state ≠ .off ∧ Cfg.txqPort s.dev.cfg (s.dev.classQueue c) ≠ 0xFF ∧ 64 ≤ (s.dev.net.txq.getD (s.dev.classQueue c) {}).frames.length ∧ cyclicClass c)
    ∧ (∃ (d : Device), (∀ x ∈ d.net.txq, x.frames.length ≤ 64))
    ∧ (∃ (q : Fin 16) (f : TxFrame) (rest : List TxFrame) (s : State), (s.dev.net.txq.getD q {}).frames = f :: rest ∧ s.dev.headWins q ∧ s.dev.canSend (Cfg.txqPort s.dev.cfg q) ∧ s.dev.net.waiting = [])
    ∧ (∃ (q : Fin 16) (s : State), ((s.dev.net.txq.getD q {}).frames = [] ∨ s.dev.canSend (Cfg.txqPort s.dev.cfg q) = false ∨ s.dev.headWins q = false))
    ∧ (∃ (d : Device) (q : Nat) (f : TxFrame) (rest : List TxFrame), (d.net.txq.getD q {}).frames = f :: rest)
    ∧ (∃ (p : CanPort) (f : CanFrame) (r : Nat) (fw : Bool) (s : State), s.dev.canSend p.num ∧ frameCarried f p ∧ (f.xl = false ∨ f.data.length ≤ 64) ∧ s.dev.rxMatch p f = some (r, fw))
    ∧ (∃ (p : CanPort) (f : CanFrame) (s : State), s.dev.canSend p.num ∧ frameCarried f p ∧ (f.xl = false ∨ f.data.length ≤ 64) ∧ s.dev.rxMatch p f = none ∧ (p ≠ .canC ∨ s.dev.isoService f.ident = false))
    ∧ (∃ (p : CanPort) (f : CanFrame) (s : State), s.dev.canSend p.num ∧ frameCarried f p ∧ f.xl ∧ 64 < f.data.length)
    ∧ (∃ (p : CanPort) (f : CanFrame) (s : State), (s.dev.canSend p.num = false ∨ frameCarried f p = false))
    ∧ (∃ (q : Path) (s : State), s.dev.takes q .b true)
    ∧ (∃ (p : CanPort) (tec : Nat) (s : State), (s.dev.canPort p).conf ≤ 1 ∧ 256 ≤ tec)
    ∧ (∃ (p : CanPort) (tec : Nat) (rec : Nat) (s : State), (s.dev.canPort p).conf ≤ 1 ∧ tec < 128 ∧ rec < 128)
    ∧ (∃ (p : CanPort) (s : State), 1 < (s.dev.canPort p).conf)
    ∧ (∃ (q : Path) (s : State), s.dev.takes q .e false ∧ (∀ k : Nat, k < 3 → (s.dev.cross.blocks.getD k {}).absent = false ∧ (s.dev.cross.xing.getD (k + 1) {}).phase ≠ .holding))
    ∧ (∃ (q : Path) (m : BitVec 8) (s : State), s.dev.takes q .e false ∧ m.toNat.testBit 1 ∧ (s.dev.cross.blocks.getD 1 {}).absent)
    ∧ (∃ (p : CanPort) (s : State), (s.dev.canPort p).conf = 2 ∧ p ≠ .canC ∧ (Cfg.busoffMode s.dev.cfg = 0 ∨ (s.dev.canPort p).recovering))
    ∧ (∃ (p : CanPort) (s : State), (s.dev.canPort p).conf ≠ 2)
    ∧ (∃ (p : CanPort) (s : State), (s.dev.canPort p).conf ≠ 3 ∧ due s.dev.now (s.dev.canPort p).loadAt 100000000 ∧ s.dev.forced 0x0E01 (canScope p).number = false)
    ∧ (∃ (p : CanPort) (s : State), ((s.dev.canPort p).conf = 3 ∨ due s.dev.now (s.dev.canPort p).loadAt 100000000 = false)) :=
  ⟨⟨13, st (dv .run), by decide +kernel⟩,
   ⟨1, st (nt (fun n => { n with txq := n.txq.set 1 { frames := List.replicate 64 { cls := 1 } } }) (dv .run)), by decide +kernel⟩,
   ⟨dv .run, by decide +kernel⟩,
   ⟨0, { cls := 0 }, [], st (nt (fun n => { n with txq := [{ frames := [{ cls := 0 }] }] }) (cans (dv .run))), by decide +kernel⟩,
   ⟨0, st (dv .run), by decide +kernel⟩,
   ⟨nt (fun n => { n with txq := [{ frames := [{ cls := 0 }] }] }) (dv .run), 0, { cls := 0 }, [], by decide +kernel⟩,
   ⟨.canA, { ident := 5, data := [1] }, 0, false, st (cfg [(0x3e1001, 5)] (cans (dv .run))), by decide +kernel⟩,
   ⟨.canA, { ident := 5, data := [1] }, st (nt (fun n => { n with txq := [{ frames := [{ cls := 0 }] }] }) (cans (dv .run))), by decide +kernel⟩,
   ⟨.canA, { ident := 0, data := List.replicate 65 0, xl := true }, st (cans (dv .run)), by decide +kernel⟩,
   ⟨.canA, { ident := 5, data := [1] }, st (dv .run), by decide +kernel⟩,
   ⟨host, st (dv .run), by decide +kernel⟩,
   ⟨.canA, 256, st (nt (fun n => { n with txq := [{ frames := [{ cls := 0 }] }] }) (cans (dv .run))), by decide +kernel⟩,
   ⟨.canA, 0, 0, st (nt (fun n => { n with txq := [{ frames := [{ cls := 0 }] }] }) (cans (dv .run))), by decide +kernel⟩,
   ⟨.canA, st (dv .run), by decide +kernel⟩,
   ⟨host, st (dv .run), by decide +kernel⟩,
   ⟨host, 2, st (cr (fun x => { x with blocks := List.replicate 76 { absent := true } }) (dv .run)), by decide +kernel⟩,
   ⟨.canB, st (nt (fun n => { n with canB := { conf := 2 } }) (dv .run)), by decide +kernel⟩,
   ⟨.canA, st (dv .run), by decide +kernel⟩,
   ⟨.canA, st (nt (fun n => { n with txq := [{ frames := [{ cls := 0 }] }] }) (cans (dv .run))), by decide +kernel⟩,
   ⟨.canA, st (dv .run), by decide +kernel⟩⟩

theorem witness_NetworkServices :
    (∃ (s : State), s.dev.canSend 2)
    ∧ (∃ (s : State), s.dev.canSend 2 = false)
    ∧ (∃ (a : BitVec 8) (name : BitVec 64) (s : State), s.dev.canSend 2 ∧ s.dev.net.isoAddr = some a.toNat ∧ a ≠ 254 ∧ name.toNat < s.dev.isoName)
    ∧ (∃ (a : BitVec 8) (name : BitVec 64) (s : State), s.dev.canSend 2 ∧ s.dev.net.isoAddr = some a.toNat ∧ a ≠ 254 ∧ s.dev.isoName ≤ name.toNat)
    ∧ (∃ (a : BitVec 8) (s : State), s.dev.canSend 2 ∧ s.dev.net.isoAddr ≠ some a.toNat ∧ a.toNat ∉ s.dev.net.isoTaken)
    ∧ (∃ (a : Nat) (b : Nat) (l : List Nat), nextFree a l = some b)
    ∧ (∃ (item : BitVec 8) (w : Bool) (v : Nat) (s : State), s.dev.isoReady ∧ s.dev.busyOn .canc = false ∧ isoItem s item.toNat = some (w, v))
    ∧ (∃ (s : State), s.dev.isoReady = false)
    ∧ (∃ (item : BitVec 8) (s : State), s.dev.isoReady ∧ s.dev.busyOn .canc = false ∧ item.toNat = 0)
    ∧ (∃ (v : W32) (r : Nat) (s : State), s.dev.isoReady ∧ s.dev.busyOn .canc = false ∧ s.dev.ctl.state ≠ .fault ∧ isoItem s 9 = some (true, r) ∧ (cmdSpeedInput .a v.toNat s.dev).1 = Abort.ok)
    ∧ (∃ (b : Bool) (cmd : BitVec 8) (node : BitVec 8) (s : State), s.dev.canSend (canOf b).num ∧ (node = 0 ∨ node.toNat = Cfg.canopenId s.dev.cfg (if b then 1 else 0)) ∧ cmd = 1)
    ∧ (∃ (b : Bool) (cmd : BitVec 8) (node : BitVec 8) (s : State), s.dev.canSend (canOf b).num ∧ (node = 0 ∨ node.toNat = Cfg.canopenId s.dev.cfg (if b then 1 else 0)) ∧ cmd = 2)
    ∧ (∃ (b : Bool) (cmd : BitVec 8) (node : BitVec 8) (s : State), s.dev.canSend (canOf b).num ∧ (node = 0 ∨ node.toNat = Cfg.canopenId s.dev.cfg (if b then 1 else 0)) ∧ cmd = 128)
    ∧ (∃ (b : Bool) (node : BitVec 8) (s : State), node ≠ 0 ∧ node.toNat ≠ Cfg.canopenId s.dev.cfg (if b then 1 else 0))
    ∧ (∃ (b : Bool) (s : State), Cfg.hbProducer s.dev.cfg (if b then 1 else 0) ≠ 0 ∧ (s.dev.canPort (canOf b)).conf ≠ 3 ∧ due s.dev.now (s.dev.canPort (canOf b)).hbAt (ms (Cfg.hbProducer s.dev.cfg (if b then 1 else 0))))
    ∧ (∃ (b : Bool) (s : State), Cfg.hbProducer s.dev.cfg (if b then 1 else 0) = 0)
    ∧ (∃ (k : Fin 16) (s : State), s.dev.ctl.state ≠ .off ∧ Cfg.hbConsumer s.dev.cfg k % 65536 ≠ 0 ∧ s.dev.heartbeatOver k ∧ (let e : Bool × Nat := ((Cfg.hbConsumer s.dev.cfg k).testBit 31, Cfg.hbConsumer s.dev.cfg k / 65536 % 256); e ∉ s.dev.net.hbLost))
    ∧ (∃ (k : Fin 16) (s : State), s.dev.ctl.state ≠ .off ∧ Cfg.hbConsumer s.dev.cfg k % 65536 ≠ 0 ∧ s.dev.heartbeatOver k ∧ (let e : Bool × Nat := ((Cfg.hbConsumer s.dev.cfg k).testBit 31, Cfg.hbConsumer s.dev.cfg k / 65536 % 256); e ∈ s.dev.net.hbLost))
    ∧ (∃ (k : Fin 16) (s : State), s.dev.heartbeatOver k = false)
    ∧ (∃ (j : Fin 32) (l : List Byte) (s : State), s.dev.pdoRuns j (Cfg.rpdoComm s.dev.cfg j 0) ∧ l.length < ((mapEntries (Cfg.rpdoMap s.dev.cfg j)).map fun e => e.2.2).sum)
    ∧ (∃ (j : Fin 32) (l : List Byte) (ix : Nat) (sub : Nat) (n : Nat) (s : State), s.dev.pdoRuns j (Cfg.rpdoComm s.dev.cfg j 0) ∧ mapEntries (Cfg.rpdoMap s.dev.cfg j) = [(ix, sub, n)] ∧ n ≤ l.length)
    ∧ (∃ (j : Fin 32) (ix : Nat) (sub : Nat) (n : Nat) (s : State), s.dev.pdoRuns j (Cfg.tpdoComm s.dev.cfg j 0) ∧ mapEntries (Cfg.tpdoMap s.dev.cfg j) = [(ix, sub, n)])
    ∧ (∃ (j : Fin 32) (s : State), s.dev.pdoRuns j (Cfg.tpdoComm s.dev.cfg j 0) = false)
    ∧ (∃ (j : Fin 32) (s : State), s.dev.pdoRuns j (Cfg.rpdoComm s.dev.cfg j 0) = false)
    ∧ (∃ (vid : BitVec 12) (ip : BitVec 32) (s : State), s.dev.eth1Hears vid ∧ ip.toNat = Cfg.eth1Ip s.dev.cfg)
    ∧ (∃ (h : UdpHead) (s : State), s.dev.eth1Hears h.vid ∧ h.fragment = false ∧ h.dest.toNat = Cfg.eth1Ip s.dev.cfg)
    ∧ (∃ (vid : BitVec 12) (ip : BitVec 32) (s : State), (s.dev.eth1Hears vid = false ∨ ip.toNat ≠ Cfg.eth1Ip s.dev.cfg))
    ∧ (∃ (h : UdpHead) (s : State), (s.dev.eth1Hears h.vid = false ∨ h.fragment ∨ h.dest.toNat ≠ Cfg.eth1Ip s.dev.cfg))
    ∧ (∃ (s : State), s.dev.ctl.state ≠ .off)
    ∧ (∃ (s : State), s.dev.ctl.state ≠ .off ∧ s.dev.boot.fwStarted) :=
  ⟨⟨st (cans (dv .run)), by decide +kernel⟩,
   ⟨st (dv .run), by decide +kernel⟩,
   ⟨128, 0, st (cans (dv .run)), by decide +kernel, by decide +kernel, by decide, isoName_bounds.1⟩,
   ⟨128, 0xFFFFFFFFFFFFFFFF, st (cans (dv .run)), by decide +kernel, by decide +kernel, by decide, isoName_bounds.2⟩,
   ⟨9, st (cans (dv .run)), by decide +kernel⟩,
   ⟨128, 129, [], by decide +kernel⟩,
   ⟨9, true, 0, st (cans (dv .run)), by decide +kernel⟩,
   ⟨st (dv .run), by decide +kernel⟩,
   ⟨0, st (cans (dv .run)), by decide +kernel⟩,
   ⟨0x3f800000, 0, st (cans (dv .run)), by decide +kernel⟩,
   ⟨true, 1, 0, st (cans (dv .run)), by decide +kernel⟩,
   ⟨false, 2, 0, st (cans (dv .run)), by decide +kernel⟩,
   ⟨false, 128, 0, st (cans (dv .run)), by decide +kernel⟩,
   ⟨true, 9, st (cans (dv .run)), by decide +kernel⟩,
   ⟨true, st (cans (dv .run)), by decide +kernel⟩,
   ⟨false, st (cfg [(0x101701, 0)] (dv .run)), by decide +kernel⟩,
   ⟨0, st (tm (sec 4) (cfg [(0x101601, 0x500001)] (dv .run))), by decide +kernel⟩,
   ⟨0, st (tm (sec 4) (cfg [(0x101601, 0x500001)] (nt (fun n => { n with hbLost := [(false, 0x50)] }) (dv .run)))), by decide +kernel⟩,
   ⟨15, st (cfg [(0x101610, 0x800503e8)] (dv .run)), by decide +kernel⟩,
   ⟨0, [], st (pdos (dv .run)), by decide +kernel⟩,
   ⟨0, [5], 0x6110, 1, 1, st (pdos (dv .run)), by decide +kernel⟩,
   ⟨0, 0x6110, 1, 1, st (pdos (dv .run)), by decide +kernel⟩,
   ⟨0, st (dv .run), by decide +kernel⟩,
   ⟨0, st (dv .run), by decide +kernel⟩,
   ⟨0, 0xc0a80a0a, st (cans (dv .run)), by decide +kernel⟩,
   ⟨{ vid := 0, dest := 0xc0a80a0a, destPort := 4980, fragment := false }, st (cans (dv .run)), by decide +kernel⟩,
   ⟨0, 0xc0a80a0a, st (dv .run), by decide +kernel⟩,
   ⟨{ vid := 0, dest := 0, destPort := 4980, fragment := false }, st (cans (dv .run)), by decide +kernel⟩,
   ⟨st (cans (dv .run)), by decide +kernel⟩,
   ⟨st (bo (fun x => { x with fwStarted := true }) (dv .run)), by decide +kernel⟩⟩

theorem witness_TimeAndGuyLine :
    (∃ (s : State), s.dev.net.canA.conf ≠ 3 ∧ s.dev.candidate ∧ s.dev.net.time.refPending ∧ s.dev.now % 1000000 = 0 ∧ (s.dev.net.time.first ∨ s.dev.net.time.sofSent < s.dev.now))
    ∧ (∃ (s : State), (s.dev.candidate = false ∨ s.dev.net.time.refPending = false ∨ s.dev.now % 1000000 ≠ 0))
    ∧ (∃ (l : List Byte) (ident : Nat) (s : State), timeRefOf s.dev.cfg l ident = none)
    ∧ (∃ (l : List Byte) (ident : Nat) (r : TimeRef) (s : State), s.dev.canSend 0 ∧ s.dev.forcedAt 0x0E03 = false ∧ timeRefOf s.dev.cfg l ident = some r ∧ r.rank ≠ Cfg.timeRank s.dev.cfg ∧ (r.rank < Cfg.timeRank s.dev.cfg ∨ s.dev.net.time.refPending = false))
    ∧ (∃ (l : List Byte) (ident : Nat) (r : TimeRef) (s : State), timeRefOf s.dev.cfg l ident = some r ∧ Cfg.timeRank s.dev.cfg < r.rank ∧ s.dev.net.time.refPending)
    ∧ (∃ (d : Device), 0 ≤ slewLimit d.cfg)
    ∧ (∃ (s : State), s.dev.net.canA.conf ≠ 3 ∧ s.dev.net.time.refPending = false ∧ s.dev.refOverdue ∧ s.dev.net.time.missed < 2)
    ∧ (∃ (s : State), s.dev.net.canA.conf ≠ 3 ∧ s.dev.net.time.refPending = false ∧ s.dev.refOverdue ∧ s.dev.net.time.missed = 2)
    ∧ (∃ (s : State), (s.dev.net.time.refPending ∨ s.dev.refOverdue = false))
    ∧ (∃ (s : State), s.dev.ctl.state ≠ .off ∧ lasted s.dev.now s.dev.net.time.offSince 1000000000)
    ∧ (∃ (s : State), s.dev.net.time.offSince = none ∧ s.dev.forcedAt 0x0E03 = false)
    ∧ (∃ (u : Nanos) (s : State), s.dev.net.time.role = 3 ∧ s.dev.net.time.holdover = some u ∧ u + 100000000 ≤ s.dev.now)
    ∧ (∃ (s : State), (s.dev.net.time.role ≠ 3 ∨ s.dev.net.time.holdover = none))
    ∧ (∃ (s : State), s.dev.paired ∧ s.dev.ctl.partnerPresent ∧ lasted s.dev.now s.dev.net.time.glSince 10000000)
    ∧ (∃ (s : State), s.dev.net.time.glSince = none ∧ s.dev.forcedAt 0x0E03 = false)
    ∧ (∃ (s : State), s.dev.paired ∧ s.dev.net.guy.up ∧ s.dev.ctl.state ≠ .boot ∧ s.dev.guyDue)
    ∧ (∃ (s : State), (s.dev.net.guy.up = false ∨ s.dev.guyDue = false))
    ∧ (∃ (l : List Byte) (f : Bool) (s : State), s.dev.paired ∧ s.dev.net.guy.up ∧ s.dev.forcedAt 0x0103 = false ∧ s.dev.guyValid l f = false)
    ∧ (∃ (l : List Byte) (f : Bool) (s : State), s.dev.paired ∧ s.dev.net.guy.up ∧ s.dev.forcedAt 0x0103 = false ∧ s.dev.guyValid l f)
    ∧ (∃ (s : State), s.dev.net.guy.up = false)
    ∧ (∃ (s : State), s.dev.paired ∧ s.dev.ctl.state ≠ .off ∧ s.dev.boot.fwStarted) :=
  ⟨⟨st (cfg [(0x2e2001, 7)] (nt (fun n => { n with time := { refPending := true } }) (cans (dv .run)))), by decide +kernel⟩,
   ⟨st (dv .run), by decide +kernel⟩,
   ⟨[], 0, st (cfg [(0x2e2001, 7)] (nt (fun n => { n with time := { refPending := true } }) (cans (dv .run)))), by decide +kernel⟩,
   ⟨List.replicate 16 0, 0x10000, { rank := 0, first := false, node := 0, tPrev := 0 }, st (cfg [(0x2e2001, 7)] (nt (fun n => { n with time := { refPending := true } }) (cans (dv .run)))), by decide +kernel⟩,
   ⟨7 :: List.replicate 15 0, 0x10007, { rank := 7, first := false, node := 0, tPrev := 0 }, st (cfg [(0x2e2001, 6)] (nt (fun n => { n with time := { refPending := true } }) (cans (dv .run)))), by decide +kernel⟩,
   ⟨dv .run, by decide +kernel⟩,
   ⟨st (tm 2000000 (nt (fun n => { n with time := { missed := 0, lastRef := some 0 } }) (cans (dv .run)))), by decide +kernel⟩,
   ⟨st (tm 4000000 (nt (fun n => { n with time := { missed := 2, lastRef := some 0 } }) (cans (dv .run)))), by decide +kernel⟩,
   ⟨st (cfg [(0x2e2001, 7)] (nt (fun n => { n with time := { refPending := true } }) (cans (dv .run)))), by decide +kernel⟩,
   ⟨st (tm (sec 1) (nt (fun n => { n with time := { offSince := some 0 } }) (dv .run))), by decide +kernel⟩,
   ⟨st (cfg [(0x2e2001, 7)] (nt (fun n => { n with time := { refPending := true } }) (cans (dv .run)))), by decide +kernel⟩,
   ⟨0, st (tm (ms 100) (nt (fun n => { n with time := { role := 3, holdover := some 0 } }) (dv .run))), by decide +kernel⟩,
   ⟨st (cfg [(0x2e2001, 7)] (nt (fun n => { n with time := { refPending := true } }) (cans (dv .run)))), by decide +kernel⟩,
   ⟨st (tm (ms 10) (nt (fun n => { n with time := { glSince := some 0 } }) (pair (dv .run)))), by decide +kernel⟩,
   ⟨st (cfg [(0x2e2001, 7)] (nt (fun n => { n with time := { refPending := true } }) (cans (dv .run)))), by decide +kernel⟩,
   ⟨st (guy (dv .run)), by decide +kernel⟩,
   ⟨st (cfg [(0x2e2001, 7)] (nt (fun n => { n with time := { refPending := true } }) (cans (dv .run)))), by decide +kernel⟩,
   ⟨[], true, st (guy (dv .run)), by decide +kernel⟩,
   ⟨1 :: List.replicate 403 0, true, st (guy (dv .run)), by decide +kernel⟩,
   ⟨st (cfg [(0x2e2001, 7)] (nt (fun n => { n with time := { refPending := true } }) (cans (dv .run)))), by decide +kernel⟩,
   ⟨st (bo (fun x => { x with fwStarted := true }) (pair (dv .run))), by decide +kernel⟩⟩

theorem witness_CaptureRings :
    (∃ (cap : Nat) (x : CapRing), x.used ≤ cap)
    ∧ (∃ (n : Nat) (cap : Nat) (top : Nat) (now : Nanos) (e : CapItem) (x : CapRing), cap < (x.append n top now e).used + 8)
    ∧ (∃ (b : Nat) (ps : List CapPacket) (rest : List CapPacket), releasePackets b ps = some rest)
    ∧ (∃ (typ : Fin 16) (src : Fin 1024) (ws : List W32) (s : State), s.tapWords typ src = some ws)
    ∧ (∃ (typ : Fin 16) (src : Fin 1024) (s : State), s.tapWords typ src = none)
    ∧ (∃ (n : Fin 16) (p : CapPacket) (s : State), (s.dev.ring n).opened = some p ∧ p.base + Cfg.capPktTime s.dev.cfg n * 1000 ≤ s.dev.now)
    ∧ (∃ (n : Fin 16) (s : State), (s.dev.ring n).opened = none)
    ∧ (∃ (q : Path) (n : Fin 16) (b : W32) (ps : List CapPacket) (s : State), s.dev.takes q .e false ∧ Cfg.capMode s.dev.cfg n = 1 ∧ releasePackets b.toNat (s.dev.ring n).packets = some ps)
    ∧ (∃ (q : Path) (n : Fin 16) (b : W32) (s : State), s.dev.takes q .e false ∧ Cfg.capMode s.dev.cfg n = 1 ∧ releasePackets b.toNat (s.dev.ring n).packets = none)
    ∧ (∃ (n : Fin 16) (p : CapPacket) (rest : List CapPacket) (s : State), s.dev.net.eth1Up ∧ Cfg.capMode s.dev.cfg n = 2 ∧ (s.dev.ring n).packets = p :: rest ∧ p.closed ∧ s.dev.eth1Idle ∧ n < s.dev.net.rings.length)
    ∧ (∃ (n : Fin 16) (s : State), ((s.dev.ring n).packets = [] ∨ s.dev.eth1Idle = false))
    ∧ (∃ (q : Path) (n : Fin 16) (s : State), s.dev.takes q .e false ∧ Cfg.capMode s.dev.cfg n ≠ 1) :=
  ⟨⟨0, {}, by decide +kernel⟩,
   ⟨0, 0, 0, 5, { typ := 1, source := 0, time := 5, words := [0] }, {}, by decide +kernel⟩,
   ⟨0, [{ pseq := 0, base := 0, items := [], closed := true }], [{ pseq := 0, base := 0, items := [], closed := true }], by decide +kernel⟩,
   ⟨1, 0, [BitVec.ofNat 32 ((dv .run).mchan 0).fastWord], st (dv .run), by decide +kernel⟩,
   ⟨1, 1023, st (cfg [ringSrc] (nt (fun n => { n with rings := [{ running := true }] }) (dv .run))), by decide +kernel⟩,
   ⟨0, { pseq := 0, base := 0, items := [], closed := false }, st (tm (ms 1) ((dv .run).onRing 0 fun x => { x with packets := [{ pseq := 0, base := 0, items := [], closed := false }] })), by decide +kernel⟩,
   ⟨1, st (cfg [ringSrc] (nt (fun n => { n with rings := [{ running := true }] }) (dv .run))), by decide +kernel⟩,
   ⟨host, 0, 16, [], st (cfg [(0x3e4002, 1)] ((dv .run).onRing 0 fun x => { x with packets := [{ pseq := 0, base := 0, items := [], closed := true }] })), by decide +kernel⟩,
   ⟨host, 0, 15, st (cfg [(0x3e4002, 1)] ((dv .run).onRing 0 fun x => { x with packets := [{ pseq := 0, base := 0, items := [], closed := true }] })), by decide +kernel⟩,
   ⟨0, { pseq := 0, base := 0, items := [], closed := true }, [], st (cfg [(0x3e4002, 2)] ((cans (dv .run)).onRing 0 fun x => { x with packets := [{ pseq := 0, base := 0, items := [], closed := true }] })), by decide +kernel⟩,
   ⟨1, st (cfg [ringSrc] (nt (fun n => { n with rings := [{ running := true }] }) (dv .run))), by decide +kernel⟩,
   ⟨host, 1, st (cfg [ringSrc] (nt (fun n => { n with rings := [{ running := true }] }) (dv .run))), by decide +kernel⟩⟩

theorem witness_ObjectWrites :
    (∃ (opened : ObjLevel → Bool) (ix sub : Nat) (l : List Byte) (s : State) (r : ObjRow) (j k : Nat), s.dev.busy = false ∧ objFind ix sub objTable = some (r, j, k) ∧ opened (s.writeLevel r ix sub (leNat l)) = false)
    ∧ (∃ (opened : ObjLevel → Bool) (ix sub : Nat) (l : List Byte) (s : State) (r : ObjRow) (j k : Nat), s.dev.busy = false ∧ objFind ix sub objTable = some (r, j, k) ∧ opened (s.writeLevel r ix sub (leNat l)) ∧ (r.acc = .ro ∨ (r.acc = .rws ∧ s.dev.ownerSets ix sub)))
    ∧ (∃ (opened : ObjLevel → Bool) (ix sub : Nat) (l : List Byte) (s : State) (r : ObjRow) (j k : Nat), s.dev.busy = false ∧ objFind ix sub objTable = some (r, j, k) ∧ opened (s.writeLevel r ix sub (leNat l)) ∧ r.acc ≠ .ro ∧ (r.acc = .rws → s.dev.ownerSets ix sub = false) ∧ l.length ≠ r.ty.size)
    ∧ (∃ (opened : ObjLevel → Bool) (ix sub : Nat) (l : List Byte) (s : State) (r : ObjRow) (j k : Nat), s.dev.busy = false ∧ objFind ix sub objTable = some (r, j, k) ∧ opened (s.writeLevel r ix sub (leNat l)) ∧ r.acc ≠ .ro ∧ (r.acc = .rws → s.dev.ownerSets ix sub = false) ∧ l.length = r.ty.size ∧ r.inRange (leNat l) = false ∧ ∀ n : Nat, r.ty ≠ .octets n)
    ∧ (∃ (opened : ObjLevel → Bool) (ix sub : Nat) (l : List Byte) (s : State) (r : ObjRow) (j k : Nat), s.dev.busy = false ∧ objFind ix sub objTable = some (r, j, k) ∧ opened (s.writeLevel r ix sub (leNat l)) ∧ r.acc ≠ .ro ∧ (r.acc = .rws → s.dev.ownerSets ix sub = false) ∧ l.length = r.ty.size ∧ r.inRange (leNat l) ∧ mapWriteCheck opened ix sub (leNat l) ≠ Abort.ok)
    ∧ (∃ (opened : ObjLevel → Bool) (ix sub : Nat) (l : List Byte) (s : State) (r : ObjRow) (j k : Nat), s.dev.busy = false ∧ objFind ix sub objTable = some (r, j, k) ∧ opened (s.writeLevel r ix sub (leNat l)) ∧ r.acc ≠ .ro ∧ (r.acc = .rws → s.dev.ownerSets ix sub = false) ∧ l.length = r.ty.size ∧ r.inRange (leNat l) ∧ mapWriteCheck opened ix sub (leNat l) = Abort.ok ∧ (s.dev.boot.noBank ∨ (s.dev.ctl.state = .fault ∧ faultWrite ix sub (leNat l) = false)))
    ∧ (∃ (opened : ObjLevel → Bool) (ix sub : Nat) (l : List Byte) (s : State) (r : ObjRow) (j k : Nat), s.dev.busy = false ∧ objFind ix sub objTable = some (r, j, k) ∧ opened (s.writeLevel r ix sub (leNat l)) ∧ r.acc ≠ .ro ∧ (r.acc = .rws → s.dev.ownerSets ix sub = false) ∧ l.length = r.ty.size ∧ r.inRange (leNat l) ∧ mapWriteCheck opened ix sub (leNat l) = Abort.ok ∧ s.dev.boot.noBank = false ∧ (s.dev.ctl.state ≠ .fault ∨ faultWrite ix sub (leNat l)))
    ∧ (∃ (opened : ObjLevel → Bool) (ix sub : Nat) (s : State) (r : ObjRow) (j k : Nat), s.dev.busy = false ∧ objFind ix sub objTable = some (r, j, k) ∧ opened (readLevel r.rd) = false)
    ∧ (∃ (opened : ObjLevel → Bool) (ix sub : Nat) (s : State) (r : ObjRow) (j k : Nat), s.dev.busy = false ∧ objFind ix sub objTable = some (r, j, k) ∧ opened (readLevel r.rd) ∧ r.acc = .wo)
    ∧ (∃ (opened : ObjLevel → Bool) (ix sub : Nat) (s : State) (r : ObjRow) (j k : Nat), s.dev.busy = false ∧ objFind ix sub objTable = some (r, j, k) ∧ opened (readLevel r.rd) ∧ r.acc ≠ .wo ∧ s.dev.bankless ix sub = false)
    ∧ (∃ (s : State), s.dev.busy)
    ∧ (∃ (q : Path) (s : State), s.dev.ctl.state ≠ .off ∧ s.dev.busyOn q)
    ∧ (∃ (q : Path) (ix : BitVec 16) (sub : BitVec 8) (l : List Byte) (e : W32) (s : State), s.dev.ctl.state ≠ .off ∧ s.dev.busyOn q = false ∧ (let u : State := { s with dev := touchPath q s.dev }; writeCheck (u.dev.levelOpen q) ix.toNat sub.toNat l u = .error e))
    ∧ (∃ (q : Path) (ix : BitVec 16) (sub : BitVec 8) (l : List Byte) (r : ObjRow) (s : State), s.dev.ctl.state ≠ .off ∧ s.dev.busyOn q = false ∧ r.acc = .rws ∧ s.dev.stageRefusal q = Abort.ok ∧ (let u : State := { s with dev := touchPath q s.dev }; writeCheck (u.dev.levelOpen q) ix.toNat sub.toNat l u = .ok r))
    ∧ (∃ (q : Path) (ix : BitVec 16) (sub : BitVec 8) (l : List Byte) (r : ObjRow) (s : State), s.dev.ctl.state ≠ .off ∧ s.dev.busyOn q = false ∧ r.acc = .rws ∧ s.dev.od.state.locked ∧ s.dev.od.lock ≠ some q ∧ (let u : State := { s with dev := touchPath q s.dev }; writeCheck (u.dev.levelOpen q) ix.toNat sub.toNat l u = .ok r))
    ∧ (∃ (q : Path) (ix : BitVec 16) (sub : BitVec 8) (l : List Byte) (r : ObjRow) (s : State), s.dev.ctl.state ≠ .off ∧ s.dev.busyOn q = false ∧ r.acc ≠ .rws ∧ (let u : State := { s with dev := touchPath q s.dev }; writeCheck (u.dev.levelOpen q) ix.toNat sub.toNat l u = .ok r))
    ∧ (∃ (k : Nat) (r : ObjRow) (j n : Nat), objFind (k / 256) (k % 256) objTable = some (r, j, n)) :=
  ⟨⟨fun _ => false, 0x2800, 2, [], st (dv .run), (objRow 0x2800 2).1, (objRow 0x2800 2).2.1, (objRow 0x2800 2).2.2, by decide +kernel⟩,
   ⟨fun _ => true, 0x5000, 1, [], st (dv .run), (objRow 0x5000 1).1, (objRow 0x5000 1).2.1, (objRow 0x5000 1).2.2, by decide +kernel⟩,
   ⟨fun _ => true, 0x2000, 1, [], st (dv .run), (objRow 0x2000 1).1, (objRow 0x2000 1).2.1, (objRow 0x2000 1).2.2, by decide +kernel⟩,
   ⟨fun _ => true, 0x2000, 2, [4], st (dv .run), (objRow 0x2000 2).1, (objRow 0x2000 2).2.1, (objRow 0x2000 2).2.2, by decide +kernel, by decide +kernel, by decide +kernel, by decide +kernel, by decide +kernel, by decide +kernel, by decide +kernel, uint_not _ 1 (by decide +kernel)⟩,
   ⟨fun _ => true, 0x1600, 1, [0, 0, 0, 0x10], st (dv .run), (objRow 0x1600 1).1, (objRow 0x1600 1).2.1, (objRow 0x1600 1).2.2, by decide +kernel⟩,
   ⟨fun _ => true, 0x2000, 2, [1], st (dv .fault), (objRow 0x2000 2).1, (objRow 0x2000 2).2.1, (objRow 0x2000 2).2.2, by decide +kernel⟩,
   ⟨fun _ => true, 0x2000, 2, [1], st (dv .run), (objRow 0x2000 2).1, (objRow 0x2000 2).2.1, (objRow 0x2000 2).2.2, by decide +kernel⟩,
   ⟨fun _ => false, 0x2000, 2, st (dv .run), (objRow 0x2000 2).1, (objRow 0x2000 2).2.1, (objRow 0x2000 2).2.2, by decide +kernel⟩,
   ⟨fun _ => true, 0x2000, 1, st (dv .run), (objRow 0x2000 1).1, (objRow 0x2000 1).2.1, (objRow 0x2000 1).2.2, by decide +kernel⟩,
   ⟨fun _ => true, 0x2000, 2, st (dv .run), (objRow 0x2000 2).1, (objRow 0x2000 2).2.1, (objRow 0x2000 2).2.2, by decide +kernel⟩,
   ⟨st (dv .boot), by decide +kernel⟩,
   ⟨host, st (dv .boot), by decide +kernel⟩,
   ⟨host, 0x1fff, 0, [], Abort.noIndex, st (dv .run), by decide +kernel⟩,
   ⟨host, 0x2800, 2, [0x78, 5], (objRow 0x2800 2).1, st (dv .run), by decide +kernel⟩,
   ⟨host, 0x2800, 2, [0x78, 5], (objRow 0x2800 2).1, st (od (fun o => { o with state := .editing, lock := some .canc }) (dv .run)), by decide +kernel⟩,
   ⟨host, 0x6010, 8, [1], (objRow 0x6010 8).1, st (dv .run), by decide +kernel⟩,
   ⟨0x280002, (objRow 0x2800 2).1, (objRow 0x2800 2).2.1, (objRow 0x2800 2).2.2, by decide +kernel⟩⟩

theorem witness_HostProtocols :
    (∃ (h : UdpHead) (ip : BitVec 32) (port : BitVec 16) (b : List Byte) (l : List HkItem) (s : State), s.dev.hkHears h ∧ s.dev.hkFresh (.hk ip port) b ∧ (let u : State := { s with dev := touchPath (.hk ip port) s.dev }; hkPlain 1 b ∧ hkItems 1 (field b 16 2) (b.drop 20) = some l))
    ∧ (∃ (h : UdpHead) (ip : BitVec 32) (port : BitVec 16) (b : List Byte) (l : List HkItem) (s : State), s.dev.hkHears h ∧ s.dev.hkFresh (.hk ip port) b ∧ (let u : State := { s with dev := touchPath (.hk ip port) s.dev }; hkPlain 2 b ∧ hkItems 2 (field b 16 2) (b.drop 20) = some l))
    ∧ (∃ (h : UdpHead) (ip : BitVec 32) (port : BitVec 16) (b : List Byte) (l : List HkItem) (s : State), s.dev.hkHears h ∧ s.dev.hkFresh (.hk ip port) b ∧ (let u : State := { s with dev := touchPath (.hk ip port) s.dev }; hkPlain 3 b ∧ hkItems 3 (field b 16 2) (b.drop 20) = some l))
    ∧ (∃ (h : UdpHead) (ip : BitVec 32) (port : BitVec 16) (b : List Byte) (s : State), s.dev.hkHears h ∧ s.dev.hkFresh (.hk ip port) b ∧ (let u : State := { s with dev := touchPath (.hk ip port) s.dev }; hkPlain 0x10 b ∧ b.length = 40 ∧ s.dev.busyOn (.hk ip port) = false))
    ∧ (∃ (h : UdpHead) (ip : BitVec 32) (port : BitVec 16) (b : List Byte) (s : State), s.dev.hkHears h ∧ s.dev.hkFresh (.hk ip port) b ∧ (let u : State := { s with dev := touchPath (.hk ip port) s.dev }; hkPlain 0x11 b ∧ b.length = 52 ∧ s.dev.busyOn (.hk ip port) = false))
    ∧ (∃ (h : UdpHead) (ip : BitVec 32) (port : BitVec 16) (b : List Byte) (key : List Byte) (s : State), s.dev.hkHears h ∧ s.dev.hkFresh (.hk ip port) b ∧ s.dev.hkSession (.hk ip port) b = some (some key) ∧ b.length = 36 ∧ field b 0 2 = 0x4B48 ∧ field b 2 1 = 1 ∧ field b 3 1 = 0x12 ∧ field b 4 2 = 0 ∧ s.dev.busyOn (.hk ip port) = false)
    ∧ (∃ (h : UdpHead) (ip : BitVec 32) (port : BitVec 16) (b : List Byte) (s : State), s.dev.hkHears h ∧ (b.length < 20 ∨ field b 0 2 ≠ 0x4B48 ∨ s.dev.hkSession (.hk ip port) b = none))
    ∧ (∃ (h : UdpHead) (ip : BitVec 32) (port : BitVec 16) (b : List Byte) (a : HkAnswer) (u : Nanos) (s : State), s.dev.hkHears h ∧ hkPlain 2 b ∧ (s.dev.path (.hk ip port)).cached = [(a, u)] ∧ a.reqId = field b 12 4 ∧ s.dev.now ≤ u + sec 1)
    ∧ (∃ (h : UdpHead) (s : State), s.dev.hkHears h = false)
    ∧ (∃ (ip : BitVec 32) (port : BitVec 16) (s : State), s.dev.busyOn (.hk ip port))
    ∧ (∃ (onB : Bool) (n : Fin 128) (s : State) (total : Nat), s.dev.usdoServes onB ∧ s.dev.busyOn (.usdo onB n) = false ∧ (let q : Path := .usdo onB n; (let u : State := { s with dev := touchPath q s.dev }; 1024 < total)))
    ∧ (∃ (onB : Bool) (n : Fin 128) (s : State) (total : Nat), s.dev.usdoServes onB ∧ s.dev.busyOn (.usdo onB n) = false ∧ (let q : Path := .usdo onB n; (let u : State := { s with dev := touchPath q s.dev }; total ≤ 1024)))
    ∧ (∃ (onB : Bool) (n : Fin 128) (s : State) (l : List Byte) (x : UsdoTransfer), s.dev.usdoServes onB ∧ s.dev.busyOn (.usdo onB n) = false ∧ (let q : Path := .usdo onB n; (let u : State := { s with dev := touchPath q s.dev }; (s.dev.path q).transfer = some x ∧ x.write ∧ x.buffer.length + l.length ≤ x.total)))
    ∧ (∃ (onB : Bool) (n : Fin 128) (s : State) (l : List Byte) (x : UsdoTransfer), s.dev.usdoServes onB ∧ s.dev.busyOn (.usdo onB n) = false ∧ (let q : Path := .usdo onB n; (let u : State := { s with dev := touchPath q s.dev }; (s.dev.path q).transfer = some x ∧ x.write ∧ x.buffer.length + l.length = x.total)))
    ∧ (∃ (onB : Bool) (n : Fin 128) (s : State) (l : List Byte) (last : Bool) (x : UsdoTransfer), s.dev.usdoServes onB ∧ s.dev.busyOn (.usdo onB n) = false ∧ (let q : Path := .usdo onB n; (let u : State := { s with dev := touchPath q s.dev }; (s.dev.path q).transfer = some x ∧ x.write ∧ (x.total < x.buffer.length + l.length ∨ (last = true ∧ x.buffer.length + l.length ≠ x.total)))))
    ∧ (∃ (onB : Bool) (n : Fin 128) (s : State) (x : UsdoTransfer), s.dev.usdoServes onB ∧ s.dev.busyOn (.usdo onB n) = false ∧ (let q : Path := .usdo onB n; (let u : State := { s with dev := touchPath q s.dev }; (s.dev.path q).transfer = some x ∧ x.write = false)))
    ∧ (∃ (onB : Bool) (n : Fin 128) (s : State), s.dev.usdoServes onB ∧ s.dev.busyOn (.usdo onB n))
    ∧ (∃ (onB : Bool) (s : State), s.dev.usdoServes onB = false)
    ∧ (∃ (onB : Bool) (n : Fin 128) (x : UsdoTransfer) (s : State), (s.dev.path (.usdo onB n)).transfer = some x ∧ x.at_ + sec 1 ≤ s.dev.now)
    ∧ (∃ (onB : Bool) (n : Fin 128) (x : UsdoTransfer) (s : State), (s.dev.path (.usdo onB n)).transfer = some x ∧ s.dev.now < x.at_ + sec 1)
    ∧ (∃ (onB : Bool) (n : Fin 128) (s : State), (s.dev.path (.usdo onB n)).transfer = none) :=
  ⟨⟨hkHead, 1, 1, hkBytesOf 1 1 [0, 0x20, 2, 0], [(0x2000, 2, 0, 0, [])], st (cans (dv .run)), by decide +kernel, (by intro e h; cases h), by decide +kernel, rfl⟩,
   ⟨hkHead, 1, 1, hkBytesOf 2 1 [0, 0x20, 2, 0, 1, 0, 0, 0, 1, 0, 0, 0], [(0x2000, 2, 0, 1, [1])], st (cans (dv .run)), by decide +kernel, (by intro e h; cases h), by decide +kernel, rfl⟩,
   ⟨hkHead, 1, 1, hkBytesOf 3 1 [0, 0x20, 2, 0, 0, 0, 0, 0, 1, 0, 0, 0], [(0x2000, 2, 0, 1, [])], st (cans (dv .run)), by decide +kernel, (by intro e h; cases h), by decide +kernel, rfl⟩,
   ⟨hkHead, 1, 1, hkBytesOf 0x10 0 (List.replicate 20 0), st (cans (dv .run)), by decide +kernel⟩,
   ⟨hkHead, 1, 1, hkBytesOf 0x11 0 (List.replicate 32 0), st (cans (dv .run)), by decide +kernel⟩,
   ⟨hkHead, 1, 1, closeBytes, [], st hkOpen, by decide +kernel, (by intro e h; cases h), hk_session, close_session.1, by decide +kernel, by decide +kernel, by decide +kernel, by decide +kernel, by decide +kernel⟩,
   ⟨hkHead, 1, 1, [], st (cans (dv .run)), by decide +kernel, Or.inl (by decide)⟩,
   ⟨hkHead, 1, 1, hkBytesOf 2 0 [], { opcode := 2, session := 0, reqId := 0, items := 0, status := 0, body := [] }, 0, st (od (fun o => { o with paths := [(.hk 1 1, { cached := [({ opcode := 2, session := 0, reqId := 0, items := 0, status := 0, body := [] }, 0)] })] }) (cans (dv .run))), by decide +kernel⟩,
   ⟨{ vid := 0, dest := 0, destPort := 4980, fragment := false }, st (cans (dv .run)), by decide +kernel⟩,
   ⟨1, 1, st (dv .boot), by decide +kernel⟩,
   ⟨false, 0, st (cans (dv .run)), 1025, by decide +kernel⟩,
   ⟨true, 127, st (cans (dv .run)), 0, by decide +kernel⟩,
   ⟨false, 0, st (moving true 1), [5], { key := 0, write := true, buffer := [1], total := 3 }, by decide +kernel⟩,
   ⟨false, 0, st (moving true 1), [5, 6], { key := 0, write := true, buffer := [1], total := 3 }, by decide +kernel⟩,
   ⟨false, 0, st (moving true 1), [5], true, { key := 0, write := true, buffer := [1], total := 3 }, by decide +kernel⟩,
   ⟨false, 0, st (moving false 1), { key := 0, write := false, buffer := [1], total := 3 }, by decide +kernel⟩,
   ⟨false, 0, st (od (fun o => { o with paths := [] }) (cans (dv .boot))), by decide +kernel⟩,
   ⟨true, st (dv .run), by decide +kernel⟩,
   ⟨false, 0, { key := 0, write := true, buffer := [1], total := 3 }, st (tm (sec 1) (moving true 1)), by decide +kernel⟩,
   ⟨false, 0, { key := 0, write := true, buffer := [1], total := 3 }, st (moving true 1), by decide +kernel⟩,
   ⟨true, 127, st (cans (dv .run)), by decide +kernel⟩⟩

theorem witness_CommitCommands :
    (∃ (q : Path) (s : State), s.dev.takes q .b false ∧ s.dev.ctl.state ≠ .calibrating ∧ (s.dev.od.state = .editing ∨ s.dev.od.state = .refused) ∧ s.dev.od.lock = some q ∧ s.dev.commitTimeOk)
    ∧ (∃ (q : Path) (s : State), s.dev.takes q .b false ∧ s.dev.ctl.state ≠ .calibrating ∧ (s.dev.od.state = .editing ∨ s.dev.od.state = .refused) ∧ s.dev.od.lock = some q ∧ s.dev.commitTimeOk = false)
    ∧ (∃ (q : Path) (s : State), s.dev.takes q .b false ∧ s.dev.ctl.state ≠ .calibrating ∧ s.dev.od.state.locked ∧ s.dev.od.lock = some q)
    ∧ (∃ (q : Path) (s : State), s.dev.takes q .b false ∧ s.dev.ctl.state ≠ .calibrating ∧ s.dev.od.state.locked ∧ s.dev.od.lock ≠ some q)
    ∧ (∃ (s : State), s.dev.od.state = .checking ∧ s.dev.od.after = 0 ∧ firstFailing allRules s.dev.ruleView = 0)
    ∧ (∃ (s : State), s.dev.od.state = .checking ∧ firstFailing allRules s.dev.ruleView ≠ 0)
    ∧ (∃ (s : State), s.dev.od.state = .checking ∧ s.dev.od.after ≠ 0 ∧ firstFailing allRules s.dev.ruleView = 0)
    ∧ (∃ (s : State), s.dev.od.state ≠ .checking)
    ∧ (∃ (s : State), s.dev.loadDue ∧ s.dev.od.state = .checking ∧ s.dev.od.after = 4)
    ∧ (∃ (s : State), s.dev.loadDue ∧ s.dev.od.state = .pending ∧ s.dev.od.mode = 4)
    ∧ (∃ (s : State), s.dev.loadDue = false)
    ∧ (∃ (s : State), s.dev.od.state = .pending ∧ s.dev.od.loading)
    ∧ (∃ (s : State), (s.dev.od.state ≠ .pending ∨ s.dev.od.loading = false))
    ∧ (∃ (d : Device), profileStages (changedKeys d.od.inForce d.stagedSet d.od.staged) = [])
    ∧ (∃ (s : State), s.dev.od.state = .pending ∧ s.dev.od.loaded ∧ s.dev.commitDue ∧ (s.dev.forcedAt 0x0F01 = false ∨ s.dev.od.mode ≠ 4) ∧ firstFailing instantRules s.dev.ruleView = 0)
    ∧ (∃ (s : State), s.dev.od.state = .pending ∧ s.dev.od.loaded ∧ s.dev.commitDue ∧ (s.dev.forcedAt 0x0F01 = false ∨ s.dev.od.mode ≠ 4) ∧ firstFailing instantRules s.dev.ruleView ≠ 0)
    ∧ (∃ (s : State), s.dev.od.state = .pending ∧ s.dev.od.loaded ∧ s.dev.commitDue ∧ s.dev.forcedAt 0x0F01 ∧ s.dev.od.mode = 4)
    ∧ (∃ (s : State), (s.dev.od.state ≠ .pending ∨ s.dev.od.loaded = false ∨ s.dev.commitDue = false))
    ∧ (∃ (s : State), s.dev.od.state = .pending ∧ s.dev.od.mode = 4 ∧ s.dev.od.loaded = false ∧ s.dev.od.commitT + 10000 ≤ s.dev.nextTick)
    ∧ (∃ (s : State), s.dev.od.state = .pending ∧ s.dev.od.mode = 4 ∧ s.dev.od.loaded = false ∧ s.dev.nextTick < s.dev.od.commitT + 10000)
    ∧ (∃ (s : State), (s.dev.od.state ≠ .pending ∨ s.dev.od.mode ≠ 4 ∨ s.dev.od.loaded))
    ∧ (∃ (s : State), (s.dev.od.state = .editing ∨ s.dev.od.state = .checked ∨ s.dev.od.state = .refused) ∧ s.dev.lockOver)
    ∧ (∃ (s : State), (s.dev.od.state = .pending ∨ s.dev.od.state = .checking ∨ s.dev.lockOver = false))
    ∧ (∃ (s : State), s.dev.paired ∧ s.dev.net.guy.up)
    ∧ (∃ (s : State), (s.dev.paired = false ∨ s.dev.net.guy.up = false))
    ∧ (∃ (T : Nat) (s : State), s.dev.paired ∧ s.dev.ctl.partnerPresent ∧ s.dev.compareDue s.dev.lastFrame.txTime = some T ∧ (let done : ObjDict → ObjDict := fun y => { y with announced := y.announced.filter (fun e => e.1 != T), compareT := y.compareT.filter (· != T) }; s.dev.lastFrame.settingsId = s.dev.settingsId))
    ∧ (∃ (T : Nat) (s : State), s.dev.paired ∧ s.dev.ctl.partnerPresent ∧ s.dev.compareDue s.dev.lastFrame.txTime = some T ∧ (let done : ObjDict → ObjDict := fun y => { y with announced := y.announced.filter (fun e => e.1 != T), compareT := y.compareT.filter (· != T) }; s.dev.lastFrame.settingsId ≠ s.dev.settingsId ∧ s.dev.od.announced = some (T, s.dev.lastFrame.settingsId) ∧ s.dev.ctl.state = .run))
    ∧ (∃ (T : Nat) (s : State), s.dev.paired ∧ s.dev.ctl.partnerPresent ∧ s.dev.compareDue s.dev.lastFrame.txTime = some T ∧ (let done : ObjDict → ObjDict := fun y => { y with announced := y.announced.filter (fun e => e.1 != T), compareT := y.compareT.filter (· != T) }; s.dev.lastFrame.settingsId ≠ s.dev.settingsId ∧ s.dev.od.announced = some (T, s.dev.lastFrame.settingsId) ∧ s.dev.ctl.state ≠ .run))
    ∧ (∃ (T : Nat) (s : State), s.dev.paired ∧ s.dev.ctl.partnerPresent ∧ s.dev.compareDue s.dev.lastFrame.txTime = some T ∧ (let done : ObjDict → ObjDict := fun y => { y with announced := y.announced.filter (fun e => e.1 != T), compareT := y.compareT.filter (· != T) }; s.dev.lastFrame.settingsId ≠ s.dev.settingsId ∧ s.dev.od.announced ≠ some (T, s.dev.lastFrame.settingsId) ∧ s.dev.od.compareT = some T))
    ∧ (∃ (s : State), (s.dev.paired = false ∨ s.dev.ctl.partnerPresent = false ∨ s.dev.compareDue s.dev.lastFrame.txTime = none))
    ∧ (∃ (u : Nanos) (s : State), s.dev.od.storeDue = some u)
    ∧ (∃ (s : State), s.dev.od.storeDue = none) :=
  ⟨⟨host, st (cfg [(0x2F0002, 2000000)] (od (fun o => { o with state := .editing, lock := some host }) (dv .run))), by decide +kernel⟩,
   ⟨host, st (od (fun o => { o with state := .editing, lock := some host }) (dv .run)), by decide +kernel⟩,
   ⟨host, st (od (fun o => { o with state := .editing, lock := some host }) (dv .run)), by decide +kernel⟩,
   ⟨host, st (od (fun o => { o with state := .pending, lock := some .canc }) (dv .run)), by decide +kernel⟩,
   ⟨st (od (fun o => { o with state := .checking }) (dv .run)), rfl, rfl, first_all _ rfl (by decide +kernel) (by decide +kernel) (by decide +kernel)⟩,
   ⟨st (cfg [(0x618001, 27)] (od (fun o => { o with state := .checking }) (dv .run))), by decide +kernel⟩,
   ⟨st (od (fun o => { o with state := .checking, after := 4 }) (dv .run)), rfl, by decide, first_all _ rfl (by decide +kernel) (by decide +kernel) (by decide +kernel)⟩,
   ⟨st (od (fun o => { o with state := .editing, lock := some host }) (dv .run)), by decide +kernel⟩,
   ⟨st (od (fun o => { o with state := .checking, after := 4 }) (dv .run)), by decide +kernel⟩,
   ⟨st (od (fun o => { o with state := .pending, mode := 4 }) (dv .run)), by decide +kernel⟩,
   ⟨st (od (fun o => { o with commitT := sec 1 }) (dv .run)), by decide +kernel⟩,
   ⟨st (od (fun o => { o with state := .pending, loading := true }) (dv .run)), by decide +kernel⟩,
   ⟨st (od (fun o => { o with state := .editing, lock := some host }) (dv .run)), by decide +kernel⟩,
   ⟨dv .run, by decide +kernel⟩,
   ⟨st (od (fun o => { o with state := .pending, loaded := true }) (dv .run)), by decide +kernel⟩,
   ⟨st (instantFails (od (fun o => { o with state := .pending, loaded := true }) (dv .run))), by decide +kernel⟩,
   ⟨st (inj 0x0F01 0 0 (od (fun o => { o with state := .pending, loaded := true, mode := 4 }) (dv .run))), by decide +kernel⟩,
   ⟨st (od (fun o => { o with state := .editing, lock := some host }) (dv .run)), by decide +kernel⟩,
   ⟨st (tm (ms 1) (od (fun o => { o with state := .pending, mode := 4 }) (dv .run))), by decide +kernel⟩,
   ⟨st (od (fun o => { o with state := .pending, mode := 4 }) (dv .run)), by decide +kernel⟩,
   ⟨st (od (fun o => { o with state := .editing, lock := some host }) (dv .run)), by decide +kernel⟩,
   ⟨st (tm (sec 100) (od (fun o => { o with state := .editing, lock := some host }) (dv .run))), by decide +kernel⟩,
   ⟨st (od (fun o => { o with state := .editing, lock := some host }) (dv .run)), by decide +kernel⟩,
   ⟨st (guy (dv .run)), by decide +kernel⟩,
   ⟨st (od (fun o => { o with state := .editing, lock := some host }) (dv .run)), by decide +kernel⟩,
   ⟨0, st (framed 0 .run none none), by decide +kernel, by decide +kernel, by decide +kernel, framed_same⟩,
   ⟨0, st (framed 1 .run (some 0) none), by decide +kernel, by decide +kernel, by decide +kernel, other_id, rfl, by decide +kernel⟩,
   ⟨0, st (framed 1 .standby (some 0) none), by decide +kernel, by decide +kernel, by decide +kernel, other_id, rfl, by decide +kernel⟩,
   ⟨0, st (framed 1 .run none (some 0)), by decide +kernel, by decide +kernel, by decide +kernel, other_id, (by intro h; cases h), by decide +kernel⟩,
   ⟨st (od (fun o => { o with state := .editing, lock := some host }) (dv .run)), by decide +kernel⟩,
   ⟨5, st (od (fun o => { o with storeDue := some 5 }) (dv .run)), by decide +kernel⟩,
   ⟨st (od (fun o => { o with state := .editing, lock := some host }) (dv .run)), by decide +kernel⟩⟩

theorem witness_SessionsAndEvents :
    (∃ (q : Path) (l : List Byte) (s : State), s.dev.takes q s.provisionLevel false ∧ l.length = 33 ∧ leNat (l.take 1) ≤ 3 ∧ s.dev.comm.burning = none ∧ s.otp.provisioned.getLsbD (leNat (l.take 1)) = false ∧ s.otp.revoked.getLsbD (leNat (l.take 1)) = false ∧ s.otp.fusesOk ∧ s.otp.keysOk)
    ∧ (∃ (q : Path) (l : List Byte) (s : State), s.dev.takes q s.provisionLevel false ∧ l.length = 33 ∧ leNat (l.take 1) ≤ 3 ∧ s.dev.comm.burning = none ∧ (s.otp.provisioned.getLsbD (leNat (l.take 1)) ∨ s.otp.revoked.getLsbD (leNat (l.take 1))))
    ∧ (∃ (q : Path) (k : BitVec 8) (s : State), s.dev.takes q .v false ∧ k.toNat ≤ 3 ∧ s.dev.comm.burning = none ∧ s.otp.fusesOk ∧ s.otp.keysOk)
    ∧ (∃ (q : Path) (k : BitVec 8) (s : State), s.dev.takes q .v false ∧ k.toNat ≤ 3 ∧ s.dev.comm.burning = none ∧ (s.otp.fusesOk = false ∨ s.otp.keysOk = false))
    ∧ (∃ (q : Path) (l : List Byte) (s : State), s.dev.takes q .b true ∧ l.length = 18 ∧ leNat (l.take 1) ≤ 3 ∧ 1 ≤ leNat ((l.drop 1).take 1) ∧ leNat ((l.drop 1).take 1) ≤ 2 ∧ q ≠ .canc ∧ (s.dev.path q).lockedOut = false ∧ s.mayOpen (leNat (l.take 1)) (leNat ((l.drop 1).take 1)))
    ∧ (∃ (q : Path) (l : List Byte) (s : State), s.dev.takes q .b true ∧ l.length = 18 ∧ leNat (l.take 1) ≤ 3 ∧ 1 ≤ leNat ((l.drop 1).take 1) ∧ leNat ((l.drop 1).take 1) ≤ 2 ∧ (q = .canc ∨ (s.dev.path q).lockedOut))
    ∧ (∃ (q : Path) (l : List Byte) (s : State), s.dev.takes q .b true ∧ l.length = 18 ∧ leNat (l.take 1) ≤ 3 ∧ 1 ≤ leNat ((l.drop 1).take 1) ∧ leNat ((l.drop 1).take 1) ≤ 2 ∧ q ≠ .canc ∧ (s.dev.path q).lockedOut = false ∧ s.mayOpen (leNat (l.take 1)) (leNat ((l.drop 1).take 1)) = false)
    ∧ (∃ (q : Path) (l : List Byte) (c : Challenge) (s : State), s.dev.takes q .b true ∧ l.length = 32 ∧ (s.dev.path q).challenge = some c ∧ s.mayOpen c.slot c.level ∧ l = c.ph (s.otp.keyBytes c.slot) (Cfg.nodeNumber s.dev.cfg))
    ∧ (∃ (q : Path) (l : List Byte) (c : Challenge) (s : State), s.dev.takes q .b true ∧ l.length = 32 ∧ (s.dev.path q).challenge = some c ∧ l ≠ c.ph (s.otp.keyBytes c.slot) (Cfg.nodeNumber s.dev.cfg) ∧ (s.dev.path q).session = none)
    ∧ (∃ (q : Path) (s : State), s.dev.takes q .b true)
    ∧ (∃ (q : Path) (c : Challenge) (s : State), (s.dev.path q).challenge = some c ∧ c.time + sec 5 ≤ s.dev.now)
    ∧ (∃ (q : Path) (c : Challenge) (s : State), (s.dev.path q).challenge = some c ∧ s.dev.now < c.time + sec 5)
    ∧ (∃ (q : Path) (s : State), (s.dev.path q).challenge = none)
    ∧ (∃ (q : Path) (x : Session) (s : State), (s.dev.path q).session = some x ∧ x.lastUse + sec (Cfg.sessionIdle s.dev.cfg) ≤ s.dev.now)
    ∧ (∃ (q : Path) (x : Session) (s : State), (s.dev.path q).session = some x ∧ s.dev.now < x.lastUse + sec (Cfg.sessionIdle s.dev.cfg))
    ∧ (∃ (q : Path) (s : State), (s.dev.path q).session = none)
    ∧ (∃ (q : Path) (s : State), s.dev.ctl.state ≠ .off ∧ (s.dev.path q).lockedOut = false ∧ (3 ≤ (s.dev.recentFailures q).length ∨ s.dev.forced 0x0F02 q.num))
    ∧ (∃ (q : Path) (s : State), (s.dev.ctl.state = .off ∨ (s.dev.path q).lockedOut ∨ ((s.dev.recentFailures q).length < 3 ∧ s.dev.forced 0x0F02 q.num = false)))
    ∧ (∃ (q : Path) (s : State), (s.dev.path q).lockedOut ∧ (s.dev.path q).lockedAt + sec 60 ≤ s.dev.now ∧ (∀ e ∈ s.dev.od.paths, e.2.lockedOut = true → e.1 = q))
    ∧ (∃ (q : Path) (s : State), ((s.dev.path q).lockedOut = false ∨ s.dev.now < (s.dev.path q).lockedAt + sec 60))
    ∧ (∃ (q : Path) (e : Event) (rest : List Event) (s : State), s.dev.takes q .b true ∧ s.dev.faults.events = e :: rest)
    ∧ (∃ (q : Path) (s : State), s.dev.takes q .b true ∧ s.dev.faults.events = [])
    ∧ (∃ (d : Device), d.faults.events.length < 64)
    ∧ (∃ (d : Device), 64 ≤ d.faults.events.length) :=
  ⟨⟨host, 3 :: List.replicate 32 1, st (dv .standby), by decide +kernel⟩,
   ⟨host, List.replicate 33 0, { st (dv .standby) with otp := { provisioned := 1 } }, by decide +kernel⟩,
   ⟨host, 3, st (dv .standby), by decide +kernel⟩,
   ⟨host, 0, { st (dv .standby) with otp := { fuses := 2 } }, by decide +kernel⟩,
   ⟨host, 0 :: 2 :: List.replicate 16 9, { st (dv .standby) with otp := { provisioned := 1 } }, by decide +kernel⟩,
   ⟨host, 0 :: 2 :: List.replicate 16 9, st (od (fun o => { o with paths := [(host, { lockedOut := true })] }) (dv .run)), by decide +kernel⟩,
   ⟨host, 0 :: 2 :: List.replicate 16 9, st (dv .standby), by decide +kernel⟩,
   ⟨host, chal.ph (Otp.keyBytes { provisioned := 1 } 0) (Cfg.nodeNumber []), chal, { st (challenged (dv .run)) with otp := { provisioned := 1 } }, good_proof _ rfl⟩,
   ⟨host, badProof, chal, { st (challenged (dv .run)) with otp := { provisioned := 1 } }, by decide +kernel, bad_proof.1, by decide +kernel, bad_proof.2, by decide +kernel⟩,
   ⟨host, st (dv .standby), by decide +kernel⟩,
   ⟨host, chal, st (tm (sec 5) (challenged (dv .run))), by decide +kernel⟩,
   ⟨host, chal, { st (challenged (dv .run)) with otp := { provisioned := 1 } }, by decide +kernel⟩,
   ⟨host, st (dv .standby), by decide +kernel⟩,
   ⟨host, { level := 2, slot := 0, handle := 1, key := [], lastUse := 0 }, st (tm (sec 300) (dv .run)), by decide +kernel⟩,
   ⟨host, { level := 2, slot := 0, handle := 1, key := [], lastUse := 0 }, st (dv .run), by decide +kernel⟩,
   ⟨host, st (od (fun o => { o with paths := [(host, { lockedOut := true })] }) (dv .run)), by decide +kernel⟩,
   ⟨host, st (od (fun o => { o with paths := [(host, { failures := [1, 2, 3] })] }) (dv .run)), by decide +kernel⟩,
   ⟨host, st (dv .standby), by decide +kernel⟩,
   ⟨host, st (tm (sec 60) (od (fun o => { o with paths := [(host, { lockedOut := true })] }) (dv .run))), by decide +kernel⟩,
   ⟨host, st (dv .standby), by decide +kernel⟩,
   ⟨host, { time := 0, code := 1, reaction := 0, kind := 0, lostBefore := false, scope := 0, number := 0 }, [], st (ev [{ time := 0, code := 1, reaction := 0, kind := 0, lostBefore := false, scope := 0, number := 0 }] (dv .run)), by decide +kernel⟩,
   ⟨host, st (dv .standby), by decide +kernel⟩,
   ⟨dv .run, by decide +kernel⟩,
   ⟨ev (List.replicate 64 { time := 0, code := 1, reaction := 0, kind := 0, lostBefore := false, scope := 0, number := 0 }) (dv .run), by decide +kernel⟩⟩

theorem witness_Crossings :
    (∃ (x : Fin 54) (s : State), s.dev.ctl.state.inService ∧ (s.dev.xing x).phase ≠ .timedOut ∧ (s.dev.xing x).phase ≠ .holding ∧ (x.val = 1 ∨ x.val = 2 ∨ x.val = 3))
    ∧ (∃ (x : Fin 54) (s : State), s.dev.ctl.state ≠ .off ∧ s.dev.ctl.state.inService = false ∧ (s.dev.xing x).phase ≠ .timedOut ∧ (s.dev.xing x).phase ≠ .holding)
    ∧ (∃ (x : Fin 54) (s : State), ((s.dev.xing x).phase = .timedOut ∨ (s.dev.xing x).phase = .holding) ∧ s.dev.ctl.state ≠ .off)
    ∧ (∃ (x : Fin 54) (s : State), s.dev.ctl.state.inService ∧ (s.dev.xing x).phase ≠ .timedOut ∧ (s.dev.xing x).phase ≠ .holding)
    ∧ (∃ (x : Fin 54) (d : Device), x.val < d.cross.xing.length)
    ∧ (∃ (x : Fin 54) (edge : Bool) (d : Device), x.val < d.cross.xing.length ∧ (let y := (d.onXing x fun y => { y with phase := .timedOut, timeouts := addSat 15 y.timeouts 1, late := if edge then addSat 15 y.late 1 else y.late, since := none }); edge))
    ∧ (∃ (x : Fin 54) (s : State), (s.dev.xing x).phase = .holding ∧ lasted s.dev.now (s.dev.xing x).since (ms 10))
    ∧ (∃ (x : Fin 54) (s : State), ((s.dev.xing x).phase ≠ .holding ∨ lasted s.dev.now (s.dev.xing x).since (ms 10) = false))
    ∧ (∃ (x : Fin 54) (down up : List Nat) (b : Nat) (s : State), s.dev.ctl.state ≠ .off ∧ xingBlock x = some b ∧ ((xingHold x down up s.dev).xing x).phase = .holding)
    ∧ (∃ (x : Fin 54) (down up : List Nat) (b : Nat) (s : State), s.dev.ctl.state ≠ .off ∧ xingBlock x = some b ∧ ((xingHold x down up s.dev).xing x).phase = .timedOut)
    ∧ (∃ (x : Fin 54) (down up : List Nat) (b : Nat) (s : State), s.dev.ctl.state ≠ .off ∧ xingBlock x = some b ∧ ((xingHold x down up s.dev).xing x).phase = .running)
    ∧ (∃ (s : State), s.dev.ctl.state ≠ .off)
    ∧ (∃ (s : State), s.dev.ctl.state = .off)
    ∧ (∃ (s : State), s.dev.ctl.state.inService ∧ (s.dev.xing 0).phase ≠ .timedOut ∧ (s.dev.xing 0).phase ≠ .holding)
    ∧ (∃ (s : State), s.dev.ctl.state ≠ .off ∧ s.dev.ctl.state.inService = false ∧ (s.dev.xing 0).phase = .running)
    ∧ (∃ (s : State), s.dev.cross.timebaseStopped)
    ∧ (∃ (s : State), s.dev.cross.timebaseStopped = false)
    ∧ (∃ (s : State), s.dev.active .timebaseFail ∧ s.dev.cross.timebaseStopped = false ∧ s.dev.cross.runsAgain + ms 100 ≤ s.dev.now)
    ∧ (∃ (s : State), s.dev.active .timebaseFail ∧ s.dev.cross.timebaseStopped = false ∧ s.dev.now < s.dev.cross.runsAgain + ms 100)
    ∧ (∃ (s : State), (s.dev.active .timebaseFail = false ∨ s.dev.cross.timebaseStopped))
    ∧ (∃ (q : Path) (s : State), s.dev.takes q .v false ∧ s.dev.ctl.state ≠ .calibrating ∧ (let x := s.dev.path q; (let rest := s.dev.inj.active.filter fun i => !(i.point == x.injPoint && i.arg == x.injArg); injPoints.contains x.injPoint = false)))
    ∧ (∃ (q : Path) (s : State), s.dev.takes q .v false ∧ s.dev.ctl.state ≠ .calibrating ∧ (let x := s.dev.path q; (let rest := s.dev.inj.active.filter fun i => !(i.point == x.injPoint && i.arg == x.injArg); injPoints.contains x.injPoint ∧ injPointsS.contains x.injPoint ∧ s.dev.refusesS q)))
    ∧ (∃ (q : Path) (s : State), s.dev.takes q .v false ∧ s.dev.ctl.state ≠ .calibrating ∧ (let x := s.dev.path q; (let rest := s.dev.inj.active.filter fun i => !(i.point == x.injPoint && i.arg == x.injArg); injPoints.contains x.injPoint ∧ (injPointsS.contains x.injPoint → s.dev.refusesS q = false) ∧ 8 ≤ rest.length)))
    ∧ (∃ (q : Path) (s : State), s.dev.takes q .v false ∧ s.dev.ctl.state ≠ .calibrating ∧ (let x := s.dev.path q; (let rest := s.dev.inj.active.filter fun i => !(i.point == x.injPoint && i.arg == x.injArg); injPoints.contains x.injPoint ∧ (injPointsS.contains x.injPoint → s.dev.refusesS q = false) ∧ rest.length < 8)))
    ∧ (∃ (q : Path) (s : State), s.dev.takes q .v false ∧ s.dev.ctl.state ≠ .calibrating)
    ∧ (∃ (q : Path) (s : State), s.dev.takes q .v false ∧ s.dev.ctl.state = .calibrating)
    ∧ (∃ (k : Fin 8) (i : Injection) (s : State), s.dev.inj.active[k.val]? = some i ∧ i.armedAt + 1000 * i.duration ≤ s.dev.now)
    ∧ (∃ (k : Fin 8) (i : Injection) (s : State), s.dev.inj.active[k.val]? = some i ∧ s.dev.now < i.armedAt + 1000 * i.duration)
    ∧ (∃ (k : Fin 8) (s : State), s.dev.inj.active.length ≤ k.val)
    ∧ (∃ (served : List (Nat × Nat)) (reqs : List (Nat × Nat)) (r : Nat) (n : Nat) (k : Nat) (m : Nat), arbNext served reqs = some (r, n) ∧ served.lookup r = some k ∧ (r, m) ∈ reqs ∧ k < m)
    ∧ (∃ (served reqs : List (Nat × Nat)) (r n m : Nat), arbNext served reqs = some (r, n) ∧ (∀ k m : Nat, served.lookup r = some k → (r, m) ∈ reqs → m ≤ k) ∧ (r, m) ∈ reqs)
    ∧ (∃ (d : Device), d.cross.crypto.holder = none)
    ∧ (∃ (h : Nat × Nat) (d : Device), d.cross.crypto.holder = some h)
    ∧ (∃ (w : Nat × Nat) (d : Device), d.cross.crypto.holder = some w)
    ∧ (∃ (x : Island) (r : Nat) (n : Nat) (v : SettingWrite) (rest : List (Nat × Nat × SettingWrite)), x.link = 2 ∧ x.credits ≠ 0 ∧ x.writes = (r, n, v) :: rest ∧ arbNext x.served (x.writes.map fun w => (w.1, w.2.1)) = some (r, n) ∧ (∀ w ∈ rest, (w.1, w.2.1) ≠ (r, n)))
    ∧ (∃ (x : Island), (x.link ≠ 2 ∨ x.credits = 0 ∨ x.writes = [])) :=
  ⟨⟨1, st (dv .run), by decide +kernel⟩,
   ⟨1, st (dv .boot), by decide +kernel⟩,
   ⟨1, st (cr (fun x => { x with xing := List.replicate 54 { phase := .timedOut } }) (dv .run)), by decide +kernel⟩,
   ⟨1, st (dv .run), by decide +kernel⟩,
   ⟨1, dv .run, by decide +kernel⟩,
   ⟨1, true, dv .run, by decide +kernel⟩,
   ⟨1, st (tm (ms 10) (cr (fun x => { x with xing := List.replicate 54 { phase := .holding, since := some 0 } }) (dv .run))), by decide +kernel⟩,
   ⟨1, st (dv .run), by decide +kernel⟩,
   ⟨1, [7], [], 0, st (cr (fun x => { x with xing := List.replicate 54 { phase := .holding, since := some 0 } }) (dv .run)), by decide +kernel⟩,
   ⟨1, [7], [], 0, st (cr (fun x => { x with xing := List.replicate 54 { phase := .timedOut } }) (dv .run)), by decide +kernel⟩,
   ⟨1, [], [7], 0, st (dv .run), by decide +kernel⟩,
   ⟨st (dv .run), by decide +kernel⟩,
   ⟨st (dv .off), by decide +kernel⟩,
   ⟨st (dv .run), by decide +kernel⟩,
   ⟨st (dv .boot), by decide +kernel⟩,
   ⟨st (cr (fun x => { x with timebaseStopped := true }) (dv .run)), by decide +kernel⟩,
   ⟨st (dv .run), by decide +kernel⟩,
   ⟨st (tm (ms 100) (flt .timebaseFail .module 4 (dv .safe))), by decide +kernel⟩,
   ⟨st (flt .timebaseFail .module 4 (dv .safe)), by decide +kernel⟩,
   ⟨st (dv .run), by decide +kernel⟩,
   ⟨host, st (dv .run), by decide +kernel⟩,
   ⟨host, st (inject 0x0101 ((dv .run).onPort .a fun x => { x with state := .running })), by decide +kernel⟩,
   ⟨host, st { inject 0x0104 (dv .run) with inj := { active := List.replicate 8 { path := host, point := 0, arg := 0, value := 0, duration := 0, armedAt := 0 } } }, by decide +kernel⟩,
   ⟨host, st (inject 0x0104 (dv .run)), by decide +kernel⟩,
   ⟨host, st (dv .run), by decide +kernel⟩,
   ⟨host, st (dv .calibrating), by decide +kernel⟩,
   ⟨0, { path := host, point := 0x0F01, arg := 0, value := 0, duration := 5, armedAt := 0 }, st (tm 5000 (inj 0x0F01 0 0 (dv .run))), by decide +kernel⟩,
   ⟨0, { path := host, point := 0x0F01, arg := 0, value := 0, duration := 5, armedAt := 0 }, st (inj 0x0F01 0 0 (dv .run)), by decide +kernel⟩,
   ⟨0, st (dv .run), by decide +kernel⟩,
   ⟨[(0, 1)], [(0, 1), (0, 2)], 0, 2, 1, 2, by decide +kernel⟩,
   ⟨[], [(0, 1), (0, 2)], 0, 1, 2, by decide +kernel, (by intro k m h; cases h), by decide⟩,
   ⟨dv .run, by decide +kernel⟩,
   ⟨(1, 2), cr (fun x => { x with crypto := { holder := some (1, 2) } }) (dv .run), by decide +kernel⟩,
   ⟨(1, 2), cr (fun x => { x with crypto := { holder := some (1, 2) } }) (dv .run), by decide +kernel⟩,
   ⟨{ link := 2, writes := [(0, 1, .param 0 1)] }, 0, 1, .param 0 1, [], by decide +kernel⟩,
   ⟨{}, by decide +kernel⟩⟩

theorem witness_SelfTestSlices :
    (∃ (s : State), s.dev.ctl.state.selfTests ∧ s.dev.passDue)
    ∧ (∃ (s : State), (s.dev.ctl.state.selfTests = false ∨ s.dev.passDue = false))
    ∧ (∃ (m : Nat) (n : Nat) (c : Fin 512) (s : State), s.dev.ctl.state.selfTests ∧ s.dev.bist.passState ≠ 0 ∧ s.dev.bistReady = false ∧ s.dev.bist.done = [] ∧ bistInPins.contains m ∧ bistOutPins.contains n ∧ s.dev.gateSkipped c = false ∧ s.dev.gatePlaced c)
    ∧ (∃ (s : State) (i : Fin 64), s.dev.ctl.state.selfTests ∧ s.dev.bist.passState ≠ 0 ∧ s.dev.bistReady ∧ s.dev.bist.done.contains (1, i.val) = false)
    ∧ (∃ (s : State) (l : Fin 96), s.dev.ctl.state.selfTests ∧ s.dev.bist.passState ≠ 0 ∧ s.dev.bistReady ∧ s.dev.bist.done.contains (2, l.val) = false)
    ∧ (∃ (s : State) (l : Fin 4), s.dev.ctl.state.selfTests ∧ s.dev.bist.passState ≠ 0 ∧ s.dev.bistReady ∧ s.dev.bist.done.contains (3, l.val) = false)
    ∧ (∃ (s : State) (n : Nat), s.dev.ctl.state.selfTests ∧ s.dev.bist.passState ≠ 0 ∧ s.dev.bistReady ∧ bistInPins.contains n ∧ s.dev.bist.done.contains (4, n) = false)
    ∧ (∃ (s : State) (n : Nat), s.dev.ctl.state.selfTests ∧ s.dev.bist.passState ≠ 0 ∧ s.dev.bistReady ∧ bistOutPins.contains n ∧ s.dev.bist.done.contains (5, n) = false)
    ∧ (∃ (s : State) (g : Fin 512), s.dev.ctl.state.selfTests ∧ s.dev.bist.passState ≠ 0 ∧ s.dev.bistReady ∧ s.dev.bist.done.contains (6, g.val) = false ∧ s.dev.gateSkipped g = false ∧ s.dev.gatePlaced g)
    ∧ (∃ s : State, s.dev.ctl.state.selfTests ∧ s.dev.bist.passState ≠ 0 ∧ s.dev.bistReady ∧ s.dev.bist.failing = [] ∧ s.dev.bist.progress + 1 < passTotal ∧ s.dev.faults.active = [] ∧ s.dev.injectedAt 0x1002 = [] ∧ s.dev.bist.done.contains (1, 63) = false ∧ s.dev.bist.done.contains (2, 95) = false ∧ s.dev.bist.done.contains (3, 3) = false ∧ bistInPins.contains 1281 ∧ s.dev.bist.done.contains (4, 1281) = false ∧ bistOutPins.contains 786 ∧ s.dev.bist.done.contains (5, 786) = false ∧ s.dev.bist.done.contains (6, 0) = false ∧ s.dev.gateSkipped 0 = false ∧ s.dev.gatePlaced 0)
    ∧ (∃ (g : Fin 512) (s : State), s.dev.gateSkipped g = false ∧ s.dev.gatePlaced g = false)
    ∧ (∃ (g : Fin 512) (s : State), s.dev.gateSkipped g ∧ s.dev.ctl.state.selfTests ∧ s.dev.bist.passState ≠ 0 ∧ s.dev.bistReady ∧ s.dev.bist.done.contains (6, g.val) = false ∧ s.dev.bist.progress + 1 < passTotal)
    ∧ (∃ (t : Nat) (k : Nat) (d : Device), injPicks (d.injected 0x1002 k) t)
    ∧ (∃ (s : State), (s.dev.ctl.state.selfTests = false ∨ s.dev.bist.passState = 0))
    ∧ (∃ (s : State), s.dev.bist.passState ≠ 0 ∧ lasted s.dev.now s.dev.bist.passStart (sec 2))
    ∧ (∃ (s : State), (s.dev.bist.passState = 0 ∨ lasted s.dev.now s.dev.bist.passStart (sec 2) = false))
    ∧ (∃ (s : State), s.dev.bist.passState = 2 ∧ lasted s.dev.now s.dev.bist.passStart (sec 12))
    ∧ (∃ (s : State), (s.dev.bist.passState ≠ 2 ∨ lasted s.dev.now s.dev.bist.passStart (sec 12) = false)) :=
  ⟨⟨st (dv .run), by decide +kernel⟩,
   ⟨st (sf (fun x => { x with lineA := false }) (tm 200 (arm .portA (bs (fun x => { x with passState := 1 }) (dv .run))))), by decide +kernel⟩,
   ⟨1281, 786, 0, st (sf (fun x => { x with lineA := false }) (tm 200 (arm .portA (bs (fun x => { x with passState := 1 }) (dv .run))))), by decide +kernel⟩,
   ⟨st bisting, 0, by decide +kernel⟩,
   ⟨st bisting, 0, by decide +kernel⟩,
   ⟨st bisting, 0, by decide +kernel⟩,
   ⟨st bisting, 1281, by decide +kernel⟩,
   ⟨st bisting, 786, by decide +kernel⟩,
   ⟨st gateTest, 0, by decide +kernel⟩,
   ⟨st gateTest, by decide +kernel⟩,
   ⟨0, st (dv .run), by decide +kernel⟩,
   ⟨0, st ((bisting).onChan 0 fun c => { c with disabled := true }), by decide +kernel⟩,
   ⟨2, 3, inj 0x1002 3 2 (dv .run), by decide +kernel⟩,
   ⟨st (dv .run), by decide +kernel⟩,
   ⟨st (tm (sec 2) (bs (fun x => { x with passState := 1, passStart := some 0 }) (dv .run))), by decide +kernel⟩,
   ⟨st (dv .run), by decide +kernel⟩,
   ⟨st (tm (sec 12) (bs (fun x => { x with passState := 2, passStart := some 0 }) (dv .run))), by decide +kernel⟩,
   ⟨st (dv .run), by decide +kernel⟩⟩

theorem witness_StartUp :
    (∃ (factory : Bool) (s : State), s.dev.starting ∧ s.dev.boot.otpDone = false ∧ (factory && s.otp.fusesOk && s.otp.keysOk))
    ∧ (∃ (factory : Bool) (s : State), s.dev.starting ∧ s.dev.boot.otpDone = false ∧ ((factory && s.otp.fusesOk && s.otp.keysOk) = false))
    ∧ (∃ (s : State), (s.dev.starting = false ∨ s.dev.boot.otpDone))
    ∧ (∃ (s : State), s.dev.starting ∧ s.dev.boot.synthLocked = false)
    ∧ (∃ (s : State), (s.dev.starting = false ∨ s.dev.boot.synthLocked))
    ∧ (∃ (s : State), s.dev.starting ∧ s.dev.safety.sc = .start ∧ s.dev.boot.synthLocked ∧ s.dev.untrained = 0)
    ∧ (∃ (good : Bool) (s : State), s.dev.starting ∧ s.dev.safety.sc = .start ∧ s.dev.testTime ∧ (good = false ∨ s.dev.untrained ≠ 0))
    ∧ (∃ (s : State), (s.dev.starting = false ∨ s.dev.safety.sc ≠ .start ∨ s.dev.testTime = false))
    ∧ (∃ (s : State) (b : Bool), s.dev.starting ∧ s.dev.boot.otpDone ∧ s.dev.boot.bankRuns = false ∧ (let r : BankRecord := if s.dev.fw.rec0.seq ≤ s.dev.fw.rec1.seq then s.dev.fw.rec1 else s.dev.fw.rec0; r.next = some b ∧ r.started = false ∧ bankGood s.otp (s.dev.fw.bank b)))
    ∧ (∃ (s : State), s.dev.starting ∧ s.dev.boot.otpDone ∧ s.dev.boot.bankRuns = false ∧ (let r : BankRecord := if s.dev.fw.rec0.seq ≤ s.dev.fw.rec1.seq then s.dev.fw.rec1 else s.dev.fw.rec0; r.next = none ∧ bankGood s.otp (s.dev.fw.bank r.active)))
    ∧ (∃ (s : State), s.dev.starting ∧ s.dev.boot.otpDone ∧ s.dev.boot.bankRuns = false ∧ (let r : BankRecord := if s.dev.fw.rec0.seq ≤ s.dev.fw.rec1.seq then s.dev.fw.rec1 else s.dev.fw.rec0; r.next = none ∧ bankGood s.otp (s.dev.fw.bank r.active) = false ∧ bankGood s.otp (s.dev.fw.bank !r.active)))
    ∧ (∃ (s : State) (b : Bool), s.dev.starting ∧ s.dev.boot.otpDone ∧ s.dev.boot.bankRuns = false ∧ (let r : BankRecord := if s.dev.fw.rec0.seq ≤ s.dev.fw.rec1.seq then s.dev.fw.rec1 else s.dev.fw.rec0; r.next = some b ∧ (r.started ∨ bankGood s.otp (s.dev.fw.bank b) = false) ∧ bankGood s.otp (s.dev.fw.bank r.active)))
    ∧ (∃ s : State, s.dev.starting ∧ s.dev.boot.otpDone ∧ s.dev.boot.bankRuns = false ∧ ∀ b : Bool, bankGood s.otp (s.dev.fw.bank b) = false)
    ∧ (∃ (s : State), (s.dev.starting = false ∨ s.dev.boot.otpDone = false ∨ s.dev.boot.bankRuns))
    ∧ (∃ (s : State), s.dev.ctl.state = .boot ∧ s.dev.boot.fwStarted = false ∧ s.dev.boot.scPassed ∧ s.dev.boot.bankRuns ∧ s.dev.flash.dieMap = [])
    ∧ (∃ (s : State), (s.dev.starting = false ∨ s.dev.boot.scPassed = false ∨ s.dev.boot.bankRuns = false))
    ∧ (∃ (o : Otp) (g : Nat) (r : OtpRecord), o.inForce = some (g, r))
    ∧ (∃ (s : State), Cfg.autoReady s.dev.cfg ∧ s.dev.ctl.state = .standby ∧ s.dev.ctl.firstStandbyDone = false ∧ s.dev.readyOk ∧ s.dev.meas.calState ≠ 1)
    ∧ (∃ (s : State), (s.dev.ctl.state ≠ .standby ∨ s.dev.ctl.firstStandbyDone ∨ Cfg.autoReady s.dev.cfg = false))
    ∧ (∃ (factory : Bool) (record : Bool) (s : State), s.dev.ctl.state ≠ .off ∧ s.dev.ctl.state ≠ .boot ∧ (factory && s.otp.fusesOk && s.otp.keysOk && (record || s.dev.comm.generation == 0)) ∧ s.dev.forcedAt 0x1101 = false)
    ∧ (∃ (factory : Bool) (record : Bool) (s : State), s.dev.ctl.state ≠ .off ∧ s.dev.ctl.state ≠ .boot ∧ ((factory && s.otp.fusesOk && s.otp.keysOk && (record || s.dev.comm.generation == 0)) = false ∨ s.dev.forcedAt 0x1101))
    ∧ (∃ (s : State), (s.dev.ctl.state = .off ∨ s.dev.ctl.state = .boot)) :=
  ⟨⟨true, st (dv .boot), by decide +kernel⟩,
   ⟨true, { st (dv .boot) with otp := { fuses := 2 } }, by decide +kernel⟩,
   ⟨st (bo (fun x => { x with otpDone := true }) (dv .boot)), by decide +kernel⟩,
   ⟨st (dv .boot), by decide +kernel⟩,
   ⟨st (cfg [(0x200003, 1)] (rdy (dv .standby))), by decide +kernel⟩,
   ⟨st (trained (bo (fun x => { x with synthLocked := true }) (dv .boot))), by decide +kernel⟩,
   ⟨false, st (trained (bo (fun x => { x with synthLocked := true }) (dv .boot))), by decide +kernel⟩,
   ⟨st (dv .boot), by decide +kernel⟩,
   ⟨st (choosing { next := some true }), true, by decide +kernel, by decide +kernel, by decide +kernel, rfl, rfl, factory_good⟩,
   ⟨st (choosing {}), by decide +kernel, by decide +kernel, by decide +kernel, rfl, factory_good⟩,
   ⟨st (choosing { active := false } |> fwr fun x => { x with bank0 := { factory := false } }), by decide +kernel, by decide +kernel, by decide +kernel, rfl, by decide +kernel, factory_good⟩,
   ⟨st (choosing { next := some true, started := true }), true, by decide +kernel, by decide +kernel, by decide +kernel, rfl, Or.inl rfl, factory_good⟩,
   ⟨st (choosing {} |> fwr fun x => { x with bank0 := { factory := false }, bank1 := { factory := false } }), by decide +kernel⟩,
   ⟨st (dv .boot), by decide +kernel⟩,
   ⟨st (bo (fun x => { x with scPassed := true, bankRuns := true }) (dv .boot)), by decide +kernel⟩,
   ⟨st (dv .boot), by decide +kernel⟩,
   ⟨{ records := [record] }, 1, record, record_in_force⟩,
   ⟨st (cfg [(0x200003, 1)] (rdy (dv .standby))), by decide +kernel⟩,
   ⟨st (dv .boot), by decide +kernel⟩,
   ⟨true, true, st (dv .safe), by decide +kernel⟩,
   ⟨true, false, st (cfg [(0x200003, 1)] (rdy (dv .standby))), by decide +kernel⟩,
   ⟨st (dv .boot), by decide +kernel⟩⟩

theorem witness_FirmwareUpdate :
    (∃ (q : Path) (s : State), s.dev.takes q .v false ∧ s.dev.ctl.state = .standby ∧ s.dev.fw.state = .receiving)
    ∧ (∃ (q : Path) (s : State), s.dev.takes q .v false ∧ s.dev.ctl.state = .standby ∧ s.dev.fw.state ≠ .receiving)
    ∧ (∃ (q : Path) (s : State), s.dev.takes q .v false ∧ s.dev.ctl.state = .standby ∧ s.dev.fw.state = .verified)
    ∧ (∃ (q : Path) (s : State), s.dev.takes q .v false ∧ s.dev.ctl.state = .standby ∧ s.dev.fw.state ≠ .verified)
    ∧ (∃ (q : Path) (s : State), s.dev.takes q .v false ∧ s.dev.ctl.state ≠ .standby)
    ∧ (∃ (q : Path) (steps : Nat) (s : State), s.dev.takes q .v false ∧ s.dev.ctl.state = .standby ∧ (let x := s.dev.fw.bank s.dev.fw.running; s.otp.fusesOk ∧ s.otp.keysOk ∧ x.secVer ≤ 128 ∧ x.secVer - s.otp.arCount ≤ steps))
    ∧ (∃ (q : Path) (steps : Nat) (s : State), s.dev.takes q .v false ∧ s.dev.ctl.state = .standby ∧ (let x := s.dev.fw.bank s.dev.fw.running; s.otp.fusesOk ∧ s.otp.keysOk ∧ x.secVer ≤ 128 ∧ steps < x.secVer - s.otp.arCount))
    ∧ (∃ (q : Path) (s : State), s.dev.takes q .v false ∧ s.dev.ctl.state = .standby ∧ (s.otp.fusesOk = false ∨ s.otp.keysOk = false))
    ∧ (∃ (x : Firmware), max x.rec0.seq x.rec1.seq + 1 < 2 ^ 32)
    ∧ (∃ (k : Nat), k < 128)
    ∧ (∃ (o : Otp) (n : Nat), o.fusesLegal ∧ o.arCount ≤ n ∧ n ≤ 128)
    ∧ (∃ (s : State), s.dev.fw.state = .erasing)
    ∧ (∃ (s : State), s.dev.fw.state ≠ .erasing)
    ∧ (∃ (q : Path) (l : List Byte) (s : State), s.dev.takes q .v false ∧ l.length = 1024 ∧ (let off := (touchPath q s.dev).current 0x901002 0; s.dev.ctl.state = .standby ∧ s.dev.fw.state = .receiving ∧ off % 1024 = 0 ∧ off < 8388608 ∧ s.dev.fw.written.contains (off / 1024) = false ∧ s.dev.fw.buffer.length < 16))
    ∧ (∃ (q : Path) (l : List Byte) (s : State), s.dev.takes q .v false ∧ l.length = 1024 ∧ (let off := (touchPath q s.dev).current 0x901002 0; (s.dev.ctl.state ≠ .standby ∨ s.dev.fw.state ≠ .receiving)))
    ∧ (∃ (q : Path) (l : List Byte) (s : State), s.dev.takes q .v false ∧ l.length = 1024 ∧ (let off := (touchPath q s.dev).current 0x901002 0; s.dev.ctl.state = .standby ∧ s.dev.fw.state = .receiving ∧ (off % 1024 ≠ 0 ∨ 8388608 ≤ off)))
    ∧ (∃ (q : Path) (l : List Byte) (s : State), s.dev.takes q .v false ∧ l.length = 1024 ∧ (let off := (touchPath q s.dev).current 0x901002 0; s.dev.ctl.state = .standby ∧ s.dev.fw.state = .receiving ∧ off % 1024 = 0 ∧ off < 8388608 ∧ s.dev.fw.written.contains (off / 1024) = false ∧ 16 ≤ s.dev.fw.buffer.length))
    ∧ (∃ (d : Device), d.fw.buffer = [])
    ∧ (∃ (s : State), s.dev.fw.state = .verifying ∧ s.dev.fw.buffer = [] ∧ s.dev.cross.crypto.holder = some (3, 0))
    ∧ (∃ (s : State), (s.dev.fw.state ≠ .verifying ∨ s.dev.fw.buffer ≠ [] ∨ s.dev.cross.crypto.holder ≠ some (3, 0)))
    ∧ (∃ (o : Otp) (x : Bank), (x.secVer < o.arCount ∨ o.fwRevoked.getLsbD x.keyId = true))
    ∧ (∃ (x : Bank), x.factory = false ∧ (x.field 8 4 ≠ 0x1560 ∨ 1 < x.keyId ∨ Config.shake256 (x.bytes 256 x.bodyLen) 512 ≠ x.bytes 32 64 ∨ Config.slhVerify (Config.firmwareKey x.keyId) (signedWith fwContext (x.bytes 0 256)) (x.bytes (256 + x.bodyLen) 29792) = false))
    ∧ (∃ (q : Path) (l : List Byte) (s : State), s.dev.takes q .b false ∧ l.length = 32 ∧ s.dev.boot.idStatus = 1 ∧ s.dev.boot.attest ≠ 1)
    ∧ (∃ (q : Path) (l : List Byte) (s : State), s.dev.takes q .b false ∧ l.length = 32 ∧ s.dev.boot.idStatus ≠ 1)
    ∧ (∃ (q : Path) (l : List Byte) (s : State), s.dev.takes q .b false ∧ l.length = 32 ∧ s.dev.boot.idStatus = 1 ∧ s.dev.boot.attest = 1)
    ∧ (∃ (l : List Byte), l.length = 32)
    ∧ (∃ (s : State), s.dev.boot.attest = 1 ∧ s.dev.boot.latched.length = 176)
    ∧ (∃ (s : State), s.dev.boot.attest ≠ 1) :=
  ⟨⟨host, st { dv .standby with fw := { state := .receiving } }, by decide +kernel⟩,
   ⟨host, st (dv .standby), by decide +kernel⟩,
   ⟨host, st { dv .standby with fw := { state := .verified } }, by decide +kernel⟩,
   ⟨host, st (dv .standby), by decide +kernel⟩,
   ⟨host, st (dv .run), by decide +kernel⟩,
   ⟨host, 5, st (fwr (fun x => { x with bank0 := bankF 1 }) (dv .standby)), by decide +kernel⟩,
   ⟨host, 0, st (fwr (fun x => { x with bank0 := bankF 1 }) (dv .standby)), by decide +kernel⟩,
   ⟨host, { st (dv .standby) with otp := { fuses := 2 } }, by decide +kernel⟩,
   ⟨{}, by decide +kernel⟩,
   ⟨5, by decide +kernel⟩,
   ⟨{ fuses := 3 }, 128, fuses_legal⟩,
   ⟨st { dv .standby with fw := { state := .erasing } }, by decide +kernel⟩,
   ⟨st (dv .standby), by decide +kernel⟩,
   ⟨host, List.replicate 1024 0, st { dv .standby with fw := { state := .receiving } }, by decide +kernel⟩,
   ⟨host, List.replicate 1024 0, st (dv .standby), by decide +kernel⟩,
   ⟨host, List.replicate 1024 0, st (cfg [(0x901002, 8388608)] { dv .standby with fw := { state := .receiving } }), by decide +kernel⟩,
   ⟨host, List.replicate 1024 0, st (fwr (fun x => { x with state := .receiving, buffer := List.replicate 16 (0, []) }) (dv .standby)), by decide +kernel⟩,
   ⟨dv .run, by decide +kernel⟩,
   ⟨st (fwr (fun x => { x with state := .verifying }) (cr (fun x => { x with crypto := { holder := some (3, 0) } }) (dv .standby))), by decide +kernel⟩,
   ⟨st (dv .standby), by decide +kernel⟩,
   ⟨{ fuses := 3 }, bankF 1, by exact Or.inl (by decide +kernel)⟩,
   ⟨bankF 1, rfl, Or.inl (by decide +kernel)⟩,
   ⟨host, List.replicate 32 7, st (bo (fun x => { x with idStatus := 1 }) (dv .run)), by decide +kernel⟩,
   ⟨host, List.replicate 32 7, st (dv .standby), by decide +kernel⟩,
   ⟨host, List.replicate 32 7, st (bo (fun x => { x with idStatus := 1, attest := 1 }) (dv .run)), by decide +kernel⟩,
   ⟨List.replicate 32 7, by decide +kernel⟩,
   ⟨st (bo (fun x => { x with attest := 1, latched := List.replicate 176 0 }) (dv .run)), by decide +kernel⟩,
   ⟨st (dv .standby), by decide +kernel⟩⟩

theorem witness_IdleAndReset :
    (∃ (s : State), s.pending = []) :=
  ⟨State.reset, by decide +kernel⟩

theorem witness_RefusedRequests :
    (∃ (c : Instr) (q : Path) (lvl : ObjLevel) (inFault : Bool) (s : State) (e : W32), s.asks c = some (q, lvl, inFault) ∧ s.dev.ctl.state ≠ .off ∧ s.dev.turnedAway q lvl inFault = some e)
    ∧ (∃ (c : Instr) (q : Path) (lvl : ObjLevel) (inFault : Bool) (s : State), s.asks c = some (q, lvl, inFault) ∧ s.dev.ctl.state = .off) :=
  ⟨⟨.moduleCmdStop host, host, .b, false, st (dv .boot), Abort.busy, rfl, by decide +kernel, by decide +kernel⟩,
   ⟨.moduleCmdStop host, host, .b, false, st (dv .off), rfl, by decide +kernel⟩⟩

theorem witness_FaultReactions :
    (∃ (f : FaultName) (sc : Scope) (r : Fin 5) (e : FaultEntry) (s : State), s.dev.ctl.state ≠ .off ∧ s.dev.entry? f sc = some e ∧ r.val ≤ e.reaction ∧ e.acts.contains (sc, r.val) ∧ s.dev.inj.active = [])
    ∧ (∃ (f : FaultName) (s : State), s.dev.ctl.state ≠ .off ∧ f ≠ .proofTest)
    ∧ (∃ (f : FaultName) (s : State), s.dev.ctl.state ≠ .off ∧ s.dev.ctl.state ≠ .fault ∧ s.dev.entry? f .module = none)
    ∧ (∃ (f : FaultName) (s : State), s.dev.ctl.state = .run ∧ s.dev.entry? f .module = none)
    ∧ (∃ (s : State), s.dev.ctl.state ≠ .off)
    ∧ (∃ (f : FaultName) (s : State), s.dev.ctl.state ≠ .off ∧ s.dev.entry? f (.stage .conv) = none)
    ∧ (∃ (p : PortId) (s : State), (s.dev.port p).state = .stopping ∧ s.dev.f2TimeOver p)
    ∧ (∃ (p : PortId) (s : State), ((s.dev.port p).state ≠ .stopping ∨ s.dev.f2TimeOver p = false)) :=
  ⟨⟨.linkHigh, .module, 1, { name := .linkHigh, scope := .module, reaction := 1, acts := [(.module, 1)], time := 0 }, st (flt .linkHigh .module 1 (dv .run)), by decide +kernel⟩,
   ⟨.linkHigh, st (flt .linkHigh .module 1 (dv .run)), by decide +kernel⟩,
   ⟨.linkHigh, st (dv .run), by decide +kernel⟩,
   ⟨.linkHigh, st (dv .run), by decide +kernel⟩,
   ⟨st (flt .linkHigh .module 1 (dv .run)), by decide +kernel⟩,
   ⟨.linkHigh, st (flt .linkHigh .module 1 (dv .run)), by decide +kernel⟩,
   ⟨.a, st (tm (sec 1000) (po .a (fun x => { x with state := .stopping, stop := .f2, stopStart := some 0 }) (dv .run))), by decide +kernel⟩,
   ⟨.a, st (flt .linkHigh .module 1 (dv .run)), by decide +kernel⟩⟩

theorem witness_OtpGrows :
    (∃ s t : State, step s = .next t) :=
  ⟨st (dv .run), _, rfl⟩

theorem witness_OtpLegalKept :
    (∃ s t : State, s.otp.Legal ∧ step s = .next t) :=
  ⟨st (dv .run), _, reset_legal, rfl⟩

theorem witness_CommandsComplete :
    ∃ (c : Instr), (c ≠ .logicInLoss ∧ (∀ good : Bool, c ≠ .commBurnDone good) ∧ (∀ q n b, c ≠ .fwCmdAccept q n b)
        ∧ (∀ q l, c ≠ .keyProvision q l) ∧ (∀ q k, c ≠ .keyRevoke q k) ∧ (∀ q ix sub l, c ≠ .stagedWrite q ix sub l)
        ∧ (∀ q ix sub l, c ≠ .liveWrite q ix sub l) ∧ (∀ b n r, c ≠ .usdoRequest b n r) ∧ (∀ j l, c ≠ .rpdoRx j l)
        ∧ (∀ h ip port b, c ≠ .hkWrite h ip port b)) :=
  ⟨.moduleCmdRun host, by simp⟩

/-! ## Ill-formed commands: one for each check -/

/-- One channel read twice. -/
def twice : List BitStream := [{ ch := 1, clocks := [] }, { ch := 1, clocks := [{ bit := true }] }]

theorem test_wf_beat_evals :
    WellFormed (.beatStart { evals := twice }) = false := by decide
theorem test_wf_beat_ended :
    WellFormed (.beatStart { ended := [(.linkUv, .module), (.linkUv, .module)] }) = false := by decide
theorem test_wf_slot : WellFormed (.slotSample 3 twice) = false := by decide
theorem test_wf_fast_words : WellFormed (.fastWordPublish twice) = false := by decide
theorem test_wf_comp_exit : WellFormed (.compExit 1 0 twice) = false := by decide
theorem test_wf_comp_rearm : WellFormed (.comparatorRearm 1 twice) = false := by decide
theorem test_wf_gate_command : WellFormed (.gateCommand 0 [(1, true), (1, false)] 0 0 []) = false := by decide
theorem test_wf_gate_observed :
    WellFormed (.gateCommand 0 [] 0 0 [{ die := 3 }, { die := 3, gateShort := true }]) = false := by decide
theorem test_wf_leak_high : WellFormed (.gateLeakWindow [7, 7] []) = false := by decide
theorem test_wf_leak_unmeasured : WellFormed (.gateLeakWindow [] [7, 7]) = false := by decide
theorem test_wf_die_temps : WellFormed (.dieTempEval [(4, some 8), (4, none)]) = false := by decide
theorem test_wf_die_retest : WellFormed (.dieRetestDone [4, 4]) = false := by decide
theorem test_wf_test_pulse : WellFormed (.testPulse 0 [2, 2]) = false := by decide
theorem test_wf_can_classic :
    WellFormed (.canFrameRx .canA { ident := 1, fd := false, data := List.replicate 9 0 } 0) = false := by decide
theorem test_wf_can_fd : WellFormed (.canFrameRx .canA { ident := 1, data := List.replicate 65 0 } 0) = false := by decide
theorem test_wf_can_xl :
    WellFormed (.canFrameRx .canA { ident := 1, xl := true, data := List.replicate 2049 0 } 0) = false := by decide +kernel
theorem test_wf_dorid : WellFormed (.doridFrameRx 0 0 (List.replicate 65 0)) = false := by decide
theorem test_wf_guy : WellFormed (.guyFrameRx 0 (List.replicate 405 0) true) = false := by decide +kernel
theorem test_wf_chunk : WellFormed (.fwChunk host (List.replicate 1029 0)) = false := by decide +kernel
theorem test_wf_hk_read : WellFormed (.hkRead hkHead 1 1 (List.replicate 1473 0)) = false := by decide +kernel
theorem test_wf_hk_write : WellFormed (.hkWrite hkHead 1 1 (List.replicate 1473 0)) = false := by decide +kernel
theorem test_wf_hk_block : WellFormed (.hkReadBlock hkHead 1 1 (List.replicate 1473 0)) = false := by decide +kernel
theorem test_wf_hk_open : WellFormed (.hkSessionOpenRequest hkHead 1 1 (List.replicate 1473 0)) = false := by decide +kernel
theorem test_wf_hk_proof : WellFormed (.hkSessionProof hkHead 1 1 (List.replicate 1473 0)) = false := by decide +kernel
theorem test_wf_hk_close : WellFormed (.hkSessionClose hkHead 1 1 (List.replicate 1473 0)) = false := by decide +kernel
theorem test_wf_datagram : WellFormed (.hkRead hkHead 1 1 (List.replicate 1472 0)) = true := by decide +kernel

/-! ## The spec's own figures -/

/-- The check value of R323. -/
theorem test_crc : crc32c [0x31#8, 0x32#8, 0x33#8, 0x34#8, 0x35#8, 0x36#8, 0x37#8, 0x38#8, 0x39#8] = 0xE3069283#32 := by
  decide +kernel

/-- The worked example of chapter 1: MODULE_STATUS 0x51588C3A. -/
theorem test_module_status :
    (ct (fun c => { c with partnerPresent := true, fabricSpeed := 0x8C, margins := [(0, 0x3A)] })
      (th (fun x => { x with throttled := true }) (cfg [(0x200002, 2)] (dv .run)))).moduleStatus = 0x51588C3A := by
  decide +kernel

/-- The pedal curve of Table 4.3: (0.50, 0), (1.00, 40), (6.00, 600), (9.50, 900). -/
def pedal : Settings :=
  [(0x601101, 0x3F000000), (0x601102, 0x3F800000), (0x601103, 0x40C00000), (0x601104, 0x41180000),
   (0x601201, 0), (0x601202, 0x42200000), (0x601203, 0x44160000), (0x601204, 0x44610000)]
theorem test_curve_low : curveFrom pedal .a (95 / 100) 3 0 = 36 := by decide +kernel
theorem test_curve_mid : curveFrom pedal .a (35 / 10) 3 0 = 320 := by decide +kernel
theorem test_curve_high : curveFrom pedal .a (775 / 100) 3 0 = 750 := by decide +kernel

/-- The worked example of chapter 5: 300.0 us after tooth index 8, and 10 ms after tooth index 70, where two positions remain
to the next edge. -/
theorem test_wheel_angle : (100 * Wheel.angleNow [] 0 300000
    { syncSearch := false, index := 8, lastEdge := some 0, lastPitch := some 694444 }).floor = 4216 := by decide +kernel
theorem test_wheel_speed : Wheel.speedNow { teeth := 72, refType := 1, gapN := 1, avg := 8, ratio := 1 } 10000000
    { syncSearch := false, index := 70, lastEdge := some 0, lastSpeed := 1200 } = 500 / 3 := by decide +kernel

/-- The two words of the worked example of chapter 6. -/
theorem test_fine_invalid : ({ fineSeq := 3, fineResult := 0x3F2A10 } : MeasChan).fineWord = 0x183F2A10 := by decide +kernel
theorem test_fine_overrun :
    ({ fineSeq := 9, fineOverrun := true, fineValid := true, fineResult := 3051972 } : MeasChan).fineWord = 0x4E2E91C4 := by
  decide +kernel

/-- The worked example of chapter 7: the first closed output of CS24. -/
theorem test_slot_first_output :
    (slotCompute 1 [-2, 5186815, 160429, -5026386, 0, 1, -6383251, 2188947, 0] 0 (8388607, 0) 104960
      [104960, 104960] [2097152, 2097152]).1 = 2098156 := by decide +kernel

/-- R212's own figures: 1.1 times 1,350 V. -/
theorem test_setpoint : (fine 12 1350 (cfg [(0x280002, 1400)] (dv .run))).linkSetpoint = 1485 := by decide +kernel

/-- The worked example of chapter 11: 162 degrees on a die, 67 degrees at the coolant inlet. -/
theorem test_die_factor : fall 150 180 0 162 = 60 / 100 := by decide +kernel
theorem test_coolant_factor : (coolantInlet (some 67) (dv .run)).therm.coolFactor = 84 / 100 := by decide +kernel

/-- The worked example of chapter 13: module time 6,553,600.5 ms, TSTAMP 65,530. -/
theorem test_age : (tm 6553600500000 (dv .run)).ageOf 65530 = 11 := by decide +kernel

/-- The worked example of chapter 17: fuses 4 and 5 burnt on AR_COUNT 4. -/
theorem test_anti_rollback : (Otp.burnFuses 6 { fuses := 15 }).arCount = 6 := by decide +kernel

/-! ## Single steps -/

theorem test_idle : step State.reset = .next State.reset := rfl
theorem test_no_word (n w : Nat) : decodeTableWord n w = none := rfl

/-- A step, as far as it goes. -/
def after (c : Instr) (s : State) : State :=
  match step { s with pending := [c] } with
  | .next t => t
  | _ => s

/-- MODULE_CMD RUN in READY (Table 1.6). -/
theorem test_run : (after (.moduleCmdRun host) (st (sf (fun x => { x with sc := .run }) (dv .ready)))).dev.ctl.state = .run := by
  decide +kernel
/-- R219: 1,721 V trip the link; F4 brings SAFE. -/
theorem test_link_trip : (after .linkTrip (st (tm 2000 (wa [.linkTrip] (link 1721 (dv .standby)))))).dev.ctl.state = .safe := by decide +kernel
/-- The queue gives up its front command only. -/
theorem test_queue : (match step { State.reset with pending := [.linkUv, .linkTrip] } with
    | .next t => t.pending
    | _ => []) = [.linkTrip] := by decide +kernel

end Sys2Proof.Tests
end

section
/-!
PROOFS of the statements about module control (chapter 1), the gate channels (chapter 2), the decision and the output tick of the
engine (chapter 3), the beat, the requests that are turned away and the fault reports.
-/

namespace Sys2Proof.Machine

/-! ## Commands under a condition -/

/-- A command that does nothing in OFF acts in every other state. -/
theorem next_unless_off {s : State} (f : Device → Device) (h : s.dev.ctl.state ≠ .off) :
    (.next (if s.dev.ctl.state = .off then s else s.onDev f) : Host.Outcome State Fault Refusal) = .next (s.onDev f) :=
  congrArg Host.Outcome.next (if_neg h)

theorem State.onDev_eq_self {s : State} {f : Device → Device} (h : f s.dev = s.dev) : s.onDev f = s := by
  unfold State.onDev
  rw [h]

theorem Device.each_ports (f : PortId → Device → Device) (d : Device) : d.each ports f = f .b (f .a d) := rfl

/-! ## Writes and reads over a path -/

theorem hostWrite_off {q : Path} {lvl : ObjLevel} {inFault : Bool} {f : State → W32 × State} {s : State}
    (h : s.dev.ctl.state = .off) : hostWrite q lvl inFault f s = s := if_pos h

theorem hostRead_off {q : Path} {lvl : ObjLevel} {f : State → W32 × List Byte × State} {s : State}
    (h : s.dev.ctl.state = .off) : hostRead q lvl f s = s := if_pos h

/-- A read that is turned away leaves everything but the path and the answer as it was. -/
theorem hostRead_away {q : Path} {lvl : ObjLevel} {f : State → W32 × List Byte × State} {s : State} {e : W32}
    (h0 : s.dev.ctl.state ≠ .off) (h1 : s.dev.turnedAway q lvl true = some e) :
    hostRead q lvl f s = { s with dev := answer q e [] (touchPath q s.dev) } := by
  unfold Device.turnedAway at h1
  unfold hostRead
  simp only [touchPath_busyOn, touchPath_noBank, touchPath_levelOpen, h0, if_false]
  split at h1
  · cases h1; simp_all
  split at h1
  · cases h1; simp_all
  split at h1
  · cases h1; simp_all
  simp at h1

/-- A command that asks is a write at its level, or a read, which FAULT takes (R385, R386, Table 1.6). -/
theorem exec_of_asks {c : Instr} {q : Path} {lvl : ObjLevel} {inFault : Bool} {s : State}
    (h : s.asks c = some (q, lvl, inFault)) :
    (∃ f, exec c s = .next (hostWrite q lvl inFault f s))
      ∨ (inFault = true ∧ ∃ f, exec c s = .next (hostRead q lvl f s)) := by
  cases c
  case fineResultRead | chanStatusRead | rxEntryRead | eventPop =>
    cases h
    exact .inr ⟨rfl, _, rfl⟩
  all_goals cases h
  all_goals exact .inl ⟨_, rfl⟩

/-- A write of a command object of the device that is taken: the command runs on the device whose path is in use, and its
answer goes out. -/
theorem hostWrite_devCmd {q : Path} {lvl : ObjLevel} {inFault : Bool} {f : Device → W32 × Device} {s : State} {code : W32}
    {g : Device → Device} (h : s.dev.takes q lvl inFault) (hf : f (touchPath q s.dev) = (code, g (touchPath q s.dev))) :
    hostWrite q lvl inFault (devCmd f) s = s.onDev fun d => answer q code [] (g (touchPath q d)) := by
  rw [hostWrite_takes h]
  simp only [devCmd, hf]
  rfl

/-- A command that is refused is answered and changes nothing but the path's use. -/
theorem hostWrite_devCmd_refused {q : Path} {lvl : ObjLevel} {inFault : Bool} {f : Device → W32 × Device} {s : State}
    {code : W32} (h : s.dev.takes q lvl inFault) (hf : f (touchPath q s.dev) = (code, touchPath q s.dev)) :
    hostWrite q lvl inFault (devCmd f) s = s.onDev fun d => answer q code [] (touchPath q d) :=
  hostWrite_devCmd (g := id) h hf

/-- A path whose write is taken has the level open (R386). -/
theorem Device.levelOpen_of_takes {d : Device} {q : Path} {lvl : ObjLevel} {inFault : Bool} (h : d.takes q lvl inFault) :
    d.levelOpen q lvl = true := by
  obtain ⟨-, h⟩ := h
  unfold Device.turnedAway at h
  cases hl : d.levelOpen q lvl with
  | true => rfl
  | false =>
    simp only [hl, Bool.not_false, if_true] at h
    split at h
    · cases h
    · split at h <;> cases h

/-- Level V is open while SERVICE_N is low and the path holds a session (Table 15.4). -/
theorem Device.session_of_levelOpen_v {d : Device} {q : Path} (h : d.levelOpen q .v = true) :
    d.ctl.serviceNLow = true ∧ (d.path q).session.isSome = true := by
  unfold Device.levelOpen at h
  cases hx : (d.path q).session <;> simp_all

@[simp] theorem touchPath_session_isSome (q : Path) (d : Device) :
    ((touchPath q d).path q).session.isSome = (d.path q).session.isSome := by
  simp [touchPath, Device.onPath_path]

@[simp] theorem touchPath_readyOk (q : Path) (d : Device) : (touchPath q d).readyOk = d.readyOk := rfl
@[simp] theorem touchPath_runOk (q : Path) (d : Device) : (touchPath q d).runOk = d.runOk := rfl
@[simp] theorem touchPath_shifting (q : Path) (d : Device) : (touchPath q d).shifting = d.shifting := rfl
@[simp] theorem touchPath_paired (q : Path) (d : Device) : (touchPath q d).paired = d.paired := rfl

/-! ## Supply and module state -/

/-- A loss of the logic supply with no burn under way leaves the OTP store as it is (R338, R444). -/
theorem burnLost_eq_self {s : State} (h : s.dev.comm.burning = none) : burnLost s = s.otp := by
  unfold burnLost
  rw [h]

/-- A hand-over is asked for: the request names a frame boundary at least 100 us ahead (R30, R35). -/
def handoverAsked (d : Device) : Device :=
  let t := frameBoundary (d.now + 100000)
  let d := clearFault .handoverAbort .module d
  { d with
    ctl := { d.ctl with handoverT := some t, handoverAcked := false }
    net := { d.net with guy := { d.net.guy with hoReq := true, eventT := t } } }

theorem cmdHandover_ok {d : Device} (hp : d.paired) (hl : d.ctl.lead) (hpp : d.ctl.partnerPresent)
    (hs : d.shifting = false) (ht : d.ctl.handoverT = none) : cmdHandover d = (Abort.ok, handoverAsked d) :=
  if_pos ⟨hp, hl, hpp, by simp [hs], by simp [ht]⟩

/-- A late result that completes, in any state but OFF (R17). -/
theorem exec_lateResultDiscard {c : Computation} {s : State} {d' : Device} (h : s.dev.ctl.state ≠ .off)
    (hd : lateDiscard c s.dev = d') : exec (.lateResultDiscard c) s = .next { s with dev := d' } :=
  (next_unless_off _ h).trans (congrArg (fun x => Host.Outcome.next { s with dev := x }) hd)

/-- No injection is active. -/
def Device.noInj (d : Device) : Prop := d.inj.active = []

theorem ite_noInj (f : Device → Device) (c : Prop) [Decidable c] {x : Device} (hf : ∀ y : Device, y.noInj → (f y).noInj)
    (hx : x.noInj) : (if c then f x else x).noInj := by
  split
  · exact hf x hx
  · exact hx

theorem proofEnd_noInj (d : Device) (h : d.noInj) : (proofEnd d).noInj := by
  unfold Device.noInj at *
  simp only [proofEnd]
  split
  · split <;> simp
  · exact h

/-- No passage to a state arms an injection. -/
theorem setState_noInj (m : ModState) {d : Device} (h : d.noInj) : (setState m d).noInj := by
  unfold setState
  exact ite_noInj proofEnd _ proofEnd_noInj
    (ite_noInj (fun x => { x with chg := { x.chg with lostHold := false } }) _ (fun _ hy => hy)
      (ite_noInj (fun x => { x with inj := { x.inj with active := [] } }) _ (fun _ _ => rfl)
        (ite_noInj (fun x => { x with gates := { x.gates with retestState := 3 } }) _ (fun _ hy => hy)
          (ite_noInj chainStop _ (fun y hy => by simpa [Device.noInj] using hy)
            (ite_noInj chargeIdle _ (fun y hy => by simpa [Device.noInj] using hy) h)))))

theorem calStart_noInj {d : Device} (h : d.noInj) : (calStart d).noInj := by
  unfold Device.noInj at *
  simp only [calStart]
  split <;> simpa

theorem enterStandby_noInj {d : Device} (h : d.noInj) : (enterStandby d).noInj := by
  have hs : (setState .standby d).noInj := setState_noInj _ h
  simp only [enterStandby]
  split
  · exact calStart_noInj hs
  · exact ite_noInj chainStart _ (fun _ hy => hy) hs

/-- SERVICE_N high leaves SERVICE for STANDBY and keeps every other state (R22). -/
theorem serviceHigh_state (d : Device) :
    (serviceHigh d).ctl.state = if d.ctl.state = .service then .standby else d.ctl.state := by
  simp only [serviceHigh, dropServiceLevel, proofEnd_frame]
  split <;> simp

theorem serviceHigh_serviceNLow (d : Device) : (serviceHigh d).ctl.serviceNLow = false := by
  simp only [serviceHigh, dropServiceLevel, proofEnd_frame]
  split <;> simp [enterStandby_ctl]

/-- SERVICE_N high withdraws every injection (R22). -/
theorem serviceHigh_noInj (d : Device) : (serviceHigh d).noInj :=
  ite_noInj enterStandby _ (fun _ => enterStandby_noInj) rfl

theorem portOff_state (p q : PortId) (d : Device) : ((portOff p d).port q).state = (d.port q).state := by
  have h : ((portOff p d).port q).still.state = (d.port q).still.state := congrArg Port.state (portOff_still p d q)
  exact h

theorem ascExit_frame (p : PortId) (d : Device) :
    (ascExit p d).ctl = d.ctl ∧ (ascExit p d).faults = d.faults ∧ (ascExit p d).od = d.od := by
  simp [ascExit]

/-- A port in ASC goes to STO (R28). -/
theorem ascExit_of_asc {p : PortId} {d : Device} (h : (d.port p).state = .asc) :
    ((ascExit p d).port p).state = .sto := by
  simp [ascExit, portOff_state, h]

/-- A port in FAULT stays there and ends its ASC (R28). -/
theorem ascExit_of_fault {p : PortId} {d : Device} (h : (d.port p).state = .fault) :
    ((ascExit p d).port p).state = .fault ∧ ((ascExit p d).port p).faultAsc = false := by
  simp [ascExit, portOff_state, h]

/-! ## The pair -/

@[simp] theorem lateMisc_frame (late : Bool) (d : Device) :
    (lateMisc late d).ctl = d.ctl ∧ (lateMisc late d).faults = d.faults ∧ (lateMisc late d).od = d.od := by
  cases late <;> exact ⟨rfl, rfl, rfl⟩

@[simp] theorem giveSpeed_frame (p : PortId) (d : Device) :
    (giveSpeed p d).ctl = d.ctl ∧ (giveSpeed p d).faults = d.faults ∧ (giveSpeed p d).gates = d.gates
      ∧ (giveSpeed p d).od = d.od := by
  simp [giveSpeed]

@[simp] theorem takeSpeed_frame (p : PortId) (d : Device) :
    (takeSpeed p d).ctl = d.ctl ∧ (takeSpeed p d).faults = d.faults ∧ (takeSpeed p d).gates = d.gates
      ∧ (takeSpeed p d).od = d.od := by
  unfold takeSpeed
  extract_lets ref x
  split <;> simp [x]

/-- A hand-over exchanges the roles and leaves faults, gates and objects alone (R35). -/
theorem handover_frame (d : Device) :
    (handover d).ctl = { d.ctl with
        lead := !d.ctl.lead, handoverT := none, handoverGiven := none, handoverAcked := false, handoverPending := false }
      ∧ (handover d).faults = d.faults ∧ (handover d).gates = d.gates ∧ (handover d).od = d.od := by
  simp only [handover, Device.each_ports]
  split <;> simp

theorem isSome_of_reached {now : Nanos} {t : Option Nanos} (h : reached now t) : t.isSome := by
  cases t with
  | none => cases h
  | some u => rfl

/-- A pending hand-over is dropped (R35, step 4). -/
def handoverDropped (d : Device) : Device :=
  { d with
    ctl := { d.ctl with handoverT := none, handoverGiven := none, handoverAcked := false, handoverPending := false }
    net := { d.net with guy := { d.net.guy with hoReq := false, hoAck := false } } }

/-- The lead that drops a hand-over reports it (R35). -/
theorem handoverAbort_of_lead {d : Device} (hl : d.ctl.lead) (ht : d.ctl.handoverT.isSome) :
    handoverAbort d = raise .handoverAbort .module 0 (handoverDropped d) :=
  if_pos (by simp [hl, ht])

/-- A follower drops a hand-over in silence (log entry 32). -/
theorem handoverAbort_of_follower {d : Device} (hl : d.ctl.lead = false) : handoverAbort d = handoverDropped d :=
  if_neg (by simp [hl])

/-- The loss of the partner, for module control: a running module leads alone from then on (R36). -/
theorem losePartner_ctl (d : Device) :
    (losePartner d).ctl.partnerPresent = false ∧ (losePartner d).ctl.handoverT = none
      ∧ (losePartner d).ctl.handoverPending = false
      ∧ (d.ctl.state = .run → (losePartner d).ctl.lead = true ∧ (losePartner d).ctl.partnerAbsent = true
          ∧ (losePartner d).ctl.partnerLossCount = (d.ctl.partnerLossCount + 1) % 2 ^ 16)
      ∧ (d.ctl.state ≠ .run → (losePartner d).ctl.lead = d.ctl.lead ∧ (losePartner d).faults = d.faults) := by
  have hr (x : Device) : (raise .partnerLost .module 1 x).ctl = x.ctl := raise_ctl _ _ _ _ (by decide) (by decide)
  by_cases h : d.ctl.state = .run
  · simp [losePartner, loseRunning, h, hr, addWrap]
  · simp [losePartner, h]

theorem losePartner_od (d : Device) : (losePartner d).od = d.od := by
  simp only [losePartner, loseRunning]
  split <;> simp

/-- Entry to RUN from READY ends no fault. -/
theorem enterRun_faults {d : Device} (h : d.ctl.state = .ready) : (enterRun d).faults = d.faults := by
  simp [enterRun, setState, h, ModState.chainRuns]

/-- The returned module runs as a follower (R38). -/
theorem joinRun_ctl (d : Device) :
    (joinRun d).ctl.state = .run ∧ (joinRun d).ctl.lead = false ∧ (joinRun d).ctl.partnerAbsent = false
      ∧ (joinRun d).ctl.joinT = none := by
  simp [joinRun, enterRun]

/-! ## Reports to the fault manager -/

theorem injHit_eq_self {d : Device} (f : FaultName) (sc : Scope) (h : d.inj.active = []) : injHit f sc d = d := by
  simp only [injHit, h, List.any_nil, Bool.false_eq_true, if_false, List.filter_nil]
  rw [← h]

theorem brakeHit_nil (f : FaultName) (d : Device) : brakeHit f [] d = d := by
  simp [brakeHit, Device.each]

/-- A report of a fault that is active with that reaction and acts there already changes nothing (R25). -/
theorem raise_eq_self {f : FaultName} {sc : Scope} {r : Nat} {e : FaultEntry} {d : Device} (he : d.entry? f sc = some e)
    (hr : r ≤ e.reaction) (ha : e.acts.contains (sc, r)) (hi : d.inj.active = []) : raise f sc r d = d := by
  have hm : [(sc, r)].filter (fun a => !e.acts.contains a) = [] := by simp_all
  simp only [raise, raiseActs, injHit_eq_self f sc hi, he, hr, if_true, hm, brakeHit_nil]
  simp [Device.each]

/-- A fault that is not yet active is recorded and acts where it is reported (R24). -/
theorem raise_new {f : FaultName} {sc : Scope} {d : Device} (r : Nat) (h : d.entry? f sc = none) :
    ∃ x : Device, raise f sc r d = brakeHit f [(sc, r)] (reactOne f.latched (sc, r) x) ∧ x.ctl = d.ctl
      ∧ x.gates = d.gates := by
  simp only [raise, raiseActs, injHit_entry, h]
  exact ⟨_, rfl, by simp, by simp⟩

/-- A report ends no other fault but that of proof-test mode (R340). -/
theorem raise_mem {f : FaultName} {sc : Scope} (r : Nat) {e : FaultEntry} {d : Device} (he : e ∈ d.faults.active)
    (hn : e.name ≠ .proofTest) (ho : e.name ≠ f ∨ e.scope ≠ sc) : e ∈ (raise f sc r d).faults.active := by
  have hb : ¬ (e.name == f && e.scope == sc) = true := by
    obtain h | h := ho <;> simp [h]
  have hm (g : FaultEntry → FaultEntry) :
      e ∈ d.faults.active.map fun x => if x.name == f && x.scope == sc then g x else x :=
    List.mem_map.mpr ⟨e, he, if_neg hb⟩
  simp only [raise, raiseActs]
  split
  · split
    · exact brakeHit_mem _ _ (each_reactOne_mem _ _ _ (by simpa using hm _) hn)
    · exact brakeHit_mem _ _ (each_reactOne_mem _ _ _ (by simpa using hm _) hn)
  · exact brakeHit_mem _ _ (each_reactOne_mem _ _ _ (by simp [he]) hn)

/-- F2 at module scope takes RUN to STOPPING (Table 1.7). -/
theorem reactOne_f2_module (l : Bool) {d : Device} (h : d.ctl.state = .run) :
    (reactOne l (.module, 2) d).ctl.state = .stopping := by
  simp [reactOne, h]

/-- An update of a stage shows in it; a stage that does not exist reads as the stage at rest before and after. -/
theorem Device.onStage_stage (sg : StageGroup) (f : Stage → Stage) (d : Device) :
    (d.onStage sg f).stage sg = f (d.stage sg) ∨ ((d.onStage sg f).stage sg = {} ∧ d.stage sg = {}) := by
  cases hx : d.gates.stages[sg.num]? <;> simp [Device.onStage, Device.stage, hx]

/-- F2 on the battery converter sets its ramp to zero power off where it runs (R24). -/
theorem reactOne_f2_conv (l : Bool) (d : Device) :
    (reactOne l (.stage .conv, 2) d).ctl = d.ctl
      ∧ ((reactOne l (.stage .conv, 2) d).stage .conv).ramping = (d.stage .conv).running := by
  have hr : reactOne l (.stage .conv, 2) d
      = (sliceReact (.stage .conv, 2) d).onStage .conv fun g => { g with ramping := g.running } := rfl
  have hs : (sliceReact (.stage .conv, 2) d).stage .conv = d.stage .conv := by simp [Device.stage]
  refine ⟨reactOne_ctl _ _ _ (by decide) (by decide), ?_⟩
  rw [hr, ← hs]
  obtain h | ⟨h, h0⟩ := Device.onStage_stage .conv (fun g => { g with ramping := g.running })
    (sliceReact (.stage .conv, 2) d)
  · rw [h]
  · rw [h, h0]

/-- A reaction below F2 acts on no gate and no supply stage (Table 1.7). -/
theorem reactOne_low (l : Bool) (sc : Scope) {r : Nat} (h : r < 2) (d : Device) :
    (reactOne l (sc, r) d).gates = d.gates ∧ (reactOne l (sc, r) d).supply = d.supply := by
  unfold reactOne
  dsimp only
  split
  · omega
  · omega
  · omega
  · simp

/-- A report below F2 acts on no gate and no supply stage. -/
theorem raise_low (f : FaultName) (sc : Scope) {r : Nat} (h : r < 2) (d : Device) :
    (raise f sc r d).gates = d.gates ∧ (raise f sc r d).supply = d.supply := by
  simp only [raise, raiseActs]
  split
  · split
    · simp only [List.filter_cons, List.filter_nil]
      split <;> simp [Device.each, reactOne_low _ _ h]
    · simp [Device.each, reactOne_low _ _ h]
  · simp [Device.each, reactOne_low _ _ h]

/-! ## Module time and the objects, which no report touches -/

/-- Module time and the objects. -/
def Device.clock (d : Device) : Nanos × ObjDict := (d.ctl.now, d.od)

theorem clock_of_parts {d d' : Device} (h : d'.ctl = d.ctl ∧ d'.od = d.od) : d'.clock = d.clock := by
  simp [Device.clock, h]

theorem setState_clock (m : ModState) (d : Device) : (setState m d).clock = d.clock := by
  simp [Device.clock, setState_ctl]

theorem enterSafe_clock (d : Device) : (enterSafe d).clock = d.clock := by
  have h : (Device.each (Scope.stages .module) (stageOff true) d).clock = d.clock :=
    Device.each_keeps Device.clock _ (fun sg x => clock_of_parts (by simp)) _ d
  simp only [enterSafe]
  split <;> simp only [setState_clock, h]

theorem reactOne_clock (l : Bool) (a : Scope × Nat) (d : Device) : (reactOne l a d).clock = d.clock := by
  have h0 : (sliceReact a d).clock = d.clock := clock_of_parts (by simp)
  unfold reactOne
  dsimp only
  split
  · exact (enterSafe_clock _).trans h0
  · split <;> exact clock_of_parts (by simp)
  · split
    · rw [setState_clock]; exact clock_of_parts (by simp)
    · exact clock_of_parts (by simp)
  · exact h0

theorem raiseActs_clock (f : FaultName) (sc : Scope) (r : Nat) (acts : List (Scope × Nat)) (d : Device) :
    (raiseActs f sc r acts d).clock = d.clock := by
  have hr (l : List (Scope × Nat)) (x : Device) :
      (brakeHit f l (Device.each l (reactOne f.latched) x)).clock = x.clock :=
    (clock_of_parts (d := Device.each l (reactOne f.latched) x) (by simp)).trans
      (Device.each_keeps Device.clock _ (reactOne_clock f.latched) l x)
  simp only [raiseActs]
  split
  · split <;> rw [hr] <;> exact clock_of_parts (by simp)
  · rw [hr]; exact clock_of_parts (by simp)

theorem raise_clock (f : FaultName) (sc : Scope) (r : Nat) (d : Device) : (raise f sc r d).clock = d.clock :=
  raiseActs_clock ..

/-! ## Islands and channels -/

/-- What an update of the islands keeps of every island it keeps of each. -/
theorem Device.onIsland_keeps (pr : Island → β) {f : Island → Island} (hf : ∀ x, pr (f x) = pr x) (i j : Nat) (d : Device) :
    pr ((d.onIsland i f).island j) = pr (d.island j) := by
  by_cases h : i = j
  · subst h
    cases hx : d.gates.islands[i]? <;> simp [Device.island, Device.onIsland, hx, hf]
  · simp [Device.island, Device.onIsland, h]

theorem Island.mapChans_keeps (pr : GateChan → β) {f : GateChan → GateChan} (hf : ∀ c, pr (f c) = pr c) (k : Nat) (x : Island) :
    pr (Island.chan { x with chans := x.chans.map f } k) = pr (x.chan k) := by
  cases hx : x.chans[k]? <;> simp [Island.chan, hx, hf]

theorem Island.default_chan (k : Nat) : Island.chan {} k = {} :=
  List.getD_eq_getElem?_getD.trans (List.getElem?_getD_replicate_default_eq _ 8 k)

/-- An update of a channel shows in it, where the channel exists. -/
theorem Device.onChan_chan (g : Nat) (f : GateChan → GateChan) (d : Device) :
    (d.onChan g f).chan g = f (d.chan g) ∨ (d.onChan g f).chan g = {} := by
  cases hx : d.gates.islands[g / 8]? with
  | none =>
    have hi : (d.onChan g f).island (g / 8) = {} := by simp [Device.onChan, Device.onIsland, Device.island, hx]
    exact .inr ((congrArg (Island.chan · (g % 8)) hi).trans (Island.default_chan _))
  | some x =>
    cases hc : x.chans[g % 8]? <;> simp [Device.onChan, Device.onIsland, Device.chan, Device.island, hx, Island.chan, hc]

/-! ## Gate commands -/

/-- What a command finds of a channel at rest: none waits, its edge has reached the hold phase, no soft turn-off runs. -/
def GateChan.atRest (t : Nanos) (c : GateChan) : Prop := c.later = none ∧ c.holdAt ≤ t ∧ c.soft.isNone

/-- A turn-off taken by a channel at rest turns its gate off at once (R50). -/
theorem GateChan.take_off {t : Nanos} {c : GateChan} (len : Bool → Nat × Nat) (h : c.atRest t) :
    (GateChan.take false t len c).cmdOn = false ∧ (GateChan.take false t len c).gateOn = false := by
  obtain ⟨hl, hh, hs⟩ := h
  have hs' : c.soft = none := Option.isNone_iff_eq_none.mp hs
  have ht : ¬ t < c.holdAt := Nat.not_lt.mpr hh
  cases hg : c.gateOn <;> simp [GateChan.take, GateChan.settle, GateChan.gateTo, hl, hs', ht, hg]

/-- The acknowledgement of an outer turn-off leaves a channel at rest as it is found. -/
theorem ackOuter_atRest (i g : Nat) (t : Nanos) (d : Device) :
    ((ackOuter i d).chan g).atRest t = (d.chan g).atRest t :=
  Device.each_keeps (fun x => (x.chan g).atRest t) _
    (fun _ _ => Device.onIsland_keeps (fun y => (y.chan (g % 8)).atRest t)
      (fun y => Island.mapChans_keeps (GateChan.atRest t) (fun c => by simp [GateChan.atRest]) (g % 8) y) _ _ _) _ _

@[simp] theorem ackOuter_frame (i : Nat) (d : Device) :
    (ackOuter i d).ctl = d.ctl ∧ (ackOuter i d).faults = d.faults ∧ (ackOuter i d).portA = d.portA
      ∧ (ackOuter i d).portB = d.portB ∧ (ackOuter i d).od = d.od :=
  ⟨Device.each_keeps (·.ctl) _ (fun _ _ => by rfl) _ _, Device.each_keeps (·.faults) _ (fun _ _ => by rfl) _ _,
    Device.each_keeps (·.portA) _ (fun _ _ => by rfl) _ _, Device.each_keeps (·.portB) _ (fun _ _ => by rfl) _ _,
    Device.each_keeps (·.od) _ (fun _ _ => by rfl) _ _⟩

/-- A command frame is acknowledged: its channels no longer stand unacknowledged (R9, R55). -/
def Island.acked (cmds : List (Fin 8 × Bool)) (x : Island) : Island :=
  { x with
    unacked := match x.unacked with
      | none => none
      | some (l, n) =>
        let left := l.filter fun c => !(cmds.map Prod.fst).contains c.1
        if left.isEmpty then none else some (left, n) }

theorem onIsland_acked_safe (i j : Nat) (cmds : List (Fin 8 × Bool)) (d : Device) :
    ((d.onIsland i (Island.acked cmds)).island j).safe = (d.island j).safe :=
  Device.onIsland_keeps Island.safe (fun _ => by rfl) i j d

theorem onIsland_acked_armed (i j : Nat) (cmds : List (Fin 8 × Bool)) (d : Device) :
    ((d.onIsland i (Island.acked cmds)).island j).armed = (d.island j).armed :=
  Device.onIsland_keeps Island.armed (fun _ => by rfl) i j d

theorem onIsland_acked_chan (i g : Nat) (cmds : List (Fin 8 × Bool)) (d : Device) :
    (d.onIsland i (Island.acked cmds)).chan g = d.chan g :=
  Device.onIsland_keeps (Island.chan · (g % 8)) (fun _ => by rfl) i (g / 8) d

/-- A frame at an island: acknowledged, and carried out where the island is armed and not in its preset (R55, R58). -/
theorem gateCommands_eq (i t : Nat) (cmds : List (Fin 8 × Bool)) (d : Device) :
    gateCommands i t cmds d =
      if (d.island i).safe || !(d.island i).armed then d.onIsland i (Island.acked cmds)
      else Device.each cmds (oneCommand i t) (if cmds.any fun c => !c.2 then ackOuter i (d.onIsland i (Island.acked cmds))
        else d.onIsland i (Island.acked cmds)) := by
  rw [← onIsland_acked_safe i i cmds d, ← onIsland_acked_armed i i cmds d]
  rfl

/-- A frame that is too late, or that reaches an untrained island, serves nothing (R52, R55). -/
theorem gateCommand_dropped {i : Fin 64} (cmds : List (Fin 8 × Bool)) (frame : Fin 4) {tick : Fin 50} (obs : List EdgeObs)
    {d : Device} (h : 42 < tick.val ∨ (d.island i).link ≠ 2) : gateCommand i cmds frame tick obs d = d :=
  if_neg fun hc => h.elim (fun h => Nat.not_le.mpr h hc.1) fun h => h hc.2

/-- An island in its preset, or not armed, acknowledges and does no more (R55, R58). -/
theorem gateCommand_closed {i : Fin 64} (cmds : List (Fin 8 × Bool)) (frame : Fin 4) {tick : Fin 50} (obs : List EdgeObs)
    {d : Device} (ht : tick.val ≤ 42) (hl : (d.island i).link = 2)
    (h : (d.island i).safe = true ∨ (d.island i).armed = false) :
    gateCommand i cmds frame tick obs d = d.onIsland i (Island.acked cmds) := by
  have hc : ((d.island i).safe || !(d.island i).armed) = true := by simpa using h
  unfold gateCommand
  rw [if_pos ⟨ht, hl⟩, gateCommands_eq, if_pos hc]
  exact if_pos (by rw [onIsland_acked_safe, onIsland_acked_armed, hc])

/-- A frame without observed edges does what its commands do. -/
theorem gateCommand_no_obs {i : Fin 64} (cmds : List (Fin 8 × Bool)) (frame : Fin 4) {tick : Fin 50} {d : Device}
    (ht : tick.val ≤ 42) (hl : (d.island i).link = 2) :
    gateCommand i cmds frame tick [] d = gateCommands i (d.now + 5 * (50 * frame.val + tick.val)) cmds d := by
  unfold gateCommand
  rw [if_pos ⟨ht, hl⟩]
  exact ite_id _

/-- A channel is commanded off and its gate is off; module control, the faults and the ports are as before. -/
def TurnsOff (g : Nat) (d d' : Device) : Prop :=
  d'.ctl = d.ctl ∧ d'.faults = d.faults ∧ d'.portA = d.portA ∧ d'.portB = d.portB ∧ (d'.chan g).cmdOn = false
    ∧ (d'.chan g).gateOn = false

/-- A turn-off of a channel at rest. -/
theorem oneCommand_turnsOff {i t : Nat} {k : Fin 8} {d : Device} (h : (d.chan (8 * i + k)).atRest t) :
    TurnsOff (8 * i + k) d (oneCommand i t (k, false) d) := by
  have hc (len : Bool → Nat × Nat) : TurnsOff (8 * i + k) d (d.onChan (8 * i + k) (GateChan.take false t len)) := by
    refine ⟨rfl, rfl, rfl, rfl, ?_⟩
    obtain h1 | h1 := d.onChan_chan (8 * i + k) (GateChan.take false t len)
    · rw [h1]; exact GateChan.take_off len h
    · rw [h1]; exact ⟨rfl, rfl⟩
  simp only [oneCommand, Bool.false_and, Bool.false_eq_true, if_false]
  split <;> exact hc _

/-- One turn-off on an armed island, of a channel at rest (R50, R51). -/
theorem gateCommand_turnsOff {i : Fin 64} {k : Fin 8} {frame : Fin 4} {tick : Fin 50} {d : Device}
    (ht : tick.val ≤ 42) (hl : (d.island i).link = 2) (hs : (d.island i).safe = false) (ha : (d.island i).armed = true)
    (hr : (d.chan (8 * i + k)).atRest (d.now + 5 * (50 * frame + tick))) :
    TurnsOff (8 * i + k) d (gateCommand i [(k, false)] frame tick [] d) := by
  have hr' : ((ackOuter i (d.onIsland i (Island.acked [(k, false)]))).chan (8 * i + k)).atRest
      (d.now + 5 * (50 * frame + tick)) := by
    rw [ackOuter_atRest, onIsland_acked_chan]
    exact hr
  rw [gateCommand_no_obs _ _ ht hl, gateCommands_eq, hs, ha]
  obtain ⟨hctl, hf, hpa, hpb, hoff⟩ := oneCommand_turnsOff hr'
  exact ⟨hctl.trans (by simp), hf.trans (by simp), hpa.trans (by simp), hpb.trans (by simp), hoff⟩

theorem dieLossReact_clock (g : Nat) (d : Device) : (dieLossReact g d).clock = d.clock := by
  simp only [dieLossReact]
  split
  · exact raise_clock ..
  · exact (raise_clock ..).trans (clock_of_parts (by simp [auxPhaseOff]))
  · exact (raiseActs_clock ..).trans (clock_of_parts (by simp))
  · exact raise_clock ..

theorem dieLost_clock (cause g : Nat) (d : Device) : (dieLost cause g d).clock = d.clock := by
  simp only [dieLost]
  split
  · rfl
  · exact (dieLossReact_clock ..).trans (clock_of_parts (by simp))

theorem observe_clock (i : Nat) (on : Bool) (o : EdgeObs) (d : Device) : (observe i on o d).clock = d.clock := by
  have hd (c : Prop) [Decidable c] (n g : Nat) (x : Device) : (if c then dieLost n g x else x).clock = x.clock :=
    ite_keeps Device.clock _ _ _ (dieLost_clock ..)
  simp only [observe]
  split
  · exact clock_of_parts (by simp)
  · rw [hd, hd]; exact clock_of_parts (by simp)

theorem oneCommand_clock (i t : Nat) (c : Fin 8 × Bool) (d : Device) : (oneCommand i t c d).clock = d.clock := by
  simp only [oneCommand]
  split
  · exact raise_clock ..
  · split <;> exact clock_of_parts (by simp)

theorem gateCommands_clock (i t : Nat) (cmds : List (Fin 8 × Bool)) (d : Device) :
    (gateCommands i t cmds d).clock = d.clock := by
  have ha (x : Device) : (ackOuter i x).clock = x.clock := clock_of_parts (by simp)
  rw [gateCommands_eq]
  split
  · exact clock_of_parts (by simp)
  · rw [Device.each_keeps Device.clock _ (oneCommand_clock i t), ite_keeps Device.clock _ _ _ (ha _)]
    exact clock_of_parts (by simp)

/-- Gate commands, what they trip and what is observed of their edges, leave module time and the objects alone. -/
theorem gateCommand_clock (i : Fin 64) (cmds : List (Fin 8 × Bool)) (frame : Fin 4) (tick : Fin 50) (obs : List EdgeObs)
    (d : Device) : (gateCommand i cmds frame tick obs d).clock = d.clock := by
  simp only [gateCommand]
  split
  · split
    · exact gateCommands_clock ..
    · rw [Device.each_keeps Device.clock _ (observe_clock i true), Device.each_keeps Device.clock _ (observe_clock i false),
        gateCommands_clock]
  · rfl

/-! ## Lock-out faults by the channel's place (Table 2.1, Table 2.13) -/

theorem uvFault_of_no_bootstrap {g : Nat} (h : bootstrapSide g = false) : uvFault g = .gateUv := by simp [uvFault, h]

theorem uvFault_llcSec {g : Nat} (h1 : 464 ≤ g) (h2 : g < 472) (h : g % 4 < 2) : uvFault g = .bootUv := by
  have hi : g / 8 = 58 := by omega
  simp [uvFault, bootstrapSide, stageOfChan, stageOfIsland, hi, h]

theorem uvFault_aux {g : Nat} (h1 : 472 ≤ g) (h2 : g < 488) (h : g % 2 = 0) : uvFault g = .auxPhaseShed := by
  obtain hi | hi : g / 8 = 59 ∨ g / 8 = 60 := by omega
  · simp [uvFault, bootstrapSide, stageOfChan, stageOfIsland, hi, h]
  · simp [uvFault, bootstrapSide, stageOfChan, stageOfIsland, hi, h]

theorem uvFault_act {g : Nat} (h1 : 488 ≤ g) (h : g % 2 = 0) : uvFault g = .actBoot := by
  have hb : bootstrapSide g = true := by
    unfold bootstrapSide
    rw [if_neg (by omega), if_neg (by omega), h]
    rfl
  have hs : stageOfChan g = .act := by
    unfold stageOfChan stageOfIsland
    repeat rw [if_neg (by omega)]
  simp [uvFault, hb, hs]

theorem bootstrapSide_eq_false {g : Nat}
    (h : g < 464 ∨ (464 ≤ g ∧ g < 472 ∧ 2 ≤ g % 4) ∨ (472 ≤ g ∧ g % 2 = 1)) : bootstrapSide g = false := by
  unfold bootstrapSide
  split
  · rfl
  · split
    · exact decide_eq_false (by omega)
    · exact beq_false_of_ne (by omega)

theorem uvFault_cases (g : Nat) :
    uvFault g = .actBoot ∨ uvFault g = .auxPhaseShed ∨ uvFault g = .bootUv ∨ uvFault g = .gateUv := by
  unfold uvFault
  split
  · split <;> simp
  · simp

/-- A lock-out of a rail the channel has (R45, R46): the gate goes off, and the fault is that of the channel's place. -/
theorem gateUvLockout_eq {g : Nat} {neg : Bool} (h : neg = false ∨ g < 464) (d : Device) :
    gateUvLockout g neg d =
      (let d := d.onChan g fun c => GateChan.gateTo false d.now (d.edgeOf g) { c with
          uvPos := c.uvPos || !neg, uvNeg := c.uvNeg || neg }
        let d := supplySeen (g / 8) d
        if uvFault g = .actBoot then raise .actBoot (.stage .act) 0 (actOff ((g - 488) / 6) d)
        else if uvFault g = .auxPhaseShed then raise .auxPhaseShed (.stage .aux) 1 (auxPhaseOff ((g - 472) / 2) d)
        else if uvFault g = .bootUv then raise .bootUv (.stage .llcSec) 0 d
        else gateUvReport g d) := by
  have hn : ¬ (neg && decide (464 ≤ g)) = true := by
    obtain rfl | hg := h
    · simp
    · simp [hg]
  unfold gateUvLockout
  rw [if_neg hn]
  obtain hf | hf | hf | hf := uvFault_cases g <;> simp [hf]

/-! ## The decision of a beat -/

theorem estimate_frame (p : PortId) (d : Device) :
    (estimate p d).gates = d.gates ∧ (estimate p d).supply = d.supply := by
  simp [estimate]

/-- The loss of the estimator is reported with F0 and moves no gate (R126). -/
theorem obsCheck_frame (p : PortId) (d : Device) :
    (obsCheck p d).gates = d.gates ∧ (obsCheck p d).supply = d.supply := by
  have hr := raise_low .obsLost (.port p) Nat.two_pos d
  simp only [obsCheck]
  split
  · exact ⟨rfl, rfl⟩
  · split
    · exact ⟨rfl, rfl⟩
    · split <;> simpa using hr

theorem fluxBuildStep_frame (p : PortId) (d : Device) :
    (fluxBuildStep p d).gates = d.gates ∧ (fluxBuildStep p d).supply = d.supply := by
  simp only [fluxBuildStep]
  split
  · simp
  · split <;> simp

theorem fluxBuildEnd_frame (p : PortId) (d : Device) :
    (fluxBuildEnd p d).gates = d.gates ∧ (fluxBuildEnd p d).supply = d.supply := by
  simp only [fluxBuildEnd]
  split <;> simp

/-- A decision commands no gate before the output tick (R14). -/
theorem tractionDecision_frame (p : PortId) (ticks : Nat) (d : Device) :
    (tractionDecision p ticks d).gates = d.gates ∧ (tractionDecision p ticks d).supply = d.supply := by
  unfold tractionDecision
  extract_lets ctl x y z
  have hy : y.gates = d.gates ∧ y.supply = d.supply := by
    unfold y
    split <;> simp [estimated, obsCheck_frame, estimate_frame, x]
  simp [z, fluxBuildEnd_frame, fluxBuildStep_frame, hy]

theorem tractionDecision_holding (p : PortId) (ticks : Nat) (d : Device) :
    ((tractionDecision p ticks d).eng p).holding ≠ none := by
  simp [tractionDecision]

/-! ## The output tick -/

theorem issuePosAt_frame (t : Nanos) (on : Bool) (i : Nat) (d : Device) :
    (issuePosAt t on i d).ctl = d.ctl ∧ (issuePosAt t on i d).faults = d.faults := by
  simp [issuePosAt]

theorem issuePosAt_eng (t : Nanos) (on : Bool) (i : Nat) (d : Device) (p : PortId) :
    (issuePosAt t on i d).eng p = d.eng p := by cases p <;> rfl

theorem Device.onStage_eng (sg : StageGroup) (f : Stage → Stage) (d : Device) (p : PortId) :
    (d.onStage sg f).eng p = d.eng p := by cases p <;> rfl

@[simp] theorem Engine.onLeg_sel (ph : Phase) (f : Leg → Leg) (e : Engine) : (e.onLeg ph f).sel = e.sel := by
  cases ph <;> rfl

@[simp] theorem Engine.onLeg_holding (ph : Phase) (f : Leg → Leg) (e : Engine) : (e.onLeg ph f).holding = e.holding := by
  cases ph <;> rfl

/-- What the steps of a leg keep: module control, the faults, and the port's selection and holding register. -/
def SeqKeeps (p : PortId) (d d' : Device) : Prop :=
  d'.ctl = d.ctl ∧ d'.faults = d.faults ∧ (d'.eng p).sel = (d.eng p).sel ∧ (d'.eng p).holding = (d.eng p).holding

theorem SeqKeeps.refl (p : PortId) (d : Device) : SeqKeeps p d d := ⟨rfl, rfl, rfl, rfl⟩

theorem SeqKeeps.trans {p : PortId} {d d' d'' : Device} (h : SeqKeeps p d d') (h' : SeqKeeps p d' d'') : SeqKeeps p d d'' := by
  obtain ⟨h1, h2, h3, h4⟩ := h
  obtain ⟨h1', h2', h3', h4'⟩ := h'
  exact ⟨h1'.trans h1, h2'.trans h2, h3'.trans h3, h4'.trans h4⟩

theorem seqKeeps_onEng {p : PortId} {f : Engine → Engine} (d : Device) (hs : ∀ e, (f e).sel = e.sel)
    (hh : ∀ e, (f e).holding = e.holding) : SeqKeeps p d (d.onEng p f) := by
  simp [SeqKeeps, hs, hh]

theorem seqKeeps_issuePosAt (p : PortId) (t : Nanos) (on : Bool) (i : Nat) (d : Device) :
    SeqKeeps p d (issuePosAt t on i d) := by
  simp [SeqKeeps, issuePosAt_frame, issuePosAt_eng]

theorem seqKeeps_each {p : PortId} {f : α → Device → Device} (h : ∀ a d, SeqKeeps p d (f a d)) (l : List α) (d : Device) :
    SeqKeeps p d (d.each l f) := by
  unfold Device.each
  induction l generalizing d with
  | nil => exact .refl p d
  | cons a t ih => exact (h a d).trans (ih _)

theorem seqKeeps_legStep (p : PortId) (ph : Phase) (t : Nanos) (d : Device) : SeqKeeps p d (legStep p ph t d) := by
  simp only [legStep]
  split
  · exact .refl p d
  · split
    · exact seqKeeps_onEng _ (by simp) (by simp)
    · exact (seqKeeps_issuePosAt ..).trans (seqKeeps_onEng _ (by simp) (by simp))

theorem seqKeeps_legApply (p : PortId) (ph : Phase) (digit : Nat) (d : Device) :
    SeqKeeps p d (legApply p ph digit d) := by
  simp only [legApply]
  split
  · exact (seqKeeps_each (fun _ _ => seqKeeps_issuePosAt ..) _ _).trans (seqKeeps_onEng _ (by simp) (by simp))
  · exact (seqKeeps_onEng _ (by simp) (by simp)).trans (seqKeeps_legStep ..)

theorem seqKeeps_applyCode (p : PortId) (code : Nat) (d : Device) : SeqKeeps p d (applyCode p code d) := by
  have h : SeqKeeps p d (d.each phases fun ph => legApply p ph ((digits code).getD ph.num 1)) :=
    seqKeeps_each (fun _ _ => seqKeeps_legApply ..) _ _
  refine h.trans ?_
  simp [SeqKeeps, applyCode, Device.onStage_eng]

/-- A switching state that is applied takes effect 700 ns after tick 0 (R14, R77). -/
theorem applyCode_code (p : PortId) (code : Nat) (d : Device) :
    ((applyCode p code d).eng p).code = code ∧ ((applyCode p code d).eng p).applied = d.now + 700 := by
  have h : (d.each phases fun ph => legApply p ph ((digits code).getD ph.num 1)).ctl = d.ctl :=
    (seqKeeps_each (fun _ _ => seqKeeps_legApply ..) _ _).1
  simpa [applyCode, Device.onStage_eng, Device.outTime, Device.now] using congrArg ModuleCtl.now h

/-- The holding register is taken over at the output tick (R14, R95). -/
def takeDecision (p : PortId) (dec : Decision) (d : Device) : Device :=
  d.onEng p fun e => { e with
    holding := none, sel := dec.sel, dwellHold := dec.dwellHold
    commCount := if dec.commute then addWrap 32 e.commCount 1 else e.commCount
    lastComm := if dec.commute then d.now else e.lastComm }

theorem outputTick_empty {p : PortId} {d : Device} (h : (d.eng p).holding = none) : outputTick p d = d := by
  unfold outputTick
  rw [h]

/-- Without a code, or where selection has stopped, the decision is taken over and nothing switches. -/
theorem outputTick_idle {p : PortId} {d : Device} {dec : Decision} (h : (d.eng p).holding = some dec)
    (hc : dec.code = none ∨ ((d.eng p).selecting = false ∧ (d.eng p).angleTest = none)) :
    outputTick p d = takeDecision p dec d := by
  unfold outputTick
  rw [h]
  obtain hc | ⟨hs, ha⟩ := hc
  · simp only [hc]; rfl
  · cases hd : dec.code <;> simp [hs, ha, takeDecision, hd]

theorem outputTick_apply {p : PortId} {d : Device} {dec : Decision} {c : Nat} (h : (d.eng p).holding = some dec)
    (hc : dec.code = some c) (he : (d.eng p).selecting ∨ (d.eng p).angleTest ≠ none) :
    outputTick p d = applyCode p c (takeDecision p dec d) := by
  unfold outputTick
  rw [h]
  have he' : ((d.eng p).selecting || (d.eng p).angleTest.isSome) = true := by
    simpa [Option.isSome_iff_ne_none] using he
  simp [hc, takeDecision, he']

/-- What an applied decision leaves (R14, R77). -/
theorem outputTick_apply_frame {p : PortId} {d : Device} {dec : Decision} {c : Nat} (h : (d.eng p).holding = some dec)
    (hc : dec.code = some c) (he : (d.eng p).selecting ∨ (d.eng p).angleTest ≠ none) :
    ((outputTick p d).eng p).code = c ∧ ((outputTick p d).eng p).applied = d.now + 700
      ∧ ((outputTick p d).eng p).sel = dec.sel ∧ ((outputTick p d).eng p).holding = none
      ∧ (outputTick p d).ctl = d.ctl ∧ (outputTick p d).faults = d.faults := by
  rw [outputTick_apply h hc he]
  obtain ⟨hctl, hf, hs, hh⟩ := seqKeeps_applyCode p c (takeDecision p dec d)
  obtain ⟨hcode, happ⟩ := applyCode_code p c (takeDecision p dec d)
  rw [hctl, hf, hs, hh, hcode, happ]
  simp [takeDecision, Device.now]

/-! ## The first operations of a beat -/

theorem setEnable_enablePin (e g : EnableGroup) (v : Bool) (d : Device) :
    (setEnable e v d).enablePin g = if g = e then v else d.enablePin g := by
  cases e <;> cases g <;> rfl

theorem Device.enablePin_of_ctl {d d' : Device} (h : d.ctl = d'.ctl) (g : EnableGroup) :
    d.enablePin g = d'.enablePin g := by
  cases g <;> simp only [Device.enablePin, h]

/-- Sampling a pin sets the level of its group alone (R66). -/
theorem samplePin_enablePin (e g : EnableGroup) (v : Bool) (d : Device) :
    (samplePin e v d).enablePin g = if g = e then v else d.enablePin g := by
  unfold samplePin
  split
  · next h =>
    split
    · next hg => rw [hg]; exact eq_of_beq h
    · rfl
  · rw [Device.enablePin_of_ctl (Device.each_keeps (·.ctl) _ (fun _ _ => by simp) _ _), setEnable_enablePin]

theorem beatPins_enablePin (b : BeatInput) (d : Device) :
    (beatPins b d).enablePin .enA = b.enA ∧ (beatPins b d).enablePin .enB = b.enB
      ∧ (beatPins b d).enablePin .enConv = b.enConv ∧ (beatPins b d).enablePin .enAux = b.enAux := by
  have h (g : EnableGroup) : (beatPins b d).enablePin g
      = (samplePin .enAux b.enAux (samplePin .enConv b.enConv (samplePin .enB b.enB (samplePin .enA b.enA
          (if d.ctl.serviceNLow && !b.serviceNLow then serviceHigh d else d))))).enablePin g := by cases g <;> rfl
  simp [h, samplePin_enablePin]

theorem takeLive_inForce_of_no_live (d : Device) (h : d.od.live = []) : (takeLive d).od.inForce = d.od.inForce := by
  simp [takeLive, Device.onOd, h]

/-- A watched condition is timed only while it holds; one that begins to hold starts at the present time. -/
theorem watchBeat_lookup {d : Device} {w : Watch} {u : Nanos} (h : (watchBeat d).watch.lookup w = some u) :
    (w, true) ∈ d.watched ∧ (d.watch.lookup w = none → u = d.now) := by
  obtain ⟨l₁, l₂, hl, -⟩ := List.lookup_eq_some_iff.mp h
  have hm : (w, u) ∈ (watchBeat d).watch := by simp [hl]
  obtain ⟨⟨w', on⟩, he, hu⟩ := List.mem_filterMap.mp hm
  cases on with
  | false => simp at hu
  | true =>
    simp only [if_true, Option.some.injEq, Prod.mk.injEq] at hu
    obtain ⟨rfl, rfl⟩ := hu
    exact ⟨he, fun hn => by simp [hn]⟩

/-- A beat begins at the next whole microsecond (R13). -/
theorem beatTime_now (d : Device) :
    (beatTime d).ctl.now % 1000 = 0 ∧ d.ctl.now < (beatTime d).ctl.now ∧ (beatTime d).ctl.now ≤ d.ctl.now + 1000 := by
  have h (n : Nat) : (n / 1000 + 1) * 1000 % 1000 = 0 ∧ n < (n / 1000 + 1) * 1000
      ∧ (n / 1000 + 1) * 1000 ≤ n + 1000 := by omega
  exact h d.ctl.now

/-- With the logic powered and the timebase running a beat runs. -/
theorem exec_beatStart {s : State} (b : BeatInput) (h0 : s.dev.ctl.state ≠ .off)
    (ht : s.dev.cross.timebaseStopped = false) : exec (.beatStart b) s = .next (s.onDev (beat b)) :=
  congrArg Host.Outcome.next (if_neg (by simp [h0, ht]))

end Sys2Proof.Machine

/-! ## The statements -/

open Sys2Proof Sys2Proof.Machine

/-- Settles O1: `step` takes the front command by its definition. -/
theorem stepRunsFront : Obligations.StepRunsFront := by
  unfold Obligations.StepRunsFront
  intro c rest s
  rfl

/-- Settles O2: each event is its branch; CORE_SUPPLY_OK ends its fault in SAFE alone (R26). -/
theorem logicSupplyEvents : Obligations.LogicSupplyEvents := by
  unfold Obligations.LogicSupplyEvents
  have hok (s : State) (h : s.dev.ctl.state ≠ .off) : exec .coreSupplyOk s = .next (s.onDev fun d =>
      safeExitClear .coreSupply .module { d with ctl := { d.ctl with coreSupplyOk := true } }) := next_unless_off _ h
  refine ⟨fun s h => ?rise, fun s => ⟨_, rfl, rfl, rfl, rfl, rfl, rfl, burnLost_eq_self⟩, fun s h => next_unless_off _ h,
    fun s h hs => ?ok, fun s hs => ?okInSafe⟩
  case rise =>
    exact ⟨s.onDev startBoot, congrArg Host.Outcome.next (if_pos h), rfl, rfl, rfl, rfl, rfl, rfl, rfl, rfl, rfl, rfl⟩
  case ok =>
    rw [hok s h]
    simp [State.onDev, safeExitClear, hs]
  case okInSafe =>
    rw [hok s (by simp [hs])]
    simp [State.onDev, safeExitClear, hs]

/-- Settles O3: each code is its branch, run by `hostWrite_devCmd` or refused by `hostWrite_devCmd_refused`. -/
theorem moduleCommands : Obligations.ModuleCommands := by
  unfold Obligations.ModuleCommands
  refine ⟨
    fun q s ht hs hc hr => congrArg Host.Outcome.next (hostWrite_devCmd (f := moduleCmd q 1) (g := setState .ready) ht ?ready),
    fun q s ht hs hr => congrArg Host.Outcome.next (hostWrite_devCmd (f := moduleCmd q 2) (g := enterRun) ht ?run),
    fun q s ht hs => congrArg Host.Outcome.next (hostWrite_devCmd (f := moduleCmd q 3) (g := setState .stopping) ht ?stop),
    fun q s ht hs => congrArg Host.Outcome.next (hostWrite_devCmd (f := moduleCmd q 4) (g := enterStandby) ht ?standby),
    fun q s ht hs => congrArg Host.Outcome.next (hostWrite_devCmd (f := moduleCmd q 5) (g := setState .service) ht ?service),
    fun q s ht hs => congrArg Host.Outcome.next (hostWrite_devCmd (f := moduleCmd q 6) (g := enterStandby) ht ?leave),
    fun q s ht hp hl hpp hsh hho =>
      congrArg Host.Outcome.next (hostWrite_devCmd (f := moduleCmd q 7) (g := handoverAsked) ht ?handover),
    fun q s ht hs => congrArg Host.Outcome.next (hostWrite_devCmd (f := moduleCmd q 8) (g := startBoot) ht ?reset),
    fun q s ht =>
      congrArg Host.Outcome.next (hostWrite_devCmd (f := moduleCmd q 9) (g := fun d => (cmdClearOverrun d).2) ht rfl),
    fun q s c lvl inFault hc ht => ?refused⟩
  case ready => simp [moduleCmd, cmdReady, hs, hc, hr]
  case run => simp [moduleCmd, cmdRun, hs, hr]
  case stop => simp [moduleCmd, cmdStop, hs]
  case standby => simp [moduleCmd, cmdStandby, hs]
  case service =>
    obtain ⟨hn, hss⟩ := Device.session_of_levelOpen_v (Device.levelOpen_of_takes ht)
    simp [moduleCmd, cmdService, hs, hn, hss]
  case leave => simp [moduleCmd, cmdLeaveService, hs]
  case handover => exact cmdHandover_ok (by simpa using hp) hl hpp (by simpa using hsh) hho
  case reset => simp [moduleCmd, cmdReset, hs]
  case refused =>
    obtain ⟨rfl, rfl, rfl, hc, hs⟩ | ⟨rfl, rfl, rfl, hs⟩ | ⟨rfl, rfl, rfl, hs⟩ | ⟨rfl, rfl, rfl, hr, hs⟩ | ⟨rfl, rfl, rfl, hs⟩
      | ⟨rfl, rfl, rfl, hs⟩ | ⟨rfl, rfl, rfl, hs⟩ | ⟨rfl, rfl, rfl, hs⟩ := hc
    all_goals refine congrArg Host.Outcome.next (hostWrite_devCmd_refused ht ?_)
    · exact (if_neg hc).trans (if_neg hs)
    · exact if_neg hs
    · exact if_neg hs
    · exact if_neg fun h => h.elim hr fun hf => hs.elim (· hf.1) fun h4 => Nat.not_lt.mpr h4 hf.2
    · simp [moduleCmd, cmdService, hs]
    · exact if_neg hs
    · simp [moduleCmd, cmdHandover, hs]
    · exact if_neg hs

/-- Settles O4: each event is its branch; what SERVICE_N high and the end of ASC leave is said by the lemmas about them. -/
theorem moduleEvents : Obligations.ModuleEvents := by
  unfold Obligations.ModuleEvents
  refine ⟨fun p s h => next_unless_off _ h, fun i s h => next_unless_off _ h, fun k s h => next_unless_off _ h,
    fun s h hl => exec_lateResultDiscard h (if_pos hl), fun s h hl => exec_lateResultDiscard h (if_pos hl),
    fun i s h hl => exec_lateResultDiscard h (if_pos (List.contains_iff_mem.mpr hl)),
    fun k s h hl => exec_lateResultDiscard h (if_pos hl), fun s h hv hh => congrArg Host.Outcome.next (if_pos ⟨h, hv, hh⟩),
    fun s h hv => ?linkBack, fun s h => ?serviceN, fun p s h hx => ?asc, fun p s h hf hx => ?faultAsc, fun p s h => ?ascStays⟩
  case linkBack => exact congrArg Host.Outcome.next (if_neg fun hc => absurd hc.2.1 (not_lt.mpr hv))
  case serviceN =>
    refine ⟨s.onDev serviceHigh, next_unless_off _ h, rfl, rfl, serviceHigh_serviceNLow _, serviceHigh_noInj _, ?_⟩
    rw [State.onDev_dev, serviceHigh_state]
    exact ⟨fun hs => if_pos hs, fun hs => if_neg hs⟩
  case asc =>
    exact ⟨s.onDev (ascExit p), congrArg Host.Outcome.next (if_pos ⟨.inl h, hx⟩), rfl, rfl, ascExit_of_asc h,
      ascExit_frame p s.dev⟩
  case faultAsc =>
    obtain ⟨hs, ha⟩ := ascExit_of_fault h
    exact ⟨s.onDev (ascExit p), congrArg Host.Outcome.next (if_pos ⟨.inr ⟨h, hf⟩, hx⟩), rfl, rfl, hs, ha,
      ascExit_frame p s.dev⟩
  case ascStays => exact congrArg Host.Outcome.next (if_neg fun hc => by simp [Device.ascExitDue, h] at hc)

/-- Settles O5: each event of the pair is its branch; the frames of the loss, the hand-over and the join are lemmas. -/
theorem pairEvents : Obligations.PairEvents := by
  unfold Obligations.PairEvents
  refine ⟨fun s hp hpp hg => congrArg Host.Outcome.next (if_pos ⟨hp, hpp, hg⟩), fun late s hp hpp hg => ?absent,
    fun s hp hs hl ho hpp hg late => congrArg Host.Outcome.next (if_pos ⟨hp, hs, by simp [hl], ho, hpp, hg⟩),
    fun s hp hpp hsc => congrArg Host.Outcome.next (if_pos ⟨hp, hpp, hsc⟩), fun s hpp ht => ?handover,
    fun late s hl ht ha => ?abortLead, fun late s hl ht => ?abortFollower, fun s ht hs hr hpp => ?join,
    fun s ht hn => ?noJoin, fun s hl ht => congrArg Host.Outcome.next (if_pos ⟨hl, ht⟩)⟩
  case absent =>
    have hc : (lateMisc late (losePartner s.dev)).ctl = (losePartner s.dev).ctl := by simp
    have hf : (lateMisc late (losePartner s.dev)).faults = (losePartner s.dev).faults := by simp
    refine ⟨s.onDev fun d => lateMisc late (losePartner d), congrArg Host.Outcome.next (if_pos ⟨hp, hpp, hg⟩), rfl, rfl,
      by simp [losePartner_od], ?_⟩
    rw [State.onDev_dev, hc, hf]
    exact losePartner_ctl s.dev
  case handover =>
    exact ⟨s.onDev handover, congrArg Host.Outcome.next (if_pos ⟨hpp, by simpa using ht⟩), rfl, rfl, handover_frame s.dev⟩
  case abortLead =>
    refine (congrArg Host.Outcome.next (if_pos (.inl ⟨ht, by simp [ha]⟩))).trans ?_
    simp only [State.onDev, handoverAbort_of_lead hl (isSome_of_reached ht)]
    rfl
  case abortFollower =>
    refine (congrArg Host.Outcome.next (if_pos (.inr ht))).trans ?_
    simp only [State.onDev, handoverAbort_of_follower hl]
    rfl
  case join =>
    obtain ⟨hrun, hlead, hpa, hj⟩ := joinRun_ctl s.dev
    refine ⟨s.onDev joinRun, (congrArg Host.Outcome.next (if_pos ht)).trans ?_, rfl, rfl, hrun, hlead, hpa, hj,
      enterRun_faults hs⟩
    simp [State.onDev, joinNow, hs, hr, hpp]
  case noJoin =>
    refine (congrArg Host.Outcome.next (if_pos ht)).trans ?_
    simp only [State.onDev, joinNow, hn, if_false]

/-- Settles O6: what a gate command does by the island's state, and the lock-out fault by the channel's place. -/
theorem gateChannelEvents : Obligations.GateChannelEvents := by
  unfold Obligations.GateChannelEvents
  refine ⟨fun i cmds frame tick obs s h => ?dropped, fun i cmds frame tick obs s h0 ht hl h => ?closed,
    fun i cmds frame tick obs s h0 ht hl hs ha => ?opened, fun i k frame tick s h0 ht hl hs ha hr hh hq => ?off,
    fun g s h0 => next_unless_off _ h0, fun g s hg => ?noRail, fun g neg s h0 hn => ?lockout, fun g => ?places,
    fun g neg s h0 => next_unless_off _ h0, fun g s hg hb => congrArg Host.Outcome.next (if_pos ⟨hg, hb⟩),
    fun g s h => ?noBlank⟩
  case dropped =>
    exact congrArg Host.Outcome.next (ite_eq_left_iff.mpr fun _ => State.onDev_eq_self (gateCommand_dropped cmds frame obs h))
  case closed =>
    refine (next_unless_off _ h0).trans ?_
    simp only [State.onDev, gateCommand_closed cmds frame obs ht hl h]
    rfl
  case opened =>
    have hc := gateCommand_clock i cmds frame tick obs s.dev
    simp only [Device.clock, Prod.mk.injEq] at hc
    obtain ⟨hnow, hod⟩ := hc
    exact ⟨s.onDev (gateCommand i cmds frame tick obs), next_unless_off _ h0, rfl, rfl, hod, hnow⟩
  case off =>
    exact ⟨s.onDev (gateCommand i [(k, false)] frame tick []), next_unless_off _ h0, rfl, rfl,
      gateCommand_turnsOff ht hl hs ha ⟨hr, hh, by simp [hq]⟩⟩
  case noRail =>
    exact congrArg Host.Outcome.next (ite_eq_left_iff.mpr fun _ => State.onDev_eq_self (if_pos (by simp [hg])))
  case lockout =>
    refine (next_unless_off _ h0).trans ?_
    simp only [State.onDev, gateUvLockout_eq hn]
    rfl
  case places =>
    exact ⟨fun h => uvFault_of_no_bootstrap (bootstrapSide_eq_false (.inl h)), uvFault_llcSec, uvFault_aux, uvFault_act,
      fun h1 h2 h => uvFault_of_no_bootstrap (bootstrapSide_eq_false (.inr (.inl ⟨h1, h2, h⟩))),
      fun h1 h => uvFault_of_no_bootstrap (bootstrapSide_eq_false (.inr (.inr ⟨h1, h⟩)))⟩
  case noBlank =>
    refine congrArg Host.Outcome.next (if_neg fun hc => ?_)
    obtain ⟨hg, hb⟩ := hc
    exact h.elim (fun h => by simp [h] at hg) fun h => Nat.not_lt.mpr h hb

/-- Settles O10: the decision is held, taken over or applied, and the steps of the legs keep what the statement names. -/
theorem engineDecisions : Obligations.EngineDecisions := by
  unfold Obligations.EngineDecisions
  refine ⟨fun p ticks s h0 ht hl => ?held, fun p ticks s h => ?late, fun p s h => ?empty, fun p dec s h0 hh hc => ?idle,
    fun p dec c s h0 hh hc he => ?applied, fun p ph s h => congrArg Host.Outcome.next (if_neg (by simp [h])),
    fun p ph on due off s h ht => congrArg Host.Outcome.next (if_neg (by simp [h, ht])),
    fun p ph on due off s h0 h ht => ?turnOn, fun q p s ht hr => ?restore⟩
  case held =>
    exact ⟨s.onDev (tractionDecision p ticks), congrArg Host.Outcome.next (if_pos ⟨h0, ht, by simp [hl]⟩), rfl, rfl,
      tractionDecision_holding p ticks s.dev, tractionDecision_frame ..⟩
  case late =>
    refine congrArg Host.Outcome.next (if_neg fun hc => ?_)
    obtain ⟨-, ht, hl⟩ := hc
    exact h.elim (fun h => Nat.not_lt.mpr h ht) fun h => by simp [h] at hl
  case empty => exact congrArg Host.Outcome.next (ite_eq_left_iff.mpr fun _ => State.onDev_eq_self (outputTick_empty h))
  case idle =>
    refine (next_unless_off _ h0).trans ?_
    simp only [State.onDev, outputTick_idle hh hc]
    rfl
  case applied =>
    exact ⟨s.onDev (outputTick p), next_unless_off _ h0, rfl, rfl, outputTick_apply_frame hh hc he⟩
  case turnOn =>
    refine (congrArg Host.Outcome.next (if_pos (by simp [h, ht, h0]))).trans ?_
    simp only [State.onDev, deadTTurnOn, h]
  case restore =>
    exact congrArg Host.Outcome.next (hostWrite_devCmd (f := cmdDraftRestore q p)
      (g := fun d => d.each (List.range 240) fun i => stage q (0x618001 + p.num * 0x80000 + i) (dDraft i)) ht
      ((if_pos hr).trans (congrArg (·, _) hr)))

/-- Settles O16: the order of `beat` with its ports written out, and one lemma for each of its first operations. -/
theorem beatOrder : Obligations.BeatOrder := by
  unfold Obligations.BeatOrder
  refine ⟨fun b s h0 ht => ?order, fun b s h => congrArg Host.Outcome.next (if_pos h), beatTime_now, fun b d => ?pins,
    fun d => ⟨rfl, takeLive_inForce_of_no_live d, rfl⟩, fun d w u => watchBeat_lookup⟩
  case order =>
    rw [exec_beatStart b h0 ht]
    simp only [State.onDev, beat, beatInputs, beatBlocks, Device.each_ports, Function.comp_apply]
  case pins =>
    obtain ⟨hA, hB, hC, hX⟩ := beatPins_enablePin b d
    exact ⟨rfl, rfl, hA, hB, hC, hX, fun hp => by simp [beatPins, hp]⟩

/-- Settles O56: every command that asks is a write or a read over a path, and both are turned away alike. -/
theorem refusedRequests : Obligations.RefusedRequests := by
  unfold Obligations.RefusedRequests
  intro c q lvl inFault s h
  obtain ⟨f, hf⟩ | ⟨rfl, f, hf⟩ := exec_of_asks h
  · exact ⟨fun h0 => by rw [hf, hostWrite_off h0], fun e h0 h1 => by rw [hf, hostWrite_away h0 h1]; rfl⟩
  · exact ⟨fun h0 => by rw [hf, hostRead_off h0], fun e h0 h1 => by rw [hf, hostRead_away h0 h1]; rfl⟩

/-- Settles O57: a report changes nothing, keeps the other faults, or acts where it lies, by the lemmas about `raise`. -/
theorem faultReactions : Obligations.FaultReactions := by
  unfold Obligations.FaultReactions
  refine ⟨fun f sc r e s h0 he hr ha hi => ?again, fun f sc r s h0 hf => ?active, fun f s h0 h1 he => ?f4, fun f s hs he => ?f2,
    fun f sc r s h0 => next_unless_off _ h0, fun f s h0 he => ?conv,
    fun p s hs ht => congrArg Host.Outcome.next (if_pos ⟨hs, ht⟩), fun p s h => ?notDue⟩
  case again => exact (next_unless_off _ h0).trans (congrArg Host.Outcome.next (State.onDev_eq_self (raise_eq_self he hr ha hi)))
  case active =>
    exact ⟨s.onDev (raise f sc r), next_unless_off _ h0, rfl, rfl, raise_hasFault _ _ _ _ hf,
      fun e he hn ho => raise_mem _ he hn ho⟩
  case f4 => exact ⟨s.onDev (raise f .module 4), next_unless_off _ h0, rfl, rfl, raise_safe f s.dev (by simp [he]) h0 h1⟩
  case f2 =>
    obtain ⟨x, hr, hc, -⟩ := raise_new 2 he
    refine ⟨s.onDev (raise f .module 2), next_unless_off _ (by simp [hs]), rfl, rfl, ?_⟩
    simpa [hr] using reactOne_f2_module f.latched (hc ▸ hs)
  case conv =>
    obtain ⟨x, hr, hc, hg⟩ := raise_new 2 he
    obtain ⟨hxc, hxr⟩ := reactOne_f2_conv f.latched x
    refine ⟨s.onDev (raise f (.stage .conv) 2), next_unless_off _ h0, rfl, rfl, ?_⟩
    simp only [Device.stage, State.onDev_dev, hr, brakeHit_frame] at hxr ⊢
    rw [hxc, hc, hxr, hg]
    exact ⟨rfl, rfl⟩
  case notDue =>
    refine congrArg Host.Outcome.next (if_neg fun hc => ?_)
    obtain ⟨hs, ht⟩ := hc
    exact h.elim (fun h => h hs) fun h => by simp [h] at ht

end

section
/-!
PROOFS of the statements about the gate islands (chapter 2): the interlock, the warp links and short-circuit protection, the
enable pins, the reed balancer and the die retest.
-/

namespace Sys2Proof.Machine

/-! ## Commands and runs over a list -/

/-- Two operations that agree on the device give the same outcome. -/
theorem next_onDev {s : State} {f g : Device → Device} (h : f s.dev = g s.dev) :
    (.next (s.onDev f) : Host.Outcome State Fault Refusal) = .next (s.onDev g) := by
  simp only [State.onDev, h]

/-- What every operation of a run over a list preserves holds after the run. -/
theorem Device.each_preserves {P : Device → Prop} {f : α → Device → Device} (hf : ∀ a d, P d → P (f a d)) (l : List α)
    {d : Device} (h : P d) : P (d.each l f) := by
  unfold Device.each
  induction l generalizing d with
  | nil => exact h
  | cons a t ih => exact ih (hf a d h)

/-- A run whose operations each leave the device as it is does nothing. -/
theorem Device.each_eq_self {f : α → Device → Device} {d : Device} {l : List α} (h : ∀ a ∈ l, f a d = d) : d.each l f = d := by
  unfold Device.each
  induction l with
  | nil => rfl
  | cons a t ih =>
    rw [List.foldl_cons, h a List.mem_cons_self]
    exact ih fun b hb => h b (List.mem_cons_of_mem a hb)

/-! ## Faults that a report and a lost die leave active -/

/-- A report acts on the entries of other faults in none but proof-test mode (R25, R340). -/
theorem raiseActs_mem {f : FaultName} (sc : Scope) (r : Nat) (acts : List (Scope × Nat)) {e : FaultEntry} {d : Device}
    (he : e ∈ d.faults.active) (hn : e.name ≠ .proofTest) (ho : e.name ≠ f) : e ∈ (raiseActs f sc r acts d).faults.active := by
  have hm (g : FaultEntry → FaultEntry) :
      e ∈ d.faults.active.map fun x => if x.name == f && x.scope == sc then g x else x :=
    List.mem_map.mpr ⟨e, he, if_neg (by simp [ho])⟩
  have hr (l : List (Scope × Nat)) {x : Device} (hx : e ∈ x.faults.active) :
      e ∈ (brakeHit f l (x.each l (reactOne f.latched))).faults.active :=
    brakeHit_mem _ _ (each_reactOne_mem _ _ _ hx hn)
  simp only [raiseActs]
  split
  · split
    · exact hr _ (by simpa using hm _)
    · exact hr _ (by simpa using hm _)
  · exact hr _ (by simp [he])

theorem auxPhaseOff_faults (k : Nat) (d : Device) : (auxPhaseOff k d).faults = d.faults := by simp [auxPhaseOff]

/-- The loss of a die reports DIE_LOST alone (R71). -/
theorem dieLossReact_mem (g : Nat) {e : FaultEntry} {d : Device} (he : e ∈ d.faults.active) (hn : e.name ≠ .proofTest)
    (ho : e.name ≠ .dieLost) : e ∈ (dieLossReact g d).faults.active := by
  simp only [dieLossReact]
  split
  · exact raiseActs_mem _ _ _ he hn ho
  · exact raiseActs_mem _ _ _ (by simpa [auxPhaseOff_faults] using he) hn ho
  · exact raiseActs_mem _ _ _ (by simpa using he) hn ho
  · exact raiseActs_mem _ _ _ he hn ho

theorem dieLost_mem (cause g : Nat) {e : FaultEntry} {d : Device} (he : e ∈ d.faults.active) (hn : e.name ≠ .proofTest)
    (ho : e.name ≠ .dieLost) : e ∈ (dieLost cause g d).faults.active := by
  simp only [dieLost]
  split
  · exact he
  · exact dieLossReact_mem g he hn ho

theorem observe_mem (i : Nat) (on : Bool) (o : EdgeObs) {e : FaultEntry} {d : Device} (he : e ∈ d.faults.active)
    (hn : e.name ≠ .proofTest) (ho : e.name ≠ .dieLost) : e ∈ (observe i on o d).faults.active := by
  have hd (c : Prop) [Decidable c] (n g : Nat) {x : Device} (hx : e ∈ x.faults.active) :
      e ∈ (if c then dieLost n g x else x).faults.active := by
    split
    · exact dieLost_mem n g hx hn ho
    · exact hx
  simp only [observe]
  split
  · exact he
  · exact hd _ _ _ (hd _ _ _ he)

/-! ## The interlock (R51) -/

/-- A channel of the complementary position that is commanded on bars a turn-on. -/
theorem Device.interlockOk_of_cmdOn {g h t : Nat} {d : Device} (hm : h ∈ complementChans g) (hc : (d.chan h).cmdOn) :
    d.interlockOk g t = false :=
  List.all_eq_false.mpr ⟨h, hm, by simp [hc]⟩

/-- A barred turn-on trips the interlock instead of turning the channel on. -/
theorem gateCommands_interlock {i h t : Nat} {k : Fin 8} {d : Device} (hs : (d.island i).safe = false)
    (ha : (d.island i).armed = true) (hm : h ∈ complementChans (8 * i + k)) (hc : (d.chan h).cmdOn) :
    gateCommands i t [(k, true)] d = raise .seqInterlock .module 4 (d.onIsland i (Island.acked [(k, true)])) := by
  have hb : (d.onIsland i (Island.acked [(k, true)])).interlockOk (8 * i + k) t = false :=
    Device.interlockOk_of_cmdOn hm (by rwa [onIsland_acked_chan])
  rw [gateCommands_eq, hs, ha]
  simp [Device.each, oneCommand, hb]

/-- What is observed of the edges of a frame ends no fault that its commands have raised. -/
theorem gateCommand_mem {i : Fin 64} {cmds : List (Fin 8 × Bool)} {frame : Fin 4} {tick : Fin 50} (obs : List EdgeObs)
    {e : FaultEntry} {d : Device} (ht : tick.val ≤ 42) (hl : (d.island i).link = 2)
    (he : e ∈ (gateCommands i (d.now + 5 * (50 * frame.val + tick.val)) cmds d).faults.active) (hn : e.name ≠ .proofTest)
    (ho : e.name ≠ .dieLost) : e ∈ (gateCommand i cmds frame tick obs d).faults.active := by
  have hobs (on : Bool) (l : List EdgeObs) {x : Device} (hx : e ∈ x.faults.active) :
      e ∈ (x.each l (observe i on)).faults.active :=
    Device.each_preserves (P := fun x => e ∈ x.faults.active) (fun o _ hx => observe_mem i on o hx hn ho) l hx
  unfold gateCommand
  rw [if_pos ⟨ht, hl⟩]
  dsimp only
  split
  · exact he
  · exact hobs _ _ (hobs _ _ he)

/-! ## Warp frames (R53-R55, R58) -/

/-- With the logic powered and the timebase running a frame is received. -/
theorem exec_warpFrame (i : Fin 64) (f : WarpFrame) (crcOk : Bool) {s : State} (h0 : s.dev.ctl.state ≠ .off)
    (ht : s.dev.cross.timebaseStopped = false) :
    exec (.warpFrame i f crcOk) s = .next (s.onDev (warpFrame i f crcOk)) :=
  congrArg Host.Outcome.next (if_neg (by simp [h0, ht]))

/-- The epoch a frame carries. -/
def frameEpoch : WarpFrame → Nat
  | .down x => x.epoch.toNat
  | .up x => x.epoch.toNat

theorem warpFrame_untrained {i : Nat} (f : WarpFrame) {d : Device} (h : (d.island i).link ≠ 2) :
    warpFrame i f true d = d := if_pos h

/-- A frame of another epoch is discarded (R58, R416). -/
theorem warpFrame_epoch {i : Nat} {f : WarpFrame} {d : Device} (hl : (d.island i).link = 2)
    (he : frameEpoch f ≠ (d.island i).epoch) : warpFrame i f true d = epochDiscard (13 + i) d := by
  have h : warpFrame i f true d = if frameEpoch f ≠ (d.island i).epoch then epochDiscard (islandBlock i) d else _ :=
    if_neg (not_not.mpr hl)
  rw [h, if_pos he]
  rfl

theorem warpFrame_down {i : Nat} {f : WarpDown} {d : Device} (hl : (d.island i).link = 2)
    (he : f.epoch.toNat = (d.island i).epoch) : warpFrame i (.down f) true d = warpDown i f d :=
  (if_neg (not_not.mpr hl)).trans (if_neg (not_not.mpr he))

theorem warpFrame_up {i : Nat} {f : WarpUp} {d : Device} (hl : (d.island i).link = 2)
    (he : f.epoch.toNat = (d.island i).epoch) : warpFrame i (.up f) true d = warpUp i f d :=
  (if_neg (not_not.mpr hl)).trans (if_neg (not_not.mpr he))

/-- A frame that reports nothing returns its credits (R54). -/
theorem warpUp_credits {i : Nat} {f : WarpUp} (d : Device) (ha : f.ack = []) (hf : f.flt = []) (hu : f.uv = [])
    (ht : f.temp = none) : warpUp i f d = d.onIsland i fun x => { x with credits := min 4 (x.credits + f.credit) } := by
  simp [warpUp, ha, hf, hu, ht, Device.each]

/-! ## Safe presets, training and re-arming (R27, R56, R58, R436) -/

/-- ASC is looked for on both ports outside BOOT and CALIBRATING. -/
theorem ascChecks_eq (d : Device) :
    (if d.safeRuled then d.each ports ascCheck else d) =
      if d.ctl.state != .boot && d.ctl.state != .calibrating then ascCheck .b (ascCheck .a d) else d := rfl

/-- The presets of the islands whose link is up, then ASC (R56). -/
theorem safePresetUpdate_eq (d : Device) :
    safePresetUpdate d =
      (let d := d.each (List.range 64) fun i d =>
          if (d.island i).link = 2 then
            d.onIsland i (Island.setPreset (d.presetOf i).1 (d.presetOf i).2 (stageOfIsland i) d.now)
          else d
        if d.ctl.state != .boot && d.ctl.state != .calibrating then ascCheck .b (ascCheck .a d) else d) := by
  simp only [safePresetUpdate, ascChecks_eq]

/-- Two updates of an island are one. -/
theorem Device.onIsland_onIsland (i : Nat) (f g : Island → Island) (d : Device) :
    (d.onIsland i f).onIsland i g = d.onIsland i (g ∘ f) := by
  simp [Device.onIsland, List.modify_modify_eq]

/-- Re-arming touches its island and the faults alone (R58). -/
theorem islandRearm_frame (i : Nat) (d : Device) :
    (islandRearm i d).ctl = d.ctl
      ∧ (islandRearm i d).gates = (d.onIsland i fun x => { x.gates false (stageOfIsland i) d.now with
          armed := true, safe := false, presetDue := none, silent := false, notAcked := false }).gates := by
  have hc (c : Prop) [Decidable c] (f : FaultName) (sc : Scope) (x : Device) :
      (if c then x else clearFault f sc x).ctl = x.ctl ∧ (if c then x else clearFault f sc x).gates = x.gates := by
    split <;> simp
  simp only [islandRearm, hc, armIsland, Device.onIsland_onIsland]
  exact ⟨rfl, rfl⟩

/-! ## Short-circuit protection (R60-R65) -/

/-- The loss of a complementary position ends no other fault. -/
theorem dsShort_mem (g : Nat) {e : FaultEntry} {d : Device} (he : e ∈ d.faults.active) (hn : e.name ≠ .proofTest)
    (ho : e.name ≠ .dieLost) : e ∈ (dsShort g d).faults.active := by
  simp only [dsShort]
  split
  · exact Device.each_preserves (P := fun x => e ∈ x.faults.active) (fun h _ hx => dieLost_mem 4 h hx hn ho) _ he
  · exact he

/-- A detector that fires raises its fault with F3 on its stage (R60). -/
theorem positionTrip_hasFault {f : FaultName} (g : Nat) (t : Nanos) (d : Device) (hn : f ≠ .proofTest) (ho : f ≠ .dieLost) :
    (positionTrip f g t d).hasFault f (.stage (stageOfChan g)) 3 := by
  obtain ⟨x, hx⟩ : ∃ x, positionTrip f g t d = dsShort g (raiseActs f (.stage (stageOfChan g)) 3 (tripActs g) x) := ⟨_, rfl⟩
  obtain ⟨e, he, rfl, hsc, hr⟩ := raiseActs_hasFault f (.stage (stageOfChan g)) 3 (tripActs g) x hn
  rw [hx]
  exact ⟨e, dsShort_mem g he hn ho, rfl, hsc, hr⟩

/-- What a command that makes a detector fire leaves. -/
theorem exec_positionTrip {c : Instr} {f : FaultName} {g : Fin 512} {tick : Fin 200} {s : State}
    (h : exec c s = .next (s.onDev (positionTrip f g (s.dev.tickTime tick)))) (hn : f ≠ .proofTest) (ho : f ≠ .dieLost) :
    ∃ t : State, exec c s = .next t ∧ t.pending = s.pending ∧ t.otp = s.otp
      ∧ t.dev = positionTrip f g (s.dev.now + 5 * tick) s.dev ∧ t.dev.hasFault f (.stage (stageOfChan g)) 3 := by
  refine ⟨_, h, State.onDev_pending _ s, State.onDev_otp _ s, ?_⟩
  rw [State.onDev_dev]
  exact ⟨rfl, positionTrip_hasFault g (s.dev.tickTime tick) s.dev hn ho⟩

/-- The dies whose soft level may end at a time go off (R60, R63). -/
theorem softTEnd_eq (sg : StageGroup) (t : Nanos) (x : Island) :
    softTEnd sg t x =
      { x with chans := x.chans.map fun c =>
          if c.soft.any fun u =>
              (decide (u.start + 50 * x.param 15 (dHvLv 10 4 sg.num) ≤ t) && (!u.inner || u.outerAcked))
                || (u.inner && decide (u.start + 1000 ≤ t)) then
            { c with soft := none, gateOn := false, cmdOn := false, desatArmed := false }
          else c } := rfl

/-! ## Turn-off order (R59) -/

theorem innerTurnOff_port {p : PortId} {ph : Phase} {d : Device} (hi : ((d.eng p).leg ph).level.isInner)
    (ht : lasted d.now ((d.eng p).leg ph).outerAt 1000) :
    innerTurnOff (.port p ph) d =
      (let d := d.each [1, 2, 4, 5] fun pos => issuePos false (posIsland p ph pos)
        let d := d.onEng p fun e => { e.onLeg ph fun _ => {} with changesNow := e.changesNow ++ [(ph.num, 24, .allOff)] }
        if (d.eng p).allOff then portAllOff p d else d) :=
  if_pos (by simp [hi, ht])

theorem innerTurnOff_port_not_due {p : PortId} {ph : Phase} {d : Device}
    (h : ((d.eng p).leg ph).level.isInner = false ∨ lasted d.now ((d.eng p).leg ph).outerAt 1000 = false) :
    innerTurnOff (.port p ph) d = d :=
  if_neg (by simpa [← Bool.not_eq_true, imp_iff_not_or] using h)

/-! ## Enable pins (R66, R67) -/

theorem clearFault_active (f : FaultName) (sc : Scope) (d : Device) :
    (clearFault f sc d).faults.active = d.faults.active.filter fun x => !(x.name == f && x.scope == sc) := by
  unfold clearFault
  split
  · next h =>
    refine (List.filter_eq_self.mpr fun x hx => ?_).symm
    simpa [imp_iff_not_or] using List.find?_eq_none.mp h x hx
  · simp

theorem Device.activeAt_eq_false {f : FaultName} {sc : Scope} {d : Device} :
    d.activeAt f sc = false ↔ ∀ e ∈ d.faults.active, ¬ (e.name = f ∧ e.scope = sc) := by
  simp [Device.activeAt, Device.entry?]

/-- A fault that is cleared is no longer active (R26). -/
theorem clearFault_activeAt (f : FaultName) (sc : Scope) (d : Device) : (clearFault f sc d).activeAt f sc = false := by
  rw [Device.activeAt_eq_false, clearFault_active]
  intro e he
  simpa [imp_iff_not_or] using (List.mem_filter.mp he).2

/-- Clearing activates no fault. -/
theorem clearFault_keeps_inactive (g : FaultName) (sc' : Scope) {f : FaultName} {sc : Scope} {d : Device}
    (h : d.activeAt f sc = false) : (clearFault g sc' d).activeAt f sc = false := by
  rw [Device.activeAt_eq_false] at h ⊢
  rw [clearFault_active]
  exact fun e he => h e (List.mem_filter.mp he).1

theorem each_clearFault_activeAt {f : FaultName} {sc : Scope} {l : List FaultName} (h : f ∈ l) (d : Device) :
    (d.each l fun g => clearFault g sc).activeAt f sc = false := by
  induction l generalizing d with
  | nil => cases h
  | cons g t ih =>
    obtain rfl | ht := List.mem_cons.mp h
    · exact Device.each_preserves (P := fun x => x.activeAt f sc = false) (fun g _ hx => clearFault_keeps_inactive g sc hx) t
        (clearFault_activeAt f sc d)
    · exact ih ht _

/-- A latched gate fault whose cause is nowhere named has ended on the stage (R67). -/
theorem unlatchStage_activeAt {still : List (FaultName × Scope)} {f : FaultName} (sg : StageGroup) (d : Device)
    (hf : f ∈ gateLatched) (hs : ∀ sc : Scope, (f, sc) ∉ still) : (unlatchStage still sg d).activeAt f (.stage sg) = false := by
  have hn (q : FaultName × Scope → Bool) : (still.any fun e => e.1 == f && q e) = false := by
    refine List.any_eq_false.mpr fun e he hc => hs e.2 ?_
    obtain ⟨rfl, -⟩ : e.1 = f ∧ q e = true := by simpa using hc
    exact he
  simp only [unlatchStage]
  exact each_clearFault_activeAt (List.mem_filter.mpr ⟨hf, by rw [hn]; rfl⟩) _

/-- ENABLE_LOW in the order of R67: the level, the presets, the injection's mark, the crowbar of the auxiliary stage, the fault. -/
theorem enableLow_eq (e : EnableGroup) (d : Device) :
    enableLow e d =
      (let d := setEnable e false d
        let d := d.each (groupIslands e) fun i => Device.onIsland i fun x =>
          { x.enterPreset (stageOfIsland i) d.now with enable := false }
        let d := { d with inj := { d.inj with
          lowBy := if d.forced 0x0208 e.num then e.num :: d.inj.lowBy.filter fun k => k != e.num else d.inj.lowBy } }
        let d := if e = .enAux then { d with supply := { d.supply with aux := { d.supply.aux with crowbar := false } } } else d
        raise .enableLow (.group e) 3 d) := by
  cases e <;> rfl

/-- What every rising edge of a pin does: ENABLE_LOW ends and the islands of the group are enabled (R67). -/
def enabled (e : EnableGroup) (d : Device) : Device :=
  (clearFault .enableLow (.group e) (setEnable e true d)).each (groupIslands e) fun i =>
    Device.onIsland i fun x => { x with enable := true }

theorem enabled_inj (e : EnableGroup) (d : Device) : (enabled e d).inj = d.inj := by
  have hs : (clearFault .enableLow (.group e) (setEnable e true d)).inj = d.inj := by cases e <;> simp [setEnable]
  exact (Device.each_keeps (·.inj) _ (fun _ _ => by simp) _ _).trans hs

/-- The end of an injected low level takes its mark back and clears no latch (R428). -/
theorem enableRise_injected {e : EnableGroup} (lowNs : Nat) (still : List (FaultName × Scope)) {d : Device}
    (h : d.inj.lowBy.contains e.num = true) :
    enableRise e lowNs still d =
      { enabled e d with inj := { (enabled e d).inj with lowBy := (enabled e d).inj.lowBy.filter fun k => k != e.num } } :=
  if_pos (by rw [← enabled_inj e d] at h; exact h)

theorem enableRise_short {e : EnableGroup} {lowNs : Nat} (still : List (FaultName × Scope)) {d : Device} (ht : lowNs < 10000)
    (h : d.inj.lowBy.contains e.num = false) : enableRise e lowNs still d = enabled e d :=
  (if_neg (by rw [← enabled_inj e d] at h; exact Bool.eq_false_iff.mp h)).trans (if_pos ht)

/-- After at least 10 us low the pin clears the latches of its stages and what is its group's own (R67). -/
theorem enableRise_long {e : EnableGroup} {lowNs : Nat} (still : List (FaultName × Scope)) {d : Device} (ht : 10000 ≤ lowNs)
    (h : d.inj.lowBy.contains e.num = false) :
    enableRise e lowNs still d = groupExtra e still ((enabled e d).each e.stages (unlatchStage still)) :=
  (if_neg (by rw [← enabled_inj e d] at h; exact Bool.eq_false_iff.mp h)).trans (if_neg (Nat.not_lt.mpr ht))

/-! ## Reed balancer, gate leakage (R68-R70) -/

/-- A reed update that runs on no die, without the expert trims, changes nothing (R69). -/
theorem reedUpdate_idle {d : Device} (h : ∀ g : Nat, g < 512 → d.reedOn g = false) (hm : Cfg.reedMode d.cfg ≠ 2) :
    reedUpdate d = d := by
  have hn : ((List.range 512).filter fun g => d.reedOn g && !d.gates.reedLate.contains (g / 8)) = [] :=
    List.filter_eq_nil_iff.mpr fun g hg => by simp [h g (List.mem_range.mp hg)]
  unfold reedUpdate
  rw [hn]
  exact if_neg hm

/-- A channel without a measurement keeps its series as it stands (Table 2.11). -/
theorem leakChan_unmeasured {high unmeasured : List Nat} {g : Nat} (d : Device) (h : g ∈ unmeasured) :
    leakChan high unmeasured g d = d := if_pos (by simp [h])

/-! ## Die retest (R72) -/

theorem cmdDieRetest_busy {d : Device} (h : d.gates.retestState = 1) : cmdDieRetest d = (Abort.busy, d) := if_pos h

theorem cmdDieRetest_refused {d : Device} (h : d.gates.retestState ≠ 1) (h1 : d.ctl.state ≠ .standby)
    (h2 : d.ctl.state ≠ .service) : cmdDieRetest d = (Abort.state, d) :=
  (if_neg h).trans (if_neg (not_or.mpr ⟨h1, h2⟩))

theorem cmdDieRetest_starts {d : Device} (h : d.gates.retestState ≠ 1)
    (hs : d.ctl.state = .standby ∨ d.ctl.state = .service) :
    cmdDieRetest d = (Abort.ok, { d with gates := { d.gates with retestState := 1 } }) :=
  (if_neg h).trans (if_pos hs)

end Sys2Proof.Machine

/-! ## The statements -/

open Sys2Proof Sys2Proof.Machine

/-- Settles O7: the complementary channel bars the turn-on, the trip is reported, and what is observed keeps the report. -/
theorem gateInterlockTrips : Obligations.GateInterlockTrips := by
  unfold Obligations.GateInterlockTrips
  intro i k h frame tick obs s h0 ht hl hs ha hm hc
  obtain ⟨e, he, hn, hsc, hr⟩ : (gateCommands i (s.dev.now + 5 * (50 * frame.val + tick.val)) [(k, true)] s.dev).hasFault
      .seqInterlock .module 4 := by
    rw [gateCommands_interlock hs ha hm hc]
    exact raise_hasFault _ _ _ _ (by decide)
  exact ⟨s.onDev (gateCommand i [(k, true)] frame tick obs), next_unless_off _ h0, e,
    gateCommand_mem obs ht hl he (by simp [hn]) (by simp [hn]), hn, hsc, hr⟩

/-- Settles O8: each event is its branch; the frame, the re-arming and the trips are said by the lemmas about them. -/
theorem warpLinkEvents : Obligations.WarpLinkEvents := by
  unfold Obligations.WarpLinkEvents
  refine ⟨fun i f s h0 ht => exec_warpFrame i f false h0 ht, fun i f s hl => ?untrained, fun i f s h0 ht hl he => ?downEpoch,
    fun i f s h0 ht hl he => ?upEpoch, fun i f s h0 ht hl he => ?down, fun i f s h0 ht hl he => ?up,
    fun i f d ha hf hu ht => warpUp_credits d ha hf hu ht, fun i frame s hu => ?nothingDue, fun i frame l n s h0 hu hn => ?repeats,
    fun i frame l n s h0 hu hn => ?noack, fun s h0 => ?preset,
    fun i late s hl => congrArg Host.Outcome.next (if_pos hl), fun i late s hl => congrArg Host.Outcome.next (if_neg hl),
    fun i u s hu ht ho => congrArg Host.Outcome.next (if_pos (by simp [hu, lasted, ht, ho])),
    fun i u s hu ht ho => congrArg Host.Outcome.next (if_pos (by simp [Device.classCDue, hu, ht, ho])),
    fun i s h0 hl => ?trained, fun i s hl => congrArg Host.Outcome.next (if_neg fun hc => hl hc.2),
    fun i s h0 hl hs hi he hf ho => ?rearm, fun i s he => congrArg Host.Outcome.next (if_neg (by simp [he])),
    fun g tick s ha hg hb => ?desat, fun g tick s hg => congrArg Host.Outcome.next (if_neg (by simp [hg])),
    fun g tick s h0 => ?didt, fun i tick s h0 => ?softEnd, fun p ph s h => ?innerNotDue,
    fun p ph s h0 hi ht => ?inner, fun n s h0 ht => ?convInner, fun n s ht => ?convNotDue⟩
  case untrained =>
    exact congrArg Host.Outcome.next (ite_eq_left_iff.mpr fun _ => State.onDev_eq_self (warpFrame_untrained f hl))
  case downEpoch => exact (exec_warpFrame i _ true h0 ht).trans (next_onDev (warpFrame_epoch hl he))
  case upEpoch => exact (exec_warpFrame i _ true h0 ht).trans (next_onDev (warpFrame_epoch hl he))
  case down => exact (exec_warpFrame i _ true h0 ht).trans (next_onDev (warpFrame_down hl he))
  case up => exact (exec_warpFrame i _ true h0 ht).trans (next_onDev (warpFrame_up hl he))
  case nothingDue =>
    exact congrArg Host.Outcome.next (ite_eq_left_iff.mpr fun _ => State.onDev_eq_self (by simp [warpAckTimeout, hu]))
  case repeats => exact (next_unless_off _ h0).trans (next_onDev (by simp [warpAckTimeout, hu, hn, addSat]))
  case noack => exact (next_unless_off _ h0).trans (next_onDev (by simp [warpAckTimeout, hu, Nat.not_le.mpr hn]))
  case preset => exact (next_unless_off _ h0).trans (next_onDev (safePresetUpdate_eq s.dev))
  case trained =>
    exact ⟨s.onDev (islandTrained i), congrArg Host.Outcome.next (if_pos ⟨h0, hl⟩), rfl, rfl, rfl, rfl, rfl⟩
  case rearm =>
    obtain ⟨hctl, hgates⟩ := islandRearm_frame i s.dev
    exact ⟨s.onDev (islandRearm i), congrArg Host.Outcome.next (if_pos ⟨hl, hs, hi, he, hf, by simp [ho], h0⟩), rfl, rfl, hctl,
      hgates⟩
  case desat => exact exec_positionTrip (congrArg Host.Outcome.next (if_pos ⟨ha, hg, hb⟩)) (by decide) (by decide)
  case didt => exact exec_positionTrip (next_unless_off _ h0) (by decide) (by decide)
  case softEnd =>
    exact (next_unless_off _ h0).trans
      (next_onDev (congrArg (Device.onIsland i · s.dev) (funext fun x => softTEnd_eq _ (s.dev.tickTime tick) x)))
  case innerNotDue =>
    exact congrArg Host.Outcome.next (ite_eq_left_iff.mpr fun _ => State.onDev_eq_self (innerTurnOff_port_not_due h))
  case inner => exact (next_unless_off _ h0).trans (next_onDev (innerTurnOff_port hi ht))
  case convInner => exact (next_unless_off _ h0).trans (next_onDev (if_pos ht))
  case convNotDue =>
    exact congrArg Host.Outcome.next
      (ite_eq_left_iff.mpr fun _ => State.onDev_eq_self (if_neg (Bool.eq_false_iff.mp ht)))

/-- Settles O9: the edges of an enable pin, the reed, the leakage window and the retest, each by its branch. -/
theorem enableAndDieEvents : Obligations.EnableAndDieEvents := by
  unfold Obligations.EnableAndDieEvents
  refine ⟨fun e s h0 => (next_unless_off _ h0).trans (next_onDev (enableLow_eq e s.dev)), fun e s h0 => ?low,
    fun e lowNs still s h0 ht hi => (next_unless_off _ h0).trans (next_onDev (enableRise_short still ht hi)),
    fun e lowNs still s h0 ht hi => (next_unless_off _ h0).trans (next_onDev (enableRise_long still ht hi)),
    fun e lowNs still s h0 hi => (next_unless_off _ h0).trans (next_onDev (enableRise_injected lowNs still hi)),
    fun still sg f d hf hs => unlatchStage_activeAt sg d hf hs, fun s h0 => next_unless_off _ h0, fun s h hm => ?reedIdle,
    fun g u s hu ht => congrArg Host.Outcome.next (if_pos (.inl (by simp [hu, lasted, ht]))),
    fun g s hf => congrArg Host.Outcome.next (if_pos (.inr hf)),
    fun g s hu hf => congrArg Host.Outcome.next (if_neg (by simp [hu, hf, lasted])), fun h u s h0 => next_unless_off _ h0,
    fun s h0 => ?unmeasured, fun q s ht hn hs => ?retest, fun q s ht hr => ?busy, fun q s ht hn h1 h2 => ?refused,
    fun passed s hr => congrArg Host.Outcome.next (if_pos hr), fun passed s hr => congrArg Host.Outcome.next (if_neg hr)⟩
  case low =>
    refine ⟨s.onDev (enableLow e), next_unless_off _ h0, rfl, rfl, ?_⟩
    rw [State.onDev_dev, enableLow_eq]
    exact raise_hasFault _ _ _ _ (by decide)
  case reedIdle => exact congrArg Host.Outcome.next (ite_eq_left_iff.mpr fun _ => State.onDev_eq_self (reedUpdate_idle h hm))
  case unmeasured =>
    refine (next_unless_off _ h0).trans (congrArg Host.Outcome.next (State.onDev_eq_self (Device.each_eq_self fun g hg => ?_)))
    exact leakChan_unmeasured s.dev (List.mem_map.mpr ⟨⟨g, List.mem_range.mp hg⟩, List.mem_ofFn.mpr ⟨_, rfl⟩, rfl⟩)
  case retest =>
    exact congrArg Host.Outcome.next (hostWrite_devCmd (f := cmdDieRetest)
      (g := fun d => { d with gates := { d.gates with retestState := 1 } }) ht (cmdDieRetest_starts hn hs))
  case busy => exact congrArg Host.Outcome.next (hostWrite_devCmd_refused ht (cmdDieRetest_busy hr))
  case refused => exact congrArg Host.Outcome.next (hostWrite_devCmd_refused ht (cmdDieRetest_refused hn h1 h2))

end

section
/-!
PROOFS of the statements about the torque and flux engine (chapter 3): sector and torque level, the draft table.
-/

namespace Sys2Proof.Machine

/-! ## Sector (R85) -/

/-- The model's absolute value is that of Mathlib. -/
theorem ratAbs_eq_abs (x : Rat) : ratAbs x = |x| := by
  unfold ratAbs
  split
  case isTrue h => exact (abs_of_neg h).symm
  case isFalse h => exact (abs_of_nonneg (not_lt.mp h)).symm

/-- The angle's own sector is one of the twelve. -/
theorem sectorOf_lt (th : Rat) : sectorOf th < 12 := by
  unfold sectorOf
  omega

/-- The sector stays or moves to one of its two neighbours. -/
theorem sectorNext_cases (k hys : Nat) (th : Rat) :
    sectorNext k hys th = k ∨ sectorNext k hys th = (k + 1) % 12 ∨ sectorNext k hys th = (k + 11) % 12 := by
  unfold sectorNext
  dsimp only
  split
  · exact .inr (.inl rfl)
  · split
    · exact .inr (.inr rfl)
    · exact .inl rfl

theorem sectorNext_lt {k : Nat} (hys : Nat) (th : Rat) (hk : k < 12) : sectorNext k hys th < 12 := by
  obtain h | h | h := sectorNext_cases k hys th <;> omega

/-- Within the sector's width and its hysteresis neither boundary has been passed. -/
theorem sectorNext_eq_self {k hys : Nat} {th : Rat} (h : ratAbs (wrapDeg (th - 30 * k)) ≤ 15 + (hys : Rat) / 10) :
    sectorNext k hys th = k := by
  rw [ratAbs_eq_abs] at h
  obtain ⟨hlo, hhi⟩ := abs_le.mp h
  exact (if_neg (not_lt.mpr hhi)).trans (if_neg (not_lt.mpr hlo))

/-! ## Torque level (R86) -/

/-- A step of R86 keeps the range of the torque level where the value it sets lies in the range. -/
theorem torqueStep_mem {c : Prop} [Decidable c] {v t : Int} (hv : v ∈ Set.Icc (-2) 2) (ht : t ∈ Set.Icc (-2) 2) :
    (if c then v else t) ∈ Set.Icc (-2 : Int) 2 :=
  iteInduction (motive := (· ∈ Set.Icc (-2 : Int) 2)) (fun _ => hv) fun _ => ht

theorem torqueLevel_mem {tl : Int} (e h1 h2 : Rat) (h : tl ∈ Set.Icc (-2) 2) : torqueLevel tl e h1 h2 ∈ Set.Icc (-2) 2 := by
  have start := torqueStep_mem (c := tl = 2 ∧ e ≤ h1) (v := 1) (by decide) h
  exact torqueStep_mem (by decide) <| torqueStep_mem (by decide) <| torqueStep_mem (by decide) <|
    torqueStep_mem (by decide) <| torqueStep_mem (by decide) <| torqueStep_mem (by decide) <|
    torqueStep_mem (by decide) start

/-- At or above the outer band the level is +2. -/
theorem torqueLevel_above (tl : Int) {e h2 : Rat} (h1 : Rat) (h : h2 ≤ e) : torqueLevel tl e h1 h2 = 2 := if_pos h

/-- At or below the outer band the level is -2. -/
theorem torqueLevel_below (tl : Int) {e h2 : Rat} (h1 : Rat) (h0 : 0 < h2) (h : e ≤ -h2) : torqueLevel tl e h1 h2 = -2 :=
  (if_neg (by linarith)).trans (if_pos h)

/-- Between the positive bands the level is +1, or stays +2 while the error stands above the inner one. -/
theorem torqueLevel_between {tl : Int} {e h1 h2 : Rat} (h0 : 0 < h1) (htl : tl ≤ 2) (h : h1 ≤ e) (he : e < h2) :
    torqueLevel tl e h1 h2 = if tl = 2 ∧ h1 < e then 2 else 1 := by
  have hb : ¬ e ≤ -h2 := by linarith
  have hn : ¬ e ≤ -h1 := by linarith
  have hz : ¬ e ≤ 0 := by linarith
  have hp : 0 ≤ e := by linarith
  have hm : -h1 ≤ e := by linarith
  simp only [torqueLevel, not_le.mpr he, hb, hn, hz, hp, hm, h, if_false, and_false, and_true]
  obtain rfl | rfl | hlow : tl = 2 ∨ tl = 1 ∨ tl ≤ 0 := by omega
  · by_cases hc : e ≤ h1 <;> simp [hc, ← not_le]
  · simp
  · have hstep : (if tl = -2 then -1 else tl) ≤ 0 := by omega
    have hne : tl ≠ 2 := by omega
    simp [hne, hstep]

/-- Between the negative bands the level is -1, or stays -2 while the error stands below the inner one. -/
theorem torqueLevel_between_neg {tl : Int} {e h1 h2 : Rat} (h0 : 0 < h1) (htl : -2 ≤ tl) (h : e ≤ -h1) (he : -h2 < e) :
    torqueLevel tl e h1 h2 = if tl = -2 ∧ e < -h1 then -2 else -1 := by
  have ha : ¬ h2 ≤ e := by linarith
  have hp : ¬ h1 ≤ e := by linarith
  have hz : ¬ 0 ≤ e := by linarith
  have hn : e ≤ 0 := by linarith
  have hm : e ≤ h1 := by linarith
  simp only [torqueLevel, ha, not_le.mpr he, hp, hz, hn, hm, h, if_false, and_false, and_true]
  obtain rfl | rfl | hhigh : tl = -2 ∨ tl = -1 ∨ 0 ≤ tl := by omega
  · by_cases hc : -h1 ≤ e <;> simp [hc, ← not_le]
  · simp
  · have hstep : 0 ≤ (if tl = 2 then 1 else tl) := by omega
    have hne : tl ≠ -2 := by omega
    have hne' : (if tl = 2 then 1 else tl) ≠ -2 := by omega
    simp [hne, hne', hstep]

/-! ## Draft table (R91-R94) -/

/-- The entry of a beat lies in the table of 2 x 5 rows with 12 sectors of two balance bits. -/
theorem draftIndex_lt {x : Selection} (htl : -2 ≤ x.tl) (hk : x.sector < 12) : draftIndex x < 240 := by
  unfold draftIndex
  have hti : (2 - x.tl).toNat ≤ 4 := by omega
  split_ifs <;> omega

/-- The key of entry `e` of a port: subindex `e + 1` of its DRAFT_TABLE. -/
theorem draftTable_eq_raw (S : Settings) (p : PortId) (e : Nat) :
    Cfg.draftTable S p e = S.raw ((0x6180 + 0x800 * p.num) * 256 + (e + 1)) (dDraft e) :=
  congrArg (S.raw · (dDraft e)) (by omega)

/-- Every cell of Table 3.4 holds state codes. -/
theorem draftRow_le (fl : Bool) (tl : Int) : ∀ c ∈ draftRow fl tl, c.1 ≤ 26 ∧ c.2 ≤ 26 := by
  unfold draftRow
  split <;> decide

/-- Every default entry is a state code; what lies outside Table 3.4 reads as 13. -/
theorem dDraft_le (e : Nat) : dDraft e ≤ 26 := by
  have hcell (fl : Bool) (tl : Int) (i : Nat) :
      ((draftRow fl tl).getD i (13, 13)).1 ≤ 26 ∧ ((draftRow fl tl).getD i (13, 13)).2 ≤ 26 := by
    rw [List.getD_eq_getElem?_getD]
    cases h : (draftRow fl tl)[i]? with
    | none => decide
    | some c => exact draftRow_le fl tl c (List.mem_of_getElem? h)
  unfold dDraft
  split_ifs
  · exact (hcell _ _ _).1
  · exact (hcell _ _ _).2

/-- Rule 303 passes settings whose entries of the draft tables are all state codes. -/
theorem le_of_rule303 {v : RuleView} (h : rule303 v = false) {key w : Nat} (hk : key / 256 = 0x6180 ∨ key / 256 = 0x6980)
    (hm : v.S.lookup key = some w) : w ≤ 26 := by
  obtain ⟨l₁, l₂, hl, -⟩ := List.lookup_eq_some_iff.mp hm
  have hmem : (key, w) ∈ v.S := by simp [hl]
  simpa [hk] using List.any_eq_false.mp h _ hmem

/-- Where rule 303 passes, the entry of a beat is a state code, set or default. -/
theorem draftTable_le {v : RuleView} (h : rule303 v = false) (p : PortId) {e : Nat} (he : e < 240) :
    Cfg.draftTable v.S p e ≤ 26 := by
  rw [draftTable_eq_raw, Settings.raw]
  cases hm : v.S.lookup ((0x6180 + 0x800 * p.num) * 256 + (e + 1)) with
  | none => exact dDraft_le e
  | some w =>
    refine le_of_rule303 h ?_ hm
    cases p <;> simp only [PortId.num] <;> omega

/-- Outside voltage limit the table alone gives the state; only zero states are chosen anew (R91, R93). -/
theorem Device.wanted_of_not_vlim {d : Device} {p : PortId} (x : Selection) (h : (d.eng p).vlim = false) :
    d.wanted p x = if isZero (Cfg.draftTable d.cfg p (draftIndex x)) then nearestZero (d.eng p).present
      else Cfg.draftTable d.cfg p (draftIndex x) := by
  simp [Device.wanted, h]

end Sys2Proof.Machine

/-! ## The statements -/

open Sys2Proof Sys2Proof.Machine

/-- Settles O13: the sector's three moves, the range kept by each step of R86, and its value in each of the four bands. -/
theorem selectionRanges : Obligations.SelectionRanges := by
  unfold Obligations.SelectionRanges
  refine ⟨fun k hys th hk => ⟨sectorNext_lt hys th hk, sectorNext_cases k hys th⟩, fun k hys th h => sectorNext_eq_self h,
    fun tl e h1 h2 hlo hhi => torqueLevel_mem e h1 h2 ⟨hlo, hhi⟩,
    fun tl e h1 h2 h0 h12 hlo hhi => ⟨torqueLevel_above tl h1, torqueLevel_below tl h1 (h0.trans h12), fun h he => ?up,
      fun h he => ?down⟩,
    sectorOf_lt⟩
  case up =>
    rw [torqueLevel_between h0 hhi h he]
    split <;> decide
  case down =>
    rw [torqueLevel_between_neg h0 hlo h he]
    split <;> decide

/-- Settles O12: the index and the keys by their definitions, state codes by Table 3.4 and rule 303. -/
theorem draftTableEntry : Obligations.DraftTableEntry := by
  unfold Obligations.DraftTableEntry
  exact ⟨fun tl fl npb k hlo _ hk => ⟨rfl, draftIndex_lt hlo hk⟩,
    fun S e _ => ⟨draftTable_eq_raw S .a e, draftTable_eq_raw S .b e⟩, fun e _ => dDraft_le e,
    fun v h => ⟨fun e he _ => draftTable_le h .a he, fun e he _ => draftTable_le h .b he⟩,
    fun d p x hv hz => (Device.wanted_of_not_vlim x hv).trans (if_neg (Bool.eq_false_iff.mp hz))⟩

end

section
/-!
PROOFS of the statements about the traction ports (chapter 4): torque ceiling, shares and speed ramp, the inputs, the catch, the
ends of stops, locked rotor.
-/

namespace Sys2Proof.Machine

/-! ## Limits and ramps of rationals -/

/-- A limited value lies within its limit. -/
theorem ratAbs_clampRat_le {c : Rat} (x : Rat) (h : 0 ≤ c) : ratAbs (clampRat (-c) c x) ≤ c := by
  rw [ratAbs_eq_abs]
  exact abs_le.mpr ⟨le_max_left _ _, max_le (by linarith) (min_le_left _ _)⟩

/-- A value within its limit is left as it is. -/
theorem clampRat_of_abs_le {c x : Rat} (h : |x| ≤ c) : clampRat (-c) c x = x := by
  obtain ⟨hlo, hhi⟩ := abs_le.mp h
  rw [clampRat, min_eq_right hhi, max_eq_right hlo]

/-- The limit as R130 applies it: what exceeds a ceiling takes the ceiling with its own sign. -/
theorem cap_eq_clampRat {c : Rat} (x : Rat) (h : 0 ≤ c) :
    (if c < ratAbs x then ratSign x * c else x) = clampRat (-c) c x := by
  rw [ratAbs_eq_abs]
  split
  case isFalse hle => exact (clampRat_of_abs_le (not_lt.mp hle)).symm
  case isTrue hlt =>
    obtain hx | hx := lt_abs.mp hlt
    · have hsign : ratSign x = 1 := by simp [ratSign, not_lt.mpr (h.trans hx.le), (h.trans_lt hx).ne']
      rw [hsign, one_mul, clampRat, min_eq_left hx.le, max_eq_right (by linarith)]
    · have hsign : ratSign x = -1 := if_pos (by linarith)
      rw [hsign, neg_one_mul, clampRat, min_eq_right (by linarith), max_eq_left (by linarith)]

theorem abs_slew_sub_le {s : Rat} (x t : Rat) (h : 0 ≤ s) : |slew x t s - x| ≤ s := by
  unfold slew
  split
  case isTrue hx =>
    exact abs_le.mpr ⟨by linarith [le_min hx.le (le_add_of_nonneg_right h : x ≤ x + s)],
      by linarith [min_le_right t (x + s)]⟩
  case isFalse hx =>
    exact abs_le.mpr ⟨by linarith [le_max_right t (x - s)],
      by linarith [max_le (not_lt.mp hx) (sub_le_self x h)]⟩

/-- A slew ends between its start and its target. -/
theorem slew_mem_uIcc {s : Rat} (x t : Rat) (h : 0 ≤ s) : slew x t s ∈ Set.uIcc x t := by
  unfold slew
  split
  case isTrue hx => exact Set.mem_uIcc.mpr (.inl ⟨le_min hx.le (le_add_of_nonneg_right h), min_le_left _ _⟩)
  case isFalse hx => exact Set.mem_uIcc.mpr (.inr ⟨le_max_left _ _, max_le (not_lt.mp hx) (sub_le_self x h)⟩)

/-! ## Speed ramp (R115) -/

/-- A beat of the ramp is one slew at one of the two rates: to 0 on a change of sign, else to the target. -/
theorem rampStep_eq_slew {up down : Rat} (ref target : Rat) (hup : 0 ≤ up) (hdown : 0 ≤ down) :
    ∃ r, 0 ≤ r ∧ r ≤ max up down ∧
      rampStep ref target up down = slew ref (if ref * target < 0 then 0 else target) (r / 1000000) := by
  unfold rampStep
  by_cases hs : ref * target < 0
  · exact ⟨down, hdown, le_max_right _ _, by simp [hs]⟩
  · by_cases ha : ratAbs ref < ratAbs target
    · exact ⟨up, hup, le_max_left _ _, by simp [hs, ha]⟩
    · exact ⟨down, hdown, le_max_right _ _, by simp [hs, ha]⟩

/-- 0 lies between two values of opposite sign. -/
theorem zero_mem_uIcc_of_mul_neg {x y : Rat} (h : x * y < 0) : (0 : Rat) ∈ Set.uIcc x y := by
  obtain ⟨hx, hy⟩ | ⟨hx, hy⟩ := mul_neg_iff.mp h
  · exact Set.mem_uIcc.mpr (.inr ⟨hy.le, hx.le⟩)
  · exact Set.mem_uIcc.mpr (.inl ⟨hx.le, hy.le⟩)

/-- What lies between a value and 0 does not have the other sign. -/
theorem mul_nonneg_of_mem_uIcc_zero {x y : Rat} (h : y ∈ Set.uIcc x 0) : 0 ≤ x * y := by
  obtain ⟨hxy, hy⟩ | ⟨hy, hyx⟩ := Set.mem_uIcc.mp h
  · exact mul_nonneg_of_nonpos_of_nonpos (hxy.trans hy) hy
  · exact mul_nonneg (hy.trans hyx) hy

/-! ## Shares of a machine torque (R130) -/

/-- The shares as limits: the second takes what the limited first leaves, the first what the limited second leaves. -/
theorem shares_eq_clampRat {c1 c2 : Rat} (t a1 : Rat) (h1 : 0 ≤ c1) (h2 : 0 ≤ c2) :
    shares t a1 c1 c2 =
      (clampRat (-c1) c1 (t - clampRat (-c2) c2 (t - clampRat (-c1) c1 (t * a1 / 100))),
        clampRat (-c2) c2 (t - clampRat (-c1) c1 (t * a1 / 100))) := by
  have hfirst (x : Rat) : (if c1 < ratAbs x then (ratSign x * c1, t - x + (x - ratSign x * c1)) else (x, t - x))
      = (clampRat (-c1) c1 x, t - clampRat (-c1) c1 x) := by
    rw [← cap_eq_clampRat x h1]
    split <;> simp
  have hsecond (u : Rat) : (if c2 < ratAbs (t - u) then (u + (t - u - ratSign (t - u) * c2), ratSign (t - u) * c2)
      else (u, t - u)) = (t - clampRat (-c2) c2 (t - u), clampRat (-c2) c2 (t - u)) := by
    rw [← cap_eq_clampRat (t - u) h2]
    split
    · rw [add_sub_assoc', add_sub_cancel]
    · rw [sub_sub_cancel]
  simp only [shares, hfirst, hsecond]

/-- Where the ceilings allow the torque, what the second share leaves lies within the first ceiling. -/
theorem abs_sub_clampRat_le {t u c1 c2 : Rat} (hu : |u| ≤ c1) (ht : |t| ≤ c1 + c2) :
    |t - clampRat (-c2) c2 (t - u)| ≤ c1 := by
  obtain ⟨hulo, huhi⟩ := abs_le.mp hu
  obtain ⟨htlo, hthi⟩ := abs_le.mp ht
  unfold clampRat
  refine abs_le.mpr ⟨?_, ?_⟩
  · have h : max (-c2) (min c2 (t - u)) ≤ t + c1 := max_le (by linarith) ((min_le_right _ _).trans (by linarith))
    linarith
  · have h : t - c1 ≤ max (-c2) (min c2 (t - u)) := le_max_of_le_right (le_min (by linarith) (by linarith))
    linarith

/-! ## T* (R116, R117) -/

theorem Device.onSlot_port (k : Nat) (f : Slot → Slot) (d : Device) (p : PortId) : (d.onSlot k f).port p = d.port p := by
  cases p <;> rfl

/-- The torque of a beat is limited to the ceiling it shows, and it is T*. -/
theorem torqueBeat_clamps (p : PortId) (d : Device) :
    ∃ own, ((torqueBeat p d).port p).torqueCmd
        = clampRat (-((torqueBeat p d).port p).ceiling) ((torqueBeat p d).port p).ceiling own
      ∧ ((torqueBeat p d).eng p).tStar = ((torqueBeat p d).port p).torqueCmd := by
  unfold torqueBeat
  extract_lets d0 r raw mode own k base c0 c src t refused lead d1
  have hport : (if (!lead && (d1.slot p.num).mode == .opened) = true then
      d1.onSlot p.num fun x => { x with output := Config.loopCode p.num r.2.1 } else d1).port p = d1.port p :=
    ite_keeps (·.port p) _ _ d1 (Device.onSlot_port ..)
  simp only [Device.eng, hport, d1, Device.onPort_same]
  exact ⟨own, rfl, trivial⟩

/-! ## Inputs (R112-R114) -/

/-- What an edge of FIN means for a port that takes FIN as its source (R114). -/
theorem finEdge_eq (period : Nat) (d : Device) :
    finEdge period d =
      let d := { d with fin := {
        lastEdge := some d.now, silent := false
        freq := if d.fin.lastEdge.isNone || period == 0 then d.fin.freq else 1000000000 / (period : Rat) } }
      d.each d.finPorts fun p d =>
        if (d.finValue p).isSome && (d.port p).inputInvalid then inputFound p d
        else if (d.finValue p).isNone && !(d.port p).inputInvalid then inputLost p d else d := by
  unfold finEdge
  refine congrArg (Device.each _ · _) (funext fun q => funext fun x => ?_)
  cases x.finValue q <;> cases (x.port q).inputInvalid <;> rfl

/-- With no port on FIN an edge that completes a period sets the frequency alone. -/
theorem finEdge_unused {period : Nat} {u : Nanos} {d : Device} (hu : d.fin.lastEdge = some u) (hp : 0 < period)
    (hn : d.finPorts = []) : finEdge period d =
      { d with fin := { lastEdge := some d.now, silent := false, freq := 1000000000 / (period : Rat) } } := by
  have hports (x : FreqInput) : ({ d with fin := x } : Device).finPorts = [] := hn
  simp only [finEdge, hu, hports]
  simp [Device.each, hp.ne']

/-- FIN_TIMEOUT after an edge acts once, 1 s after it (R114). -/
theorem exec_finTimeout {u : Nanos} {s : State} (late : Bool) (hu : s.dev.fin.lastEdge = some u) :
    exec (.finTimeout late) s =
      .next (if u + sec 1 ≤ s.dev.now ∧ !s.dev.fin.silent then s.onDev fun d => lateMisc late (finTimeout d) else s) := by
  simp [exec, execFinTimeout, hu]

/-! ## Catching (R119-R122) -/

theorem catchInit_od (p : PortId) (psi psiR : Vec) (we : Rat) (step : Nat) (d : Device) :
    (catchInit p psi psiR we step d).od = d.od := by simp [catchInit]

theorem catchStill_od (p : PortId) (d : Device) : (catchStill p d).od = d.od := by
  unfold catchStill
  split
  · split <;> simp [catchInit_od]
  · exact catchInit_od ..

theorem ascTurnOn_od (p : PortId) (upper : Bool) (d : Device) : (ascTurnOn p upper d).od = d.od := by
  simp only [ascTurnOn, Device.onPort_od]
  exact Device.each_keeps (·.od) _ (fun _ _ => Device.onEng_od ..) _ d

theorem catchTurning_od (p : PortId) (e : Vec) (we n : Rat) (d : Device) : (catchTurning p e we n d).od = d.od := by
  unfold catchTurning
  split
  · split
    · simp [ascTurnOn_od, portGatesStop]
    · simp
  · simp [catchInit_od]

theorem catchWindowEnd_od (p : PortId) (d : Device) : (catchWindowEnd p d).od = d.od := by
  unfold catchWindowEnd
  extract_lets wheel e1 weE n we still d1
  split
  · simp [catchStill_od, d1]
  · simp [catchTurning_od, d1]

theorem Device.onPort_wheelAngle {f : Port → Port} (hf : ∀ x, (f x).obsFallback = x.obsFallback) (p q : PortId) (d : Device) :
    (d.onPort p f).wheelAngle q = d.wheelAngle q := by
  simp [Device.wheelAngle, Device.namedWheel, Device.wheel, Device.cfg, Device.onPort_keeps Port.obsFallback f hf]

/-- Below CATCH_EMF_MIN and without a wheel the motor stands (R119, R120). -/
theorem catchWindowEnd_still {p : PortId} {d : Device} (hw : d.srcWheel p = none)
    (he : emfBelow (d.lineVolts p) (Cfg.catchEmfMin d.cfg p)) :
    ∃ n, catchWindowEnd p d =
      catchStill p (d.onPort p fun x => { x with catchSpeed := n, speedRef := n, twSpeed := false }) := by
  simp only [catchWindowEnd, hw, he, Bool.and_self, if_true]
  exact ⟨_, rfl⟩

/-- A motor of type 1 whose angle no wheel gives starts the angle test (R120). -/
theorem catchStill_test {p : PortId} {d : Device} (hm : Cfg.machineType d.cfg p = 1) (ha : d.wheelAngle p = none) :
    catchStill p d =
      (d.onEng p fun e => { e with angleTest := some { start := d.now } }).onPort p fun x => { x with catchStep := 2 } := by
  simp [catchStill, hm, ha]

/-- Where such a motor stands, its window ends in step 2 of the catch, with the angle test begun (R119, R120). -/
theorem catchWindowEnd_test {p : PortId} {d : Device} (hw : d.srcWheel p = none)
    (he : emfBelow (d.lineVolts p) (Cfg.catchEmfMin d.cfg p)) (hm : Cfg.machineType d.cfg p = 1)
    (ha : d.wheelAngle p = none) :
    ((catchWindowEnd p d).port p).catchStep = 2
      ∧ ((catchWindowEnd p d).eng p).angleTest = some { start := d.now } := by
  obtain ⟨n, hn⟩ := catchWindowEnd_still hw he
  rw [hn, catchStill_test (by simpa [Device.cfg] using hm)
    (by rwa [Device.onPort_wheelAngle (f := fun x => { x with catchSpeed := n, speedRef := n, twSpeed := false }) fun _ => rfl])]
  simp [Device.eng, Device.now]

/-! ## The ends of a stop (R123) -/

/-- What a port's shutdown part determines is kept where that part is. -/
theorem Port.eq_of_still {g : Port → β} (hg : ∀ x : Port, g x.still = g x) {x y : Port} (h : x.still = y.still) : g x = g y := by
  rw [← hg x, h, hg y]

theorem raise_port (g : Port → β) (hg : ∀ x : Port, g x.still = g x) (f : FaultName) (sc : Scope) (r : Nat) (d : Device)
    (q : PortId) : g ((raise f sc r d).port q) = g (d.port q) := Port.eq_of_still hg (raise_still f sc r d q)

theorem ascTurnOn_state (p q : PortId) (upper : Bool) (d : Device) :
    ((ascTurnOn p upper d).port q).state = (d.port q).state := by
  unfold ascTurnOn
  refine (Device.onPort_keeps Port.state (fun x => { x with ascUpper := upper }) (fun _ => rfl) p q _).trans ?_
  exact Device.each_keeps (fun x => (x.port q).state) _
    (fun _ x => Port.eq_of_still (g := Port.state) (fun _ => rfl) (onEng_still p q _ x)) _ d

theorem portAllOff_state (p q : PortId) (d : Device) : ((portAllOff p d).port q).state = (d.port q).state := by
  unfold portAllOff
  dsimp only
  split
  · split
    · exact ascTurnOn_state p q _ _
    · exact raise_port Port.state (fun _ => rfl) ..
  · rfl

/-- A port that takes its safe state stands in it (R27). -/
theorem takeSafe_state (rule : Bool) (p : PortId) (d : Device) : ((takeSafe rule p d).port p).state = d.safeState p := by
  unfold takeSafe
  dsimp only
  split
  · rw [portAllOff_state, Device.onPort_same]
  · rw [Device.onPort_same]

theorem safeState_of_not_wantsAsc {p : PortId} {d : Device} (h : d.wantsAsc p = false) : d.safeState p = .sto := by
  simp [Device.safeState, h]

theorem safeState_of_wantsAsc {p : PortId} {d : Device} (h : d.wantsAsc p) (hs : (d.ascSet p).isSome) :
    d.safeState p = .asc := by
  simp [Device.safeState, h, hs]

/-- The end of a stop leaves the port in its idle state and module control and faults as they were. -/
theorem stopEnds_frame (st : PortState) (p : PortId) (d : Device) :
    ((stopEnds st p d).port p).state = st ∧ (stopEnds st p d).ctl = d.ctl ∧ (stopEnds st p d).faults = d.faults := by
  simp [stopEnds]

/-- A stop that ends at standstill, other than SS1 (R123, Table 4.2). -/
theorem standstillHeld_eq {p : PortId} {d : Device} {st : PortState} (h : stillTo (d.port p).stop = some st)
    (hs : (d.port p).stop ≠ .ss1) : standstillHeld p d = stopEnds st p d := by
  simp [standstillHeld, h, hs]

/-- An SS1 stop that ends at standstill blocks the restart (R310). -/
theorem standstillHeld_ss1 {p : PortId} {d : Device} (h : (d.port p).stop = .ss1) :
    standstillHeld p d = (stopEnds .disabled p d).onPsafe p fun x => { x with restartBlock := true } := by
  simp [standstillHeld, h, stillTo]

/-- STANDSTILL_HELD in a stop that ends in an idle state, other than SS1 (Table 4.2). -/
theorem exec_standstillHeld {p : PortId} {s : State} {st : PortState} (hs : (s.dev.port p).state = .stopping)
    (ht : lasted s.dev.now (s.dev.port p).stillSince 100000000) (hst : stillTo (s.dev.port p).stop = some st)
    (hn : (s.dev.port p).stop ≠ .ss1) :
    ∃ t : State, exec (.standstillHeld p) s = .next t ∧ t.pending = s.pending ∧ t.otp = s.otp
      ∧ (t.dev.port p).state = st ∧ t.dev.ctl = s.dev.ctl ∧ t.dev.faults = s.dev.faults := by
  refine ⟨s.onDev (standstillHeld p), congrArg Host.Outcome.next (if_pos ⟨hs, ht, by simp [hn]⟩), rfl, rfl, ?_⟩
  rw [State.onDev_dev, standstillHeld_eq hst hn]
  exact stopEnds_frame st p s.dev

theorem Device.onPsafe_port (p q : PortId) (f : PortSafety → PortSafety) (d : Device) :
    (d.onPsafe p f).port q = d.port q := port_of_parts ⟨by simp, by simp⟩ q

/-! ## Locked rotor (R124) -/

/-- The report of a locked rotor: the fault, the flag and its count, in the state the port stood in. -/
theorem lockedRotor_frame (p : PortId) (d : Device) :
    (lockedRotor p d).hasFault .locked (.port p) 1 ∧ ((lockedRotor p d).port p).locked = true
      ∧ ((lockedRotor p d).port p).lrCount = ((d.port p).lrCount + 1) % 2 ^ 16
      ∧ ((lockedRotor p d).port p).state = (d.port p).state := by
  refine ⟨raise_hasFault _ _ _ _ (by decide), ?_⟩
  simp [lockedRotor, raise_port Port.locked fun _ => rfl, raise_port Port.lrCount fun _ => rfl,
    raise_port Port.state fun _ => rfl, addWrap]

end Sys2Proof.Machine

/-! ## The statements -/

open Sys2Proof Sys2Proof.Machine

/-- Settles O17: the torque command is a value limited to the ceiling (`torqueBeat_clamps`). -/
theorem torqueWithinCeiling : Obligations.TorqueWithinCeiling := by
  unfold Obligations.TorqueWithinCeiling
  intro p d hc
  obtain ⟨own, hcmd, hstar⟩ := torqueBeat_clamps p d
  refine ⟨?_, hstar⟩
  rw [hcmd]
  exact ratAbs_clampRat_le own hc

/-- Settles O18: both shares are limited values, and the first limit takes nothing where the ceilings allow the torque. -/
theorem torqueShares : Obligations.TorqueShares := by
  unfold Obligations.TorqueShares
  intro t a1 c1 c2 _ _ h1 h2
  rw [shares_eq_clampRat t a1 h1 h2]
  refine ⟨ratAbs_clampRat_le _ h1, ratAbs_clampRat_le _ h2, fun ht => ?_⟩
  have hu : |clampRat (-c1) c1 (t * a1 / 100)| ≤ c1 := by
    rw [← ratAbs_eq_abs]
    exact ratAbs_clampRat_le _ h1
  rw [ratAbs_eq_abs] at ht
  rw [clampRat_of_abs_le (abs_sub_clampRat_le hu ht), sub_add_cancel]

/-- Settles O19: a beat is one slew at one of the two rates, to the target or, on a change of sign, to the 0 between. -/
theorem speedRamp : Obligations.SpeedRamp := by
  unfold Obligations.SpeedRamp
  intro ref target up down hup hdown
  obtain ⟨r, hr0, hrmax, heq⟩ := rampStep_eq_slew ref target hup hdown
  have hstep : 0 ≤ r / 1000000 := by positivity
  have hmem : rampStep ref target up down ∈ Set.uIcc ref (if ref * target < 0 then 0 else target) :=
    heq ▸ slew_mem_uIcc _ _ hstep
  have hin : Set.uIcc ref (if ref * target < 0 then 0 else target) ⊆ Set.uIcc ref target := by
    refine Set.uIcc_subset_uIcc_left ?_
    split
    case isTrue hs => exact zero_mem_uIcc_of_mul_neg hs
    case isFalse => exact Set.right_mem_uIcc
  obtain ⟨hlo, hhi⟩ := hin hmem
  refine ⟨?_, hlo, hhi, fun hs => ?_⟩
  · rw [ratAbs_eq_abs, heq]
    exact (abs_slew_sub_le _ _ hstep).trans (by gcongr)
  · rw [if_pos hs] at hmem
    exact mul_nonneg_of_mem_uIcc_zero hmem

/-- Settles O14: the two writes are taken or refused by their range, and each event is its branch. -/
theorem portInputs : Obligations.PortInputs := by
  unfold Obligations.PortInputs
  refine ⟨fun q p v s ht hv => ?request, fun q p v s ht hv => ?requestRange, fun q p v s ht hv => ?speed,
    fun q p v s ht hv => ?speedRange, fun p late s h0 ht => congrArg Host.Outcome.next (if_pos ⟨h0, ht⟩),
    fun p late s ht => congrArg Host.Outcome.next (if_neg (by simp [ht])), fun u late s hu ht hs => ?silent,
    fun late s h => ?notDue, fun period u s h0 hu hp hn => (next_unless_off _ h0).trans (next_onDev (finEdge_unused hu hp hn)),
    fun period s h0 => (next_unless_off _ h0).trans (next_onDev (finEdge_eq period s.dev))⟩
  case request =>
    exact congrArg Host.Outcome.next (hostWrite_devCmd (f := cmdDriveRequest p v.toNat)
      (g := fun d => (inputWritten p (pushLive (driveRequestKey p) v.toNat d)).onPort p fun x =>
        { x with afresh := x.afresh && Cfg.curveSrc d.cfg p != 0 }) ht (if_neg (Nat.not_lt.mpr hv)))
  case requestRange =>
    exact congrArg Host.Outcome.next (hostWrite_devCmd_refused (f := cmdDriveRequest p v.toNat) ht (if_pos hv))
  case speed =>
    exact congrArg Host.Outcome.next (hostWrite_devCmd (f := cmdSpeedInput p v.toNat)
      (g := fun d => inputWritten p (pushLive (speedInputKey p) v.toNat d)) ht (if_neg hv))
  case speedRange =>
    exact congrArg Host.Outcome.next (hostWrite_devCmd_refused (f := cmdSpeedInput p v.toNat) ht (if_pos hv))
  case silent => exact (exec_finTimeout late hu).trans (congrArg Host.Outcome.next (if_pos ⟨ht, by simp [hs]⟩))
  case notDue =>
    cases hu : s.dev.fin.lastEdge with
    | none => simp [exec, execFinTimeout, hu]
    | some u =>
      have hs : s.dev.fin.silent = true := h.resolve_left (by simp [hu])
      exact (exec_finTimeout late hu).trans (congrArg Host.Outcome.next (if_neg (by simp [hs])))

/-- Settles O15: each event is its branch; what the catch, the ends of a stop and the locked rotor leave is said by the lemmas
about them. -/
theorem portEvents : Obligations.PortEvents := by
  unfold Obligations.PortEvents
  refine ⟨fun p s hs hc ht => ?window, fun p s h => ?noWindow,
    fun p s hs ht ho => congrArg Host.Outcome.next (if_pos ⟨hs, ht, ho⟩),
    fun p s ho => congrArg Host.Outcome.next (if_neg fun ⟨_, _, hlow⟩ => not_lt.mpr ho hlow),
    fun p s h => congrArg Host.Outcome.next (if_pos (.inl h)), fun p s hs ht hr => ?release, fun p s hs ht hr => ?disable,
    fun p s hs ht hr hd => ?ss1, fun p late s hs hr hc hn ht => ?timeout, fun p late s hr => ?noTimeout,
    fun p s hs hr he ha => ?f2Sto, fun p s hs hr he ha hset => ?f2Asc, fun p s hs hl ht => ?locked, fun p s hl h => ?clear,
    fun p s hl => congrArg Host.Outcome.next (if_neg (by simp [hl])), fun p l s h0 ha hl => ?speed, fun p s h => ?noSpeed⟩
  case window =>
    exact ⟨s.onDev (catchWindowEnd p), congrArg Host.Outcome.next (if_pos ⟨hs, hc, ht⟩), rfl, rfl, catchWindowEnd_od p s.dev,
      catchWindowEnd_test⟩
  case noWindow => exact congrArg Host.Outcome.next (if_neg fun ⟨hs, hc, _⟩ => h.elim (· hs) (· hc))
  case release => exact exec_standstillHeld hs ht (by simp [hr, stillTo]) (by simp [hr])
  case disable =>
    obtain hr | hr := hr <;> exact exec_standstillHeld hs ht (by simp [hr, stillTo]) (by simp [hr])
  case ss1 =>
    refine ⟨s.onDev (standstillHeld p), congrArg Host.Outcome.next (if_pos ⟨hs, ht, by simp [hd]⟩), ?_⟩
    simp [standstillHeld_ss1 hr, Device.onPsafe_port, stopEnds_frame]
  case timeout => exact congrArg Host.Outcome.next (if_pos ⟨hs, hr, by simp [hc], by simp [hn], ht⟩)
  case noTimeout => exact congrArg Host.Outcome.next (if_neg fun hc => by obtain h | h := hr <;> simp [h] at hc)
  case f2Sto =>
    exact ⟨s.onDev (takeSafe false p), congrArg Host.Outcome.next (if_pos ⟨hs, hr, he⟩), rfl, rfl,
      (takeSafe_state false p s.dev).trans (safeState_of_not_wantsAsc ha)⟩
  case f2Asc =>
    exact ⟨s.onDev (takeSafe false p), congrArg Host.Outcome.next (if_pos ⟨hs, hr, he⟩), rfl, rfl,
      (takeSafe_state false p s.dev).trans (safeState_of_wantsAsc ha hset)⟩
  case locked =>
    exact ⟨s.onDev (lockedRotor p), congrArg Host.Outcome.next (if_pos ⟨hs, by simp [hl], ht⟩), rfl, rfl,
      lockedRotor_frame p s.dev⟩
  case clear => exact congrArg Host.Outcome.next (if_pos ⟨hl, by simpa [or_assoc, Device.eng, sec] using h⟩)
  case speed => exact congrArg Host.Outcome.next ((if_pos ⟨h0, ha⟩).trans (by rw [hl]; rfl))
  case noSpeed =>
    refine congrArg Host.Outcome.next (ite_eq_right_iff.mpr fun ⟨_, hoff⟩ => ?_)
    have hn : s.dev.emfBefore p = none := h.resolve_left (by simp [hoff])
    rw [hn]

end

section
/-!
PROOFS of the statements about the tooth-wheel inputs (chapter 5): the filter, edges and pulses, standstill, signal and
plausibility.
-/

namespace Sys2Proof.Machine

/-! ## Updates of a wheel -/

/-- An update of a wheel that exists shows in it. -/
theorem Device.onWheel_wheel {n : Nat} {d : Device} (f : Wheel → Wheel) (h : n < d.wheels.length) :
    (d.onWheel n f).wheel n = f (d.wheel n) := by
  simp [Device.onWheel, Device.wheel, h]

@[simp] theorem Device.onWheel_wheels_length (n : Nat) (f : Wheel → Wheel) (d : Device) :
    (d.onWheel n f).wheels.length = d.wheels.length := List.length_modify ..

@[simp] theorem Device.onWheel_cfg (n : Nat) (f : Wheel → Wheel) (d : Device) : (d.onWheel n f).cfg = d.cfg := rfl

theorem Device.wheel_of_wheels {d d' : Device} (h : d'.wheels = d.wheels) (n : Nat) : d'.wheel n = d.wheel n := by
  simp only [Device.wheel, h]

/-- The pass-through output follows its source and touches nothing else of the wheel (R150). -/
theorem Wheel.passFollow_eq (x : Wheel) : ∃ high waits, x.passFollow = { x with outHigh := high, outWaits := waits } := by
  unfold Wheel.passFollow
  split
  · exact ⟨_, _, rfl⟩
  · split <;> exact ⟨_, _, rfl⟩

@[simp] theorem Wheel.passFollow_frame (x : Wheel) :
    x.passFollow.levelA = x.levelA ∧ x.passFollow.trackB = x.trackB ∧ x.passFollow.rawA = x.rawA
      ∧ x.passFollow.rawASince = x.rawASince ∧ x.passFollow.rawB = x.rawB ∧ x.passFollow.rawBSince = x.rawBSince
      ∧ x.passFollow.lastEdge = x.lastEdge ∧ x.passFollow.index = x.index ∧ x.passFollow.leading = x.leading
      ∧ x.passFollow.extra = x.extra ∧ x.passFollow.pwErr = x.pwErr := by
  obtain ⟨high, waits, h⟩ := x.passFollow_eq
  simp [h]

/-- The levels before the filter at the first sample of a run, and the pass-through output with them (R136, R150). -/
def Wheel.sampled (start : Nanos) (r : TrackRun) (x : Wheel) : Wheel :=
  { x with rawA := r.a, rawASince := if r.a = x.rawA then x.rawASince else start
           rawB := r.b, rawBSince := if r.b = x.rawB then x.rawBSince else start }.passFollow

/-- The timing track's level before the filter is accepted (R136). -/
def Wheel.levelTaken (x : Wheel) : Wheel := { x with levelA := x.rawA }.passFollow

/-- What the samples leave of a wheel: all that the filter accepts or the tooth logic counts. -/
theorem Wheel.sampled_frame (start : Nanos) (r : TrackRun) (x : Wheel) :
    (x.sampled start r).levelA = x.levelA ∧ (x.sampled start r).trackB = x.trackB ∧ (x.sampled start r).lastEdge = x.lastEdge
      ∧ (x.sampled start r).index = x.index ∧ (x.sampled start r).leading = x.leading ∧ (x.sampled start r).extra = x.extra
      ∧ (x.sampled start r).pwErr = x.pwErr := by
  simp [Wheel.sampled]

/-- The samples stand as the levels before the filter, a new one since the run's start. -/
theorem Wheel.sampled_raw (start : Nanos) (r : TrackRun) (x : Wheel) :
    (x.sampled start r).rawA = r.a ∧ (x.sampled start r).rawB = r.b
      ∧ (x.sampled start r).rawASince = (if r.a = x.rawA then x.rawASince else start)
      ∧ (x.sampled start r).rawBSince = (if r.b = x.rawB then x.rawBSince else start) := by
  simp [Wheel.sampled]

theorem Wheel.levelTaken_frame (x : Wheel) :
    x.levelTaken.levelA = x.rawA ∧ x.levelTaken.lastEdge = x.lastEdge ∧ x.levelTaken.index = x.index
      ∧ x.levelTaken.extra = x.extra ∧ x.levelTaken.pwErr = x.pwErr := by
  simp [Wheel.levelTaken]

/-! ## The filter (R136) -/

/-- Both accepted levels are those before the filter. -/
def Wheel.settled (x : Wheel) : Prop := x.rawA = x.levelA ∧ x.rawB = x.trackB

theorem acceptAt_same (S : Settings) (n : Nat) {level raw : Bool} (since : Nat) (h : level = raw) :
    acceptAt S n level raw since = none := if_pos h

theorem acceptAt_changed (S : Settings) (n : Nat) {level raw : Bool} (since : Nat) (h : level ≠ raw) :
    acceptAt S n level raw since = some (since + 25 * (Cfg.filterN S n - 1)) := if_neg h

/-- No level is accepted before its sample. -/
theorem twSettle_not_due {n upTo : Nat} {d : Device}
    (ha : ∀ t ∈ acceptAt d.cfg n (d.wheel n).levelA (d.wheel n).rawA (d.wheel n).rawASince, upTo < t)
    (hb : ∀ t ∈ acceptAt d.cfg n (d.wheel n).trackB (d.wheel n).rawB (d.wheel n).rawBSince, upTo < t) :
    twSettle n upTo d = d := by
  have hdue {o : Option Nanos} (h : ∀ t ∈ o, upTo < t) : o.any (fun t => decide (t ≤ upTo)) = false := by
    cases o with
    | none => rfl
    | some t => simpa using h t rfl
  simp [twSettle, hdue ha, hdue hb]

theorem twSettle_settled {n : Nat} {d : Device} (upTo : Nat) (h : (d.wheel n).settled) : twSettle n upTo d = d := by
  obtain ⟨ha, hb⟩ := h
  exact twSettle_not_due (by simp [acceptAt_same _ _ _ ha.symm]) (by simp [acceptAt_same _ _ _ hb.symm])

/-- With nothing new on the second track the timing track's level is accepted alone. -/
theorem twSettle_timing {n upTo : Nat} {d : Device} (hb : (d.wheel n).rawB = (d.wheel n).trackB)
    (ha : (d.wheel n).rawA ≠ (d.wheel n).levelA) (ht : (d.wheel n).rawASince + 25 * (Cfg.filterN d.cfg n - 1) ≤ upTo) :
    twSettle n upTo d = acceptA n d := by
  simp [twSettle, acceptAt_same _ _ _ hb.symm, acceptAt_changed _ _ _ ha.symm, ht]

/-- Of a run that meets a settled wheel nothing was due before it. -/
theorem twRun_settled {n : Nat} {d : Device} (start : Nat) (r : TrackRun) (h : (d.wheel n).settled) :
    twRun n start r d = twSettle n (start + 25 * (r.count - 1)) (d.onWheel n (Wheel.sampled start r)) := by
  unfold twRun
  rw [twSettle_settled _ h]
  rfl

/-- A run shorter than FILTER_N is not accepted. -/
theorem twRun_short {n start : Nat} {r : TrackRun} {d : Device} (hl : n < d.wheels.length) (h : (d.wheel n).settled)
    (h0 : 0 < r.count) (hc : r.count < Cfg.filterN d.cfg n) :
    twRun n start r d = d.onWheel n (Wheel.sampled start r) := by
  have hx := Device.onWheel_wheel (Wheel.sampled start r) hl
  obtain ⟨hla, htb, -⟩ := (d.wheel n).sampled_frame start r
  obtain ⟨hra, hrb, hsa, hsb⟩ := (d.wheel n).sampled_raw start r
  have hlate {level raw : Bool} {since : Nat} :
      ∀ t ∈ acceptAt d.cfg n level raw (if raw = level then since else start), start + 25 * (r.count - 1) < t := by
    intro t ht
    by_cases he : raw = level
    · simp [acceptAt_same _ _ _ he.symm] at ht
    · rw [acceptAt_changed _ _ _ (Ne.symm he), if_neg he, Option.mem_some_iff] at ht
      subst ht
      have hf : r.count - 1 < Cfg.filterN d.cfg n - 1 := by omega
      exact Nat.add_lt_add_left (Nat.mul_lt_mul_of_pos_left hf (by decide)) start
  rw [twRun_settled start r h]
  obtain ⟨ha, hb⟩ := h
  refine twSettle_not_due ?_ ?_
  · rw [hx, hla, hra, hsa, ha]
    exact hlate
  · rw [hx, htb, hrb, hsb, hb]
    exact hlate

/-- A run brings an edge: a wheel that is on and settled sees a new level of the timing track, with the second track as it
was, for FILTER_N samples or more. -/
structure BringsEdge (n : Nat) (r : TrackRun) (d : Device) : Prop where
  wheel   : n < d.wheels.length
  settled : (d.wheel n).settled
  long    : Cfg.filterN d.cfg n ≤ r.count
  level   : r.a ≠ (d.wheel n).levelA
  second  : r.b = (d.wheel n).trackB
  on      : Cfg.inputType d.cfg n ≠ 0

/-- A new level stands since the run's first sample. -/
theorem BringsEdge.rawASince {n : Nat} {r : TrackRun} {d : Device} (start : Nat) (h : BringsEdge n r d) :
    ((d.wheel n).sampled start r).rawASince = start := by
  obtain ⟨-, -, hs, -⟩ := (d.wheel n).sampled_raw start r
  rw [hs, if_neg (h.settled.1 ▸ h.level)]

/-- The new level is accepted. -/
theorem BringsEdge.twRun_eq {n : Nat} {r : TrackRun} {d : Device} (start : Nat) (h : BringsEdge n r d) :
    twRun n start r d = acceptA n (d.onWheel n (Wheel.sampled start r)) := by
  have hx := Device.onWheel_wheel (Wheel.sampled start r) h.wheel
  obtain ⟨hla, htb, -⟩ := (d.wheel n).sampled_frame start r
  obtain ⟨hra, hrb, -⟩ := (d.wheel n).sampled_raw start r
  rw [twRun_settled start r h.settled]
  refine twSettle_timing ?_ ?_ ?_
  · rw [hx, hrb, htb, h.second]
  · rw [hx, hra, hla]
    exact h.level
  · rw [hx, h.rawASince, Device.onWheel_cfg]
    exact Nat.add_le_add_left (Nat.mul_le_mul_left 25 (Nat.sub_le_sub_right h.long 1)) start

/-! ## The accepted timing track (R137-R139) -/

/-- The leading edge of a pulse waits for its trailing edge (R138). -/
theorem acceptA_leading {n : Nat} {d : Device} (hi : Cfg.inputType d.cfg n ≠ 0)
    (he : (d.wheel n).rawA ≠ Cfg.edgeSel d.cfg n) (hd : Cfg.dirMode d.cfg n = 1) :
    acceptA n d =
      (d.onWheel n Wheel.levelTaken).onWheel n fun x => { x with leading := some (d.wheel n).rawASince } := by
  simp only [acceptA, Device.onWheel_cfg, if_neg hi, beq_eq_false_iff_ne.mpr he, Bool.false_eq_true, if_false, hd]
  rfl

/-- With the direction on the second track an edge is a timing edge at its first sample (R137, R139). -/
theorem acceptA_timing {n : Nat} {d : Device} (hi : Cfg.inputType d.cfg n ≠ 0)
    (he : (d.wheel n).rawA ≠ Cfg.edgeSel d.cfg n) (hd : Cfg.dirMode d.cfg n = 2) :
    acceptA n d = timingEdge n (d.wheel n).rawASince ((d.wheel n).trackB != Cfg.bFwdLevel d.cfg n)
      (d.onWheel n Wheel.levelTaken) := by
  simp only [acceptA, Device.onWheel_cfg, if_neg hi, beq_eq_false_iff_ne.mpr he, Bool.false_eq_true, if_false, hd]
  rfl

/-- The trailing edge ends the pulse (R138). -/
theorem acceptA_trailing {n : Nat} {lead : Nanos} {d : Device} (hi : Cfg.inputType d.cfg n ≠ 0)
    (he : (d.wheel n).rawA = Cfg.edgeSel d.cfg n) (hd : Cfg.dirMode d.cfg n = 1) (hlead : (d.wheel n).leading = some lead) :
    acceptA n d = twPulseEnd n lead (d.wheel n).rawASince (d.onWheel n Wheel.levelTaken) := by
  simp only [acceptA, Device.onWheel_cfg, if_neg hi, beq_iff_eq.mpr he, if_true, hlead, hd]
  rfl

/-! ## A tooth on a wheel without a reference pattern (R142, R143, R147) -/

/-- No reference, no extra tooth to wait for. -/
theorem timingEdge_no_ref {n : Nat} {d : Device} (stamp : Nanos) (rev : Bool) (hr : Cfg.refType d.cfg n = 0)
    (hx : (d.wheel n).extra = none) : timingEdge n stamp rev d = takeTooth n stamp rev false d := by
  simp [timingEdge, hx, Wheel.mayBeExtra, wheelCfg, hr]

theorem referenceStep_no_ref {c : WheelCfg} (n : Nat) (rev found judged : Bool) (d : Device) (h : c.refType = 0) :
    referenceStep n c rev found judged d = d := if_pos h

/-- A tooth that is counted for SDI touches its port's travel alone (R312). -/
theorem sdiTooth_frame (n : Nat) (rev : Bool) (p : PortId) (d : Device) :
    (sdiTooth n rev p d).wheels = d.wheels ∧ (sdiTooth n rev p d).ctl = d.ctl ∧ (sdiTooth n rev p d).faults = d.faults := by
  simp only [sdiTooth]
  split <;> simp

/-- What a tooth leaves: its edge, its direction, and no standstill where it is the first one. -/
theorem takeTooth_no_ref {n : Nat} {d : Device} (stamp : Nanos) (rev extra : Bool) (hl : n < d.wheels.length)
    (hr : Cfg.refType d.cfg n = 0) :
    ((takeTooth n stamp rev extra d).wheel n).lastEdge = some stamp
      ∧ ((takeTooth n stamp rev extra d).wheel n).reverse = rev
      ∧ ((d.wheel n).lastEdge = none → ((takeTooth n stamp rev extra d).wheel n).standstill = false)
      ∧ (takeTooth n stamp rev extra d).ctl = d.ctl ∧ (takeTooth n stamp rev extra d).faults = d.faults := by
  have hw (x : Device) : (x.each ports (sdiTooth n rev)).wheel n = x.wheel n :=
    Device.wheel_of_wheels (by simp [Device.each_ports, sdiTooth_frame]) n
  have hv (S : Settings) (x : Wheel) : (Wheel.validity S n x).lastEdge = x.lastEdge ∧ (Wheel.validity S n x).reverse = x.reverse
      ∧ (Wheel.validity S n x).standstill = x.standstill := ⟨rfl, rfl, rfl⟩
  simp only [takeTooth, referenceStep_no_ref n rev _ _ _ (show (wheelCfg d.cfg n).refType = 0 from hr), hw]
  simp only [Device.onWheel_wheel, Device.onWheel_wheels_length, hl, hv]
  simp +contextual [Device.each_ports, sdiTooth_frame]

/-! ## Pulses out of range (R138) -/

/-- A pulse that is discarded is counted; what else the wheel has stays. -/
theorem pulseDiscard_wheel {n : Nat} {d : Device} (hl : n < d.wheels.length) :
    ((pulseDiscard n d).wheel n).pwErr = ((d.wheel n).pwErr + 1) % 2 ^ 16
      ∧ ((pulseDiscard n d).wheel n).leading = (d.wheel n).leading
      ∧ ((pulseDiscard n d).wheel n).lastEdge = (d.wheel n).lastEdge
      ∧ ((pulseDiscard n d).wheel n).index = (d.wheel n).index := by
  have hw (c : Prop) [Decidable c] (x : Device) : (if c then raise .twPw (.wheel n) 0 x else x).wheel n = x.wheel n :=
    Device.wheel_of_wheels (ite_keeps (·.wheels) _ _ _ (by simp)) n
  simp [pulseDiscard, hw, Device.onWheel_wheel _ hl, addWrap]

/-- A pulse shorter than PW_MIN or longer than PW_MAX is discarded: no tooth is taken. -/
theorem twPulseEnd_discard {n : Nat} {lead stamp : Nanos} {d : Device}
    (h : stamp - lead < 1000 * Cfg.pwMin d.cfg n ∨ 1000 * Cfg.pwMax d.cfg n < stamp - lead) :
    twPulseEnd n lead stamp d =
      pulseDiscard n (d.onWheel n fun x => { x with leading := none, lastPw := min 65535 ((stamp - lead) / 100) }) := if_pos h

theorem twPulseEnd_discard_wheel {n : Nat} {lead stamp : Nanos} {d : Device} (hl : n < d.wheels.length)
    (h : stamp - lead < 1000 * Cfg.pwMin d.cfg n ∨ 1000 * Cfg.pwMax d.cfg n < stamp - lead) :
    ((twPulseEnd n lead stamp d).wheel n).leading = none
      ∧ ((twPulseEnd n lead stamp d).wheel n).pwErr = ((d.wheel n).pwErr + 1) % 2 ^ 16
      ∧ ((twPulseEnd n lead stamp d).wheel n).lastEdge = (d.wheel n).lastEdge
      ∧ ((twPulseEnd n lead stamp d).wheel n).index = (d.wheel n).index := by
  rw [twPulseEnd_discard h]
  obtain ⟨herr, hlead, hedge, hindex⟩ := pulseDiscard_wheel
    (d := d.onWheel n fun x => { x with leading := none, lastPw := min 65535 ((stamp - lead) / 100) })
    (by rwa [Device.onWheel_wheels_length])
  rw [herr, hlead, hedge, hindex, Device.onWheel_wheel _ hl]
  exact ⟨rfl, rfl, rfl, rfl⟩

/-! ## Standstill (R144, R147) -/

/-- With no edge that waits to be told from an extra tooth the wheel only stands still. -/
theorem twZero_no_extra {n : Nat} {d : Device} (h : (d.wheel n).extra = none) :
    twZero n d = d.onWheel n fun x => Wheel.validity d.cfg n { x with standstill := true, lastSpeed := 0 } := by
  simp only [twZero, h]

/-! ## The commands under their conditions -/

theorem exec_twPulseEnd {n : Fin 4} {s : State} (start : Nat) (runs : List TrackRun) (h0 : s.dev.ctl.state ≠ .off)
    (hd : Cfg.dirMode s.dev.cfg n = 1) (hlead : (s.dev.wheel n).leading ≠ none) :
    exec (.twPulseEnd n start runs) s = .next (s.onDev (twFeed n start runs)) :=
  congrArg Host.Outcome.next (if_pos ⟨h0, hd, Option.isSome_iff_ne_none.mpr hlead⟩)

theorem exec_twZeroTimeout {n : Fin 4} {s : State} (late : Bool) (h0 : s.dev.ctl.state ≠ .off)
    (hi : Cfg.inputType s.dev.cfg n ≠ 0) (hz : s.dev.zeroDue n) :
    exec (.twZeroTimeout n late) s = .next (s.onDev fun d => lateMisc late (twZero n d)) :=
  congrArg Host.Outcome.next (if_pos ⟨h0, hi, hz⟩)

/-! ## Edges of a settled wheel -/

/-- A leading edge waits from its first sample on (R137, R138). -/
theorem BringsEdge.leading {n start : Nat} {r : TrackRun} {d : Device} (h : BringsEdge n r d)
    (he : r.a ≠ Cfg.edgeSel d.cfg n) (hd : Cfg.dirMode d.cfg n = 1) :
    ((twRun n start r d).wheel n).levelA = r.a ∧ ((twRun n start r d).wheel n).leading = some start
      ∧ (twRun n start r d).ctl = d.ctl ∧ (twRun n start r d).faults = d.faults := by
  have hx := Device.onWheel_wheel (Wheel.sampled start r) h.wheel
  obtain ⟨hra, -⟩ := (d.wheel n).sampled_raw start r
  rw [h.twRun_eq, acceptA_leading (d := d.onWheel n (Wheel.sampled start r)) h.on (by rwa [hx, hra]) hd]
  simp [Device.onWheel_wheel, h.wheel, Wheel.levelTaken_frame, hra, h.rawASince]

/-- With the direction on the second track and no reference pattern an edge is a tooth at its first sample (R137, R139). -/
theorem BringsEdge.timing {n start : Nat} {r : TrackRun} {d : Device} (h : BringsEdge n r d)
    (he : r.a ≠ Cfg.edgeSel d.cfg n) (hd : Cfg.dirMode d.cfg n = 2) (hr : Cfg.refType d.cfg n = 0)
    (hex : (d.wheel n).extra = none) :
    twRun n start r d = takeTooth n start ((d.wheel n).trackB != Cfg.bFwdLevel d.cfg n) false
      ((d.onWheel n (Wheel.sampled start r)).onWheel n Wheel.levelTaken) := by
  have hx := Device.onWheel_wheel (Wheel.sampled start r) h.wheel
  obtain ⟨hra, -⟩ := (d.wheel n).sampled_raw start r
  obtain ⟨-, htb, -, -, -, hse, -⟩ := (d.wheel n).sampled_frame start r
  rw [h.twRun_eq, acceptA_timing (d := d.onWheel n (Wheel.sampled start r)) h.on (by rwa [hx, hra]) hd, hx, htb,
    h.rawASince, Device.onWheel_cfg]
  refine timingEdge_no_ref start _ hr ?_
  simp [Device.onWheel_wheel, h.wheel, Wheel.levelTaken_frame, hse, hex]

/-- What such a tooth leaves. -/
theorem BringsEdge.timing_wheel {n start : Nat} {r : TrackRun} {d : Device} (h : BringsEdge n r d)
    (he : r.a ≠ Cfg.edgeSel d.cfg n) (hd : Cfg.dirMode d.cfg n = 2) (hr : Cfg.refType d.cfg n = 0)
    (hex : (d.wheel n).extra = none) :
    ((twRun n start r d).wheel n).lastEdge = some start
      ∧ ((twRun n start r d).wheel n).reverse = ((d.wheel n).trackB != Cfg.bFwdLevel d.cfg n)
      ∧ ((d.wheel n).lastEdge = none → ((twRun n start r d).wheel n).standstill = false)
      ∧ (twRun n start r d).ctl = d.ctl ∧ (twRun n start r d).faults = d.faults := by
  obtain ⟨hedge, hrev, hstill, hctl, hfaults⟩ :=
    takeTooth_no_ref (d := (d.onWheel n (Wheel.sampled start r)).onWheel n Wheel.levelTaken) start
      ((d.wheel n).trackB != Cfg.bFwdLevel d.cfg n) false (by simpa using h.wheel) hr
  obtain ⟨-, -, hlast, -⟩ := (d.wheel n).sampled_frame start r
  rw [h.timing he hd hr hex]
  refine ⟨hedge, hrev, fun hn => hstill ?_, hctl, hfaults⟩
  simp [Device.onWheel_wheel, h.wheel, Wheel.levelTaken_frame, hlast, hn]

/-- The trailing edge of a pulse out of range: the pulse is counted as discarded and gives no tooth (R138). -/
theorem BringsEdge.discard {n start lead : Nat} {r : TrackRun} {d : Device} (h : BringsEdge n r d)
    (he : r.a = Cfg.edgeSel d.cfg n) (hd : Cfg.dirMode d.cfg n = 1) (hlead : (d.wheel n).leading = some lead)
    (hw : start - lead < 1000 * Cfg.pwMin d.cfg n ∨ 1000 * Cfg.pwMax d.cfg n < start - lead) :
    ((twRun n start r d).wheel n).leading = none ∧ ((twRun n start r d).wheel n).pwErr = ((d.wheel n).pwErr + 1) % 2 ^ 16
      ∧ ((twRun n start r d).wheel n).lastEdge = (d.wheel n).lastEdge
      ∧ ((twRun n start r d).wheel n).index = (d.wheel n).index := by
  have hx := Device.onWheel_wheel (Wheel.sampled start r) h.wheel
  obtain ⟨hra, -⟩ := (d.wheel n).sampled_raw start r
  obtain ⟨-, -, hlast, hindex, hl, -, herr⟩ := (d.wheel n).sampled_frame start r
  rw [h.twRun_eq, acceptA_trailing (d := d.onWheel n (Wheel.sampled start r)) h.on (by rwa [hx, hra]) hd
    (by rwa [hx, hl]), hx, h.rawASince]
  simpa [Device.onWheel_wheel, h.wheel, Wheel.levelTaken_frame, hlast, hindex, herr] using
    twPulseEnd_discard_wheel (d := (d.onWheel n (Wheel.sampled start r)).onWheel n Wheel.levelTaken) (by simpa using h.wheel) hw

end Sys2Proof.Machine

/-! ## The statements -/

open Sys2Proof Sys2Proof.Machine

/-- Settles O20: each command is its branch; what a run of samples leaves of a settled wheel is said by `twRun_short` and the
lemmas on `BringsEdge`. -/
theorem wheelEvents : Obligations.WheelEvents := by
  unfold Obligations.WheelEvents
  refine ⟨fun n start runs s h0 => next_unless_off _ h0, fun n start r s h0 hl ha hb hr hc => ?short,
    fun n start r s h0 hl ha hb _ hc hA hB hi he hd => ?leading,
    fun n start r s h0 hl ha hb _ hc hA hB hi he hd href hx => ?timing,
    fun n start runs s h0 hd hlead => exec_twPulseEnd start runs h0 hd hlead, fun n start runs s h => ?noPulse,
    fun n start lead r s h0 hl ha hb _ hc hA hB hi he hd hlead hw => ?discard,
    fun n late s h0 hi hz hx => (exec_twZeroTimeout late h0 hi hz).trans (next_onDev (by rw [twZero_no_extra hx])),
    fun n late s h0 hi hz => exec_twZeroTimeout late h0 hi hz, fun n late s h => ?notDue,
    fun n s h0 hi => congrArg Host.Outcome.next (if_pos ⟨h0, hi⟩),
    fun n s hi => congrArg Host.Outcome.next (if_neg (by simp [hi])),
    fun n s him hh => congrArg Host.Outcome.next (if_pos ⟨him, hh⟩),
    fun n s him => congrArg Host.Outcome.next (if_neg (by simp [him]))⟩
  case short =>
    refine ⟨s.onDev (twRun n start r), next_unless_off _ h0, rfl, rfl, ?_⟩
    rw [State.onDev_dev, twRun_short hl ⟨ha, hb⟩ hr hc, Device.onWheel_wheel _ hl]
    obtain ⟨hlevel, htrack, hlast, hindex, -⟩ := (s.dev.wheel n).sampled_frame start r
    exact ⟨hlevel, htrack, hlast, hindex, rfl, rfl⟩
  case leading =>
    have h : BringsEdge n r s.dev := ⟨hl, ⟨ha, hb⟩, hc, hA, hB, hi⟩
    exact ⟨s.onDev (twRun n start r), next_unless_off _ h0, rfl, rfl, h.leading he hd⟩
  case timing =>
    have h : BringsEdge n r s.dev := ⟨hl, ⟨ha, hb⟩, hc, hA, hB, hi⟩
    exact ⟨s.onDev (twRun n start r), next_unless_off _ h0, rfl, rfl, h.timing_wheel he hd href hx⟩
  case noPulse =>
    refine congrArg Host.Outcome.next (if_neg fun ⟨_, hd, hlead⟩ => ?_)
    exact h.elim (· hd) (Option.isSome_iff_ne_none.mp hlead)
  case discard =>
    have h : BringsEdge n r s.dev := ⟨hl, ⟨ha, hb⟩, hc, hA, hB, hi⟩
    exact ⟨s.onDev (twRun n start r), exec_twPulseEnd start [r] h0 hd (by simp [hlead]), rfl, rfl, h.discard he hd hlead hw⟩
  case notDue =>
    refine congrArg Host.Outcome.next (if_neg fun ⟨_, hi, hz⟩ => ?_)
    exact h.elim hi (Bool.eq_false_iff.mp · hz)

end

section
/-!
PROOFS of the statements about measurement (chapter 6): fast and fine results, comparators, the multiplexed channel,
self-calibration, modulator monitoring, test-voltage slices and the insulation monitor.
-/

namespace Sys2Proof.Machine

/-! ## Updates of a channel -/

/-- A channel, if there is one of that number. -/
def Device.mchan? (d : Device) (m : Nat) : Option MeasChan := d.meas.chans[m]?

theorem Device.mchan_eq_getD (d : Device) (m : Nat) : d.mchan m = (d.mchan? m).getD {} := List.getD_eq_getElem?_getD ..

theorem Device.mchan?_of_lt {d : Device} {m : Nat} (h : m < d.meas.chans.length) : d.mchan? m = some (d.mchan m) := by
  simp [Device.mchan?, Device.mchan, h]

theorem Device.mchan_of_meas {d d' : Device} (h : d'.meas = d.meas) (m : Nat) : d'.mchan m = d.mchan m := by
  simp only [Device.mchan, h]

theorem Device.onMchan_mchan? (m k : Nat) (f : MeasChan → MeasChan) (d : Device) :
    (d.onMchan m f).mchan? k = if m = k then (d.mchan? k).map f else d.mchan? k := by
  simp only [Device.onMchan, Device.mchan?, List.getElem?_modify]
  split <;> simp

/-- An update of a channel that exists shows in it. -/
theorem Device.onMchan_mchan {m : Nat} {d : Device} (f : MeasChan → MeasChan) (h : m < d.meas.chans.length) :
    (d.onMchan m f).mchan m = f (d.mchan m) := by
  rw [Device.mchan_eq_getD, Device.onMchan_mchan?, if_pos rfl, Device.mchan?_of_lt h]
  rfl

@[simp] theorem Device.onMchan_chans_length (m : Nat) (f : MeasChan → MeasChan) (d : Device) :
    (d.onMchan m f).meas.chans.length = d.meas.chans.length := List.length_modify ..

/-- What an update of a channel leaves alone in every channel stays. -/
theorem Device.onMchan_keeps (g : MeasChan → β) {f : MeasChan → MeasChan} (h : ∀ c, g (f c) = g c) (m k : Nat) (d : Device) :
    g ((d.onMchan m f).mchan k) = g (d.mchan k) := by
  simp only [Device.mchan_eq_getD, Device.onMchan_mchan?]
  by_cases hk : m = k
  · cases hc : d.mchan? k <;> simp [hk, h]
  · simp [hk]

/-- In a run over different numbers, what one of them alone touches is what its operation leaves. -/
theorem Device.each_at {f : α → Device → Device} (view : Device → β) {a : α} {l : List α} (hl : l.Nodup) (ha : a ∈ l)
    (hne : ∀ b, b ≠ a → ∀ d, view (f b d) = view d) (d : Device) :
    ∃ x : Device, view x = view d ∧ view (d.each l f) = view (f a x) := by
  have hrest (t : List α) (ht : a ∉ t) (y : Device) : view (y.each t f) = view y := by
    induction t generalizing y with
    | nil => rfl
    | cons b t ih =>
      obtain ⟨hb, ht⟩ := not_or.mp fun h => ht (List.mem_cons.mpr h)
      exact (ih ht (f b y)).trans (hne b (Ne.symm hb) y)
  induction l generalizing d with
  | nil => cases ha
  | cons b t ih =>
    obtain ⟨hb, ht⟩ := List.nodup_cons.mp hl
    obtain rfl | ha := List.mem_cons.mp ha
    · exact ⟨d, rfl, hrest t hb _⟩
    · obtain ⟨x, hx, he⟩ := ih ht ha (f b d)
      exact ⟨x, hx.trans (hne b (fun h => hb (h ▸ ha)) d), he⟩

/-! ## Reports and the measurement -/

/-- A reaction below F2 acts on nothing (Table 1.7). -/
theorem reactOne_low_eq_self (l : Bool) (sc : Scope) {r : Nat} (h : r < 2) (d : Device) : reactOne l (sc, r) d = d := by
  have hs : sliceReact (sc, r) d = d := by
    have hh (x : Slice) : sliceHit x (sc, r) = false := by simp [sliceHit, h]
    unfold sliceReact
    split <;> simp [hh]
  unfold reactOne
  simp only [hs]
  split
  · omega
  · omega
  · omega
  · rfl

/-- A report below F2 leaves the measurement alone. -/
theorem raise_low_meas (f : FaultName) (sc : Scope) {r : Nat} (h : r < 2) (d : Device) : (raise f sc r d).meas = d.meas := by
  simp only [raise, raiseActs]
  split
  · split
    · simp only [List.filter_cons, List.filter_nil]
      split <;> simp [Device.each, reactOne_low_eq_self _ _ h]
    · simp [Device.each, reactOne_low_eq_self _ _ h]
  · simp [Device.each, reactOne_low_eq_self _ _ h]

theorem follow_low_meas (f : FaultName) (sc : Scope) {r : Nat} (h : r < 2) (on : Bool) (d : Device) :
    (follow f sc r on d).meas = d.meas := by
  cases on
  · simp [follow]
  · exact raise_low_meas f sc h d

/-- The slice that a report aborts is all it touches of the measurement: the state of self-calibration stays. -/
theorem reactOne_calState (l : Bool) (a : Scope × Nat) (d : Device) :
    (reactOne l a d).meas.calState = d.meas.calState := by
  have hs : (sliceReact a d).meas.calState = d.meas.calState := by
    unfold sliceReact
    split
    · split <;> rfl
    · rfl
  unfold reactOne
  dsimp only
  split
  · simpa using hs
  · split <;> simpa using hs
  · split <;> simpa using hs
  · exact hs

theorem raise_calState (f : FaultName) (sc : Scope) (r : Nat) (d : Device) :
    (raise f sc r d).meas.calState = d.meas.calState := by
  have hr (l : List (Scope × Nat)) {x : Device} (hx : x.meas = d.meas) :
      (brakeHit f l (x.each l (reactOne f.latched))).meas.calState = d.meas.calState := by
    rw [← hx, ← Device.each_keeps (·.meas.calState) (reactOne f.latched) (reactOne_calState f.latched) l x]
    simp
  simp only [raise, raiseActs]
  split
  · split <;> exact hr _ (by simp)
  · exact hr _ (by simp)

/-- In FAULT no reaction moves the module state (Table 1.7). -/
theorem reactOne_ctl_in_fault (l : Bool) (a : Scope × Nat) {d : Device} (h : d.ctl.state = .fault) :
    (reactOne l a d).ctl = d.ctl := by
  have hs : (sliceReact a d).ctl = d.ctl := by simp
  unfold reactOne
  dsimp only
  split
  · simp [enterSafe, h]
  · split <;> simp
  · simp [h]
  · exact hs

theorem raise_ctl_in_fault (f : FaultName) (sc : Scope) (r : Nat) {d : Device} (h : d.ctl.state = .fault) :
    (raise f sc r d).ctl = d.ctl := by
  have hr (l : List (Scope × Nat)) {x : Device} (hx : x.ctl = d.ctl) :
      (brakeHit f l (x.each l (reactOne f.latched))).ctl = d.ctl := by
    have he : (x.each l (reactOne f.latched)).ctl = d.ctl :=
      Device.each_preserves (P := fun y => y.ctl = d.ctl)
        (fun a y hy => (reactOne_ctl_in_fault f.latched a (by rw [hy, h])).trans hy) l hx
    simpa using he
  simp only [raise, raiseActs]
  split
  · split <;> exact hr _ (by simp)
  · exact hr _ (by simp)

/-! ## Temperatures that fine results bring (R275, R276, R287, R288) -/

theorem windingPort_meas (p : PortId) (d : Device) : (windingPort p d).meas = d.meas := by
  simp only [windingPort, follow_low_meas _ _ one_lt_two]

theorem wtUpdate_meas (k : Nat) (t : Option Rat) (d : Device) : (wtUpdate k t d).meas = d.meas := by
  simp only [wtUpdate, Device.each_ports, windingPort_meas]
  split
  · exact Device.each_keeps (·.meas) _ (fun p x => by simp) _ _
  · rfl

theorem lctUpdate_meas (k : Nat) (t : Option Rat) (d : Device) : (lctUpdate k t d).meas = d.meas := by
  simp only [lctUpdate]
  split
  · split <;> simp [follow_low_meas]
  · simp [follow_low_meas]

/-- The word of a temperature input is the last that the measurement takes from a visit (R275). -/
theorem tempInput_meas (k : Nat) (d : Device) : (tempInput k d).meas = d.meas := by
  simp only [tempInput]
  split
  · rfl
  · split
    · exact wtUpdate_meas ..
    · exact lctUpdate_meas ..

theorem coolantInlet_meas (t : Option Rat) (d : Device) : (coolantInlet t d).meas = d.meas := by
  simp only [coolantInlet]
  split
  · split <;> simp [follow_low_meas]
  · simp [follow_low_meas]

theorem coolantRise_meas (d : Device) : (coolantRise d).meas = d.meas := by
  simp only [coolantRise]
  split <;> simp

theorem coolantResult_meas (k : Nat) (valid : Bool) (res : Int) (d : Device) :
    (coolantResult k valid res d).meas = d.meas := by
  unfold coolantResult
  extract_lets _ a x t
  split
  · rfl
  · split
    · rfl
    · rw [coolantRise_meas]
      split
      · exact coolantInlet_meas ..
      · rfl

/-! ## Fast results (R159) -/

theorem fastPublish_mchan?_ne (streams : List BitStream) (d0 d : Device) {m k : Nat} (h : k ≠ m) :
    (fastPublish streams d0 k d).mchan? m = d.mchan? m := by
  simp only [fastPublish, Device.onMchan_mchan?, if_neg h]

/-- A publication touches nothing but the channels and adds none. -/
theorem fastWords_frame (streams : List BitStream) (d : Device) :
    (fastWords streams d).ctl = d.ctl ∧ (fastWords streams d).faults = d.faults
      ∧ (fastWords streams d).meas.chans.length = d.meas.chans.length := by
  have hk {γ : Type} (g : Device → γ) (h : ∀ m x, g (fastPublish streams d m x) = g x) : g (fastWords streams d) = g d :=
    Device.each_keeps g _ h _ d
  exact ⟨hk (·.ctl) fun _ _ => rfl, hk (·.faults) fun _ _ => rfl,
    hk (·.meas.chans.length) fun _ _ => Device.onMchan_chans_length ..⟩

/-- Each channel gets its next word, one under MOD_FAIL the code that means no value (R159, R176). -/
theorem fastWords_mchan (streams : List BitStream) {m : Nat} {d : Device} (h48 : m < 48) (h : m < d.meas.chans.length) :
    ((fastWords streams d).mchan m).fastSeq = ((d.mchan m).fastSeq + 1) % 2 ^ 5
      ∧ ((d.mchan m).modFail → ((fastWords streams d).mchan m).fastValue = -32768
          ∧ ((fastWords streams d).mchan m).fastValid = false) := by
  obtain ⟨x, hx, he⟩ := Device.each_at (f := fastPublish streams d) (·.mchan? m) List.nodup_range (List.mem_range.mpr h48)
    (fun _ hb y => fastPublish_mchan?_ne streams d y hb) d
  rw [fastWords, Device.mchan_eq_getD, he, fastPublish, Device.onMchan_mchan?, if_pos rfl, hx, Device.mchan?_of_lt h]
  exact ⟨rfl, fun hf => by simp [hf]⟩

/-! ## Comparators (R160, R161) -/

theorem compEval_no_run {m eval : Nat} {streams : List BitStream} {d : Device} (h : d.compRun streams m = none) :
    compEval m eval streams d = d := by
  simp only [compEval, h]

/-- A run outside the band on one side is an exit of its first evaluation. -/
theorem compEval_side {m : Nat} {streams : List BitStream} {run : List Int} {high : Bool} {d : Device} (eval : Nat)
    (hr : d.compRun streams m = some run) (hs : d.compSide m run = some high) :
    compEval m eval streams d = compExit m high (run.getLastD 0) (d.now + 100 * eval - 100 * (run.length - 1)) d := by
  simp only [compEval, hr, hs]

/-- An exit on a side is reported once. -/
theorem compExit_again {m : Nat} {high : Bool} (first : Int) (t : Nanos) {d : Device}
    (h : (if high then (d.mchan m).outHi else (d.mchan m).outLo) = true) : compExit m high first t d = d := if_pos h

theorem compExit_new {m : Nat} {high : Bool} (first : Int) (t : Nanos) {d : Device}
    (h : (if high then (d.mchan m).outHi else (d.mchan m).outLo) = false) :
    compExit m high first t d = compAct m high (compSlice m (d.onMchan m fun c => { c with
      outHi := high, outLo := !high, exitCount := addSat 255 c.exitCount 1, exitValue := first, exitAt := some t })) :=
  if_neg (Bool.eq_false_iff.mp h)

/-- Evaluations that lie inside the band are on neither side. -/
theorem compSide_inside {d : Device} {m : Nat} {run : List Int} (hn : run ≠ [])
    (hin : ∀ c ∈ run, (d.compBand m).2 < d.chanVal m c ∧ d.chanVal m c < (d.compBand m).1) (hf : d.forced 0x0602 m = false) :
    d.compSide m run = none := by
  obtain ⟨c, hc⟩ := List.exists_mem_of_ne_nil run hn
  obtain ⟨hlo, hhi⟩ := hin c hc
  have hnotHigh : run.all (fun c => decide ((d.compBand m).1 ≤ d.chanVal m c)) = false :=
    List.all_eq_false.mpr ⟨c, hc, by simpa using hhi⟩
  have hnotLow : run.all (fun c => decide (d.chanVal m c ≤ (d.compBand m).2)) = false :=
    List.all_eq_false.mpr ⟨c, hc, by simpa using hlo⟩
  simp [Device.compSide, hf, hnotHigh, hnotLow]

/-! ## Fine results (R163-R169) -/

/-- What the flags of a channel's next result come from; neither a change of the filter nor the notch touches it. -/
def MeasChan.flagsFrom (c : MeasChan) : Nat × Bool × Bool := (c.fineSeq, c.fineRead, c.modFail)

/-- A channel after its next fine result: the sequence goes on, the result is unread and tells whether the last one was read;
under MOD_FAIL it has no value and no VALID (R166-R168, R176). -/
def MeasChan.HasNext (c c' : MeasChan) : Prop :=
  c'.fineSeq = (c.fineSeq + 1) % 2 ^ 5 ∧ c'.fineRead = false ∧ c'.fineOverrun = (!c.fineRead)
    ∧ (c.modFail → c'.fineResult = -8388608 ∧ c'.fineValid = false)

theorem MeasChan.HasNext.congr {a b c : MeasChan} (h : a.flagsFrom = b.flagsFrom) (hn : a.HasNext c) : b.HasNext c := by
  simp only [flagsFrom, Prod.mk.injEq] at h
  obtain ⟨hseq, hread, hfail⟩ := h
  rwa [HasNext, ← hseq, ← hread, ← hfail]

theorem fineSwitch_keeps (m k : Nat) (t : Nanos) (d : Device) :
    ((fineSwitch m t d).mchan k).flagsFrom = (d.mchan k).flagsFrom
      ∧ (fineSwitch m t d).meas.chans.length = d.meas.chans.length := by
  unfold fineSwitch
  split
  · split
    · exact ⟨rfl, rfl⟩
    · exact ⟨Device.onMchan_keeps MeasChan.flagsFrom (by intro c; rfl) .., Device.onMchan_chans_length ..⟩
  · exact ⟨rfl, rfl⟩

theorem notchStage_keeps (f : FineSet) (m k : Nat) (x : Rat) (d : Device) :
    ((notchStage f m x d).2.mchan k).flagsFrom = (d.mchan k).flagsFrom
      ∧ (notchStage f m x d).2.meas.chans.length = d.meas.chans.length := by
  simp only [notchStage]
  split
  · exact ⟨rfl, rfl⟩
  · exact ⟨Device.onMchan_keeps MeasChan.flagsFrom (by intro c; rfl) .., Device.onMchan_chans_length ..⟩

theorem fineResult_mchan (f : FineSet) {m : Nat} (t : Nanos) (clocks : List ModClock) {d : Device}
    (h : m < d.meas.chans.length) : (d.mchan m).HasNext ((fineResult f m t clocks d).mchan m) := by
  obtain ⟨hflags, hlen⟩ := notchStage_keeps f m m (8388607 * fineSinc f.order f.osr f.avg clocks) d
  unfold fineResult
  extract_lets c valid r res ovr still y
  have hnext : (d.mchan m).HasNext (y.mchan m) := by
    rw [show y.mchan m = _ from Device.onMchan_mchan _ (hlen.symm ▸ h)]
    simp only [MeasChan.flagsFrom, Prod.mk.injEq] at hflags
    obtain ⟨hseq, hread, -⟩ := hflags
    exact ⟨congrArg (addWrap 5 · 1) hseq, rfl, congrArg not hread, fun hf => by simp [res, valid, c, hf]⟩
  split
  · exact hnext
  · split
    · rwa [Device.mchan_of_meas (coolantResult_meas ..)]
    · exact hnext

/-- Where a window of the settings in force ends a result is published (R164). -/
theorem finePublish_mchan {m clock : Nat} (clocks : List ModClock) {d : Device} (h : m < d.meas.chans.length)
    (ht : (d.now + 25 * clock) % (d.fineInForce m (d.now + 25 * clock)).span = 0) :
    (d.mchan m).HasNext ((finePublish m clock clocks d).mchan m) := by
  obtain ⟨hflags, hlen⟩ := fineSwitch_keeps m m (d.now + 25 * clock) d
  have hp : finePublish m clock clocks d = fineResult (d.fineInForce m (d.now + 25 * clock)) m (d.now + 25 * clock) clocks
      (fineSwitch m (d.now + 25 * clock) d) := if_pos ht
  rw [hp]
  exact (fineResult_mchan _ _ _ (hlen.symm ▸ h)).congr hflags

theorem finePublish_no_boundary {m clock : Nat} (clocks : List ModClock) {d : Device}
    (ht : (d.now + 25 * clock) % (d.fineInForce m (d.now + 25 * clock)).span ≠ 0) : finePublish m clock clocks d = d :=
  if_neg ht

/-! ## The multiplexed channel (R170, R171) -/

/-- A visit ends with the switch to the next input and nothing counted yet. -/
theorem muxVisitEnd_meas (d : Device) :
    (muxVisitEnd d).meas.muxInput = nextInput (Cfg.muxMask d.cfg) d.meas.muxInput ∧ (muxVisitEnd d).meas.visitN = 0
      ∧ (muxVisitEnd d).meas.visitCount = 0 := by
  simp only [muxVisitEnd, tempInput_meas]
  exact ⟨rfl, rfl, rfl⟩

/-! ## Self-calibration (R173-R175) -/

theorem cmdSelfCal_starts {d : Device} (hs : d.ctl.state = .standby) (h : d.meas.calState ≠ 1) :
    cmdSelfCal d = (Abort.ok, calStart d) := by simp [cmdSelfCal, hs, h]

theorem cmdSelfCal_busy {d : Device} (hs : d.ctl.state = .standby) (h : d.meas.calState = 1) :
    cmdSelfCal d = (Abort.busy, d) := by simp [cmdSelfCal, hs, h]

theorem cmdSelfCal_refused {d : Device} (hs : d.ctl.state ≠ .standby) : cmdSelfCal d = (Abort.state, d) := if_pos hs

/-- A channel that takes its calibration or fails it moves no module state: CAL_CHANNEL has no reaction (R175). -/
theorem calChannel_ctl (x : CalMeas) (m : Nat) (d : Device) : (calChannel x m d).ctl = d.ctl := by
  unfold calChannel
  extract_lets t bad y flash z
  have hz : z.ctl = d.ctl := by
    unfold z
    split <;> rfl
  split
  · exact hz
  · split
    · rw [raise_ctl _ _ _ _ (by decide) (by simp), hz]
    · simp [hz]

theorem calPort_ctl (x : CalMeas) (p : PortId) (d : Device) : (calPort x p d).ctl = d.ctl := by
  unfold calPort
  extract_lets deferred meas y
  split
  · rw [raise_ctl _ _ _ _ (by decide) (by simp)]
  · simp [y]

theorem calChannels_ctl (x : CalMeas) (d : Device) :
    ((d.each (List.range 48) (calChannel x)).each ports (calPort x)).ctl = d.ctl :=
  (Device.each_keeps (·.ctl) (calPort x) (calPort_ctl x) ports _).trans
    (Device.each_keeps (·.ctl) (calChannel x) (calChannel_ctl x) (List.range 48) d)

/-- STANDBY starts no calibration where one has completed (R165, R173). -/
theorem enterStandby_meas {d : Device} (h : d.meas.calibrated = true) : (enterStandby d).meas = d.meas := by
  have hm : (setState .standby d).meas = d.meas := by simp
  unfold enterStandby
  extract_lets x boot y
  rw [if_neg (by simp [y, x, h])]
  exact (ite_keeps (·.meas) chainStart _ y rfl).trans hm

/-- A calibration in which M00 to M07 pass ends in STANDBY, with stored offsets where a port was not without current (R175). -/
theorem calibrationDone_pass {x : CalMeas} {d : Device} (hs : d.ctl.state = .calibrating ∨ d.ctl.state = .standby)
    (h : ∀ k : Nat, k < 8 → d.calFails x k = false) :
    (calibrationDone x d).ctl.state = .standby ∧ (calibrationDone x d).meas.calibrated = true
      ∧ (calibrationDone x d).meas.calState = (if x.zeroA && x.zeroB then 2 else 3) := by
  have hf : (List.range 8).any (d.calFails x) = false := by simpa using h
  unfold calibrationDone
  extract_lets failed y _ z _ _ _ v _ w
  have hz : z.ctl = d.ctl := calChannels_ctl x d
  have hw : w.ctl = d.ctl := by simp [w, v, hz]
  rw [if_neg (by simp [failed, hf])]
  split
  · rw [enterStandby_meas rfl]
    exact ⟨enterStandby_state w, rfl, rfl⟩
  · next hn =>
    have hst : w.ctl.state = .standby := by rw [hw] at hn ⊢; exact hs.resolve_left hn
    split
    · exact ⟨hst, rfl, rfl⟩
    · exact ⟨hst, rfl, rfl⟩

/-- The first calibration that fails on one of M00 to M07 leads to FAULT (R175). -/
theorem calibrationDone_fail {x : CalMeas} {k : Nat} {d : Device} (hs : d.ctl.state = .calibrating) (hk : k < 8)
    (h : d.calFails x k) :
    (calibrationDone x d).ctl.state = .fault ∧ (calibrationDone x d).meas.calState = 4
      ∧ (calibrationDone x d).hasFault .calFail .module 4 := by
  have hf : (List.range 8).any (d.calFails x) = true := List.any_eq_true.mpr ⟨k, List.mem_range.mpr hk, h⟩
  unfold calibrationDone
  extract_lets failed y _ z _ v w
  have hz : z.ctl = d.ctl := calChannels_ctl x d
  have hw : w = setState .fault v := if_pos (by simp [v, hz, hs])
  rw [if_pos hf, raise_ctl_in_fault _ _ _ (by simp [hw]), raise_calState, hw]
  exact ⟨by simp, by simp [v], raise_hasFault _ _ _ _ (by decide)⟩

/-! ## Offsets measured again (R174) -/

/-- One phase of a port takes its offset, in use and in the store. -/
def offsetTaken (p : PortId) (offsets : List Int) (k : Nat) (d : Device) : Device :=
  let m := 3 * p.num + k
  let v := offsets.getD k 0
  let d := d.onMchan m fun c => { c with calOffset := v, calStored := false, fineSettle := fineN d.cfg m }
  { d with flash := { d.flash with offsets := (d.flash.offsets.filter fun e => e.1 != m) ++ [(m, v)] } }

theorem offsetTaken_mchan? (p : PortId) (offsets : List Int) (k m : Nat) (d : Device) :
    (offsetTaken p offsets k d).mchan? m =
      if 3 * p.num + k = m then (d.mchan? m).map fun c =>
        { c with calOffset := offsets.getD k 0, calStored := false, fineSettle := fineN d.cfg (3 * p.num + k) }
      else d.mchan? m := Device.onMchan_mchan? ..

/-- With its offsets taken a port is deferred no longer; no port deferred makes the calibration one with measured offsets. -/
def offsetsDone (p : PortId) (d : Device) : Device :=
  let d := d.onPort p fun x => { x with offsetMeas := false, offsetSince := none }
  let d := { d with meas := match p with
    | .a => { d.meas with deferA := false }
    | .b => { d.meas with deferB := false } }
  let d := { d with meas := { d.meas with
    calState := if d.meas.calState = 3 && !d.meas.deferA && !d.meas.deferB then 2 else d.meas.calState } }
  clearFault .calDeferred (.port p) d

theorem offsetRemeasured_eq (p : PortId) (offsets : List Int) (d : Device) :
    offsetRemeasured p offsets d = offsetsDone p (d.each [0, 1, 2] (offsetTaken p offsets)) := rfl

theorem offsetsDone_frame (p : PortId) (d : Device) :
    (offsetsDone p d).ctl = d.ctl ∧ (offsetsDone p d).gates = d.gates ∧ ((offsetsDone p d).port p).offsetMeas = false
      ∧ (offsetsDone p d).deferred p = false ∧ (offsetsDone p d).meas.chans = d.meas.chans := by
  cases p <;> simp [offsetsDone, Device.port, Device.deferred, Device.onPort]

/-- The new offsets touch neither module control nor the gates and leave the port measured (R174). -/
theorem offsetRemeasured_frame (p : PortId) (offsets : List Int) (d : Device) :
    (offsetRemeasured p offsets d).ctl = d.ctl ∧ (offsetRemeasured p offsets d).gates = d.gates
      ∧ ((offsetRemeasured p offsets d).port p).offsetMeas = false ∧ (offsetRemeasured p offsets d).deferred p = false := by
  obtain ⟨hctl, hgates, hport, hdef, -⟩ := offsetsDone_frame p (d.each [0, 1, 2] (offsetTaken p offsets))
  rw [offsetRemeasured_eq, hctl, hgates]
  exact ⟨Device.each_keeps (·.ctl) (offsetTaken p offsets) (fun _ _ => rfl) _ d,
    Device.each_keeps (·.gates) (offsetTaken p offsets) (fun _ _ => rfl) _ d, hport, hdef⟩

theorem offsetRemeasured_mchan (p : PortId) (offsets : List Int) {k : Nat} {d : Device} (hk : k < 3)
    (h : 3 * p.num + k < d.meas.chans.length) :
    ((offsetRemeasured p offsets d).mchan (3 * p.num + k)).calOffset = offsets.getD k 0
      ∧ ((offsetRemeasured p offsets d).mchan (3 * p.num + k)).calStored = false := by
  obtain ⟨-, -, -, -, hchans⟩ := offsetsDone_frame p (d.each [0, 1, 2] (offsetTaken p offsets))
  obtain ⟨x, hx, he⟩ := Device.each_at (f := offsetTaken p offsets) (·.mchan? (3 * p.num + k)) (l := [0, 1, 2]) (by decide)
    (show k ∈ [0, 1, 2] by simp; omega) (fun b hb y => by rw [offsetTaken_mchan?, if_neg (by omega)]) d
  have hm : (offsetRemeasured p offsets d).mchan? (3 * p.num + k) = _ := (congrArg (·[3 * p.num + k]?) hchans).trans he
  rw [offsetTaken_mchan?, if_pos rfl, hx, Device.mchan?_of_lt h] at hm
  rw [Device.mchan_eq_getD, hm]
  exact ⟨rfl, rfl⟩

/-! ## Modulator monitoring and cross-checks (R176, R177) -/

theorem linkDisagrees_of_subst {d : Device} (h : (d.mchan 6).subst ∨ (d.mchan 7).subst) : d.linkDisagrees = false := by
  obtain h | h := h <;> simp [Device.linkDisagrees, h]

/-! ## Test-voltage slices (R179-R183) -/

/-- A slice that is due and whose conditions hold starts. -/
theorem sliceStart_due {m : Nat} {d : Device} (hp : d.bist.passState ≠ 0) (hd : d.bist.done.contains (7, m) = false)
    (hn : d.meas.slice = none) (ha : ∀ u, d.meas.lastSlice = some u → u + 1000000 ≤ d.now) (hr : d.bistReady)
    (hok : d.sliceOk m) :
    sliceStart m d =
      let d := d.onMchan m fun c => { c with test := true, subst := true, fineTainted := true }
      { d with meas := { d.meas with slice := some { ch := m, start := d.now }, lastSlice := some d.now } } := by
  have hdone : (7, m) ∉ d.bist.done := by simpa using hd
  unfold sliceStart
  extract_lets apart x
  have happart : apart = true := by
    unfold apart
    split
    · next u hu => exact decide_eq_true (ha u hu)
    · rfl
  rw [if_neg (by simp [happart, hp, hdone, hn]), if_neg (by simp [hr]), if_pos hok]

/-- No slice starts while one runs or outside a pass. -/
theorem sliceStart_barred {m : Nat} {d : Device} (h : d.meas.slice ≠ none ∨ d.bist.passState = 0) : sliceStart m d = d := by
  refine if_pos ?_
  obtain h | h := h
  · exact .inr (.inr (.inl (Option.isSome_iff_ne_none.mpr h)))
  · exact .inl h

/-- The books of a pass touch neither the measurement nor module control nor the gates (R421-R426). -/
theorem bistDone_frame (t k : Nat) (d : Device) :
    (bistDone t k d).meas = d.meas ∧ (bistDone t k d).ctl = d.ctl ∧ (bistDone t k d).gates = d.gates := by
  simp only [bistDone]
  split
  · exact ⟨rfl, rfl, rfl⟩
  · split <;> simp [bistPassDone]

/-- A slice that passes counts, and nothing else of the module sees it (R181). -/
theorem sliceEnd_pass {x : Slice} {y0 y1 : List ModClock} {d : Device} (hp : d.slicePasses x.ch y0 y1)
    (hf : d.forced 0x0604 x.ch = false) :
    (sliceEnd x y0 y1 d).meas.slice = none ∧ (sliceEnd x y0 y1 d).meas.passCount = (d.meas.passCount + 1) % 2 ^ 32
      ∧ (sliceEnd x y0 y1 d).ctl = d.ctl ∧ (sliceEnd x y0 y1 d).gates = d.gates := by
  unfold sliceEnd
  extract_lets ok y _ z sc w _ v
  obtain ⟨hm, hc, hg⟩ : w.meas = z.meas ∧ w.ctl = z.ctl ∧ w.gates = z.gates := bistDone_frame 7 x.ch z
  rw [if_pos (by simp [ok, hp, hf])]
  have hv : v.meas.slice = none ∧ v.meas.passCount = (d.meas.passCount + 1) % 2 ^ 32 ∧ v.ctl = d.ctl ∧ v.gates = d.gates :=
    ⟨congrArg Meas.slice hm, (congrArg (fun a : Meas => addWrap 32 a.passCount 1) hm).trans rfl, hc, hg⟩
  split
  · exact hv
  · simpa using hv

/-- A slice that fails raises its fault in the scope of its channel (R181). -/
theorem sliceEnd_fail {x : Slice} {y0 y1 : List ModClock} {d : Device}
    (h : d.slicePasses x.ch y0 y1 = false ∨ d.forced 0x0604 x.ch = true) :
    (sliceEnd x y0 y1 d).hasFault .measTestFail (sliceScope x.ch) (if x.ch ≤ 5 then 3 else 4) := by
  unfold sliceEnd
  extract_lets ok
  have hok : ¬ ok = true := by obtain h | h := h <;> simp [ok, h]
  rw [if_neg hok]
  exact raise_hasFault _ _ _ _ (by decide)

/-- The end of a slice that has not been aborted is judged 40 us after its start. -/
theorem exec_testvSliceEnd {x : Slice} {s : State} (y0 y1 : List ModClock) (hx : s.dev.meas.slice = some x)
    (hn : x.aborted = none) (ht : x.start + 40000 ≤ s.dev.now) :
    exec (.testvSliceEnd y0 y1) s = .next (s.onDev (sliceEnd x y0 y1)) := by
  simp only [exec, execTestvSliceEnd, hx]
  exact congrArg Host.Outcome.next (if_pos ⟨by simp [hn], ht⟩)

theorem openSlice_of_slice {x : Slice} {d : Device} (h : d.meas.slice = some x) (hn : x.aborted = none)
    (ht : d.now ≤ x.start + 36000) : d.openSlice = some x := by
  simp [Device.openSlice, h, hn, ht]

theorem slice_of_openSlice {x : Slice} {d : Device} (h : d.openSlice = some x) : d.meas.slice = some x :=
  (Option.filter_eq_some_iff.mp h).1

/-! ## Insulation monitor (R185-R187) -/

/-- A threshold of the monitor ends or raises no fault but its own (R187, R340). -/
theorem isoJudge_mem {f : FaultName} (r : Rat) (thr react run : Nat) {e : FaultEntry} {d : Device}
    (he : e ∈ d.faults.active) (hn : e.name ≠ .proofTest) (ho : e.name ≠ f) :
    e ∈ (isoJudge f r thr react run d).2.faults.active := by
  unfold isoJudge
  split
  · exact raise_mem react he hn (.inl ho)
  · split
    · split
      · simp [clearFault_active, he, ho]
      · exact he
    · exact he

/-- A result stands within its range, and below the threshold the warning stands with it (R185, R187). -/
theorem isoResult_iso {r : Rat} (c : Rat) {d : Device} (h : d.injectedAt 0x0607 = []) :
    (isoResult r c d).meas.iso.valid = true ∧ (isoResult r c d).meas.iso.r = max 10 (min 10000 r)
      ∧ (isoResult r c d).meas.iso.c = c
      ∧ (r < Cfg.isoWarnKohm d.cfg → 10 < Cfg.isoWarnKohm d.cfg → (isoResult r c d).meas.iso.warn = true) := by
  unfold isoResult
  simp only [h]
  refine ⟨trivial, rfl, trivial, fun hr h10 => ?_⟩
  have hlow : clampRat 10 10000 r < Cfg.isoWarnKohm d.cfg := max_lt (Nat.ofNat_lt_cast.mpr h10) ((min_le_right _ _).trans_lt hr)
  obtain ⟨e, he, hname, -, -⟩ := raise_hasFault .isoWarn .module 0 d (by decide)
  refine List.any_eq_true.mpr ⟨e, isoJudge_mem _ _ _ _ ?_ (by simp [hname]) (by simp [hname]), by simp [hname]⟩
  rw [isoJudge, if_pos hlow]
  exact he
end Sys2Proof.Machine

/-! ## The statements -/

open Sys2Proof Sys2Proof.Machine

/-- Settles O21: each event is its branch; what a publication leaves of a channel is said by `fastWords_mchan` and
`finePublish_mchan`. -/
theorem measurementResults : Obligations.MeasurementResults := by
  unfold Obligations.MeasurementResults
  refine ⟨fun streams s h0 => ?fast, fun ch eval streams run high s h0 hon hr hs h => ?exit,
    fun ch eval streams run high s hr hs h => ?again, fun ch eval streams s h => ?noRun,
    fun d m run hn hin hf => compSide_inside hn hin hf, fun ch streams run s ho hr hin => ?rearm,
    fun ch streams s hhi hlo => congrArg Host.Outcome.next (if_neg (by simp [hhi, hlo])),
    fun ch clock clocks s h0 hl ht => ?fine, fun ch clock clocks s ht => ?noBoundary,
    fun q ch s ht => congrArg Host.Outcome.next (hostRead_takes ht),
    fun q ch s ht => congrArg Host.Outcome.next (hostRead_takes ht), fun s h0 hc => ?visit, fun s hc => ?visiting⟩
  case fast =>
    obtain ⟨hctl, hfaults, hlen⟩ := fastWords_frame streams s.dev
    exact ⟨s.onDev (fastWords streams), next_unless_off _ h0, State.onDev_pending .., State.onDev_otp .., hctl, hfaults,
      hlen, fun m h48 hm => fastWords_mchan streams h48 hm⟩
  case exit =>
    refine (congrArg Host.Outcome.next (if_pos ⟨h0, hon⟩)).trans (next_onDev ?_)
    rw [compEval_side eval hr hs, compExit_new _ _ h]
    rfl
  case again =>
    refine congrArg Host.Outcome.next (ite_eq_right_iff.mpr fun _ => State.onDev_eq_self ?_)
    rw [compEval_side eval hr hs, compExit_again _ _ h]
  case noRun =>
    refine congrArg Host.Outcome.next (ite_eq_right_iff.mpr fun ⟨_, hon⟩ => State.onDev_eq_self (compEval_no_run ?_))
    exact h.resolve_right (by simp [hon])
  case rearm => exact congrArg Host.Outcome.next (if_pos ⟨ho, by simp [hr, hin]⟩)
  case fine =>
    exact ⟨s.onDev (finePublish ch clock clocks), next_unless_off _ h0, rfl, rfl, finePublish_mchan clocks hl ht⟩
  case noBoundary =>
    exact congrArg Host.Outcome.next (ite_eq_left_iff.mpr fun _ => State.onDev_eq_self (finePublish_no_boundary clocks ht))
  case visit =>
    exact ⟨s.onDev muxVisitEnd, congrArg Host.Outcome.next (if_pos ⟨h0, hc⟩), rfl, rfl, muxVisitEnd_meas s.dev⟩
  case visiting => exact congrArg Host.Outcome.next (if_neg fun h => Nat.not_lt.mpr h.2 hc)

/-- Settles O22: each event is its branch; what a calibration, new offsets, a slice and a result of the insulation monitor leave
is said by the lemmas about them. -/
theorem calibrationAndChecks : Obligations.CalibrationAndChecks := by
  unfold Obligations.CalibrationAndChecks
  refine ⟨fun q s ht hs hn => congrArg Host.Outcome.next (hostWrite_devCmd ht (cmdSelfCal_starts hs hn)),
    fun q s ht hs h1 => congrArg Host.Outcome.next (hostWrite_devCmd_refused ht (cmdSelfCal_busy hs h1)),
    fun q s ht hs => congrArg Host.Outcome.next (hostWrite_devCmd_refused ht (cmdSelfCal_refused hs)),
    fun m s h1 ht hs hf => ⟨s.onDev (calibrationDone m), congrArg Host.Outcome.next (if_pos ⟨h1, ht⟩), State.onDev_pending ..,
      State.onDev_otp .., calibrationDone_pass hs hf⟩,
    fun m k s h1 ht hs hk hf => ⟨s.onDev (calibrationDone m), congrArg Host.Outcome.next (if_pos ⟨h1, ht⟩),
      calibrationDone_fail hs hk hf⟩,
    fun m s h => ?notDone, fun p s hs hp hd hm he => congrArg Host.Outcome.next (if_pos ⟨hs, hp, hd, by simp [hm], he⟩),
    fun p s hd => congrArg Host.Outcome.next (if_neg (by simp [hd])), fun p l s hm ht => ?offsets,
    fun ch clocks s h0 hm hc => ?modFail, fun ch d ho => by simp only [modFail, ho],
    fun ch l s hb hf => congrArg Host.Outcome.next (if_neg (by simp [hb, hf])),
    fun ch clocks s hm hb hf => congrArg Host.Outcome.next (if_pos ⟨hm, hb, by simp [hf]⟩),
    fun ch clocks s hb => congrArg Host.Outcome.next (if_neg (by simp [hb])),
    fun s h0 hl hh => congrArg Host.Outcome.next (if_pos ⟨h0, hl, hh⟩),
    fun s h => congrArg Host.Outcome.next (if_neg (by simp [linkDisagrees_of_subst h])),
    fun p s h0 hg ha hh => congrArg Host.Outcome.next (if_pos ⟨h0, hg, ha, hh⟩), fun p s h => ?isumNot,
    fun ch s hs hp hd hn ha hr hok => ?sliceStarts, fun ch s h => ?sliceBarred,
    fun x y0 y1 s hx hn ht hp hf => ⟨s.onDev (sliceEnd x y0 y1), exec_testvSliceEnd y0 y1 hx hn ht, State.onDev_pending ..,
      State.onDev_otp .., sliceEnd_pass hp hf⟩,
    fun x y0 y1 s hx hn ht h => ⟨s.onDev (sliceEnd x y0 y1), exec_testvSliceEnd y0 y1 hx hn ht, sliceEnd_fail h⟩,
    fun x y0 y1 s hx ht => ?sliceEarly, fun x s hx hn ht hc => ?aborts, fun x s hx hc => ?noCause,
    fun r c s h0 hm hs hi => ⟨s.onDev (isoResult r c), congrArg Host.Outcome.next (if_pos ⟨h0, hm, by simp [hs]⟩),
      State.onDev_pending .., State.onDev_otp .., isoResult_iso c hi⟩, fun r c s h => ?isoNot,
    fun s hs hg ht => congrArg Host.Outcome.next (if_pos ⟨hs, by simp [hg], ht⟩),
    fun n s h0 hb hh => congrArg Host.Outcome.next (if_pos ⟨h0, hb, hh⟩),
    fun n s ht => congrArg Host.Outcome.next (if_pos ht),
    fun n s hn => congrArg Host.Outcome.next (if_neg (by rw [hn]; exact Bool.false_ne_true))⟩
  case notDone =>
    refine congrArg Host.Outcome.next (if_neg fun ⟨h1, ht⟩ => ?_)
    exact h.elim (· h1) (Bool.eq_false_iff.mp · ht)
  case offsets =>
    obtain ⟨hctl, hgates, hport, hdef⟩ := offsetRemeasured_frame p l s.dev
    exact ⟨s.onDev (offsetRemeasured p l), congrArg Host.Outcome.next (if_pos ⟨hm, ht⟩), State.onDev_pending ..,
      State.onDev_otp .., hport, hdef, hctl, hgates, fun k hk hl => offsetRemeasured_mchan p l hk hl⟩
  case modFail =>
    refine congrArg Host.Outcome.next (if_pos ⟨h0, by simp [hm], ?_⟩)
    obtain rfl | ⟨l, rfl, hb⟩ | hf := hc
    · exact .inl rfl
    · exact .inl hb
    · exact .inr hf
  case isumNot =>
    refine congrArg Host.Outcome.next (if_neg fun ⟨_, hg, ha, _⟩ => ?_)
    exact h.elim (Bool.eq_false_iff.mp · hg) (Bool.eq_false_iff.mp · ha)
  case sliceStarts =>
    simp only [exec, execTestvSliceStart, hs]
    exact next_onDev (sliceStart_due hp hd hn ha hr hok)
  case sliceBarred =>
    have hself : s.onDev (sliceStart ch) = s := State.onDev_eq_self (sliceStart_barred h)
    simp only [exec, execTestvSliceStart, hself]
    split <;> rfl
  case sliceEarly =>
    simp only [exec, execTestvSliceEnd, hx]
    exact congrArg Host.Outcome.next (if_neg fun h => Nat.not_lt.mpr h.2 ht)
  case aborts =>
    simp only [exec, execTestvSliceAbort, openSlice_of_slice hx hn ht]
    exact congrArg Host.Outcome.next (if_pos hc)
  case noCause =>
    simp only [exec, execTestvSliceAbort]
    split
    · next y hy =>
      obtain rfl : x = y := Option.some.inj (hx.symm.trans (slice_of_openSlice hy))
      exact congrArg Host.Outcome.next (if_neg (by simp [hc]))
    · rfl
  case isoNot =>
    refine congrArg Host.Outcome.next (if_neg fun ⟨_, hm, hs⟩ => ?_)
    exact h.elim (· hm) fun h => by simp [h] at hs

end

section
/-!
PROOFS of the statements about the compensator engine (chapter 7): the arithmetic of a sample, and a slot's sample, output,
overrun, invalid inputs and commands.
-/

namespace Sys2Proof.Machine

/-! ## The arithmetic of a sample (R192, R194) -/

theorem le_clampInt (lo hi x : Int) : lo ≤ clampInt lo hi x := le_max_left _ _

theorem clampInt_le {lo hi : Int} (x : Int) (h : lo ≤ hi) : clampInt lo hi x ≤ hi := max_le h (min_le_left _ _)

/-- Step 2 leaves a value in the signal range (R192). -/
theorem satSignal_mem_Icc (x : Int) : satSignal x ∈ Set.Icc (-8388608) 8388607 :=
  ⟨le_clampInt _ _ _, clampInt_le _ (by decide)⟩

/-! ## Updates of a slot -/

theorem Device.slot_of_slots {d d' : Device} (h : d'.slots = d.slots) (k : Nat) : d'.slot k = d.slot k := by
  simp only [Device.slot, h]

/-- An update of a slot that exists shows in it. -/
theorem Device.onSlot_slot {k : Nat} {d : Device} (f : Slot → Slot) (h : k < d.slots.length) :
    (d.onSlot k f).slot k = f (d.slot k) := by
  simp [Device.onSlot, Device.slot, h]

/-- What an update of a slot leaves alone in every slot stays. -/
theorem Device.onSlot_keeps (g : Slot → β) {f : Slot → Slot} (h : ∀ x, g (f x) = g x) (j k : Nat) (d : Device) :
    g ((d.onSlot j f).slot k) = g (d.slot k) := by
  by_cases hk : j = k
  · cases hx : d.slots[k]? <;> simp [Device.onSlot, Device.slot, hk, hx, h]
  · simp [Device.onSlot, Device.slot, hk]

@[simp] theorem Device.onSlot_slots_length (k : Nat) (f : Slot → Slot) (d : Device) :
    (d.onSlot k f).slots.length = d.slots.length := List.length_modify ..

theorem Device.onSlot_id (k : Nat) (d : Device) : d.onSlot k id = d := by simp [Device.onSlot]

/-- A slot that is not off exists. -/
theorem Device.lt_slots_length {d : Device} {k : Nat} (h : (d.slot k).mode ≠ .off) : k < d.slots.length := by
  by_contra hk
  simp [Device.slot, hk] at h

/-! ## What the stages compute before a sample (R211, R238, R239, R259) -/

/-- What a slot's sample takes from the device as the beat left it: module control, the settings, and the slot's place and
sequence number. -/
def Device.sampleView (k : Nat) (d : Device) : ModuleCtl × ObjDict × Nat × Nat :=
  (d.ctl, d.od, d.slots.length, (d.slot k).sampleSeq)

theorem sampleView_of_parts {d d' : Device} (k : Nat) (h : d'.ctl = d.ctl ∧ d'.od = d.od ∧ d'.slots = d.slots) :
    d'.sampleView k = d.sampleView k := by
  simp [Device.sampleView, Device.slot, h]

theorem Device.onSlot_sampleView {f : Slot → Slot} (h : ∀ x, (f x).sampleSeq = x.sampleSeq) (j k : Nat) (d : Device) :
    (d.onSlot j f).sampleView k = d.sampleView k := by
  simp [Device.sampleView, Device.onSlot_keeps Slot.sampleSeq h]

theorem openSlots_sampleView (ks : List Nat) (k : Nat) (d : Device) : (openSlots ks d).sampleView k = d.sampleView k :=
  Device.each_keeps (Device.sampleView k) _ (fun j d => Device.onSlot_sampleView (by intro x; rfl) j k d) ks d

theorem gridOff_sampleView (k : Nat) (d : Device) : (gridOff d).sampleView k = d.sampleView k := by
  simp only [gridOff, openSlots_sampleView]
  exact sampleView_of_parts k (by simp)

theorem chargeToIdle_sampleView (k : Nat) (d : Device) : (chargeToIdle d).sampleView k = d.sampleView k :=
  ite_keeps (Device.sampleView k) gridOff _ d (gridOff_sampleView k d)

theorem chargeEnd_sampleView (k : Nat) (d : Device) : (chargeEnd d).sampleView k = d.sampleView k := by
  unfold chargeEnd
  split
  · split
    · exact gridOff_sampleView k d
    · rfl
  · exact ite_keeps (Device.sampleView k) chargeToIdle _ d (chargeToIdle_sampleView k d)

theorem chargeSample_sampleView (j k : Nat) (d : Device) : (chargeSample j d).sampleView k = d.sampleView k := by
  unfold chargeSample
  split
  · rfl
  split
  · rfl
  split
  · split
    · rfl
    · exact chargeEnd_sampleView k (chargeCurrent d)
  · rfl

/-- The charge computes at the samples of CS03 and CS07 alone. -/
theorem chargeSample_other {k : Nat} (h3 : k ≠ 3) (h7 : k ≠ 7) (d : Device) : chargeSample k d = d := by
  simp [chargeSample, h3, h7]

theorem actSample_frame (k : Nat) (evals : List BitStream) (d : Device) :
    (actSample k evals d).ctl = d.ctl ∧ (actSample k evals d).od = d.od ∧ (actSample k evals d).gates = d.gates
      ∧ (actSample k evals d).slots = d.slots := by
  unfold actSample
  split
  · dsimp only
    split <;> simp
  · simp

theorem actSample_sampleView (j k : Nat) (evals : List BitStream) (d : Device) :
    (actSample j evals d).sampleView k = d.sampleView k :=
  sampleView_of_parts k (by simp [actSample_frame])

theorem slotOwner_sampleView (j k : Nat) (d : Device) : (slotOwner j d).sampleView k = d.sampleView k := by
  refine Device.onSlot_sampleView (fun x => ?_) j k d
  split
  · rfl
  · split <;> rfl
  · split <;> rfl
  · split <;> rfl

theorem loopChange_sampleView (j k : Nat) (d : Device) : (loopChange j d).sampleView k = d.sampleView k := by
  unfold loopChange
  split
  · rw [slotOwner_sampleView, slotOwner_sampleView]
    rfl
  · rfl

/-- The converter's loop changes at the samples of CS02 and CS03 alone. -/
theorem loopChange_other {k : Nat} (h2 : k ≠ 2) (h3 : k ≠ 3) (d : Device) : loopChange k d = d := by
  simp [loopChange, h2, h3]

/-! ## The sample (R196-R201) -/

/-- What a sample leaves of its slot once the sample has begun: sequence number, output tick and output (R14, R197). -/
def Slot.stamp (x : Slot) : Nat × Nanos × Int := (x.sampleSeq, x.outputDue, x.output)

/-- A sample begins: the slot counts it, and its output tick and the limits of its owner are set (R197, R203). -/
def sampleBegun (k : Nat) (d : Device) : Device :=
  d.draw.onSlot k fun x => { x with
    sampleSeq := addWrap 8 x.sampleSeq 1, outputDue := d.now + 5 * (Cfg.sampleTick d.cfg k + Cfg.latency d.cfg k)
    ownHi := if x.firmware then (d.ownLimits k).1 else x.ownHi
    ownLo := if x.firmware then (d.ownLimits k).2 else x.ownLo }

theorem sampleBegun_frame (k : Nat) (d : Device) :
    ((sampleBegun k d).slot k).cmd = (d.slot k).cmd ∧ ((sampleBegun k d).slot k).mode = (d.slot k).mode
      ∧ ((sampleBegun k d).slot k).output = (d.slot k).output :=
  ⟨Device.onSlot_keeps Slot.cmd (by intro x; rfl) k k d.draw, Device.onSlot_keeps Slot.mode (by intro x; rfl) k k d.draw,
    Device.onSlot_keeps Slot.output (by intro x; rfl) k k d.draw⟩

theorem slotSample_eq (k : Nat) (evals : List BitStream) (d : Device) :
    slotSample k evals d = slotClears k (slotSampleMode k evals (slotTakeCmd k
      (sampleBegun k (loopChange k (actSample k evals (chargeSample k d)))))) := rfl

/-- The commands of R200 move the mode of their slot alone. -/
theorem slotTakeCmd_eq_onSlot (k : Nat) (d : Device) :
    ∃ f : Slot → Slot, slotTakeCmd k d = d.onSlot k f ∧ ∀ x, (f x).stamp = x.stamp := by
  by_cases h : (d.slot k).cmd ≠ 0 ∧ (d.slot k).cmdAt < d.now
  · exact ⟨_, if_pos h, fun _ => rfl⟩
  · exact ⟨id, (if_neg h).trans (Device.onSlot_id k d).symm, fun _ => rfl⟩

/-- A sample in whatever mode updates its slot alone, and a slot that is closed stays so (R196, R199, R201). -/
theorem slotSampleMode_eq_onSlot (k : Nat) (evals : List BitStream) (d : Device) :
    ∃ f : Slot → Slot, slotSampleMode k evals d = d.onSlot k f ∧ (∀ x, (f x).stamp = x.stamp)
      ∧ ((d.slot k).mode = .closed → ∀ x, (f x).mode = x.mode) := by
  unfold slotSampleMode
  extract_lets x inp lim form o c opened
  split
  case h_1 => exact ⟨id, (Device.onSlot_id k d).symm, fun _ => rfl, fun _ _ => rfl⟩
  case h_2 => exact ⟨opened, rfl, fun _ => rfl, fun _ _ => rfl⟩
  case h_3 hm =>
    have hne : (d.slot k).mode ≠ .closed := fun hc => by cases hm.symm.trans hc
    split
    · exact ⟨_, rfl, fun _ => rfl, fun hc => absurd hc hne⟩
    · exact ⟨opened, rfl, fun _ => rfl, fun hc => absurd hc hne⟩
  case h_4 =>
    split <;> exact ⟨_, rfl, fun _ => rfl, fun _ _ => rfl⟩

theorem slotClears_frame (k : Nat) (d : Device) :
    (slotClears k d).ctl = d.ctl ∧ (slotClears k d).gates = d.gates ∧ (slotClears k d).slots = d.slots := by
  unfold slotClears
  dsimp only
  split <;> split <;> simp

/-- A sample of a slot counts, and its output tick is L after the sample tick (R197). -/
theorem slotSample_stamp {k : Nat} (evals : List BitStream) {d : Device} (h : k < d.slots.length) :
    ((slotSample k evals d).slot k).sampleSeq = ((d.slot k).sampleSeq + 1) % 2 ^ 8
      ∧ ((slotSample k evals d).slot k).outputDue = d.now + 5 * (Cfg.sampleTick d.cfg k + Cfg.latency d.cfg k) := by
  have hview : (loopChange k (actSample k evals (chargeSample k d))).sampleView k = d.sampleView k := by
    rw [loopChange_sampleView, actSample_sampleView, chargeSample_sampleView]
  rw [slotSample_eq]
  generalize loopChange k (actSample k evals (chargeSample k d)) = x at hview ⊢
  obtain ⟨hctl, hod, hlen, hseq⟩ : x.ctl = d.ctl ∧ x.od = d.od ∧ x.slots.length = d.slots.length
      ∧ (x.slot k).sampleSeq = (d.slot k).sampleSeq := by simpa [Device.sampleView] using hview
  obtain ⟨f, hf, hfs⟩ := slotTakeCmd_eq_onSlot k (sampleBegun k x)
  obtain ⟨g, hg, hgs, -⟩ := slotSampleMode_eq_onSlot k evals (slotTakeCmd k (sampleBegun k x))
  have hstamp : ((slotClears k (slotSampleMode k evals (slotTakeCmd k (sampleBegun k x)))).slot k).stamp
      = ((sampleBegun k x).slot k).stamp := by
    rw [Device.slot_of_slots (slotClears_frame k _).2.2, hg, Device.onSlot_keeps Slot.stamp hgs, hf,
      Device.onSlot_keeps Slot.stamp hfs]
  have hbegun : ((sampleBegun k x).slot k).stamp
      = (addWrap 8 (x.slot k).sampleSeq 1, x.now + 5 * (Cfg.sampleTick x.cfg k + Cfg.latency x.cfg k), (x.slot k).output) := by
    rw [sampleBegun, Device.onSlot_slot _ (by simpa [hlen] using h)]
    rfl
  obtain ⟨hs, hd, -⟩ : _ ∧ _ ∧ _ := by simpa [Slot.stamp] using hstamp.trans hbegun
  rw [hs, hd]
  simp only [addWrap, hseq, Device.now, Device.cfg, hctl, hod, and_self]

/-- A closed slot without a command stays closed over its sample and keeps its output until the output tick (R14, R197); the
slots of the converter's outer loops and of the link law compute more (R211, R238). -/
theorem slotSample_closed {k : Nat} (evals : List BitStream) {d : Device} (h2 : k ≠ 2) (h3 : k ≠ 3) (h7 : k ≠ 7)
    (hm : (d.slot k).mode = .closed) (hc : (d.slot k).cmd = 0) :
    ((slotSample k evals d).slot k).mode = .closed ∧ ((slotSample k evals d).slot k).output = (d.slot k).output
      ∧ (slotSample k evals d).ctl = d.ctl ∧ (slotSample k evals d).gates = d.gates := by
  obtain ⟨hctl, -, hgates, hslots⟩ := actSample_frame k evals d
  rw [slotSample_eq, loopChange_other h2 h3, chargeSample_other h3 h7]
  obtain ⟨hcmd, hmode, hout⟩ := sampleBegun_frame k (actSample k evals d)
  rw [Device.slot_of_slots hslots] at hcmd hmode hout
  have htake : slotTakeCmd k (sampleBegun k (actSample k evals d)) = sampleBegun k (actSample k evals d) :=
    if_neg (by simp [hcmd, hc])
  rw [htake]
  obtain ⟨f, hf, hfs, hfm⟩ := slotSampleMode_eq_onSlot k evals (sampleBegun k (actSample k evals d))
  obtain ⟨hctl', hgates', hslots'⟩ := slotClears_frame k (slotSampleMode k evals (sampleBegun k (actSample k evals d)))
  rw [Device.slot_of_slots hslots', hctl', hgates', hf, Device.onSlot_keeps Slot.mode (hfm (hmode.trans hm)),
    Device.onSlot_keeps Slot.output (fun x => congrArg (·.2.2) (hfs x))]
  exact ⟨hmode.trans hm, hout, hctl, hgates⟩

/-! ## Output tick and overrun (R197, R198, R204) -/

theorem slotApply_none {k : Nat} {d : Device} (h : (d.slot k).holding = none) : slotApply k d = d := by
  simp only [slotApply, h]

/-- The held result becomes the slot's output, with the histories and flags that go with it (R14, R197). -/
theorem slotApply_some {k : Nat} {d : Device} {y : Int} {xs ys : List Int} {sat cl : Bool}
    (h : (d.slot k).holding = some (y, xs, ys, sat, cl)) :
    slotApply k d =
      let e := d.onSlot k fun x => { x with
        output := y, outputPrev := x.output, outputAt := x.outputDue, x := xs, y := ys, saturated := sat, clamped := cl
        holding := none }
      if (d.slot k).firmware then slotDestination k e else e := by
  simp only [slotApply, h]
  rw [Device.onSlot_keeps Slot.firmware (by intro x; rfl)]

/-- A report that acts nowhere leaves module control and the slots alone. -/
theorem raiseActs_nil_frame (f : FaultName) (sc : Scope) (r : Nat) (d : Device) :
    (raiseActs f sc r [] d).ctl = d.ctl ∧ (raiseActs f sc r [] d).slots = d.slots := by
  simp only [raiseActs]
  split
  · split <;> simp [Device.each]
  · simp [Device.each]

/-- The output tick has won: the slot is opened, its result dropped, and OVERRUN set (R17, R198). -/
def overrunTaken (k : Nat) (d : Device) : Device :=
  { d with ctl := { d.ctl with overrun := true } }.onSlot k fun x =>
    { x with holding := none, late := true, lateAwait := true, mode := .opened, cmd := 0 }

theorem overrunTaken_firmware (k : Nat) (d : Device) : ((overrunTaken k d).slot k).firmware = (d.slot k).firmware :=
  Device.onSlot_keeps Slot.firmware (by intro x; rfl) k k _

/-- An overrun of a firmware slot is its stage's fault, one of an expert slot its own. -/
theorem slotOverrun_eq (k : Nat) (d : Device) :
    slotOverrun k d = if (d.slot k).firmware then raise .overrun (.stage (slotStage k)) 3 (overrunTaken k d)
      else raiseActs .overrun (.slot k) 3 [] (overrunTaken k d) := by
  rw [← overrunTaken_firmware]
  rfl

theorem slotOverrun_ctl (k : Nat) (d : Device) : (slotOverrun k d).ctl = { d.ctl with overrun := true } := by
  rw [slotOverrun_eq]
  split
  · exact raise_ctl _ _ _ _ (by decide) (by simp)
  · exact (raiseActs_nil_frame ..).1

/-- An expert slot that overruns is open and late (R198). -/
theorem slotOverrun_expert {k : Nat} {d : Device} (h : k < d.slots.length) (he : (d.slot k).firmware = false) :
    (slotOverrun k d).hasFault .overrun (.slot k) 3 ∧ ((slotOverrun k d).slot k).late = true
      ∧ ((slotOverrun k d).slot k).mode = .opened := by
  have hx : (overrunTaken k d).slot k
      = { d.slot k with holding := none, late := true, lateAwait := true, mode := .opened, cmd := 0 } :=
    Device.onSlot_slot _ h
  rw [slotOverrun_eq, he, if_neg Bool.false_ne_true, Device.slot_of_slots (raiseActs_nil_frame ..).2, hx]
  exact ⟨raiseActs_hasFault _ _ _ _ _ (by decide), rfl, rfl⟩

/-- A firmware slot that overruns stops its stage (R198). -/
theorem slotOverrun_firmware {k : Nat} {d : Device} (hf : (d.slot k).firmware) :
    (slotOverrun k d).hasFault .overrun (.stage (slotStage k)) 3 := by
  rw [slotOverrun_eq, if_pos hf]
  exact raise_hasFault _ _ _ _ (by decide)

/-! ## SLOT_CMD (R200) -/

/-- A command object's value stands among the live writes once the command is taken. -/
theorem rwCmd_ok {key v : Nat} {f : Device → W32 × Device} {d d' : Device} (h : f d = (Abort.ok, d')) :
    rwCmd key v f d = (Abort.ok, pushLive key v d') := by
  simp [rwCmd, h]

/-- A command that is refused changes nothing. -/
theorem rwCmd_refused {key v : Nat} {f : Device → W32 × Device} {d : Device} {code : W32} (h : f d = (code, d))
    (hc : code ≠ Abort.ok) : rwCmd key v f d = (code, d) := by
  simp [rwCmd, h, hc]

/-- A command of a slot waits for the slot's sample in a later beat, from the first one written on. -/
def slotCmdWaits (k code : Nat) (d : Device) : Device :=
  d.onSlot k fun x => { x with cmd := code, cmdAt := if x.cmd = 0 then d.now else x.cmdAt }

/-- A command of a slot that is taken. -/
theorem hostWrite_slotCmd {q : Path} {key k code : Nat} {s : State} (ht : s.dev.takes q .e false)
    (h : cmdSlot k code (touchPath q s.dev) = (Abort.ok, slotCmdWaits k code (touchPath q s.dev))) :
    hostWrite q .e false (devCmd (rwCmd key code (cmdSlot k code))) s = s.onDev fun d =>
      answer q Abort.ok [] (pushLive key code (slotCmdWaits k code (touchPath q d))) :=
  hostWrite_devCmd (g := fun x => pushLive key code (slotCmdWaits k code x)) ht (rwCmd_ok h)

/-- A command of a slot that is refused. -/
theorem hostWrite_slotCmd_refused {q : Path} {key k code : Nat} {e : W32} {s : State} (ht : s.dev.takes q .e false)
    (h : cmdSlot k code (touchPath q s.dev) = (e, touchPath q s.dev)) (he : e ≠ Abort.ok) :
    hostWrite q .e false (devCmd (rwCmd key code (cmdSlot k code))) s = s.onDev fun d => answer q e [] (touchPath q d) :=
  hostWrite_devCmd_refused ht (rwCmd_refused h he)

theorem cmdSlot_open {k : Nat} (d : Device) (hk : 24 ≤ k) : cmdSlot k 1 d = (Abort.ok, slotCmdWaits k 1 d) := by
  simp [cmdSlot, slotCmdWaits, Nat.not_lt.mpr hk]

theorem cmdSlot_close {k : Nat} {d : Device} (hk : 24 ≤ k) (hf : Cfg.form d.cfg k ≠ 0) :
    cmdSlot k 2 d = (Abort.ok, slotCmdWaits k 2 d) := by
  simp [cmdSlot, slotCmdWaits, Nat.not_lt.mpr hk, hf]

theorem cmdSlot_close_formless {k : Nat} {d : Device} (hk : 24 ≤ k) (hf : Cfg.form d.cfg k = 0) :
    cmdSlot k 2 d = (Abort.state, d) := by
  simp [cmdSlot, Nat.not_lt.mpr hk, hf]

theorem cmdSlot_firmware {k : Nat} (code : Nat) (d : Device) (hk : k < 24) : cmdSlot k code d = (Abort.access, d) := if_pos hk

end Sys2Proof.Machine

/-! ## The statements -/

open Sys2Proof Sys2Proof.Machine

/-- Settles O24: the output is the limited value, which is the saturated one where the clamp did not act. -/
theorem slotArithmetic : Obligations.SlotArithmetic := by
  unfold Obligations.SlotArithmetic
  intro form c aw hi lo x0 x y hlh r
  have hsat : (slotRound (slotAccumulate form c (x0 :: x) y) (hi, lo)).1 ∈ Set.Icc (-8388608) 8388607 := satSignal_mem_Icc _
  refine ⟨le_clampInt _ _ _, clampInt_le _ hlh, rfl, List.length_take_le _ _, fun hclamp => ?_, fun haw => ?_⟩
  · have hr : r.1 = (slotRound (slotAccumulate form c (x0 :: x) y) (hi, lo)).1 := not_not.mp (of_decide_eq_false hclamp)
    rw [hr]
    exact hsat
  · exact congrArg (fun v => (v :: y).take 3) (if_pos haw)

/-- Settles O23: each command is its branch; what a sample and an overrun leave is said by the lemmas about them. -/
theorem slotCommands : Obligations.SlotCommands := by
  unfold Obligations.SlotCommands
  refine ⟨fun k ev s h0 hm hk hb => ?sample, fun k ev s h0 hm h2 h3 h7 hk hc hb => ?closed, fun k ev s h => ?noSample,
    fun k s h => ?notDue, fun k y xs ys sat cl s h0 hk hh ht => ?apply, fun k s h0 hm hh => ?overrun, fun k s h => ?noOverrun,
    fun k s hf hm hr => congrArg Host.Outcome.next (if_pos ⟨by simp [hf], hm, hr⟩), fun k s h => ?inputOk,
    fun q k s ht hk => congrArg Host.Outcome.next (hostWrite_slotCmd ht (cmdSlot_open _ hk)),
    fun q k s ht hk hf => congrArg Host.Outcome.next (hostWrite_slotCmd ht (cmdSlot_close hk hf)),
    fun q k s ht hk hf =>
      congrArg Host.Outcome.next (hostWrite_slotCmd_refused ht (cmdSlot_close_formless hk hf) (by decide)),
    fun q k s ht hk =>
      ⟨congrArg Host.Outcome.next (hostWrite_slotCmd_refused ht (cmdSlot_firmware 1 _ hk) (by decide)),
        congrArg Host.Outcome.next (hostWrite_slotCmd_refused ht (cmdSlot_firmware 2 _ hk) (by decide))⟩⟩
  case sample =>
    obtain ⟨hseq, hdue⟩ := slotSample_stamp ev hk
    exact ⟨s.onDev (slotSample k ev), congrArg Host.Outcome.next (if_pos ⟨h0, hm, hb⟩), rfl, rfl, hseq, hdue⟩
  case closed =>
    have hne (n : Fin 32) (h : k ≠ n) : k.val ≠ n.val := fun hv => h (Fin.ext hv)
    exact ⟨s.onDev (slotSample k ev), congrArg Host.Outcome.next (if_pos ⟨h0, by simp [hm], hb⟩), rfl, rfl,
      slotSample_closed ev (hne 2 h2) (hne 3 h3) (hne 7 h7) hm hc⟩
  case noSample =>
    refine congrArg Host.Outcome.next (if_neg fun ⟨_, hm, hb⟩ => ?_)
    exact h.elim (Bool.eq_false_iff.mp · hb) hm
  case notDue =>
    refine congrArg Host.Outcome.next (ite_eq_right_iff.mpr fun ⟨_, ht⟩ => ?_)
    exact h.elim (fun hn => State.onDev_eq_self (slotApply_none hn)) fun hd => absurd ht (Nat.not_lt.mpr hd)
  case apply =>
    exact (congrArg Host.Outcome.next (if_pos ⟨h0, ht⟩)).trans (next_onDev (slotApply_some hh))
  case overrun =>
    refine ⟨s.onDev (slotOverrun k), congrArg Host.Outcome.next (if_pos ⟨h0, hm, Option.isSome_iff_ne_none.mpr hh⟩), rfl, rfl,
      ?_, ?_, slotOverrun_firmware, slotOverrun_expert (Device.lt_slots_length (by simp [hm]))⟩
    · rw [State.onDev_dev, slotOverrun_ctl]
    · rw [State.onDev_dev, slotOverrun_ctl]
  case noOverrun =>
    refine congrArg Host.Outcome.next (if_neg fun ⟨_, hm, hh⟩ => ?_)
    exact h.elim (· hm) (Option.isSome_iff_ne_none.mp hh)
  case inputOk =>
    refine congrArg Host.Outcome.next (if_neg fun ⟨hf, _, hr⟩ => ?_)
    exact h.elim (Nat.not_lt.mpr hr) fun h => by simp [h] at hf

end

section
/-!
PROOFS of the statements about the supply (chapter 8): its chain, the battery converter's load, setpoint and protection, the
54 V and 24 V buses, the backup path and the power arbiter.
-/

namespace Sys2Proof.Machine

/-! ## Times -/

/-- A condition that began at least the given time ago has lasted for it. -/
theorem lasted_of_le {now u : Nanos} {since : Option Nanos} {n : Nat} (hu : since = some u) (h : u + n ≤ now) :
    lasted now since n = true := by
  rw [hu]
  exact decide_eq_true h

/-- Where the last time lies at least the period back, or there is none, the action is due. -/
theorem due_of_forall_le {now n : Nat} {last : Option Nanos} (h : ∀ u, last = some u → u + n ≤ now) : due now last n = true := by
  cases last with
  | none => rfl
  | some u => exact decide_eq_true (h u rfl)

/-! ## Updates of a converter phase -/

/-- An update of a phase that exists shows in it. -/
theorem Device.onPhase_phase {n : Nat} {d : Device} (f : ConvPhase → ConvPhase) (h : n < d.supply.conv.phases.length) :
    (d.onPhase n f).supply.conv.phases.getD n {} = f (d.supply.conv.phases.getD n {}) := by
  simp [Device.onPhase, Device.onConv, Device.onSupply, h]

/-- What an update of a phase leaves alone in every phase stays. -/
theorem Device.onPhase_keeps (g : ConvPhase → β) {f : ConvPhase → ConvPhase} (hf : ∀ x, g (f x) = g x) (n k : Nat) (d : Device) :
    g ((d.onPhase n f).supply.conv.phases.getD k {}) = g (d.supply.conv.phases.getD k {}) := by
  by_cases hk : n = k
  · cases hx : d.supply.conv.phases[k]? <;> simp [Device.onPhase, Device.onConv, Device.onSupply, hk, hx, hf]
  · simp [Device.onPhase, Device.onConv, Device.onSupply, hk]

theorem Device.onPhase_id (n : Nat) (d : Device) : (d.onPhase n fun x => x) = d := by
  have h : d.supply.conv.phases.modify n (fun x => x) = d.supply.conv.phases := List.modify_id n _
  simp only [Device.onPhase, Device.onConv, Device.onSupply, h]

/-- A phase that is in use exists. -/
theorem lt_phases_length_of_active {n : Nat} {l : List ConvPhase} (h : (l.getD n {}).active) : n < l.length := by
  by_contra hn
  simp [hn] at h

/-! ## SUPPLY_CMD (R209, R232, R283) -/

theorem cmdSupplyStart_starts {d : Device} (hs : d.ctl.state = .standby) (hc : d.supply.chain = 0) (hm : d.meas.calState ≠ 1) :
    cmdSupplyStart d = (Abort.ok, chainStart d) := by
  simp [cmdSupplyStart, ModState.chainRuns, hs, hc, hm]

theorem cmdSupplyStart_waits {d : Device} (hs : d.ctl.state = .standby) (hc : d.supply.chain = 0) (hm : d.meas.calState = 1) :
    cmdSupplyStart d = (Abort.ok, d.onSupply fun x => { x with calPause := true }) := by
  simp [cmdSupplyStart, ModState.chainRuns, hs, hc, hm]

theorem cmdSupplyStart_restarts {d : Device} (hs : d.ctl.state.chainRuns) (hc : d.supply.chain ≠ 0) :
    cmdSupplyStart d = (Abort.ok, chainRestart d) := by
  simp [cmdSupplyStart, hs, hc]

theorem cmdSupplyStart_refused {d : Device}
    (h : d.ctl.state.chainRuns = false ∨ (d.supply.chain = 0 ∧ d.ctl.state ≠ .standby)) :
    cmdSupplyStart d = (Abort.state, d) := by
  unfold cmdSupplyStart
  obtain hr | ⟨hc, hs⟩ := h
  · exact if_pos (by simp [hr])
  · exact ite_eq_left_iff.mpr fun _ => (if_pos hc).trans (if_pos hs)

theorem cmdSupplyStop_stops {d : Device} (h : d.ctl.state.chainRuns) :
    cmdSupplyStop d = (Abort.ok, (chainStop d).onSupply fun x => { x with calPause := false }) := if_neg (by simp [h])

theorem cmdSupplyStop_refused {d : Device} (h : d.ctl.state.chainRuns = false) : cmdSupplyStop d = (Abort.state, d) :=
  if_pos (by simp [h])

/-! ## The chain's steps (R208, R212, R214, R220) -/

/-- The soft start of an LLC that no chain waits for ends with its output in range (R220). -/
theorem llcDone_off_chain {d : Device} (h : d.supply.chain ≠ 3) :
    llcDone d = d.onLlc fun x => { x with inRange := true, startConv := x.startConv && decide (d.fineVal 23 ≤ 50) } := if_neg h

/-- A precharge that ends while the converter runs brings its phase into use (R214, R215). -/
theorem fcDone_running {n : Nat} {d : Device} (h : d.supply.conv.running) :
    fcDone n d = d.onPhase n fun x => { x with precharging := false, preStart := none, active := true, shed := false } :=
  if_pos (Bool.or_eq_true_iff.mpr (.inr h))

/-! ## The carrier (R210, R213, R215) -/

theorem issuePosAt_supply (t : Nanos) (on : Bool) (i : Nat) (d : Device) : (issuePosAt t on i d).supply = d.supply := by
  simp [issuePosAt]

/-- The commands of a phase in a beat leave module control, the faults and the phases' duties alone. -/
theorem phaseEdges_frame (n k : Nat) (d : Device) :
    (phaseEdges n d).ctl = d.ctl ∧ (phaseEdges n d).faults = d.faults
      ∧ ((phaseEdges n d).supply.conv.phases.getD k {}).duty = (d.supply.conv.phases.getD k {}).duty
      ∧ ((phaseEdges n d).supply.conv.phases.getD k {}).peakAt = (d.supply.conv.phases.getD k {}).peakAt := by
  unfold phaseEdges
  extract_lets x due e
  have hsupply : e.supply = d.supply := Device.each_keeps (·.supply) _ (fun _ _ => issuePosAt_supply ..) _ _
  have hctl : e.ctl = d.ctl := Device.each_keeps (·.ctl) _ (fun _ _ => (issuePosAt_frame ..).1) _ _
  have hfaults : e.faults = d.faults := Device.each_keeps (·.faults) _ (fun _ _ => (issuePosAt_frame ..).2) _ _
  rw [Device.onPhase_keeps ConvPhase.duty (by intro x; rfl), Device.onPhase_keeps ConvPhase.peakAt (by intro x; rfl), hsupply]
  exact ⟨hctl, hfaults, rfl, rfl⟩

/-- At its carrier peak a phase that switches takes its balance shift and its duty, and the commands of the period that begins
(R210, R213). -/
theorem carrierPeak_active {n : Nat} {t : Nanos} {d : Device} (ha : (d.supply.conv.phases.getD n {}).active)
    (ho : (d.supply.conv.phases.getD n {}).outerAt = none) (hs : (d.supply.conv.phases.getD n {}).shed = false) :
    carrierPeak n t d =
      let x := d.supply.conv.phases.getD n {}
      let sh := d.balanceShift n x.shift
      let next := d.halfEdges false t x.dutyNext sh ++ d.halfEdges true (t + d.carrierNs / 2) x.dutyNext sh
      phaseEdges n (d.onPhase n fun y => { y with shift := sh, duty := y.dutyNext, peakAt := some t, edges := x.edges ++ next }) := by
  have hback : ((d.supply.conv.phases.getD n {}).shed && (d.supply.conv.phases.getD n {}).returning) = false := by
    rw [hs, Bool.false_and]
  simp only [carrierPeak, hback, Bool.not_false, if_true, Device.onPhase_id]
  simp only [ha, ho, hs, Bool.not_true, Option.isSome_none, Bool.or_self, Bool.false_and, Bool.false_eq_true, if_false]

theorem carrierPeak_takes_duty {n : Nat} {t : Nanos} {d : Device} (ha : (d.supply.conv.phases.getD n {}).active)
    (ho : (d.supply.conv.phases.getD n {}).outerAt = none) (hs : (d.supply.conv.phases.getD n {}).shed = false) :
    ((carrierPeak n t d).supply.conv.phases.getD n {}).duty = (d.supply.conv.phases.getD n {}).dutyNext
      ∧ ((carrierPeak n t d).supply.conv.phases.getD n {}).peakAt = some t
      ∧ (carrierPeak n t d).ctl = d.ctl ∧ (carrierPeak n t d).faults = d.faults := by
  rw [carrierPeak_active ha ho hs]
  extract_lets x sh next
  obtain ⟨hctl, hfaults, hduty, hpeak⟩ := phaseEdges_frame n n
    (d.onPhase n fun y => { y with shift := sh, duty := y.dutyNext, peakAt := some t, edges := x.edges ++ next })
  rw [hctl, hfaults, hduty, hpeak, Device.onPhase_phase _ (lt_phases_length_of_active ha)]
  exact ⟨rfl, rfl, rfl, rfl⟩

/-- A carrier peak that falls into the beat and has not been taken runs while the converter does. -/
theorem exec_convCarrierPeak {n : Fin 3} {u : Nanos} {s : State} (hr : s.dev.supply.conv.running)
    (hc : s.dev.carrierPeakAt n = some u) (hp : (s.dev.supply.conv.phases.getD n {}).peakAt ≠ some u) :
    exec (.convCarrierPeak n) s = .next (s.onDev (carrierPeak n u)) := by
  simp only [exec, execConvCarrierPeak, hc]
  exact congrArg Host.Outcome.next (if_pos ⟨hr, hp⟩)

/-! ## The converter's load (R216, R217) -/

theorem overloadStep_nonneg (acc p : Rat) : 0 ≤ overloadStep acc p := le_max_left _ _

theorem overloadStep_above {acc p : Rat} (hp : 560 < ratAbs p) (ha : 0 ≤ acc) :
    overloadStep acc p = acc + (ratAbs p - 560) := by
  rw [overloadStep, if_pos hp, max_eq_right (by linarith)]

theorem overloadStep_below {acc p : Rat} (hp : ratAbs p ≤ 560) (ha : (560 - ratAbs p) / 4 ≤ acc) :
    overloadStep acc p = acc - (560 - ratAbs p) / 4 := by
  rw [overloadStep, if_neg (not_lt.mpr hp), max_eq_right (by linarith)]

/-- The values a battery limit may take (Table 8.6). -/
def BatLimit.inRange (l : BatLimit) (v : Nat) : Prop :=
  match l with
  | .dischargeCurrent | .chargeCurrent => v ≤ 2000
  | .voltMax | .voltMin => 600 ≤ v ∧ v ≤ 1350

/-- The range the command tests by the object's key is the limit's own. -/
theorem BatLimit.inRange_iff_key (l : BatLimit) (v : Nat) :
    (if BatLimit.key l ≤ 0x280102 then decide (v ≤ 2000) else decide (600 ≤ v ∧ v ≤ 1350)) = true ↔ BatLimit.inRange l v := by
  cases l <;> simp [BatLimit.key, BatLimit.inRange]

theorem cmdBatLimit_taken {l : BatLimit} {v : Nat} {d : Device} (hv : BatLimit.inRange l v) (hf : d.forcedAt 0x0802 = false) :
    cmdBatLimit (BatLimit.key l) v d = (Abort.ok, clearFault .batLimitsStale (.stage .conv)
      ((pushLive (BatLimit.key l) v d).onConv fun c => { c with lastLimit := some d.now, batStale := false })) := by
  have hforced : (pushLive (BatLimit.key l) v d).forcedAt 0x0802 = false := hf
  simp only [cmdBatLimit, (BatLimit.inRange_iff_key l v).mpr hv, hforced]
  rfl

theorem cmdBatLimit_refused {l : BatLimit} {v : Nat} (d : Device) (hv : ¬ BatLimit.inRange l v) :
    cmdBatLimit (BatLimit.key l) v d = (Abort.range, d) :=
  if_pos (by rw [Bool.eq_false_iff.mpr (mt (BatLimit.inRange_iff_key l v).mp hv)]; rfl)

/-! ## The link's setpoint (R212) -/

/-- A slew comes nearer to its target by its step, and no further than the target. -/
theorem abs_slew_sub_target (x t s : Rat) : |slew x t s - t| = max 0 (|x - t| - s) := by
  unfold slew
  split
  case isTrue hx =>
    rw [abs_of_neg (sub_neg.mpr hx)]
    obtain hr | hr := le_total t (x + s)
    · rw [min_eq_left hr, max_eq_left (by linarith), sub_self, abs_zero]
    · rw [min_eq_right hr, max_eq_right (by linarith), abs_of_nonpos (by linarith)]
      ring
  case isFalse hx =>
    rw [abs_of_nonneg (sub_nonneg.mpr (not_lt.mp hx))]
    obtain hr | hr := le_total (x - s) t
    · rw [max_eq_left hr, max_eq_left (by linarith), sub_self, abs_zero]
    · rw [max_eq_right hr, max_eq_right (by linarith), abs_of_nonneg (by linarith)]
      ring

/-- While the converter runs its ramp slews to the effective setpoint by LINK_RAMP. -/
theorem convBeat_ramp {d : Device} (h : d.supply.conv.running) :
    (convBeat d).supply.conv.ramp = slew d.supply.conv.ramp d.linkSetpoint ((Cfg.linkRamp d.cfg : Rat) / 1000) := if_pos h

/-- The converter boosts only: its setpoint is not below a battery voltage within the setpoint's range. -/
theorem fineVal_le_linkSetpoint {d : Device} (h0 : 0 ≤ d.fineVal 12) (h : d.fineVal 12 ≤ 1600) :
    d.fineVal 12 ≤ d.linkSetpoint := le_min h (le_max_of_le_right (by linarith))

/-! ## LINK_DISCHARGE (R219) -/

theorem cmdLinkDischarge_taken {d : Device} (h : d.ctl.state = .standby ∨ d.ctl.state = .safe ∨ d.ctl.state = .fault) :
    cmdLinkDischarge d = (Abort.ok, d.onConv fun c => { c with dischCmd := true, discharging := !c.dischHot }) := by
  obtain h | h | h := h <;> simp only [cmdLinkDischarge, h]

theorem cmdLinkDischarge_refused {d : Device} (h1 : d.ctl.state ≠ .standby) (h2 : d.ctl.state ≠ .safe)
    (h3 : d.ctl.state ≠ .fault) : cmdLinkDischarge d = (Abort.state, d) := by
  unfold cmdLinkDischarge
  split
  · exact absurd ‹_› h1
  · exact absurd ‹_› h2
  · exact absurd ‹_› h3
  · rfl

/-- Without an injection the thresholds see the link as it is measured (R428). -/
theorem linkSeen_of_no_injection {d : Device} (h : d.injectedAt 0x0803 = []) :
    d.linkSeen = d.vLink ∧ d.linkHighSeen = d.vLinkHigh := by
  simp [Device.linkSeen, Device.linkHighSeen, injSum, h]

/-! ## What lets a stage run after its faults are cleared (R58, R205) -/

/-- What decides whether a stage can run: the active faults, the gates and module control. -/
def Device.armView (d : Device) : List FaultEntry × Gates × ModuleCtl := (d.faults.active, d.gates, d.ctl)

theorem Device.stageCan_of_armView {d d' : Device} (h : d.armView = d'.armView) (sg : StageGroup) :
    d.stageCan sg = d'.stageCan sg := by
  obtain ⟨hfaults, hgates, hctl⟩ : d.faults.active = d'.faults.active ∧ d.gates = d'.gates ∧ d.ctl = d'.ctl := by
    simpa [Device.armView] using h
  have hreaction : d.reaction sg = d'.reaction sg := by rw [Device.reaction, hfaults, Device.reaction]
  have hisland (i : Nat) : d.island i = d'.island i := by rw [Device.island, hgates, Device.island]
  simp only [Device.stageCan, hreaction, hisland, Device.enablePin_of_ctl hctl]

theorem clearFault_armView (f : FaultName) (sc : Scope) (d : Device) :
    (clearFault f sc d).armView = (d.armView.1.filter (fun x => !(x.name == f && x.scope == sc)), d.armView.2) := by
  simp [Device.armView, clearFault_active]

/-- What a restart clears depends on the active faults alone. -/
theorem restartClears_armView (sg : StageGroup) {d d' : Device} (h : d.armView = d'.armView) :
    (restartClears sg d).armView = (restartClears sg d').armView := by
  simp only [restartClears, Device.each, List.foldl_cons, List.foldl_nil, clearFault_armView, h]

theorem restartClears_ctl (sg : StageGroup) (d : Device) : (restartClears sg d).ctl = d.ctl :=
  Device.each_keeps (·.ctl) _ (fun _ _ => by simp) _ _

/-! ## The LLC's restart (R221) -/

theorem exec_llcRestart {u : Nanos} {s : State} (h : s.dev.supply.llc.restart = some u) :
    exec .llcRestart s = .next (s.onDev (llcRestart u)) := by
  simp only [exec, execLlcRestart, h]

/-- 100 ms after the stop the LLC starts again where its faults clear and both halves can run (R221). -/
theorem llcRestart_starts {u : Nanos} {d : Device} (ht : u + 100000000 ≤ d.now)
    (hn : (d.supply.llc.stops.filter fun x => decide (d.now < x + sec 10)).length < 3) (hf : d.forcedAt 0x0804 = false)
    (hp : (restartClears .llcSec (restartClears .llcPri d)).stageCan .llcPri)
    (hs : (restartClears .llcSec (restartClears .llcPri d)).stageCan .llcSec) :
    (llcRestart u d).supply.llc.running = true ∧ (llcRestart u d).supply.llc.restart = none
      ∧ (llcRestart u d).ctl = d.ctl := by
  unfold llcRestart
  extract_lets stops e x
  have he : e.armView = d.armView := rfl
  have hview : x.armView = (restartClears .llcSec (restartClears .llcPri d)).armView :=
    restartClears_armView _ (restartClears_armView _ he)
  have hforced : e.forcedAt 0x0804 = false := hf
  have hctl : x.ctl = d.ctl := (restartClears_ctl ..).trans (restartClears_ctl ..)
  clear_value x
  have hdue : ¬ e.now < u + ms 100 := Nat.not_lt.mpr ht
  rw [if_neg (by simp [stops, hn, hforced]), if_neg hdue,
    if_pos (by simp only [Device.stageCan_of_armView hview, hp, hs, Bool.and_self])]
  exact ⟨rfl, rfl, hctl⟩

/-! ## The 24 V bus (R222-R224) -/

theorem cmdAuxVSet_taken {v : Nat} (d : Device) (h1 : 2400 ≤ v) (h2 : v ≤ 3000) :
    cmdAuxVSet v d = (Abort.ok, pushLive 0x282001 v d) := if_pos ⟨h1, h2⟩

theorem cmdAuxVSet_refused {v : Nat} (d : Device) (h : v < 2400 ∨ 3000 < v) : cmdAuxVSet v d = (Abort.range, d) :=
  if_neg (by omega)

/-- An edge at SYNC_IN is kept as the last one; the buck runs on (R223). -/
theorem syncEdge_frame (stamp : Nat) (d : Device) :
    (syncEdge stamp d).supply.aux.lastSync = some stamp ∧ (syncEdge stamp d).supply.aux.running = d.supply.aux.running
      ∧ (syncEdge stamp d).gates = d.gates ∧ (syncEdge stamp d).ctl = d.ctl := by
  unfold syncEdge
  extract_lets x per counted n lock e
  have hedge : e.supply.aux.lastSync = some stamp ∧ e.supply.aux.running = d.supply.aux.running ∧ e.gates = d.gates
    ∧ e.ctl = d.ctl := ⟨rfl, rfl, rfl, rfl⟩
  split
  · simpa using hedge
  · exact hedge

/-- A shed phase that is not lost returns, the lowest-numbered one (R224). -/
theorem auxAdd_some {d : Device} {k : Nat} (h : [0, 1, 2, 3, 4, 5, 6, 7].find? (fun j =>
    !d.supply.aux.active.getD j false && !d.supply.aux.lostPh.getD j false) = some k) :
    auxAdd d = d.onAux fun x => { x with active := x.active.set k true } := by
  simp only [auxAdd, Device.onAux, Device.onSupply, h]

/-! ## The arbiter (R230, R231) -/

/-- The actuators' share of the 54 V bus is not negative (R231). -/
theorem bus54Grant_share (d : Device) : ∃ g, (bus54Grant d).supply.busNext = some g ∧ 0 ≤ g.share := by
  refine ⟨_, rfl, ?_⟩
  dsimp only
  split
  · exact zero_le_one
  · exact le_max_left _ _

end Sys2Proof.Machine

/-! ## The statements -/

open Sys2Proof Sys2Proof.Machine

/-- Settles O25: each command and event is its branch; what a carrier peak leaves of its phase is `carrierPeak_takes_duty`. -/
theorem supplyChain : Obligations.SupplyChain := by
  unfold Obligations.SupplyChain
  refine ⟨
    fun q s ht hs hc hm => congrArg Host.Outcome.next
      (hostWrite_devCmd (f := cmdSupply 1) (g := chainStart) ht (cmdSupplyStart_starts hs hc hm)),
    fun q s ht hs hc hm => congrArg Host.Outcome.next
      (hostWrite_devCmd (f := cmdSupply 1) (g := Device.onSupply fun x => { x with calPause := true }) ht
        (cmdSupplyStart_waits hs hc hm)),
    fun q s ht hr hc => congrArg Host.Outcome.next
      (hostWrite_devCmd (f := cmdSupply 1) (g := chainRestart) ht (cmdSupplyStart_restarts hr hc)),
    fun q s ht h => congrArg Host.Outcome.next (hostWrite_devCmd_refused (f := cmdSupply 1) ht (cmdSupplyStart_refused h)),
    fun q s ht hr => congrArg Host.Outcome.next
      (hostWrite_devCmd (f := cmdSupply 2) (g := fun d => (chainStop d).onSupply fun x => { x with calPause := false }) ht
        (cmdSupplyStop_stops hr)),
    fun q s ht hr => congrArg Host.Outcome.next (hostWrite_devCmd_refused (f := cmdSupply 2) ht (cmdSupplyStop_refused hr)),
    fun s hc hv hp hs => congrArg Host.Outcome.next (if_pos ⟨hc, hv, hp, hs⟩), fun s h => ?noPrecharge,
    fun s hr hi hlo hhi hc => ?llcDone,
    fun s hr hi hlo hhi hc => ?llcDoneInChain, fun s h => ?llcNotDone,
    fun n s hp hv hr => (congrArg Host.Outcome.next (if_pos ⟨hp, hv⟩)).trans (next_onDev (fcDone_running hr)),
    fun n s hp hv => congrArg Host.Outcome.next (if_pos ⟨hp, hv⟩),
    fun n s hp => congrArg Host.Outcome.next (if_neg fun h => Bool.eq_false_iff.mp hp h.1),
    fun n u late s hp hu ht => congrArg Host.Outcome.next (if_pos ⟨hp, lasted_of_le hu ht⟩),
    fun n late s hp => congrArg Host.Outcome.next (if_neg fun h => Bool.eq_false_iff.mp hp h.1),
    fun s hc hr he => congrArg Host.Outcome.next (if_pos ⟨hc, hr, he⟩), fun s h => ?rampGoes,
    fun n u s hr hc hp => exec_convCarrierPeak hr hc hp, fun n s h => ?noPeak,
    fun n u s hr hc hp ha ho hs => ⟨s.onDev (carrierPeak n u), exec_convCarrierPeak hr hc hp, rfl, rfl,
      carrierPeak_takes_duty ha ho hs⟩,
    fun n s ha ho hh => congrArg Host.Outcome.next (if_pos ⟨ha, ho, hh⟩),
    fun n s ho => congrArg Host.Outcome.next (if_neg (by simp [ho])), fun n d h => decide_eq_true h⟩
  case noPrecharge =>
    refine congrArg Host.Outcome.next (if_neg fun ⟨hc, hv, _⟩ => ?_)
    exact h.elim (not_lt.mpr hv) (· hc)
  case llcDone =>
    exact (congrArg Host.Outcome.next (if_pos ⟨hr, by simp [hi], hlo, hhi⟩)).trans (next_onDev (llcDone_off_chain hc))
  case llcDoneInChain =>
    exact (congrArg Host.Outcome.next (if_pos ⟨hr, by simp [hi], hlo, hhi⟩)).trans (next_onDev (if_pos hc))
  case llcNotDone =>
    refine congrArg Host.Outcome.next (if_neg fun ⟨hr, _, hlo, _⟩ => ?_)
    exact h.elim (Bool.eq_false_iff.mp · hr) (not_lt.mpr hlo)
  case rampGoes =>
    refine congrArg Host.Outcome.next (if_neg fun ⟨hc, _, he⟩ => ?_)
    exact h.elim (· hc) (· he)
  case noPeak =>
    cases hc : s.dev.carrierPeakAt n with
    | none => simp only [exec, execConvCarrierPeak, hc]
    | some u =>
      have hr : s.dev.supply.conv.running = false := h.resolve_left (by simp [hc])
      simp only [exec, execConvCarrierPeak, hc]
      exact congrArg Host.Outcome.next (if_neg (by simp [hr]))

/-- Settles O26: each event is its branch, the account steps one way or the other, and a limit is taken or refused by its
range. -/
theorem converterLoad : Obligations.ConverterLoad := by
  unfold Obligations.ConverterLoad
  refine ⟨fun s hr hw hh => congrArg Host.Outcome.next (if_pos ⟨hr, hw, hh⟩),
    fun s hw => congrArg Host.Outcome.next (if_neg fun h => Nat.not_lt.mpr hw h.2.1),
    fun s hr hs ho => congrArg Host.Outcome.next (if_pos ⟨hr, hs, ho⟩),
    fun s ho => congrArg Host.Outcome.next (if_neg (by simp [ho])), fun s h => congrArg Host.Outcome.next (if_pos h),
    fun s h => congrArg Host.Outcome.next (if_neg (not_le.mpr h)),
    fun acc p => ⟨overloadStep_nonneg acc p, overloadStep_above, overloadStep_below⟩, fun q l v s ht hv hf => ?taken,
    fun q l v s ht hv => ?range, fun late s h0 ht hl => congrArg Host.Outcome.next (if_pos ⟨h0, ht, hl⟩),
    fun late s ht => congrArg Host.Outcome.next (if_neg (by simp [ht]))⟩
  case taken =>
    have hin : BatLimit.inRange l v.toNat := by cases l <;> exact hv
    exact congrArg Host.Outcome.next (hostWrite_devCmd (f := cmdBatLimit (BatLimit.key l) v.toNat)
      (g := fun d => clearFault .batLimitsStale (.stage .conv)
        ((pushLive (BatLimit.key l) v.toNat d).onConv fun c => { c with lastLimit := some d.now, batStale := false })) ht
      (cmdBatLimit_taken hin hf))
  case range =>
    have hout : ¬ BatLimit.inRange l v.toNat := by cases l <;> simp only [BatLimit.inRange] <;> omega
    exact congrArg Host.Outcome.next (hostWrite_devCmd_refused (f := cmdBatLimit (BatLimit.key l) v.toNat) ht (cmdBatLimit_refused _ hout))

/-- Settles O27: the setpoint by its formula, and the ramp of a beat as one slew to it. -/
theorem linkSetpoint : Obligations.LinkSetpoint := by
  unfold Obligations.LinkSetpoint
  refine ⟨fun d => rfl, fun d h0 h => fineVal_le_linkSetpoint h0 h, fun d hr => ⟨rfl, ?_⟩, fun d hv hl => ?figures⟩
  case figures =>
    have hset : d.linkSetpoint = min 1600 (max (Cfg.linkSet d.cfg : Rat) (11 / 10 * (d.mchan 12).value)) := rfl
    rw [hset, hv, hl]
    norm_num
  have hstep : (0 : Rat) ≤ (Cfg.linkRamp d.cfg : Rat) / 1000 := by positivity
  simp only [convBeat_ramp hr, ratAbs_eq_abs]
  exact ⟨abs_slew_sub_le _ _ hstep, abs_slew_sub_target _ _ _⟩

/-- Settles O28: each threshold's event is its branch, and LINK_DISCHARGE is taken or refused by the state. -/
theorem linkProtection : Obligations.LinkProtection := by
  unfold Obligations.LinkProtection
  refine ⟨fun s hs hv hh => congrArg Host.Outcome.next (if_pos ⟨hs, hv, hh⟩), fun s h => ?noUv,
    fun d h => linkSeen_of_no_injection h, fun s h0 hv hh => congrArg Host.Outcome.next (if_pos ⟨h0, hv, hh⟩),
    fun s hv => congrArg Host.Outcome.next (if_neg fun h => not_lt.mpr hv h.2.1),
    fun s hl hv => congrArg Host.Outcome.next (if_pos ⟨hl, hv⟩),
    fun s hv => congrArg Host.Outcome.next (if_neg fun h => not_lt.mpr hv h.2),
    fun s h0 hv hh hc => congrArg Host.Outcome.next (if_pos ⟨h0, hv, hh, by simp [hc]⟩),
    fun s hc => congrArg Host.Outcome.next (if_neg (by simp [hc])),
    fun s hd hc hv => congrArg Host.Outcome.next (if_pos ⟨hd, by simpa [hc] using hv⟩),
    fun s hd hc hv => congrArg Host.Outcome.next (if_pos ⟨hd, by simpa [hc] using hv⟩),
    fun s hc hv => congrArg Host.Outcome.next (if_neg (by simp [hc, hv])),
    fun s h0 hv hh => congrArg Host.Outcome.next (if_pos ⟨h0, hv, hh⟩),
    fun s hv => congrArg Host.Outcome.next (if_neg fun h => not_lt.mpr hv h.2.1),
    fun q s ht hs => congrArg Host.Outcome.next (hostWrite_devCmd (f := cmdLinkDischarge)
      (g := Device.onConv fun c => { c with dischCmd := true, discharging := !c.dischHot }) ht (cmdLinkDischarge_taken hs)),
    fun q s ht h1 h2 h3 => congrArg Host.Outcome.next (hostWrite_devCmd_refused ht (cmdLinkDischarge_refused h1 h2 h3)),
    fun s hd ha => congrArg Host.Outcome.next (if_pos ⟨hd, ha⟩),
    fun s hd => congrArg Host.Outcome.next (if_neg (by simp [hd])),
    fun s hc ha => congrArg Host.Outcome.next (if_pos ⟨hc, ha⟩),
    fun s ha => congrArg Host.Outcome.next (if_neg fun h => not_lt.mpr ha h.2)⟩
  case noUv =>
    refine congrArg Host.Outcome.next (if_neg fun ⟨hs, hv, _⟩ => ?_)
    exact h.elim (fun hle => not_lt.mpr hle hv) (· hs)

/-- Settles O29: each event is its branch; what a restart of the LLC, an edge at SYNC_IN and a grant leave is said by the lemmas
about them. -/
theorem busesAndBackup : Obligations.BusesAndBackup := by
  unfold Obligations.BusesAndBackup
  refine ⟨fun s h0 hb hh => congrArg Host.Outcome.next (if_pos ⟨h0, hb, hh⟩),
    fun s hb => congrArg Host.Outcome.next (if_neg (by simp [hb])), fun d h => by simp [Device.busOver, h],
    fun d hr hi hv => by simp [Device.busUnder, hr, hi, hv], fun s hb hh => congrArg Host.Outcome.next (if_pos ⟨hb, hh⟩),
    fun s hb => congrArg Host.Outcome.next (if_neg (by simp [hb])),
    fun u s hu h => (exec_llcRestart hu).trans (next_onDev (if_pos h)),
    fun u s hu ht hn hf hp hs => ⟨s.onDev (llcRestart u), exec_llcRestart hu, rfl, rfl, llcRestart_starts ht hn hf hp hs⟩,
    fun s hu => by simp only [exec, execLlcRestart, hu],
    fun q v s ht h1 h2 => congrArg Host.Outcome.next (hostWrite_devCmd (f := cmdAuxVSet v.toNat)
      (g := pushLive 0x282001 v.toNat) ht (cmdAuxVSet_taken _ h1 h2)),
    fun q v s ht h => congrArg Host.Outcome.next
      (hostWrite_devCmd_refused (f := cmdAuxVSet v.toNat) ht (cmdAuxVSet_refused _ h)),
    fun stamp s h0 hs hf => ⟨s.onDev (syncEdge stamp), congrArg Host.Outcome.next (if_pos ⟨h0, hs, by simp [hf]⟩), rfl, rfl,
      syncEdge_frame stamp s.dev⟩,
    fun stamp s hs => congrArg Host.Outcome.next (if_neg fun h => hs h.2.1), fun e s hl h => ?syncLost,
    fun e s hl => congrArg Host.Outcome.next (if_neg (by simp [hl])), fun s hr hh hw hd hl hst => ?shed, fun s h => ?noShed,
    fun s hr hw => congrArg Host.Outcome.next (if_pos ⟨hr, hw⟩), fun d k h => auxAdd_some h,
    fun s hw => congrArg Host.Outcome.next (if_neg fun h => Nat.not_lt.mpr hw h.2),
    fun s hr hc hs => congrArg Host.Outcome.next (if_pos ⟨hr, hc, hs⟩),
    fun s hs => congrArg Host.Outcome.next (if_neg (by simp [hs])),
    fun u s hh hu ht => congrArg Host.Outcome.next (if_pos ⟨hh, lasted_of_le hu ht⟩),
    fun s hh => congrArg Host.Outcome.next (if_neg (by simp [hh])),
    fun s h0 hc hh hv => congrArg Host.Outcome.next (if_pos ⟨h0, hc, by simp [hh], hv⟩), fun s h => ?diodeHeld,
    fun s hd hv => congrArg Host.Outcome.next (if_pos ⟨hd, hv⟩),
    fun s hv => congrArg Host.Outcome.next (if_neg fun h => not_le.mpr hv h.2),
    fun s hd ho hh => congrArg Host.Outcome.next (if_pos ⟨hd, ho, hh⟩),
    fun s ho => congrArg Host.Outcome.next (if_neg (by simp [ho])),
    fun s hc hh ht => congrArg Host.Outcome.next (if_pos ⟨hc, by simp [hh], ht⟩),
    fun s hh => congrArg Host.Outcome.next (if_neg (by simp [hh])),
    fun s h0 h => congrArg Host.Outcome.next (if_pos ⟨h0, h⟩), fun s hv hf => ?notLow,
    fun s h0 hn => ⟨s.onDev powerArbitration, _, congrArg Host.Outcome.next (if_pos ⟨h0, hn⟩), rfl, rfl, rfl, rfl, rfl,
      min_le_left _ _, rfl⟩,
    fun s hn => congrArg Host.Outcome.next (if_neg fun h => Nat.not_le.mpr hn h.2), fun s h0 => ?grant⟩
  case syncLost =>
    refine congrArg Host.Outcome.next (if_pos ⟨hl, ?_⟩)
    split
    · next u hu => exact decide_eq_true (h u hu)
    · rfl
  case shed =>
    refine congrArg Host.Outcome.next (if_pos ⟨hr, by simp [hh], hw, hd, due_of_forall_le hl, ?_⟩)
    obtain hc | hs := hst
    · simp [Nat.not_lt.mpr hc]
    · simp [hs]
  case noShed =>
    refine congrArg Host.Outcome.next (if_neg fun ⟨_, hh, hw, _⟩ => ?_)
    exact h.elim (fun hs => by simp [hs] at hh) fun hc => Nat.not_lt.mpr hc hw
  case diodeHeld =>
    refine congrArg Host.Outcome.next (if_neg fun ⟨_, hc, hh, _⟩ => ?_)
    exact h.elim (fun hs => by simp [hs] at hh) (· hc)
  case notLow =>
    refine congrArg Host.Outcome.next (if_neg fun ⟨_, h⟩ => ?_)
    exact h.elim (not_lt.mpr hv) (Bool.eq_false_iff.mp hf)
  case grant =>
    obtain ⟨g, hg, hshare⟩ := bus54Grant_share s.dev
    exact ⟨s.onDev bus54Grant, g, next_unless_off _ h0, rfl, rfl, rfl, rfl, rfl, hg, hshare, rfl⟩

end

section
/-!
PROOFS of the statements about charging (chapter 9): the traction charge, the host watchdog, the backup charger and the lamp
outputs.
-/

namespace Sys2Proof.Machine

/-! ## Reports and writes -/

/-- A report below F2 acts on neither charger. -/
theorem raise_low_chargers (f : FaultName) (sc : Scope) {r : Nat} (h : r < 2) (d : Device) :
    (raise f sc r d).chg = d.chg ∧ (raise f sc r d).bchg = d.bchg := by
  simp only [raise, raiseActs]
  split
  · split
    · simp only [List.filter_cons, List.filter_nil]
      split <;> simp [Device.each, reactOne_low_eq_self _ _ h]
    · simp [Device.each, reactOne_low_eq_self _ _ h]
  · simp [Device.each, reactOne_low_eq_self _ _ h]

/-- What a condition below F2 raises or clears leaves module control, the objects and the backup charger alone. -/
theorem follow_low_frame (f : FaultName) (sc : Scope) {r : Nat} (h : r < 2) (on : Bool) (d : Device) :
    (follow f sc r on d).ctl = d.ctl ∧ (follow f sc r on d).od = d.od ∧ (follow f sc r on d).bchg = d.bchg := by
  have h2 : (sc, r) ≠ (.module, 2) := fun hs => absurd (congrArg Prod.snd hs) (Nat.ne_of_lt h)
  cases on
  · simp [follow]
  · exact ⟨raise_ctl f sc r d (by omega) h2, by simp [follow], (raise_low_chargers f sc h d).2⟩

/-- A write of a command object that keeps its value (R384): the command runs, its value waits, its answer goes out. -/
theorem hostWrite_rwCmd {q : Path} {key v : Nat} {f : Device → W32 × Device} {g : Device → Device} {s : State}
    (ht : s.dev.takes q .b false) (hf : f (touchPath q s.dev) = (Abort.ok, g (touchPath q s.dev))) :
    hostWrite q .b false (devCmd (rwCmd key v f)) s =
      s.onDev fun d => answer q Abort.ok [] (pushLive key v (g (touchPath q d))) :=
  hostWrite_devCmd (g := fun d => pushLive key v (g d)) ht (rwCmd_ok hf)

/-- One that is refused because of the module's state (Table 15.6). -/
theorem hostWrite_rwCmd_refused {q : Path} {key v : Nat} {f : Device → W32 × Device} {s : State}
    (ht : s.dev.takes q .b false) (hf : f (touchPath q s.dev) = (Abort.state, touchPath q s.dev)) :
    hostWrite q .b false (devCmd (rwCmd key v f)) s = s.onDev fun d => answer q Abort.state [] (touchPath q d) :=
  hostWrite_devCmd_refused ht (rwCmd_refused hf (by decide))

/-! ## The start of a charge (R235, R237, Table 9.2) -/

theorem chargeSync_chg (d : Device) :
    (chargeSync d).chg =
      { d.chg with state := .sync, step := 1, stepStart := d.now, pllLocked := false, ending := none } := by
  simp [chargeSync, Device.onChg]

theorem chargeSync_ctl (d : Device) : (chargeSync d).ctl = d.ctl := by
  simp [chargeSync, Device.onChg]

/-- CHG_CMD 0x01 from IDLE or COMPLETE: the charge is commanded and synchronises where the grid is accepted and no TBAT_LOST
holds it (R237, R244). -/
theorem chgStart_commands {d : Device} (hc : Cfg.convMode d.cfg = 1) (hr : d.ctl.state = .run)
    (hs : d.chg.state = .idle ∨ d.chg.state = .complete) :
    chgStart d =
      let x := d.onChg fun x => { x with state := .gridCheck, commanded := true, ending := none }
      (Abort.ok, if d.chg.gridOk ∧ !d.chg.lostHold then chargeSync x else x) := by
  unfold chgStart
  rw [if_neg (by simp [hc, hr])]
  obtain h | h := hs <;> simp only [h] <;> rfl

theorem chgStart_waits {d : Device} (hc : Cfg.convMode d.cfg = 1) (hr : d.ctl.state = .run)
    (hs : d.chg.state = .idle ∨ d.chg.state = .complete) (hg : d.chg.gridOk = false ∨ d.chg.lostHold) :
    chgStart d = (Abort.ok, d.onChg fun x => { x with state := .gridCheck, commanded := true, ending := none }) := by
  rw [chgStart_commands hc hr hs]
  exact congrArg _ (if_neg fun ⟨ho, hl⟩ => by obtain h | h := hg <;> simp_all)

theorem chgStart_syncs {d : Device} (hc : Cfg.convMode d.cfg = 1) (hr : d.ctl.state = .run)
    (hs : d.chg.state = .idle ∨ d.chg.state = .complete) (hg : d.chg.gridOk) (hl : d.chg.lostHold = false) :
    chgStart d =
      (Abort.ok, chargeSync (d.onChg fun x => { x with state := .gridCheck, commanded := true, ending := none })) := by
  rw [chgStart_commands hc hr hs]
  exact congrArg _ (if_pos ⟨hg, by simp [hl]⟩)

theorem chgStart_refused {d : Device}
    (h : Cfg.convMode d.cfg ≠ 1 ∨ d.ctl.state ≠ .run ∨ d.chg.state = .lockedOut) : chgStart d = (Abort.state, d) := by
  unfold chgStart
  split
  · rfl
  · next hn =>
    obtain ⟨hc, hr⟩ := not_or.mp hn
    have hs : d.chg.state = .lockedOut := (h.resolve_left hc).resolve_left hr
    simp only [hs]

/-! ## The end of a charge (R235, R237, R240) -/

/-- In CC or CV the current ramps to 0 first. -/
theorem chgStop_ramps {d : Device} (h : d.chg.state = .cc ∨ d.chg.state = .cv) :
    chgStop d = (Abort.ok, d.onChg fun x => { x with ending := some false }) := by
  obtain h | h := h <;> simp only [chgStop, h]

theorem chargeToIdle_frame (d : Device) :
    (chargeToIdle d).ctl = d.ctl ∧ (chargeToIdle d).bchg = d.bchg ∧ (chargeToIdle d).chg.state = .idle := by
  simp only [chargeToIdle]
  split <;> simp [Device.onChg]

/-- CHG_CMD 0x03 leaves a charge that is neither locked out nor complete (R237). -/
theorem chgRearm_frame (d : Device) :
    (chgRearm d).2.ctl = d.ctl ∧ (chgRearm d).2.bchg = d.bchg ∧ (chgRearm d).2.chg.state ≠ .lockedOut
      ∧ (chgRearm d).2.chg.state ≠ .complete := by
  have hclear (c : Prop) [Decidable c] (x : Device) :
      (if c then clearFault .tbatLost .module x else x).ctl = x.ctl
        ∧ (if c then clearFault .tbatLost .module x else x).bchg = x.bchg
        ∧ (if c then clearFault .tbatLost .module x else x).chg = x.chg := by
    split <;> simp
  obtain ⟨hctl, hbchg, hidle⟩ := chargeToIdle_frame d
  unfold chgRearm
  simp only [hclear]
  split
  · simp [hctl, hbchg, hidle]
  · simp [hctl, hbchg, hidle]
  · next hl hc => exact ⟨rfl, rfl, hl, hc⟩

/-! ## The grid (R236) -/

/-- GRID_V_UPDATE touches the charge and the counter of the free values alone. -/
theorem gridUpdate_dev (f : Rat) (d : Device) :
    gridUpdate f d = { d.draw with chg := (gridUpdate f d).chg } := rfl

/-- After a period with beats GRID_V is the positive sequence's rms value, and the unbalance the negative one's share of it. -/
theorem gridUpdate_chg (f : Rat) {d : Device} (hn : d.chg.gridN ≠ 0) :
    (gridUpdate f d).chg.state = d.chg.state ∧ (gridUpdate f d).chg.gridF = f
      ∧ (gridUpdate f d).chg.gridV = gridRms d.chg.gridPos d.chg.gridN ∧ (gridUpdate f d).chg.gridN = 0
      ∧ ((gridUpdate f d).chg.gridV ≠ 0 →
          (gridUpdate f d).chg.unbalance * (gridUpdate f d).chg.gridV = gridRms d.chg.gridNeg d.chg.gridN) := by
  have hv : (gridUpdate f d).chg.gridV = gridRms d.chg.gridPos d.chg.gridN := if_neg hn
  have hu : (gridUpdate f d).chg.unbalance
      = divFree (Config.freeRat d.fresh) (gridRms d.chg.gridNeg d.chg.gridN) (gridUpdate f d).chg.gridV :=
    (if_neg hn).trans (by rw [hv]; exact congrArg _ (if_neg hn))
  refine ⟨rfl, rfl, hv, rfl, fun h0 => ?_⟩
  rw [hu, divFree, if_neg h0, div_mul_cancel₀ _ h0]

theorem gridAccept_syncs {d : Device} (hs : d.chg.state = .gridCheck) (hc : d.chg.commanded) (hl : d.chg.lostHold = false)
    (hr : d.armReaction .grid < 3) :
    gridAccept d = chargeSync (d.onChg fun x => { x with gridOk := true }) :=
  if_pos ⟨hs, hc, by simpa [Device.onChg] using hl, hr⟩

theorem gridAccept_idle {d : Device} (hs : d.chg.state ≠ .gridCheck) :
    gridAccept d = d.onChg fun x => { x with gridOk := true } := if_neg fun h => hs h.1

/-- A voltage at the limit of UV passes, where no injection fails the check (R428). -/
theorem gridBad_uv_at_limit {d : Device} (hv : d.chg.gridV = 85 / 100 * (Cfg.gridVNom d.cfg : Rat))
    (hi : d.injectedAt 0x0901 = []) : d.gridBad .uv = false := by
  simp [Device.gridBad, Device.gridFails, injPicks, hi, hv]

/-! ## Synchronisation and restarts (R237, Table 9.2) -/

/-- Arming the islands that are not armed touches the gates alone. -/
theorem armIslands_frame (l : List Nat) (d : Device) :
    let x := d.each l fun i d => if (d.island i).armed then d else armIsland i d
    x.ctl = d.ctl ∧ x.faults = d.faults ∧ x.chg = d.chg :=
  ⟨Device.each_keeps (·.ctl) _ (fun _ _ => by split <;> rfl) _ _,
    Device.each_keeps (·.faults) _ (fun _ _ => by split <;> rfl) _ _,
    Device.each_keeps (·.chg) _ (fun _ _ => by split <;> rfl) _ _⟩

/-- With EN_CONV high, no F3 and every island linked the port switches once the PLL has locked, and the insulation monitor is
suspended (R186). -/
theorem pllLocked_switches {d : Device} (hr : d.reaction .grid < 3) (he : d.ctl.enConv)
    (hl : ∀ k : Nat, k ∈ StageGroup.islands .grid → (d.island k).link = 2) :
    (pllLocked d).chg = { d.chg with pllLocked := true, step := 3, switching := true, iCmd := 0, vregScale := 0x7FFFFF }
      ∧ (pllLocked d).meas.iso.suspended = true ∧ (pllLocked d).ctl = d.ctl ∧ (pllLocked d).faults = d.faults := by
  have hlinked : (StageGroup.islands .grid).all (fun i => (d.island i).link == 2) :=
    List.all_eq_true.mpr fun k hk => beq_iff_eq.mpr (hl k hk)
  unfold pllLocked
  extract_lets x y z u v
  have hgo : x.reaction .grid < 3 ∧ x.ctl.enConv ∧ (StageGroup.islands .grid).all (fun i => (x.island i).link == 2) :=
    ⟨hr, he, hlinked⟩
  obtain ⟨hctl, hfaults, hchg⟩ : y.ctl = x.ctl ∧ y.faults = x.faults ∧ y.chg = x.chg := armIslands_frame _ _
  clear_value y
  rw [if_pos hgo]
  exact ⟨congrArg (fun c : Charge => { c with step := 3, switching := true, iCmd := 0, vregScale := 0x7FFFFF }) hchg, rfl,
    hctl, hfaults⟩

/-- With EN_CONV low or an F3 the charge waits for a restart. -/
theorem pllLocked_waits {d : Device} (h : d.ctl.enConv = false ∨ 3 ≤ d.reaction .grid) :
    pllLocked d = d.onChg fun x => { x with pllLocked := true, state := .retryWait, step := 0, stepStart := d.now } := by
  refine if_neg fun ⟨hr, he, _⟩ => ?_
  exact h.elim (fun hf => Bool.eq_false_iff.mp hf he) (Nat.not_le.mpr hr)

/-- Fewer than five restarts in 10 min: the charge synchronises again, and the restart counts (R237). -/
theorem gridRestart_syncs {d : Device} (hi : d.injectedAt 0x0901 = [])
    (hn : (d.chg.restarts.filter fun t => decide (d.now < t + sec 600)).length < 5) :
    (gridRestart d).ctl = d.ctl ∧ (gridRestart d).chg.state = .sync ∧ d.now ∈ (gridRestart d).chg.restarts := by
  unfold gridRestart
  extract_lets l
  rw [if_neg (by simp [injPicks, hi, l, hn]), chargeSync_ctl, chargeSync_chg]
  exact ⟨rfl, rfl, List.mem_append_right _ (List.mem_singleton_self _)⟩

/-- The restart after five in 10 min locks the charge out (R237). -/
theorem gridRestart_locks_out {d : Device}
    (hn : 5 ≤ (d.chg.restarts.filter fun t => decide (d.now < t + sec 600)).length) :
    (gridRestart d).chg.state = .lockedOut ∧ (gridRestart d).hasFault .gridRetry (.stage .grid) 3 := by
  unfold gridRestart
  extract_lets l
  rw [if_pos (.inl hn)]
  exact ⟨rfl, raise_hasFault .gridRetry (.stage .grid) 3 d (by decide)⟩

/-- A restart that is due (R237). -/
theorem exec_gridRestart {s : State} (hs : s.dev.chg.state = .retryWait) (hc : s.dev.chg.commanded) (ha : s.dev.acceptable)
    (hh : s.dev.held .gridAccept (sec (Cfg.gridRestartT s.dev.cfg)))
    (ht : s.dev.chg.stepStart + sec (Cfg.gridRestartT s.dev.cfg) ≤ s.dev.now) (hr : s.dev.armReaction .grid < 3) :
    exec .gridRestart s = .next (s.onDev gridRestart) :=
  congrArg Host.Outcome.next (if_pos ⟨hs, hc, ha, hh, ht, hr⟩)

/-! ## The charge's end and a removed battery (R240, R244) -/

theorem Device.chargeDone_iff (d : Device) :
    d.chargeDone ↔ d.chg.state = .cv ∧ Cfg.chgIEnd d.cfg ≠ 0 ∧ d.fineVal 13 < (Cfg.chgIEnd d.cfg : Rat) := by
  simp [Device.chargeDone, and_assoc]

theorem Device.tbatGone_of_current {d : Device} (hr : d.supply.conv.running) (hc : 20 ≤ d.chg.iCmd)
    (hi : d.latchedVal 13 < 5) : d.tbatGone := by
  simp [Device.tbatGone, hr, hc, hi]

theorem Device.tbatGone_low_command {d : Device} (hc : d.chg.iCmd < 20) : d.tbatGone = false := by
  simp [Device.tbatGone, not_le.mpr hc]

/-! ## The host watchdog (R242, R243) -/

theorem wdRefresh_frame (d : Device) :
    (wdRefresh d).ctl = d.ctl ∧ (wdRefresh d).bchg = d.bchg ∧ (wdRefresh d).chg.fallback = false := by
  simp [wdRefresh, Device.onChg]

theorem cmdChgISet_taken {v : Nat} (d : Device) (h : v ≤ 2000) :
    cmdChgISet v d = (Abort.ok, wdRefresh (pushLive 0x290002 v d)) := if_pos h

theorem cmdChgISet_refused {v : Nat} (d : Device) (h : 2000 < v) : cmdChgISet v d = (Abort.range, d) :=
  if_neg (Nat.not_le.mpr h)

theorem cmdChgVSet_taken {v : Nat} (d : Device) (h1 : 600 ≤ v) (h2 : v ≤ 1350) :
    cmdChgVSet v d = (Abort.ok, wdRefresh (pushLive 0x290003 v d)) := if_pos ⟨h1, h2⟩

theorem cmdChgVSet_refused {v : Nat} (d : Device) (h : v < 600 ∨ 1350 < v) : cmdChgVSet v d = (Abort.range, d) :=
  if_neg (by omega)

theorem bchgTrickle_state (d : Device) : (bchgTrickle d).bchg.state = .trickle := rfl

/-- The fallback (R242): CHG_WD_EXPIRED is raised, and the backup charger leaves FAST and PRECHARGE for TRICKLE. -/
theorem wdExpire_frame (d : Device) :
    (wdExpire d).chg.fallback = true ∧ (wdExpire d).hasFault .chgWdExpired .module 0 ∧ (wdExpire d).ctl = d.ctl
      ∧ (wdExpire d).bchg.state ≠ .fast ∧ (wdExpire d).bchg.state ≠ .precharge
      ∧ (wdExpire d).chg.wdLate = d.chg.wdLate := by
  unfold wdExpire
  extract_lets x
  have hchg : x.chg = (d.onChg fun c => { c with fallback := true }).chg := (raise_low_chargers _ _ two_pos _).1
  have hfallback : x.chg.fallback = true := congrArg Charge.fallback hchg
  have hlate : x.chg.wdLate = d.chg.wdLate := (congrArg Charge.wdLate hchg).trans rfl
  have hctl : x.ctl = d.ctl := raise_ctl _ _ _ _ (by decide) (by decide)
  have hfault : x.hasFault .chgWdExpired .module 0 := raise_hasFault _ _ _ _ (by decide)
  split
  · rw [bchgTrickle_state]
    exact ⟨hfallback, hfault, hctl, by decide, by decide, hlate⟩
  · next h =>
    obtain ⟨hfast, hprecharge⟩ := not_or.mp h
    exact ⟨hfallback, hfault, hctl, hfast, hprecharge, hlate⟩

/-- The watchdog's time has run (R242). -/
theorem exec_chgWdExpired (r : Option Bool) {s : State} (h0 : s.dev.ctl.state ≠ .off)
    (ht : s.dev.chg.lastRefresh.getD 0 + sec (Cfg.chgWdTime s.dev.cfg) ≤ s.dev.now) :
    exec (.chgWdExpired r) s = .next (s.onDev (wdExpired r)) :=
  congrArg Host.Outcome.next (if_pos ⟨h0, .inl ht⟩)

/-! ## Phases of the backup charger (Table 9.4) -/

/-- FAST starts between 5 and 40 degC (Table 9.4). -/
theorem bchgFast_starts {x : Rat} {d : Device} (hf : d.chg.fallback = false) (ht : d.bchg.temp = some x) (h5 : 5 ≤ x)
    (h40 : x ≤ 40) :
    bchgFast d = d.onCharger fun y => { y with
      state := .fast, phaseStart := d.now, timerPaused := false, dvArmed := false, endCause := 0
      vSum := 0, vN := 0, vBad := false, vMean := none, vPeak := none
      safetyRun := 0, safetySince := some d.now, ceilRun := 0, ceilSince := some d.now } := by
  have hin : ¬ (x < 5 ∨ 40 < x) := not_or.mpr ⟨not_lt.mpr h5, not_lt.mpr h40⟩
  simp only [bchgFast, ht, hf, Bool.false_eq_true, if_false, if_neg hin]

/-- Outside these temperatures the charger waits for them (Table 9.4). -/
theorem bchgFast_waits {x : Rat} {d : Device} (hf : d.chg.fallback = false) (ht : d.bchg.temp = some x)
    (hx : x < 5 ∨ 40 < x) :
    bchgFast d = d.onCharger fun y => { y with state := .waitTemp, phaseStart := d.now } := by
  simp only [bchgFast, ht, hf, Bool.false_eq_true, if_false, if_pos hx]

/-- A charger that is to enter FAST enters a phase, and module control stays. -/
theorem bchgFast_frame (d : Device) : (bchgFast d).ctl = d.ctl ∧ (bchgFast d).bchg.state ≠ .stopped := by
  unfold bchgFast
  split
  · exact ⟨rfl, by simp [bchgTrickle_state]⟩
  · split
    · exact ⟨rfl, by simp [bchgTrickle_state]⟩
    · split <;> exact ⟨rfl, by simp [Device.onCharger]⟩

theorem bchgStart_frame (d : Device) : (bchgStart d).ctl = d.ctl ∧ (bchgStart d).bchg.state ≠ .stopped := by
  unfold bchgStart
  dsimp only
  split
  · split
    · exact ⟨rfl, by simp [bchgTrickle_state]⟩
    · exact ⟨rfl, by simp [Device.onCharger]⟩
  · split
    · exact bchgFast_frame d
    · exact ⟨rfl, by simp [bchgTrickle_state]⟩

/-- In TRICKLE, not in the fallback and below the restart voltage for 60 s the charger is to enter FAST again (Table 9.4). -/
theorem exec_bchgRestartFast {s : State} (hs : s.dev.bchg.state = .trickle) (hf : s.dev.chg.fallback = false)
    (hv : s.dev.fineVal 27 < 18 * (Cfg.bchgRestartV s.dev.cfg : Rat) / 100) (hh : s.dev.held .bchgRestart 60000000000) :
    exec .bchgRestartFast s = .next (s.onDev bchgFast) := by
  have hlow : s.dev.trickleLow := by simp [Device.trickleLow, hs, hv]
  exact congrArg Host.Outcome.next (if_pos ⟨hlow, by simp [hf], hh⟩)

/-! ## The battery's temperature (R245, R248) -/

/-- The temperature as read, with BATAUX_TSENSE while the sensor gives none. -/
def batauxSensed (t : Option Rat) (d : Device) : Device :=
  follow .batauxTsense (.backup 0) 0 t.isNone (d.onCharger fun x => { x with
    temp := t, temps := match t with
      | some v => (d.now, v) :: tempWindow d.now x.temps
      | none => [] })

theorem batauxSensed_frame (t : Option Rat) (d : Device) :
    (batauxSensed t d).ctl = d.ctl ∧ (batauxSensed t d).od = d.od ∧ (batauxSensed t d).bchg.temp = t
      ∧ (batauxSensed t d).bchg.state = d.bchg.state ∧ (batauxSensed t d).bchg.hotHold = d.bchg.hotHold := by
  unfold batauxSensed
  simp only [follow_low_frame _ _ two_pos]
  exact ⟨rfl, rfl, rfl, rfl, rfl⟩

/-- Without a temperature the charger leaves for TRICKLE, unless it is in no phase that needs one (R245). -/
theorem batauxTemp_none (d : Device) :
    batauxTemp none d = bchgTrickle (batauxSensed none d)
      ∨ (batauxTemp none d = batauxSensed none d ∧ (batauxSensed none d).bchg.state ≠ .fast
        ∧ (batauxSensed none d).bchg.state ≠ .precharge ∧ (batauxSensed none d).bchg.state ≠ .waitTemp) := by
  simp only [batauxTemp, ite_self]
  split
  · exact .inl rfl
  · exact .inl rfl
  · exact .inl rfl
  · next hp hf hw => exact .inr ⟨rfl, hf, hp, hw⟩

theorem batauxTemp_none_frame (d : Device) :
    (batauxTemp none d).bchg.temp = none ∧ (batauxTemp none d).hasFault .batauxTsense (.backup 0) 0
      ∧ (batauxTemp none d).bchg.state ≠ .fast ∧ (batauxTemp none d).bchg.state ≠ .precharge
      ∧ (batauxTemp none d).bchg.state ≠ .waitTemp := by
  obtain ⟨-, -, htemp, -, -⟩ := batauxSensed_frame none d
  have hfault : (batauxSensed none d).hasFault .batauxTsense (.backup 0) 0 := raise_hasFault _ _ _ _ (by decide)
  obtain h | ⟨h, hne⟩ := batauxTemp_none d
  · rw [h, bchgTrickle_state]
    exact ⟨htemp, hfault, by decide, by decide, by decide⟩
  · rw [h]
    exact ⟨htemp, hfault, hne⟩

/-- A temperature sets the hold at BCHG_T_MAX and takes it back 5 K below (R248). -/
theorem batauxTemp_some (v : Rat) {d : Device} (hf : d.forcedAt 0x0904 = false) :
    batauxTemp (some v) d =
      let y := batauxSensed (some v) d
      if (Cfg.bchgTMax d.cfg : Rat) ≤ v then raise .batauxHot (.backup 0) 0 (y.onCharger fun x => { x with hotHold := true })
      else if v < (Cfg.bchgTMax d.cfg : Rat) - 5 then
        clearFault .batauxHot (.backup 0) (y.onCharger fun x => { x with hotHold := false })
      else y := by
  obtain ⟨-, hod, -⟩ := batauxSensed_frame (some v) d
  have hcfg : d.cfg = (batauxSensed (some v) d).cfg := congrArg ObjDict.inBeat hod.symm
  rw [hcfg]
  simp only [batauxTemp, hf, Bool.false_eq_true, if_false]
  rfl

theorem batauxTemp_some_frame (v : Rat) {d : Device} (hf : d.forcedAt 0x0904 = false) :
    (batauxTemp (some v) d).ctl = d.ctl ∧ (batauxTemp (some v) d).bchg.temp = some v
      ∧ (batauxTemp (some v) d).bchg.state = d.bchg.state := by
  obtain ⟨hctl, -, htemp, hstate, -⟩ := batauxSensed_frame (some v) d
  have hraise (x : Device) := raise_ctl .batauxHot (.backup 0) 0 x (by decide) (by simp)
  rw [batauxTemp_some v hf]
  dsimp only
  split
  · rw [hraise, (raise_low_chargers _ _ two_pos _).2]
    exact ⟨hctl, htemp, hstate⟩
  · split
    · simp only [clearFault_frame]
      exact ⟨hctl, htemp, hstate⟩
    · exact ⟨hctl, htemp, hstate⟩

theorem batauxTemp_hot {v : Rat} {d : Device} (hf : d.forcedAt 0x0904 = false) (hv : (Cfg.bchgTMax d.cfg : Rat) ≤ v) :
    (batauxTemp (some v) d).bchg.hotHold = true ∧ (batauxTemp (some v) d).hasFault .batauxHot (.backup 0) 0 := by
  rw [batauxTemp_some v hf]
  dsimp only
  rw [if_pos hv, (raise_low_chargers _ _ two_pos _).2]
  exact ⟨rfl, raise_hasFault _ _ _ _ (by decide)⟩

theorem batauxTemp_between {v : Rat} {d : Device} (hf : d.forcedAt 0x0904 = false)
    (hlo : (Cfg.bchgTMax d.cfg : Rat) - 5 ≤ v) (hhi : v < (Cfg.bchgTMax d.cfg : Rat)) :
    (batauxTemp (some v) d).bchg.hotHold = d.bchg.hotHold := by
  obtain ⟨-, -, -, -, hhot⟩ := batauxSensed_frame (some v) d
  rw [batauxTemp_some v hf]
  dsimp only
  rw [if_neg (not_le.mpr hhi), if_neg (not_lt.mpr hlo), hhot]

theorem batauxTemp_cool {v : Rat} {d : Device} (hf : d.forcedAt 0x0904 = false)
    (hv : v < (Cfg.bchgTMax d.cfg : Rat) - 5) : (batauxTemp (some v) d).bchg.hotHold = false := by
  have hhi : v < (Cfg.bchgTMax d.cfg : Rat) := by linarith
  rw [batauxTemp_some v hf]
  dsimp only
  rw [if_neg (not_le.mpr hhi), if_pos hv]
  simp [Device.onCharger]

/-! ## The ends of FAST and the charger's stops (R247, R249-R251) -/

/-- 30 min of PRECHARGE (Table 9.4). -/
theorem batauxDead_frame (d : Device) :
    let x := raise .batauxDead (.backup 0) 0 (bchgStopped d)
    x.bchg.state = .stopped ∧ x.bchg.current = 0 ∧ x.hasFault .batauxDead (.backup 0) 0 ∧ x.ctl = d.ctl := by
  have hbchg := (raise_low_chargers .batauxDead (.backup 0) two_pos (bchgStopped d)).2
  have hctl := raise_ctl .batauxDead (.backup 0) 0 (bchgStopped d) (by decide) (by simp)
  exact ⟨congrArg BackupCharger.state hbchg, congrArg BackupCharger.current hbchg, raise_hasFault _ _ _ _ (by decide), hctl⟩

/-- Condition 1 of R247, once armed and with a window's mean and peak. -/
theorem Device.fastEnded_dv_iff {m p : Rat} {d : Device} (ha : d.bchg.dvArmed) (hm : d.bchg.vMean = some m)
    (hp : d.bchg.vPeak = some p) : d.fastEnded .dv ↔ 18 * (Cfg.bchgDvCell d.cfg : Rat) / 1000 ≤ p - m := by
  simp [Device.fastEnded, ha, hm, hp]

theorem Device.fastEnded_unarmed {d : Device} (ha : d.bchg.dvArmed = false) :
    d.fastEnded .dv = false ∧ d.fastEnded .dtdt = false := by
  simp [Device.fastEnded, ha]

/-- A timer's expiry stops the charger with its record (R250, Table 9.11). -/
theorem bchgExpire_frame (cause : Nat) (e : Bool) (d : Device) :
    (bchgExpire cause e d).bchg.state = .stopped ∧ (bchgExpire cause e d).bchg.recCause = cause
      ∧ (bchgExpire cause e d).hasFault .chgtime (.backup 0) 0 ∧ (bchgExpire cause e d).ctl = d.ctl
      ∧ (bchgExpire cause e d).bchg.late = if e then (d.bchg.late + 1) % 2 ^ 16 else d.bchg.late := by
  unfold bchgExpire
  extract_lets x y
  have hbchg := (raise_low_chargers .chgtime (.backup 0) two_pos y).2
  have hctl := raise_ctl .chgtime (.backup 0) 0 y (by decide) (by simp)
  rw [hbchg, hctl]
  exact ⟨rfl, rfl, raise_hasFault _ _ _ _ (by decide), rfl, rfl⟩

/-- A removed battery: the charger is LOST and the backup path open (R251). -/
theorem batauxLost_frame (d : Device) :
    (batauxLost d).bchg.state = .lost ∧ (batauxLost d).bchg.present = false
      ∧ (batauxLost d).supply.backup.diodeOn = false ∧ (batauxLost d).supply.backup.cause = 4
      ∧ (batauxLost d).hasFault .batauxLost (.backup 0) 0 ∧ (batauxLost d).ctl = d.ctl := by
  unfold batauxLost
  extract_lets x
  rw [(raise_low_chargers _ _ two_pos _).2, (raise_low _ _ two_pos _).2, raise_ctl _ _ _ _ (by decide) (by simp)]
  exact ⟨rfl, rfl, rfl, rfl, raise_hasFault _ _ _ _ (by decide), rfl⟩

/-- Outside charging the battery is removed where M27 has been below 9 V for 100 ms (R251). -/
theorem Device.batauxRemoved_output_off {d : Device} (h : d.bchg.current = 0) :
    d.batauxRemoved = (decide (d.fineVal 27 < 9) && d.held .batauxGone (ms 100)) :=
  if_neg (by simp [Device.bchgOn, h])

/-! ## BCHG_CMD (R246, R252) -/

theorem bchgForce_starts {d : Device} (hs : d.bchg.state = .trickle) :
    bchgForce d = (Abort.ok, bchgFast (wdRefresh d)) := by
  simp only [bchgForce, hs]

theorem bchgForce_refused {d : Device} (hs : d.bchg.state = .stopped ∨ d.bchg.state = .lost) :
    bchgForce d = (Abort.state, d) := by
  obtain hs | hs := hs <;> simp only [bchgForce, hs]

/-- The forced start refreshes the watchdog, so that FAST begins where the temperature allows it (R242, R246). -/
theorem bchgFast_wdRefresh {x : Rat} {d : Device} (ht : d.bchg.temp = some x) (h5 : 5 ≤ x) (h40 : x ≤ 40) :
    (bchgFast (wdRefresh d)).bchg.state = .fast ∧ (bchgFast (wdRefresh d)).chg.fallback = false
      ∧ (bchgFast (wdRefresh d)).ctl = d.ctl := by
  obtain ⟨hctl, hbchg, hfallback⟩ := wdRefresh_frame d
  rw [bchgFast_starts hfallback (by rw [hbchg, ht]) h5 h40]
  exact ⟨rfl, hfallback, hctl⟩

theorem bchgRearm_refused {d : Device} (hp : d.bchg.present = false) : bchgRearm d = (Abort.state, d) :=
  if_pos (by simp [hp])

/-- What BCHG_CMD 0x03 makes of a charger that has stopped: its faults cleared, its state OFF and its timers at 0 (R252). -/
def bchgCleared (d : Device) : Device :=
  ((wdRefresh d).each [.batauxLost, .batauxDead, .chgtime] fun f => clearFault f (.backup 0)).onCharger fun x => { x with
    state := .off, safetyRun := 0, ceilRun := 0, endCause := 0 }

theorem bchgCleared_frame (d : Device) : (bchgCleared d).ctl = d.ctl ∧ (bchgCleared d).bchg.state = .off :=
  ⟨(Device.each_keeps (·.ctl) _ (fun _ _ => by simp) _ _).trans (wdRefresh_frame d).1, rfl⟩

/-- A stopped charger with its battery present starts again where charging is allowed and enabled (R252). -/
theorem bchgRearm_restarts {d : Device} (hp : d.bchg.present) (hs : d.bchg.state = .stopped) :
    bchgRearm d = (Abort.ok, if (bchgCleared d).bchgAllowed && Cfg.bchgEnable (bchgCleared d).cfg then
      bchgStart (bchgCleared d) else bchgCleared d) := by
  obtain ⟨-, hbchg, -⟩ := wdRefresh_frame d
  have hstopped : (wdRefresh d).bchg.state = .stopped := by rw [hbchg, hs]
  unfold bchgRearm
  rw [if_neg (by simp [hp])]
  simp only [hstopped]
  rfl

/-- The charger leaves STOPPED, whether it starts or stays OFF. -/
theorem bchgRearm_stopped {d : Device} (hp : d.bchg.present) (hs : d.bchg.state = .stopped) :
    (bchgRearm d).1 = Abort.ok ∧ (bchgRearm d).2.ctl = d.ctl ∧ (bchgRearm d).2.bchg.state ≠ .stopped := by
  obtain ⟨hctl, hoff⟩ := bchgCleared_frame d
  obtain ⟨hstart, hne⟩ := bchgStart_frame (bchgCleared d)
  rw [bchgRearm_restarts hp hs]
  refine ⟨rfl, ?_⟩
  dsimp only
  split
  · exact ⟨hstart.trans hctl, hne⟩
  · exact ⟨hctl, by simp [hoff]⟩

end Sys2Proof.Machine

/-! ## The statements -/

open Sys2Proof Sys2Proof.Machine

/-- Settles O30: each command and event is its branch; what a start, a lock of the PLL and a restart leave is said by the lemmas
about them. -/
theorem tractionCharge : Obligations.TractionCharge := by
  unfold Obligations.TractionCharge
  refine ⟨
    fun q s ht hc hr hs hg => congrArg Host.Outcome.next (hostWrite_rwCmd
      (g := Device.onChg fun x => { x with state := .gridCheck, commanded := true, ending := none }) ht
      (chgStart_waits hc hr hs hg)),
    fun q s ht hc hr hs hg hl => ?starts,
    fun q s ht h => congrArg Host.Outcome.next (hostWrite_rwCmd_refused ht (chgStart_refused h)),
    fun q s ht h => congrArg Host.Outcome.next (hostWrite_rwCmd
      (g := Device.onChg fun x => { x with ending := some false }) ht (chgStop_ramps h)),
    fun q s ht => ?rearm,
    fun f s h0 hn => ⟨s.onDev (gridUpdate f), next_unless_off _ h0, rfl, rfl, gridUpdate_dev f s.dev, gridUpdate_chg f hn⟩,
    fun f s h => congrArg Host.Outcome.next (if_pos h), fun s h0 ha hh hs hc hl hr => ?accepted,
    fun s h0 ha hh hs => (congrArg Host.Outcome.next (if_pos ⟨h0, ha, hh⟩)).trans (next_onDev (gridAccept_idle hs)),
    fun s h => ?notAccepted,
    fun c s hw hf hh => congrArg Host.Outcome.next (if_pos ⟨hw, Bool.or_eq_true_iff.mpr (.inl hf), hh⟩),
    fun c s hw => congrArg Host.Outcome.next (if_neg fun h => Bool.eq_false_iff.mp hw h.1),
    fun s hv hi => congrArg Host.Outcome.next
      (if_neg fun ⟨_, hb, _⟩ => Bool.eq_false_iff.mp (gridBad_uv_at_limit hv hi) hb),
    fun s hs h1 ht hr he hl => ⟨s.onDev pllLocked, congrArg Host.Outcome.next (if_pos ⟨hs, h1, ht⟩), rfl, rfl,
      pllLocked_switches hr he hl⟩,
    fun s hs h1 ht h => (congrArg Host.Outcome.next (if_pos ⟨hs, h1, ht⟩)).trans (next_onDev (pllLocked_waits h)),
    fun s h => ?notLocked,
    fun late s hs hl ht => congrArg Host.Outcome.next (if_pos ⟨hs, by simp [hl], ht⟩), fun late s h => ?noTimeout,
    fun s hs hc ha hh ht hr hi hn => ?restart,
    fun s hs hc ha hh ht hr hn => ⟨s.onDev gridRestart, exec_gridRestart hs hc ha hh ht hr, gridRestart_locks_out hn⟩,
    fun s hs => congrArg Host.Outcome.next (if_neg fun h => hs h.1),
    fun s hs he hi hh hn => congrArg Host.Outcome.next
      (if_pos ⟨s.dev.chargeDone_iff.mpr ⟨hs, he, hi⟩, hh, Option.isNone_iff_eq_none.mpr hn⟩),
    fun s h => ?notDone,
    fun s hr hc hi hh => congrArg Host.Outcome.next (if_pos ⟨Device.tbatGone_of_current hr hc hi, hh⟩),
    fun s hc => congrArg Host.Outcome.next (if_neg fun h => Bool.eq_false_iff.mp (Device.tbatGone_low_command hc) h.1)⟩
  case starts =>
    refine ⟨_, congrArg Host.Outcome.next (hostWrite_rwCmd
      (g := fun d => chargeSync (d.onChg fun x => { x with state := .gridCheck, commanded := true, ending := none })) ht
      (chgStart_syncs hc hr hs hg hl)), rfl, rfl, ?_⟩
    simp only [State.onDev_dev, answer_frame, pushLive_ctl, pushLive_chg, chargeSync_ctl, chargeSync_chg]
    exact ⟨rfl, rfl⟩
  case rearm =>
    obtain ⟨hctl, hbchg, hlocked, hcomplete⟩ := chgRearm_frame (touchPath q s.dev)
    refine ⟨_, congrArg Host.Outcome.next (hostWrite_rwCmd (g := fun d => (chgRearm d).2) ht rfl), rfl, rfl, ?_⟩
    simp only [State.onDev_dev, answer_frame, pushLive_ctl, pushLive_chg, pushLive_bchg]
    exact ⟨hctl, hlocked, hcomplete, hbchg⟩
  case accepted =>
    refine ⟨s.onDev gridAccept, congrArg Host.Outcome.next (if_pos ⟨h0, ha, hh⟩), rfl, rfl, ?_⟩
    rw [State.onDev_dev, gridAccept_syncs hs hc hl hr, chargeSync_ctl, chargeSync_chg]
    exact ⟨rfl, rfl⟩
  case notAccepted =>
    refine congrArg Host.Outcome.next (if_neg fun ⟨_, ha, hh⟩ => ?_)
    exact h.elim (Bool.eq_false_iff.mp · ha) (Bool.eq_false_iff.mp · hh)
  case notLocked =>
    refine congrArg Host.Outcome.next (if_neg fun ⟨hs, _, ht⟩ => ?_)
    exact h.elim (· hs) (Nat.not_lt.mpr ht)
  case noTimeout =>
    refine congrArg Host.Outcome.next (if_neg fun ⟨_, hl, ht⟩ => ?_)
    exact h.elim (fun hp => by simp [hp] at hl) (Nat.not_lt.mpr ht)
  case restart =>
    obtain ⟨hctl, hsync, hmem⟩ := gridRestart_syncs hi hn
    exact ⟨s.onDev gridRestart, exec_gridRestart hs hc ha hh ht hr, rfl, rfl, hctl, hsync, hmem⟩
  case notDone =>
    refine congrArg Host.Outcome.next (if_neg fun ⟨hd, _, _⟩ => ?_)
    obtain ⟨hs, he, -⟩ := s.dev.chargeDone_iff.mp hd
    exact h.elim he (· hs)

/-- Settles O31: every refresh is one write, and an expiry that does not lose to a refresh is the fallback of `wdExpire_frame`. -/
theorem hostWatchdog : Obligations.HostWatchdog := by
  unfold Obligations.HostWatchdog
  refine ⟨
    fun q v s ht => congrArg Host.Outcome.next (hostWrite_devCmd
      (f := fun d => if v.toNat < 256 then cmdWdRefresh d else (Abort.range, d)) (g := wdRefresh) ht (if_pos v.isLt)),
    fun q v s ht h => congrArg Host.Outcome.next (hostWrite_devCmd (f := cmdChgISet v.toNat)
      (g := fun d => wdRefresh (pushLive 0x290002 v.toNat d)) ht (cmdChgISet_taken _ h)),
    fun q v s ht h => congrArg Host.Outcome.next
      (hostWrite_devCmd_refused (f := cmdChgISet v.toNat) ht (cmdChgISet_refused _ h)),
    fun q v s ht h1 h2 => congrArg Host.Outcome.next (hostWrite_devCmd (f := cmdChgVSet v.toNat)
      (g := fun d => wdRefresh (pushLive 0x290003 v.toNat d)) ht (cmdChgVSet_taken _ h1 h2)),
    fun q v s ht h => congrArg Host.Outcome.next
      (hostWrite_devCmd_refused (f := cmdChgVSet v.toNat) ht (cmdChgVSet_refused _ h)),
    fun s h0 ht => ⟨s.onDev (wdExpired none), exec_chgWdExpired none h0 ht, rfl, rfl, wdExpire_frame s.dev⟩,
    fun s h0 ht => ?discards, fun s h0 ht => exec_chgWdExpired (some true) h0 ht, fun r s ht hf => ?running⟩
  case discards =>
    obtain ⟨hfallback, -, -, -, -, hlate⟩ := wdExpire_frame (s.dev.onChg fun x => { x with wdLate := addWrap 16 x.wdLate 1 })
    exact ⟨s.onDev (wdExpired (some false)), exec_chgWdExpired (some false) h0 ht, hfallback, hlate⟩
  case running =>
    refine congrArg Host.Outcome.next (if_neg fun ⟨_, h⟩ => ?_)
    exact h.elim (Nat.not_le.mpr ht) (Bool.eq_false_iff.mp hf)

/-- Settles O32: each event and command is its branch; what a temperature, a stop, an expiry and a command leave is said by the
lemmas about them. -/
theorem backupCharger : Obligations.BackupCharger := by
  unfold Obligations.BackupCharger
  refine ⟨fun s h0 => ?noTemp, fun x s h0 hf => ?temp,
    fun x s h0 hf => ⟨s.onDev (batauxTemp (some (ntcTemp x))), next_unless_off _ h0, batauxTemp_between hf,
      batauxTemp_cool hf⟩,
    fun s hs ht => ⟨_, congrArg Host.Outcome.next (if_pos ⟨hs, .inl ht⟩), rfl, rfl, batauxDead_frame s.dev⟩,
    fun s hs => congrArg Host.Outcome.next (if_neg fun h => hs h.1),
    fun x s hs hf ht h5 h40 hv hh => (exec_bchgRestartFast hs hf hv hh).trans (next_onDev (bchgFast_starts hf ht h5 h40)),
    fun x s hs hf ht hx hv hh => (exec_bchgRestartFast hs hf hv hh).trans (next_onDev (bchgFast_waits hf ht hx)),
    fun s h => ?noRestart, fun s hs ht => congrArg Host.Outcome.next (if_pos ⟨hs, ht⟩),
    fun s hs => congrArg Host.Outcome.next (if_neg fun h => hs h.1), fun m p s ha hm hp => Device.fastEnded_dv_iff ha hm hp,
    fun c s hs hc => ⟨s.onDev fun d => bchgTrickle (bchgRecord (fastEndCode c) d),
      congrArg Host.Outcome.next (if_pos ⟨hs, hc⟩), rfl, rfl, rfl, rfl, rfl, rfl⟩,
    fun s ha => ?unarmed,
    fun e s hs ht => ⟨s.onDev (bchgExpire 4 e), congrArg Host.Outcome.next (if_pos ⟨hs, .inr ht⟩), rfl, rfl,
      bchgExpire_frame 4 e s.dev⟩,
    fun e s hs ht => ⟨s.onDev (bchgExpire 5 e), congrArg Host.Outcome.next (if_pos ⟨hs, .inr ht⟩), rfl, rfl,
      bchgExpire_frame 5 e s.dev⟩,
    fun e s hs => ⟨congrArg Host.Outcome.next (if_neg fun h => hs h.1), congrArg Host.Outcome.next (if_neg fun h => hs h.1)⟩,
    fun s h0 hp hr => ⟨s.onDev batauxLost, congrArg Host.Outcome.next (if_pos ⟨h0, hp, .inl hr⟩), rfl, rfl,
      batauxLost_frame s.dev⟩,
    fun s hc hv hh => ?removed, fun s hc hv hf => ?stays,
    fun s h0 hp hv hh => congrArg Host.Outcome.next (if_pos ⟨h0, by simp [hp], hv, hh⟩), fun s h => ?noPresent,
    fun q x s ht hs hx h5 h40 => ?forced,
    fun q s ht hs => congrArg Host.Outcome.next (hostWrite_rwCmd_refused ht (bchgForce_refused hs)),
    fun q s ht hp => congrArg Host.Outcome.next (hostWrite_rwCmd_refused ht (bchgRearm_refused hp)),
    fun q s ht hp hs => ?rearmed, fun flt s h0 => next_unless_off _ h0, fun flt s h => congrArg Host.Outcome.next (if_pos h),
    fun flt s ho ht => congrArg Host.Outcome.next (if_pos ⟨ho, ht⟩),
    fun flt s ho ht => congrArg Host.Outcome.next (if_pos ⟨ho, ht⟩), fun flt still s h => ?noRetry,
    fun s ht => congrArg Host.Outcome.next (if_pos ht), fun s ht => congrArg Host.Outcome.next (if_neg (Nat.not_le.mpr ht))⟩
  case noTemp => exact ⟨s.onDev (batauxTemp none), next_unless_off _ h0, rfl, rfl, batauxTemp_none_frame s.dev⟩
  case temp =>
    obtain ⟨hctl, htemp, hstate⟩ := batauxTemp_some_frame (ntcTemp x) hf
    exact ⟨s.onDev (batauxTemp (some (ntcTemp x))), next_unless_off _ h0, rfl, rfl, htemp, hstate, hctl, batauxTemp_hot hf⟩
  case noRestart =>
    refine congrArg Host.Outcome.next (if_neg fun ⟨hl, hn, _⟩ => ?_)
    obtain hf | hs := h
    · simp [hf] at hn
    · simp [Device.trickleLow, hs] at hl
  case unarmed =>
    obtain ⟨hdv, hdtdt⟩ := Device.fastEnded_unarmed ha
    exact ⟨congrArg Host.Outcome.next (if_neg fun h => Bool.eq_false_iff.mp hdv h.2),
      congrArg Host.Outcome.next (if_neg fun h => Bool.eq_false_iff.mp hdtdt h.2)⟩
  case removed =>
    rw [Device.batauxRemoved_output_off hc]
    exact Bool.and_eq_true_iff.mpr ⟨decide_eq_true hv, hh⟩
  case stays =>
    refine congrArg Host.Outcome.next (if_neg fun ⟨_, _, h⟩ => ?_)
    rw [Device.batauxRemoved_output_off hc, decide_eq_false (not_lt.mpr hv)] at h
    exact h.elim (by simp) (Bool.eq_false_iff.mp hf)
  case noPresent =>
    refine congrArg Host.Outcome.next (if_neg fun ⟨_, hn, hv, _⟩ => ?_)
    exact h.elim (fun hp => by simp [hp] at hn) (not_lt.mpr hv)
  case forced =>
    obtain ⟨hfast, hfallback, hctl⟩ := bchgFast_wdRefresh (d := touchPath q s.dev) hx h5 h40
    refine ⟨_, congrArg Host.Outcome.next
      (hostWrite_rwCmd (g := fun d => bchgFast (wdRefresh d)) ht (bchgForce_starts hs)), rfl, rfl, ?_⟩
    simp only [State.onDev_dev, answer_frame, pushLive_ctl, pushLive_chg, pushLive_bchg]
    exact ⟨hfast, hfallback, hctl⟩
  case rearmed =>
    obtain ⟨hok, hctl, hne⟩ := bchgRearm_stopped (d := touchPath q s.dev) hp hs
    refine ⟨_, congrArg Host.Outcome.next
      (hostWrite_rwCmd (g := fun d => (bchgRearm d).2) ht (Prod.ext hok rfl)), rfl, rfl, ?_⟩
    simp only [State.onDev_dev, answer_frame, pushLive_ctl, pushLive_bchg]
    exact ⟨hctl, hne⟩
  case noRetry =>
    refine congrArg Host.Outcome.next (if_neg fun ⟨ho, ht⟩ => ?_)
    exact h.elim (Bool.eq_false_iff.mp · ho) (Nat.not_lt.mpr ht)

end

section
/-!
PROOFS of the statements about the gearbox actuators (chapter 10): the drives with their commands, stalls and timeouts, the
steps of a shift, the thermal account and the commutation.
-/

namespace Sys2Proof.Machine

/-! ## Updates of a drive -/

/-- An update of a drive that exists shows in it. -/
theorem Device.onAct_act {n : Nat} {d : Device} (f : Actuator → Actuator) (h : n < d.acts.length) :
    (d.onAct n f).act n = f (d.act n) := by
  simp [Device.onAct, Device.act, h]

@[simp] theorem Device.onAct_acts_length (n : Nat) (f : Actuator → Actuator) (d : Device) :
    (d.onAct n f).acts.length = d.acts.length := List.length_modify ..

/-- The same where a free value was drawn first. -/
theorem Device.draw_onAct_act {n : Nat} {d : Device} (f : Actuator → Actuator) (h : n < d.acts.length) :
    (d.draw.onAct n f).act n = f (d.act n) := Device.onAct_act (d := d.draw) f h

theorem Device.act_of_acts {d d' : Device} (h : d'.acts = d.acts) (n : Nat) : d'.act n = d.act n := by
  simp only [Device.act, h]

/-- What an update does is what it makes of the drive as it stands. -/
theorem Device.onAct_congr {n : Nat} {d : Device} {f g : Actuator → Actuator} (h : f (d.act n) = g (d.act n)) :
    d.onAct n f = d.onAct n g := by
  have hacts : d.acts.modify n f = d.acts.modify n g := by
    refine List.ext_getElem? fun k => ?_
    rw [List.getElem?_modify, List.getElem?_modify]
    by_cases hk : n = k
    · subst hk
      cases hx : d.acts[n]? with
      | none => rfl
      | some x => simpa [Device.act, hx] using h
    · simp [hk]
  simp only [Device.onAct, hacts]

theorem Device.hasFault_of_faults {d d' : Device} (h : d'.faults = d.faults) {f : FaultName} {sc : Scope} {r : Nat}
    (hf : d.hasFault f sc r) : d'.hasFault f sc r := by
  unfold Device.hasFault
  rwa [h]

theorem Device.forkPort_of_od {d d' : Device} (h : d'.od = d.od) (n : Nat) : d'.forkPort n = d.forkPort n := by
  simp only [Device.forkPort, Device.cfg, h]

@[simp] theorem lateMisc_drives (late : Bool) (d : Device) (n : Nat) (p : PortId) :
    (lateMisc late d).act n = d.act n ∧ (lateMisc late d).port p = d.port p := by
  cases late <;> exact ⟨rfl, rfl⟩

/-! ## A drive that turns off, and reports on it (R260, R261) -/

theorem actRelease_act {n : Nat} {d : Device} (h : n < d.acts.length) :
    (actRelease n d).act n = { d.act n with iRef := 0, duty := 0 } := by
  have hacts : (d.each (actChans n) (issueChan false)).acts = d.acts := by simp
  rw [actRelease, Device.onAct_act _ (by rwa [hacts]), Device.act_of_acts hacts]

@[simp] theorem actRelease_acts_length (n : Nat) (d : Device) : (actRelease n d).acts.length = d.acts.length := by
  simp [actRelease]

@[simp] theorem actOff_acts_length (n : Nat) (d : Device) : (actOff n d).acts.length = d.acts.length := by
  simp [actOff]

/-- A drive that turns off has no current, no command, and a running operation has failed. -/
theorem actOff_act {n : Nat} {d : Device} (h : n < d.acts.length) :
    ((actOff n d).act n).iRef = 0 ∧ ((actOff n d).act n).cmd = none
      ∧ ((actOff n d).act n).op = if (d.act n).op = .idle then .idle else .failed := by
  rw [actOff, Device.onAct_act _ (by simpa using h), actRelease_act h]
  exact ⟨rfl, rfl, rfl⟩

/-- A report touches the drives only by the reaction that it starts, and starts one where the fault is new. -/
theorem raise_acts_cases (f : FaultName) (sc : Scope) (r : Nat) (d : Device) :
    (∃ x : Device, x.acts = d.acts ∧ (raise f sc r d).acts = (reactOne f.latched (sc, r) x).acts)
      ∨ ((raise f sc r d).acts = d.acts ∧ d.activeAt f sc = true) := by
  have hbrake (l : List (Scope × Nat)) (x : Device) : (brakeHit f l x).acts = x.acts := by simp
  simp only [raise, raiseActs, injHit_entry, Device.activeAt]
  split
  · next e he =>
    split
    · simp only [List.filter_cons, List.filter_nil]
      split
      · exact .inl ⟨_, by simp, hbrake ..⟩
      · exact .inr ⟨(hbrake ..).trans (by simp [Device.each]), by rw [he]; rfl⟩
    · exact .inl ⟨_, by simp, hbrake ..⟩
  · exact .inl ⟨_, by simp, hbrake ..⟩

/-- A report below F2 leaves the drives alone. -/
theorem raise_low_acts (f : FaultName) (sc : Scope) {r : Nat} (h : r < 2) (d : Device) : (raise f sc r d).acts = d.acts := by
  obtain ⟨x, hx, he⟩ | ⟨he, -⟩ := raise_acts_cases f sc r d
  · rw [he, reactOne_low_eq_self _ _ h, hx]
  · exact he

/-- F3 on a drive turns it off. -/
theorem reactOne_drive (l : Bool) (n : Nat) (d : Device) :
    reactOne l (.actuator n, 3) d = actOff n (sliceReact (.actuator n, 3) d) := rfl

theorem sliceReact_acts (a : Scope × Nat) (d : Device) : (sliceReact a d).acts = d.acts := by simp

theorem raise_drive_acts_length (f : FaultName) (n : Nat) (d : Device) :
    (raise f (.actuator n) 3 d).acts.length = d.acts.length := by
  obtain ⟨x, hx, he⟩ | ⟨he, -⟩ := raise_acts_cases f (.actuator n) 3 d
  · rw [he, reactOne_drive, actOff_acts_length, sliceReact_acts, hx]
  · rw [he]

/-- A fault of a drive that is new turns the drive off (R24). -/
theorem raise_drive_new {f : FaultName} {n : Nat} {d : Device} (hn : d.activeAt f (.actuator n) = false)
    (h : n < d.acts.length) :
    let x := (raise f (.actuator n) 3 d).act n
    x.iRef = 0 ∧ x.cmd = none ∧ x.op = if (d.act n).op = .idle then .idle else .failed := by
  obtain ⟨x, hx, he⟩ | ⟨-, ha⟩ := raise_acts_cases f (.actuator n) 3 d
  · have hacts : (sliceReact (.actuator n, 3) x).acts = d.acts := (sliceReact_acts _ x).trans hx
    have hoff := actOff_act (n := n) (d := sliceReact (.actuator n, 3) x) (by rwa [hacts])
    rwa [← reactOne_drive f.latched, ← Device.act_of_acts he, Device.act_of_acts hacts] at hoff
  · simp [hn] at ha

/-! ## Hall edges (R257) -/

/-- The codes 0 and 7 are no Hall codes: the drive is read as bad from the first of them on. -/
theorem hallEdge_invalid (n : Nat) {h : Fin 8} (hh : h = 0 ∨ h = 7) (d : Device) :
    hallEdge n h d = d.onAct n fun x => { x with
      hall := h, hallOkFrom := none, hallBadSince := some (x.hallBadSince.getD d.now) } := by
  have hi : hallIndex h = none := by obtain rfl | rfl := hh <;> rfl
  simp only [hallEdge, hi]

/-- What a valid Hall edge by less than two positions makes of a drive. -/
def Actuator.stepped (h : Nat) (k : Int) (now : Nanos) (x : Actuator) : Actuator :=
  { x with
    hall := h, hallLast := h, pos := wrap32 (x.pos + k), lastEdge := now, hallBadSince := none
    stored := x.stored.map fun _ => wrap32 (x.pos + k), hallOkFrom := some (x.hallOkFrom.getD now) }

theorem hallArrive_at_rest {n : Nat} {d : Device} (h : (d.act n).op = .idle ∨ (d.act n).op = .holding) :
    hallArrive n d = d := by
  obtain h | h := h <;> simp only [hallArrive, h]

/-- A valid edge by one position of a drive without an operation: the position steps, and the drive commutates. -/
theorem hallEdge_step {n h i j : Nat} {k : Int} {d : Device} (hi : hallIndex (d.act n).hallLast = some i)
    (hj : hallIndex h = some j) (hk : ∀ free, hallSteps free i j = k) (h1 : k.natAbs < 2) (hl : n < d.acts.length)
    (hb : (d.act n).busy = false) (ho : (d.act n).op = .idle ∨ (d.act n).op = .holding) :
    hallEdge n h d = commutate n (d.draw.onAct n (Actuator.stepped h k d.now)) := by
  have hx : (d.draw.onAct n (Actuator.stepped h k d.now)).act n = (d.act n).stepped h k d.now := Device.draw_onAct_act _ hl
  have hbusy : ((d.act n).stepped h k d.now).busy = false := hb
  unfold hallEdge
  simp only [hj, hi, hk, decide_eq_false (Nat.not_le.mpr h1), Bool.false_and, Bool.false_eq_true, if_false]
  change (if 4 ≤ ((d.draw.onAct n (Actuator.stepped h k d.now)).act n).skipsOp
      ∧ ((d.draw.onAct n (Actuator.stepped h k d.now)).act n).busy then _ else
    commutate n (hallArrive n (d.draw.onAct n (Actuator.stepped h k d.now)))) = _
  rw [hx, hbusy, if_neg (by simp), hallArrive_at_rest (by rwa [hx])]

/-- Commutation touches the gate channels alone. -/
theorem commutate_acts (n : Nat) (d : Device) : (commutate n d).acts = d.acts := by
  have hchan (on : Bool) (g : Nat) (x : Device) : (issueChan on g x).acts = x.acts := by simp
  simp only [commutate]
  split
  · rfl
  · split
    · rfl
    · refine (hchan ..).trans (Device.each_keeps (·.acts) _ (fun ph x => ?_) _ _)
      split <;> split <;> simp only [hchan]

theorem commutate_idle {n : Nat} {d : Device} (h : (d.act n).op = .idle) : commutate n d = d :=
  if_pos (by simp [Actuator.energised, h])

theorem wrap32_of_mem {x : Int} (h : -2147483648 ≤ x) (h' : x ≤ 2147483647) : wrap32 x = x := by
  unfold wrap32
  omega

/-! ## HALL_FAULT and over-current (R257, R260) -/

theorem hallFault_ctl (n : Nat) (d : Device) : (hallFault n d).ctl = d.ctl :=
  raise_ctl _ _ _ _ (by decide) (by simp)

theorem hallFault_hasFault (n : Nat) (d : Device) : (hallFault n d).hasFault .hallFault (.actuator n) 3 :=
  raise_hasFault _ _ _ _ (by decide)

theorem hallFault_act {n : Nat} {d : Device} (h : n < d.acts.length) :
    (hallFault n d).act n =
      { (raise .hallFault (.actuator n) 3 d).act n with homed := false, hallOkFrom := none, stored := none } :=
  Device.onAct_act _ (by rwa [raise_drive_acts_length])

/-! ## Commands (R266) -/

/-- The codes of ACT_CMD: a target, homing, stop. -/
def IsActCode (c : Nat) : Prop := (16 ≤ c ∧ c ≤ 19) ∨ c = 0x20 ∨ c = 0x30

theorem cmdAct_blocked {n c : Nat} {d : Device} (hc : IsActCode c) (h : d.driveBlocked n) : cmdAct n c d = (Abort.state, d) := by
  have hv : ((decide (16 ≤ c) && decide (c ≤ 19)) || c == 0x20 || c == 0x30) = true := by
    simpa [IsActCode, or_assoc] using hc
  simp only [cmdAct, hv, h]
  rfl

theorem cmdAct_stop {n : Nat} {d : Device} (h : d.driveBlocked n = false) :
    cmdAct n 0x30 d = (Abort.ok, d.onAct n fun x => { x with cmd := some 0x30 }) := by
  simp [cmdAct, h]

theorem cmdAct_target_busy {n : Nat} {d : Device} (k : Fin 4) (h : d.driveBlocked n = false) (hb : (d.act n).busy) :
    cmdAct n (16 + k) d = (Abort.state, d.onAct n fun x => { x with cmdBusy := addWrap 8 x.cmdBusy 1 }) := by
  have hk := k.isLt
  simp [cmdAct, h, hb, show 16 + k.val ≤ 19 by omega, show 16 + k.val ≠ 48 by omega]

/-- A drive without a role takes every target once it is homed and cool. -/
theorem cmdAct_target_taken {n : Nat} {d : Device} (k : Fin 4) (h : d.driveBlocked n = false) (hb : (d.act n).busy = false)
    (hh : (d.act n).homed) (ht : (d.act n).therm < 1) (hr : Cfg.actRole d.cfg n = 0) :
    cmdAct n (16 + k) d =
      (Abort.ok, (clearFault .overrun (.stage .act) d).onAct n fun x => { x with cmd := some (16 + k) }) := by
  have hk := k.isLt
  have hrole (j : Nat) : d.roleAllows n j = true := by simp [Device.roleAllows, hr]
  simp [cmdAct, h, hb, hh, not_le.mpr ht, hrole, show 16 + k.val ≤ 19 by omega, show 16 + k.val ≠ 48 by omega,
    show 16 + k.val ≠ 32 by omega]

/-- A drive that is no fork and cool is homed on request. -/
theorem cmdAct_home_taken {n : Nat} {d : Device} (h : d.driveBlocked n = false) (hb : (d.act n).busy = false)
    (ht : (d.act n).therm < 1) (hf : d.forkPort n = none) :
    cmdAct n 0x20 d = (Abort.ok, (clearFault .overrun (.stage .act) d).onAct n fun x => { x with cmd := some 0x20 }) := by
  simp [cmdAct, h, hb, not_le.mpr ht, hf]

theorem Device.forkPort_eq_none {d : Device} {n : Nat} (h1 : Cfg.actRole d.cfg n ≠ 1) (h2 : Cfg.actRole d.cfg n ≠ 2) :
    d.forkPort n = none := by
  unfold Device.forkPort
  split <;> simp_all

/-- A command object's write that is not taken leaves no live write, whatever else it does. -/
theorem rwCmd_of_ne_ok {key v : Nat} {f : Device → W32 × Device} {d d' : Device} {code : W32} (h : f d = (code, d'))
    (hc : code ≠ Abort.ok) : rwCmd key v f d = (code, d') := by
  simp [rwCmd, h, hc]

/-- ACT_CMD of a drive that is blocked is refused (R266). -/
theorem hostWrite_actCmd_blocked {q : Path} {n c : Nat} {s : State} (hc : IsActCode c) (ht : s.dev.takes q .b false)
    (h : s.dev.driveBlocked n) :
    hostWrite q .b false (devCmd (rwCmd (actCmdKey n) c (cmdAct n c))) s =
      s.onDev fun d => answer q Abort.state [] (touchPath q d) :=
  hostWrite_rwCmd_refused ht (cmdAct_blocked hc h)

/-! ## Stalls (R263, R264, R265) -/

theorem Device.actStopped_of_not_pushes {d : Device} {n : Nat} (h : d.actPushes n = false) : d.actStopped n = false := by
  simp [Device.actStopped, h]

theorem actHold_act {n : Nat} {d : Device} (atEnd : Bool) (h : n < d.acts.length) :
    ((actHold atEnd n d).act n).pos = (d.act n).pos ∧ ((actHold atEnd n d).act n).homed = (d.act n).homed
      ∧ ((actHold atEnd n d).act n).shiftBad = (d.act n).shiftBad := by
  rw [actHold, Device.onAct_act _ h]
  exact ⟨rfl, rfl, rfl⟩

/-- An operation that completes leaves the drive holding where it stands. -/
theorem opDone_frame {n : Nat} {d : Device} (h : n < d.acts.length) (hs : (d.act n).shiftBad = false) :
    (opDone n d).ctl = d.ctl ∧ ((opDone n d).act n).op = .holding ∧ ((opDone n d).act n).pos = (d.act n).pos
      ∧ ((opDone n d).act n).homed = (d.act n).homed := by
  unfold opDone
  extract_lets x
  obtain ⟨hpos, hhomed, hbad⟩ := actHold_act (d.act n).goalEnd h
  have hx : x.act n = _ := Device.onAct_act _ (by simpa [actHold] using h)
  have hacts : (clearFault .actTimeout (.actuator n) (clearFault .actStall (.actuator n) x)).acts = x.acts := by simp
  have hctl : x.ctl = d.ctl := rfl
  have hgood : (x.act n).shiftBad = false := by rw [hx]; exact hbad.trans hs
  rw [hgood, if_neg Bool.false_ne_true, Device.act_of_acts hacts, hx]
  exact ⟨by simp [hctl], by simp [hbad, hs], hpos, hhomed⟩

/-- Homing ends at the end stop: the position is HOME_POS (R265). -/
theorem homed_frame {n : Nat} {d : Device} (h : n < d.acts.length) (hs : (d.act n).shiftBad = false) :
    ((homed n d).act n).homed = true ∧ ((homed n d).act n).pos = Cfg.homePos d.cfg n
      ∧ ((homed n d).act n).op = .holding ∧ (homed n d).ctl = d.ctl := by
  unfold homed
  extract_lets x
  have hx : x.act n = { d.act n with pos := Cfg.homePos d.cfg n, homed := true, goalEnd := true } := Device.onAct_act _ h
  obtain ⟨hctl, hop, hpos, hhomed⟩ := opDone_frame (n := n) (d := x) (by simpa [x] using h) (by rw [hx]; exact hs)
  have hacts : (clearFault .hallFault (.actuator n) (opDone n x)).acts = (opDone n x).acts := by simp
  rw [Device.act_of_acts hacts, hop, hpos, hhomed, hx, (clearFault_frame ..).1, hctl]
  exact ⟨rfl, rfl, rfl, rfl⟩

theorem actStallDetect_homing {n : Nat} {d : Device} (h : (d.act n).homing) : actStallDetect n d = homed n d := if_pos h

theorem actStallDetect_free {n : Nat} {d : Device} (hh : (d.act n).homing = false) (hg : (d.act n).goalEnd = false) :
    actStallDetect n d = actStalled n d := by
  simp [actStallDetect, hh, hg]

/-- With a try left the drive backs off, away from its goal (R264). -/
theorem actStalled_backs_off {n : Nat} {d : Device} (hr : (d.act n).retries < Cfg.actRetries d.cfg n)
    (hb : 0 < Cfg.backoff d.cfg n) (hp : (d.act n).pos ≤ (d.act n).goal) :
    actStalled n d = d.onAct n fun x => { x with
      op := .backingOff, retries := x.retries + 1, iRef := 0, lastEdge := d.now
      backTo := x.pos - (Cfg.backoff d.cfg n : Int) } := by
  refine (if_pos hr).trans (Device.onAct_congr ?_)
  simp [hp, Nat.ne_of_gt hb]

/-- Without one it fails with ACT_STALL (R264). -/
theorem actStalled_fails {n : Nat} {d : Device} (h : n < d.acts.length) (hr : Cfg.actRetries d.cfg n ≤ (d.act n).retries) :
    ((actStalled n d).act n).op = .failed ∧ ((actStalled n d).act n).stall = true ∧ ((actStalled n d).act n).iRef = 0
      ∧ (actStalled n d).hasFault .actStall (.actuator n) 0 ∧ (actStalled n d).ctl = d.ctl := by
  unfold actStalled
  extract_lets x
  rw [if_neg (Nat.not_lt.mpr hr), Device.act_of_acts (raise_low_acts _ _ two_pos _),
    Device.onAct_act _ (by simpa using h), actRelease_act h, raise_ctl _ _ _ _ (by decide) (by simp)]
  exact ⟨rfl, rfl, rfl, raise_hasFault _ _ _ _ (by decide), by simp -implicitDefEqProofs⟩

/-- A drive that moves and has stopped against something. -/
theorem exec_actStallDetect {n : Fin 4} {s : State} (ho : (s.dev.act n).op = .moving) (hs : s.dev.actStopped n) :
    exec (.actStallDetect n) s = .next (s.onDev (actStallDetect n)) :=
  congrArg Host.Outcome.next (if_pos ⟨.inl ho, hs⟩)

/-! ## The steps of a shift (R267, R268) -/

@[simp] theorem shiftStep_acts_length (n step : Nat) (d : Device) : (shiftStep n step d).acts.length = d.acts.length :=
  Device.onAct_acts_length ..

theorem shiftStep_act {n : Nat} {d : Device} (step : Nat) (h : n < d.acts.length) :
    (shiftStep n step d).act n = { d.act n with shift := step, stepStart := d.now } := Device.onAct_act _ h

theorem setGoal_act {n : Nat} {d : Device} (k : Nat) (h : n < d.acts.length) :
    ((setGoal n k d).act n).goal = Cfg.targetPos d.cfg n k ∧ ((setGoal n k d).act n).pos = (d.act n).pos
      ∧ ((setGoal n k d).act n).shift = (d.act n).shift ∧ ((setGoal n k d).act n).stepStart = (d.act n).stepStart := by
  rw [setGoal, Device.onAct_act _ h]
  exact ⟨rfl, rfl, rfl, rfl⟩

/-- A move to a place where the drive does not stand sets out for it. -/
theorem startMove_away {n k : Nat} {d : Device} (h : n < d.acts.length) (hp : (d.act n).pos ≠ Cfg.targetPos d.cfg n k) :
    startMove n k d = (setGoal n k d).onAct n fun x => { x with opStart := d.now } := by
  obtain ⟨hgoal, hpos, -, -⟩ := setGoal_act k h
  have hlen : n < (setGoal n k d).acts.length := by simpa [setGoal] using h
  refine if_neg ?_
  rw [Device.onAct_act _ hlen]
  simp [hgoal, hpos, hp]

theorem shiftFail_fork {n r : Nat} {p : PortId} {d : Device} (h : d.forkPort n = some p) :
    shiftFail n r d = raise .shiftFail (.port p) r d := by
  simp only [shiftFail, h]

/-- SHIFT_FAIL of a shift that has failed a step: reported on the fork's port, it touches no drive and no module control. -/
theorem shiftFail_frame {n r : Nat} {p : PortId} {d : Device} (h : d.forkPort n = some p) (hr : r < 2) :
    (shiftFail n r d).hasFault .shiftFail (.port p) r ∧ (shiftFail n r d).acts = d.acts ∧ (shiftFail n r d).ctl = d.ctl
      ∧ (shiftFail n r d).od = d.od := by
  rw [shiftFail_fork h]
  exact ⟨raise_hasFault _ _ _ _ (by decide), raise_low_acts _ _ hr d, raise_ctl _ _ _ _ (by omega) (by simp), by simp⟩

/-- Step 2 that has overrun its time goes on with step 6 (R268). -/
theorem shiftTimeout_dip {n : Nat} {p : PortId} {d : Device} (h2 : (d.act n).shift = 2) (h : n < d.acts.length)
    (hp : d.forkPort n = some p) :
    ((shiftTimeout n d).act n).shift = 6 ∧ (shiftTimeout n d).hasFault .shiftFail (.port p) 0
      ∧ (shiftTimeout n d).ctl = d.ctl := by
  obtain ⟨hfault, hacts, hctl, -⟩ := shiftFail_frame (r := 0) hp two_pos
  simp only [shiftTimeout, h2]
  rw [shiftStep_act _ (by simpa [hacts] using h)]
  exact ⟨rfl, hfault, hctl⟩

/-- A shift that ends in neutral releases the drive, the port's reference and its ceiling (R268). -/
theorem shiftNeutral_frame {n : Nat} {p : PortId} {d : Device} (h : n < d.acts.length) (hp : d.forkPort n = some p) :
    ((shiftNeutral n d).act n).shift = 7 ∧ ((shiftNeutral n d).act n).op = .failed
      ∧ ((shiftNeutral n d).port p).shiftRef = none ∧ ((shiftNeutral n d).port p).shiftCeil = none
      ∧ (shiftNeutral n d).faults = d.faults := by
  unfold shiftNeutral
  extract_lets x
  have hfork : x.forkPort n = some p := (Device.forkPort_of_od (by simp -implicitDefEqProofs [x]) n).trans hp
  have hx : x.act n = { (actRelease n d).act n with
      shift := 7, op := .failed, returning := false, stored := some ((actRelease n d).act n).pos } :=
    Device.onAct_act _ (by simpa using h)
  have hfaults : x.faults = d.faults := by simp -implicitDefEqProofs [x]
  simp only [hfork]
  rw [Device.act_of_acts (Device.onPort_acts ..), hx, Device.onPort_same, Device.onPort_faults]
  exact ⟨rfl, rfl, rfl, rfl, hfaults⟩

/-- Step 4 that has overrun its time ends the shift in neutral with SHIFT_FAIL (R268). -/
theorem shiftTimeout_sync {n : Nat} {p : PortId} {d : Device} (h4 : (d.act n).shift = 4) (h : n < d.acts.length)
    (hp : d.forkPort n = some p) :
    ((shiftTimeout n d).act n).shift = 7 ∧ ((shiftTimeout n d).act n).op = .failed
      ∧ (shiftTimeout n d).hasFault .shiftFail (.port p) 1 ∧ ((shiftTimeout n d).port p).shiftRef = none
      ∧ ((shiftTimeout n d).port p).shiftCeil = none := by
  obtain ⟨hfault, hacts, -, hod⟩ := shiftFail_frame (r := 1) hp one_lt_two
  simp only [shiftTimeout, h4]
  obtain ⟨hshift, hop, href, hceil, hfaults⟩ :=
    shiftNeutral_frame (n := n) (d := shiftFail n 1 d) (by rwa [hacts]) ((Device.forkPort_of_od hod n).trans hp)
  exact ⟨hshift, hop, Device.hasFault_of_faults hfaults hfault, href, hceil⟩

/-- A step that has overrun its time while the shift goes on. -/
theorem exec_shiftStepTimeout {n : Fin 4} {k : Nat} {s : State} (late : Bool) (hk : (s.dev.act n).shift = k) (h2 : 2 ≤ k)
    (h5 : k ≤ 5) (hl : s.dev.shiftLost n = false)
    (ht : (s.dev.act n).stepStart + ms (Cfg.stepTMax s.dev.cfg n k) ≤ s.dev.now) :
    exec (.shiftStepTimeout n late) s = .next (s.onDev fun d => lateMisc late (shiftTimeout n d)) := by
  subst hk
  exact congrArg Host.Outcome.next (if_pos ⟨h2, h5, .inl ht, by simp [hl]⟩)

/-! ## The thermal account (R271) -/

/-- The account after an update of the drive. -/
def Actuator.thermNext (c tau : Nat) (x : Actuator) : Rat := x.therm + (x.meanSq / ((c : Rat) * c) - x.therm) / 100 / (tau : Rat)

/-- Whether the update finds the drive hot: the account has reached 1, or an injection says so (R428). -/
def Device.thermHot (d : Device) (n : Nat) : Bool :=
  decide (1 ≤ (d.act n).thermNext (Cfg.actICont d.cfg n) (Cfg.thTau d.cfg n)) || d.forced 0x0A02 n

/-- The update: the account steps, the sums start again, ACT_HOT follows with its hysteresis. -/
theorem actThermal_eq (n : Nat) (d : Device) :
    actThermal n d =
      let x := d.onAct n fun y => { y with
        therm := (d.act n).thermNext (Cfg.actICont d.cfg n) (Cfg.thTau d.cfg n), hot := d.thermHot n, iSq := 0, iN := 0
        thermAt := some d.now }
      if d.thermHot n then raise .actHot (.actuator n) 0 x
      else if (d.act n).thermNext (Cfg.actICont d.cfg n) (Cfg.thTau d.cfg n) < 9 / 10 then clearFault .actHot (.actuator n) x
      else x := rfl

theorem actThermal_frame {n : Nat} {d : Device} (h : n < d.acts.length) :
    (actThermal n d).ctl = d.ctl ∧ (actThermal n d).act n = { d.act n with
      therm := (d.act n).thermNext (Cfg.actICont d.cfg n) (Cfg.thTau d.cfg n), hot := d.thermHot n, iSq := 0, iN := 0
      thermAt := some d.now } := by
  rw [actThermal_eq]
  extract_lets x
  have hx : x.act n = _ := Device.onAct_act _ h
  have hctl : x.ctl = d.ctl := rfl
  rw [← hx, ← hctl]
  split
  · exact ⟨raise_ctl _ _ _ _ (by decide) (by simp), Device.act_of_acts (raise_low_acts _ _ two_pos _) n⟩
  · split
    · exact ⟨by simp, Device.act_of_acts (by simp) n⟩
    · exact ⟨rfl, rfl⟩

theorem actThermal_hot {n : Nat} {d : Device} (h : d.thermHot n) : (actThermal n d).hasFault .actHot (.actuator n) 0 := by
  rw [actThermal_eq]
  extract_lets x
  rw [if_pos h]
  exact raise_hasFault _ _ _ _ (by decide)

/-! ## Commutation (R258, Table 10.1) -/

theorem hallIndex_eq_none_iff (h : Nat) : hallIndex h = none ↔ ¬ (1 ≤ h ∧ h ≤ 6) := by
  simp only [hallIndex, List.findIdx?_eq_none_iff, List.forall_mem_cons, beq_eq_false_iff_ne]
  simp only [List.not_mem_nil, false_imp_iff, implies_true, and_true]
  omega

/-- The phases of a row of Table 10.1 for forward torque: high side modulated, low side on. -/
def commRow (j : Nat) : Nat × Nat := (j / 2, ([1, 2, 2, 0, 0, 1] : List Nat).getD j 0)

/-- Torque in reverse swaps the phases of the row. -/
theorem commutation_row {h i : Nat} (shift : Nat) (f : Bool) (hi : hallIndex h = some i) :
    commutation h shift f = some (if f then commRow ((i + shift) % 6) else (commRow ((i + shift) % 6)).swap) := by
  simp only [commutation, hi]
  rfl

theorem commRow_distinct : ∀ j < 6, (commRow j).1 < 3 ∧ (commRow j).2 < 3 ∧ (commRow j).1 ≠ (commRow j).2 := by decide

/-- Half a turn on stands the row with the phases swapped. -/
theorem commRow_half_turn : ∀ j < 6, commRow ((j + 3) % 6) = (commRow j).swap := by decide

theorem commutation_isNone_iff (h shift : Nat) (f : Bool) : commutation h shift f = none ↔ ¬ (1 ≤ h ∧ h ≤ 6) := by
  rw [← hallIndex_eq_none_iff]
  cases hi : hallIndex h with
  | none => simp [commutation, hi]
  | some i => simp [commutation_row shift f hi]

theorem commutation_reverse {h hi lo : Nat} {shift : Nat} {f : Bool} (hc : commutation h shift f = some (hi, lo)) :
    commutation h shift (!f) = some (lo, hi) := by
  cases hx : hallIndex h with
  | none => simp [commutation, hx] at hc
  | some i =>
    rw [commutation_row shift _ hx, Option.some_inj] at hc ⊢
    cases f
    · exact (Prod.swap_swap _).symm.trans (congrArg Prod.swap hc)
    · exact congrArg Prod.swap hc

/-- The phases of a code are two different ones. -/
theorem commutation_distinct {h hi lo shift : Nat} {f : Bool} (hc : commutation h shift f = some (hi, lo)) :
    hi < 3 ∧ lo < 3 ∧ hi ≠ lo := by
  cases hx : hallIndex h with
  | none => simp [commutation, hx] at hc
  | some i =>
    obtain ⟨hfst, hsnd, hne⟩ := commRow_distinct _ (Nat.mod_lt (i + shift) (by decide))
    rw [commutation_row shift _ hx, Option.some_inj] at hc
    cases f
    · cases hc
      exact ⟨hsnd, hfst, hne.symm⟩
    · cases hc
      exact ⟨hfst, hsnd, hne⟩

/-- A full turn of the shift changes nothing. -/
theorem commutation_full_turn (h shift : Nat) (f : Bool) : commutation h (shift + 6) f = commutation h shift f := by
  cases hx : hallIndex h with
  | none => simp only [commutation, hx]
  | some i => rw [commutation_row _ _ hx, commutation_row _ _ hx, ← Nat.add_assoc, Nat.add_mod_right]

/-- Half a turn of the shift reverses the torque. -/
theorem commutation_half_turn {h hi lo shift : Nat} {f : Bool} (hc : commutation h shift f = some (hi, lo)) :
    commutation h (shift + 3) f = some (lo, hi) := by
  rw [← commutation_reverse hc]
  cases hx : hallIndex h with
  | none => simp only [commutation, hx]
  | some i =>
    have hrow : commRow ((i + (shift + 3)) % 6) = (commRow ((i + shift) % 6)).swap := by
      rw [← commRow_half_turn _ (Nat.mod_lt _ (by decide)), Nat.mod_add_mod, Nat.add_assoc]
    rw [commutation_row _ _ hx, commutation_row _ _ hx, hrow]
    cases f
    · simp
    · simp

end Sys2Proof.Machine

/-! ## The statements -/

open Sys2Proof Sys2Proof.Machine

/-- Settles O34: each command is its branch; what the start of a move, a step out of time and an update of the account leave is
said by the lemmas about them, and the commutation is a row of Table 10.1. -/
theorem shiftSequence : Obligations.ShiftSequence := by
  unfold Obligations.ShiftSequence
  refine ⟨fun n u s h4 hu ht hn hl hp => ?synced, fun n s hu => ?unsynced, fun n p late s h2 hn hp hl ht => ?dip,
    fun n p late s h4 hn hp hl ht => ?sync, fun n late s hf ht => ?running, fun n s h0 hn hd hc => ?account,
    fun n s hd => congrArg Host.Outcome.next (if_neg (by simp [ms, hd])),
    fun h shift f => commutation_isNone_iff h shift f, fun h shift hi lo f hc => ?phases⟩
  case synced =>
    refine ⟨s.onDev fun d => startMove n (s.dev.act n).gear (shiftStep n 5 d),
      congrArg Host.Outcome.next (if_pos ⟨h4, lasted_of_le hu ht, by simp [hl]⟩), rfl, rfl, ?_⟩
    have hlen : n.val < (shiftStep n 5 s.dev).acts.length := by simpa using hn
    have hstep := shiftStep_act 5 hn
    obtain ⟨hgoal, -, hshift, hstart⟩ := setGoal_act (s.dev.act n).gear hlen
    rw [State.onDev_dev, startMove_away hlen (by rw [hstep]; exact hp),
      Device.onAct_act _ (by simpa [setGoal] using hlen), hgoal, hshift, hstart, hstep]
    exact ⟨rfl, rfl, rfl, rfl, rfl⟩
  case unsynced => exact congrArg Host.Outcome.next (if_neg (by simp [lasted, hu]))
  case dip =>
    obtain ⟨hshift, hfault, hctl⟩ := shiftTimeout_dip h2 hn hp
    refine ⟨_, exec_shiftStepTimeout late h2 (by decide) (by decide) hl ht, rfl, rfl, ?_⟩
    rw [State.onDev_dev, (lateMisc_drives late _ n p).1, (lateMisc_frame ..).1]
    exact ⟨hshift, Device.hasFault_of_faults (lateMisc_frame ..).2.1 hfault, hctl⟩
  case sync =>
    obtain ⟨hshift, hop, hfault, hports⟩ := shiftTimeout_sync h4 hn hp
    refine ⟨_, exec_shiftStepTimeout late h4 (by decide) (by decide) hl ht, ?_⟩
    rw [State.onDev_dev, (lateMisc_drives late _ n p).1, (lateMisc_drives late _ n p).2]
    exact ⟨hshift, hop, Device.hasFault_of_faults (lateMisc_frame ..).2.1 hfault, hports⟩
  case running =>
    refine congrArg Host.Outcome.next (if_neg fun ⟨_, _, h, _⟩ => ?_)
    exact h.elim (Nat.not_le.mpr ht) (Bool.eq_false_iff.mp hf)
  case account =>
    obtain ⟨hctl, hact⟩ := actThermal_frame hn
    refine ⟨s.onDev (actThermal n), congrArg Host.Outcome.next (if_pos ⟨h0, hd⟩), rfl, rfl, ?_⟩
    rw [State.onDev_dev, hact, hctl]
    exact ⟨rfl, rfl, rfl, rfl, fun hf => by simp [Device.thermHot, hf],
      fun h1 => actThermal_hot (by simp [Device.thermHot, h1])⟩
  case phases =>
    obtain ⟨hhi, hlo, hne⟩ := commutation_distinct hc
    exact ⟨hhi, hlo, hne, commutation_reverse hc, (commutation_full_turn h shift f).trans hc, commutation_half_turn hc⟩

/-- Settles O33: each event and command is its branch; what a Hall edge, HALL_FAULT, the end of homing and a stall leave is
said by the lemmas about them. -/
theorem actuatorDrives : Obligations.ActuatorDrives := by
  unfold Obligations.ActuatorDrives
  refine ⟨fun n h s h0 hn hh => (next_unless_off _ h0).trans (next_onDev (hallEdge_invalid n hh s.dev)),
    fun n h s h0 => congrArg Host.Outcome.next (if_pos h0), fun n s h0 hn hl hb ho h1 h2 => ?forward,
    fun n s h0 hn hl hb ho h1 h2 => ?backward, fun n u s h0 hn hu ht => ?fault, fun n s hu hs hf => ?noFault,
    fun n s ha ho ht => congrArg Host.Outcome.next (if_pos ⟨ha, ho, ht⟩),
    fun n s ht => congrArg Host.Outcome.next (if_neg (by simp [ht])),
    fun q n k s ht hbl hb hh hth hr => congrArg Host.Outcome.next (hostWrite_rwCmd
      (g := fun d => (clearFault .overrun (.stage .act) d).onAct n fun x => { x with cmd := some (16 + k) }) ht
      (cmdAct_target_taken k hbl hb hh hth hr)),
    fun q n k s ht hbl => ?blocked,
    fun q n k s ht hbl hb => congrArg Host.Outcome.next (hostWrite_devCmd
      (g := fun d => d.onAct n fun x => { x with cmdBusy := (x.cmdBusy + 1) % 2 ^ 8 }) ht
      (rwCmd_of_ne_ok (cmdAct_target_busy k hbl hb) (by decide))),
    fun q n s ht hbl hb h1 h2 hth => congrArg Host.Outcome.next (hostWrite_rwCmd
      (g := fun d => (clearFault .overrun (.stage .act) d).onAct n fun x => { x with cmd := some 0x20 }) ht
      (cmdAct_home_taken hbl hb hth (Device.forkPort_eq_none h1 h2))),
    fun q n s ht hbl => congrArg Host.Outcome.next (hostWrite_rwCmd
      (g := fun d => d.onAct n fun x => { x with cmd := some 0x30 }) ht (cmdAct_stop hbl)),
    fun n s ho hn hs hh hb => ?homes, fun n s ho hn hs hh hg hr hb hp => (exec_actStallDetect ho hs).trans
      (next_onDev ((actStallDetect_free hh hg).trans (actStalled_backs_off hr hb hp))),
    fun n s ho hn hs hh hg hr => ?fails, fun n s h => ?noStall,
    fun n e s ho ht => congrArg Host.Outcome.next (if_pos ⟨ho.imp_right .inl, .inl ht⟩),
    fun n e s ho => congrArg Host.Outcome.next (if_neg (by simp [ho])),
    fun n late s hw ht => congrArg Host.Outcome.next (if_pos ⟨hw, ht⟩),
    fun n late s hw => congrArg Host.Outcome.next (if_neg (by simp [hw])),
    fun n s ho ht hh => (congrArg Host.Outcome.next (if_pos ⟨ho, ht⟩)).trans (next_onDev (if_pos hh)),
    fun n s ht => congrArg Host.Outcome.next (if_neg fun h => Nat.not_le.mpr ht h.2)⟩
  case forward =>
    have hedge : hallEdge n 3 s.dev = s.dev.draw.onAct n (Actuator.stepped 3 1 s.dev.now) := by
      rw [hallEdge_step (i := 0) (j := 1) (k := 1) (by rw [hl]; rfl) rfl (fun _ => rfl) (by decide) hn hb (.inl ho)]
      exact commutate_idle (by rw [Device.draw_onAct_act _ hn]; exact ho)
    refine ⟨s.onDev (hallEdge n 3), next_unless_off _ h0, rfl, rfl, ?_⟩
    rw [State.onDev_dev, hedge, Device.draw_onAct_act _ hn]
    exact ⟨wrap32_of_mem (by omega) (by omega), rfl, rfl, rfl⟩
  case backward =>
    have hedge := hallEdge_step (i := 0) (j := 5) (k := -1) (h := 5) (by rw [hl]; rfl) rfl (fun _ => rfl) (by decide) hn hb
      (.inr ho)
    refine ⟨s.onDev (hallEdge n 5), next_unless_off _ h0, ?_⟩
    rw [State.onDev_dev, hedge, Device.act_of_acts (commutate_acts ..), Device.draw_onAct_act _ hn]
    exact wrap32_of_mem (by omega) (by omega)
  case fault =>
    refine ⟨s.onDev (hallFault n), congrArg Host.Outcome.next (if_pos ⟨h0, .inl (lasted_of_le hu ht)⟩), rfl, rfl,
      hallFault_hasFault n s.dev, ?_⟩
    rw [State.onDev_dev, hallFault_act hn]
    exact ⟨rfl, rfl, hallFault_ctl n s.dev, fun ha => raise_drive_new ha hn⟩
  case noFault =>
    refine congrArg Host.Outcome.next (if_neg fun ⟨_, h⟩ => ?_)
    simp [lasted, hu, hf, Nat.not_le.mpr hs] at h
  case blocked =>
    have hk := k.isLt
    exact ⟨congrArg Host.Outcome.next (hostWrite_actCmd_blocked (.inl ⟨by omega, by omega⟩) ht hbl),
      congrArg Host.Outcome.next (hostWrite_actCmd_blocked (.inr (.inl rfl)) ht hbl),
      congrArg Host.Outcome.next (hostWrite_actCmd_blocked (.inr (.inr rfl)) ht hbl)⟩
  case homes =>
    have hhomed := homed_frame hn hb
    rw [← actStallDetect_homing hh] at hhomed
    exact ⟨s.onDev (actStallDetect n), exec_actStallDetect ho hs, rfl, rfl, hhomed⟩
  case fails =>
    have hfails := actStalled_fails hn hr
    rw [← actStallDetect_free hh hg] at hfails
    exact ⟨s.onDev (actStallDetect n), exec_actStallDetect ho hs, hfails⟩
  case noStall =>
    refine congrArg Host.Outcome.next (if_neg fun ⟨ho, hs⟩ => ?_)
    exact h.elim (fun hp => by simp [Device.actStopped_of_not_pushes hp] at hs) (fun hh => by simp [hh] at ho)

end

section
/-!
PROOFS of the statement about thermal management (chapter 11): the dies with their over-temperature, the controller die, the
coolant, the link capacitors, the windings and the timebase.
-/

namespace Sys2Proof.Machine

/-! ## What a condition that is followed leaves alone -/

@[simp] theorem follow_therm (f : FaultName) (sc : Scope) (r : Nat) (on : Bool) (d : Device) :
    (follow f sc r on d).therm = d.therm := by
  cases on <;> simp [follow]

/-- A report below F2 acts on no slot. -/
theorem raise_low_slots (f : FaultName) (sc : Scope) {r : Nat} (h : r < 2) (d : Device) : (raise f sc r d).slots = d.slots := by
  simp only [raise, raiseActs]
  split
  · split
    · simp only [List.filter_cons, List.filter_nil]
      split <;> simp [Device.each, reactOne_low_eq_self _ _ h]
    · simp [Device.each, reactOne_low_eq_self _ _ h]
  · simp [Device.each, reactOne_low_eq_self _ _ h]

theorem follow_low_slots (f : FaultName) (sc : Scope) {r : Nat} (h : r < 2) (on : Bool) (d : Device) :
    (follow f sc r on d).slots = d.slots := by
  cases on
  · simp [follow]
  · exact raise_low_slots f sc h d

/-! ## Faults that other reports and clearings leave active -/

/-- A report ends no fault, of whatever name and scope (R25). -/
theorem raise_keeps_hasFault (f : FaultName) (sc : Scope) (r : Nat) {g : FaultName} {sc' : Scope} {d : Device}
    (hf : f ≠ .proofTest) (hg : g ≠ .proofTest) (h : d.hasFault g sc' 0) : (raise f sc r d).hasFault g sc' 0 := by
  by_cases hsame : g = f ∧ sc' = sc
  · obtain ⟨rfl, rfl⟩ := hsame
    obtain ⟨e, he, hname, hsc, -⟩ := raise_hasFault _ _ r d hf
    exact ⟨e, he, hname, hsc, Nat.zero_le _⟩
  · obtain ⟨e, he, rfl, rfl, -⟩ := h
    exact ⟨e, raise_mem r he hg (not_and_or.mp hsame), rfl, rfl, Nat.zero_le _⟩

/-- A clearing ends the faults of its own name alone (R26). -/
theorem clearFault_keeps_hasFault {f g : FaultName} (sc : Scope) {sc' : Scope} {r : Nat} {d : Device} (hfg : g ≠ f)
    (h : d.hasFault g sc' r) : (clearFault f sc d).hasFault g sc' r := by
  obtain ⟨e, he, rfl, rfl, hr⟩ := h
  refine ⟨e, ?_, rfl, rfl, hr⟩
  rw [clearFault_active]
  exact List.mem_filter.mpr ⟨he, by simp [hfg]⟩

theorem follow_keeps_hasFault {f g : FaultName} (sc : Scope) (r : Nat) (on : Bool) {sc' : Scope} {d : Device}
    (hf : f ≠ .proofTest) (hg : g ≠ .proofTest) (hfg : g ≠ f) (h : d.hasFault g sc' 0) :
    (follow f sc r on d).hasFault g sc' 0 := by
  cases on
  · exact clearFault_keeps_hasFault sc hfg h
  · exact raise_keeps_hasFault f sc r hf hg h

/-- A fault raised at each of several ports is active at every one of them afterwards. -/
theorem each_raise_hasFault {f : FaultName} (hf : f ≠ .proofTest) {l : List PortId} {p : PortId} (hp : p ∈ l) (d : Device) :
    (d.each l fun q => raise f (.port q) 0).hasFault f (.port p) 0 := by
  induction l generalizing d with
  | nil => cases hp
  | cons q t ih =>
    obtain rfl | ht := List.mem_cons.mp hp
    · exact Device.each_preserves (P := fun x => x.hasFault f (.port p) 0) (fun q _ => raise_keeps_hasFault f (.port q) 0 hf hf) t
        (raise_hasFault f (.port p) 0 d hf)
    · exact ih ht _

/-! ## Die temperatures (R277, R278) -/

/-- What an evaluation of the dies leaves alone once it has noted its time. -/
def Device.dieFrame (d : Device) : ModuleCtl × Meas × List Slot × Option Nanos :=
  (d.ctl, d.meas, d.slots, d.therm.dieAt)

theorem Device.dieFrame_eq_iff {d x : Device} {t : Option Nanos} :
    x.dieFrame = (d.ctl, d.meas, d.slots, t) ↔ x.ctl = d.ctl ∧ x.meas = d.meas ∧ x.slots = d.slots ∧ x.therm.dieAt = t := by
  simp [Device.dieFrame]

theorem follow_low_dieFrame (f : FaultName) (sc : Scope) {r : Nat} (h : r < 2) (on : Bool) (d : Device) :
    (follow f sc r on d).dieFrame = d.dieFrame := by
  simp only [Device.dieFrame, (follow_low_frame f sc h on d).1, follow_low_meas f sc h, follow_low_slots f sc h, follow_therm]

theorem dieSample_dieFrame (g : Nat) (t : Option Int) (d : Device) : (dieSample g t d).dieFrame = d.dieFrame :=
  follow_low_dieFrame _ _ two_pos _ _

theorem each_dieSample_dieFrame (temps : List (Fin 512 × Option Int)) (d : Device) :
    (d.each temps fun e => dieSample e.1 e.2).dieFrame = d.dieFrame :=
  Device.each_keeps Device.dieFrame (fun e : Fin 512 × Option Int => dieSample e.1 e.2)
    (fun e x => dieSample_dieFrame e.1 e.2 x) temps d

theorem evalStage_dieFrame (sg : StageGroup) (d : Device) : (evalStage sg d).dieFrame = d.dieFrame := by
  have hpos : (d.each (positionHeads sg) evalPosition).dieFrame = d.dieFrame :=
    Device.each_keeps Device.dieFrame evalPosition (fun _ _ => rfl) _ d
  simp only [evalStage, follow_low_dieFrame _ _ one_lt_two]
  exact hpos

theorem coolTrack_dieFrame (sg : StageGroup) (d : Device) : (coolTrack sg d).dieFrame = d.dieFrame := rfl

/-- An evaluation notes its time and leaves module control, the measurement and the slots alone. -/
theorem dieTempEval_frame (temps : List (Fin 512 × Option Int)) (d : Device) :
    (dieTempEval temps d).ctl = d.ctl ∧ (dieTempEval temps d).meas = d.meas ∧ (dieTempEval temps d).slots = d.slots
      ∧ (dieTempEval temps d).therm.dieAt = some d.now := by
  refine Device.dieFrame_eq_iff.mp ?_
  unfold dieTempEval
  extract_lets sampled _ noted history
  have hsampled : sampled.dieFrame = d.dieFrame := each_dieSample_dieFrame temps d
  obtain ⟨hctl, hmeas, hslots, -⟩ := Device.dieFrame_eq_iff.mp hsampled
  have hnoted : noted.dieFrame = (d.ctl, d.meas, d.slots, some d.now) :=
    Device.dieFrame_eq_iff.mpr ⟨hctl, hmeas, hslots, congrArg (fun c => some c.now) hctl⟩
  have hhistory : history.dieFrame = noted.dieFrame :=
    Device.each_keeps Device.dieFrame dieHistory (fun _ _ => rfl) _ noted
  have hstages : (history.each (Scope.stages .module) fun sg x => coolTrack sg (evalStage sg x)).dieFrame = history.dieFrame :=
    Device.each_keeps Device.dieFrame _ (fun sg x => (coolTrack_dieFrame sg _).trans (evalStage_dieFrame sg x)) _ history
  exact hstages.trans (hhistory.trans hnoted)

/-! ## The factor of a position (R277) -/

theorem fall_of_le {a x : Rat} (b v : Rat) (h : x ≤ a) : fall a b v x = 1 := if_pos h

theorem fall_of_ge {a b x : Rat} (v : Rat) (hab : a < b) (h : b ≤ x) : fall a b v x = v :=
  (if_neg (not_le.mpr (hab.trans_le h))).trans (if_pos h)

theorem Device.dieFactorOf_some {d : Device} {g : Nat} {t : Int} (h : d.hottestOf g = some t) :
    d.dieFactorOf g = fall (Cfg.dieTDerate d.cfg) 180 0 ((t : Rat) / 8) := by
  simp only [Device.dieFactorOf, h]

theorem Device.dieFactorOf_none {d : Device} {g : Nat} (h : d.hottestOf g = none) : d.dieFactorOf g = 1 / 4 := by
  simp only [Device.dieFactorOf, h]

/-! ## Over-temperature of a die (R281-R283) -/

theorem dieOt_hasFault (g : Nat) (d : Device) : (dieOt g d).hasFault .dieOt (.stage (stageOfChan g)) 3 :=
  raiseActs_hasFault _ _ _ _ _ (by decide)

theorem otPreset_private {i : Nat} (h : i < 61) (d : Device) :
    otPreset i d = d.onIsland i (Island.enterPreset (stageOfIsland i) d.now) := if_pos h

/-- On an island that drives share, the channels of the drives with a hot die turn off (R41). -/
theorem otPreset_shared {i : Nat} (h : 61 ≤ i) (d : Device) :
    otPreset i d = d.each ((islandChans i).filter fun g =>
        (((islandChans i).filter fun h => (d.chan h).ot).map actOf).contains (actOf g)) fun g =>
      Device.onChan g (GateChan.force false d.now (d.edgeOf g)) := if_neg (Nat.not_lt.mpr h)

/-- The island's own step of R282, where a die of the island is still on 10 us after its over-temperature. -/
theorem exec_dieOtIslandPreset {k : Fin 64} {s : State} (hp : (s.dev.island k).otPending)
    (ht : (s.dev.island k).otAt + 10000 ≤ s.dev.now) (hon : ∃ c ∈ (s.dev.island k).chans, c.gateOn = true) :
    exec (.dieOtIslandPreset k) s = .next (s.onDev (otPreset k)) :=
  congrArg Host.Outcome.next (if_pos ⟨hp, ht, List.any_eq_true.mpr hon⟩)

theorem stageIslands_nodup (sg : StageGroup) : sg.islands.Nodup := by cases sg <;> decide

/-- An update of several islands shows in each of them that exists. -/
theorem Device.each_onIsland_island {l : List Nat} {k : Nat} {d : Device} (f : Island → Island) (hl : l.Nodup) (hk : k ∈ l)
    (hlen : k < d.gates.islands.length) : (d.each l fun i => Device.onIsland i f).island k = f (d.island k) := by
  obtain ⟨x, hx, he⟩ := Device.each_at (f := fun i => Device.onIsland i f) (fun y => y.gates.islands[k]?) hl hk
    (fun i hi y => by simp [Device.onIsland, hi]) d
  simp only [Device.island, List.getD_eq_getElem?_getD, he]
  simp [Device.onIsland, hx, hlen]

/-- DIE_OT ends on the stage and on its islands, and a port needs its drive request afresh (R283). -/
theorem dieOtCooldown_frame (sg : StageGroup) (d : Device) :
    (dieOtCooldown sg d).activeAt .dieOt (.stage sg) = false ∧ (dieOtCooldown sg d).ctl = d.ctl
      ∧ (∀ k : Nat, k ∈ sg.islands → k < d.gates.islands.length → ((dieOtCooldown sg d).island k).otPending = false)
      ∧ (∀ p : PortId, sg.port? = some p → ((dieOtCooldown sg d).port p).afresh = true) := by
  unfold dieOtCooldown
  extract_lets cooled freed
  have hctl : cooled.ctl = d.ctl := Device.each_keeps (·.ctl) _ (fun _ _ => by simp) _ d
  have hfreed : freed.ctl = cooled.ctl ∧ freed.gates = cooled.gates := by
    unfold freed
    split <;> simp
  refine ⟨clearFault_activeAt _ _ _, by simp [hfreed.1, hctl], fun k hmem hlen => ?_, fun p hp => ?_⟩
  · have hk : (clearFault .dieOt (.stage sg) freed).island k = cooled.island k := by simp [Device.island, hfreed.2]
    rw [hk, Device.each_onIsland_island _ (stageIslands_nodup sg) hmem hlen]
  · have hport : (clearFault .dieOt (.stage sg) freed).port p = freed.port p := port_of_parts (by simp) p
    rw [hport]
    simp only [freed, hp, Device.onPort_same]

/-! ## Controller die (R284-R286) -/

/-- Both readings of the controller die are noted; sensors that agree end CTRL_TSENSE. -/
def ctrlRead (a b : Option Rat) (d : Device) : Device :=
  let x := { d.therm with tjA := a, tjB := b, tjAt := some d.now }
  let d := { d with therm := { x with tjSince := since d.now (x.tjBad && a.isSome && b.isSome) x.tjSince } }
  if d.therm.tjBad then d else clearFault .ctrlTsense .module d

/-- The throttling that CTRL_TJ asks for. -/
def throttle (t : Rat) (d : Device) : Device :=
  let on := decide (115 ≤ t) || (d.therm.throttled && decide (110 ≤ t))
  { d with therm := { d.therm with
      throttled := on, q := if on then throttleQ t else 0, ctrlFactor := fall 125 135 (1 / 2) t } }

/-- SAFE ends once the die has cooled and no other fault holds it. -/
def coolExit (t : Rat) (d : Device) : Device :=
  if d.ctl.state = .safe ∧ d.active .ctrlOt ∧ t < 105 then
    let d := clearFault .ctrlOt .module d
    if d.faults.highest < 4 then enterStandby d else d
  else d

theorem ctrlTj_of_none {a b : Option Rat} {d : Device} (h : (ctrlRead a b d).therm.tj = none) :
    ctrlTj a b d = ctrlRead a b d := by
  unfold ctrlTj
  extract_lets
  split
  · rfl
  · next ht => cases h.symm.trans ht

theorem ctrlTj_of_some {a b : Option Rat} {d : Device} {t : Rat} (h : (ctrlRead a b d).therm.tj = some t) :
    ctrlTj a b d = coolExit t (throttle t (ctrlRead a b d)) := by
  unfold ctrlTj
  extract_lets
  split
  · next hn => cases h.symm.trans hn
  · next u hu =>
    obtain rfl : t = u := Option.some.inj (h.symm.trans hu)
    rfl

theorem ctrlRead_frame (a b : Option Rat) (d : Device) :
    (ctrlRead a b d).ctl = d.ctl ∧ (ctrlRead a b d).therm.tjA = a ∧ (ctrlRead a b d).therm.tjB = b := by
  unfold ctrlRead
  extract_lets _ x y
  split <;> simp [y, x]

/-- A reading ends no fault but CTRL_TSENSE. -/
theorem mem_ctrlRead {e : FaultEntry} {a b : Option Rat} {d : Device} :
    (e ∈ (ctrlRead a b d).faults.active → e ∈ d.faults.active)
      ∧ (e ∈ d.faults.active → e.name ≠ .ctrlTsense → e ∈ (ctrlRead a b d).faults.active) := by
  unfold ctrlRead
  extract_lets _ x y
  split
  · exact ⟨id, fun h _ => h⟩
  · rw [clearFault_active]
    exact ⟨fun h => (List.mem_filter.mp h).1, fun h hn => List.mem_filter.mpr ⟨h, by simp [hn]⟩⟩

theorem coolExit_of_not_safe {t : Rat} {d : Device} (h : d.ctl.state ≠ .safe) : coolExit t d = d := if_neg (h ·.1)

/-- Outside SAFE an evaluation notes both readings and throttles by CTRL_TJ, where a sensor gives one (R285). -/
theorem ctrlTj_out_of_safe (a b : Option Rat) {d : Device} (h : d.ctl.state ≠ .safe) :
    (ctrlTj a b d).therm.tjA = a ∧ (ctrlTj a b d).therm.tjB = b ∧ (ctrlTj a b d).ctl = d.ctl
      ∧ ∀ x : Rat, (ctrlTj a b d).therm.tj = some x → ctrlTj a b d = throttle x (ctrlRead a b d) := by
  obtain ⟨hctl, ha, hb⟩ := ctrlRead_frame a b d
  cases hj : (ctrlRead a b d).therm.tj with
  | none =>
    rw [ctrlTj_of_none hj]
    exact ⟨ha, hb, hctl, fun x hx => by simp [hj] at hx⟩
  | some t =>
    rw [ctrlTj_of_some hj, coolExit_of_not_safe (d := throttle t (ctrlRead a b d)) (by rw [← hctl] at h; exact h)]
    refine ⟨ha, hb, hctl, fun x hx => ?_⟩
    obtain rfl : t = x := Option.some.inj (hj.symm.trans hx)
    rfl

theorem throttle_hot {t : Rat} (d : Device) (h : 115 ≤ t) :
    (throttle t d).therm.throttled = true ∧ (throttle t d).therm.q = throttleQ t
      ∧ (throttle t d).therm.ctrlFactor = fall 125 135 (1 / 2) t := by
  simp [throttle, h]

theorem throttle_cool {t : Rat} (d : Device) (h : t < 110) :
    (throttle t d).therm.throttled = false ∧ (throttle t d).therm.q = 0 := by
  have h115 : ¬ 115 ≤ t := by linarith
  simp [throttle, h115, not_le.mpr h]

theorem throttleQ_mem_Icc (t : Rat) : throttleQ t ∈ Set.Icc (1 / 4 : Rat) 3 := by
  unfold throttleQ
  split
  · norm_num
  · split
    · norm_num
    · constructor <;> linarith

/-! ## The exit from SAFE (R286) -/

theorem FaultMgr.highest_lt {x : FaultMgr} {n : Nat} (hn : 0 < n) (h : ∀ e ∈ x.active, e.reaction < n) : x.highest < n :=
  List.foldlRecOn (motive := (· < n)) x.active _ hn fun _ hm e he => max_lt hm (h e he)

/-- The end of proof-test mode activates no fault (R340). -/
theorem mem_of_mem_proofEnd {e : FaultEntry} {d : Device} (h : e ∈ (proofEnd d).faults.active) : e ∈ d.faults.active := by
  simp only [proofEnd] at h
  split at h
  · split at h
    · rw [report_active] at h
      exact (List.mem_filter.mp h).1
    · exact h
  · exact h

theorem mem_of_mem_setState {e : FaultEntry} {m : ModState} {d : Device} (h : e ∈ (setState m d).faults.active) :
    e ∈ d.faults.active := by
  obtain ⟨x, hx, hs | hs⟩ := setState_ends m d
  · rw [hs] at h
    exact hx ▸ mem_of_mem_proofEnd h
  · rwa [hs, hx] at h

theorem calStart_faults (d : Device) : (calStart d).faults = d.faults := by
  simp only [calStart]
  split <;> simp

/-- The passage to STANDBY activates no fault. -/
theorem mem_of_mem_enterStandby {e : FaultEntry} {d : Device} (h : e ∈ (enterStandby d).faults.active) :
    e ∈ d.faults.active := by
  refine mem_of_mem_setState (m := .standby) ?_
  simp only [enterStandby] at h
  split at h
  · rwa [calStart_faults] at h
  · rwa [ite_keeps (·.faults) chainStart _ _ rfl] at h

/-- A cooled die takes the module to STANDBY where CTRL_OT alone held it in SAFE. -/
theorem coolExit_standby {t : Rat} {d : Device} (hs : d.ctl.state = .safe) (ht : t < 105) (hot : d.active .ctrlOt)
    (hsc : ∀ e ∈ d.faults.active, 4 ≤ e.reaction ∨ e.name = .ctrlOt → e.name = .ctrlOt ∧ e.scope = .module) :
    (coolExit t d).ctl.state = .standby ∧ (coolExit t d).active .ctrlOt = false := by
  have hrest : ∀ e ∈ (clearFault .ctrlOt .module d).faults.active, e.reaction < 4 ∧ e.name ≠ .ctrlOt := by
    intro e he
    rw [clearFault_active, List.mem_filter] at he
    have hne : ¬ (e.name = .ctrlOt ∧ e.scope = .module) := by simpa [imp_iff_not_or] using he.2
    exact ⟨not_le.mp fun h => hne (hsc e he.1 (.inl h)), fun h => hne (hsc e he.1 (.inr h))⟩
  have hexit : coolExit t d = enterStandby (clearFault .ctrlOt .module d) :=
    (if_pos ⟨hs, hot, ht⟩).trans (if_pos (FaultMgr.highest_lt four_pos fun e he => (hrest e he).1))
  rw [hexit]
  exact ⟨enterStandby_state _, List.any_eq_false.mpr fun e he => by simp [(hrest e (mem_of_mem_enterStandby he)).2]⟩

theorem ctrlTj_leaves_safe {a b : Rat} {d : Device} (hs : d.ctl.state = .safe) (hot : (d.entry? .ctrlOt .module).isSome)
    (hsc : ∀ e ∈ d.faults.active, 4 ≤ e.reaction ∨ e.name = .ctrlOt → e.name = .ctrlOt ∧ e.scope = .module)
    (ha : a < 105) (hb : b < 105) :
    (ctrlTj (some a) (some b) d).ctl.state = .standby ∧ (ctrlTj (some a) (some b) d).active .ctrlOt = false := by
  obtain ⟨hctl, hta, htb⟩ := ctrlRead_frame (some a) (some b) d
  have hj : (ctrlRead (some a) (some b) d).therm.tj = some (max a b) := by simp only [Thermal.tj, hta, htb]
  obtain ⟨e, he⟩ := Option.isSome_iff_exists.mp hot
  have hname : e.name = .ctrlOt := by
    have hfound := List.find?_some he
    simp only [Bool.and_eq_true, beq_iff_eq] at hfound
    exact hfound.1
  rw [ctrlTj_of_some hj]
  refine coolExit_standby (by rw [← hs, ← hctl]; rfl) (max_lt ha hb) ?_ fun e he => hsc e (mem_ctrlRead.1 he)
  exact List.any_eq_true.mpr ⟨e, mem_ctrlRead.2 (List.mem_of_find?_eq_some he) (by simp [hname]), by simp [hname]⟩

theorem tjLost_of_tj_none {d : Device} (h : d.therm.tj = none) : d.tjLost = true := by
  cases ha : d.therm.tjA with
  | none => simp [Device.tjLost, ha]
  | some a => cases hb : d.therm.tjB <;> simp [Thermal.tj, ha, hb] at h

/-! ## Coolant and link capacitors (R287, R288) -/

theorem coolantInlet_inletSince (x : Rat) (d : Device) :
    (coolantInlet (some x) d).therm.inletSince = if 72 ≤ x then some (d.therm.inletSince.getD d.now) else none := by
  simp only [coolantInlet]
  split <;> simp [since]

theorem Thermal.flowLow_iff {x y : Rat} {h : Thermal} (hin : h.coolIn = some x) (hout : h.coolOut = some y) :
    h.flowLow ↔ 3 ≤ h.pLoss ∧ 82 / 100 * h.pLoss + 2 < y - x := by
  have hk : 2 * (41 / 100 * h.pLoss) = 82 / 100 * h.pLoss := by ring
  simp [Thermal.flowLow, hin, hout, hk]

/-! ## Windings (R276, R289) -/

theorem windingPort_frame (p : PortId) (d : Device) :
    (windingPort p d).ctl = d.ctl ∧ (windingPort p d).therm.wt = d.therm.wt := by
  simp only [windingPort, (follow_low_frame _ _ one_lt_two _ _).1, follow_therm]
  cases p <;> simp

theorem windingPort_keeps_hasFault (q : PortId) {g : FaultName} {sc : Scope} {d : Device} (hg : g ≠ .proofTest)
    (hgw : g ≠ .wtHot) (h : d.hasFault g sc 0) : (windingPort q d).hasFault g sc 0 :=
  follow_keeps_hasFault (.port q) 1 _ (by decide) hg hgw h

/-- An input without a valid reading for 1 s has none, and WT_TSENSE is active at every port that uses it (R276). -/
theorem wtSense_frame (k : Nat) (d : Device) :
    (wtSense k d).therm.wt = d.therm.wt.set k none ∧ (wtSense k d).ctl = d.ctl
      ∧ ∀ p : PortId, p ∈ d.wtPorts k → (wtSense k d).hasFault .wtTsense (.port p) 0 := by
  unfold wtSense
  extract_lets _ x
  let y := x.each (d.wtPorts k) fun p => raise .wtTsense (.port p) 0
  have htherm : y.therm = x.therm := Device.each_keeps (·.therm) _ (fun _ _ => by simp) _ x
  have hctl : y.ctl = d.ctl := Device.each_keeps (·.ctl) _ (fun _ _ => raise_ctl _ _ _ _ (by decide) (by simp)) _ x
  refine ⟨?_, ?_, fun p hp => ?_⟩
  · exact (Device.each_keeps (·.therm.wt) windingPort (fun p z => (windingPort_frame p z).2) ports y).trans
      (congrArg Thermal.wt htherm)
  · exact (Device.each_keeps (·.ctl) windingPort (fun p z => (windingPort_frame p z).1) ports y).trans hctl
  · exact Device.each_preserves (P := fun z => z.hasFault .wtTsense (.port p) 0)
      (fun q z => windingPort_keeps_hasFault q (by decide) (by decide)) ports (each_raise_hasFault (by decide) hp x)

/-! ## Timebase (R290) -/

/-- A correction notes the time and the reference, and follows the crystal's sensor where it gives a temperature. -/
theorem timebaseCorrection_frame (xtal ref : Option Rat) (d : Device) :
    (timebaseCorrection xtal ref d).ctl = d.ctl
      ∧ (timebaseCorrection xtal ref d).therm.tbTemp = (xtal.map tbCorrection).getD d.therm.tbTemp
      ∧ (timebaseCorrection xtal ref d).therm.tbCorr = (xtal.map tbCorrection).getD d.therm.tbTemp + d.net.time.trim
      ∧ (timebaseCorrection xtal ref d).therm.tbAt = some d.now := by
  simp only [timebaseCorrection, (follow_low_frame _ _ two_pos _ _).1, follow_therm]
  cases xtal <;> simp

theorem timebaseCorrection_hasFault {xtal ref : Option Rat} (d : Device) (h : xtal = none ∨ ref = none) :
    (timebaseCorrection xtal ref d).hasFault .refTsense .module 0 := by
  have hon : (xtal.isNone || ref.isNone) = true := by simpa using h
  simp only [timebaseCorrection, hon, follow, if_true]
  exact raise_hasFault _ _ _ _ (by decide)

end Sys2Proof.Machine

/-! ## The statements -/

open Sys2Proof Sys2Proof.Machine

/-- Settles O35: each event is its branch; what an evaluation of the dies, a cooled stage, a reading of the controller die, a lost
winding sensor and a timebase correction leave is said by the lemmas about them. -/
theorem dieTemperatures : Obligations.DieTemperatures := by
  unfold Obligations.DieTemperatures
  refine ⟨fun l s h0 ht => ?eval, fun l s ht => congrArg Host.Outcome.next (if_neg (by simp [ht])),
    fun g s h0 => ⟨s.onDev (dieOt g), congrArg Host.Outcome.next (if_neg h0), rfl, rfl, dieOt_hasFault g s.dev⟩,
    fun g s h0 => congrArg Host.Outcome.next (if_pos h0),
    fun k s hp ht hon hk => (exec_dieOtIslandPreset hp ht hon).trans (next_onDev (otPreset_private hk s.dev)),
    fun k s hp ht hon hk => (exec_dieOtIslandPreset hp ht hon).trans (next_onDev (otPreset_shared hk s.dev)),
    fun k s h => ?noPreset,
    fun sg s ha hc => ⟨s.onDev (dieOtCooldown sg), congrArg Host.Outcome.next (if_pos ⟨ha, hc⟩), rfl, rfl,
      dieOtCooldown_frame sg s.dev⟩,
    fun sg s ha hc => congrArg Host.Outcome.next (if_pos ⟨ha, hc⟩),
    fun sg b s hc => congrArg Host.Outcome.next (if_neg (by rw [hc]; simp [lasted])),
    fun d g t ht hle => (Device.dieFactorOf_some ht).trans (fall_of_le 180 0 hle),
    fun d g t ht hd hge => (Device.dieFactorOf_some ht).trans (fall_of_ge 0 hd ?hottest),
    fun d g ht => Device.dieFactorOf_none ht, fun a b s h0 hs ht => ?readings,
    fun a b s hs hot hsc ha hb ht => ⟨s.onDev (ctrlTj (some a) (some b)), congrArg Host.Outcome.next (if_pos ⟨by simp [hs], ht⟩),
      ctrlTj_leaves_safe hs hot hsc ha hb⟩,
    by norm_num [throttleQ], by norm_num [throttleQ], throttleQ_mem_Icc,
    fun s h0 hj => (congrArg Host.Outcome.next (if_pos ⟨h0, tjLost_of_tj_none hj⟩)).trans (by simp [hj]),
    fun a b s ht => congrArg Host.Outcome.next (if_neg (by simp [ms, ht])),
    fun x s h0 hj hl => (congrArg Host.Outcome.next (if_pos ⟨h0, hl⟩)).trans (by simp [hj]),
    fun s hl => congrArg Host.Outcome.next (if_neg (by simp [hl])),
    fun s h0 => congrArg Host.Outcome.next (if_neg h0), fun s h0 => congrArg Host.Outcome.next (if_pos h0),
    fun s h0 hl => congrArg Host.Outcome.next (if_pos ⟨h0, .inl hl⟩),
    fun s hl hf => congrArg Host.Outcome.next (if_neg (by simp [sec, hl, hf])), coolantInlet_inletSince,
    fun s h0 hl => congrArg Host.Outcome.next (if_pos ⟨h0, .inl hl⟩),
    fun s hl hf => congrArg Host.Outcome.next (if_neg (by simp [sec, hl, hf])),
    fun x y h hin hout => Thermal.flowLow_iff hin hout,
    fun x s h0 hm hx => congrArg Host.Outcome.next (if_pos ⟨h0, List.any_eq_true.mpr ⟨some x, hm, decide_eq_true hx⟩⟩),
    fun s h => ?cool, fun k s h0 hp ht => ?winding, fun k s hp => congrArg Host.Outcome.next (if_neg (by simp [hp])),
    fun x r s h0 ht => ?correction, fun r s h0 ht => ?noCrystal,
    fun x r s ht => congrArg Host.Outcome.next (if_neg (by simp [ms, ht]))⟩
  case eval =>
    exact ⟨s.onDev (dieTempEval l), congrArg Host.Outcome.next (if_pos ⟨h0, ht⟩), State.onDev_pending ..,
      State.onDev_otp .., dieTempEval_frame l s.dev⟩
  case noPreset =>
    refine congrArg Host.Outcome.next (if_neg fun ⟨hp, _, hon⟩ => ?_)
    obtain hoff | hnone := h
    · obtain ⟨c, hc, hg⟩ := List.any_eq_true.mp hon
      exact Bool.eq_false_iff.mp (hoff c hc) hg
    · exact Bool.eq_false_iff.mp hnone hp
  case hottest =>
    have hge' : (1440 : Rat) ≤ t := by exact_mod_cast hge
    linarith
  case readings =>
    obtain ⟨ha, hb, hctl, hq⟩ := ctrlTj_out_of_safe a b hs
    refine ⟨s.onDev (ctrlTj a b), congrArg Host.Outcome.next (if_pos ⟨h0, ht⟩), rfl, rfl, ha, hb, hctl, fun x hx h115 => ?_,
      fun x hx h110 => ?_⟩
    · rw [State.onDev_dev, hq x hx]
      exact throttle_hot _ h115
    · rw [State.onDev_dev, hq x hx]
      exact throttle_cool _ h110
  case cool =>
    refine congrArg Host.Outcome.next (if_neg fun ⟨_, hany⟩ => ?_)
    obtain ⟨_ | x, hm, hx⟩ := List.any_eq_true.mp hany
    · cases hx
    · exact not_le.mpr (h x hm) (of_decide_eq_true hx)
  case winding =>
    exact ⟨s.onDev (wtSense k), congrArg Host.Outcome.next (if_pos ⟨h0, by simpa using hp, .inl ht⟩), rfl, rfl,
      wtSense_frame k s.dev⟩
  case correction =>
    obtain ⟨hctl, htemp, hcorr, hat⟩ := timebaseCorrection_frame (some x) r s.dev
    exact ⟨s.onDev (timebaseCorrection (some x) r), congrArg Host.Outcome.next (if_pos ⟨h0, ht⟩), rfl, rfl, hctl, htemp, hcorr,
      hat, fun hr => timebaseCorrection_hasFault s.dev (.inr hr)⟩
  case noCrystal =>
    exact ⟨s.onDev (timebaseCorrection none r), congrArg Host.Outcome.next (if_pos ⟨h0, ht⟩),
      (timebaseCorrection_frame none r s.dev).2.1, timebaseCorrection_hasFault s.dev (.inl rfl)⟩

end

section
/-!
PROOFS of the statements about Dorid frames (chapter 13): their CRC and the way from a producer to a consumer.
-/

namespace Sys2Proof.Machine

/-! ## Numbers in bytes (R383) -/

@[simp] theorem leBytes_length (n v : Nat) : (leBytes n v).length = n := by
  induction n generalizing v with
  | zero => rfl
  | succ n ih => simp [leBytes, ih]

theorem leNat_leBytes (n v : Nat) : leNat (leBytes n v) = v % 256 ^ n := by
  induction n generalizing v with
  | zero => simp [leBytes, leNat, Nat.mod_one]
  | succ n ih =>
    rw [leBytes, leNat, ih, BitVec.toNat_ofNat, pow_succ' 256 n, Nat.mod_mul]

theorem leNat_leBytes_of_lt {n v : Nat} (h : v < 256 ^ n) : leNat (leBytes n v) = v := by
  rw [leNat_leBytes, Nat.mod_eq_of_lt h]

/-! ## The CRC of a Dorid frame (R323) -/

theorem reverse_xor {w : Nat} (x y : BitVec w) : (x ^^^ y).reverse = x.reverse ^^^ y.reverse := by
  refine BitVec.eq_of_getLsbD_eq fun i _ => ?_
  simp only [BitVec.getLsbD_reverse, BitVec.getLsbD_xor, BitVec.getMsbD_xor]

theorem reverse_ushiftRight {w : Nat} (x : BitVec w) (n : Nat) : (x >>> n).reverse = x.reverse <<< n := by
  refine BitVec.eq_of_getLsbD_eq fun i hi => ?_
  simp only [BitVec.getLsbD_reverse, BitVec.getLsbD_shiftLeft, BitVec.getMsbD_ushiftRight, Bool.and_assoc]

/-- One bit shifted out at the least significant end is one bit shifted out at the most significant end of the reversed
register, with the reversed polynomial. -/
theorem crc32cBit_reverse (c : BitVec 32) : (crc32cBit c).reverse = msbCrcBit c.reverse := by
  have hpoly : (0x82F63B78#32).reverse = 0x1EDC6F41#32 := by decide +kernel
  unfold crc32cBit msbCrcBit
  rw [BitVec.msb_reverse]
  split
  · rw [reverse_xor, reverse_ushiftRight, hpoly]
  · rw [reverse_ushiftRight]

/-- A byte in the low end of the register is the reversed byte in the high end of the reversed register. -/
theorem setWidth_byte_reverse (b : Byte) : (b.setWidth 32).reverse = b.reverse.setWidth 32 <<< 24 := by
  refine BitVec.eq_of_getLsbD_eq fun i hi => ?_
  simp only [BitVec.getLsbD_reverse, BitVec.getMsbD_eq_getLsbD, BitVec.getLsbD_shiftLeft, BitVec.getLsbD_setWidth]
  by_cases h : i < 24
  · have hout : b.getLsbD (32 - 1 - i) = false := BitVec.getLsbD_of_ge _ _ (by omega)
    simp [h, hout]
  · have hlow : i - 24 < 8 ∧ 32 - 1 - i < 32 ∧ i - 24 < 32 ∧ 8 - 1 - (i - 24) = 32 - 1 - i := by omega
    obtain ⟨h8, h1, h2, hpos⟩ := hlow
    simp only [hi, h, h8, h1, h2, hpos, decide_true, decide_false, Bool.not_false, Bool.true_and]

theorem crc32cByte_reverse (c : BitVec 32) (b : Byte) : (crc32cByte c b).reverse = msbCrcByte c.reverse b := by
  simp only [crc32cByte, crc32cBit_reverse, reverse_xor, setWidth_byte_reverse]
  rfl

/-- The two registers are each other's reversal after every byte, since the initial value is its own. -/
theorem foldl_crc32cByte_reverse (l : List Byte) (c : BitVec 32) :
    (l.foldl crc32cByte c).reverse = l.foldl msbCrcByte c.reverse := by
  induction l generalizing c with
  | nil => rfl
  | cons b l ih => rw [List.foldl_cons, List.foldl_cons, ih, crc32cByte_reverse]

theorem crc32c_eq_msb (l : List Byte) : crc32c l = (l.foldl msbCrcByte 0xFFFFFFFF#32).reverse ^^^ 0xFFFFFFFF#32 := by
  have hones : (0xFFFFFFFF#32).reverse = 0xFFFFFFFF#32 := by decide +kernel
  rw [crc32c, ← BitVec.reverse_reverse_eq (x := l.foldl crc32cByte _), foldl_crc32cByte_reverse, hones]

/-! ## Frames and their check (R322, R325, R327) -/

/-- What the CRC of a frame covers (Table 13.1). -/
def doridBody (id seq stamp : Nat) (payload : List Byte) : List Byte :=
  leBytes 4 id ++ leBytes 2 seq ++ leBytes 2 (stamp % 65536) ++ payload

theorem doridFrame_eq (id seq stamp : Nat) (l : List Byte) :
    doridFrame id seq stamp l = doridBody id seq stamp l ++ leBytes 4 (crc32c (doridBody id seq stamp l)).toNat := rfl

theorem doridBody_length (id seq stamp : Nat) (l : List Byte) : (doridBody id seq stamp l).length = 8 + l.length := by
  simp only [doridBody, List.length_append, leBytes_length]

theorem doridFrame_length (id seq stamp : Nat) (l : List Byte) : (doridFrame id seq stamp l).length = 12 + l.length := by
  rw [doridFrame_eq, List.length_append, doridBody_length, leBytes_length]
  omega

/-- Where the fields of a frame lie (Table 13.1). -/
theorem doridFrame_fields (id seq stamp : Nat) (l : List Byte) :
    (doridFrame id seq stamp l).take (8 + l.length) = doridBody id seq stamp l
      ∧ (doridFrame id seq stamp l).drop (8 + l.length) = leBytes 4 (crc32c (doridBody id seq stamp l)).toNat
      ∧ (doridFrame id seq stamp l).take 4 = leBytes 4 id
      ∧ ((doridFrame id seq stamp l).drop 4).take 2 = leBytes 2 seq
      ∧ ((doridFrame id seq stamp l).drop 6).take 2 = leBytes 2 (stamp % 65536)
      ∧ ((doridFrame id seq stamp l).drop 8).take l.length = l := by
  refine ⟨List.take_left' (doridBody_length ..), List.drop_left' (doridBody_length ..), rfl, rfl, rfl, ?_⟩
  exact List.take_left (l₁ := l)

/-- The register of the CRC in bytes, least significant byte first. -/
theorem leBytes_four (c : BitVec 32) :
    leBytes 4 c.toNat = [c.setWidth 8, (c >>> 8).setWidth 8, (c >>> 16).setWidth 8, (c >>> 24).setWidth 8] := by
  have hbyte (k n : Nat) (h : n = c.toNat / 2 ^ k) : BitVec.ofNat 8 n = (c >>> k).setWidth 8 := by
    apply BitVec.eq_of_toNat_eq
    rw [BitVec.toNat_setWidth, BitVec.toNat_ushiftRight, Nat.shiftRight_eq_div_pow, BitVec.toNat_ofNat, h]
  have h8 := hbyte 8 (c.toNat / 256) rfl
  have h16 := hbyte 16 (c.toNat / 256 / 256) (Nat.div_div_eq_div_mul ..)
  have h24 := hbyte 24 (c.toNat / 256 / 256 / 256) (by simp only [Nat.div_div_eq_div_mul]; rfl)
  simp only [leBytes, h8, h16, h24, BitVec.ofNat_toNat]

theorem le_fdLength {n : Nat} (h : n ≤ 64) : n ≤ fdLength n := by
  unfold fdLength
  split
  · exact le_rfl
  · cases hf : [12, 16, 20, 24, 32, 48, 64].find? fun l => decide (n ≤ l) with
    | none => exact h
    | some k => simpa using List.find?_some hf

theorem Device.ageOf_mod (d : Device) (stamp : Nat) : d.ageOf (stamp % 65536) = d.ageOf stamp := by
  unfold Device.ageOf
  rw [Nat.mod_mod]

/-- The data field of a port is the frame, or on CAN FD the frame padded to a length of a CAN FD frame (R324). -/
def Device.padsTo (d : Device) (c n : Nat) (pad : List Byte) : Prop :=
  pad = [] ∨ ((Cfg.dcPort d.scfg c = 1 ∨ (Cfg.dcPort d.scfg c = 0 ∧ Cfg.canaFormat d.cfg ≠ 1)) ∧ n + pad.length = fdLength n)

/-- A frame of a connection, whole or padded, passes every check of Table 13.4 where the sequence number is new and the stamp in
its window. -/
theorem doridCheck_doridFrame {d : Device} {c seq stamp : Nat} {l pad : List Byte} (hl : l.length = Cfg.dcLen d.scfg c)
    (hid : Cfg.dcConnId d.scfg c < 2 ^ 32) (hseq : seq < 2 ^ 16)
    (hnew : (d.conn c).state = .starting ∨ (1 ≤ (seq + 65536 - (d.conn c).seq) % 65536
      ∧ (seq + 65536 - (d.conn c).seq) % 65536 ≤ 32767))
    (hmin : -(ageAllowance d.scfg : Int) ≤ d.ageOf stamp) (hmax : d.ageOf stamp ≤ Cfg.dcTe d.scfg c * 10)
    (hinj : d.forced 0x0D01 c = false) (hpad : d.padsTo c (12 + l.length) pad) :
    d.doridCheck c (doridFrame (Cfg.dcConnId d.scfg c) seq stamp l ++ pad) = .ok (seq, d.ageOf stamp, l) := by
  have hlen := doridFrame_length (Cfg.dcConnId d.scfg c) seq stamp l
  obtain ⟨hbody, hcrc, hident, hseqno, hstamp, hload⟩ := doridFrame_fields (Cfg.dcConnId d.scfg c) seq stamp l
  have hsize : ¬ (((doridFrame (Cfg.dcConnId d.scfg c) seq stamp l ++ pad).length ≠ 12 + l.length ∧
      !((decide (Cfg.dcPort d.scfg c = 1) || (decide (Cfg.dcPort d.scfg c = 0) && Cfg.canaFormat d.cfg != 1)) &&
        (doridFrame (Cfg.dcConnId d.scfg c) seq stamp l ++ pad).length == fdLength (12 + l.length))) ∨
      d.forced 0x0D01 c) := by
    rw [List.length_append, hlen, hinj]
    obtain rfl | ⟨hfd, hto⟩ := hpad
    · simp
    · have hport : (decide (Cfg.dcPort d.scfg c = 1) || (decide (Cfg.dcPort d.scfg c = 0) && Cfg.canaFormat d.cfg != 1)) = true := by
        simpa using hfd
      simp [hto, hport]
  have hfree : ¬ ((!((d.conn c).state == .starting || ((d.conn c).state == .expired && !(d.conn c).rejoin))
      && !(1 ≤ (seq + 65536 - (d.conn c).seq) % 65536 && (seq + 65536 - (d.conn c).seq) % 65536 ≤ 32767 : Bool)) = true) := by
    obtain h | ⟨h1, h2⟩ := hnew
    · simp [h]
    · simp [h1, h2]
  have hwritten : leNat (leBytes 2 (stamp % 65536)) = stamp % 65536 := leNat_leBytes_of_lt (Nat.mod_lt _ (by norm_num))
  have hage : ¬ (d.ageOf stamp < -(ageAllowance d.scfg : Int) ∨ (Cfg.dcTe d.scfg c * 10 : Int) < d.ageOf stamp) := by
    omega
  simp only [Device.doridCheck, ← hl]
  rw [if_neg hsize, List.take_left' hlen, show 12 + l.length - 4 = 8 + l.length by omega, hbody, hcrc, hident, hseqno, hstamp,
    hload, leNat_leBytes_of_lt (BitVec.isLt _), if_neg (by simp), leNat_leBytes_of_lt hid, if_neg (by simp),
    leNat_leBytes_of_lt hseq, hwritten, Device.ageOf_mod, if_neg hfree, if_neg hage]

end Sys2Proof.Machine

/-! ## The statements -/

open Sys2Proof Sys2Proof.Machine

/-- Settles O38: the reflected register is the reversal of the other (`crc32c_eq_msb`); a frame is its body and its CRC. -/
theorem doridCrc : Obligations.DoridCrc := by
  unfold Obligations.DoridCrc
  refine ⟨crc32c_eq_msb, by decide +kernel, fun id seq stamp l => ⟨doridBody id seq stamp l, doridBody_length .., ?_⟩⟩
  rw [doridFrame_eq, leBytes_four]

/-- Settles O39: the whole frame and its padded form by `doridCheck_doridFrame`. -/
theorem doridFrameRoundTrip : Obligations.DoridFrameRoundTrip := by
  unfold Obligations.DoridFrameRoundTrip
  intro d c seq stamp l hl hid hseq hnew hmin hmax hinj frame
  refine ⟨?whole, fun hfd h52 => doridCheck_doridFrame hl hid hseq hnew hmin hmax hinj (.inr ⟨hfd, ?padded⟩)⟩
  case whole => simpa using doridCheck_doridFrame hl hid hseq hnew hmin hmax hinj (.inl rfl)
  case padded =>
    have hle := le_fdLength (n := 12 + l.length) (by omega)
    rw [List.length_replicate, doridFrame_length]
    omega

end

section
/-!
PROOFS of the statements about the whole machine: every command answers a next state and leaves the queue alone, and what the
commands that burn may do to the OTP store (R443 to R447).
-/

namespace Sys2Proof.Machine

/-! ## Burns of the OTP store -/

/-- One burn of the OTP store: a record that is lost or written, fuses, the revocation of a firmware key, a key slot provisioned or
fused off (R443 to R447, R390). -/
inductive Otp.Burn (o : Otp) : Otp → Prop
  | recordLost (g : Nat) :
    Burn o { o with records := o.records.modify (g - 1) fun r => { r with used := true, intact := false } }
  | record (g : Nat) (r : OtpRecord) (hu : r.used = true) (hi : (o.records.getD (g - 1) {}).invalid = true → r.invalid = true) :
    Burn o { o with records := o.records.set (g - 1) r }
  | fuses (n : Nat) : Burn o (o.burnFuses n)
  | fwKey (x : Bank) : Burn o (o.revokeKey x)
  | provision (k : Nat) (v : BitVec 256) :
    Burn o { o with keys := o.keys.modify k fun old => old ||| v, provisioned := o.provisioned ||| slotBit k }
  | revoke (k : Nat) (hk : k ≤ 3) :
    Burn o { o with keys := o.keys.modify k fun _ => BitVec.allOnes 256, revoked := o.revoked ||| slotBit k }

theorem Otp.Grows.refl (o : Otp) : o.Grows o :=
  ⟨fun _ => id, fun _ => id, fun _ => id, fun _ => id, fun _ _ => id, fun _ => id, fun _ => id⟩

theorem Otp.Grows.trans {a b c : Otp} (h : a.Grows b) (h' : b.Grows c) : a.Grows c := by
  obtain ⟨hf, hw, hr, hp, hk, hu, hi⟩ := h
  obtain ⟨hf', hw', hr', hp', hk', hu', hi'⟩ := h'
  exact ⟨fun k x => hf' k (hf k x), fun k x => hw' k (hw k x), fun k x => hr' k (hr k x), fun k x => hp' k (hp k x),
    fun k b x => hk' k b (hk k b x), fun k x => hu' k (hu k x), fun k x => hi' k (hi k x)⟩

theorem getLsbD_or_left {w : Nat} {x : BitVec w} (y : BitVec w) {k : Nat} (h : x.getLsbD k = true) :
    (x ||| y).getLsbD k = true := by
  rw [BitVec.getLsbD_or, h, Bool.true_or]

/-- A property of the entry read at a place is kept by an update of the list that keeps it in every entry and, out of range, in
the default. -/
theorem getD_modify_imp {l : List α} {f : α → α} {d : α} {p : α → Prop} (j k : Nat) (h : ∀ x, p x → p (f x))
    (hk : p (l.getD k d)) : p ((l.modify j f).getD k d) := by
  rw [List.getD_eq_getElem?_getD, List.getElem?_modify] at *
  cases hx : l[k]? with
  | none => simpa [hx] using hk
  | some x =>
    rw [hx] at hk
    by_cases hj : j = k
    · simpa [hj] using h x hk
    · simpa [hj] using hk

theorem getD_set_imp {l : List α} {d r : α} {p : α → Prop} (j k : Nat) (h : p (l.getD j d) → p r) (hk : p (l.getD k d)) :
    p ((l.set j r).getD k d) := by
  rw [List.getD_eq_getElem?_getD, List.getElem?_set]
  split
  · next hj =>
    subst hj
    split
    · exact h hk
    · next hl => rwa [List.getD_eq_getElem?_getD, List.getElem?_eq_none (by omega)] at hk
  · rwa [← List.getD_eq_getElem?_getD]

/-- No burn takes a bit back (R443). -/
theorem Otp.Burn.grows {o o' : Otp} (h : o.Burn o') : o.Grows o' := by
  obtain ⟨hf, hw, hr, hp, hk, hu, hi⟩ := Otp.Grows.refl o
  cases h with
  | recordLost g =>
    exact ⟨hf, hw, hr, hp, hk, fun k => getD_modify_imp (p := fun r : OtpRecord => r.used = true) _ k fun _ _ => rfl,
      fun k => getD_modify_imp (p := fun r : OtpRecord => r.invalid = true) _ k fun _ h => h⟩
  | record g r hru hri =>
    exact ⟨hf, hw, hr, hp, hk, fun k => getD_set_imp (p := fun r : OtpRecord => r.used = true) _ k fun _ => hru,
      fun k => getD_set_imp (p := fun r : OtpRecord => r.invalid = true) _ k hri⟩
  | fuses n => exact ⟨fun k => getLsbD_or_left _, hw, hr, hp, hk, hu, hi⟩
  | fwKey x =>
    unfold Otp.revokeKey
    split
    · exact ⟨hf, fun k => getLsbD_or_left _, hr, hp, hk, hu, hi⟩
    · exact Otp.Grows.refl o
  | provision k v =>
    exact ⟨hf, hw, hr, fun k => getLsbD_or_left _,
      fun j b => getD_modify_imp (p := fun x : BitVec 256 => x.getLsbD b = true) _ j fun _ => getLsbD_or_left _, hu, hi⟩
  | revoke k _ =>
    refine ⟨hf, hw, fun k => getLsbD_or_left _, hp,
      fun j b => getD_modify_imp (p := fun x : BitVec 256 => x.getLsbD b = true) _ j fun x hx => ?_, hu, hi⟩
    rw [BitVec.getLsbD_allOnes, decide_eq_true (BitVec.lt_of_getLsbD hx)]

theorem getLsbD_slotBit (k j : Nat) (hj : j < 4) : (slotBit k).getLsbD j = decide (k = j) := by
  rw [slotBit, BitVec.getLsbD_ofNat, Nat.testBit_two_pow]
  simp [hj]

/-- Fuses 0 to n - 1 burned leave no gap where there was none (R446). -/
theorem Otp.burnFuses_fusesLegal {o : Otp} (n : Nat) (h : o.fusesLegal) : (o.burnFuses n).fusesLegal := by
  intro k hk hb
  simp only [Otp.burnFuses, BitVec.getLsbD_or, BitVec.getLsbD_ofNat, Nat.testBit_two_pow_sub_one, Bool.or_eq_true,
    Bool.and_eq_true, decide_eq_true_eq] at hb ⊢
  exact hb.imp (h k hk) fun hn => ⟨by omega, by omega⟩

/-- Every burn leaves the store as the rules allow it (R443 to R447). -/
theorem Otp.Burn.legal {o o' : Otp} (h : o.Burn o') (hl : o.Legal) : o'.Legal := by
  obtain ⟨hf, hk, hn, hr⟩ := hl
  cases h with
  | recordLost g => exact ⟨hf, hk, hn, (List.length_modify ..).trans hr⟩
  | record g r _ _ => exact ⟨hf, hk, hn, List.length_set.trans hr⟩
  | fuses n => exact ⟨Otp.burnFuses_fusesLegal n hf, hk, hn, hr⟩
  | fwKey x =>
    unfold Otp.revokeKey
    split
    · exact ⟨hf, hk, hn, hr⟩
    · exact ⟨hf, hk, hn, hr⟩
  | provision k v =>
    refine ⟨hf, fun j hj hb => ?_, (List.length_modify ..).trans hn, hr⟩
    exact getD_modify_imp (p := fun x => x = BitVec.allOnes 256) _ j (fun x hx => by rw [hx, BitVec.allOnes_or]) (hk j hj hb)
  | revoke k hk3 =>
    refine ⟨hf, fun j hj hb => ?_, (List.length_modify ..).trans hn, hr⟩
    have hb' : o.revoked.getLsbD j = true ∨ k = j := by
      simpa [BitVec.getLsbD_or, getLsbD_slotBit k j hj] using hb
    obtain hb' | rfl := hb'
    · exact getD_modify_imp (p := fun x => x = BitVec.allOnes 256) _ j (fun _ _ => rfl) (hk j hj hb')
    · simp [List.getD_eq_getElem?_getD, List.getElem?_eq_getElem (show k < o.keys.length by omega)]

/-! ## What a command leaves of the queue and of the store -/

/-- The queue and the store are as they were. -/
def State.Same (s t : State) : Prop := t.pending = s.pending ∧ t.otp = s.otp

/-- The queue is as it was, and the store has taken burns alone. -/
def State.Burns (s t : State) : Prop := t.pending = s.pending ∧ Relation.ReflTransGen Otp.Burn s.otp t.otp

/-- A relation between states that every change of the device alone is in, and that runs of operations are in with each of them. -/
structure DevRel (R : State → State → Prop) : Prop where
  dev : ∀ (s : State) (d : Device), R s { s with dev := d }
  trans : ∀ {s t u : State}, R s t → R t u → R s u

theorem same_devRel : DevRel State.Same where
  dev _ _ := ⟨rfl, rfl⟩
  trans h h' := ⟨h'.1.trans h.1, h'.2.trans h.2⟩

theorem burns_devRel : DevRel State.Burns where
  dev _ _ := ⟨rfl, .refl⟩
  trans h h' := ⟨h'.1.trans h.1, h.2.trans h'.2⟩

theorem State.Same.burns {s t : State} (h : s.Same t) : s.Burns t := ⟨h.1, h.2 ▸ .refl⟩

theorem Otp.Burn.burns {s : State} {o : Otp} (h : s.otp.Burn o) : s.Burns { s with otp := o } := ⟨rfl, .single h⟩

@[simp] theorem State.same_self (s : State) : s.Same s := ⟨rfl, rfl⟩

@[simp] theorem State.same_dev (s : State) (d : Device) : s.Same { s with dev := d } := ⟨rfl, rfl⟩

@[simp] theorem State.same_onDev (f : Device → Device) (s : State) : s.Same (s.onDev f) := s.same_dev (f s.dev)

@[simp] theorem State.same_ite {c : Prop} [Decidable c] {s t u : State} :
    s.Same (if c then t else u) ↔ (c → s.Same t) ∧ (¬ c → s.Same u) := by split <;> simp [*]

theorem rel_ite {R : State → State → Prop} {c : Prop} [Decidable c] {s t u : State} (ht : R s t) (hu : R s u) :
    R s (if c then t else u) := by split <;> assumption

section
variable {R : State → State → Prop} (hR : DevRel R)
include hR

/-- An operation over a path, taken or turned away. -/
theorem DevRel.hostWrite {q : Path} {lvl : ObjLevel} {inFault : Bool} {f : State → W32 × State} {s : State}
    (hf : ∀ t, R t (f t).2) : R s (hostWrite q lvl inFault f s) := by
  have htouch := hR.dev s (touchPath q s.dev)
  unfold Machine.hostWrite
  split
  · exact hR.dev s s.dev
  · dsimp only
    split
    · exact hR.dev s _
    split
    · exact hR.dev s _
    split
    · exact hR.dev s _
    split
    · exact hR.dev s _
    · exact hR.trans htouch (hR.trans (hf _) (hR.dev ..))

theorem DevRel.hostRead {q : Path} {lvl : ObjLevel} {f : State → W32 × List Byte × State} {s : State}
    (hf : ∀ t, R t (f t).2.2) : R s (hostRead q lvl f s) := by
  have htouch := hR.dev s (touchPath q s.dev)
  unfold Machine.hostRead
  split
  · exact hR.dev s s.dev
  · dsimp only
    split
    · exact hR.dev s _
    split
    · exact hR.dev s _
    split
    · exact hR.dev s _
    · exact hR.trans htouch (hR.trans (hf _) (hR.dev ..))

/-- A burn that the checks of R445 precede. -/
theorem DevRel.beforeBurn {f : State → W32 × State} {s : State} (hf : R s (f s).2) : R s (beforeBurn f s).2 := by
  unfold Machine.beforeBurn
  split
  · exact hf
  · exact hR.dev s _

/-- A Hokuith datagram, discarded, repeated or served. -/
theorem DevRel.ethServe {h : UdpHead} {f : State → State} {s : State} (hf : R s (f s)) : R s (ethServe h f s) := by
  unfold Machine.ethServe
  split
  · exact hR.dev s s.dev
  split
  · exact hf
  · exact hR.dev s _

theorem DevRel.hkDatagram {op : Nat} {ip : BitVec 32} {port : BitVec 16} {b : List Byte}
    {f : Option (List Byte) → HkAnswer → List Byte → State → State} {s : State} (hf : ∀ key a l t, R t (f key a l t)) :
    R s (hkDatagram op ip port b f s) := by
  have htouch := hR.dev s (touchPath (.hk ip port) s.dev)
  unfold Machine.hkDatagram
  refine rel_ite (hR.dev s _) ?_
  split
  · exact hR.dev s _
  dsimp only
  split
  · exact hR.dev s _
  · exact rel_ite (hR.dev s _) (rel_ite (hR.dev s _) (hR.trans htouch (hf ..)))

/-- A run of items, each on its own (R378). -/
theorem DevRel.hkRun {q : Path} {opened : ObjLevel → Bool} {op : Nat} (hf : ∀ i t, R t (hkItem q opened op i t).2.2)
    (l : List HkItem) (s : State) : R s (hkRun q opened op l s).2.2 := by
  induction l generalizing s with
  | nil => exact hR.dev s s.dev
  | cons i l ih => exact hR.trans (hf i s) (ih _)

theorem DevRel.hkObjects {op : Nat} {ip : BitVec 32} {port : BitVec 16} {b : List Byte} {s : State}
    (hf : ∀ opened i t, R t (hkItem (.hk ip port) opened op i t).2.2) : R s (hkObjects op ip port b s) := by
  refine hR.hkDatagram fun key a l t => ?_
  split
  · exact hR.dev t _
  · next items _ =>
    unfold hkItemsRun
    exact rel_ite (hR.dev t _) (rel_ite (hR.dev t _) (hR.trans (hR.hkRun (hf _) items t) (hR.dev ..)))

end

/-! ## Operations that touch the device alone -/

@[simp] theorem same_devCmd (f : Device → W32 × Device) (s : State) : s.Same (devCmd f s).2 := s.same_dev _

@[simp] theorem same_hostWrite_devCmd (q : Path) (lvl : ObjLevel) (inFault : Bool) (f : Device → W32 × Device) (s : State) :
    s.Same (hostWrite q lvl inFault (devCmd f) s) := same_devRel.hostWrite fun t => same_devCmd f t

@[simp] theorem same_writeModuleCmd (q : Path) (code : Nat) (s : State) : s.Same (writeModuleCmd q code s) :=
  same_hostWrite_devCmd ..

@[simp] theorem same_writeCommit (q : Path) (code : Nat) (s : State) : s.Same (writeCommit q code s) :=
  same_hostWrite_devCmd ..

@[simp] theorem same_writeInj (q : Path) (code : Nat) (s : State) : s.Same (writeInj q code s) := same_hostWrite_devCmd ..

@[simp] theorem same_bistRun (t k : Nat) (f : Device → Device) (s : State) : s.Same (bistRun t k f s) := by
  simp only [bistRun, State.same_ite, State.same_onDev, State.same_self, implies_true, and_self]

theorem same_cmdSessOpen (q : Path) (l : List Byte) (s : State) : s.Same (cmdSessOpen q l s).2 := by
  simp only [cmdSessOpen]
  split
  · exact s.same_self
  split
  · exact s.same_self
  split
  · exact s.same_self
  split
  · exact s.same_dev _
  · exact s.same_onDev _

theorem same_cmdSessProof (q : Path) (l : List Byte) (s : State) : s.Same (cmdSessProof q l s).2 := by
  simp only [cmdSessProof]
  split
  · exact s.same_self
  split
  · exact s.same_self
  split
  · exact s.same_dev _
  · exact s.same_dev _

theorem same_cmdAttest (l : List Byte) (s : State) : s.Same (cmdAttest l s).2 := by
  simp only [cmdAttest]
  split
  · exact s.same_self
  split
  · exact s.same_self
  split
  · exact s.same_self
  · exact s.same_onDev _

@[simp] theorem same_popEvent (s : State) : s.Same (popEvent s).2.2 := by
  unfold popEvent
  split
  · exact s.same_self
  · exact s.same_onDev _

theorem same_readValue (q : Path) (r : ObjRow) (ix sub dflt : Nat) (s : State) : s.Same (readValue q r ix sub dflt s).2.2 := by
  simp only [readValue]
  split
  · exact s.same_onDev _
  · split <;> simp

theorem same_readItem (q : Path) (opened : ObjLevel → Bool) (ix sub : Nat) (s : State) :
    s.Same (readItem q opened ix sub s).2.2 := by
  unfold readItem
  split
  · exact s.same_self
  split
  · exact s.same_self
  · exact same_readValue ..

theorem same_readBlock (q : Path) (opened : ObjLevel → Bool) (ix sub start len : Nat) (s : State) :
    s.Same (readBlock q opened ix sub start len s).2.2 := by
  have h : s.Same (if blockOnly ix sub then
      match s.blockBytes ix sub with
      | some l => (Abort.ok, l, s)
      | none => (Abort.noData, [], s)
    else readItem q opened ix sub s).2.2 := by
    split
    · split <;> exact s.same_self
    · exact same_readItem ..
  unfold readBlock
  split
  · exact s.same_self
  · generalize (if blockOnly ix sub then _ else readItem q opened ix sub s) = t at h ⊢
    dsimp only
    split
    · exact h
    · split <;> exact h

theorem same_tpdoTake (q : Path) (l : List (Nat × Nat × Nat)) (s : State) : s.Same (tpdoTake q l s).2 := by
  induction l generalizing s with
  | nil => exact s.same_self
  | cons e l ih =>
    obtain ⟨ix, sub, n⟩ := e
    exact same_devRel.trans (same_readItem ..) (ih _)

theorem same_hkRead (ip : BitVec 32) (port : BitVec 16) (b : List Byte) (s : State) {op : Nat} (h2 : op ≠ 2) :
    s.Same (hkObjects op ip port b s) := by
  refine same_devRel.hkObjects fun opened i t => ?_
  unfold hkItem
  rw [if_neg h2]
  split
  · exact same_readItem ..
  · exact same_readBlock ..

/-- The answer to a session opcode changes the device alone. -/
theorem same_hkSessionAnswer {ip : BitVec 32} {port : BitVec 16} {key : Option (List Byte)} {a : HkAnswer} {l : List Byte}
    {r : W32 × State} {s : State} (h : s.Same r.2) : s.Same (hkSessionAnswer ip port key a l r) :=
  same_devRel.trans h (r.2.same_dev _)

theorem same_hkOpenRequest (ip : BitVec 32) (port : BitVec 16) (b : List Byte) (s : State) : s.Same (hkOpenRequest ip port b s) := by
  refine same_devRel.hkDatagram fun key a l t => ?_
  exact rel_ite (t.same_onDev _) (rel_ite (t.same_onDev _) (same_hkSessionAnswer (same_cmdSessOpen ..)))

theorem same_hkProof (ip : BitVec 32) (port : BitVec 16) (b : List Byte) (s : State) : s.Same (hkProof ip port b s) := by
  refine same_devRel.hkDatagram fun key a l t => ?_
  exact rel_ite (t.same_onDev _) (rel_ite (t.same_onDev _) (same_hkSessionAnswer (same_cmdSessProof ..)))

theorem same_hkClose (ip : BitVec 32) (port : BitVec 16) (b : List Byte) (s : State) : s.Same (hkClose ip port b s) := by
  refine same_devRel.hkDatagram fun key a l t => ?_
  exact rel_ite (t.same_onDev _) (rel_ite (t.same_onDev _) (t.same_onDev _))

/-- A request over the commissioning connection. -/
theorem same_commRequest {op xact : Nat} {f : State → CommAnswer × State} {s : State} (hf : ∀ t : State, t.Same (f t).2) :
    s.Same (commRequest op xact f s) := by
  unfold commRequest
  split
  · exact s.same_self
  · next q _ _ =>
    have htouch : s.Same { s with dev := commAlive (touchPath q s.dev) } := s.same_dev _
    refine rel_ite s.same_self (rel_ite ?_ (rel_ite ?_ ?_))
    · exact s.same_dev _
    · exact s.same_dev _
    · exact same_devRel.trans (same_devRel.trans htouch (hf _)) (State.same_onDev _ _)

theorem same_commWrite (ix sub : Nat) (l : List Byte) (s : State) : s.Same (commWrite ix sub l s).2 := by
  unfold commWrite
  split
  · exact s.same_self
  dsimp only
  split
  · exact s.same_self
  split
  · exact s.same_self
  · exact s.same_dev _

theorem same_commRead (q : Path) (ix sub : Nat) (s : State) : s.Same (commRead q ix sub s).2 := by
  unfold commRead
  split
  · split <;> exact s.same_self
  · dsimp only
    split <;> exact same_readItem ..

theorem same_commCheck (s : State) : s.Same (commCheck s).2 := by
  unfold commCheck
  split
  · exact s.same_self
  · split <;> exact s.same_onDev _

theorem same_commConfirm (v : W32) (s : State) : s.Same (commConfirm v s).2 := by
  unfold commConfirm
  dsimp only
  split
  · exact s.same_self
  split
  · exact s.same_self
  split
  · exact s.same_self
  · exact same_devRel.beforeBurn (s.same_onDev _)

theorem same_proofEnter (s : State) : s.Same (proofEnter s).2 := by
  unfold proofEnter
  split
  · exact s.same_onDev _
  · exact s.same_self

theorem same_proofLeave (s : State) : s.Same (proofLeave s).2 := by
  unfold proofLeave
  split
  · exact s.same_onDev _
  · exact s.same_self

theorem same_isoRead (item seq source : Nat) (s : State) : s.Same (isoRead item seq source s) := by
  unfold isoRead
  split
  · exact s.same_onDev _
  · split <;> exact s.same_onDev _

theorem same_isoWrite (item seq source v : Nat) (s : State) : s.Same (isoWrite item seq source v s) := by
  unfold isoWrite
  split
  · exact s.same_onDev _
  split
  · exact s.same_onDev _
  · exact s.same_onDev _
  split
  · exact s.same_onDev _
  · exact rel_ite (s.same_dev _) (s.same_dev _)

/-! ## Operations that burn -/

theorem burns_cmdKeyProvision (l : List Byte) (s : State) : s.Burns (cmdKeyProvision l s).2 := by
  unfold cmdKeyProvision
  dsimp only
  split
  · exact s.same_self.burns
  split
  · exact s.same_self.burns
  split
  · exact s.same_self.burns
  split
  · exact s.same_self.burns
  · exact burns_devRel.beforeBurn (Otp.Burn.provision ..).burns

theorem burns_cmdKeyRevoke (k : Nat) (s : State) : s.Burns (cmdKeyRevoke k s).2 := by
  unfold cmdKeyRevoke
  split
  · exact s.same_self.burns
  split
  · exact s.same_self.burns
  · exact burns_devRel.beforeBurn (Otp.Burn.revoke k (by omega)).burns

theorem burns_cmdFwAccept (steps : Nat) (burned : Bool) (s : State) : s.Burns (cmdFwAccept steps burned s).2 := by
  unfold cmdFwAccept
  dsimp only
  split
  · exact (s.same_onDev _).burns
  have hfuses := (Otp.Burn.fuses (o := s.otp)
    (s.otp.arCount + min steps ((s.dev.fw.bank s.dev.fw.running).secVer - s.otp.arCount))).burns
  split
  · exact burns_devRel.trans hfuses (burns_devRel.dev ..)
  split
  · exact hfuses
  · exact burns_devRel.trans hfuses (burns_devRel.trans (Otp.Burn.fwKey _).burns (burns_devRel.dev ..))

theorem burns_cmdFw (code steps : Nat) (burned : Bool) (s : State) : s.Burns (cmdFw code steps burned s).2 := by
  unfold cmdFw
  split
  · exact s.same_self.burns
  split
  · exact s.same_self.burns
  split
  case h_4 => exact burns_devRel.beforeBurn (burns_cmdFwAccept ..)
  all_goals exact (same_devCmd _ s).burns

/-- FW_CMD other than the accept burns nothing. -/
theorem same_writeFw (q : Path) {code : Nat} (steps : Nat) (burned : Bool) (s : State) (h : code ≠ 4) :
    s.Same (writeFw q code steps burned s) := by
  refine same_devRel.hostWrite fun t => ?_
  unfold cmdFw
  split
  · exact t.same_self
  split
  · exact t.same_self
  split
  case h_4 => exact absurd rfl h
  all_goals exact same_devCmd _ t

theorem burns_onOwnPath (q : Path) (f : PathState → PathState) (s : State) : s.Burns (onOwnPath q f s).2 := (s.same_onDev _).burns

theorem burns_writeLive (q : Path) (ix sub v : Nat) (l : List Byte) (s : State) : s.Burns (writeLive q ix sub v l s).2 := by
  have hdev (f : Device → W32 × Device) : s.Burns (devCmd f s).2 := (same_devCmd f s).burns
  unfold writeLive
  dsimp only
  split
  · exact hdev _
  split
  · exact hdev _
  split
  · exact hdev _
  split
  case h_25 => exact (same_cmdSessOpen ..).burns
  case h_26 => exact (same_cmdSessProof ..).burns
  case h_28 => exact burns_cmdKeyProvision ..
  case h_29 => exact burns_cmdKeyRevoke ..
  case h_35 => exact burns_cmdFw ..
  case h_38 => exact (same_cmdAttest ..).burns
  case h_24 | h_30 | h_31 | h_32 | h_33 => exact burns_onOwnPath q _ s
  all_goals exact hdev _

theorem burns_writeItem (q : Path) (opened : ObjLevel → Bool) (ix sub : Nat) (l : List Byte) (s : State) :
    s.Burns (writeItem q opened ix sub l s).2 := by
  unfold writeItem
  split
  · exact s.same_self.burns
  split
  · exact (same_devCmd _ s).burns
  · exact burns_writeLive ..

theorem burns_pathWrite (q : Path) (ix sub : Nat) (l : List Byte) (s : State) : s.Burns (pathWrite q ix sub l s) := by
  unfold pathWrite
  refine rel_ite s.same_self.burns (rel_ite (burns_devRel.dev ..) ?_)
  exact burns_devRel.trans (burns_devRel.dev s _) (burns_devRel.trans (burns_writeItem ..) (burns_devRel.dev ..))

theorem burns_usdoWrite (q : Path) (ix sub : Nat) (l : List Byte) (s : State) : s.Burns (usdoWrite q ix sub l s) :=
  burns_devRel.trans (burns_writeItem ..) (burns_devRel.dev ..)

theorem burns_usdoSegment (q : Path) (l : List Byte) (last : Bool) (s : State) : s.Burns (usdoSegment q l last s) := by
  unfold usdoSegment
  split
  · exact rel_ite (burns_devRel.dev ..) (rel_ite (burns_devRel.dev ..) (rel_ite (burns_usdoWrite ..) (burns_devRel.dev ..)))
  · exact burns_devRel.dev ..

theorem burns_usdo (q : Path) (r : UsdoRequest) (s : State) : s.Burns (usdo q r s) := by
  refine burns_devRel.trans (burns_devRel.dev s (touchPath q s.dev)) ?_
  refine rel_ite (burns_devRel.dev ..) ?_
  cases r with
  | read ix sub => exact burns_devRel.trans (same_readItem ..).burns (burns_devRel.dev ..)
  | write ix sub l => exact burns_usdoWrite ..
  | segment l last => exact burns_usdoSegment ..
  | writeStart ix sub total l => exact burns_devRel.dev ..
  | readSegment => exact burns_devRel.dev ..
  | abort => exact burns_devRel.dev ..
  | badSpecifier => exact burns_devRel.dev ..

theorem burns_rpdoTake (q : Path) (l : List (Nat × Nat × Nat)) (b : List Byte) (s : State) : s.Burns (rpdoTake q l b s) := by
  induction l generalizing b s with
  | nil => exact s.same_self.burns
  | cons e l ih =>
    obtain ⟨ix, sub, n⟩ := e
    exact burns_devRel.trans (burns_writeItem ..) (ih _ _)

theorem burns_hkWrite (ip : BitVec 32) (port : BitVec 16) (b : List Byte) (s : State) : s.Burns (hkObjects 2 ip port b s) :=
  burns_devRel.hkObjects fun opened i t => burns_writeItem _ opened i.1 i.2.1 i.2.2.2.2 t

theorem burns_burnLost (s : State) : s.otp = burnLost s ∨ s.otp.Burn (burnLost s) := by
  unfold burnLost
  split
  · exact .inr (.recordLost _)
  · exact .inl rfl

theorem burns_burnDone (good : Bool) (s : State) : s.Burns (burnDone good s) := by
  unfold burnDone
  split
  · exact s.same_self.burns
  · next img g pp tool _ =>
    refine burns_devRel.trans (Otp.Burn.record g _ ?_ ?_).burns (burns_devRel.dev ..)
    · cases good <;> rfl
    · cases good
      · exact fun _ => rfl
      · exact id

/-! ## Every command -/

/-- The commands that may burn: the loss of LOGIC_IN, the end of a commissioning burn, the accept of a bank, the key slots, and the
rows that carry a write of an object. -/
def Instr.mayBurn : Instr → Bool
  | .logicInLoss | .commBurnDone _ | .fwCmdAccept .. | .keyProvision .. | .keyRevoke .. | .stagedWrite .. | .liveWrite ..
  | .usdoRequest .. | .rpdoRx .. | .hkWrite .. => true
  | _ => false

theorem exec_burns {c : Instr} (s : State) (h : Instr.mayBurn c = true) : ∃ t : State, exec c s = .next t ∧ s.Burns t := by
  have hother : ∀ d : Device, s.Burns { s with dev := d } := burns_devRel.dev s
  unfold Instr.mayBurn at h
  split at h
  · refine ⟨_, rfl, ?_⟩
    obtain hs | hb := burns_burnLost s
    · exact hs ▸ hother (powerOff s.dev)
    · exact burns_devRel.trans hb.burns (burns_devRel.dev ..)
  · exact ⟨_, rfl, burns_burnDone ..⟩
  · exact ⟨_, rfl, burns_devRel.hostWrite fun t => burns_cmdFw ..⟩
  · exact ⟨_, rfl, burns_devRel.hostWrite fun t => burns_cmdKeyProvision ..⟩
  · exact ⟨_, rfl, burns_devRel.hostWrite fun t => burns_cmdKeyRevoke ..⟩
  · exact ⟨_, rfl, burns_pathWrite ..⟩
  · exact ⟨_, rfl, burns_pathWrite ..⟩
  · exact ⟨_, rfl, rel_ite (burns_usdo ..) (hother s.dev)⟩
  · exact ⟨_, rfl, rel_ite (rel_ite (hother s.dev) (burns_rpdoTake ..)) (hother s.dev)⟩
  · exact ⟨_, rfl, burns_devRel.ethServe (burns_hkWrite ..)⟩
  · cases h

theorem exec_same {c : Instr} (s : State) (h : Instr.mayBurn c = false) : ∃ t : State, exec c s = .next t ∧ s.Same t := by
  cases c
  case logicInLoss | commBurnDone | fwCmdAccept | keyProvision | keyRevoke | stagedWrite | liveWrite | usdoRequest | rpdoRx
    | hkWrite => cases h
  all_goals refine ⟨_, rfl, ?_⟩
  case fineResultRead | chanStatusRead | rxEntryRead => exact same_devRel.hostRead fun t => t.same_dev _
  case eventPop => exact same_devRel.hostRead same_popEvent
  case sessOpen => exact same_devRel.hostWrite fun t => same_cmdSessOpen ..
  case sessProof => exact same_devRel.hostWrite fun t => same_cmdSessProof ..
  case attestNonce => exact same_devRel.hostWrite fun t => same_cmdAttest ..
  case fwCmdOpen | fwCmdVerify | fwCmdSelect | fwCmdAbandon => exact same_writeFw _ _ _ s (by decide)
  case tpdoTx => exact rel_ite (same_devRel.trans (same_tpdoTake ..) (State.same_onDev ..)) s.same_self
  case hkRead | hkReadBlock => exact same_devRel.ethServe (same_hkRead _ _ _ s (by decide))
  case hkSessionOpenRequest => exact same_devRel.ethServe (same_hkOpenRequest ..)
  case hkSessionProof => exact same_devRel.ethServe (same_hkProof ..)
  case hkSessionClose => exact same_devRel.ethServe (same_hkClose ..)
  case commIdle => exact same_commRequest fun t => t.same_self
  case commWrite => exact same_commRequest fun t => same_commWrite ..
  case commRead => exact same_commRequest fun t => same_commRead ..
  case commCheck => exact same_commRequest same_commCheck
  case commConfirm => exact same_commRequest fun t => same_commConfirm ..
  case commDiscard => exact same_commRequest fun t => t.same_onDev _
  case proofTestEnter => exact same_commRequest same_proofEnter
  case proofTestLeave => exact same_commRequest same_proofLeave
  case isoPropRead => exact rel_ite (same_isoRead ..) s.same_self
  case isoPropWrite => exact rel_ite (same_isoWrite ..) s.same_self
  case angleTestPulseEnd | angleTestPauseEnd | finTimeout | testvSliceStart | testvSliceEnd | testvSliceAbort | convCarrierPeak
    | llcRestart | sbcOff | captureItem | injDurationEnd => split <;> simp
  case terminalSpeedUpdate | commitIdentityCompare =>
    split
    · split <;> simp
    · exact s.same_self
  case isoAddressClaim | timeRefRx | shadowLockTimeout =>
    split
    · exact s.same_self
    · split <;> simp
  all_goals simp only [State.same_ite, State.same_self, State.same_onDev, same_hostWrite_devCmd, same_writeModuleCmd, same_writeCommit,
    same_writeInj, same_bistRun, implies_true, and_self]

/-- Every command answers a next state; the queue is left alone and the store has taken burns alone. -/
theorem exec_completes (c : Instr) (s : State) : ∃ t : State, exec c s = .next t ∧ s.Burns t := by
  cases h : Instr.mayBurn c with
  | true => exact exec_burns s h
  | false =>
    obtain ⟨t, ht, hs⟩ := exec_same s h
    exact ⟨t, ht, hs.burns⟩

/-- A step burns the store or leaves it. -/
theorem step_burns {s t : State} (h : step s = .next t) : Relation.ReflTransGen Otp.Burn s.otp t.otp := by
  unfold step at h
  split at h
  · cases h
    exact .refl
  · next c rest _ =>
    obtain ⟨u, hu, -, hb⟩ := exec_completes c { s with pending := rest }
    rw [hu] at h
    cases h
    exact hb

theorem Otp.grows_of_burns {o o' : Otp} (h : Relation.ReflTransGen Otp.Burn o o') : o.Grows o' := by
  induction h with
  | refl => exact .refl o
  | tail _ hb ih => exact ih.trans hb.grows

theorem Otp.legal_of_burns {o o' : Otp} (h : Relation.ReflTransGen Otp.Burn o o') (hl : o.Legal) : o'.Legal := by
  induction h with
  | refl => exact hl
  | tail _ hb ih => exact hb.legal ih

end Sys2Proof.Machine

/-! ## The statements -/

open Sys2Proof Sys2Proof.Machine

/-- Settles O60: a step burns the store, and every burn keeps it legal (`Otp.Burn.legal`). -/
theorem otpLegalKept : Obligations.OtpLegalKept := by
  unfold Obligations.OtpLegalKept
  exact fun s t hl h => Otp.legal_of_burns (step_burns h) hl

/-- Settles O59: a step burns the store, and no burn takes a bit back (`Otp.Burn.grows`). -/
theorem otpGrows : Obligations.OtpGrows := by
  unfold Obligations.OtpGrows
  exact fun s t h => Otp.grows_of_burns (step_burns h)

/-- Settles O58: a command that may burn is one of the ten; every other one leaves the store. -/
theorem commandsComplete : Obligations.CommandsComplete := by
  unfold Obligations.CommandsComplete
  intro c s
  cases h : Instr.mayBurn c with
  | false =>
    obtain ⟨t, ht, hp, ho⟩ := exec_same s h
    exact ⟨t, ht, hp, fun _ => ho⟩
  | true =>
    obtain ⟨t, ht, hp, -⟩ := exec_burns s h
    refine ⟨t, ht, hp, fun ⟨h1, h2, h3, h4, h5, h6, h7, h8, h9, h10⟩ => ?_⟩
    unfold Instr.mayBurn at h
    split at h
    · exact absurd rfl h1
    · exact absurd rfl (h2 _)
    · exact absurd rfl (h3 _ _ _)
    · exact absurd rfl (h4 _ _)
    · exact absurd rfl (h5 _ _)
    · exact absurd rfl (h6 _ _ _ _)
    · exact absurd rfl (h7 _ _ _ _)
    · exact absurd rfl (h8 _ _ _)
    · exact absurd rfl (h9 _ _)
    · exact absurd rfl (h10 _ _ _ _)
    · cases h

/-- Settles O55: an empty queue is the first branch of `step`; the state after reset is a literal. -/
theorem idleAndReset : Obligations.IdleAndReset := by
  unfold Obligations.IdleAndReset
  refine ⟨fun s h => ?idle, rfl, ⟨?fuses, ?keys, rfl, rfl⟩, rfl, rfl, by decide +kernel, rfl, rfl, rfl, rfl, by decide +kernel⟩
  case idle => simp [step, h]
  case fuses =>
    intro k _ h
    cases (BitVec.getLsbD_zero.symm.trans h : false = true)
  case keys =>
    intro k _ h
    cases (BitVec.getLsbD_zero.symm.trans h : false = true)

end

section
/-!
PROOFS of the statement about the capture rings (chapter 14): each ring is acted on alone, and an item adds to the open packet
only where room for a gap marker and a header stays.
-/

namespace Sys2Proof.Machine

/-! ## One ring -/

@[simp] theorem CapRing.ready_dropped (top len : Nat) (now : Nanos) (x : CapRing) :
    (x.ready top len now).dropped = x.dropped := by
  unfold CapRing.ready
  split
  · rfl
  · split <;> rfl

/-- A dropped item takes no room that is not there (R373). -/
theorem CapRing.drop_used_le {cap : Nat} (top : Nat) (now : Nanos) (i : CapItem) {x : CapRing} (h : x.used ≤ cap) :
    (x.drop cap top now i).used ≤ cap := by
  have hy : (if (x.ready top i.length now).used ≤ cap then x.ready top i.length now else x).used ≤ cap := by
    split
    · assumption
    · exact h
  exact hy

/-- A dropped item is counted and leaves a gap (R373). -/
theorem CapRing.drop_counts (cap top : Nat) (now : Nanos) (i : CapItem) (x : CapRing) :
    (x.drop cap top now i).dropped = (x.dropped + 1) % 2 ^ 32 ∧ (x.drop cap top now i).gap ≠ none := by
  have hd : (if (x.ready top i.length now).used ≤ cap then x.ready top i.length now else x).dropped = x.dropped := by
    split
    · exact x.ready_dropped top i.length now
    · rfl
  refine ⟨congrArg (addWrap 32 · 1) hd, ?_⟩
  simp only [CapRing.drop]
  split <;> exact Option.some_ne_none _

/-- A release frees a prefix of closed packets whose bytes are those released (R374). -/
theorem releasePackets_prefix {b : Nat} {ps rest : List CapPacket} (h : releasePackets b ps = some rest) :
    ∃ gone : List CapPacket, ps = gone ++ rest ∧ (∀ p ∈ gone, p.closed = true) ∧ b = (gone.map fun p => p.length * 4).sum := by
  induction ps generalizing b with
  | nil =>
    cases b with
    | zero => exact ⟨[], by simpa [releasePackets] using h⟩
    | succ b => simp [releasePackets] at h
  | cons p ps ih =>
    cases b with
    | zero => exact ⟨[], by simpa [releasePackets] using h⟩
    | succ b =>
      rw [releasePackets] at h
      split at h
      · next hp =>
        obtain ⟨hc, hl⟩ : p.closed = true ∧ p.length * 4 ≤ b + 1 := by simpa using hp
        obtain ⟨gone, rfl, hg, hb⟩ := ih h
        refine ⟨p :: gone, rfl, ?_, ?_⟩
        · simpa [hc] using hg
        · rw [List.map_cons, List.sum_cons]
          omega
      · cases h
      · intro h0
        cases h0

/-! ## The rings of the device -/

theorem Device.onRing_ring_ne {n k : Nat} (f : CapRing → CapRing) (d : Device) (h : k ≠ n) :
    (d.onRing k f).ring n = d.ring n := by
  simp [Device.ring, Device.onRing, List.getD_eq_getElem?_getD, h]

theorem Device.onRing_ring {n : Nat} (f : CapRing → CapRing) (d : Device) (h : n < d.net.rings.length) :
    (d.onRing n f).ring n = f (d.ring n) := by
  simp [Device.ring, Device.onRing, List.getD_eq_getElem?_getD, h]

/-- Everything of the device but its rings, and one ring's place. -/
def Device.ringView (n : Nat) (d : Device) : Device × Option CapRing :=
  ({ d with net := { d.net with rings := [] } }, d.net.rings[n]?)

theorem Device.ringView_onRing_ne {n k : Nat} (f : CapRing → CapRing) (d : Device) (h : k ≠ n) :
    (d.onRing k f).ringView n = d.ringView n := by
  simp [Device.ringView, Device.onRing, h]

theorem Device.eq_of_ringView {n : Nat} {d e : Device} (h : e.ringView n = d.ringView n) :
    e.ring n = d.ring n ∧ e.od = d.od ∧ e.ctl = d.ctl ∧ e.net.rings[n]? = d.net.rings[n]? := by
  have hr : e.net.rings[n]? = d.net.rings[n]? := congrArg Prod.snd h
  refine ⟨?_, congrArg (fun v => v.1.od) h, congrArg (fun v => v.1.ctl) h, hr⟩
  simp only [Device.ring, List.getD_eq_getElem?_getD, hr]

/-- What a ring sees acts on that ring alone. -/
theorem ringSees_eq_onRing (taken : Bool) (typ src : Nat) (ws : List W32) (n : Nat) (d : Device) :
    ∃ f : CapRing → CapRing, ringSees taken typ src ws n d = d.onRing n f := by
  have hid : d = d.onRing n id := by simp [Device.onRing]
  unfold ringSees
  split
  · exact ⟨id, hid⟩
  · split
    · exact ⟨id, hid⟩
    · split
      · exact ⟨_, rfl⟩
      · exact ⟨_, rfl⟩

theorem ringSees_ringView_ne {n k : Nat} (taken : Bool) (typ src : Nat) (ws : List W32) (d : Device) (h : k ≠ n) :
    (ringSees taken typ src ws k d).ringView n = d.ringView n := by
  obtain ⟨f, hf⟩ := ringSees_eq_onRing taken typ src ws k d
  rw [hf, Device.ringView_onRing_ne f d h]

theorem each_ringSees_frame (taken : Bool) (typ src : Nat) (ws : List W32) (l : List Nat) (d : Device) :
    d.each l (ringSees taken typ src ws)
      = { d with net := { d.net with rings := (d.each l (ringSees taken typ src ws)).net.rings } } := by
  have h : ((d.each l (ringSees taken typ src ws)).ringView 0).1 = (d.ringView 0).1 :=
    Device.each_keeps (fun d => (d.ringView 0).1) _ (fun n d => by
      obtain ⟨f, hf⟩ := ringSees_eq_onRing taken typ src ws n d
      rw [hf]
      rfl) l d
  exact congrArg (fun e : Device => { e with net := { e.net with
    rings := (d.each l (ringSees taken typ src ws)).net.rings } }) h

/-- A ring that does not run stays as it is (R370). -/
theorem each_ringSees_of_stopped {n : Nat} {d : Device} (taken : Bool) (typ src : Nat) (ws : List W32) (l : List Nat)
    (h : (d.ring n).running = false) : (d.each l (ringSees taken typ src ws)).ring n = d.ring n := by
  refine Device.each_preserves (P := fun e => e.ring n = d.ring n) (fun k e he => ?_) l rfl
  by_cases hk : k = n
  · subst hk
    have : ringSees taken typ src ws k e = e := if_pos (by simp [he, h])
    rw [this, he]
  · rw [(Device.eq_of_ringView (ringSees_ringView_ne taken typ src ws e hk)).1, he]

/-- A running ring takes or drops the item that its decimation lets through (R370, R373). -/
theorem ringSees_of_due {n k decim : Nat} {d : Device} {taken : Bool} {typ src : Nat} {ws : List W32}
    (hr : (d.ring n).running = true) (hs : ringSource d.cfg n typ src = some (k, decim))
    (hd : decim ≤ (d.ring n).decim.getD k 0) :
    ringSees taken typ src ws n d = d.onRing n fun x =>
      let x := { x with decim := x.decim.set k 0 }
      let i : CapItem := { typ, source := src, time := d.now, words := ws }
      if taken then x.take n (Cfg.capSize d.cfg n * 256) (Cfg.capPktWords d.cfg n) d.now i
      else x.drop (Cfg.capSize d.cfg n * 256) (Cfg.capPktWords d.cfg n) d.now i := by
  unfold ringSees
  rw [if_neg (by simp [hr]), hs]
  exact if_neg (Nat.not_lt.mpr hd)

theorem each_ringSees_ring {n k decim : Nat} {d : Device} {taken : Bool} {typ src : Nat} {ws : List W32}
    (hn : n < 16) (hl : n < d.net.rings.length) (hr : (d.ring n).running = true)
    (hs : ringSource d.cfg n typ src = some (k, decim)) (hd : decim ≤ (d.ring n).decim.getD k 0) :
    (d.each (List.range 16) (ringSees taken typ src ws)).ring n =
      let x := { d.ring n with decim := (d.ring n).decim.set k 0 }
      let i : CapItem := { typ, source := src, time := d.now, words := ws }
      if taken then x.take n (Cfg.capSize d.cfg n * 256) (Cfg.capPktWords d.cfg n) d.now i
      else x.drop (Cfg.capSize d.cfg n * 256) (Cfg.capPktWords d.cfg n) d.now i := by
  obtain ⟨y, hy, he⟩ := Device.each_at (f := ringSees taken typ src ws) (Device.ringView n) List.nodup_range
    (List.mem_range.mpr hn) (fun b hb e => ringSees_ringView_ne taken typ src ws e hb) d
  obtain ⟨hring, hod, hctl, hplace⟩ := Device.eq_of_ringView hy
  have hcfg : y.cfg = d.cfg := congrArg (·.inBeat) hod
  have hnow : y.now = d.now := congrArg (·.now) hctl
  have hlen : n < y.net.rings.length :=
    (List.getElem?_eq_some_iff.mp (hplace.trans (List.getElem?_eq_getElem hl))).1
  rw [(Device.eq_of_ringView he).1, ringSees_of_due (hring ▸ hr) (by rw [hcfg]; exact hs) (hring ▸ hd),
    Device.onRing_ring _ _ hlen, hring, hcfg, hnow]

theorem exec_captureItem {typ : Fin 16} {src : Fin 1024} {ws : List W32} {s : State} (taken : Bool)
    (h : s.tapWords typ src = some ws) : exec (.captureItem typ src taken) s
      = .next { s with dev := s.dev.each (List.range 16) (ringSees taken typ src ws) } := by
  show execCaptureItem typ src taken s = _
  unfold execCaptureItem
  rw [h]
  rfl

theorem Device.ring_packets_of_opened_none {d : Device} {n : Nat} (h : (d.ring n).opened = none) : d.packetOver n = false := by
  rw [Device.packetOver, h]
  rfl

/-! ## Release and the stream (R374) -/

theorem cmdCapRelease_ok {n b : Nat} {ps : List CapPacket} {d : Device} (hm : Cfg.capMode d.cfg n = 1)
    (h : releasePackets b (d.ring n).packets = some ps) :
    cmdCapRelease n b d = (Abort.ok, d.onRing n fun x => { x with packets := ps }) := by
  unfold cmdCapRelease
  rw [if_neg (not_not.mpr hm), h]

theorem cmdCapRelease_range {n b : Nat} {d : Device} (hm : Cfg.capMode d.cfg n = 1)
    (h : releasePackets b (d.ring n).packets = none) : cmdCapRelease n b d = (Abort.range, d) := by
  unfold cmdCapRelease
  rw [if_neg (not_not.mpr hm), h]

theorem capStreamSend_nil {n : Nat} {d : Device} (h : (d.ring n).packets = []) : capStreamSend n d = d := by
  unfold capStreamSend
  rw [h]

/-- The oldest closed packet goes out and leaves the ring. -/
theorem capStreamSend_cons {n : Nat} {p : CapPacket} {rest : List CapPacket} {d : Device}
    (h : (d.ring n).packets = p :: rest) (hc : p.closed = true) (hn : n < d.net.rings.length) :
    ((capStreamSend n d).ring n).packets = rest
      ∧ (∃ x : Sent, (capStreamSend n d).net.lastSent = some x ∧ x.port = 3 ∧ x.frame.data = p.bytes n)
      ∧ (capStreamSend n d).ctl = d.ctl ∧ (capStreamSend n d).faults = d.faults := by
  simp only [capStreamSend, h, hc]
  refine ⟨?_, ⟨_, rfl, rfl, rfl⟩, rfl, rfl⟩
  exact congrArg CapRing.packets (Device.onRing_ring (fun x => { x with packets := rest }) d hn)

end Sys2Proof.Machine

/-! ## The statements -/

open Sys2Proof Sys2Proof.Machine

/-- Settles O46: an item is kept only where it fits, a release walks over closed packets, and a ring's operation touches that
ring alone. -/
theorem captureRings : Obligations.CaptureRings := by
  unfold Obligations.CaptureRings
  refine ⟨fun n cap top now e x h => ?takeUsed, fun n cap top now e x h => ?takeDrops, fun b ps rest => releasePackets_prefix,
    fun typ src taken ws s h => ⟨_, exec_captureItem taken h, rfl, rfl, ?others, fun n hn => ?stopped,
      fun n k decim hn hl hr hs hd => ?running⟩,
    fun typ src taken s h => ?noTap,
    fun n p s hp hd => congrArg Host.Outcome.next (if_pos ?late),
    fun n s h => congrArg Host.Outcome.next (if_neg ?notOver),
    fun q n b ps s h hm hr => congrArg Host.Outcome.next (hostWrite_devCmd h (cmdCapRelease_ok hm hr)),
    fun q n b s h hm hr => congrArg Host.Outcome.next (hostWrite_devCmd_refused h (cmdCapRelease_range hm hr)),
    fun n p rest s hup hm hp hc hi hn => ?stream, fun n s h => ?noStream,
    fun q n b s h hm => congrArg Host.Outcome.next (hostWrite_devCmd_refused h (if_pos hm))⟩
  case others =>
    dsimp only
    exact each_ringSees_frame taken typ src ws (List.range 16) s.dev
  case stopped =>
    dsimp only
    exact each_ringSees_of_stopped taken typ src ws (List.range 16) hn
  case running =>
    dsimp only
    exact each_ringSees_ring hn hl hr hs hd
  case takeUsed =>
    simp only [CapRing.take]
    split
    · omega
    · exact CapRing.drop_used_le top now e h
  case takeDrops =>
    rw [CapRing.take, if_neg (by omega)]
    exact CapRing.drop_counts cap top now e x
  case noTap =>
    show execCaptureItem typ src taken s = _
    rw [execCaptureItem, h]
  case late =>
    rw [Device.packetOver, hp]
    exact lasted_of_le rfl hd
  case notOver => simp [Device.ring_packets_of_opened_none h]
  case stream =>
    obtain ⟨hr, ⟨x, hx, hport, hdata⟩, hctl, hf⟩ := capStreamSend_cons hp hc hn
    exact ⟨s.onDev (capStreamSend n), x, congrArg Host.Outcome.next (if_pos ⟨hup, hm, hi⟩), rfl, rfl, hr, hx, hport, hdata,
      hctl, hf⟩
  case noStream =>
    rcases h with h | h
    · exact congrArg Host.Outcome.next ((ite_congr rfl (fun _ => State.onDev_eq_self (capStreamSend_nil h))
        fun _ => rfl).trans (ite_self s))
    · exact congrArg Host.Outcome.next (if_neg (by simp [h]))
end

section
/-!
PROOFS of the statement about the safety inputs and the input functions (chapter 12).
-/

namespace Sys2Proof.Machine

/-! ## Reports below F2 -/

theorem brakeHit_low (f : FaultName) (sc : Scope) {r : Nat} (h : r < 3) (d : Device) : brakeHit f [(sc, r)] d = d := by
  have hp : (ports.filter fun p => [(sc, r)].any fun a => decide (3 ≤ a.2) && a.1.touches p.stage) = [] :=
    List.filter_eq_nil_iff.mpr fun p _ => by simp [h]
  unfold brakeHit
  rw [hp]
  exact ite_self d

/-- A report below F2 records the fault, after the injection's hit, and may report it: it acts on nothing else. -/
theorem raise_low_cases (f : FaultName) (sc : Scope) {r : Nat} (h : r < 2) (d : Device) :
    ∃ fm : FaultMgr, raise f sc r d = { injHit f sc d with faults := fm }
      ∨ raise f sc r d = report 0 f r sc { injHit f sc d with faults := fm } := by
  have hb (acts : List (Scope × Nat)) (ha : acts = [] ∨ acts = [(sc, r)]) (x : Device) :
      brakeHit f acts (x.each acts (reactOne f.latched)) = x := by
    obtain rfl | rfl := ha
    · exact brakeHit_nil f x
    · rw [brakeHit_low f sc (by omega)]
      exact reactOne_low_eq_self f.latched sc h x
  have hfilter (p : Scope × Nat → Bool) : [(sc, r)].filter p = [] ∨ [(sc, r)].filter p = [(sc, r)] := by
    rw [List.filter_singleton]
    cases p (sc, r)
    · exact .inl rfl
    · exact .inr rfl
  unfold raise raiseActs
  dsimp only
  split
  · split
    · exact ⟨_, .inl (hb _ (hfilter _) _)⟩
    · exact ⟨_, .inr (hb _ (.inr rfl) _)⟩
  · exact ⟨_, .inr (hb _ (.inr rfl) _)⟩

/-- A report below F2 leaves the safety core, module control and the gates alone. -/
theorem raise_low_frame (f : FaultName) (sc : Scope) {r : Nat} (h : r < 2) (d : Device) :
    (raise f sc r d).safety = d.safety ∧ (raise f sc r d).ctl = d.ctl ∧ (raise f sc r d).gates = d.gates := by
  obtain ⟨fm, he | he⟩ := raise_low_cases f sc h d
  · simp [he]
  · simp [he]

theorem injHit_inj_subset (f : FaultName) (sc : Scope) (d : Device) {i : Injection}
    (h : i ∈ (injHit f sc d).inj.active) : i ∈ d.inj.active := by
  simp only [injHit] at h
  have hm := List.mem_of_mem_filter h
  split at hm
  · exact hm
  · exact hm

theorem Device.forced_false_of_subset {d e : Device} (hc : e.ctl = d.ctl)
    (hi : ∀ i ∈ e.inj.active, i ∈ d.inj.active) {point arg : Nat} (h : d.forced point arg = false) :
    e.forced point arg = false := by
  simp only [Device.forced, Bool.not_eq_false', List.isEmpty_iff, Device.injected, List.filter_eq_nil_iff] at h ⊢
  intro i hm
  simpa only [Device.now, hc] using h i (hi i hm)

/-- A report forces nothing that was not forced. -/
theorem raise_low_forced (f : FaultName) (sc : Scope) {r : Nat} (h : r < 2) {d : Device} {point arg : Nat}
    (hf : d.forced point arg = false) : (raise f sc r d).forced point arg = false := by
  refine Device.forced_false_of_subset (raise_low_frame f sc h d).2.1 (fun i hi => ?_) hf
  obtain ⟨fm, he | he⟩ := raise_low_cases f sc h d
  · rw [he] at hi
    exact injHit_inj_subset f sc d hi
  · rw [he] at hi
    simp only [report_frame] at hi
    exact injHit_inj_subset f sc d hi

/-! ## A run over a list reaches each place -/

/-- A run over a list comes to one of its places with what the others preserve, and keeps what that place's operation left. -/
theorem Device.each_reaches {R : Device → Device → Prop} (hrefl : ∀ d, R d d) (htrans : ∀ {d e g}, R d e → R e g → R d g)
    {f : α → Device → Device} {a : α} {l : List α} (hl : l.Nodup) (ha : a ∈ l) (hne : ∀ b, b ≠ a → ∀ d, R d (f b d))
    (d : Device) : ∃ x : Device, R d x ∧ R (f a x) (d.each l f) := by
  have hrest (t : List α) (ht : a ∉ t) (y : Device) : R y (y.each t f) := by
    induction t generalizing y with
    | nil => exact hrefl y
    | cons b t ih =>
      obtain ⟨hb, ht⟩ := not_or.mp fun h => ht (List.mem_cons.mpr h)
      exact htrans (hne b (Ne.symm hb) y) (ih ht (f b y))
  induction l generalizing d with
  | nil => cases ha
  | cons b t ih =>
    obtain ⟨hb, ht⟩ := List.nodup_cons.mp hl
    obtain rfl | ha := List.mem_cons.mp ha
    · exact ⟨d, hrefl d, hrest t hb _⟩
    · obtain ⟨x, hx, he⟩ := ih ht ha (f b d)
      exact ⟨x, htrans (hne b (fun h => hb (h ▸ ha)) d) hx, he⟩

/-! ## Safety inputs (R298 to R300) -/

theorem Device.onInput_input_ne {n k : Nat} (f : SafeInput → SafeInput) (d : Device) (h : k ≠ n) :
    (d.onInput k f).safety.inputs[n]? = d.safety.inputs[n]? := by
  simp [Device.onInput, Device.onSafety, h]

theorem Device.onInput_input {n : Nat} (f : SafeInput → SafeInput) {d : Device} (h : n < d.safety.inputs.length) :
    (d.onInput n f).input n = f (d.input n) := by
  simp [Device.input, Device.onInput, Device.onSafety, List.getD_eq_getElem?_getD, h]

/-- One input of the safety core, its settings and module time stay as they are, and no detector is newly forced. -/
structure SameInput (n : Nat) (d e : Device) : Prop where
  ctl : e.ctl = d.ctl
  image : e.safety.image = d.safety.image
  place : e.safety.inputs[n]? = d.safety.inputs[n]?
  forced : ∀ point arg, d.forced point arg = false → e.forced point arg = false

theorem SameInput.refl (n : Nat) (d : Device) : SameInput n d d := ⟨rfl, rfl, rfl, fun _ _ h => h⟩

theorem SameInput.trans {n : Nat} {d e g : Device} (h : SameInput n d e) (h' : SameInput n e g) : SameInput n d g :=
  ⟨h'.ctl.trans h.ctl, h'.image.trans h.image, h'.place.trans h.place, fun p a hf => h'.forced p a (h.forced p a hf)⟩

theorem SameInput.input {n : Nat} {d e : Device} (h : SameInput n d e) : e.input n = d.input n := by
  simp only [Device.input, List.getD_eq_getElem?_getD, h.place]

theorem SameInput.length {n : Nat} {d e : Device} (h : SameInput n d e) (hn : n < d.safety.inputs.length) :
    n < e.safety.inputs.length :=
  (List.getElem?_eq_some_iff.mp (h.place.trans (List.getElem?_eq_getElem hn))).1

theorem sameInput_onInput {n k : Nat} (f : SafeInput → SafeInput) (d : Device) (h : k ≠ n) : SameInput n d (d.onInput k f) :=
  ⟨rfl, rfl, d.onInput_input_ne f h, fun _ _ hf => hf⟩

theorem sameInput_raise (n : Nat) (f : FaultName) (sc : Scope) (d : Device) : SameInput n d (raise f sc 0 d) := by
  obtain ⟨hs, hc, -⟩ := raise_low_frame f sc (Nat.zero_lt_two) d
  exact ⟨hc, congrArg (·.image) hs, congrArg (·.inputs[n]?) hs, fun _ _ => raise_low_forced f sc Nat.zero_lt_two⟩

/-- SI_TEST marks its input and is reported below F2 (R300). -/
theorem siTest_reports {P : Device → Prop} (n : Nat) (d : Device) (hraise : ∀ f sc x, P x → P (raise f sc 0 x))
    (h : P (d.onInput n fun x => { x with test := true, safeSeen := x.test && x.safeSeen })) : P (siTest n d) := by
  simp only [siTest]
  split
  · exact hraise _ _ _ h
  · exact Device.each_preserves (fun k x hx => hraise _ _ x hx) _ h

theorem testPeriod_reports {P : Device → Prop} (n : Nat) (low : Bool) (d : Device)
    (hraise : ∀ f sc x, P x → P (raise f sc 0 x)) (hinput : ∀ f x, P x → P (Device.onInput n f x)) (h : P d) :
    P (testPeriod n low d) := by
  unfold testPeriod
  extract_lets pass x
  split
  · exact siTest_reports n _ hraise (hinput _ _ (hinput _ _ h))
  · exact hinput _ _ h

/-- What the window of a test pulse does to one input (R299). -/
def pulseInput (k : Nat) (low : List Nat) (n : Nat) (d : Device) : Device :=
  if Cfg.siTp d.scfg n = k then testPeriod n (low.contains n) d
  else if Cfg.siTp d.scfg n < 8 ∧ low.contains n then d.onInput n fun x => { x with cross := true }
  else d

theorem testPulse_eq (k : Nat) (low : List Nat) (d : Device) : testPulse k low d =
    (d.onSafety fun x => { x with tpAt := x.tpAt.set k (some d.now) }).each (List.range 16) (pulseInput k low) := rfl

theorem pulseInput_reports {P : Device → Prop} (k : Nat) (low : List Nat) (n : Nat) (d : Device)
    (hraise : ∀ f sc x, P x → P (raise f sc 0 x)) (hinput : ∀ f x, P x → P (Device.onInput n f x)) (h : P d) :
    P (pulseInput k low n d) := by
  unfold pulseInput
  split
  · exact testPeriod_reports n _ d hraise hinput h
  · split
    · exact hinput _ _ h
    · exact h

theorem sameInput_pulseInput {n b : Nat} (k : Nat) (low : List Nat) (h : b ≠ n) (d : Device) :
    SameInput n d (pulseInput k low b d) :=
  pulseInput_reports (P := SameInput n d) k low b d (fun f sc x hx => hx.trans (sameInput_raise n f sc x))
    (fun f x hx => hx.trans (sameInput_onInput f x h)) (SameInput.refl n d)

theorem testPulse_frame (k : Nat) (low : List Nat) (d : Device) : (testPulse k low d).ctl = d.ctl
    ∧ (testPulse k low d).gates = d.gates ∧ (testPulse k low d).safety.tpAt = d.safety.tpAt.set k (some d.now) := by
  let P : Device → Prop := fun e =>
    e.ctl = d.ctl ∧ e.gates = d.gates ∧ e.safety.tpAt = d.safety.tpAt.set k (some d.now)
  rw [testPulse_eq]
  refine Device.each_preserves (P := P) (fun n e he => pulseInput_reports (P := P) k low n e (fun f sc x hx => ?_)
    (fun f x hx => hx) he) _ ⟨rfl, rfl, rfl⟩
  obtain ⟨hs, hc, hg⟩ := raise_low_frame f sc Nat.zero_lt_two x
  exact ⟨hc.trans hx.1, hg.trans hx.2.1, (congrArg (·.tpAt) hs).trans hx.2.2⟩

/-- The pulse of an input's own output comes to it with the input as it was (R299). -/
theorem testPulse_input {n k : Nat} (low : List Nat) {d : Device} (hn : n < 16) (htp : Cfg.siTp d.scfg n = k) :
    ∃ x : Device, SameInput n d x ∧ (testPulse k low d).input n = (testPeriod n (low.contains n) x).input n := by
  obtain ⟨x, hx, he⟩ := Device.each_reaches (SameInput.refl n) SameInput.trans (f := pulseInput k low) List.nodup_range
    (List.mem_range.mpr hn) (fun b hb => sameInput_pulseInput k low hb)
    (d.onSafety fun x => { x with tpAt := x.tpAt.set k (some d.now) })
  have h0 : SameInput n d (d.onSafety fun x => { x with tpAt := x.tpAt.set k (some d.now) }) :=
    ⟨rfl, rfl, rfl, fun _ _ hf => hf⟩
  have hx' : SameInput n d x := h0.trans hx
  have hp : pulseInput k low n x = testPeriod n (low.contains n) x :=
    if_pos ((congrArg (Cfg.siTp · n) hx'.image).trans htp)
  exact ⟨x, hx', hp ▸ he.input⟩

/-- An input that reads low in its window, undisturbed, passes (R299, R300). -/
theorem testPeriod_pass {n : Nat} {d : Device} (hn : n < d.safety.inputs.length) (hc : (d.input n).cross = false)
    (hf : d.forced 0x0C04 n = false) : (testPeriod n true d).input n =
      { d.input n with cross := false, failRun := 0, passRun := (d.input n).passRun + 1 } := by
  have h := Device.onInput_input (fun x => { x with cross := false, failRun := 0, passRun := x.passRun + 1 }) hn
  simp only [testPeriod, hc, hf, Bool.not_false, Bool.and_true, if_true]
  rw [if_neg (by rw [h]; exact Nat.not_succ_le_zero 1), h]

/-- An input that fails again has SI_TEST (R300). -/
theorem testPeriod_fail {n : Nat} {d : Device} (hn : n < d.safety.inputs.length) (hr : 1 ≤ (d.input n).failRun) :
    ((testPeriod n false d).input n).test = true ∧ ((testPeriod n false d).input n).passRun = 0 := by
  have h := Device.onInput_input (fun x => { x with cross := false, failRun := x.failRun + 1, passRun := 0 }) hn
  simp only [testPeriod, Bool.false_and, Bool.false_eq_true, if_false]
  rw [if_pos (by rw [h]; exact Nat.succ_le_succ hr)]
  refine siTest_reports (P := fun e => (e.input n).test = true ∧ (e.input n).passRun = 0) n _
    (fun f sc x hx => by rwa [(sameInput_raise n f sc x).input]) ?_
  rw [Device.onInput_input _ (by simpa [Device.onInput, Device.onSafety] using hn), h]
  exact ⟨rfl, rfl⟩

/-- A level other than the reset input's is taken as it is (R298). -/
theorem levelAccepted_of_ne {n : Nat} {d : Device} (high : Bool) (h : Cfg.resetSi d.scfg ≠ n) :
    levelAccepted n high d = d.onInput n fun x => { x with level := high, levelAt := some d.now } := if_neg h

theorem levelAccepted_reset {n : Nat} {d : Device} (high : Bool) (h : Cfg.resetSi d.scfg = n) :
    levelAccepted n high d = resetInput high (d.onInput n fun x => { x with level := high, levelAt := some d.now }) := if_pos h

/-- The end of a press resets where it lasted from 100 ms to 5 s (R306). -/
theorem resetInput_low {u : Nanos} {d : Device} (hu : d.safety.resetHigh = some u) (hh : d.safety.resetHold = false) :
    (resetInput false d).ctl = d.ctl ∧ (resetInput false d).safety = { d.safety with
      resetHigh := none, resetStuck := false, resetHold := false
      resetDue := d.safety.resetDue || (decide (u + ms 100 ≤ d.now) && decide (d.now ≤ u + ms 5000)) } := by
  simp [resetInput, hu, hh, Device.onSafety]

/-! ## Input functions (R301 to R306) -/

theorem Device.onFn_fn {k : Nat} (f : InputFn → InputFn) {d : Device} (h : k < d.safety.fns.length) :
    (d.onFn k f).fn k = f (d.fn k) := by
  simp [Device.fn, Device.onFn, Device.onSafety, List.getD_eq_getElem?_getD, h]

/-- A two-hand control that times out keeps its demand (R303). -/
theorem twoHandTimeout_eq (k : Nat) (d : Device) : twoHandTimeout k d = d.onSafety fun x => { x with
    fns := x.fns.modify k fun f => { f with handsReady := false, firstHand := none }
    safeLate := if d.handOn k 0 && d.handOn k 1 then (x.safeLate + 1) % 2 ^ 16 else x.safeLate } := by
  simp only [twoHandTimeout, addWrap]
  split <;> rfl

theorem twoHandTimeout_fn {k : Nat} {d : Device} (h : k < d.safety.fns.length) :
    (twoHandTimeout k d).fn k = { d.fn k with handsReady := false, firstHand := none } := by
  rw [twoHandTimeout_eq]
  simp [Device.fn, Device.onSafety, List.getD_eq_getElem?_getD, h]

theorem judge_fails (manual reset : Bool) (x : InputFn) : (x.judge false manual reset).demand = true := rfl

/-- A function that waits for a reset is demanded (R302). -/
theorem judge_waits {cond manual reset : Bool} {x : InputFn} (h : (x.judge cond manual reset).waitReset = true) :
    (x.judge cond manual reset).demand = true := by
  unfold InputFn.judge at h ⊢
  split
  · rfl
  · next hc =>
    rw [if_neg hc] at h
    split
    · next hd => simp_all
    · next hd =>
      rw [if_neg hd] at h
      cases h

theorem twoHand_released {now : Nanos} {a b ra rb latched : Bool} {x : InputFn} (h : ra = true ∧ rb = true) :
    (twoHand now a b ra rb latched x).demand = true := by
  obtain ⟨rfl, rfl⟩ := h
  rfl

/-- Two hands end their demand only when both act in time after both were released (R303). -/
theorem twoHand_ends {now : Nanos} {a b ra rb latched : Bool} {x : InputFn} (hd : x.demand = true)
    (h : (twoHand now a b ra rb latched x).demand = false) : a = true ∧ b = true ∧ ¬(ra = true ∧ rb = true)
      ∧ latched = false ∧ x.handsReady = true ∧ ∀ u : Nanos, x.firstHand = some u → now ≤ u + ms 500 := by
  have hr : ¬(ra = true ∧ rb = true) := fun hr => by simp [twoHand_released hr] at h
  have hr' : (ra && rb) = false := by simpa using hr
  unfold twoHand at h
  simp only [hr', hd, Bool.false_eq_true, if_false, Bool.not_true] at h
  split at h
  · cases h
  next hl =>
  obtain ⟨hl, hh⟩ : latched = false ∧ x.handsReady = true := by simpa using hl
  split at h
  · next hab =>
    obtain ⟨ha, hb⟩ : a = true ∧ b = true := by simpa using hab
    refine ⟨ha, hb, hr, hl, hh, fun u hu => ?_⟩
    rw [hu] at h
    dsimp only at h
    split at h
    · assumption
    · cases h
  · split at h
    · cases h
    · simp [hd] at h

/-- Two hands that are not demanded stay so only while both act (R303). -/
theorem twoHand_stays {now : Nanos} {a b ra rb latched : Bool} {x : InputFn} (hd : x.demand = false)
    (h : (twoHand now a b ra rb latched x).demand = false) :
    a = true ∧ b = true ∧ latched = false ∧ twoHand now a b ra rb latched x = x := by
  have hr : (ra && rb) = false := by
    by_contra hr
    simp [twoHand_released (by simpa using hr : ra = true ∧ rb = true)] at h
  unfold twoHand at h ⊢
  simp only [hr, hd, Bool.false_eq_true, if_false, Bool.not_false, if_true] at h ⊢
  split at h
  · next hab =>
    obtain ⟨⟨ha, hb⟩, hl⟩ : (a = true ∧ b = true) ∧ latched = false := by simpa using hab
    exact ⟨ha, hb, hl, if_pos hab⟩
  · cases h

end Sys2Proof.Machine

/-! ## The statement -/

open Sys2Proof Sys2Proof.Machine

/-- Settles O36: a test pulse meets each input as it was, a report below F2 leaves the safety core alone, and the laws of the
demand follow its branches. -/
theorem safetyInputs : Obligations.SafetyInputs := by
  unfold Obligations.SafetyInputs
  refine ⟨fun n h s h0 hl hd hr => ?level, fun n s h0 hl hd hr => ?resetRise, fun n u s h0 hl hd hr hu hh => ?resetFall,
    fun n h s hc => congrArg Host.Outcome.next (if_neg ?noLevel), fun k l s h0 ha hp => ?pulse,
    fun k l s h => congrArg Host.Outcome.next (if_neg (by simp [h])),
    fun k u s h0 ha hu ht => congrArg Host.Outcome.next (if_pos ⟨h0, ha, .inl ?discLate⟩),
    fun k s h1 h2 => congrArg Host.Outcome.next (if_neg ?noDisc), fun k u s ha hd hu ht => ?hands,
    fun k s h => congrArg Host.Outcome.next (if_neg ?noHands),
    fun u s ha hu ht => congrArg Host.Outcome.next (if_pos ⟨ha, .inl ?stuckLate⟩),
    fun u s hu ht hf => congrArg Host.Outcome.next (if_neg ?notStuck), judge_fails, fun reset x => rfl,
    fun x => ⟨?judgeHolds, ?judgeReset⟩, fun cond manual reset x => judge_waits,
    fun now a b ra rb latched x => twoHand_ends, fun now a b ra rb latched x => twoHand_stays⟩
  case level => exact (congrArg Host.Outcome.next (if_pos ⟨h0, hl, hd⟩)).trans (next_onDev (levelAccepted_of_ne h hr))
  case resetRise =>
    exact (congrArg Host.Outcome.next (if_pos ⟨h0, by simp [hl], hd⟩)).trans (next_onDev (levelAccepted_reset true hr))
  case resetFall =>
    obtain ⟨hctl, hsafety⟩ := resetInput_low (d := s.dev.onInput n fun x => { x with level := false, levelAt := some s.dev.now })
      hu hh
    refine ⟨s.onDev (levelAccepted n false), congrArg Host.Outcome.next (if_pos ⟨h0, by simp [hl], hd⟩),
      State.onDev_pending .., State.onDev_otp .., ?_⟩
    rw [State.onDev_dev, levelAccepted_reset false hr, hctl, hsafety]
    exact ⟨rfl, rfl, rfl, rfl⟩
  case noLevel => rcases hc with hc | hc <;> simp [hc]
  case pulse =>
    obtain ⟨hctl, hgates, htp⟩ := testPulse_frame k (l.map Fin.val) s.dev
    refine ⟨s.onDev (testPulse k (l.map Fin.val)), congrArg Host.Outcome.next (if_pos ⟨h0, ha, hp⟩), State.onDev_pending ..,
      State.onDev_otp .., ?_⟩
    rw [State.onDev_dev]
    refine ⟨hctl, hgates, htp, fun n hn htp hm hc hf => ?passes, fun n hn htp hm hr => ?fails⟩
    case passes =>
      obtain ⟨x, hx, he⟩ := testPulse_input (l.map Fin.val) n.isLt htp
      have hlow : (l.map Fin.val).contains n.val = true := by simpa using List.mem_map.mpr ⟨n, hm, rfl⟩
      rw [hlow, testPeriod_pass (hx.length hn) (hx.input ▸ hc) (hx.forced _ _ hf), hx.input] at he
      rw [he]
      exact ⟨rfl, rfl, rfl⟩
    case fails =>
      obtain ⟨x, hx, he⟩ := testPulse_input (l.map Fin.val) n.isLt htp
      have hlow : (l.map Fin.val).contains n.val = false := by simpa [Fin.val_inj] using hm
      rw [hlow] at he
      rw [he]
      exact testPeriod_fail (hx.length hn) (hx.input ▸ hr)
  case discLate =>
    rw [hu]
    exact decide_eq_true ht
  case noDisc => simp [h1, h2, overdue]
  case hands =>
    refine ⟨s.onDev (twoHandTimeout k), congrArg Host.Outcome.next (if_pos ⟨ha, hd, lasted_of_le hu ht⟩),
      State.onDev_pending .., State.onDev_otp .., ?_⟩
    rw [State.onDev_dev]
    refine ⟨?_, ?_, fun hk => ?_⟩
    · rw [twoHandTimeout_eq]
      rfl
    · rw [twoHandTimeout_eq]
      rfl
    · rw [twoHandTimeout_fn hk]
      exact ⟨rfl, rfl, hd⟩
  case noHands => rcases h with h | h <;> simp [h, lasted]
  case stuckLate =>
    rw [hu]
    exact decide_eq_true ht
  case notStuck =>
    have hms : ms 5000 = 5000000000 := rfl
    simp [hu, hf, overdue, hms, ht]
  case judgeReset => simp [InputFn.judge]
  case judgeHolds =>
    unfold InputFn.judge
    cases x.demand <;> simp
end

section
/-!
PROOFS of the statement about the writes and reads of objects (chapter 15): the checks in their order, and the settings they set.
-/

namespace Sys2Proof.Machine

/-! ## The order of the checks (R386 to R388) -/

theorem objExists_of_find {ix sub : Nat} {r : ObjRow} {j k : Nat} (h : objFind ix sub objTable = some (r, j, k)) :
    objExists ix sub = .ok r := by
  rw [objExists, h]

theorem objExists_of_none {ix sub : Nat} (h : objFind ix sub objTable = none) :
    objExists ix sub = .error (if objHasIndex ix then Abort.noSub else Abort.noIndex) := by
  rw [objExists, h]

section
variable {opened : ObjLevel → Bool} {ix sub : Nat} {l : List Byte} {s : State} {r : ObjRow}

/-- The access of an object forbids its write. -/
def WriteBarred (s : State) (ix sub : Nat) (r : ObjRow) : Prop := r.acc = .ro ∨ (r.acc = .rws ∧ s.dev.ownerSets ix sub = true)

theorem writeCheck_busy (h : s.dev.busy = true) : writeCheck opened ix sub l s = .error Abort.busy := if_pos h

theorem writeCheck_missing (hb : s.dev.busy = false) (h : objFind ix sub objTable = none) :
    writeCheck opened ix sub l s = .error (if objHasIndex ix then Abort.noSub else Abort.noIndex) := by
  simp only [writeCheck, hb, objExists_of_none h, Bool.false_eq_true, if_false]

theorem writeCheck_access (hb : s.dev.busy = false) (h : objExists ix sub = .ok r)
    (hl : opened (s.writeLevel r ix sub (leNat l)) = false) : writeCheck opened ix sub l s = .error Abort.access := by
  simp [writeCheck, hb, h, hl]

theorem writeCheck_readOnly (hb : s.dev.busy = false) (h : objExists ix sub = .ok r)
    (hl : opened (s.writeLevel r ix sub (leNat l)) = true) (hr : WriteBarred s ix sub r) :
    writeCheck opened ix sub l s = .error Abort.readOnly := by
  simp only [writeCheck, hb, h, hl, Bool.false_eq_true, if_false, Bool.not_true]
  exact if_pos hr

section
variable (hb : s.dev.busy = false) (h : objExists ix sub = .ok r)
  (hl : opened (s.writeLevel r ix sub (leNat l)) = true) (hr : ¬WriteBarred s ix sub r)
include hb h hl hr

theorem writeCheck_length (hn : l.length ≠ r.ty.size) : writeCheck opened ix sub l s = .error Abort.length := by
  simp only [writeCheck, hb, h, hl, Bool.false_eq_true, if_false, Bool.not_true]
  exact (if_neg hr).trans (if_pos hn)

theorem writeCheck_range (hn : l.length = r.ty.size) (ho : ∀ n : Nat, r.ty ≠ .octets n) (hv : r.inRange (leNat l) = false) :
    writeCheck opened ix sub l s = .error Abort.range := by
  simp only [writeCheck, hb, h, hl, Bool.false_eq_true, if_false, Bool.not_true, hv, Bool.not_false]
  refine (if_neg hr).trans ((if_neg (not_not.mpr hn)).trans (if_pos ?_))
  cases hty : r.ty with
  | octets n => exact absurd hty (ho n)
  | _ => trivial

/-- A value in range goes on to the check of the mapping objects, then to that of the state. -/
theorem writeCheck_of_inRange (hn : l.length = r.ty.size) (hv : r.inRange (leNat l) = true) :
    writeCheck opened ix sub l s =
      if mapWriteCheck opened ix sub (leNat l) ≠ Abort.ok then .error (mapWriteCheck opened ix sub (leNat l))
      else if s.dev.boot.noBank = true ∨ (s.dev.ctl.state = .fault ∧ (!faultWrite ix sub (leNat l)) = true) then
        .error Abort.state
      else .ok r := by
  simp only [writeCheck, hb, h, hl, Bool.false_eq_true, if_false, Bool.not_true, hv]
  refine (if_neg hr).trans ((if_neg (not_not.mpr hn)).trans (if_neg ?_))
  split <;> simp

theorem writeCheck_map (hn : l.length = r.ty.size) (hv : r.inRange (leNat l) = true)
    (hm : mapWriteCheck opened ix sub (leNat l) ≠ Abort.ok) :
    writeCheck opened ix sub l s = .error (mapWriteCheck opened ix sub (leNat l)) :=
  (writeCheck_of_inRange hb h hl hr hn hv).trans (if_pos hm)

theorem writeCheck_state (hn : l.length = r.ty.size) (hv : r.inRange (leNat l) = true)
    (hm : mapWriteCheck opened ix sub (leNat l) = Abort.ok)
    (hs : s.dev.boot.noBank = true ∨ (s.dev.ctl.state = .fault ∧ faultWrite ix sub (leNat l) = false)) :
    writeCheck opened ix sub l s = .error Abort.state :=
  (writeCheck_of_inRange hb h hl hr hn hv).trans
    ((if_neg (not_not.mpr hm)).trans (if_pos (hs.imp_right fun ⟨hf, hw⟩ => ⟨hf, by simp [hw]⟩)))

theorem writeCheck_ok (hn : l.length = r.ty.size) (hv : r.inRange (leNat l) = true)
    (hm : mapWriteCheck opened ix sub (leNat l) = Abort.ok) (hk : s.dev.boot.noBank = false)
    (hs : s.dev.ctl.state ≠ .fault ∨ faultWrite ix sub (leNat l) = true) : writeCheck opened ix sub l s = .ok r := by
  refine (writeCheck_of_inRange hb h hl hr hn hv).trans ((if_neg (not_not.mpr hm)).trans (if_neg ?_))
  rcases hs with hs | hs <;> simp [hk, hs]

end

theorem readCheck_busy (h : s.dev.busy = true) : readCheck opened ix sub s = .error Abort.busy := if_pos h

theorem readCheck_of_exists (hb : s.dev.busy = false) (h : objExists ix sub = .ok r) :
    readCheck opened ix sub s = if !opened (readLevel r.rd) then .error Abort.access
      else if r.acc = .wo then .error Abort.writeOnly
      else if s.dev.bankless ix sub then .error Abort.state
      else .ok r := by
  simp only [readCheck, hb, h, Bool.false_eq_true, if_false]

end

/-! ## Writes over a path -/

/-- A write over a path that has room is checked and carried out on the device whose path is in use. -/
theorem pathWrite_of_item {q : Path} {ix sub : Nat} {l : List Byte} {s : State} {w : W32 × State}
    (h0 : s.dev.ctl.state ≠ .off) (hb : s.dev.busyOn q = false)
    (hw : writeItem q ((touchPath q s.dev).levelOpen q) ix sub l { s with dev := touchPath q s.dev } = w) :
    pathWrite q ix sub l s = w.2.onDev (answer q w.1 []) := by
  unfold pathWrite
  rw [if_neg h0]
  dsimp only
  rw [if_neg (by rw [touchPath_busyOn, hb]; exact Bool.false_ne_true), hw]
  rfl

theorem pathWrite_busy {q : Path} {ix sub : Nat} {l : List Byte} {s : State} (h0 : s.dev.ctl.state ≠ .off)
    (hb : s.dev.busyOn q = true) : pathWrite q ix sub l s = s.onDev fun d => answer q Abort.busy [] (touchPath q d) := by
  unfold pathWrite
  rw [if_neg h0]
  dsimp only
  exact if_pos ((touchPath_busyOn q q s.dev).trans hb)

theorem writeItem_error {q : Path} {opened : ObjLevel → Bool} {ix sub : Nat} {l : List Byte} {s : State} {e : W32}
    (h : writeCheck opened ix sub l s = .error e) : writeItem q opened ix sub l s = (e, s) := by
  rw [writeItem, h]

theorem writeItem_staged {q : Path} {opened : ObjLevel → Bool} {ix sub : Nat} {l : List Byte} {s : State} {r : ObjRow}
    (h : writeCheck opened ix sub l s = .ok r) (hr : r.acc = .rws) :
    writeItem q opened ix sub l s = devCmd (cmdStage q (ix * 256 + sub) (leNat l)) s := by
  rw [writeItem, h]
  exact if_pos hr

theorem writeItem_live {q : Path} {opened : ObjLevel → Bool} {ix sub : Nat} {l : List Byte} {s : State} {r : ObjRow}
    (h : writeCheck opened ix sub l s = .ok r) (hr : r.acc ≠ .rws) :
    writeItem q opened ix sub l s = writeLive q ix sub (leNat l) l s := by
  rw [writeItem, h]
  exact if_neg hr

theorem cmdStage_ok {q : Path} {d : Device} (key v : Nat) (h : d.stageRefusal q = Abort.ok) :
    cmdStage q key v d = (Abort.ok, stage q key v d) := by
  simp [cmdStage, h]

theorem cmdStage_refused {q : Path} {d : Device} {e : W32} (key v : Nat) (h : d.stageRefusal q = e) (he : e ≠ Abort.ok) :
    cmdStage q key v d = (e, d) := by
  subst h
  exact if_neg he

/-! ## What a set setting reads as (R384) -/

theorem Settings.lookup_insert (S : Settings) (key v k : Nat) :
    (Settings.insert key v S).lookup k = if k = key then some v else S.lookup k := by
  induction S with
  | nil =>
    rw [Settings.insert, lookup_step]
    simp
  | cons e S ih =>
    obtain ⟨j, w⟩ := e
    rw [Settings.insert]
    split
    · rw [lookup_step]
      simp
    · split
      · next hj =>
        subst hj
        rw [lookup_step, lookup_step]
        by_cases hk : k = key <;> simp [hk]
      · next hj =>
        rw [lookup_step, lookup_step, ih]
        by_cases hk : k = key
        · simp [hk, hj]
        · simp [hk]

theorem Settings.lookup_erase (S : Settings) (key k : Nat) :
    (Settings.erase S key).lookup k = if k = key then none else S.lookup k := by
  unfold Settings.erase
  induction S with
  | nil => simp
  | cons e S ih =>
    obtain ⟨j, w⟩ := e
    by_cases hj : j = key
    · rw [List.filter_cons_of_neg (by simp [hj]), ih, lookup_step]
      by_cases hk : k = key <;> simp [hk, hj]
    · rw [List.filter_cons_of_pos (by simp [hj]), lookup_step, lookup_step, ih]
      by_cases hk : k = key
      · simp [hk, Ne.symm hj]
      · simp [hk]

/-- A setting that is set reads as set, and no other changes. -/
theorem Settings.raw_set (S : Settings) {key : Nat} (v : Nat) {r : ObjRow} {j n : Nat}
    (h : objFind (key / 256) (key % 256) objTable = some (r, j, n)) :
    (S.set key v).raw key (r.default j n) = v ∧ ∀ k dflt : Nat, k ≠ key → (S.set key v).raw k dflt = S.raw k dflt := by
  unfold Settings.set Settings.raw
  simp only [h]
  split
  · next hv =>
    simp only [Settings.lookup_erase]
    exact ⟨by simp [hv], fun k dflt hk => by rw [if_neg hk]⟩
  · simp only [Settings.lookup_insert]
    exact ⟨by simp, fun k dflt hk => by rw [if_neg hk]⟩

end Sys2Proof.Machine

/-! ## The statement -/

open Sys2Proof Sys2Proof.Machine

/-- Settles O47: each check is reached once those before it have passed, and a write that passes is staged or takes effect. -/
theorem objectWrites : Obligations.ObjectWrites := by
  unfold Obligations.ObjectWrites
  refine ⟨fun opened ix sub l s hb => ⟨writeCheck_missing hb, fun r j k hf => ?order⟩,
    fun opened ix sub l s hb => ⟨writeCheck_busy hb, readCheck_busy hb⟩,
    fun q ix sub l s h0 hb => ⟨congrArg Host.Outcome.next (pathWrite_busy h0 hb), congrArg Host.Outcome.next (pathWrite_busy h0 hb)⟩,
    fun q ix sub l e s h0 hb hc => ?refused, fun q ix sub l r s h0 hb hr hs hc => ?staged,
    fun q ix sub l r s h0 hb hr hl hq hc => ?locked, fun q ix sub l r s h0 hb hr hc => ?live,
    fun S key v r j n h => S.raw_set v h⟩
  case order =>
    have he := objExists_of_find hf
    refine ⟨writeCheck_access hb he, writeCheck_readOnly hb he, fun hl h1 h2 => ?_, fun hl => ?_, fun hl hw => ?_,
      fun hl hw hk => ?_⟩
    · have hr : ¬WriteBarred s ix sub r := by
        rintro (h | ⟨h, ho⟩)
        · exact h1 h
        · simp [h2 h] at ho
      exact ⟨writeCheck_length hb he hl hr, writeCheck_range hb he hl hr, writeCheck_map hb he hl hr,
        writeCheck_state hb he hl hr, writeCheck_ok hb he hl hr⟩
    · simp [readCheck_of_exists hb he, hl]
    · simp [readCheck_of_exists hb he, hl, hw]
    · simp [readCheck_of_exists hb he, hl, hw, hk]
  case refused =>
    have h := pathWrite_of_item h0 hb (writeItem_error hc)
    exact ⟨congrArg Host.Outcome.next h, congrArg Host.Outcome.next h⟩
  case staged =>
    have h := pathWrite_of_item h0 hb (writeItem_staged hc hr)
    rw [devCmd, cmdStage_ok _ _ (show (touchPath q s.dev).stageRefusal q = _ from hs)] at h
    exact congrArg Host.Outcome.next h
  case locked =>
    have hs : (touchPath q s.dev).stageRefusal q = Abort.shadowHeld :=
      if_pos (Bool.and_eq_true_iff.mpr ⟨hl, bne_iff_ne.mpr hq⟩)
    have h := pathWrite_of_item h0 hb (writeItem_staged hc hr)
    rw [devCmd, cmdStage_refused _ _ hs (by decide)] at h
    exact congrArg Host.Outcome.next h
  case live => exact congrArg Host.Outcome.next (pathWrite_of_item h0 hb (writeItem_live hc hr))
end

section
/-!
PROOFS of the statement about the drive safety functions (chapter 12): the safety core's cycle, the demands and their ends.
-/

namespace Sys2Proof.Machine

/-! ## What reports leave of the safety core -/

/-- The safety core without its outputs, which alone a report touches. -/
def Safety.noOuts (x : Safety) : Safety := { x with outs := [] }

theorem brakeHit_noOuts (f : FaultName) (acts : List (Scope × Nat)) (d : Device) :
    (brakeHit f acts d).safety.noOuts = d.safety.noOuts := by
  unfold brakeHit
  split
  · rfl
  · exact Device.each_keeps (fun d => d.safety.noOuts) sbcOff (fun _ _ => rfl) _ _


theorem raise_noOuts (f : FaultName) (sc : Scope) (r : Nat) (d : Device) :
    (raise f sc r d).safety.noOuts = d.safety.noOuts := by
  unfold raise raiseActs
  dsimp only
  split
  · split <;> simp [brakeHit_noOuts, each_reactOne_frame]
  · simp [brakeHit_noOuts, each_reactOne_frame]

/-- A part of the safety core other than the outputs survives every report. -/
theorem raise_safety (g : Safety → β) (hg : ∀ x : Safety, g x.noOuts = g x) (f : FaultName) (sc : Scope) (r : Nat)
    (d : Device) : g (raise f sc r d).safety = g d.safety := by
  rw [← hg, raise_noOuts, hg]

theorem raise_psafe (f : FaultName) (sc : Scope) (r : Nat) (d : Device) (p : PortId) :
    (raise f sc r d).psafe p = d.psafe p :=
  raise_safety (·.port p) (fun x => by cases p <;> rfl) f sc r d

/-- The report of a safety STO leaves the outputs to SBC_OFF (R313). -/
theorem raise_safetySto_safety (sc : Scope) (r : Nat) (d : Device) : (raise .safetySto sc r d).safety = d.safety := by
  have hb (acts : List (Scope × Nat)) (x : Device) : brakeHit .safetySto acts x = x := if_pos rfl
  unfold raise raiseActs
  dsimp only
  split
  · split <;> simp [hb, each_reactOne_frame]
  · simp [hb, each_reactOne_frame]

/-- Outputs that are off stay so in every report. -/
theorem raise_outs_off (f : FaultName) (sc : Scope) (r : Nat) {d : Device} (h : ∀ o ∈ d.safety.outs, o.on = false) :
    ∀ o ∈ (raise f sc r d).safety.outs, o.on = false := by
  have hs (p : PortId) (x : Device) (hx : ∀ o ∈ x.safety.outs, o.on = false) :
      ∀ o ∈ (sbcOff p x).safety.outs, o.on = false := by
    intro o ho
    obtain ⟨i, hi, rfl⟩ := List.mem_mapIdx.mp ho
    split
    · rfl
    · exact hx _ (List.getElem_mem hi)
  have hb (acts : List (Scope × Nat)) (x : Device) (hx : x.safety.outs = d.safety.outs) :
      ∀ o ∈ (brakeHit f acts x).safety.outs, o.on = false := by
    unfold brakeHit
    split
    · rwa [hx]
    · exact Device.each_preserves (P := fun x => ∀ o ∈ x.safety.outs, o.on = false) hs _ (by rwa [hx])
  unfold raise raiseActs
  dsimp only
  split
  · split
    · exact hb _ _ (by simp [each_reactOne_frame])
    · exact hb _ _ (by simp [each_reactOne_frame])
  · exact hb _ _ (by simp [each_reactOne_frame])

theorem activeAt_of_hasFault {f : FaultName} {sc : Scope} {r : Nat} {d : Device} (h : d.hasFault f sc r) :
    d.activeAt f sc = true := by
  by_contra hn
  obtain ⟨e, he, rfl, rfl, -⟩ := h
  exact Device.activeAt_eq_false.mp (Bool.eq_false_iff.mpr hn) e he ⟨rfl, rfl⟩

theorem hasFault_of_activeAt {f : FaultName} {sc : Scope} {d : Device} (h : d.activeAt f sc = true) : d.hasFault f sc 0 := by
  obtain ⟨e, he⟩ := Option.isSome_iff_exists.mp h
  have hp := List.find?_some he
  simp only [Bool.and_eq_true, beq_iff_eq] at hp
  exact ⟨e, List.mem_of_find?_eq_some he, hp.1, hp.2, Nat.zero_le _⟩

/-! ## What every operation of a cycle keeps -/

/-- Module control, and what of the safety core no evaluation changes within a cycle. -/
def Device.core (d : Device) : ModuleCtl × ScState × Settings × Nat × Option Nanos × List (Nat × List Byte) :=
  (d.ctl, d.safety.sc, d.safety.image, d.safety.eccCorr, d.safety.cycleAt, d.safety.payloads)

@[simp] theorem Device.onFn_core (k : Nat) (f : InputFn → InputFn) (d : Device) : (d.onFn k f).core = d.core := rfl
@[simp] theorem Device.onInput_core (n : Nat) (f : SafeInput → SafeInput) (d : Device) : (d.onInput n f).core = d.core := rfl
@[simp] theorem Device.onSout_core (n : Nat) (f : SafeOutput → SafeOutput) (d : Device) : (d.onSout n f).core = d.core := rfl
@[simp] theorem Device.onPsafe_core (p : PortId) (f : PortSafety → PortSafety) (d : Device) : (d.onPsafe p f).core = d.core := by
  cases p <;> rfl

@[simp] theorem clearFault_core (f : FaultName) (sc : Scope) (d : Device) : (clearFault f sc d).core = d.core := by
  simp [Device.core]

theorem raise_core (f : FaultName) (sc : Scope) {r : Nat} (d : Device) (h4 : r ≠ 4) (h2 : (sc, r) ≠ (.module, 2)) :
    (raise f sc r d).core = d.core := by
  simp only [Device.core, raise_ctl f sc r d h4 h2, raise_safety (·.sc) (fun _ => rfl), raise_safety (·.image) (fun _ => rfl),
    raise_safety (·.eccCorr) (fun _ => rfl), raise_safety (·.cycleAt) (fun _ => rfl),
    raise_safety (·.payloads) (fun _ => rfl)]

@[simp] theorem raise_core_zero (f : FaultName) (sc : Scope) (d : Device) : (raise f sc 0 d).core = d.core :=
  raise_core f sc d (by decide) (by simp)

@[simp] theorem raise_core_port (f : FaultName) (p : PortId) (d : Device) : (raise f (.port p) 3 d).core = d.core :=
  raise_core f (.port p) d (by decide) (by simp)

@[simp] theorem violate_core (f : FaultName) (p : PortId) (set : PortSafety → PortSafety) (d : Device) :
    (violate f p set d).core = d.core := by
  simp [violate]

/-- A run keeps the core where each of its operations does. -/
theorem Device.each_core {f : α → Device → Device} (h : ∀ a d, (f a d).core = d.core) (l : List α) (d : Device) :
    (d.each l f).core = d.core := Device.each_keeps Device.core f h l d

@[simp] theorem each_onInput_core (g : Nat → SafeInput → SafeInput) (l : List Nat) (d : Device) :
    (d.each l fun n => Device.onInput n (g n)).core = d.core := Device.each_core (fun n x => x.onInput_core n (g n)) l d

@[simp] theorem fnUnlatch_core (k : Nat) (d : Device) : (fnUnlatch k d).core = d.core := by
  unfold fnUnlatch
  extract_lets x y z
  have hx : x.core = d.core := by
    unfold x
    split
    · simp
    · rfl
  have hy : y.core = d.core := by
    unfold y
    split
    · exact (each_onInput_core _ _ x).trans hx
    · exact hx
  have hz : z.core = d.core := (each_onInput_core (fun _ => SafeInput.unlatch true) _ y).trans hy
  split
  · exact hz
  · simpa using hz

@[simp] theorem evalFn_core (reset : Bool) (k : Nat) (d : Device) : (evalFn reset k d).core = d.core := by
  have hx : (fnUnlatch k d).core = d.core := fnUnlatch_core k d
  simp only [evalFn]
  generalize fnUnlatch k d = x at hx ⊢
  split <;> exact (Device.onFn_core ..).trans hx

@[simp] theorem freeUnlatch_core (d : Device) : (freeUnlatch d).core = d.core := by
  unfold freeUnlatch
  extract_lets x
  have hx : x.core = d.core := each_onInput_core (fun _ => SafeInput.unlatch false) _ d
  split
  · exact hx
  · simpa using hx

@[simp] theorem pairExpiry_core (d : Device) : (pairExpiry d).core = d.core := by
  unfold pairExpiry
  split
  · rfl
  · extract_lets x
    have hx : x.core = d.core := rfl
    split
    · simpa using hx
    · exact hx

@[simp] theorem pairDemands_core (reset : Bool) (d : Device) : (pairDemands reset d).core = d.core := rfl

@[simp] theorem monitorSpeed_core (p : PortId) (d : Device) : (monitorSpeed p d).core = d.core := by
  unfold monitorSpeed
  extract_lets r slow x y
  have hx : x.core = d.core := Device.onPsafe_core ..
  split
  · simpa using hx
  · exact hx

@[simp] theorem monitorSs1_core (p : PortId) (d : Device) : (monitorSs1 p d).core = d.core := by
  unfold monitorSs1
  extract_lets x y
  have hy : y.core = d.core := Device.onPsafe_core ..
  split
  · rfl
  · split
    · simpa using hy
    · exact hy

@[simp] theorem monitorSls_core (p : PortId) (d : Device) : (monitorSls p d).core = d.core := by
  unfold monitorSls
  extract_lets y
  have hy : y.core = d.core := Device.onPsafe_core ..
  split
  · rfl
  · split
    · simpa using hy
    · exact hy

@[simp] theorem monitorSdi_core (p : PortId) (d : Device) : (monitorSdi p d).core = d.core := by
  unfold monitorSdi
  extract_lets x
  split
  · rfl
  · split
    · split
      · exact Device.onPsafe_core ..
      · split
        · split
          · exact violate_core ..
          · rfl
        · rfl
    · split
      · exact violate_core ..
      · rfl

@[simp] theorem resetPort_core (p : PortId) (d : Device) : (resetPort p d).core = d.core := by
  unfold resetPort
  extract_lets x inv y z w
  have hy : y.core = d.core := Device.onPsafe_core ..
  have hz : z.core = d.core := (Device.each_core (fun _ _ => clearFault_core ..) _ _).trans hy
  have hw : w.core = d.core := by
    unfold w
    split
    · exact hz
    · simpa using hz
  split
  · exact hw
  · simpa using hw

@[simp] theorem resetModule_core (guyRuns : Bool) (d : Device) : (resetModule guyRuns d).core = d.core := by
  unfold resetModule
  extract_lets x y
  have hx : x.core = d.core := by
    unfold x
    refine Device.each_core (fun n e => ?_) _ _
    split
    · exact (clearFault_core ..).trans (Device.onSout_core ..)
    · rfl
  clear_value x
  have hy : y.core = d.core := by
    unfold y
    split
    · exact (clearFault_core ..).trans hx
    · exact hx
  exact hy

@[simp] theorem outCycle_core (n : Nat) (d : Device) : (outCycle n d).core = d.core := by
  unfold outCycle
  extract_lets want rise x
  have hx : x.core = d.core := rfl
  split
  · split
    · exact (Device.onPsafe_core ..).trans hx
    · exact (Device.onPsafe_core ..).trans hx
    · exact hx
  · exact hx

/-! ## STO of a port (R308, R309) -/

/-- What an operation on one port's demands keeps: the core, the outputs, the other port. -/
structure PortOnly (p : PortId) (d e : Device) : Prop where
  core : e.core = d.core
  outs : e.safety.outs = d.safety.outs
  lines : e.safety.wdogLines = d.safety.wdogLines ∧ e.safety.pairOut = d.safety.pairOut
  other : ∀ q, q ≠ p → e.psafe q = d.psafe q
  faults : ∀ f sc, f ≠ .proofTest → f ≠ .safetySto → d.hasFault f sc 0 → e.hasFault f sc 0

theorem PortOnly.refl (p : PortId) (d : Device) : PortOnly p d d :=
  ⟨rfl, rfl, ⟨rfl, rfl⟩, fun _ _ => rfl, fun _ _ _ _ h => h⟩

theorem PortOnly.trans {p : PortId} {d e g : Device} (h : PortOnly p d e) (h' : PortOnly p e g) : PortOnly p d g :=
  ⟨h'.core.trans h.core, h'.outs.trans h.outs, ⟨h'.lines.1.trans h.lines.1, h'.lines.2.trans h.lines.2⟩,
    fun q hq => (h'.other q hq).trans (h.other q hq), fun f sc h1 h2 hf => h'.faults f sc h1 h2 (h.faults f sc h1 h2 hf)⟩

theorem PortOnly.sc {p : PortId} {d e : Device} (h : PortOnly p d e) : e.safety.sc = d.safety.sc :=
  congrArg (·.2.1) h.core

theorem PortOnly.image {p : PortId} {d e : Device} (h : PortOnly p d e) : e.safety.image = d.safety.image :=
  congrArg (·.2.2.1) h.core

theorem PortOnly.ctl {p : PortId} {d e : Device} (h : PortOnly p d e) : e.ctl = d.ctl := congrArg (·.1) h.core

theorem portOnly_onPsafe (p : PortId) (f : PortSafety → PortSafety) (d : Device) : PortOnly p d (d.onPsafe p f) := by
  refine ⟨Device.onPsafe_core .., ?_, ?_, fun q hq => ?_, fun g sc _ _ h => ?_⟩
  · cases p <;> rfl
  · cases p <;> exact ⟨rfl, rfl⟩
  · match p, q with
    | .a, .a | .b, .b => exact absurd rfl hq
    | .a, .b | .b, .a => rfl
  · exact Device.hasFault_of_faults (Device.onPsafe_faults p f d) h

/-- A report of a safety STO at its port. -/
theorem portOnly_raiseSto (p : PortId) (d : Device) : PortOnly p d (raise .safetySto (.port p) 3 d) := by
  have hs := raise_safetySto_safety (.port p) 3 d
  refine ⟨raise_core_port .., congrArg (·.outs) hs, ⟨congrArg (·.wdogLines) hs, congrArg (·.pairOut) hs⟩,
    fun q _ => congrArg (·.port q) hs, fun f sc h1 _ hf => raise_keeps_hasFault _ _ _ (by decide) h1 hf⟩

theorem portOnly_clearSto (p : PortId) (d : Device) : PortOnly p d (clearFault .safetySto (.port p) d) := by
  have hs : (clearFault .safetySto (.port p) d).safety = d.safety := by simp
  refine ⟨clearFault_core .., congrArg (·.outs) hs, ⟨congrArg (·.wdogLines) hs, congrArg (·.pairOut) hs⟩,
    fun q _ => congrArg (·.port q) hs, fun f sc _ h2 hf => clearFault_keeps_hasFault _ h2 hf⟩

/-- Islands that take their preset leave module control, the safety core and the faults alone. -/
theorem each_onIsland_frame (f : Nat → Island → Island) (l : List Nat) (d : Device) :
    (d.each l fun i => Device.onIsland i (f i)).ctl = d.ctl ∧ (d.each l fun i => Device.onIsland i (f i)).safety = d.safety
      ∧ (d.each l fun i => Device.onIsland i (f i)).faults = d.faults :=
  ⟨Device.each_keeps (·.ctl) (fun i => Device.onIsland i (f i)) (fun _ _ => rfl) l d,
    Device.each_keeps (·.safety) (fun i => Device.onIsland i (f i)) (fun _ _ => rfl) l d,
    Device.each_keeps (·.faults) (fun i => Device.onIsland i (f i)) (fun _ _ => rfl) l d⟩

/-- The line of a port is asserted and its islands have taken their preset (R295). -/
def stoPresets (p : PortId) (d : Device) : Device :=
  (d.onSafety fun x => match p with
    | .a => { x with lineA := true }
    | .b => { x with lineB := true }).each p.stage.islands fun i => Device.onIsland i (Island.enterPreset p.stage d.now)

theorem lineAssert_eq (p : PortId) (d : Device) : lineAssert p d = raise .safetySto (.port p) 3 (stoPresets p d) := rfl

theorem stoPresets_safety (p : PortId) (d : Device) : (stoPresets p d).safety = match p with
    | .a => { d.safety with lineA := true }
    | .b => { d.safety with lineB := true } :=
  (each_onIsland_frame (fun _ => Island.enterPreset p.stage d.now) _ _).2.1

theorem stoPresets_faults (p : PortId) (d : Device) : (stoPresets p d).faults = d.faults :=
  (each_onIsland_frame (fun _ => Island.enterPreset p.stage d.now) _ _).2.2

theorem portOnly_stoPresets (p : PortId) (d : Device) : PortOnly p d (stoPresets p d) := by
  obtain ⟨hctl, hs, hf⟩ := each_onIsland_frame (fun _ => Island.enterPreset p.stage d.now) p.stage.islands
    (d.onSafety fun x => match p with
      | .a => { x with lineA := true }
      | .b => { x with lineB := true })
  refine ⟨?_, ?_, ?_, fun q _ => ?_, fun g sc _ _ h => Device.hasFault_of_faults hf h⟩
  · unfold Device.core
    rw [stoPresets_safety, show (stoPresets p d).ctl = d.ctl from hctl]
    cases p <;> rfl
  · rw [stoPresets_safety]
    cases p <;> rfl
  · rw [stoPresets_safety]
    cases p <;> exact ⟨rfl, rfl⟩
  · unfold Device.psafe
    rw [stoPresets_safety]
    cases p <;> cases q <;> rfl

theorem stoPresets_psafe (p : PortId) (d : Device) : (stoPresets p d).psafe p = d.psafe p := by
  unfold Device.psafe
  rw [stoPresets_safety]
  cases p <;> rfl

theorem portOnly_lineAssert (p : PortId) (d : Device) : PortOnly p d (lineAssert p d) :=
  (portOnly_stoPresets p d).trans (portOnly_raiseSto p _)

theorem lineAssert_psafe (p : PortId) (d : Device) : (lineAssert p d).psafe p = d.psafe p :=
  (raise_psafe ..).trans (stoPresets_psafe p d)

/-- A line that is asserted is reported with F3 (R295). -/
theorem lineAssert_hasFault (p : PortId) (d : Device) : (lineAssert p d).hasFault .safetySto (.port p) 3 :=
  raise_hasFault _ _ _ _ (by decide)

/-- The STO line of a port. -/
def Safety.line (x : Safety) (p : PortId) : Bool := match p with
  | .a => x.lineA
  | .b => x.lineB

theorem lineAssert_line (p : PortId) (d : Device) : (lineAssert p d).safety.line p = true := by
  rw [lineAssert_eq, raise_safetySto_safety, stoPresets_safety]
  cases p <;> rfl

theorem portOnly_lineRelease (p : PortId) (d : Device) : PortOnly p d (lineRelease p d) := by
  have h : PortOnly p d (d.onSafety fun x => match p with
      | .a => { x with lineA := false }
      | .b => { x with lineB := false }) := by
    refine ⟨?_, ?_, ?_, fun q _ => ?_, fun _ _ _ _ hf => hf⟩
    · cases p <;> rfl
    · cases p <;> rfl
    · cases p <;> exact ⟨rfl, rfl⟩
    · cases p <;> cases q <;> rfl
  exact h.trans (portOnly_clearSto p _)

theorem portOnly_applySto (p : PortId) (d : Device) : PortOnly p d (applySto p d) := by
  unfold applySto
  extract_lets x y
  have hy : PortOnly p d y := by
    unfold y
    split
    · exact portOnly_lineAssert p d
    · exact PortOnly.refl p d
  clear_value y
  split
  · exact hy.trans (portOnly_onPsafe ..)
  · split
    · exact (portOnly_lineRelease p d).trans (portOnly_onPsafe ..)
    · exact PortOnly.refl p d

theorem portOnly_applySs1 (p : PortId) (d : Device) : PortOnly p d (applySs1 p d) := by
  unfold applySs1
  extract_lets want
  exact portOnly_onPsafe p _ d

theorem portOnly_applySlsSdi (p : PortId) (d : Device) : PortOnly p d (applySlsSdi p d) := by
  unfold applySlsSdi
  extract_lets lvl pos neg still
  exact portOnly_onPsafe p _ d

theorem portOnly_applyDemands (p : PortId) (d : Device) : PortOnly p d (applyDemands p d) :=
  ((portOnly_applySto p d).trans (portOnly_applySs1 p _)).trans (portOnly_applySlsSdi p _)

/-- What STO in force on a port means for its demands: SS1 has ended in it, the fault is active. -/
structure StoInForce (p : PortId) (d e : Device) : Prop where
  sto : (e.psafe p).sto = true
  ss1 : (e.psafe p).ss1 = false
  xchk : (e.psafe p).xchkFault = (d.psafe p).xchkFault
  active : e.hasFault .safetySto (.port p) 0
  faults : ∀ f sc, f ≠ .proofTest → d.hasFault f sc 0 → e.hasFault f sc 0
  asserted : (d.psafe p).sto = false → e.hasFault .safetySto (.port p) 3 ∧ e.safety.line p = true

/-- An operation on a port that keeps STO, and SS1 where STO is in force, keeps all of it. -/
theorem StoInForce.onPsafe {p : PortId} {d e : Device} {f : PortSafety → PortSafety} (h : StoInForce p d e)
    (hf : ∀ x : PortSafety, x.sto = true → x.ss1 = false →
      (f x).sto = true ∧ (f x).ss1 = false ∧ (f x).xchkFault = x.xchkFault) : StoInForce p d (e.onPsafe p f) := by
  obtain ⟨h1, h2, h3⟩ := hf _ h.sto h.ss1
  have hl : (e.onPsafe p f).safety.line p = e.safety.line p := by cases p <;> rfl
  have hfaults : (e.onPsafe p f).faults = e.faults := Device.onPsafe_faults p f e
  refine ⟨?_, ?_, ?_, Device.hasFault_of_faults hfaults h.active,
    fun g sc hg hd => Device.hasFault_of_faults hfaults (h.faults g sc hg hd),
    fun hd => (h.asserted hd).imp (Device.hasFault_of_faults hfaults) (hl.trans ·)⟩
  · rw [Device.onPsafe_same, h1]
  · rw [Device.onPsafe_same, h2]
  · rw [Device.onPsafe_same, h3, h.xchk]

/-- A port on which STO is demanded is in STO (R308, R309). -/
theorem applySto_wanted {p : PortId} {d : Device} (h : d.stoWanted p = true) : StoInForce p d (applySto p d) := by
  unfold applySto
  rw [if_pos h]
  extract_lets y
  have hy : y.psafe p = d.psafe p ∧ y.hasFault .safetySto (.port p) 0
      ∧ (∀ f sc, f ≠ .proofTest → d.hasFault f sc 0 → y.hasFault f sc 0)
      ∧ ((d.psafe p).sto = false → y.hasFault .safetySto (.port p) 3 ∧ y.safety.line p = true) := by
    unfold y
    split
    · have h3 := lineAssert_hasFault p d
      refine ⟨lineAssert_psafe p d, ?_, fun f sc hf hd => ?_, fun _ => ⟨h3, lineAssert_line p d⟩⟩
      · obtain ⟨e, he, h1, h2, -⟩ := h3
        exact ⟨e, he, h1, h2, Nat.zero_le _⟩
      · refine raise_keeps_hasFault _ _ _ (by decide) hf ?_
        exact Device.hasFault_of_faults (stoPresets_faults p d) hd
    · next hn =>
      obtain ⟨hsto, hact⟩ := not_or.mp hn
      refine ⟨rfl, hasFault_of_activeAt (by simpa using hact), fun _ _ _ hd => hd, fun hs => absurd ?_ hsto⟩
      simp [hs]
  clear_value y
  obtain ⟨hp, ha, hf, h3⟩ := hy
  have hl (f : PortSafety → PortSafety) : (y.onPsafe p f).safety.line p = y.safety.line p := by cases p <;> rfl
  have hfaults (f : PortSafety → PortSafety) : (y.onPsafe p f).faults = y.faults := Device.onPsafe_faults p f y
  refine ⟨?_, ?_, ?_, Device.hasFault_of_faults (hfaults _) ha,
    fun g sc hg hd => Device.hasFault_of_faults (hfaults _) (hf g sc hg hd),
    fun hd => (h3 hd).imp (Device.hasFault_of_faults (hfaults _)) ((hl _).trans ·)⟩
  · rw [Device.onPsafe_same]
  · rw [Device.onPsafe_same]
  · rw [Device.onPsafe_same, hp]

theorem applySs1_inForce {p : PortId} {d e : Device} (h : StoInForce p d e) : StoInForce p d (applySs1 p e) := by
  unfold applySs1
  extract_lets want
  exact h.onPsafe fun x hsto _ => by simp [hsto]

theorem applySlsSdi_inForce {p : PortId} {d e : Device} (h : StoInForce p d e) : StoInForce p d (applySlsSdi p e) := by
  unfold applySlsSdi
  extract_lets lvl pos neg still
  refine h.onPsafe fun x hsto hss1 => ?_
  extract_lets y wrong
  have hy : y.sto = true ∧ y.ss1 = false ∧ y.xchkFault = x.xchkFault := by
    unfold y
    clear_value lvl
    cases lvl with
    | none => exact ⟨hsto, hss1, rfl⟩
    | some l => exact ⟨hsto, hss1, rfl⟩
  clear_value y
  split
  · split
    · exact hy
    · exact hy
  · exact hy

theorem applyDemands_wanted {p : PortId} {d : Device} (h : d.stoWanted p = true) : StoInForce p d (applyDemands p d) :=
  applySlsSdi_inForce (applySs1_inForce (applySto_wanted h))

/-! ## What demands STO (R308) -/

theorem stoWanted_of_sc {d : Device} (p : PortId) (h : d.safety.sc ≠ .run) : d.stoWanted p = true := by
  simp [Device.stoWanted, h]

theorem stoWanted_of_xchk {d : Device} {p : PortId} (h : (d.psafe p).xchkFault = true) : d.stoWanted p = true := by
  simp [Device.stoWanted, h]

theorem stoWanted_of_ss1Done {d : Device} {p : PortId} (h : (d.psafe p).ss1Done = true) (hw : d.ss1Wanted p = true) :
    d.stoWanted p = true := by
  simp [Device.stoWanted, h, hw]

theorem stoWanted_of_out {d : Device} {p : PortId} {n : Nat} (hn : n < 4) (hf : (d.sout n).fault = true)
    (hs : d.outServes n p = true) : d.stoWanted p = true := by
  have h : ([0, 1, 2, 3].any fun n => (d.sout n).fault && d.outServes n p) = true :=
    List.any_eq_true.mpr ⟨n, by simp; omega, by simp [hf, hs]⟩
  unfold Device.stoWanted
  rw [h]
  simp

/-- A safety core that has failed or is not commissioned holds both ports in STO (R308). -/
theorem each_applyDemands_of_sc {d : Device} (h : d.safety.sc ≠ .run) (p : PortId) :
    ((d.each ports applyDemands).psafe p).sto = true ∧ (d.each ports applyDemands).hasFault .safetySto (.port p) 0 := by
  have ha := applyDemands_wanted (stoWanted_of_sc .a h)
  have hpa := portOnly_applyDemands .a d
  have hb := applyDemands_wanted (d := applyDemands .a d) (stoWanted_of_sc .b (hpa.sc ▸ h))
  have hpb := portOnly_applyDemands .b (applyDemands .a d)
  rw [Device.each_ports]
  cases p with
  | a => exact ⟨(congrArg (·.sto) (hpb.other .a (by decide))).trans ha.sto, hb.faults _ _ (by decide) ha.active⟩
  | b => exact ⟨hb.sto, hb.active⟩

theorem each_applySto_of_sc {d : Device} (h : d.safety.sc ≠ .run) (p : PortId) :
    ((d.each ports applySto).psafe p).sto = true := by
  have hpa := portOnly_applySto .a d
  rw [Device.each_ports]
  cases p with
  | a => exact (congrArg (·.sto) ((portOnly_applySto .b _).other .a (by decide))).trans (applySto_wanted (stoWanted_of_sc .a h)).sto
  | b => exact (applySto_wanted (stoWanted_of_sc .b (hpa.sc ▸ h))).sto

/-- The end of SS1 demands STO (R310). -/
theorem ss1End_inForce {p : PortId} {d : Device} (hw : d.ss1Wanted p = true) :
    StoInForce p (d.onPsafe p fun x => { x with ss1Done := true }) (ss1End p d) := by
  refine applyDemands_wanted (stoWanted_of_ss1Done ?_ ?_)
  · rw [Device.onPsafe_same]
  · rw [← hw]
    cases p <;> rfl

theorem ss1Done_sto {p : PortId} {d : Device} (h : (d.psafe p).sto = false) :
    ((d.onPsafe p fun x => { x with ss1Done := true }).psafe p).sto = false := by
  rw [Device.onPsafe_same, h]

theorem ss1End_ctl (p : PortId) (d : Device) : (ss1End p d).ctl = d.ctl :=
  (portOnly_applyDemands p _).ctl.trans (Device.onPsafe_ctl ..)

/-! ## A report activates its own fault alone -/

theorem mem_of_mem_enterSafe {e : FaultEntry} {d : Device} (h : e ∈ (enterSafe d).faults.active) : e ∈ d.faults.active := by
  have h1 : (Device.each (Scope.stages .module) (stageOff true) d).faults = d.faults := by simp
  unfold enterSafe at h
  generalize Device.each (Scope.stages .module) (stageOff true) d = x at h1 h
  dsimp only at h
  rw [← h1]
  split at h
  case h_8 => exact h
  all_goals exact mem_of_mem_setState h

/-- A reaction activates nothing (Table 1.7). -/
theorem mem_of_mem_reactOne {e : FaultEntry} {l : Bool} {a : Scope × Nat} {d : Device}
    (h : e ∈ (reactOne l a d).faults.active) : e ∈ d.faults.active := by
  unfold reactOne at h
  dsimp only at h
  split at h
  · simpa using mem_of_mem_enterSafe h
  · split at h <;> simpa using h
  · split at h
    · simpa using mem_of_mem_setState h
    · simpa using h
  · simpa using h

theorem mem_of_mem_each_reactOne {e : FaultEntry} {l : Bool} {acts : List (Scope × Nat)} {d : Device}
    (h : e ∈ (d.each acts (reactOne l)).faults.active) : e ∈ d.faults.active := by
  induction acts generalizing d with
  | nil => exact h
  | cons a t ih => exact mem_of_mem_reactOne (ih h)

theorem raise_active_ne {f g : FaultName} (sc : Scope) (r : Nat) {d : Device} (hne : g ≠ f) (h : d.active f = false) :
    (raise g sc r d).active f = false := by
  refine List.any_eq_false.mpr fun e he => ?_
  have hd : ∀ x ∈ (injHit g sc d).faults.active, x.name ≠ f := fun x hx => by
    simpa using List.any_eq_false.mp h x (by simpa using hx)
  have hname (q : FaultEntry → Bool) (u : FaultEntry → FaultEntry)
      (hm : e ∈ (injHit g sc d).faults.active.map fun x => if q x then u x else x) (hu : ∀ x, (u x).name = x.name) :
      e.name ≠ f := by
    obtain ⟨x, hx, rfl⟩ := List.mem_map.mp hm
    split
    · exact (hu x).symm ▸ hd x hx
    · exact hd x hx
  suffices e.name ≠ f by simpa using this
  unfold raise raiseActs at he
  dsimp only at he
  split at he
  · split at he
    · rw [(brakeHit_frame ..).2.1] at he
      exact hname _ _ (mem_of_mem_each_reactOne he) fun _ => rfl
    · rw [(brakeHit_frame ..).2.1] at he
      have hm := mem_of_mem_each_reactOne he
      rw [report_active] at hm
      exact hname _ _ hm fun _ => rfl
  · rw [(brakeHit_frame ..).2.1] at he
    have hm := mem_of_mem_each_reactOne he
    simp only [report_active, List.mem_append, List.mem_singleton] at hm
    obtain hm | rfl := hm
    · exact hd e hm
    · exact hne

/-- STO of a port activates no fault but its own (R308). -/
theorem applySto_active_ne {f : FaultName} (p : PortId) {d : Device} (hne : f ≠ .safetySto) (h : d.active f = false) :
    (applySto p d).active f = false := by
  have hline : (lineAssert p d).active f = false := by
    rw [lineAssert_eq]
    refine raise_active_ne _ _ hne.symm ?_
    rwa [Device.active, stoPresets_faults]
  have hps (g : PortSafety → PortSafety) (x : Device) : (x.onPsafe p g).active f = x.active f := by
    rw [Device.active, Device.onPsafe_faults]
    rfl
  unfold applySto
  extract_lets x y
  have hy : y.active f = false := by
    unfold y
    split
    · exact hline
    · exact h
  clear_value y
  split
  · rwa [hps]
  · split
    · rw [hps]
      refine List.any_eq_false.mpr fun e he => ?_
      unfold lineRelease at he
      rw [clearFault_active] at he
      exact List.any_eq_false.mp h e (List.mem_filter.mp he).1
    · exact h

/-! ## The failure of the safety core (R297) -/

/-- What a failed safety core leaves: no STO line released, no output on. -/
theorem scDown_law {f : FaultName} (wdog : Bool) (d : Device) (hf : f ≠ .proofTest) :
    (scDown f wdog d).safety.sc = .fail ∧ (scDown f wdog d).hasFault f .module 4
      ∧ (scDown f wdog d).safety.pairOut = false ∧ (∀ o ∈ (scDown f wdog d).safety.outs, o.on = false)
      ∧ (∀ p : PortId, ((scDown f wdog d).psafe p).sto = true)
      ∧ (scDown f wdog d).safety.wdogLines = (d.safety.wdogLines || wdog) := by
  unfold scDown
  extract_lets x
  have hsc : x.safety.sc = .fail := rfl
  have hsto := each_applySto_of_sc (d := x) (by simp [hsc])
  have hpa := portOnly_applySto .a x
  have hpb := portOnly_applySto .b (applySto .a x)
  rw [show (fun p d => applySto p d) = applySto from rfl]
  rw [Device.each_ports] at hsto ⊢
  refine ⟨(raise_safety (·.sc) (fun _ => rfl) ..).trans (hpb.sc.trans hpa.sc), raise_hasFault _ _ _ _ hf,
    (raise_safety (·.pairOut) (fun _ => rfl) ..).trans (hpb.lines.2.trans hpa.lines.2),
    raise_outs_off _ _ _ ?_, fun p => (congrArg (·.sto) (raise_psafe ..)).trans (hsto p),
    (raise_safety (·.wdogLines) (fun _ => rfl) ..).trans (hpb.lines.1.trans hpa.lines.1)⟩
  rw [hpb.outs, hpa.outs]
  intro o ho
  obtain ⟨y, -, rfl⟩ := List.mem_map.mp ho
  rfl

/-- A failure of an operating module's core that was not active takes it to SAFE (R24, R297). -/
theorem scDown_safe {f : FaultName} (wdog : Bool) {d : Device} (hne : f ≠ .safetySto) (h : d.active f = false)
    (h0 : d.ctl.state ≠ .off) (h1 : d.ctl.state ≠ .fault) : (scDown f wdog d).ctl.state = .safe := by
  unfold scDown
  extract_lets x
  have hctl : (x.each ports applySto).ctl = d.ctl :=
    ((portOnly_applySto .b _).ctl.trans (portOnly_applySto .a x).ctl).trans rfl
  have hact : (x.each ports applySto).active f = false :=
    applySto_active_ne .b hne (applySto_active_ne .a hne h)
  refine raise_safe f _ (fun e he => ?_) (by rw [hctl]; exact h0) (by rw [hctl]; exact h1)
  have hp := List.find?_some he
  simp only [Bool.and_eq_true, beq_iff_eq] at hp
  exact absurd hp.1 (by simpa using List.any_eq_false.mp hact e (List.mem_of_find?_eq_some he))

/-! ## Safety outputs (R315) -/

theorem Device.onSout_sout {n : Nat} (f : SafeOutput → SafeOutput) {d : Device} (h : n < d.safety.outs.length) :
    (d.onSout n f).sout n = f (d.sout n) := by
  simp [Device.sout, Device.onSout, Device.onSafety, List.getD_eq_getElem?_getD, h]

theorem sout_of_outs {d e : Device} (h : e.safety.outs = d.safety.outs) (n : Nat) : e.sout n = d.sout n := by
  unfold Device.sout
  rw [h]

theorem outServes_of_image {d e : Device} (h : e.safety.image = d.safety.image) (n : Nat) (p : PortId) :
    e.outServes n p = d.outServes n p := by
  unfold Device.outServes Device.scfg
  rw [h]

/-- The demands of both ports leave the core, the outputs and every fault but the safety STO alone. -/
theorem each_applyDemands_frame (d : Device) : (d.each ports applyDemands).core = d.core
    ∧ (d.each ports applyDemands).safety.outs = d.safety.outs
    ∧ ∀ f sc, f ≠ .proofTest → f ≠ .safetySto → d.hasFault f sc 0 → (d.each ports applyDemands).hasFault f sc 0 := by
  have ha := portOnly_applyDemands .a d
  have hb := portOnly_applyDemands .b (applyDemands .a d)
  rw [Device.each_ports]
  exact ⟨hb.core.trans ha.core, hb.outs.trans ha.outs, fun f sc h1 h2 h => hb.faults f sc h1 h2 (ha.faults f sc h1 h2 h)⟩

/-- A faulty output demands STO on the ports it serves (R315). -/
theorem each_applyDemands_of_out {d : Device} {n : Nat} {p : PortId} (hn : n < 4) (hf : (d.sout n).fault = true)
    (hs : d.outServes n p = true) : ((d.each ports applyDemands).psafe p).sto = true := by
  have ha := portOnly_applyDemands .a d
  have hb := portOnly_applyDemands .b (applyDemands .a d)
  rw [Device.each_ports]
  cases p with
  | a =>
    exact (congrArg (·.sto) (hb.other .a (by decide))).trans (applyDemands_wanted (stoWanted_of_out hn hf hs)).sto
  | b =>
    refine (applyDemands_wanted (stoWanted_of_out hn ?_ ?_)).sto
    · rwa [sout_of_outs ha.outs]
    · rwa [outServes_of_image ha.image]

theorem soFault_law {n : Nat} {d : Device} (hn : n < 4) (hl : n < d.safety.outs.length) : (soFault n d).ctl = d.ctl
    ∧ (soFault n d).hasFault .soFault (.output n) 0 ∧ ((soFault n d).sout n).on = false
    ∧ ((soFault n d).sout n).fault = true ∧ ∀ p : PortId, d.outServes n p = true → ((soFault n d).psafe p).sto = true := by
  unfold soFault
  extract_lets x
  obtain ⟨hs, hc, -⟩ := raise_low_frame .soFault (.output n) Nat.zero_lt_two
    (d.onSout n fun x => { x with on := false, fault := true, healthy := false })
  have hx : x.safety = (d.onSout n fun x => { x with on := false, fault := true, healthy := false }).safety := hs
  have hfault : x.hasFault .soFault (.output n) 0 := raise_hasFault _ _ _ _ (by decide)
  have hctl : x.ctl = d.ctl := hc
  clear_value x
  have hsout : x.sout n = { d.sout n with on := false, fault := true, healthy := false } :=
    (sout_of_outs (congrArg (·.outs) hx) n).trans (Device.onSout_sout _ hl)
  have himage : x.safety.image = d.safety.image := congrArg (·.image) hx
  obtain ⟨hcore, houts, hfaults⟩ := each_applyDemands_frame x
  refine ⟨(congrArg (·.1) hcore).trans hctl, hfaults _ _ (by decide) (by decide) hfault, ?_, ?_, fun p hp => ?_⟩
  · rw [sout_of_outs houts, hsout]
  · rw [sout_of_outs houts, hsout]
  · exact each_applyDemands_of_out hn (by rw [hsout]) (by rwa [outServes_of_image himage])

/-! ## The cycle (R293) -/

/-- The demands of a cycle have taken effect and its resets are used up. -/
def cycleDemands (reset : Bool) (d : Device) : Device :=
  (d.each ports applyDemands).onSafety fun x => { x with
    resetDue := false, resetOut := reset, pairOut := x.sc == .run && (d.each ports applyDemands).machineSto }

theorem deliver_core (d : Device) :
    (deliver d).core = (d.ctl, d.safety.sc, d.safety.image, d.safety.eccCorr, d.safety.cycleAt, []) := by
  have hc := Device.each_keeps (·.ctl) (fun e => Device.onConn e.1 fun x => { x with payload := e.2 }) (fun _ _ => rfl)
    d.safety.payloads d
  have hs := Device.each_keeps (·.safety) (fun e => Device.onConn e.1 fun x => { x with payload := e.2 }) (fun _ _ => rfl)
    d.safety.payloads d
  simp [Device.core, deliver, Device.onSafety, hc, hs]

@[simp] theorem resetDorid_core (d : Device) : (resetDorid d).core = d.core := by
  unfold resetDorid
  extract_lets c x
  split
  · rfl
  · split
    · rfl
    · split <;> rfl

theorem cycleDemands_core (reset : Bool) (d : Device) : (cycleDemands reset d).core = d.core :=
  (each_applyDemands_frame d).1

/-- A cycle: its payloads and resets, its evaluations, its demands, its outputs (R293). -/
theorem safetyCycle_eq (ecc : Nat) (d : Device) : ∃ (reset : Bool) (x : Device),
    x.core = (d.ctl, d.safety.sc, d.safety.image, (d.safety.eccCorr + ecc) % 2 ^ 32, some d.now, [])
      ∧ safetyCycle ecc d = (cycleDemands reset x).each [0, 1, 2, 3] outCycle := by
  unfold safetyCycle
  extract_lets start taken reset evaluated paired monitored guy judged acted ended
  refine ⟨reset, judged, ?_, rfl⟩
  have htaken : taken.core =
      (d.ctl, d.safety.sc, d.safety.image, (d.safety.eccCorr + ecc) % 2 ^ 32, some d.now, []) :=
    (resetDorid_core _).trans (deliver_core start)
  clear_value taken
  have hevaluated : evaluated.core = taken.core := (freeUnlatch_core _).trans
    (Device.each_core (fun k e => (Device.onFn_core ..).trans (evalFn_core reset k e)) _ taken)
  clear_value evaluated
  have hpaired : paired.core = evaluated.core := (pairDemands_core ..).trans (pairExpiry_core evaluated)
  clear_value paired
  have hmonitored : monitored.core = paired.core := Device.each_core (fun p e => by simp) _ paired
  clear_value monitored
  have hbefore : monitored.core = taken.core := hmonitored.trans (hpaired.trans hevaluated)
  refine Eq.trans ?_ (hbefore.trans htaken)
  unfold judged
  split
  · exact (resetModule_core ..).trans (Device.each_core resetPort_core _ monitored)
  · rfl

/-- A cycle changes of the core its count of corrected errors, its time and the delivered payloads (R293, R294). -/
theorem safetyCycle_core (ecc : Nat) (d : Device) : (safetyCycle ecc d).core =
    (d.ctl, d.safety.sc, d.safety.image, (d.safety.eccCorr + ecc) % 2 ^ 32, some d.now, []) := by
  obtain ⟨reset, x, hx, he⟩ := safetyCycle_eq ecc d
  rw [he, Device.each_core outCycle_core, cycleDemands_core, hx]

/-- What one output's cycle keeps: the resets used up, the STO of the ports, the faults. -/
theorem outCycle_frame (n : Nat) (d : Device) : (outCycle n d).safety.resetDue = d.safety.resetDue
    ∧ (outCycle n d).faults = d.faults ∧ ∀ p, ((outCycle n d).psafe p).sto = (d.psafe p).sto := by
  unfold outCycle
  extract_lets want rise x
  have hx : x.safety.resetDue = d.safety.resetDue ∧ x.faults = d.faults ∧ ∀ p, (x.psafe p).sto = (d.psafe p).sto :=
    ⟨rfl, rfl, fun p => by cases p <;> rfl⟩
  clear_value x
  obtain ⟨h1, h2, h3⟩ := hx
  split
  · split
    · exact ⟨h1, h2, fun p => (by cases p <;> rfl : _ = (x.psafe p).sto).trans (h3 p)⟩
    · exact ⟨h1, h2, fun p => (by cases p <;> rfl : _ = (x.psafe p).sto).trans (h3 p)⟩
    · exact ⟨h1, h2, h3⟩
  · exact ⟨h1, h2, h3⟩

theorem each_outCycle_frame (l : List Nat) (d : Device) : (d.each l outCycle).safety.resetDue = d.safety.resetDue
    ∧ (d.each l outCycle).faults = d.faults ∧ ∀ p, ((d.each l outCycle).psafe p).sto = (d.psafe p).sto :=
  ⟨Device.each_keeps (·.safety.resetDue) outCycle (fun n d => (outCycle_frame n d).1) l d,
    Device.each_keeps (·.faults) outCycle (fun n d => (outCycle_frame n d).2.1) l d,
    fun p => Device.each_keeps (fun d => (d.psafe p).sto) outCycle (fun n d => (outCycle_frame n d).2.2 p) l d⟩

theorem safetyCycle_resetDue (ecc : Nat) (d : Device) : (safetyCycle ecc d).safety.resetDue = false := by
  obtain ⟨reset, x, -, he⟩ := safetyCycle_eq ecc d
  rw [he, (each_outCycle_frame ..).1]
  rfl

theorem cycleDemands_psafe (reset : Bool) (d : Device) (p : PortId) :
    (cycleDemands reset d).psafe p = (d.each ports applyDemands).psafe p := by
  unfold cycleDemands
  cases p <;> rfl

theorem sc_of_core {d x : Device} {ecc : Nat} (h : d.safety.sc = .uncommissioned)
    (hx : x.core = (d.ctl, d.safety.sc, d.safety.image, (d.safety.eccCorr + ecc) % 2 ^ 32, some d.now, [])) :
    x.safety.sc ≠ .run := by
  have hsc : x.safety.sc = d.safety.sc := congrArg (·.2.1) hx
  rw [hsc, h]
  decide

/-- A core that is not commissioned holds both ports in STO after each cycle (R308). -/
theorem safetyCycle_uncommissioned {d : Device} (ecc : Nat) (h : d.safety.sc = .uncommissioned) (p : PortId) :
    ((safetyCycle ecc d).psafe p).sto = true ∧ (safetyCycle ecc d).activeAt .safetySto (.port p) = true := by
  obtain ⟨reset, x, hx, he⟩ := safetyCycle_eq ecc d
  obtain ⟨hsto, hact⟩ := each_applyDemands_of_sc (sc_of_core h hx) p
  obtain ⟨-, hf, hs⟩ := each_outCycle_frame [0, 1, 2, 3] (cycleDemands reset x)
  rw [he]
  exact ⟨(hs p).trans ((congrArg (·.sto) (cycleDemands_psafe reset x p)).trans hsto),
    activeAt_of_hasFault (Device.hasFault_of_faults hf hact)⟩

/-- The first outputs of a core that does not run are off. -/
def OutsOff (k : Nat) (d : Device) : Prop :=
  d.safety.sc ≠ .run ∧ ∀ i < k, ∀ o : SafeOutput, d.safety.outs[i]? = some o → o.on = false

theorem outCycle_outsOff {k : Nat} {d : Device} (h : OutsOff k d) : OutsOff (k + 1) (outCycle k d) := by
  obtain ⟨hsc, ho⟩ := h
  have hw : d.outWanted k = false := by simp [Device.outWanted, hsc]
  have he : outCycle k d = d.onSout k fun x => { x with on := false } := by
    simp only [outCycle, hw, Bool.false_and, Bool.false_eq_true, if_false]
  rw [he]
  refine ⟨hsc, fun i hi o hio => ?_⟩
  simp only [Device.onSout, Device.onSafety, List.getElem?_modify] at hio
  obtain ⟨y, hy, hyo⟩ := Option.map_eq_some_iff.mp hio
  by_cases hk : k = i
  · rw [← hyo, if_pos hk]
  · rw [← hyo, if_neg hk]
    exact ho i (by omega) y hy

theorem safetyCycle_outs {d : Device} (ecc : Nat) (h : d.safety.sc = .uncommissioned) :
    ∀ o ∈ (safetyCycle ecc d).safety.outs.take 4, o.on = false := by
  obtain ⟨reset, x, hx, he⟩ := safetyCycle_eq ecc d
  have hsc : (cycleDemands reset x).safety.sc ≠ .run := sc_of_core h ((cycleDemands_core reset x).trans hx)
  have h0 : OutsOff 0 (cycleDemands reset x) := ⟨hsc, fun i hi => absurd hi (Nat.not_lt_zero i)⟩
  rw [he]
  generalize cycleDemands reset x = y at h0
  have h4 : OutsOff 4 (y.each [0, 1, 2, 3] outCycle) :=
    outCycle_outsOff (outCycle_outsOff (outCycle_outsOff (outCycle_outsOff h0)))
  intro o ho
  obtain ⟨i, hi⟩ := List.mem_iff_getElem?.mp ho
  rw [List.getElem?_take] at hi
  split at hi
  · next hlt => exact h4.2 i hlt o hi
  · cases hi

end Sys2Proof.Machine

/-! ## The statement -/

open Sys2Proof Sys2Proof.Machine

/-- Settles O37: STO demanded puts its port in STO with the fault active, and every other operation of the safety core keeps
what it does not evaluate. -/
theorem driveFunctions : Obligations.DriveFunctions := by
  unfold Obligations.DriveFunctions
  refine ⟨fun ecc s h0 ha hc => ?cycle, fun ecc s h => congrArg Host.Outcome.next (if_neg ?noCycle),
    fun p s ha hl => ?xchk, fun p s h => congrArg Host.Outcome.next (if_neg (by simp [h, lasted])),
    fun p s ha h1 hn hw hsrc hl => ?standstill, fun p s h => congrArg Host.Outcome.next (if_neg ?noStandstill),
    fun p s ha h1 hn hw hl => ?timeout, fun p s h => congrArg Host.Outcome.next (if_neg (by simp [h])),
    fun p s ha hs hl hg => ?readback, fun p s h => congrArg Host.Outcome.next (if_neg (by simp [h])),
    fun p n s hb hs hl => ?sbcOff, fun p s h => ?noSbcOff, fun p s hw hl => congrArg Host.Outcome.next (if_pos ⟨hw, hl⟩),
    fun p s h => congrArg Host.Outcome.next (if_neg (by simp [h])), fun n s ha hn => ?soFault,
    fun n s h => congrArg Host.Outcome.next (if_neg (by simp [h])),
    fun n ret s ha ho hp hd => congrArg Host.Outcome.next (if_pos ⟨ha, ho, hp, hd⟩), fun n ret s ha ho hp hd hn => ?unseen,
    fun n ret seen s h => congrArg Host.Outcome.next (if_neg ?noPulse), fun d n => ?pulse, fun s h0 => ?scFail,
    fun s h0 h1 h => ?scWdog⟩
  case cycle =>
    have hcore := safetyCycle_core ecc s.dev
    simp only [Device.core, Prod.mk.injEq] at hcore
    obtain ⟨hctl, hsc, himage, hecc, hat, hpay⟩ := hcore
    refine ⟨{ s with dev := safetyCycle ecc s.dev }, congrArg Host.Outcome.next (if_pos ⟨h0, ha, hc⟩), rfl, rfl, ?_⟩
    dsimp only
    exact ⟨hctl, hecc, hat, safetyCycle_resetDue ecc s.dev, hpay, himage, hsc,
      fun hu p => safetyCycle_uncommissioned ecc hu p, fun hu => safetyCycle_outs ecc hu⟩
  case noCycle => rcases h with h | h <;> simp [h, Device.cycleDue]
  case xchk =>
    let x := violate .speedXchk p (fun x => { x with xchkFault := true }) s.dev
    have hx : (x.psafe p).xchkFault = true := by
      rw [show x.psafe p = _ from raise_psafe .., Device.onPsafe_same]
    have hin := applyDemands_wanted (stoWanted_of_xchk hx)
    have hctl : x.ctl = s.dev.ctl := congrArg (·.1) (violate_core ..)
    refine ⟨{ s with dev := applyDemands p x }, congrArg Host.Outcome.next (if_pos ⟨ha, hl⟩), rfl, rfl, ?_⟩
    dsimp only
    exact ⟨(portOnly_applyDemands p x).ctl.trans hctl,
      hin.faults _ _ (by decide) (raise_hasFault _ _ _ _ (by decide)), hin.xchk.trans hx, hin.sto⟩
  case standstill =>
    have hin := ss1End_inForce hw
    refine ⟨{ s with dev := ss1End p s.dev }, congrArg Host.Outcome.next (if_pos ⟨ha, h1, hsrc, hl⟩), rfl, rfl, ?_⟩
    dsimp only
    exact ⟨ss1End_ctl p s.dev, hin.sto, hin.ss1, (hin.asserted (ss1Done_sto hn)).1⟩
  case noStandstill => rcases h with h | h <;> simp [h, lasted]
  case timeout =>
    have hin := ss1End_inForce hw
    obtain ⟨hf, hline⟩ := hin.asserted (ss1Done_sto hn)
    refine ⟨{ s with dev := ss1End p s.dev }, congrArg Host.Outcome.next (if_pos ⟨ha, h1, hl⟩), rfl, rfl, ?_⟩
    dsimp only
    refine ⟨ss1End_ctl p s.dev, hin.sto, hin.ss1, hf, ?_⟩
    cases p with
    | a => exact hline
    | b => exact hline
  case readback =>
    obtain ⟨hsc, hf, hp, ho, hsto, hw⟩ := scDown_law (f := .stoReadback) false s.dev (by decide)
    refine ⟨{ s with dev := scDown .stoReadback false s.dev }, congrArg Host.Outcome.next (if_pos ⟨ha, hs, hl, hg⟩), rfl, rfl, ?_⟩
    dsimp only
    exact ⟨hsc, hf, ho⟩
  case sbcOff =>
    show execSbcOff p s = _
    unfold execSbcOff
    rw [hb]
    exact congrArg Host.Outcome.next (if_pos ⟨hs, hl⟩)
  case noSbcOff =>
    show execSbcOff p s = _
    unfold execSbcOff
    split
    · next hb => exact congrArg Host.Outcome.next (if_neg fun hc => by simp [hb, hc.1] at h)
    · rfl
  case soFault =>
    obtain ⟨hctl, hf, hon, hfault, hsto⟩ := soFault_law n.isLt hn
    refine ⟨{ s with dev := soFault n s.dev }, congrArg Host.Outcome.next (if_pos ha), rfl, rfl, ?_⟩
    dsimp only
    exact ⟨hctl, hf, hon, hfault, hsto⟩
  case unseen =>
    let x := s.dev.onSout n fun x => { x with pulseAt := if ret then x.pulseAt else s.dev.now, retDone := ret }
    have hlen : n < x.safety.outs.length := by simpa [x, Device.onSout, Device.onSafety] using hn
    obtain ⟨-, hf, hon, -⟩ := soFault_law n.isLt hlen
    refine ⟨{ s with dev := soFault n x }, congrArg Host.Outcome.next (if_pos ⟨ha, ho, hp, hd⟩), rfl, rfl, ?_⟩
    dsimp only
    exact ⟨hf, hon⟩
  case noPulse => rcases h with h | h <;> simp [h]
  case pulse => simp [Device.offPulseDue, sec]
  case scFail =>
    obtain ⟨hsc, hf, hp, ho, hsto, hw⟩ := scDown_law (f := .scFail) false s.dev (by decide)
    refine ⟨{ s with dev := scDown .scFail false s.dev }, congrArg Host.Outcome.next (if_neg h0), rfl, rfl, ?_⟩
    dsimp only
    exact ⟨hsc, hf, hp, ho, hsto⟩
  case scWdog =>
    obtain ⟨hsc, hf, hp, ho, hsto, hw⟩ := scDown_law (f := .scWdog) true s.dev (by decide)
    refine ⟨{ s with dev := scDown .scWdog true s.dev }, congrArg Host.Outcome.next (if_neg h0), rfl, rfl, ?_⟩
    dsimp only
    exact ⟨hw.trans (Bool.or_true _), hsc, hf, scDown_safe true (by decide) h h0 h1⟩
end

section
/-!
PROOFS of the statement about the Dorid connections (chapter 13): producers, consumers, deadlines and error rates.
-/

namespace Sys2Proof.Machine

/-! ## Runs and connections -/

/-- What one operation of a run establishes, on what every operation preserves, holds after the run. -/
theorem Device.each_establishes {P Q : Device → Prop} {f : α → Device → Device} {a : α} {l : List α} (ha : a ∈ l)
    (hq : ∀ b d, Q d → Q (f b d)) (hp : ∀ b d, P d → P (f b d)) (h : ∀ d, Q d → P (f a d)) {d : Device} (hd : Q d) :
    P (d.each l f) := by
  induction l generalizing d with
  | nil => cases ha
  | cons b t ih =>
    obtain rfl | ha := List.mem_cons.mp ha
    · exact Device.each_preserves (f := f) hp t (h d hd)
    · exact ih ha (hq b d hd)

theorem Device.onConn_conn {c : Nat} (f : DoridConn → DoridConn) {d : Device} (h : c < d.dorid.length) :
    (d.onConn c f).conn c = f (d.conn c) := by
  simp [Device.conn, Device.onConn, List.getD_eq_getElem?_getD, h]

theorem Device.onConn_conn_ne {c b : Nat} (f : DoridConn → DoridConn) (d : Device) (h : b ≠ c) :
    (d.onConn b f).conn c = d.conn c := by
  simp [Device.conn, Device.onConn, List.getD_eq_getElem?_getD, h]

theorem Device.onConn_dorid_length (c : Nat) (f : DoridConn → DoridConn) (d : Device) :
    (d.onConn c f).dorid.length = d.dorid.length := List.length_modify ..

theorem conn_of_dorid {d e : Device} (h : e.dorid = d.dorid) (c : Nat) : e.conn c = d.conn c := by
  unfold Device.conn
  rw [h]

theorem clearFault_conn (f : FaultName) (sc : Scope) (d : Device) (c : Nat) : (clearFault f sc d).conn c = d.conn c :=
  conn_of_dorid (by simp) c

theorem raise_conn (f : FaultName) (sc : Scope) (r : Nat) (d : Device) (c : Nat) : (raise f sc r d).conn c = d.conn c :=
  conn_of_dorid (by simp) c

/-- A report below F2 leaves commissioning alone. -/
theorem raise_low_comm (f : FaultName) (sc : Scope) {r : Nat} (h : r < 2) (d : Device) : (raise f sc r d).comm = d.comm := by
  obtain ⟨fm, he | he⟩ := raise_low_cases f sc h d
  · simp [he]
  · simp [he]

/-! ## Producing (R325, R326) -/

@[simp] theorem doridSend_frame (port net : Nat) (frame : List Byte) (d : Device) :
    (doridSend port net frame d).ctl = d.ctl ∧ (doridSend port net frame d).faults = d.faults
      ∧ (doridSend port net frame d).safety = d.safety ∧ (doridSend port net frame d).dorid = d.dorid := by
  unfold doridSend
  extract_lets padded
  split <;> simp

/-- A producer that sends counts its sequence number and records its payload (R325). -/
theorem produceRecord_law {c : Nat} {d : Device} (h : c < d.dorid.length) : (produceRecord c d).ctl = d.ctl
    ∧ (produceRecord c d).faults = d.faults ∧ (produceRecord c d).safety = d.safety
    ∧ (produceRecord c d).conn c = { d.conn c with
        state := .run, seq := (d.conn c).nextSeq, started := true, payload := d.safetyPayload, lastSent := d.now } := by
  unfold produceRecord doridProduce
  simp only [doridSend_frame, Device.onConn_ctl, Device.onConn_faults, conn_of_dorid (doridSend_frame ..).2.2.2]
  exact ⟨trivial, trivial, rfl, Device.onConn_conn _ h⟩

theorem DoridConn.sends_iff (x : DoridConn) (now period : Nat) (m : List Byte) :
    x.sends now period m ↔ x.started = false ∨ x.payload ≠ m ∨ x.lastSent + period ≤ now := by
  simp [DoridConn.sends, or_assoc]

/-! ## Consuming (R327 to R331) -/

theorem exec_doridFrameRx {p : Fin 5} {net : W32} {l : List Byte} {s : State} (h0 : s.dev.ctl.state ≠ .off)
    (ha : s.dev.scAlive = true) (hp : s.dev.portHears p = true) :
    exec (.doridFrameRx p net l) s = .next (s.onDev (doridFrameRx p net.toNat l)) :=
  congrArg Host.Outcome.next (if_pos ⟨h0, ha, hp⟩)

theorem doridFrameRx_none {port net : Nat} {l : List Byte} {d : Device} (h : d.consumerOf port net l = none) :
    doridFrameRx port net l d =
      if port = 3 then { d with comm := { d.comm with unknown := addWrap 16 d.comm.unknown 1 } } else d := by
  unfold doridFrameRx
  rw [h]

theorem doridFrameRx_ok {port net c seq : Nat} {age : Int} {l m : List Byte} {d : Device}
    (h : d.consumerOf port net l = some c) (hc : d.doridCheck c l = .ok (seq, age, m)) :
    doridFrameRx port net l d = doridAccept c seq age m d := by
  unfold doridFrameRx
  rw [h]
  dsimp only
  rw [hc]

theorem doridFrameRx_error {port net c : Nat} {e : DoridError} {l : List Byte} {d : Device}
    (h : d.consumerOf port net l = some c) (hc : d.doridCheck c l = .error e) :
    doridFrameRx port net l d = doridDiscard c e d := by
  unfold doridFrameRx
  rw [h]
  dsimp only
  rw [hc]

/-- What an accepted frame leaves of a connection that runs (R327, R328). -/
def DoridConn.good (seq : Nat) (deadline : Nanos) (x : DoridConn) : DoridConn :=
  { x with state := .run, seq := seq, rejoin := false, oneGood := false, errrate := false, deadline := some deadline }

/-- A connection that is EXPIRED, without a good frame before or held, stays so, as every one does without time (R329, R330). -/
theorem doridAccept_held {c seq : Nat} {age : Int} {m : List Byte} {d : Device}
    (h : (d.conn c).state = .expired ∧ ((d.conn c).oneGood = false ∨ (d.conn c).holdFrom ≠ none) ∨ d.comm.timeLost = true) :
    doridAccept c seq age m d = d.onConn c fun x => { x with seq := seq, rejoin := true, oneGood := true } := by
  refine if_pos ?_
  simpa [Option.isSome_iff_ne_none] using h

/-- Every other good frame delivers its payload and sets the deadline; one that ends EXPIRED clears its faults (R327, R328). -/
theorem doridAccept_good {c seq : Nat} {age : Int} {m : List Byte} {d : Device}
    (h : ¬((d.conn c).state = .expired ∧ ((d.conn c).oneGood = false ∨ (d.conn c).holdFrom ≠ none)))
    (ht : d.comm.timeLost = false) : doridAccept c seq age m d =
      let e := (d.onConn c (DoridConn.good seq (((d.t100 : Int) - age) * 100000 + ms (Cfg.dcTe d.scfg c)).toNat)).onSafety
        fun y => { y with payloads := (y.payloads.filter fun e => e.1 != c) ++ [(c, m)] }
      if (d.conn c).state != .run then clearFault .doridErrrate (.conn c) (clearFault .doridExpired (.conn c) e) else e := by
  refine if_neg ?_
  simpa [ht, Option.isSome_iff_ne_none] using h

/-- An expired connection delivers nothing more (R328, R329). -/
theorem doridExpire_payloads (c : Nat) (d : Device) : ∀ e ∈ (doridExpire c d).safety.payloads, e.1 ≠ c := by
  intro e he
  simpa using (List.mem_filter.mp he).2

theorem doridExpire_conn {c : Nat} {d : Device} (h : c < d.dorid.length) : (doridExpire c d).conn c =
    { d.conn c with state := .expired, rejoin := false, oneGood := false, deadline := none } := Device.onConn_conn _ h

theorem doridExpire_conn_ne {c b : Nat} (d : Device) (h : b ≠ c) : (doridExpire b d).conn c = d.conn c :=
  Device.onConn_conn_ne _ d h

theorem doridExpire_length (c : Nat) (d : Device) : (doridExpire c d).dorid.length = d.dorid.length :=
  Device.onConn_dorid_length ..

/-- The counters of a discarded frame (R329). -/
def DoridConn.discard (e : DoridError) (now : Nanos) (x : DoridConn) : DoridConn := { x with
  crcErr := if e = .crc then addSat 255 x.crcErr 1 else x.crcErr
  idErr := if e = .ident then addSat 255 x.idErr 1 else x.idErr
  seqErr := if e = .seq then addSat 255 x.seqErr 1 else x.seqErr
  ageErr := if e = .age then addSat 255 x.ageErr 1 else x.ageErr
  oneGood := false
  discards := (x.discards.filter fun t => decide (now < t + sec 1)) ++ [now] }

theorem DoridConn.discard_length (e : DoridError) (now : Nanos) (x : DoridConn) :
    (x.discard e now).discards.length = (x.discards.filter fun t => decide (now < t + sec 1)).length + 1 := by
  simp [DoridConn.discard]

theorem doridDiscard_eq {c : Nat} (e : DoridError) {d : Device} (hl : c < d.dorid.length) : doridDiscard c e d =
    let x := d.onConn c (DoridConn.discard e d.now)
    if 10 < ((d.conn c).discards.filter fun t => decide (d.now < t + sec 1)).length + 1 ∧ !(d.conn c).errrate then
      raise .doridErrrate (.conn c) 0 ((doridExpire c x).onConn c fun x => { x with errrate := true, holdFrom := some d.now })
    else x := by
  have hconn : (d.onConn c (DoridConn.discard e d.now)).conn c = (d.conn c).discard e d.now := Device.onConn_conn _ hl
  rw [← DoridConn.discard_length e, show (d.conn c).errrate = ((d.conn c).discard e d.now).errrate from rfl, ← hconn]
  rfl

theorem doridDiscard_counted {c : Nat} {e : DoridError} {d : Device} (hl : c < d.dorid.length)
    (h : (d.conn c).discards.length < 10) : doridDiscard c e d = d.onConn c (DoridConn.discard e d.now) := by
  rw [doridDiscard_eq e hl]
  refine if_neg fun ⟨hn, _⟩ => ?_
  have := List.length_filter_le (fun t => decide (d.now < t + sec 1)) (d.conn c).discards
  omega

/-- More than ten discarded frames within 1 s expire the connection (R329). -/
theorem doridDiscard_expires {c : Nat} {e : DoridError} {d : Device} (hl : c < d.dorid.length)
    (he : (d.conn c).errrate = false)
    (h : 10 ≤ ((d.conn c).discards.filter fun t => decide (d.now < t + sec 1)).length) : doridDiscard c e d =
      raise .doridErrrate (.conn c) 0 ((doridExpire c (d.onConn c (DoridConn.discard e d.now))).onConn c fun x =>
        { x with errrate := true, holdFrom := some d.now }) := by
  rw [doridDiscard_eq e hl]
  exact if_pos ⟨by omega, by simp [he]⟩

/-- A connection whose deadline has passed (R328). -/
theorem doridExpired_law {c : Nat} (frame : Bool) {d : Device} (hl : c < d.dorid.length) :
    (doridExpired c frame d).ctl = d.ctl ∧ ((doridExpired c frame d).conn c).state = .expired
      ∧ (doridExpired c frame d).hasFault .doridExpired (.conn c) 0
      ∧ (∀ e ∈ (doridExpired c frame d).safety.payloads, e.1 ≠ c)
      ∧ ((doridExpired c frame d).conn c).late = if frame then min 255 ((d.conn c).late + 1) else (d.conn c).late := by
  obtain ⟨hs, hc, -⟩ := raise_low_frame .doridExpired (.conn c) Nat.zero_lt_two (doridExpire c d)
  have hd : (raise .doridExpired (.conn c) 0 (doridExpire c d)).dorid = (doridExpire c d).dorid := by simp
  have hf : (raise .doridExpired (.conn c) 0 (doridExpire c d)).hasFault .doridExpired (.conn c) 0 :=
    raise_hasFault _ _ _ _ (by decide)
  unfold doridExpired
  extract_lets x
  have hx : x.ctl = d.ctl ∧ x.safety = (doridExpire c d).safety ∧ x.dorid = (doridExpire c d).dorid
      ∧ x.hasFault .doridExpired (.conn c) 0 := ⟨hc, hs, hd, hf⟩
  clear_value x
  obtain ⟨hc, hs, hd, hf⟩ := hx
  have hconn := (conn_of_dorid hd c).trans (doridExpire_conn hl)
  have hpay : ∀ e ∈ x.safety.payloads, e.1 ≠ c := hs ▸ doridExpire_payloads c d
  cases frame with
  | false => exact ⟨hc, congrArg (·.state) hconn, hf, hpay, congrArg (·.late) hconn⟩
  | true =>
    have hlen : c < x.dorid.length := by rw [hd, doridExpire_length]; exact hl
    have h := (Device.onConn_conn (fun x => { x with late := addSat 255 x.late 1 }) hlen).trans
      (congrArg (fun x : DoridConn => { x with late := addSat 255 x.late 1 }) hconn)
    exact ⟨hc, congrArg (·.state) h, hf, hpay, congrArg (·.late) h⟩

/-- Without time every consumer connection is EXPIRED (R330). -/
theorem doridTimeLost_law (d : Device) : (doridTimeLost d).ctl = d.ctl ∧ (doridTimeLost d).comm.timeLost = true
    ∧ (doridTimeLost d).hasFault .doridTimeLost .module 0
    ∧ ∀ c : Nat, c < 256 → c < d.dorid.length → d.consumes c = true → ((doridTimeLost d).conn c).state = .expired := by
  unfold doridTimeLost
  extract_lets x
  have hctl : x.ctl = d.ctl := Device.each_keeps (·.ctl) doridExpire (fun _ _ => rfl) _ d
  have hexp : ∀ c : Nat, c < 256 → c < d.dorid.length → d.consumes c = true → (x.conn c).state = .expired := by
    intro c hc hl hcons
    refine Device.each_establishes (P := fun e => (e.conn c).state = .expired) (Q := fun e => c < e.dorid.length)
      (List.mem_filter.mpr ⟨List.mem_range.mpr hc, hcons⟩) (fun b e he => ?_) (fun b e he => ?_) (fun e he => ?_) hl
    · rw [doridExpire_length]
      exact he
    · by_cases hb : b = c
      · subst hb
        by_cases hlen : b < e.dorid.length
        · exact congrArg (·.state) (doridExpire_conn hlen)
        · have hid : (doridExpire b e).dorid = e.dorid := List.modify_eq_self (Nat.le_of_not_lt hlen)
          rwa [conn_of_dorid hid]
      · rwa [doridExpire_conn_ne e hb]
    · exact congrArg (·.state) (doridExpire_conn he)
  clear_value x
  refine ⟨(raise_low_frame _ _ Nat.zero_lt_two _).2.1.trans hctl, congrArg (·.timeLost) (raise_low_comm _ _ Nat.zero_lt_two _),
    raise_hasFault _ _ _ _ (by decide), fun c hc hl hcons => ?_⟩
  rw [raise_conn]
  exact hexp c hc hl hcons

end Sys2Proof.Machine

/-! ## The statement -/

open Sys2Proof Sys2Proof.Machine

/-- Settles O40: the checks decide between acceptance and discard, and each acts on its connection alone. -/
theorem doridConnections : Obligations.DoridConnections := by
  unfold Obligations.DoridConnections
  refine ⟨fun c s h0 ha hc hp hs hl => ?produce, fun s h0 ha hs => ?response, fun c s hc h => ?noProduce,
    fun x now period m => x.sends_iff now period m,
    fun p net l s h0 ha hp hn => (exec_doridFrameRx h0 ha hp).trans (next_onDev ?unknown),
    fun p net l s h => congrArg Host.Outcome.next (if_neg ?deaf),
    fun p net c l m seq age s h0 ha hp hn hr ht hc => (exec_doridFrameRx h0 ha hp).trans (next_onDev ?good),
    fun p net c l m seq age s h0 ha hp hn hx hc => (exec_doridFrameRx h0 ha hp).trans
      (next_onDev ((doridFrameRx_ok hn hc).trans (doridAccept_held hx))),
    fun p net c l m seq age s h0 ha hp hn hx hg hh ht hl hc => ?back,
    fun p net c l s h0 ha hp hn hl hc hd => ?counted, fun p net c l e s h0 ha hp hn hl hc he hd => ?errrate,
    fun c f u s hc hr hu ht hl => ?expired, fun c f s h => congrArg Host.Outcome.next (if_neg (by simp [h])),
    fun c u s hu ht => congrArg Host.Outcome.next (if_pos (lasted_of_le hu ht)),
    fun c s h => congrArg Host.Outcome.next (if_neg (by simp [h, lasted])),
    fun s h0 ha hn => ?timeLost, fun s h => congrArg Host.Outcome.next (if_neg (by simp [h]))⟩
  case produce =>
    obtain ⟨hctl, hf, hsafety, hconn⟩ := produceRecord_law hl
    refine ⟨{ s with dev := produceRecord c s.dev }, ?_, rfl, rfl, ?_⟩
    · exact congrArg Host.Outcome.next ((if_neg (by simp [h0, ha])).trans ((if_neg hc).trans (if_pos ⟨hp, hs⟩)))
    · dsimp only
      exact ⟨hctl, hf, hsafety, congrArg (·.state) hconn, congrArg (·.seq) hconn, congrArg (·.started) hconn,
        congrArg (·.payload) hconn⟩
  case response => exact congrArg Host.Outcome.next ((if_neg (by simp [h0, ha])).trans ((if_pos rfl).trans (if_pos hs)))
  case noProduce =>
    refine congrArg Host.Outcome.next ((ite_congr rfl (fun _ => rfl) fun _ => (if_neg hc).trans (if_neg ?_)).trans (ite_self s))
    rcases h with h | h <;> simp [h]
  case unknown =>
    rw [doridFrameRx_none hn]
    exact ite_congr (propext ⟨fun h => Fin.ext h, fun h => congrArg Fin.val h⟩) (fun _ => rfl) fun _ => rfl
  case deaf => rcases h with h | h <;> simp [h]
  case good =>
    rw [doridFrameRx_ok hn hc, doridAccept_good (by simp [hr]) ht]
    exact if_neg (by simp [hr])
  case back =>
    refine ⟨{ s with dev := doridAccept c seq age m s.dev }, (exec_doridFrameRx h0 ha hp).trans
      (next_onDev (g := doridAccept c seq age m) (doridFrameRx_ok hn hc)), rfl, rfl, ?_⟩
    dsimp only
    rw [doridAccept_good (by simp [hg, hh]) ht]
    dsimp only
    rw [if_pos (by simp [hx])]
    have hconn := Device.onConn_conn
      (DoridConn.good seq (((s.dev.t100 : Int) - age) * 100000 + ms (Cfg.dcTe s.dev.scfg c)).toNat) hl
    refine ⟨?_, ?_, clearFault_keeps_inactive _ _ (clearFault_activeAt ..), by simp [Device.onSafety]⟩
    · rw [clearFault_conn, clearFault_conn]
      exact congrArg (·.state) hconn
    · rw [clearFault_conn, clearFault_conn]
      exact congrArg (·.seq) hconn
  case counted =>
    have hconn := Device.onConn_conn (DoridConn.discard .crc s.dev.now) hl
    refine ⟨{ s with dev := s.dev.onConn c (DoridConn.discard .crc s.dev.now) }, (exec_doridFrameRx h0 ha hp).trans
      (next_onDev (g := Device.onConn c (DoridConn.discard .crc s.dev.now)) ((doridFrameRx_error hn hc).trans (doridDiscard_counted hl hd))), rfl, rfl,
      congrArg (·.crcErr) hconn, congrArg (·.state) hconn, congrArg (·.seq) hconn, rfl, rfl⟩
  case errrate =>
    refine ⟨{ s with dev := doridDiscard c e s.dev }, (exec_doridFrameRx h0 ha hp).trans
      (next_onDev (g := doridDiscard c e) (doridFrameRx_error hn hc)), ?_⟩
    dsimp only
    rw [doridDiscard_expires hl he hd]
    have hlen : c < (s.dev.onConn c (DoridConn.discard e s.dev.now)).dorid.length := by
      rw [Device.onConn_dorid_length]
      exact hl
    have hconn := Device.onConn_conn (d := doridExpire c (s.dev.onConn c (DoridConn.discard e s.dev.now)))
      (fun x => { x with errrate := true, holdFrom := some s.dev.now }) ((doridExpire_length ..).symm ▸ hlen)
    refine ⟨?_, ?_, raise_hasFault _ _ _ _ (by decide), ?_⟩
    · rw [raise_conn, hconn, doridExpire_conn hlen]
    · rw [raise_conn, hconn]
    · rw [(raise_low_frame _ _ Nat.zero_lt_two _).1]
      exact doridExpire_payloads c _
  case expired =>
    obtain ⟨hctl, hx, hf, hpay, hlate⟩ := doridExpired_law f hl
    refine ⟨{ s with dev := doridExpired c f s.dev }, congrArg Host.Outcome.next (if_pos ⟨hc, hr, lasted_of_le hu ht⟩), rfl,
      rfl, ?_⟩
    dsimp only
    exact ⟨hctl, hx, hf, hpay, hlate⟩
  case timeLost =>
    obtain ⟨hctl, ht, hf, hx⟩ := doridTimeLost_law s.dev
    refine ⟨{ s with dev := doridTimeLost s.dev }, congrArg Host.Outcome.next (if_pos ⟨h0, ha, hn⟩), rfl, rfl, ?_⟩
    dsimp only
    exact ⟨hctl, ht, hf, hx⟩
end

section
/-!
PROOFS of the statement about the commissioning requests, and the refutation of that about the end of a burn (chapter 13).
-/

namespace Sys2Proof.Machine

/-! ## The connection (R335) -/

@[simp] theorem doridSend_rest (port net : Nat) (frame : List Byte) (d : Device) :
    (doridSend port net frame d).comm = d.comm ∧ (doridSend port net frame d).gates = d.gates
      ∧ (doridSend port net frame d).od = d.od ∧ (doridSend port net frame d).inj = d.inj := by
  unfold doridSend
  extract_lets padded
  split <;> simp

/-- The response's frame changes its connection and the queues alone. -/
@[simp] theorem commSend_frame (d : Device) : (commSend d).ctl = d.ctl ∧ (commSend d).safety = d.safety
    ∧ (commSend d).comm = d.comm ∧ (commSend d).faults = d.faults ∧ (commSend d).gates = d.gates
    ∧ (commSend d).inj = d.inj ∧ (commSend d).od = d.od := by
  unfold commSend
  split
  · simp
  · simp [doridProduce]

theorem each_onConn_frame (f : Nat → DoridConn → DoridConn) (l : List Nat) (d : Device) :
    (d.each l fun c => Device.onConn c (f c)).ctl = d.ctl ∧ (d.each l fun c => Device.onConn c (f c)).comm = d.comm
      ∧ (d.each l fun c => Device.onConn c (f c)).safety = d.safety ∧ (d.each l fun c => Device.onConn c (f c)).od = d.od :=
  ⟨Device.each_keeps (·.ctl) (fun c => Device.onConn c (f c)) (fun _ _ => rfl) l d,
    Device.each_keeps (·.comm) (fun c => Device.onConn c (f c)) (fun _ _ => rfl) l d,
    Device.each_keeps (·.safety) (fun c => Device.onConn c (f c)) (fun _ _ => rfl) l d,
    Device.each_keeps (·.od) (fun c => Device.onConn c (f c)) (fun _ _ => rfl) l d⟩

@[simp] theorem commPair_frame (p : DoridPhase) (d : Device) : (commPair p d).ctl = d.ctl ∧ (commPair p d).comm = d.comm
    ∧ (commPair p d).safety = d.safety ∧ (commPair p d).od = d.od := each_onConn_frame _ _ d

@[simp] theorem commAlive_frame (d : Device) : (commAlive d).ctl = d.ctl ∧ (commAlive d).comm = d.comm
    ∧ (commAlive d).safety = d.safety ∧ (commAlive d).od = d.od := ⟨rfl, rfl, rfl, rfl⟩

/-- The connection opens; in STANDBY the image in force becomes the shadow set (R335). -/
theorem commOpen_law (q : Path) (tool : Nat) (d : Device) : (commOpen q tool d).ctl = d.ctl
    ∧ (commOpen q tool d).comm.conn = some (q, tool) ∧ (commOpen q tool d).comm.trans = none
    ∧ (d.ctl.state = .standby → d.comm.state ≠ .burning →
        (commOpen q tool d).comm.state = .editing ∧ (commOpen q tool d).comm.shadow = d.safety.image)
    ∧ (d.ctl.state ≠ .standby → (commOpen q tool d).comm.shadow = d.comm.shadow) := by
  unfold commOpen
  extract_lets x
  have hx : x.ctl = d.ctl ∧ x.safety = d.safety
      ∧ x.comm = { d.comm with conn := some (q, tool), trans := none, showShadow := false } := by
    simp [x, Device.onComm]
  clear_value x
  obtain ⟨hctl, hs, hc⟩ := hx
  simp only [hctl, hc]
  split
  · next h =>
    refine ⟨hctl, by simp [loadShadow, Device.onComm, hc], by simp [loadShadow, Device.onComm, hc],
      fun _ _ => ⟨rfl, congrArg (·.image) hs⟩, fun hn => absurd h.1 hn⟩
  · next h => exact ⟨hctl, by rw [hc], by rw [hc], fun h1 h2 => absurd ⟨h1, h2⟩ h, fun _ => by rw [hc]⟩

/-- The end of proof-test mode, for commissioning. -/
theorem proofEnd_comm (d : Device) :
    (proofEnd d).comm = if d.comm.state = .proof then { d.comm with state := .none } else d.comm := by
  simp only [proofEnd]
  split
  · split <;> simp
  · rfl

/-- The connection closes; a burn goes on (R335). -/
theorem commExpired_law (lost : Bool) (d : Device) : (commExpired lost d).ctl = d.ctl
    ∧ (commExpired lost d).comm.conn = none
    ∧ (d.comm.state ≠ .burning → (commExpired lost d).comm.state = .none ∧ (commExpired lost d).comm.shadow = [])
    ∧ (d.comm.state = .burning → (commExpired lost d).comm.state = .burning
        ∧ (commExpired lost d).comm.burning = d.comm.burning) := by
  unfold commExpired
  extract_lets x y
  have hx : x.ctl = d.ctl ∧ x.comm = if d.comm.state = .proof then { d.comm with state := .none } else d.comm := by
    simp [x, proofEnd_comm]
  clear_value x
  obtain ⟨hctl, hc⟩ := hx
  have hy : y.ctl = d.ctl ∧ y.comm.conn = none ∧ (d.comm.state ≠ .burning → y.comm.state = .none ∧ y.comm.shadow = [])
      ∧ (d.comm.state = .burning → y.comm.state = .burning ∧ y.comm.burning = d.comm.burning) := by
    refine ⟨hctl, rfl, fun h => ?_, fun h => ?_⟩
    · have hs : x.comm.state ≠ .burning := by
        rw [hc]
        split
        · simp
        · exact h
      simp [y, Device.onComm, hs]
    · rw [if_neg (by simp [h])] at hc
      simp [y, Device.onComm, hc, h]
  clear_value y
  split
  · exact hy
  · exact hy

/-! ## Requests (R336) -/

/-- The device as a request finds it: its path in use, its deadline moved on. -/
def commReady (q : Path) (s : State) : State := { s with dev := commAlive (touchPath q s.dev) }

/-- A request with a new TRANS in a state that takes its opcode runs and is answered. -/
theorem commRequest_runs {q : Path} {tool op xact : Nat} {f : State → CommAnswer × State} {a : CommAnswer} {s u : State}
    (h : s.dev.commTakes q tool xact) (hs : s.dev.ctl.state = .standby ∨ runOpcode op = true)
    (hf : f (commReady q s) = (a, u)) : commRequest op xact f s = commAnswer op xact a u := by
  obtain ⟨hconn, hstate, hlevel, htrans, hburn⟩ := h
  unfold commRequest
  rw [hconn]
  dsimp only
  rw [if_neg (by simp [hstate, hlevel])]
  refine (if_neg htrans).trans ((if_neg ?_).trans
    (congrArg (fun r : CommAnswer × State => commAnswer op xact r.1 r.2) hf))
  rintro (hb | ⟨h1, h2⟩)
  · exact hburn hb
  · rcases hs with hs | hs
    · exact h1 hs
    · simp [hs] at h2

/-- A request that only STANDBY takes is answered with RESULT 4 elsewhere (R335). -/
theorem commRequest_refused {q : Path} {tool op xact : Nat} {f : State → CommAnswer × State} {s : State}
    (h : s.dev.commTakes q tool xact) (hs : s.dev.ctl.state ≠ .standby) (ho : runOpcode op = false) :
    commRequest op xact f s = commAnswer op xact { result := 4 } (commReady q s) := by
  obtain ⟨hconn, hstate, hlevel, htrans, hburn⟩ := h
  unfold commRequest
  rw [hconn]
  dsimp only
  rw [if_neg (by simp [hstate, hlevel])]
  exact (if_neg htrans).trans (if_pos (.inr ⟨hs, by simp [ho]⟩))

theorem commRequest_repeated {q : Path} {tool op xact : Nat} {f : State → CommAnswer × State} {s : State}
    (hconn : s.dev.comm.conn = some (q, tool)) (hstate : s.dev.ctl.state.commissions = true)
    (hlevel : s.dev.levelOpen q .e = true) (htrans : s.dev.comm.trans = some xact) :
    commRequest op xact f s = (commReady q s).onDev commSend := by
  unfold commRequest
  rw [hconn]
  dsimp only
  rw [if_neg (by simp [hstate, hlevel])]
  exact if_pos htrans

/-- An answer records its result and touches the safety core, module control and the shadow set not. -/
theorem commAnswer_law (op xact : Nat) (a : CommAnswer) (s : State) : (commAnswer op xact a s).pending = s.pending
    ∧ (commAnswer op xact a s).otp = s.otp ∧ (commAnswer op xact a s).dev.ctl = s.dev.ctl
    ∧ (commAnswer op xact a s).dev.safety = s.dev.safety ∧ (commAnswer op xact a s).dev.comm = { s.dev.comm with
        trans := some xact, opcode := op, rTrans := xact, result := a.result, rule := a.rule, index := a.index, sub := a.sub
        data := a.data, showShadow := a.shadow } := by
  simp [commAnswer, State.onDev, Device.onComm]

/-- A write of a safety object that exists, with a value in range, enters the shadow set (R336). -/
theorem commWrite_ok {ix sub : Nat} {l : List Byte} {r : ObjRow} {j k : Nat} {s : State}
    (hf : objFind ix sub objTable = some (r, j, k)) (ho : commObject ix sub = true) (hr : r.acc = .rws)
    (hl : l.length = r.ty.size) (hv : r.inRange (leNat l) = true) (hx : ix ≠ 0x2000) (hs : s.dev.comm.hasShadow = true) :
    ∃ a : CommAnswer, a.result = 0 ∧ commWrite ix sub l s = (a, s.onDev fun d => d.onComm fun x => { x with
      state := .editing, shadowCheck := 0, shadow := Settings.set x.shadow (ix * 256 + sub) (leNat l) }) := by
  simp [commWrite, hf, ho, hr, hl, hv, hx, hs, State.onDev, Device.onComm]

theorem commRead_shadow {q : Path} {ix sub : Nat} {r : ObjRow} {j k : Nat} {s : State}
    (hf : objFind ix sub objTable = some (r, j, k)) (ho : commObject ix sub = true) (hs : s.dev.comm.hasShadow = true) :
    commRead q ix sub s = ({ result := 0, index := ix, sub, data := leBytes r.ty.size (s.dev.comm.shadowValue ix sub
      (r.default j k)) }, s) := by
  simp [commRead, hf, ho, hs]

theorem commCheck_ok {s : State} (hs : s.dev.comm.hasShadow = true) (hr : s.dev.shadowRule = 0) : commCheck s =
    ({ result := 0, shadow := true },
      s.onDev fun d => d.onComm fun x => { x with state := .checked, shadowCheck := checkValueOf x.shadow }) := by
  simp [commCheck, hs, hr]

theorem commConfirm_other {v : W32} {s : State} (hs : s.dev.comm.state = .checked) (hv : v ≠ s.dev.comm.shadowCheck) :
    commConfirm v s = ({ result := 6 }, s) := by
  simp [commConfirm, hs, hv]

/-- The confirm of a checked set starts its burn (R338). -/
theorem commConfirm_burns {g : Nat} {s : State} (hs : s.dev.comm.state = .checked) (hg : s.otp.nextGen = some g)
    (hf : s.otp.fusesOk = true) (hk : s.otp.keysOk = true) : commConfirm s.dev.comm.shadowCheck s =
      ({ result := 1 }, s.onDev fun d => d.onComm fun x => { x with
        state := .burning, burning := some (x.shadow, g, x.pairPos, (x.conn.map Prod.snd).getD 0) }) := by
  simp [commConfirm, hs, hg, beforeBurn, hf, hk]

/-! ## A burn of a pair position that the beat has not read yet -/

/-- A burn of generation 1 with PAIR_POSITION 1, in a module whose beat knows PAIR_POSITION 0. -/
def burnState : State :=
  { pending := [], otp := {}, dev := { ({} : Device) with
      comm := { state := .burning, burning := some ([], 1, 1, 0) }, safety := { sc := .run }, boot := { fwStarted := true } } }

end Sys2Proof.Machine

/-! ## The statements -/

open Sys2Proof Sys2Proof.Machine

/-- Settles O41: a request runs once per TRANS, in the states that take it, and its answer touches the response alone. -/
theorem commissioningRequests : Obligations.CommissioningRequests := by
  unfold Obligations.CommissioningRequests
  refine ⟨fun q tool s hc hq hl hs => ?opened, fun q tool s h => congrArg Host.Outcome.next (if_neg ?notOpened),
    fun f s h => congrArg Host.Outcome.next (if_neg (by simp [h])), fun f u s hc hu ht => ?expired,
    fun xact q tool s h => congrArg Host.Outcome.next (commRequest_runs h (.inr rfl) rfl), fun xact s h => ?noIdle,
    fun xact q tool v s hc hs hl ht => congrArg Host.Outcome.next (commRequest_repeated hc hs hl ht),
    fun xact q tool s h hs => ⟨congrArg Host.Outcome.next (commRequest_refused h hs rfl),
      congrArg Host.Outcome.next (commRequest_refused h hs rfl)⟩,
    fun xact ix sub l q tool r j k s h hs hsh hf ho hr hl hv hx => ?write,
    fun xact ix sub q tool r j k s h hs hsh hf ho =>
      congrArg Host.Outcome.next (commRequest_runs h (.inl hs) (commRead_shadow (s := commReady q s) hf ho hsh)),
    fun xact q tool s h hs hsh hr =>
      congrArg Host.Outcome.next (commRequest_runs h (.inl hs) (commCheck_ok (s := commReady q s) hsh hr)),
    fun xact q tool v s h hs hst hv =>
      congrArg Host.Outcome.next (commRequest_runs h (.inl hs) (commConfirm_other (s := commReady q s) hst hv)),
    fun xact q tool g s h hs hst hg hf hk => ?burn,
    fun xact q tool s h hs => congrArg Host.Outcome.next (commRequest_runs h (.inl hs) rfl)⟩
  case opened =>
    obtain ⟨hctl, hconn, htrans, hstandby, hother⟩ := commOpen_law q tool.toNat s.dev
    refine ⟨{ s with dev := commOpen q tool.toNat s.dev }, congrArg Host.Outcome.next (if_pos ⟨by simp [hc], hq, hl, hs⟩), rfl,
      rfl, ?_⟩
    dsimp only
    exact ⟨hconn, htrans, hctl, hstandby, hother⟩
  case notOpened => rcases h with h | h | h <;> simp [h]
  case expired =>
    obtain ⟨hctl, hconn, hother, hburn⟩ := commExpired_law f s.dev
    refine ⟨{ s with dev := commExpired f s.dev }, congrArg Host.Outcome.next
      (if_pos ⟨Option.isSome_iff_ne_none.mpr hc, lasted_of_le hu ht⟩), rfl, rfl, ?_⟩
    dsimp only
    exact ⟨hconn, hctl, hother, hburn⟩
  case noIdle =>
    refine congrArg Host.Outcome.next ?_
    unfold commRequest
    rw [h]
  case write =>
    have hx' : ix.toNat ≠ 0x2000 := fun h => hx (BitVec.eq_of_toNat_eq h)
    obtain ⟨a, ha, hw⟩ := commWrite_ok (s := commReady q s) hf ho hr hl hv hx' hsh
    have hrun := commRequest_runs (op := 1) h (.inl hs) hw
    obtain ⟨hp, hotp, hctl, hsafety, hcomm⟩ := commAnswer_law 1 xact.toNat a ((commReady q s).onDev fun d =>
      d.onComm fun x => { x with
        state := .editing, shadowCheck := 0, shadow := Settings.set x.shadow (ix.toNat * 256 + sub.toNat) (leNat l) })
    refine ⟨_, congrArg Host.Outcome.next hrun, ?_⟩
    rw [hp, hotp, hctl, hsafety, hcomm, ha]
    exact ⟨rfl, rfl, rfl, rfl, rfl, rfl, rfl⟩
  case burn =>
    have hrun := commRequest_runs (op := 4) h (.inl hs) (commConfirm_burns (s := commReady q s) hst hg hf hk)
    obtain ⟨hp, hotp, hctl, hsafety, hcomm⟩ := commAnswer_law 4 xact.toNat { result := 1 }
      ((commReady q s).onDev fun d => d.onComm fun x => { x with
        state := .burning, burning := some (x.shadow, g, x.pairPos, (x.conn.map Prod.snd).getD 0) })
    refine ⟨_, congrArg Host.Outcome.next hrun, ?_⟩
    rw [hp, hotp, hsafety, hcomm]
    refine ⟨rfl, rfl, rfl, rfl, ?_, rfl⟩
    show some (s.dev.comm.shadow, g, s.dev.comm.pairPos, (s.dev.comm.conn.map Prod.snd).getD 0) = _
    rw [h.1]
    rfl

/-- Refutes O42: the burn sets PAIR_POSITION in force, but the settings the beat uses, which the statement reads, take it over
only at the next beat (R13): a burn of PAIR_POSITION 1 leaves them at 0. -/
theorem not_burnAndProofTest : ¬ Obligations.BurnAndProofTest := by
  unfold Obligations.BurnAndProofTest
  rintro ⟨hburn, -⟩
  obtain ⟨t, ht, -, -, -, -, -, hpair, -⟩ := hburn [] 1 1 0 burnState rfl rfl rfl (by decide) (by decide)
  cases ht
  exact absurd hpair (show Cfg.pairPosition (burnDone true burnState).dev.cfg ≠ 1 by decide +kernel)
end

section
/-!
PROOFS of the statement about the transmit queues, the receive objects and the CAN ports (chapter 14).
-/

namespace Sys2Proof.Machine

/-! ## What reports and answers leave of the networks: all but the transmit queues -/

/-- The networks without the transmit queues. -/
def Net.noQueues (x : Net) : Net := { x with txq := [], waiting := [] }

theorem txEnqueue_noQueues (f : TxFrame) (d : Device) : (txEnqueue f d).net.noQueues = d.net.noQueues := by
  unfold txEnqueue
  extract_lets q x g
  split
  · rfl
  · split
    · rfl
    · split <;> rfl

theorem emcyOn_noQueues (onB : Bool) (f : FaultName) (r : Nat) (sc : Scope) (d : Device) :
    (emcyOn onB f r sc d).net.noQueues = d.net.noQueues := by
  unfold emcyOn
  extract_lets port
  split
  · rfl
  · exact txEnqueue_noQueues _ d

theorem report_noQueues (k : Nat) (f : FaultName) (r : Nat) (sc : Scope) (d : Device) :
    (report k f r sc d).net.noQueues = d.net.noQueues := by
  unfold report emcy
  rw [emcyOn_noQueues, emcyOn_noQueues]
  unfold pushEvent
  split <;> rfl

theorem injHit_net (f : FaultName) (sc : Scope) (d : Device) : (injHit f sc d).net = d.net := by simp

theorem raise_low_noQueues (f : FaultName) (sc : Scope) {r : Nat} (h : r < 2) (d : Device) :
    (raise f sc r d).net.noQueues = d.net.noQueues := by
  obtain ⟨fm, he | he⟩ := raise_low_cases f sc h d
  · rw [he]
    exact congrArg Net.noQueues (injHit_net f sc d)
  · rw [he, report_noQueues]
    exact congrArg Net.noQueues (injHit_net f sc d)

theorem clearFault_noQueues (f : FaultName) (sc : Scope) (d : Device) :
    (clearFault f sc d).net.noQueues = d.net.noQueues := by
  unfold clearFault
  split
  · rfl
  · rw [report_noQueues]

theorem answer_noQueues (q : Path) (c : W32) (l : List Byte) (d : Device) :
    (answer q c l d).net.noQueues = d.net.noQueues := txEnqueue_noQueues _ _

/-- Devices whose networks agree outside the queues have the same CAN ports. -/
theorem canPort_of_noQueues {d e : Device} (h : e.net.noQueues = d.net.noQueues) (p : CanPort) : e.canPort p = d.canPort p := by
  cases p with
  | canA => exact congrArg (·.canA) h
  | canB => exact congrArg (·.canB) h
  | canC => exact congrArg (·.canC) h

theorem raise_low_canPort (f : FaultName) (sc : Scope) {r : Nat} (h : r < 2) (d : Device) (p : CanPort) :
    (raise f sc r d).canPort p = d.canPort p := canPort_of_noQueues (raise_low_noQueues f sc h d) p

theorem clearFault_canPort (f : FaultName) (sc : Scope) (d : Device) (p : CanPort) :
    (clearFault f sc d).canPort p = d.canPort p := canPort_of_noQueues (clearFault_noQueues f sc d) p

theorem Device.onCan_ne {p q : CanPort} (f : CanState → CanState) (d : Device) (h : q ≠ p) :
    (d.onCan p f).canPort q = d.canPort q := by
  match p, q with
  | .canA, .canA | .canB, .canB | .canC, .canC => exact absurd rfl h
  | .canA, .canB | .canA, .canC | .canB, .canA | .canB, .canC | .canC, .canA | .canC, .canB => rfl

/-! ## Transmit queues (R349 to R353) -/

theorem txEnqueue_appends {f : TxFrame} {d : Device} (hp : Cfg.txqPort d.cfg (d.classQueue f.cls) ≠ 0xFF)
    (hl : (d.net.txq.getD (d.classQueue f.cls) {}).frames.length < 64) : txEnqueue f d =
      { d with net := { d.net with txq := d.net.txq.modify (d.classQueue f.cls) fun x =>
        { x with frames := x.frames ++ [{ f with time := d.now }] } } } := by
  exact (if_neg hp).trans (if_pos hl)

theorem txEnqueue_drops {f : TxFrame} {d : Device} (hp : Cfg.txqPort d.cfg (d.classQueue f.cls) ≠ 0xFF)
    (hl : 64 ≤ (d.net.txq.getD (d.classQueue f.cls) {}).frames.length) (hc : cyclicClass f.cls = true) : txEnqueue f d =
      { d with net := { d.net with txq := d.net.txq.modify (d.classQueue f.cls) fun x =>
        { x with full := true, drop := (x.drop + 1) % 2 ^ 32 } } } := by
  exact (if_neg hp).trans ((if_neg (Nat.not_lt.mpr hl)).trans (if_pos hc))

/-- A property of every queue survives a change of one that keeps it. -/
theorem forall_mem_modify {P : α → Prop} {l : List α} {n : Nat} {f : α → α} (h : ∀ x ∈ l, P x)
    (hf : ∀ x, l[n]? = some x → P (f x)) : ∀ x ∈ l.modify n f, P x := by
  intro x hx
  obtain ⟨i, hi⟩ := List.mem_iff_getElem?.mp hx
  rw [List.getElem?_modify] at hi
  obtain ⟨y, hy, rfl⟩ := Option.map_eq_some_iff.mp hi
  split
  · next hn => exact hf y (hn ▸ hy)
  · exact h y (List.mem_of_getElem? hy)

/-- No queue grows beyond 64 frames (R349). -/
theorem txEnqueue_length {f : TxFrame} {d : Device} (h : ∀ x ∈ d.net.txq, x.frames.length ≤ 64) :
    ∀ x ∈ (txEnqueue f d).net.txq, x.frames.length ≤ 64 := by
  unfold txEnqueue
  extract_lets q y g
  split
  · exact h
  · split
    · next hl =>
      refine forall_mem_modify h fun x hx => ?_
      have hy : y = x := by simp [y, List.getD_eq_getElem?_getD, hx]
      rw [hy] at hl
      simp only [List.length_append, List.length_singleton]
      omega
    · split
      · exact forall_mem_modify h fun x hx => h x (List.mem_of_getElem? hx)
      · exact h

theorem frameSent_nil {q : Nat} {d : Device} (h : (d.net.txq.getD q {}).frames = []) : frameSent q d = d := by
  unfold frameSent
  rw [h]

theorem frameSent_blocked {q : Nat} {d : Device} (h : d.canSend (Cfg.txqPort d.cfg q) = false) : frameSent q d = d := by
  unfold frameSent
  split
  · rfl
  · exact if_pos (by simp [h])

/-- The head goes out; with no response waiting its queue is the rest (R349). -/
theorem frameSent_cons {q : Nat} {f : TxFrame} {rest : List TxFrame} {d : Device} (h : (d.net.txq.getD q {}).frames = f :: rest)
    (hs : d.canSend (Cfg.txqPort d.cfg q) = true) (hw : d.net.waiting = []) : frameSent q d =
      { d with net := { d.net with
        lastSent := some (d.asSent q (Cfg.txqPort d.cfg q) f)
        txq := d.net.txq.modify q fun x => { x with frames := rest, full := false } } } := by
  unfold frameSent
  rw [h]
  dsimp only
  rw [hs]
  unfold refill
  simp [hw]

/-- The head of lowest key goes out, ties to the lower queue number (R349). -/
theorem headWins_iff {d : Device} {q : Nat} {f : TxFrame} {rest : List TxFrame}
    (h : (d.net.txq.getD q {}).frames = f :: rest) :
    d.headWins q ↔ ∀ r : Nat, r < 16 → r ≠ q → Cfg.txqPort d.cfg r = Cfg.txqPort d.cfg q → ∀ (g : TxFrame)
        (l : List TxFrame), (d.net.txq.getD r {}).frames = g :: l →
          d.headKey q f < d.headKey r g ∨ (d.headKey q f = d.headKey r g ∧ q < r) := by
  unfold Device.headWins
  rw [h, List.head?_cons]
  simp only [List.all_eq_true, List.mem_range]
  refine forall₂_congr fun r hr => ?_
  cases hfr : (d.net.txq.getD r {}).frames with
  | nil => simp
  | cons g l =>
    simp only [List.head?_cons, Bool.or_eq_true, beq_iff_eq, bne_iff_ne, ne_eq, decide_eq_true_eq, Bool.and_eq_true,
      List.cons.injEq, and_imp, forall_eq', forall_apply_eq_imp_iff]
    constructor
    · intro hor hne hp
      rcases hor with (h1 | h1) | h1
      · exact absurd h1 hne
      · exact absurd hp h1
      · exact h1
    · intro hall
      by_cases h1 : r = q
      · exact .inl (.inl h1)
      · by_cases h2 : Cfg.txqPort d.cfg r = Cfg.txqPort d.cfg q
        · exact .inr (hall h1 h2)
        · exact .inl (.inr h2)

/-! ## Receive objects (R354 to R356) -/

/-- What a list of keyed values holds once the value of one key is changed, or entered where there was none. -/
theorem lookup_changed [DecidableEq κ] (l : List (κ × α)) (a k : κ) (f : α → α) (z : α) :
    (if (l.any fun e => e.1 == a) = true then l.map fun e => if e.1 == a then (a, f e.2) else e
      else l ++ [(a, f z)]).lookup k = if k = a then some (f ((l.lookup a).getD z)) else l.lookup k := by
  by_cases h : (l.any fun e => e.1 == a) = true
  · have hl : (l.map fun e => if e.1 == a then (a, f e.2) else e)
        = l.map fun e => (e.1, (fun k x => if k == a then f x else x) e.1 e.2) := by
      refine List.map_congr_left fun e _ => ?_
      by_cases he : e.1 = a <;> simp [he]
    rw [if_pos h, hl, lookup_map_snd (fun k x => if k == a then f x else x)]
    by_cases hk : k = a
    · obtain ⟨e, he, hr⟩ := List.any_eq_true.mp h
      cases hs : l.lookup a with
      | some x => simp [hk, hs]
      | none =>
        have := List.lookup_eq_none_iff.mp hs e he
        simp [eq_of_beq hr] at this
    · simp [hk]
  · rw [if_neg h, List.lookup_append, lookup_step]
    have hn := lookup_none_of_any _ _ (Bool.eq_false_iff.mpr h)
    by_cases hk : k = a
    · simp [hk, hn]
    · simp [hk]

theorem Device.onRx_rxObject (r : Nat) (f : RxObject → RxObject) (d : Device) :
    (d.onRx r f).rxObject r = f (d.rxObject r) := by
  refine (congrArg (·.getD {}) (lookup_changed d.net.rx r r f {})).trans ?_
  rw [if_pos rfl]
  rfl

theorem Device.onRx_rxObject_ne {r k : Nat} (f : RxObject → RxObject) (d : Device) (hk : k ≠ r) :
    (d.onRx r f).rxObject k = d.rxObject k := by
  refine (congrArg (·.getD {}) (lookup_changed d.net.rx r k f {})).trans ?_
  rw [if_neg hk]
  rfl

theorem heartbeatSeen_frame (p : CanPort) (f : CanFrame) (d : Device) : (heartbeatSeen p f d).ctl = d.ctl
    ∧ (heartbeatSeen p f d).net.rx = d.net.rx := by
  unfold heartbeatSeen
  split <;> exact ⟨rfl, rfl⟩

theorem onCan_lastRx_frame (p : CanPort) (g : CanState → CanState) (d : Device) : (d.onCan p g).net.rx = d.net.rx
    ∧ (d.onCan p g).net.isoAddr = d.net.isoAddr ∧ (d.onCan p g).net.rxLong = d.net.rxLong := by
  cases p <;> exact ⟨rfl, rfl, rfl⟩

theorem onCan_onCan (p : CanPort) (f g : CanState → CanState) (d : Device) :
    (d.onCan p f).onCan p g = d.onCan p fun x => g (f x) := by
  cases p <;> rfl

theorem onCan_rxMatch (p q : CanPort) (g : CanState → CanState) (f : CanFrame) (d : Device) :
    (d.onCan q g).rxMatch p f = d.rxMatch p f := by
  have hc : (d.onCan q g).cfg = d.cfg := by cases q <;> rfl
  have hs : (d.onCan q g).scfg = d.scfg := by cases q <;> rfl
  unfold Device.rxMatch Device.fwBinds
  rw [hc, hs]

section
variable {p : CanPort} {f : CanFrame} {sof : Nat} {d : Device}

theorem canFrameRx_ignored (h : d.canSend p.num = false ∨ frameCarried f p = false) : canFrameRx p f sof d = d := by
  unfold canFrameRx
  rw [if_pos (by rcases h with h | h <;> simp [h])]

theorem canFrameRx_long (hs : d.canSend p.num = true) (hc : frameCarried f p = true) (hx : f.xl = true)
    (hl : 64 < f.data.length) : canFrameRx p f sof d =
      { d.onCan p fun x => { x with lastRx := some f } with
        net := { (d.onCan p fun x => { x with lastRx := some f }).net with rxLong := (d.net.rxLong + 1) % 2 ^ 32 } } := by
  unfold canFrameRx
  rw [if_neg (by simp [hs, hc])]
  dsimp only
  rw [if_pos ⟨hx, hl⟩, (onCan_lastRx_frame p _ d).2.2]
  rfl

/-- The receive object a frame of at most 64 bytes matches takes it (R354, R355). -/
theorem canFrameRx_some {r : Nat} {fw : Bool} (hs : d.canSend p.num = true) (hc : frameCarried f p = true)
    (hl : f.xl = false ∨ f.data.length ≤ 64) (hm : d.rxMatch p f = some (r, fw)) : canFrameRx p f sof d =
      heartbeatSeen p f ((d.onCan p fun x => { x with lastRx := some f }).onRx r fun old => old.receive fw f sof) := by
  unfold canFrameRx
  rw [if_neg (by simp [hs, hc])]
  dsimp only
  rw [if_neg (by rcases hl with h | h <;> simp [h]), onCan_rxMatch, hm]

/-- A frame that no receive object matches is counted, but for those of the ISO 11783 services (R346, R354). -/
theorem canFrameRx_unmatched (hs : d.canSend p.num = true) (hc : frameCarried f p = true)
    (hl : f.xl = false ∨ f.data.length ≤ 64) (hm : d.rxMatch p f = none)
    (hi : p ≠ .canC ∨ d.isoService f.ident = false) : canFrameRx p f sof d =
      d.onCan p fun x => { x with lastRx := some f, unmatched := (x.unmatched + 1) % 2 ^ 32 } := by
  have hiso : (d.onCan p fun x => { x with lastRx := some f }).isoService f.ident = d.isoService f.ident := by
    cases p <;> rfl
  unfold canFrameRx
  rw [if_neg (by simp [hs, hc])]
  dsimp only
  rw [if_neg (by rcases hl with h | h <;> simp [h]), onCan_rxMatch, hm]
  dsimp only
  rw [hiso, if_neg (by rcases hi with h | h <;> simp [h]), onCan_onCan]
  rfl

theorem canFrameRx_matches {r : Nat} {fw : Bool} (hs : d.canSend p.num = true) (hc : frameCarried f p = true)
    (hl : f.xl = false ∨ f.data.length ≤ 64) (hm : d.rxMatch p f = some (r, fw)) : (canFrameRx p f sof d).ctl = d.ctl
      ∧ (canFrameRx p f sof d).rxObject r = (d.rxObject r).receive fw f sof
      ∧ ∀ k : Nat, k ≠ r → (canFrameRx p f sof d).rxObject k = d.rxObject k := by
  have hrx {x y : Device} (h : y.net.rx = x.net.rx) (k : Nat) : y.rxObject k = x.rxObject k := by
    unfold Device.rxObject
    rw [h]
  rw [canFrameRx_some hs hc hl hm]
  obtain ⟨hctl, hnet⟩ := heartbeatSeen_frame p f ((d.onCan p fun x => { x with lastRx := some f }).onRx r fun old =>
    old.receive fw f sof)
  have hcan := hrx (onCan_lastRx_frame p (fun x => { x with lastRx := some f }) d).1
  refine ⟨hctl.trans (Device.onCan_ctl ..), ?_, fun k hk => ?_⟩
  · rw [hrx hnet, Device.onRx_rxObject, hcan]
  · rw [hrx hnet, Device.onRx_rxObject_ne _ _ hk, hcan]

end

/-! ## Fault confinement and load (R357 to R359) -/

/-- Sessions that end leave module control, the faults and the networks alone. -/
@[simp] theorem closeSessions_frame (f : Path → Bool) (d : Device) : (closeSessions f d).ctl = d.ctl
    ∧ (closeSessions f d).faults = d.faults ∧ (closeSessions f d).net = d.net :=
  ⟨Device.each_keeps (·.ctl) closeSession (fun _ _ => rfl) _ d, Device.each_keeps (·.faults) closeSession (fun _ _ => rfl) _ d,
    Device.each_keeps (·.net) closeSession (fun _ _ => rfl) _ d⟩

/-- A notice leaves its fault active and module control and the ports as they are (R357). -/
theorem notice_law {f : FaultName} (p : CanPort) (d : Device) (hf : f ≠ .proofTest) : (notice f p d).ctl = d.ctl
    ∧ (∀ q, (notice f p d).canPort q = d.canPort q) ∧ (notice f p d).hasFault f (canScope p) 0 := by
  unfold notice
  split
  · next h => exact ⟨rfl, fun _ => rfl, hasFault_of_activeAt h⟩
  · exact ⟨(raise_low_frame f _ Nat.zero_lt_two d).2.1, fun q => raise_low_canPort f _ Nat.zero_lt_two d q,
      raise_hasFault f (canScope p) 0 d hf⟩

theorem warnByCounters_frame (p : CanPort) (tec rec : Nat) (d : Device) : (warnByCounters p tec rec d).ctl = d.ctl
    ∧ ∀ q, (warnByCounters p tec rec d).canPort q = d.canPort q := by
  unfold warnByCounters
  extract_lets lim
  split
  · obtain ⟨h1, h2, -⟩ := notice_law (f := .canWarn) p d (by decide)
    exact ⟨h1, h2⟩
  · split
    · exact ⟨by simp, fun q => clearFault_canPort ..⟩
    · exact ⟨rfl, fun _ => rfl⟩

/-- The device once the counters of a port are taken and CAN_WARN is judged (R357). -/
def canCounted (p : CanPort) (tec rec : Nat) (d : Device) : Device :=
  warnByCounters p tec rec (d.onCan p fun x => { x with tec := min 511 tec, rec_ := min 255 rec, conf := confOf tec rec })

theorem canCounted_law (p : CanPort) (tec rec : Nat) (d : Device) : (canCounted p tec rec d).ctl = d.ctl
    ∧ (canCounted p tec rec d).canPort p
      = { d.canPort p with tec := min 511 tec, rec_ := min 255 rec, conf := confOf tec rec } := by
  obtain ⟨h1, h2⟩ := warnByCounters_frame p tec rec
    (d.onCan p fun x => { x with tec := min 511 tec, rec_ := min 255 rec, conf := confOf tec rec })
  exact ⟨h1.trans (Device.onCan_ctl ..), (h2 p).trans (Device.onCan_same ..)⟩

theorem canErrorState_active {p : CanPort} {tec rec : Nat} (d : Device) (h : confOf tec rec = 0) :
    canErrorState p tec rec d = clearFault .canPassive (canScope p) (canCounted p tec rec d) := by
  unfold canErrorState
  rw [h]
  dsimp only
  rw [canCounted, h]
  rfl

/-- Bus-off is reported and closes the sessions of its port (R357, R392). -/
theorem canErrorState_busoff {p : CanPort} {tec rec : Nat} (d : Device) (h : confOf tec rec = 2) : ∃ f : Path → Bool,
    canErrorState p tec rec d = closeSessions f (notice .canBusoff p (canCounted p tec rec d)) := by
  unfold canErrorState
  rw [h]
  dsimp only
  rw [canCounted, h]
  exact ⟨_, rfl⟩

theorem confOf_busoff {tec : Nat} (rec : Nat) (h : 256 ≤ tec) : confOf tec rec = 2 := if_pos h

theorem confOf_active {tec rec : Nat} (h1 : tec < 128) (h2 : rec < 128) : confOf tec rec = 0 :=
  (if_neg (by omega)).trans (if_neg (by omega))

/-- A port that bit p names and that is bus-off may recover (R358). -/
def recoverStart (mask : Nat) (p : CanPort) (d : Device) : Device :=
  if mask.testBit p.num && (d.canPort p).conf == 2 then d.onCan p fun x => { x with recovering := true } else d

theorem recoverStart_same (mask : Nat) (p : CanPort) (d : Device) : (recoverStart mask p d).canPort p =
    { d.canPort p with recovering := (d.canPort p).recovering || (mask.testBit p.num && (d.canPort p).conf == 2) } := by
  unfold recoverStart
  split
  · next h => simp [h]
  · next h =>
    rw [Bool.not_eq_true] at h
    simp [h]

theorem recoverStart_ne {mask : Nat} {p q : CanPort} (d : Device) (h : q ≠ p) :
    (recoverStart mask p d).canPort q = d.canPort q := by
  unfold recoverStart
  split
  · exact Device.onCan_ne _ d h
  · rfl

theorem each_recoverStart (mask : Nat) (p : CanPort) (d : Device) :
    (d.each [CanPort.canA, .canB, .canC] (recoverStart mask)).canPort p =
      { d.canPort p with recovering := (d.canPort p).recovering || (mask.testBit p.num && (d.canPort p).conf == 2) } := by
  obtain ⟨x, hx, he⟩ := Device.each_at (f := recoverStart mask) (·.canPort p) (a := p) (l := [CanPort.canA, .canB, .canC])
    (by decide) (by cases p <;> decide) (fun q hq x => recoverStart_ne x hq.symm) d
  rw [he, recoverStart_same, hx]

theorem cmdCanRecover_ok {mask : Nat} {d : Device}
    (h : ∀ k : Nat, k < 3 → (d.cross.blocks.getD k {}).absent = false ∧ (d.cross.xing.getD (k + 1) {}).phase ≠ .holding) :
    cmdCanRecover mask d = (Abort.ok, d.each [CanPort.canA, .canB, .canC] (recoverStart mask)) := by
  refine if_neg fun hc => ?_
  obtain ⟨k, hk, hb⟩ := List.any_eq_true.mp hc
  obtain ⟨h1, h2⟩ := h k (by simp at hk; omega)
  simp only [h1, Bool.false_or, Bool.and_eq_true, beq_iff_eq] at hb
  exact h2 hb.2

theorem purgeStale_frame (p : CanPort) (d : Device) : (purgeStale p d).ctl = d.ctl
    ∧ (purgeStale p d).net.noQueues = d.net.noQueues := by
  have h (q : Nat) (e : Device) (P : Device → Prop) (h0 : P e) (h1 : ∀ l, P { e with net := { e.net with txq := l } }) :
      P (if Cfg.txqPort e.cfg q ≠ p.num then e
        else { e with net := { e.net with txq := e.net.txq.modify q fun x =>
          let keep := x.frames.filter fun f => !e.stale f
          { x with frames := keep, drop := addWrap 32 x.drop (x.frames.length - keep.length) } } }) := by
    split
    · exact h0
    · exact h1 _
  exact ⟨Device.each_keeps (·.ctl) _ (fun q e => h q e (fun x => x.ctl = e.ctl) rfl fun _ => rfl) _ d,
    Device.each_keeps (·.net.noQueues) _ (fun q e => h q e (fun x => x.net.noQueues = e.net.noQueues) rfl fun _ => rfl) _ d⟩

/-- A recovered port is error-active with counters at 0 (R358). -/
theorem busoffRecovered_law {p : CanPort} (d : Device) (hp : p ≠ .canC) : (busoffRecovered p d).ctl = d.ctl
    ∧ (busoffRecovered p d).canPort p = { d.canPort p with tec := 0, rec_ := 0, conf := 0, recovering := false }
    ∧ (busoffRecovered p d).activeAt .canBusoff (canScope p) = false := by
  obtain ⟨hctl, hnet⟩ := purgeStale_frame p d
  unfold busoffRecovered
  extract_lets x y z
  have hx : x.ctl = d.ctl ∧ x.canPort p = { d.canPort p with tec := 0, rec_ := 0, conf := 0, recovering := false } := by
    simp only [x, Device.onCan_ctl, Device.onCan_same, canPort_of_noQueues hnet, hctl]
    trivial
  clear_value x
  have hy : y.ctl = d.ctl ∧ y.canPort p = x.canPort p ∧ y.activeAt .canBusoff (canScope p) = false := by
    refine ⟨?_, ?_, clearFault_keeps_inactive _ _ (clearFault_keeps_inactive _ _ (clearFault_activeAt ..))⟩
    · simp [y, hx.1]
    · simp only [y, clearFault_canPort]
  clear_value y
  have hz : z.ctl = y.ctl ∧ z.net = y.net ∧ z.faults = y.faults :=
    ⟨Device.each_keeps (·.ctl) (fun c => Device.onConn c fun x => { x with started := false }) (fun _ _ => rfl) _ y,
      Device.each_keeps (·.net) (fun c => Device.onConn c fun x => { x with started := false }) (fun _ _ => rfl) _ y,
      Device.each_keeps (·.faults) (fun c => Device.onConn c fun x => { x with started := false }) (fun _ _ => rfl) _ y⟩
  clear_value z
  rw [if_neg hp]
  refine ⟨hz.1.trans hy.1, ?_, ?_⟩
  · rw [canPort_of_noQueues (congrArg Net.noQueues hz.2.1), hy.2.1, hx.2]
  · rw [Device.activeAt, Device.entry?, hz.2.2]
    exact hy.2.2

/-- The measured load, and the report of the tenth above 90 % in a row (R359). -/
theorem canLoad_law {p : CanPort} (l : Nat) {d : Device} (hf : d.forced 0x0E01 (canScope p).number = false) :
    (canLoad p l d).ctl = d.ctl ∧ ((canLoad p l d).canPort p).load = min l 1000
      ∧ (900 < l → 9 ≤ (d.canPort p).loadHigh → (d.canPort p).loadHigh ≤ 10 →
          (canLoad p l d).hasFault .canLoadHigh (canScope p) 0) := by
  unfold canLoad
  extract_lets m x
  have hm : m = l := if_neg (by simp [hf])
  have hx : x.ctl = d.ctl ∧ (x.canPort p).load = min l 1000
      ∧ (x.canPort p).loadHigh = if 900 < l then min 10 ((d.canPort p).loadHigh + 1) else 0 := by
    simp [x, hm]
  clear_value x
  obtain ⟨hctl, hload, hhigh⟩ := hx
  split
  · exact ⟨(raise_low_frame _ _ Nat.zero_lt_two x).2.1.trans hctl, by rw [raise_low_canPort _ _ Nat.zero_lt_two, hload],
      fun _ _ _ => raise_hasFault _ _ _ _ (by decide)⟩
  · next hn =>
    have hno : 900 < l → 9 ≤ (d.canPort p).loadHigh → (d.canPort p).loadHigh ≤ 10 → False := fun h1 h2 _ => by
      rw [hhigh, if_pos h1] at hn
      omega
    split
    · exact ⟨by simpa using hctl, by rw [clearFault_canPort, hload], fun h1 h2 h3 => (hno h1 h2 h3).elim⟩
    · exact ⟨hctl, hload, fun h1 h2 h3 => (hno h1 h2 h3).elim⟩

end Sys2Proof.Machine

/-! ## The statement -/

open Sys2Proof Sys2Proof.Machine

/-- Settles O43: a transmit queue appends, drops or gives up its head; a frame goes to the receive object it matches; the
confinement and load of a port are judged from the counters and measurements alone. -/
theorem queuesAndCan : Obligations.QueuesAndCan := by
  unfold Obligations.QueuesAndCan
  refine ⟨fun c l s ho hp hl => ?appends, fun c l s ho hp hl hc => ?drops, fun f d h => txEnqueue_length h,
    fun q f rest s hq hw hs hn => ?sent, fun q s h => ?notSent, fun d q f rest h => headWins_iff h,
    fun p f sof r fw s hs hc hl hm => ?matched, fun p f sof s hs hc hl hm hi => next_onDev (canFrameRx_unmatched hs hc hl hm hi),
    fun p f sof s hs hc hx hl => next_onDev (canFrameRx_long hs hc hx hl),
    fun p f sof s h => congrArg Host.Outcome.next (State.onDev_eq_self (canFrameRx_ignored h)),
    fun q r s h => congrArg Host.Outcome.next (hostRead_takes h), fun p tec rec s hc ht => ?busoff,
    fun p tec rec s hc ht hr => ?active, fun p tec rec s hc => congrArg Host.Outcome.next (if_neg (by omega)),
    fun q m s h hx => ?recover, fun q m s h hb ha => ?absent, fun p s hc hp hm => ?recovered,
    fun p s hc => congrArg Host.Outcome.next (if_neg fun h => hc h.1), fun p l s hc hd hf => ?load,
    fun p l s h => congrArg Host.Outcome.next (if_neg ?early)⟩
  case appends => exact (next_unless_off _ ho).trans (next_onDev (txEnqueue_appends hp hl))
  case drops => exact (next_unless_off _ ho).trans (next_onDev (txEnqueue_drops hp hl hc))
  case sent => exact (congrArg Host.Outcome.next (if_pos hw)).trans (next_onDev (frameSent_cons hq hs hn))
  case notSent =>
    refine congrArg Host.Outcome.next ?_
    rcases h with h | h | h
    · rw [State.onDev_eq_self (frameSent_nil h), ite_self]
    · rw [State.onDev_eq_self (frameSent_blocked h), ite_self]
    · exact if_neg (by simp [h])
  case matched =>
    obtain ⟨hctl, hrx, hother⟩ := canFrameRx_matches (sof := sof) hs hc hl hm
    exact ⟨_, rfl, rfl, rfl, hctl, hrx, hother⟩
  case busoff =>
    obtain ⟨hctl, hport⟩ := canCounted_law p tec rec s.dev
    obtain ⟨hn, hports, hfault⟩ := notice_law (f := .canBusoff) p (canCounted p tec rec s.dev) (by decide)
    obtain ⟨f, he⟩ := canErrorState_busoff (p := p) s.dev (confOf_busoff rec ht)
    obtain ⟨hc1, hc2, hc3⟩ := closeSessions_frame f (notice .canBusoff p (canCounted p tec rec s.dev))
    have hq : (canErrorState p tec rec s.dev).canPort p = (canCounted p tec rec s.dev).canPort p := by
      rw [he, ← hports p]
      exact canPort_of_noQueues (congrArg Net.noQueues hc3) p
    refine ⟨{ s with dev := canErrorState p tec rec s.dev }, congrArg Host.Outcome.next (if_pos hc), rfl, rfl, ?_⟩
    dsimp only
    refine ⟨?_, ?_, ?_, ?_⟩
    · rw [he, hc1, hn, hctl]
    · rw [hq, hport]
      exact confOf_busoff rec ht
    · rw [hq, hport]
    · rw [he]
      exact Device.hasFault_of_faults hc2 hfault
  case active =>
    refine ⟨{ s with dev := canErrorState p tec rec s.dev }, congrArg Host.Outcome.next (if_pos hc), ?_⟩
    dsimp only
    rw [canErrorState_active s.dev (confOf_active ht hr)]
    refine ⟨?_, clearFault_activeAt ..⟩
    rw [clearFault_canPort, (canCounted_law p tec rec s.dev).2]
    exact confOf_active ht hr
  case recover =>
    refine ⟨_, congrArg Host.Outcome.next (hostWrite_devCmd h (cmdCanRecover_ok hx)), rfl, rfl, fun p => ?_⟩
    rw [State.onDev_dev, canPort_of_noQueues (answer_noQueues ..) p, each_recoverStart]
    exact ⟨rfl, rfl⟩
  case absent =>
    have h1 : (m.toNat.testBit 1 && (((touchPath q s.dev).cross.blocks.getD 1 {}).absent
        || ((touchPath q s.dev).cross.xing.getD (1 + 1) {}).phase == .holding)) = true := by
      rw [touchPath_cross, hb, ha]
      rfl
    exact congrArg Host.Outcome.next (hostWrite_devCmd_refused h (if_pos (List.any_eq_true.mpr ⟨1, by decide, h1⟩)))
  case recovered =>
    obtain ⟨hctl, hport, hfault⟩ := busoffRecovered_law s.dev hp
    refine ⟨{ s with dev := busoffRecovered p s.dev }, congrArg Host.Outcome.next (if_pos ⟨hc, .inr hm⟩), rfl, rfl, ?_⟩
    dsimp only
    rw [hport]
    exact ⟨hctl, rfl, rfl, rfl, hfault⟩
  case load =>
    obtain ⟨hctl, hload, hhigh⟩ := canLoad_law l hf
    refine ⟨{ s with dev := canLoad p l s.dev }, congrArg Host.Outcome.next (if_pos ⟨hc, hd⟩), rfl, rfl, ?_⟩
    dsimp only
    exact ⟨hctl, hload, hhigh⟩
  case early =>
    rintro ⟨hc, hd⟩
    rcases h with h | h
    · exact hc h
    · exact Bool.eq_false_iff.mp h hd
end

section
/-!
PROOFS of the statement about the network services: ISO 11783, CANopen, PDOs and the ETH1 port (chapter 14).
-/

namespace Sys2Proof.Machine

/-! ## Address claims (R346, R347) -/

/-- Devices whose networks agree outside the queues hold the same addresses. -/
theorem isoAddr_of_noQueues {d e : Device} (h : e.net.noQueues = d.net.noQueues) :
    e.net.isoAddr = d.net.isoAddr ∧ e.net.isoTaken = d.net.isoTaken ∧ e.net.eth1Up = d.net.eth1Up :=
  ⟨congrArg (·.isoAddr) h, congrArg (·.isoTaken) h, congrArg (·.eth1Up) h⟩

/-- A claim sent after a cleared fault leaves the addresses. -/
theorem sendClaim_law (a : Nat) (d : Device) : (sendClaim a d).ctl = d.ctl ∧ (sendClaim a d).faults = d.faults
    ∧ (sendClaim a d).net.isoAddr = d.net.isoAddr ∧ (sendClaim a d).net.isoTaken = d.net.isoTaken := by
  obtain ⟨h1, h2, -⟩ := isoAddr_of_noQueues (txEnqueue_noQueues
    { cls := 12, ident := 0x80000000 + 0x18EEFF00 + a, data := leBytes 8 d.isoName } d)
  obtain ⟨hctl, hfaults, -⟩ := txEnqueue_frame
    { cls := 12, ident := 0x80000000 + 0x18EEFF00 + a, data := leBytes 8 d.isoName } d
  exact ⟨hctl, hfaults, h1, h2⟩

theorem sendClaim_clearFault_law (a : Nat) (f : FaultName) (sc : Scope) (d : Device) :
    (sendClaim a (clearFault f sc d)).ctl = d.ctl ∧ (sendClaim a (clearFault f sc d)).net.isoAddr = d.net.isoAddr
      ∧ (sendClaim a (clearFault f sc d)).net.isoTaken = d.net.isoTaken := by
  obtain ⟨hctl, -, h1, h2⟩ := sendClaim_law a (clearFault f sc d)
  obtain ⟨h3, h4, -⟩ := isoAddr_of_noQueues (clearFault_noQueues f sc d)
  exact ⟨hctl.trans (by simp), h1.trans h3, h2.trans h4⟩

/-- The module claims the address it holds, its preferred one where it has none or the null address (R346). -/
theorem isoClaim_law (d : Device) : (isoClaim d).ctl = d.ctl ∧ (isoClaim d).net.isoTaken = d.net.isoTaken
    ∧ (d.net.isoAddr = none ∨ d.net.isoAddr = some 254 → (isoClaim d).net.isoAddr = some (Cfg.cancAddr d.cfg))
    ∧ ∀ a : Nat, d.net.isoAddr = some a → a ≠ 254 → (isoClaim d).net.isoAddr = some a := by
  unfold isoClaim
  extract_lets a
  obtain ⟨hctl, haddr, htaken⟩ := sendClaim_clearFault_law a .isoNoAddr (canScope .canC)
    { d with net := { d.net with isoAddr := some a } }
  rw [haddr]
  refine ⟨hctl, htaken, fun h => congrArg some ?_, fun b hb hn => congrArg some ?_⟩
  · rcases h with h | h <;> simp [a, h]
  · simp [a, hb, hn]

theorem isoLost_next {a b : Nat} {d : Device} (ha : d.net.isoAddr = some a)
    (h : nextFree a (d.net.isoTaken ++ [a]) = some b) : (isoLost d).ctl = d.ctl
      ∧ (isoLost d).net.isoTaken = d.net.isoTaken ++ [a] ∧ (isoLost d).net.isoAddr = some b := by
  obtain ⟨hctl, haddr, htaken⟩ := sendClaim_clearFault_law b .isoNoAddr (canScope .canC)
    { d with net := { d.net with isoAddr := some b, isoTaken := d.net.isoTaken ++ [a] } }
  simp only [isoLost, ha, Option.getD_some, h]
  exact ⟨hctl, htaken, haddr⟩

theorem isoLost_none {a : Nat} {d : Device} (ha : d.net.isoAddr = some a)
    (h : nextFree a (d.net.isoTaken ++ [a]) = none) : (isoLost d).ctl = d.ctl
      ∧ (isoLost d).net.isoTaken = d.net.isoTaken ++ [a] ∧ (isoLost d).net.isoAddr = some 254
      ∧ (isoLost d).hasFault .isoNoAddr (.net (.can .canC)) 0 := by
  obtain ⟨hctl, -, haddr, htaken⟩ := sendClaim_law 254
    { d with net := { d.net with isoAddr := some 254, isoTaken := d.net.isoTaken ++ [a] } }
  simp only [isoLost, ha, Option.getD_some, h]
  obtain ⟨h1, h2, -⟩ := isoAddr_of_noQueues (raise_low_noQueues .isoNoAddr (canScope .canC) Nat.zero_lt_two (sendClaim 254
    { d with net := { d.net with isoAddr := some 254, isoTaken := d.net.isoTaken ++ [a] } }))
  exact ⟨(raise_low_frame _ _ Nat.zero_lt_two _).2.1.trans hctl, h2.trans htaken, h1.trans haddr,
    raise_hasFault _ _ _ _ (by decide)⟩

/-- The next free address lies in 128-247 and is not taken (R347). -/
theorem nextFree_free {a b : Nat} {l : List Nat} (h : nextFree a l = some b) : 128 ≤ b ∧ b ≤ 247 ∧ b ∉ l := by
  have hfree := List.find?_some h
  obtain ⟨k, -, rfl⟩ := List.mem_map.mp (List.mem_of_find?_eq_some h)
  exact ⟨by omega, by omega, by simpa using hfree⟩

/-! ## CANopen and PDOs (R345, R387, R405) -/

theorem sendHeartbeat_eq {onB : Bool} {st : Nat} {d : Device} (h : (d.canPort (canOf onB)).conf ≠ 3) : sendHeartbeat onB st d =
    txEnqueue { cls := 6 + (if onB then 1 else 0), ident := 0x700 + Cfg.canopenId d.cfg (if onB then 1 else 0)
                data := [BitVec.ofNat 8 st] } d := if_neg h

theorem heartbeatLost_new {k : Nat} {d : Device} (h0 : Cfg.hbConsumer d.cfg k % 65536 ≠ 0)
    (h : ((Cfg.hbConsumer d.cfg k).testBit 31, Cfg.hbConsumer d.cfg k / 65536 % 256) ∉ d.net.hbLost) : heartbeatLost k d =
      { d with net := { d.net with
        hbLost := d.net.hbLost ++ [((Cfg.hbConsumer d.cfg k).testBit 31, Cfg.hbConsumer d.cfg k / 65536 % 256)] } } :=
  if_neg (by simp [h0, h])

theorem heartbeatLost_known {k : Nat} {d : Device}
    (h : ((Cfg.hbConsumer d.cfg k).testBit 31, Cfg.hbConsumer d.cfg k / 65536 % 256) ∈ d.net.hbLost) :
    heartbeatLost k d = d := if_pos (.inr (List.contains_iff_mem.mpr h))

theorem rpdoRx_short {j : Nat} {l : List Byte} {s : State}
    (h : l.length < ((mapEntries (Cfg.rpdoMap s.dev.cfg j)).map fun e => e.2.2).sum) : rpdoRx j l s = s := if_pos h

theorem rpdoRx_single {j ix sub n : Nat} {l : List Byte} {s : State} (h : mapEntries (Cfg.rpdoMap s.dev.cfg j) = [(ix, sub, n)])
    (hl : n ≤ l.length) : rpdoRx j l s =
      (writeItem (pdoPath s.dev (decide (16 ≤ j))) (fun _ => true) ix sub (l.take n) s).2 := by
  unfold rpdoRx
  rw [h]
  exact if_neg (Nat.not_lt.mpr hl)

theorem tpdoTx_single {j ix sub n : Nat} {s : State} (h : mapEntries (Cfg.tpdoMap s.dev.cfg j) = [(ix, sub, n)]) : tpdoTx j s =
    let r := readItem (pdoPath s.dev (decide (16 ≤ j))) (fun _ => true) ix sub s
    r.2.2.onDev (txEnqueue { cls := if 16 ≤ j then 11 else 10, ident := Cfg.tpdoComm s.dev.cfg j 0 % 536870912
                             data := padTo n r.2.1 }) := by
  simp only [tpdoTx, h, tpdoTake, List.append_nil, decide_eq_true_eq]

/-! ## ETH1 (R348, R379) -/

theorem eth1Hears_iff (d : Device) (vid : BitVec 12) : d.eth1Hears vid ↔
    d.ctl.state ≠ .off ∧ d.net.eth1Up ∧ vid.toNat = Cfg.eth1Vlan d.cfg := by
  simp [Device.eth1Hears, and_assoc]

theorem ethTakes_own {h : UdpHead} {d : Device} (hv : d.eth1Hears h.vid = true) (hf : h.fragment = false)
    (hd : h.dest.toNat = Cfg.eth1Ip d.cfg) : d.ethTakes h = true := by
  simp [Device.ethTakes, hv, hf, hd]

theorem ethTakes_hears {h : UdpHead} {d : Device} (ht : d.ethTakes h = true) :
    d.eth1Hears h.vid = true ∧ h.fragment = false := by
  obtain ⟨⟨hv, hf⟩, -⟩ : (d.eth1Hears h.vid = true ∧ h.fragment = false) ∧ _ := by
    simpa only [Device.ethTakes, Bool.and_eq_true, Bool.not_eq_true'] using ht
  exact ⟨hv, hf⟩

theorem Device.onPath_path_ne {q k : Path} (f : PathState → PathState) (d : Device) (h : k ≠ q) :
    (d.onPath q f).path k = d.path k := by
  refine (congrArg (·.getD {}) (lookup_changed d.od.paths q k f {})).trans ?_
  rw [if_neg h]
  rfl

theorem closeSession_path (q : Path) (d : Device) : ((closeSession q d).path q).session = none := by
  show ((d.onPath q fun x => { x with session := none }).path q).session = none
  rw [Device.onPath_path]

theorem closeSession_keeps_none {q k : Path} {d : Device} (h : (d.path k).session = none) :
    ((closeSession q d).path k).session = none := by
  by_cases hk : k = q
  · rw [hk, closeSession_path]
  · show ((d.onPath q fun x => { x with session := none }).path k).session = none
    rw [Device.onPath_path_ne _ _ hk, h]

/-- No path the test picks has a session after all of them are closed. -/
theorem closeSessions_path {f : Path → Bool} {q : Path} (d : Device) (hq : f q = true) :
    ((closeSessions f d).path q).session = none := by
  unfold closeSessions
  by_cases hm : q ∈ d.od.paths.map Prod.fst
  · exact Device.each_establishes (P := fun x => (x.path q).session = none) (Q := fun _ => True) (f := closeSession)
      (List.mem_filter.mpr ⟨hm, hq⟩) (fun _ _ _ => trivial) (fun b x => closeSession_keeps_none)
      (fun x _ => closeSession_path q x) trivial
  · refine Device.each_preserves (P := fun x => (x.path q).session = none) (f := closeSession) (fun b x => closeSession_keeps_none) _ ?_
    have hn : d.od.paths.lookup q = none := List.lookup_eq_none_iff.mpr fun e he => by
      simpa using fun h : q = e.1 => hm (h ▸ List.mem_map_of_mem he)
    rw [Device.path, hn]
    rfl

/-- The link goes down: the fault, and no Hokuith session (R379, R392). -/
theorem eth1Link_law (d : Device) : (eth1Link d).ctl = d.ctl ∧ (eth1Link d).net.eth1Up = false
    ∧ (eth1Link d).hasFault .eth1Link (.net .eth1) 0
    ∧ ∀ (ip : BitVec 32) (port : BitVec 16), ((eth1Link d).path (.hk ip port)).session = none := by
  obtain ⟨hctl, -, hnet⟩ := closeSessions_frame isHokuith { d with net := { d.net with eth1Up := false } }
  have hlow := raise_low_noQueues .eth1Link (.net .eth1) Nat.zero_lt_two
    (closeSessions isHokuith { d with net := { d.net with eth1Up := false } })
  refine ⟨(raise_low_frame _ _ Nat.zero_lt_two _).2.1.trans hctl,
    (isoAddr_of_noQueues hlow).2.2.trans (congrArg (·.eth1Up) hnet), raise_hasFault _ _ _ _ (by decide), fun ip port => ?_⟩
  have hod : (eth1Link d).od = (closeSessions isHokuith { d with net := { d.net with eth1Up := false } }).od :=
    (raise_frame ..).2.2.2.2.2.1
  rw [Device.path, hod]
  exact closeSessions_path _ rfl

/-- A restart of the Dorid producers of a port touches the connections alone. -/
theorem doridPortRestart_frame (n : Nat) (d : Device) : (doridPortRestart n d).ctl = d.ctl
    ∧ (doridPortRestart n d).net = d.net ∧ (doridPortRestart n d).faults = d.faults :=
  ⟨Device.each_keeps (·.ctl) (fun c => Device.onConn c fun x => { x with started := false }) (fun _ _ => rfl) _ d,
    Device.each_keeps (·.net) (fun c => Device.onConn c fun x => { x with started := false }) (fun _ _ => rfl) _ d,
    Device.each_keeps (·.faults) (fun c => Device.onConn c fun x => { x with started := false }) (fun _ _ => rfl) _ d⟩

theorem eth1LinkUp_law (d : Device) : (eth1LinkUp d).ctl = d.ctl ∧ (eth1LinkUp d).net.eth1Up = true
    ∧ (eth1LinkUp d).activeAt .eth1Link (.net .eth1) = false := by
  obtain ⟨hctl, hnet, hfaults⟩ := doridPortRestart_frame 3
    (clearFault .eth1Link (.net .eth1) { d with net := { d.net with eth1Up := true } })
  refine ⟨hctl.trans (by simp), ?_, ?_⟩
  · exact (congrArg (·.eth1Up) hnet).trans (isoAddr_of_noQueues (clearFault_noQueues ..)).2.2
  · rw [Device.activeAt, Device.entry?]
    unfold eth1LinkUp
    rw [hfaults]
    exact clearFault_activeAt ..

end Sys2Proof.Machine

/-! ## The statement -/

open Sys2Proof Sys2Proof.Machine

/-- Settles O44: the address is claimed, kept or given up by the NAMEs, the network services act where their port works, and
ETH1 answers what is addressed to it. -/
theorem networkServices : Obligations.NetworkServices := by
  unfold Obligations.NetworkServices
  refine ⟨fun s h => ?claim, fun h s hs => congrArg Host.Outcome.next (if_pos (by simp [hs])), fun a name s hs ha hn hl => ?lost,
    fun a name s hs ha hn hl => ?kept, fun a name s hs ha ht => ?other, fun a b l h => nextFree_free h,
    fun item seq src w v s hs hb hi => ?readItem, fun item seq src v s hs => ?notReady, fun item seq src v s hs hb hi => ?noItem,
    fun seq src v r s hs hb hf hi hw => ?writeItem, fun b cmd node s hs hn => ?nmt, fun b cmd node s h0 hn => ?nmtOther,
    fun b s hp hc hd => ?heartbeat, fun b s hp => congrArg Host.Outcome.next (if_neg fun h => h.1 hp),
    fun k late s ho hp hh => ?lostHeartbeat, fun k late s hh => congrArg Host.Outcome.next (if_neg (by simp [hh])),
    fun j l s hr hl => ?rpdoShort, fun j l ix sub n s hr hm hl => ?rpdo, fun j ix sub n s hr hm => ?tpdo,
    fun j s hr => congrArg Host.Outcome.next (if_neg (by simp [hr])),
    fun j l s hr => congrArg Host.Outcome.next (if_neg (by simp [hr])),
    fun vid ip s hv hi => congrArg Host.Outcome.next (if_pos ⟨hv, hi⟩),
    fun h ip l s hv hf hd => congrArg Host.Outcome.next (if_pos ⟨ethTakes_own hv hf hd, hd⟩), fun vid ip s h => ?noArp,
    fun h ip l s hno => ?noEcho, eth1Hears_iff, fun s ho => ?link, fun s ho hb => ?linkUp⟩
  case claim =>
    obtain ⟨hctl, htaken, hnone, hsome⟩ := isoClaim_law s.dev
    refine ⟨{ s with dev := isoClaim s.dev }, congrArg Host.Outcome.next (if_neg (by simp [h])), rfl, rfl, ?_⟩
    dsimp only
    exact ⟨hctl, htaken, hnone, hsome⟩
  case lost =>
    have hn' : a.toNat ≠ 254 := fun h => hn (BitVec.eq_of_toNat_eq h)
    have he : isoHeard a.toNat name.toNat s.dev = isoLost s.dev := (if_pos ⟨ha, hn'⟩).trans (if_pos hl)
    refine ⟨{ s with dev := isoLost s.dev }, (congrArg Host.Outcome.next (if_neg (by simp [hs]))).trans (next_onDev he),
      rfl, rfl, ?_⟩
    dsimp only
    cases hf : nextFree a.toNat (s.dev.net.isoTaken ++ [a.toNat]) with
    | some b =>
      obtain ⟨hctl, htaken, haddr⟩ := isoLost_next ha hf
      refine ⟨hctl, htaken, fun c hc => ?_, nofun⟩
      rw [haddr, hc]
    | none =>
      obtain ⟨hctl, htaken, haddr, hfault⟩ := isoLost_none ha hf
      exact ⟨hctl, htaken, nofun, fun _ => ⟨haddr, hfault⟩⟩
  case kept =>
    have hn' : a.toNat ≠ 254 := fun h => hn (BitVec.eq_of_toNat_eq h)
    have he : isoHeard a.toNat name.toNat s.dev = isoClaim s.dev := (if_pos ⟨ha, hn'⟩).trans (if_neg (Nat.not_lt.mpr hl))
    have hns : ¬ (!s.dev.canSend 2) = true := by simp [hs]
    refine (congrArg Host.Outcome.next (if_neg hns)).trans ((next_onDev he).trans ?_)
    exact (congrArg Host.Outcome.next (if_neg hns)).symm
  case other =>
    refine (congrArg Host.Outcome.next (if_neg (by simp [hs]))).trans (next_onDev ?_)
    exact (if_neg fun h => ha h.1).trans (if_neg (by simpa using ht))
  case readItem =>
    refine (congrArg Host.Outcome.next (if_pos hs)).trans (congrArg Host.Outcome.next ?_)
    unfold isoRead
    rw [if_neg (by simp [hb]), hi]
  case notReady =>
    exact ⟨congrArg Host.Outcome.next (if_neg (by simp [hs])), congrArg Host.Outcome.next (if_neg (by simp [hs]))⟩
  case noItem =>
    refine (congrArg Host.Outcome.next (if_pos hs)).trans (congrArg Host.Outcome.next ?_)
    unfold isoWrite
    rw [if_neg (by simp [hb]), hi]
    rfl
  case writeItem =>
    refine (congrArg Host.Outcome.next (if_pos hs)).trans (congrArg Host.Outcome.next ?_)
    have h9 : (9 : BitVec 8).toNat = 9 := rfl
    unfold isoWrite
    rw [if_neg (by simp [hb]), h9, hi]
    exact (if_neg hf).trans (if_pos hw)
  case nmt =>
    have h (c : BitVec 8) : exec (.nmtCommand b c node) s = .next (s.onDev (nmtCommand b c.toNat)) :=
      congrArg Host.Outcome.next (if_pos ⟨hs, hn⟩)
    refine ⟨?_, ?_, ?_⟩ <;> rintro rfl <;> exact h _
  case nmtOther =>
    refine congrArg Host.Outcome.next (if_neg ?_)
    rintro ⟨-, h | h⟩
    · exact h0 h
    · exact hn h
  case heartbeat =>
    refine (congrArg Host.Outcome.next (if_pos ⟨hp, hd⟩)).trans (next_onDev ?_)
    rw [sendHeartbeat_eq (by rw [Device.onCan_same]; exact hc)]
    have hcfg : (s.dev.onCan (canOf b) fun x => { x with hbAt := some s.dev.now }).cfg = s.dev.cfg := by
      cases b <;> rfl
    rw [hcfg]
  case lostHeartbeat =>
    have h : exec (.heartbeatLost k late) s = .next (s.onDev fun d => lateMisc late (heartbeatLost k d)) :=
      congrArg Host.Outcome.next (if_pos ⟨ho, hh⟩)
    refine ⟨fun he => h.trans (next_onDev ?_), fun he => h.trans (next_onDev ?_)⟩
    · rw [heartbeatLost_new hp he]
    · rw [heartbeatLost_known he]
  case rpdoShort => exact congrArg Host.Outcome.next ((if_pos hr).trans (rpdoRx_short hl))
  case rpdo => exact congrArg Host.Outcome.next ((if_pos hr).trans (rpdoRx_single hm hl))
  case tpdo => exact congrArg Host.Outcome.next ((if_pos hr).trans (tpdoTx_single hm))
  case noArp =>
    refine congrArg Host.Outcome.next (if_neg ?_)
    rintro ⟨hv, hi⟩
    rcases h with h | h
    · exact Bool.eq_false_iff.mp h hv
    · exact h hi
  case noEcho =>
    refine congrArg Host.Outcome.next (if_neg ?_)
    rintro ⟨ht, hd⟩
    obtain ⟨hv, hf⟩ := ethTakes_hears ht
    rcases hno with hno | hno | hno
    · exact Bool.eq_false_iff.mp hno hv
    · exact Bool.eq_false_iff.mp hf hno
    · exact hno hd
  case link =>
    obtain ⟨hctl, hup, hfault, hpaths⟩ := eth1Link_law s.dev
    refine ⟨{ s with dev := eth1Link s.dev }, congrArg Host.Outcome.next (if_neg ho), rfl, rfl, ?_⟩
    dsimp only
    exact ⟨hctl, hup, hfault, hpaths⟩
  case linkUp =>
    obtain ⟨hctl, hup, hfault⟩ := eth1LinkUp_law s.dev
    refine ⟨{ s with dev := eth1LinkUp s.dev }, congrArg Host.Outcome.next (if_pos ⟨ho, hb⟩), rfl, rfl, ?_⟩
    dsimp only
    exact ⟨hctl, hup, hfault⟩
end

section
/-!
PROOFS of the statement about the time references and the guy line (chapter 14).
-/

namespace Sys2Proof.Machine

/-! ## Time references (R361 to R364) -/

/-- The reference that queue 0 is to send goes out at the boundary (R361). -/
theorem timeRefTx_law (d : Device) : (timeRefTx d).ctl = d.ctl ∧ (timeRefTx d).faults = d.faults
    ∧ (timeRefTx d).net.time.role = (if d.timeFromPartner then 4 else 2)
    ∧ (timeRefTx d).net.time.seq = (d.net.time.seq + 1) % 2 ^ 8 ∧ (timeRefTx d).net.time.sofSent = d.now
    ∧ (timeRefTx d).net.time.holdover = none ∧ (timeRefTx d).net.time.first = false := by
  unfold timeRefTx
  extract_lets t rank data n x y
  have hx : x.ctl = d.ctl ∧ x.faults = d.faults ∧ x.od = d.od ∧ x.net.time = d.net.time := ⟨rfl, rfl, rfl, rfl⟩
  have hy : y.ctl = x.ctl ∧ y.faults = x.faults ∧ y.od = x.od ∧ y.net.time = x.net.time := by
    refine ⟨?_, ?_, ?_, congrArg (·.time) (txEnqueue_noQueues _ x)⟩ <;> simp [y]
  obtain ⟨h1, h2, h3, h4⟩ := hx
  obtain ⟨k1, k2, k3, k4⟩ := hy
  have hctl : y.ctl = d.ctl := k1.trans h1
  have hod : y.od = d.od := k3.trans h3
  have htime : y.net.time = d.net.time := k4.trans h4
  have hpartner : y.timeFromPartner = d.timeFromPartner := by
    simp only [Device.timeFromPartner, Device.paired, Device.cfg, hctl, hod]
  clear_value y
  refine ⟨hctl, k2.trans h2, congrArg (fun b => if b = true then 4 else 2) hpartner, ?_, ?_, rfl, rfl⟩
  · exact congrArg (fun (z : TimeState) => addWrap 8 z.seq 1) htime
  · exact congrArg (·.now) hctl

/-- What an offset taken up leaves of the time state: all but the offset, the trim and the instants a step moves. -/
def TimeState.uncorrected (t : TimeState) : TimeState :=
  { t with offset := 0, offSince := none, trim := 0, integrator := 0, stepped := false, sofSeen := none, lastRef := none, sofSent := 0 }

/-- A correction of module time: module control but for the time, the time state but for what a correction sets and the guy
line stay, and no fault becomes active. -/
def Corrected (d e : Device) : Prop := { e.ctl with now := 0 } = { d.ctl with now := 0 }
  ∧ e.net.time.uncorrected = d.net.time.uncorrected ∧ e.net.guy = d.net.guy
  ∧ ∀ f sc, d.activeAt f sc = false → e.activeAt f sc = false

theorem Corrected.refl (d : Device) : Corrected d d := ⟨rfl, rfl, rfl, fun _ _ h => h⟩

theorem Corrected.trans {a b c : Device} (h : Corrected a b) (h' : Corrected b c) : Corrected a c := by
  obtain ⟨h1, h2, h3, h4⟩ := h
  obtain ⟨k1, k2, k3, k4⟩ := h'
  exact ⟨k1.trans h1, k2.trans h2, k3.trans h3, fun f sc hf => k4 f sc (h4 f sc hf)⟩

theorem corrected_clearFault (f : FaultName) (sc : Scope) (d : Device) : Corrected d (clearFault f sc d) := by
  have hnet := clearFault_noQueues f sc d
  exact ⟨by simp, congrArg TimeState.uncorrected (congrArg (·.time) hnet), congrArg (·.guy) hnet,
    fun _ _ => clearFault_keeps_inactive f sc⟩

theorem corrected_timeTrimmed (d : Device) : Corrected d (timeTrimmed d) := by
  unfold timeTrimmed
  split
  · exact corrected_clearFault .doridTimeLost .module _
  · exact ⟨rfl, rfl, rfl, fun _ _ h => h⟩

/-- An offset taken up is a correction. -/
theorem corrected_timeCorrect (o : Int) (d : Device) : Corrected d (timeCorrect o d) := by
  unfold timeCorrect
  extract_lets x y z
  have hx : Corrected d x := ⟨rfl, rfl, rfl, fun _ _ h => h⟩
  have hy : Corrected x y := by
    simp only [y]
    split <;> exact ⟨rfl, rfl, rfl, fun _ _ h => h⟩
  have hz : Corrected d z := (hx.trans hy).trans (corrected_timeTrimmed y)
  split
  · exact hz.trans (corrected_clearFault ..)
  · exact hz

/-- The trim of the tick rate stays within the limit (R363). -/
theorem timeSlew_law {d : Device} (h : 0 ≤ slewLimit d.cfg) : -(slewLimit d.cfg) ≤ (timeSlew d).net.time.trim
    ∧ (timeSlew d).net.time.trim ≤ slewLimit d.cfg ∧ (timeSlew d).ctl = d.ctl :=
  ⟨le_clampInt .., clampInt_le _ (by omega), rfl⟩

/-- The master of a reference is followed and ends a holdover (R362, R363). -/
theorem followRef_law (r : TimeRef) (sof : Nat) (d : Device) : (followRef r sof d).net.time.master = r.node
    ∧ (followRef r sof d).net.time.masterRank = r.rank ∧ (followRef r sof d).net.time.missed = 0
    ∧ (followRef r sof d).net.time.refPending = false ∧ (followRef r sof d).net.time.holdover = none
    ∧ (followRef r sof d).net.time.role = (if d.timeFromPartner then 4 else 1)
    ∧ (followRef r sof d).activeAt .timeLost .module = false ∧ (followRef r sof d).ctl.state = d.ctl.state := by
  unfold followRef
  extract_lets t prev x
  have hx : x.net.time.master = r.node ∧ x.net.time.masterRank = r.rank ∧ x.net.time.missed = 0
      ∧ x.net.time.refPending = false ∧ x.net.time.holdover = none ∧ x.net.time.role = (if d.timeFromPartner then 4 else 1)
      ∧ x.activeAt .timeLost .module = false ∧ x.ctl = d.ctl := by
    obtain ⟨-, htime, -⟩ := corrected_clearFault .timeLost .module (d.onTime fun t => { t with
      refPending := false, first := true, missed := 0, lastRef := some sof, sofSeen := some sof, holdover := none
      refAt := if d.forcedAt 0x0D02 then t.refAt else d.now
      firstPending := r.first, masterRank := r.rank, master := r.node, role := if d.timeFromPartner then 4 else 1 })
    exact ⟨congrArg (·.master) htime, congrArg (·.masterRank) htime, congrArg (·.missed) htime, congrArg (·.refPending) htime,
      congrArg (·.holdover) htime, congrArg (·.role) htime, clearFault_activeAt .., (clearFault_frame ..).1⟩
  clear_value x prev
  obtain ⟨h1, h2, h3, h4, h5, h6, h7, h8⟩ := hx
  have hkeep {y : Device} (hy : Corrected x y) : y.net.time.master = r.node
      ∧ y.net.time.masterRank = r.rank ∧ y.net.time.missed = 0
      ∧ y.net.time.refPending = false ∧ y.net.time.holdover = none ∧ y.net.time.role = (if d.timeFromPartner then 4 else 1)
      ∧ y.activeAt .timeLost .module = false ∧ y.ctl.state = d.ctl.state := by
    obtain ⟨hctl, htime, -, hinactive⟩ := hy
    have hstate : y.ctl.state = x.ctl.state := by injection hctl
    exact ⟨(congrArg (·.master) htime).trans h1, (congrArg (·.masterRank) htime).trans h2, (congrArg (·.missed) htime).trans h3,
      (congrArg (·.refPending) htime).trans h4, (congrArg (·.holdover) htime).trans h5, (congrArg (·.role) htime).trans h6,
      hinactive _ _ h7, by rw [hstate, h8]⟩
  refine hkeep ?_
  split
  · split
    · exact Corrected.refl x
    · exact corrected_timeCorrect _ x
  · exact Corrected.refl x

theorem timeRefRx_follows {r : TimeRef} {sof : Nat} {d : Device} (hne : r.rank ≠ Cfg.timeRank d.cfg)
    (h : r.rank < Cfg.timeRank d.cfg ∨ d.net.time.refPending = false) : timeRefRx r sof d = followRef r sof d := by
  refine (if_neg fun h' => hne h'.1).trans (if_neg ?_)
  rintro ⟨hp, hl⟩
  rcases h with h | h
  · omega
  · exact Bool.eq_false_iff.mp h hp

theorem timeRefRx_outranked {r : TimeRef} {sof : Nat} {d : Device} (h : Cfg.timeRank d.cfg < r.rank)
    (hp : d.net.time.refPending = true) : timeRefRx r sof d = d :=
  (if_neg fun h' => absurd h'.1 (by omega)).trans (if_pos ⟨hp, h⟩)

theorem timeRefMissed_early {a : Bool} {d : Device} (h : d.net.time.missed < 2) : timeRefMissed a d =
    d.onTime fun t => { t with missed := t.missed + 1, sofSeen := none } := by
  have hm : addSat 255 d.net.time.missed 1 = d.net.time.missed + 1 := by
    unfold addSat
    omega
  have hlt : (d.onTime fun t => { t with missed := addSat 255 t.missed 1, sofSeen := none }).net.time.missed < 3 := by
    show addSat 255 d.net.time.missed 1 < 3
    omega
  refine (if_pos hlt).trans ?_
  simp only [Device.onTime, hm]

/-- The third miss starts the holdover (R362, R364). -/
theorem timeRefMissed_third {a : Bool} {d : Device} (h : d.net.time.missed = 2) (hp : d.net.time.refPending = false) :
    timeRefMissed a d = { d with net := (timeRefMissed a d).net } ∧ (timeRefMissed a d).net.time.missed = 3
      ∧ (timeRefMissed a d).net.time.role = (if d.timeFromPartner then 4 else 3)
      ∧ (timeRefMissed a d).net.time.holdover = some (d.net.time.holdover.getD d.now)
      ∧ (timeRefMissed a d).net.time.refPending = d.candidate
      ∧ (timeRefMissed a d).net.time.late = if a then (d.net.time.late + 1) % 2 ^ 16 else d.net.time.late := by
  have hm : addSat 255 d.net.time.missed 1 = 3 := by rw [h]; rfl
  have he : timeRefMissed a d = d.onTime fun t => { t with
      missed := addSat 255 t.missed 1, sofSeen := none
      late := if addSat 255 t.missed 1 == 3 && a then addWrap 16 t.late 1 else t.late
      role := if d.timeFromPartner then 4 else 3
      holdover := some (t.holdover.getD d.now)
      refPending := t.refPending || d.candidate, first := true } :=
    if_neg (show ¬ addSat 255 d.net.time.missed 1 < 3 by omega)
  rw [he]
  simp only [Device.onTime, hm, hp, Bool.false_or, beq_self_eq_true, Bool.true_and, true_and]
  rfl

/-! ## The guy line (R365, R368) -/

theorem padTo_length (n : Nat) (l : List Byte) : (padTo n l).length = n := by
  simp only [padTo, List.length_append, List.length_take, List.length_replicate]
  omega

theorem guyMotor_length (p : PortId) (d : Device) : (d.guyMotor p).length = 28 := by
  unfold Device.guyMotor
  split <;> simp

/-- A guy frame has 404 bytes (Table 14.7). -/
theorem guyFrame_length (d : Device) : d.guyFrame.length = 404 := by
  unfold Device.guyFrame
  extract_lets g msg body
  clear_value body msg g
  simp only [List.length_append, leBytes_length, padTo_length, guyMotor_length]

/-- A join called sets the join time alone. -/
theorem callJoin_eq (d : Device) : ∃ t : Nanos, callJoin d =
    { d with ctl := { d.ctl with joinT := some t }
             net := { d.net with guy := { d.net.guy with join := true, eventT := t } } } := ⟨_, rfl⟩

theorem callJoin_frame (d : Device) : (callJoin d).faults = d.faults ∧ (callJoin d).net.guy.fseq = d.net.guy.fseq := by
  obtain ⟨t, ht⟩ := callJoin_eq d
  rw [ht]
  exact ⟨rfl, rfl⟩

/-- A guy frame leaves with the next number and takes the owed credits and the Dorid frame with it (R365, R368, R369). -/
theorem guyFrameTx_law (d : Device) : (guyFrameTx d).faults = d.faults
    ∧ (guyFrameTx d).net.guy.fseq = addWrap 16 d.net.guy.fseq 1 ∧ (guyFrameTx d).net.guy.owed = 0
    ∧ (guyFrameTx d).net.guy.dorid = none
    ∧ ∃ x : Sent, (guyFrameTx d).net.lastSent = some x ∧ x.port = 4 ∧ x.frame.data.length = 404 := by
  unfold guyFrameTx
  extract_lets e sent
  have he : e.faults = d.faults ∧ e.net.guy.fseq = d.net.guy.fseq := by
    simp only [e]
    split
    · exact callJoin_frame d
    · exact ⟨rfl, rfl⟩
  have hport : sent.port = 4 := rfl
  have hdata : sent.frame.data = e.guyFrame := rfl
  clear_value sent e
  obtain ⟨hfaults, hseq⟩ := he
  exact ⟨hfaults, congrArg (addWrap 16 · 1) hseq, rfl, rfl, sent, rfl, hport, hdata ▸ guyFrame_length e⟩

/-- What a guy frame's roles, requests and times leave: the partner's data, the instant they came, the role, the module state
and what the link has noted of the frame. -/
def FrameKept (d e : Device) : Prop := e.ctl.partnerNext = d.ctl.partnerNext ∧ e.ctl.lastGuy = d.ctl.lastGuy
  ∧ e.ctl.lead = d.ctl.lead ∧ e.ctl.state = d.ctl.state ∧ e.net.guy.rxTime = d.net.guy.rxTime
  ∧ e.net.guy.epoch = d.net.guy.epoch ∧ e.net.guy.rxFseq = d.net.guy.rxFseq ∧ e.net.guy.err = d.net.guy.err

theorem FrameKept.refl (d : Device) : FrameKept d d := ⟨rfl, rfl, rfl, rfl, rfl, rfl, rfl, rfl⟩

theorem FrameKept.trans {a b c : Device} (h : FrameKept a b) (h' : FrameKept b c) : FrameKept a c := by
  obtain ⟨h1, h2, h3, h4, h5, h6, h7, h8⟩ := h
  obtain ⟨k1, k2, k3, k4, k5, k6, k7, k8⟩ := h'
  exact ⟨k1.trans h1, k2.trans h2, k3.trans h3, k4.trans h4, k5.trans h5, k6.trans h6, k7.trans h7, k8.trans h8⟩

theorem frameKept_of_corrected {d e : Device} (h : Corrected d e) : FrameKept d e := by
  obtain ⟨hctl, -, hguy, -⟩ := h
  have hkeep {α : Type} (f : ModuleCtl → α) (hf : ∀ c, f { c with now := 0 } = f c) : f e.ctl = f d.ctl := by
    rw [← hf e.ctl, hctl, hf d.ctl]
  exact ⟨hkeep (·.partnerNext) fun _ => rfl, hkeep (·.lastGuy) fun _ => rfl, hkeep (·.lead) fun _ => rfl,
    hkeep (·.state) fun _ => rfl, congrArg (·.rxTime) hguy, congrArg (·.epoch) hguy, congrArg (·.rxFseq) hguy,
    congrArg (·.err) hguy⟩

theorem frameKept_guyRoles (x : PartnerData) (d : Device) : FrameKept d (guyRoles x d) := by
  unfold guyRoles
  split
  · have hctl := (raise_low_frame .roleConflict .module Nat.zero_lt_two d).2.1
    have hguy := congrArg (·.guy) (raise_low_noQueues .roleConflict .module Nat.zero_lt_two d)
    exact ⟨congrArg (·.partnerNext) hctl, congrArg (·.lastGuy) hctl, congrArg (·.lead) hctl, congrArg (·.state) hctl,
      congrArg (·.rxTime) hguy, congrArg (·.epoch) hguy, congrArg (·.rxFseq) hguy, congrArg (·.err) hguy⟩
  · split
    · exact frameKept_of_corrected (corrected_clearFault ..)
    · exact FrameKept.refl d

theorem frameKept_guyHandover (req ack : Bool) (t : Nanos) (d : Device) : FrameKept d (guyHandover req ack t d) := by
  unfold guyHandover
  split
  · split <;> exact FrameKept.refl d
  · split
    · split <;> exact FrameKept.refl d
    · split <;> exact FrameKept.refl d

theorem frameKept_guyJoin (join : Bool) (t : Nanos) (d : Device) : FrameKept d (guyJoin join t d) := by
  unfold guyJoin
  split <;> exact FrameKept.refl d

theorem frameKept_guyTime (sfd : Nanos) (b : List Byte) (d : Device) : FrameKept d (guyTime sfd b d) := by
  unfold guyTime
  split
  · exact FrameKept.refl d
  · next o _ =>
    extract_lets x w y z
    have hy : FrameKept d y := FrameKept.refl d
    clear_value y
    have hz : FrameKept d z := by
      simp only [z]
      split
      · exact hy.trans (FrameKept.trans (b := y.onTime fun t => { t with role := 4 }) (FrameKept.refl y)
          (frameKept_of_corrected (corrected_timeCorrect o _)))
      · exact hy
    clear_value z
    split
    · exact hz.trans (frameKept_of_corrected (corrected_clearFault ..))
    · exact hz

theorem acknowledge_err (n : Nat) (g : GuyState) : (g.acknowledge n).err = g.err := by
  unfold GuyState.acknowledge
  split <;> rfl

theorem guyChannel_err (b : List Byte) (top : Nat) (g : GuyState) : (guyChannel b top g).err = g.err := by
  unfold guyChannel
  extract_lets x y seq
  have hy : y.err = g.err := acknowledge_err _ g
  clear_value y
  split <;> exact hy

/-- A valid guy frame: its data serve from the next tick 0, and the link notes it (R105, R365). -/
theorem guyAccept_law (sfd : Nanos) (b : List Byte) (d : Device) : (guyAccept sfd b d).ctl.partnerNext = some (partnerOf b)
    ∧ (guyAccept sfd b d).ctl.lastGuy = some d.now ∧ (guyAccept sfd b d).net.guy.rxTime = sfd
    ∧ (guyAccept sfd b d).ctl.lead = d.ctl.lead
    ∧ (guyAccept sfd b d).net.guy.epoch = field b 1 1 ∧ (guyAccept sfd b d).net.guy.rxFseq = field b 2 2
    ∧ (guyAccept sfd b d).ctl.state = d.ctl.state ∧ (guyAccept sfd b d).net.guy.err = d.net.guy.err := by
  unfold guyAccept
  extract_lets x role c n g e
  have he : e.ctl.partnerNext = some (partnerOf b) ∧ e.ctl.lastGuy = some d.now ∧ e.net.guy.rxTime = sfd
      ∧ e.ctl.lead = d.ctl.lead ∧ e.net.guy.epoch = field b 1 1 ∧ e.net.guy.rxFseq = field b 2 2
      ∧ e.ctl.state = d.ctl.state ∧ e.net.guy.err = d.net.guy.err :=
    ⟨rfl, rfl, rfl, rfl, rfl, rfl, rfl, guyChannel_err ..⟩
  clear_value e
  obtain ⟨h1, h2, h3, h4, h5, h6, h7, h8⟩ := he
  obtain ⟨k1, k2, k3, k4, k5, k6, k7, k8⟩ := (((frameKept_guyRoles x e).trans (frameKept_guyHandover (role.testBit 3)
    (role.testBit 4) (field b 32 8) _)).trans (frameKept_guyJoin (role.testBit 5) (field b 32 8) _)).trans
      (frameKept_guyTime sfd b _)
  exact ⟨k1.trans h1, k2.trans h2, k5.trans h3, k3.trans h4, k6.trans h5, k7.trans h6, k4.trans h7, k8.trans h8⟩

theorem guyLinkUp_law (d : Device) : (guyLinkUp d).ctl = d.ctl ∧ (guyLinkUp d).net.guy.up = true
    ∧ (guyLinkUp d).net.guy.epoch = (d.net.guy.epoch + 1) % 2 ^ 8 ∧ (guyLinkUp d).net.guy.credits = Cfg.glCredits d.cfg := by
  obtain ⟨hctl, hnet, -⟩ := doridPortRestart_frame 4 (d.onGuy fun g => { g with
    up := true, epoch := addWrap 8 g.epoch 1, credits := Cfg.glCredits d.cfg, owed := 0, sentTimes := [] })
  exact ⟨hctl, congrArg (·.guy.up) hnet, congrArg (·.guy.epoch) hnet, congrArg (·.guy.credits) hnet⟩

end Sys2Proof.Machine

/-! ## The statement -/

open Sys2Proof Sys2Proof.Machine

/-- Settles O45: references are sent, followed or missed as the ranks and counts say, corrections stay within the limit, and
the guy line counts, checks and numbers its frames. -/
theorem timeAndGuyLine : Obligations.TimeAndGuyLine := by
  unfold Obligations.TimeAndGuyLine
  refine ⟨fun s hp hc hr hb hf => ?sent, fun s h => congrArg Host.Outcome.next (if_neg ?notSent), fun l ident sof s h => ?noRef,
    fun l ident sof r s hs hf h hne hr => ?followed, fun l ident sof r s h hr hp => ?outranked, fun d h => timeSlew_law h,
    fun a s hp hr ho hm => (congrArg Host.Outcome.next (if_pos ⟨hp, by simp [hr], ho⟩)).trans
      (next_onDev (timeRefMissed_early hm)),
    fun a s hp hr ho hm => ?third, fun a s h => congrArg Host.Outcome.next (if_neg ?notMissed),
    fun s ho ht => congrArg Host.Outcome.next (if_pos ⟨ho, .inl ht⟩),
    fun s ht hf => congrArg Host.Outcome.next (if_neg (by simp [ht, hf, lasted])),
    fun late u s hr hu ht => congrArg Host.Outcome.next (if_pos ⟨hr, lasted_of_le hu ht⟩),
    fun late s h => congrArg Host.Outcome.next (if_neg ?notLost),
    fun s hp hq ht => congrArg Host.Outcome.next (if_pos ⟨hp, hq, .inl ht⟩),
    fun s ht hf => congrArg Host.Outcome.next (if_neg (by simp [ht, hf, lasted])),
    fun s hp hu hb hd => ?guySent, fun s h => congrArg Host.Outcome.next (if_neg ?noGuy),
    fun k l f s hp hu hf hv => ?guyBad, fun k l f s hp hu hf hv => ?guyGood,
    fun k l f s hu => congrArg Host.Outcome.next (if_neg (by simp [hu])), fun s => rfl, fun s => rfl, fun s hp ho hb => ?guyUp⟩
  case sent =>
    obtain ⟨hctl, hfaults, hrole, hseq, hsof, hhold, hfirst⟩ := timeRefTx_law s.dev
    refine ⟨{ s with dev := timeRefTx s.dev }, congrArg Host.Outcome.next (if_pos ⟨hp, hc, hr, hb, hf⟩), rfl, rfl, ?_⟩
    dsimp only
    exact ⟨hctl, hfaults, hrole, hseq, hsof, hhold, hfirst⟩
  case notSent =>
    rintro ⟨-, hc, hr, hb, -⟩
    rcases h with h | h | h
    · exact Bool.eq_false_iff.mp h hc
    · exact Bool.eq_false_iff.mp h hr
    · exact h hb
  case noRef =>
    refine congrArg Host.Outcome.next ?_
    rw [h]
    exact ite_self s
  case followed =>
    obtain ⟨h1, h2, h3, h4, h5, h6, h7, h8⟩ := followRef_law r sof s.dev
    refine ⟨{ s with dev := followRef r sof s.dev }, ?_, rfl, rfl, ?_⟩
    · refine (congrArg Host.Outcome.next (if_neg (by simp [hs, hf]))).trans (congrArg Host.Outcome.next ?_)
      rw [h]
      exact congrArg (fun d => { s with dev := d }) (timeRefRx_follows hne hr)
    · dsimp only
      exact ⟨h1, h2, h3, h4, h5, h6, h7, h8⟩
  case outranked =>
    refine congrArg Host.Outcome.next ?_
    rw [h]
    dsimp only
    rw [State.onDev_eq_self (timeRefRx_outranked hr hp), ite_self]
  case third =>
    obtain ⟨hdev, h1, h2, h3, h4, h5⟩ := timeRefMissed_third (a := a) hm hr
    refine ⟨{ s with dev := timeRefMissed a s.dev }, congrArg Host.Outcome.next (if_pos ⟨hp, by simp [hr], ho⟩), rfl, rfl, ?_⟩
    dsimp only
    exact ⟨hdev, h1, h2, h3, h4, h5⟩
  case notMissed =>
    rintro ⟨-, hp, ho⟩
    rcases h with h | h
    · simp [h] at hp
    · exact Bool.eq_false_iff.mp h ho
  case notLost =>
    rintro ⟨hr, hl⟩
    rcases h with h | h
    · exact h hr
    · simp [h, lasted] at hl
  case guySent =>
    obtain ⟨h1, h2, h3, h4, x, hx, h5, h6⟩ := guyFrameTx_law s.dev
    refine ⟨{ s with dev := guyFrameTx s.dev }, x, congrArg Host.Outcome.next (if_pos ⟨hp, hu, hb, hd⟩), rfl, rfl, ?_⟩
    dsimp only
    exact ⟨h1, h2, h3, h4, hx, h5, h6⟩
  case noGuy =>
    rintro ⟨-, hu, -, hd⟩
    rcases h with h | h
    · exact Bool.eq_false_iff.mp h hu
    · exact Bool.eq_false_iff.mp h hd
  case guyBad =>
    refine (congrArg Host.Outcome.next (if_pos ⟨hp, hu, by simp [hf]⟩)).trans (next_onDev ?_)
    exact if_neg (by simp [hv])
  case guyGood =>
    obtain ⟨h1, h2, h3, h4, h5, h6, h7, h8⟩ := guyAccept_law (s.dev.now + 5 * k) l s.dev
    refine ⟨{ s with dev := guyAccept (s.dev.now + 5 * k) l s.dev },
      (congrArg Host.Outcome.next (if_pos ⟨hp, hu, by simp [hf]⟩)).trans (next_onDev (if_pos hv)), rfl, rfl, ?_⟩
    dsimp only
    exact ⟨h1, h2, h3, h4, h5, h6, h7, h8⟩
  case guyUp =>
    obtain ⟨h1, h2, h3, h4⟩ := guyLinkUp_law s.dev
    refine ⟨{ s with dev := guyLinkUp s.dev }, congrArg Host.Outcome.next (if_pos ⟨hp, ho, hb⟩), rfl, rfl, ?_⟩
    dsimp only
    exact ⟨h1, h2, h3, h4⟩
end

section
/-!
PROOFS of the statement about Hokuith datagrams and USDO transfers (chapters 14 and 15).
-/

namespace Sys2Proof.Machine

/-- A request of a path has come: its session counts as used. -/
def State.touched (q : Path) (s : State) : State := { s with dev := touchPath q s.dev }

@[simp] theorem touchPath_cached (q : Path) (d : Device) : ((touchPath q d).path q).cached = (d.path q).cached :=
  congrArg (·.cached) (Device.onPath_path q _ d)

@[simp] theorem touchPath_transfer (q : Path) (d : Device) : ((touchPath q d).path q).transfer = (d.path q).transfer :=
  congrArg (·.transfer) (Device.onPath_path q _ d)

/-! ## Hokuith (R375 to R378, R390) -/

theorem ethServe_hears {h : UdpHead} {f : State → State} {s : State} (hh : s.dev.hkHears h = true) : ethServe h f s = f s := by
  obtain ⟨ht, hp⟩ : s.dev.ethTakes h = true ∧ h.destPort = 4980 := by simpa [Device.hkHears] using hh
  exact (if_neg (by simp [ht])).trans (if_pos hp)

theorem ethServe_other {h : UdpHead} {f : State → State} {s : State} (hh : s.dev.hkHears h = false) :
    ethServe h f s = if s.dev.ethTakes h then s.onDev (ethOther h.destPort) else s := by
  unfold ethServe
  cases ht : s.dev.ethTakes h with
  | false => rfl
  | true =>
    have hp : h.destPort ≠ 4980 := by simpa [Device.hkHears, ht] using hh
    exact if_neg hp

section
variable {op : Nat} {ip : BitVec 32} {port : BitVec 16} {b : List Byte} {s : State}
  {f : Option (List Byte) → HkAnswer → List Byte → State → State}

theorem hkDatagram_discards (h : b.length < 20 ∨ field b 0 2 ≠ 0x4B48 ∨ s.dev.hkSession (.hk ip port) b = none) :
    hkDatagram op ip port b f s = s.onDev hkDiscard := by
  unfold hkDatagram
  by_cases hb : b.length < 20 ∨ field b 0 2 ≠ 0x4B48
  · exact if_pos hb
  · have hs : s.dev.hkSession (.hk ip port) b = none := by tauto
    extract_lets q
    rw [if_neg hb, hs]

/-- A whole datagram that does not repeat a request runs what its opcode does (R375, R376). -/
theorem hkDatagram_runs {key : Option (List Byte)} (hl : 20 ≤ b.length) (hm : field b 0 2 = 0x4B48)
    (hs : s.dev.hkSession (.hk ip port) b = some key) (hf : s.dev.hkFresh (.hk ip port) b) (hv : field b 2 1 = 1)
    (ho : field b 3 1 = op) (hlen : b.length = 20 + field b 4 2 + if key.isSome then 16 else 0) (hx : b.length ≤ 1472) :
    hkDatagram op ip port b f s = f key { hkHeader op b with session := field b 8 4 } ((b.drop 20).take (field b 4 2))
      (s.touched (.hk ip port)) := by
  have hnone : ((touchPath (.hk ip port) s.dev).path (.hk ip port)).cached.find? (fun e => e.1.reqId == field b 12 4
      && decide ((touchPath (.hk ip port) s.dev).now ≤ e.2 + sec 1)) = none := by
    rw [touchPath_cached]
    refine List.find?_eq_none.mpr fun e he => ?_
    rcases hf e he with h | h
    · simp [h]
    · have hnow : ¬ (touchPath (.hk ip port) s.dev).now ≤ e.2 + sec 1 := Nat.not_le.mpr h
      simp [hnow]
  unfold hkDatagram
  extract_lets q
  rw [if_neg (by omega), hs]
  dsimp only [q]
  rw [hnone]
  dsimp only
  rw [if_neg (by simp [hv]), if_neg (by
    rintro (h | h | h)
    · exact h ho
    · exact h hlen
    · omega)]
  subst ho
  rfl

theorem hkSession_plain {q : Path} {d : Device} (h : field b 8 4 = 0) : d.hkSession q b = some none := if_pos h

/-- A plain datagram runs what its opcode does over its whole body. -/
theorem hkDatagram_plain (h : hkPlain op b) (hf : s.dev.hkFresh (.hk ip port) b) :
    hkDatagram op ip port b f s = f none (hkHeader op b) (b.drop 20) (s.touched (.hk ip port)) := by
  obtain ⟨hl, hx, hlen, hm, hv, ho, hs⟩ := h
  rw [hkDatagram_runs (key := none) hl hm (hkSession_plain hs) hf hv ho hlen hx, hs,
    List.take_of_length_le (by rw [List.length_drop]; omega)]
  rfl

/-- A repeated plain request gets the response kept for it (R375). -/
theorem hkDatagram_repeated {a : HkAnswer} {u : Nanos} (h : hkPlain op b) (hc : (s.dev.path (.hk ip port)).cached = [(a, u)])
    (hr : a.reqId = field b 12 4) (hu : s.dev.now ≤ u + sec 1) : hkDatagram op ip port b f s =
      s.onDev fun d => hkSend ip port (hkBytes a true none) (touchPath (.hk ip port) d) := by
  obtain ⟨hl, hx, hlen, hm, hv, ho, hs⟩ := h
  have hfind : ((touchPath (.hk ip port) s.dev).path (.hk ip port)).cached.find? (fun e => e.1.reqId == field b 12 4
      && decide ((touchPath (.hk ip port) s.dev).now ≤ e.2 + sec 1)) = some (a, u) := by
    have hnow : (touchPath (.hk ip port) s.dev).now ≤ u + sec 1 := hu
    simp [hc, hr, hnow]
  unfold hkDatagram
  extract_lets q
  rw [if_neg (by omega), hkSession_plain hs]
  dsimp only [q]
  rw [hfind]
  rfl

/-- Reads, writes and block reads run the items of their body (R377, R378). -/
theorem hkObjects_runs {l : List HkItem} (h : hkPlain op b) (hf : s.dev.hkFresh (.hk ip port) b)
    (hi : hkItems op (field b 16 2) (b.drop 20) = some l) :
    hkObjects op ip port b s = hkItemsRun op ip port none (hkHeader op b) l (s.touched (.hk ip port)) := by
  unfold hkObjects
  rw [hkDatagram_plain h hf, hi]

theorem hkOpenRequest_runs (h : hkPlain 0x10 b) (hf : s.dev.hkFresh (.hk ip port) b) (hl : b.length = 40)
    (hb : s.dev.busyOn (.hk ip port) = false) : hkOpenRequest ip port b s =
      let r := cmdSessOpen (.hk ip port) ((b.drop 20).take 18) (s.touched (.hk ip port))
      hkSessionAnswer ip port none (hkHeader 0x10 b) ((r.2.dev.path (.hk ip port)).challengeBytes.2) r := by
  have hb' : (touchPath (.hk ip port) s.dev).busyOn (.hk ip port) = false := hb
  unfold hkOpenRequest
  extract_lets q
  rw [hkDatagram_plain h hf, if_neg (by simp [hl])]
  exact if_neg (by simp [State.touched, q, hb'])

theorem hkProof_runs (h : hkPlain 0x11 b) (hf : s.dev.hkFresh (.hk ip port) b) (hl : b.length = 52)
    (hb : s.dev.busyOn (.hk ip port) = false) : hkProof ip port b s =
      let r := cmdSessProof (.hk ip port) (b.drop 20) (s.touched (.hk ip port))
      hkSessionAnswer ip port none (hkHeader 0x11 b) ((r.2.dev.path (.hk ip port)).proofBytes.2) r := by
  have hb' : (touchPath (.hk ip port) s.dev).busyOn (.hk ip port) = false := hb
  unfold hkProof
  extract_lets q
  rw [hkDatagram_plain h hf, if_neg (by simp [hl])]
  exact if_neg (by simp [State.touched, q, hb'])

end

/-- A session is closed by an empty body with its tag (R390, R392). -/
theorem hkClose_runs {ip : BitVec 32} {port : BitVec 16} {b key : List Byte} {s : State} (hf : s.dev.hkFresh (.hk ip port) b)
    (hs : s.dev.hkSession (.hk ip port) b = some (some key)) (hl : b.length = 36) (hm : field b 0 2 = 0x4B48)
    (hv : field b 2 1 = 1) (ho : field b 3 1 = 0x12) (h0 : field b 4 2 = 0) (hb : s.dev.busyOn (.hk ip port) = false) :
    hkClose ip port b s = s.onDev fun d => hkAnswer ip port { hkHeader 0x12 b with session := field b 8 4 } (some key)
      (closeSession (.hk ip port) (touchPath (.hk ip port) d)) := by
  have hb' : (touchPath (.hk ip port) s.dev).busyOn (.hk ip port) = false := hb
  unfold hkClose
  rw [hkDatagram_runs (by omega) hm hs hf hv ho (by simp [hl, h0]) (by omega), if_neg (by simp [h0])]
  exact if_neg (by simp [State.touched, hb'])

/-! ## USDO (R389) -/

section
variable {q : Path} {s : State} (hb : s.dev.busyOn q = false)
include hb

theorem usdo_free (r : UsdoRequest) : usdo q r s =
    match r with
    | .read ix sub => usdoRead q ix.toNat sub.toNat (s.touched q)
    | .write ix sub data => usdoWrite q ix.toNat sub.toNat data (s.touched q)
    | .writeStart ix sub total data => (s.touched q).onDev (usdoStart q ix.toNat sub.toNat total data)
    | .segment data last => usdoSegment q data last (s.touched q)
    | .readSegment => (s.touched q).onDev (usdoReadSegment q)
    | .abort => (s.touched q).onDev (setTransfer q none)
    | .badSpecifier => (s.touched q).onDev fun d => answer q Abort.badSpecifier [] (setTransfer q none d) := by
  have hb' : ¬ (touchPath q s.dev).busyOn q = true := by simpa [touchPath_busyOn] using hb
  cases r <;> exact if_neg hb'

end

/-- The next segment of a write, short of the end (R389). -/
theorem usdoSegment_next {q : Path} {l : List Byte} {x : UsdoTransfer} {s : State} (h : (s.dev.path q).transfer = some x)
    (hw : x.write = true) (hl : x.buffer.length + l.length ≤ x.total) : usdoSegment q l false s =
      s.onDev fun d => answer q Abort.ok [] (setTransfer q (some { x with at_ := d.now, buffer := x.buffer ++ l }) d) := by
  unfold usdoSegment
  rw [h]
  dsimp only
  rw [if_neg (by simp [hw]), if_neg (by simpa using hl)]
  rfl

theorem usdoSegment_last {q : Path} {l : List Byte} {x : UsdoTransfer} {s : State} (h : (s.dev.path q).transfer = some x)
    (hw : x.write = true) (hl : x.buffer.length + l.length = x.total) :
    usdoSegment q l true s = usdoWrite q (x.key / 256) (x.key % 256) (x.buffer ++ l) s := by
  unfold usdoSegment
  rw [h]
  dsimp only
  rw [if_neg (by simp [hw]), if_neg (by simp only [List.length_append]; omega)]
  rfl

theorem usdoSegment_length {q : Path} {l : List Byte} {last : Bool} {x : UsdoTransfer} {s : State}
    (h : (s.dev.path q).transfer = some x) (hw : x.write = true)
    (hl : x.total < x.buffer.length + l.length ∨ (last = true ∧ x.buffer.length + l.length ≠ x.total)) :
    usdoSegment q l last s = s.onDev fun d => answer q Abort.length [] (setTransfer q none d) := by
  unfold usdoSegment
  rw [h]
  dsimp only
  rw [if_neg (by simp [hw]), if_pos (by simpa using hl)]
  rfl

theorem usdoReadSegment_next {q : Path} {x : UsdoTransfer} {d : Device} (h : (d.path q).transfer = some x)
    (hw : x.write = false) : usdoReadSegment q d = answer q Abort.ok (x.buffer.take usdoChunk)
      (setTransfer q (if (x.buffer.drop usdoChunk).isEmpty then none else some
        { x with at_ := d.now, buffer := x.buffer.drop usdoChunk }) d) := by
  unfold usdoReadSegment
  rw [h]
  exact if_neg (by simp [hw])

end Sys2Proof.Machine

/-! ## The statement -/

open Sys2Proof Sys2Proof.Machine

/-- Settles O48: a datagram is discarded, answered from the kept response or run, and a USDO transfer goes by its segments. -/
theorem hostProtocols : Obligations.HostProtocols := by
  unfold Obligations.HostProtocols
  refine ⟨fun h ip port b l s hh hf => ⟨fun hp hi => ?read, fun hp hi => ?write, fun hp hi => ?readBlock,
      fun hp hl hb => ?sessionOpen, fun hp hl hb => ?sessionProof⟩,
    fun h ip port b key s hh hf hs hl hm hv ho h0 hb => ?sessionClose, fun h ip port b s hh hd => ?discard,
    fun h ip port b a u s hh hp hc hr hu => ?repeated, fun h ip port b s hh => ?other,
    fun op ip port key a l s hb => if_pos hb, fun onB n s hs hb => ?usdo, fun onB n r s hs hb => ?usdoBusy,
    fun onB n r s hs => congrArg Host.Outcome.next (if_neg (by simp [hs])), fun onB n late x s hx => ?timeout,
    fun onB n late s hx => congrArg Host.Outcome.next (if_neg (by simp [Device.transferOver, hx, lasted]))⟩
  case read => exact congrArg Host.Outcome.next ((ethServe_hears hh).trans (hkObjects_runs hp hf hi))
  case write => exact congrArg Host.Outcome.next ((ethServe_hears hh).trans (hkObjects_runs hp hf hi))
  case readBlock => exact congrArg Host.Outcome.next ((ethServe_hears hh).trans (hkObjects_runs hp hf hi))
  case sessionOpen => exact congrArg Host.Outcome.next ((ethServe_hears hh).trans (hkOpenRequest_runs hp hf hl hb))
  case sessionProof => exact congrArg Host.Outcome.next ((ethServe_hears hh).trans (hkProof_runs hp hf hl hb))
  case sessionClose =>
    exact congrArg Host.Outcome.next ((ethServe_hears hh).trans (hkClose_runs hf hs hl hm hv ho h0 hb))
  case discard =>
    have hall {f : State → State} (he : f s = s.onDev hkDiscard) :
        (.next (ethServe h f s) : Host.Outcome State Fault Refusal) = .next (s.onDev hkDiscard) :=
      congrArg Host.Outcome.next ((ethServe_hears hh).trans he)
    have hopen : hkOpenRequest ip port b s = s.onDev hkDiscard := by
      unfold hkOpenRequest
      exact hkDatagram_discards hd
    have hproof : hkProof ip port b s = s.onDev hkDiscard := by
      unfold hkProof
      exact hkDatagram_discards hd
    exact ⟨hall (hkDatagram_discards hd), hall (hkDatagram_discards hd), hall (hkDatagram_discards hd), hall hopen, hall hproof,
      hall (hkDatagram_discards hd)⟩
  case repeated => exact congrArg Host.Outcome.next ((ethServe_hears hh).trans (hkDatagram_repeated hp hc hr hu))
  case other =>
    have hall (f : State → State) : (.next (ethServe h f s) : Host.Outcome State Fault Refusal)
        = .next (if s.dev.ethTakes h then s.onDev (ethOther h.destPort) else s) := congrArg Host.Outcome.next (ethServe_other hh)
    exact ⟨hall _, hall _, hall _, hall _, hall _, hall _⟩
  case usdo =>
    extract_lets q u
    have hrun (r : UsdoRequest) : exec (.usdoRequest onB n r) s = .next (usdo q r s) := congrArg Host.Outcome.next (if_pos hs)
    have htr {x : UsdoTransfer} (hx : (s.dev.path q).transfer = some x) : (u.dev.path q).transfer = some x :=
      (touchPath_transfer q s.dev).trans hx
    refine ⟨fun ix sub => ?_, fun ix sub l => ?_, fun ix sub total l ht => ?_, fun ix sub total l ht => ?_,
      fun l x hx hw hl => ?_, fun l x hx hw hl => ?_, fun l last x hx hw hl => ?_, fun x hx hw => ?_, ?_, ?_⟩ <;>
      rw [hrun, usdo_free hb]
    · rfl
    · rfl
    · exact next_onDev (if_pos ht)
    · exact next_onDev (if_neg (Nat.not_lt.mpr ht))
    · exact congrArg Host.Outcome.next (usdoSegment_next (htr hx) hw hl)
    · exact congrArg Host.Outcome.next (usdoSegment_last (htr hx) hw hl)
    · exact congrArg Host.Outcome.next (usdoSegment_length (htr hx) hw hl)
    · exact next_onDev (usdoReadSegment_next (htr hx) hw)
    · rfl
    · rfl
  case usdoBusy => exact congrArg Host.Outcome.next ((if_pos hs).trans (if_pos hb))
  case timeout =>
    have hover : s.dev.transferOver (.usdo onB n) = decide (x.at_ + sec 1 ≤ s.dev.now) := by
      unfold Device.transferOver
      rw [hx]
      rfl
    refine ⟨fun ht => congrArg Host.Outcome.next (if_pos ?_), fun ht => congrArg Host.Outcome.next (if_neg ?_)⟩
    · rw [hover]
      exact decide_eq_true ht
    · rw [hover, decide_eq_true_eq]
      exact Nat.not_le.mpr ht
end

section
/-!
PROOFS of the statement about COMMIT_CMD, the check, the commit tick, the pair and the settings store (chapter 15).
-/

namespace Sys2Proof.Machine

theorem next_of_dev {s : State} {f : Device → Device} {d : Device} (h : f s.dev = d) :
    (.next (s.onDev f) : Host.Outcome State Fault Refusal) = .next { s with dev := d } :=
  congrArg (fun x => Host.Outcome.next { s with dev := x }) h

/-! ## COMMIT_CMD (R395, R397) -/

section
variable {q : Path} {d : Device} (hc : d.ctl.state ≠ .calibrating) (hf : d.ctl.state ≠ .fault)
include hc hf

theorem cmdCommit_held (h : d.od.state.locked = true) (hl : d.od.lock ≠ some q) {code : Nat} (h0 : code ≠ 0) (h5 : code ≤ 5) :
    cmdCommit q code d = (Abort.shadowHeld, d) :=
  (if_neg (by omega)).trans ((if_neg (by simp [hc, hf])).trans (if_pos (by simp [h, hl])))

theorem cmdCommit_discard (h : d.od.state.locked = true) (hl : d.od.lock = some q) :
    cmdCommit q 5 d = (Abort.ok, cancelCommit d) :=
  (if_neg (by omega)).trans ((if_neg (by simp [hc, hf])).trans ((if_neg (by simp [hl])).trans (if_pos h)))

theorem cmdCommit_check (h : d.od.state = .editing ∨ d.od.state = .refused) (hl : d.od.lock = some q) :
    cmdCommit q 1 d = (Abort.ok, startCheck 0 (d.onOd fun x => { x with lastStaged := d.now })) :=
  (if_neg (by omega)).trans ((if_neg (by simp [hc, hf])).trans ((if_neg (by simp [hl])).trans (if_pos h)))

/-- The commands 0x02 to 0x04 of the holder of the lock go to the check first (R397). -/
theorem cmdCommit_go {m : Nat} (hm : m = 2 ∨ m = 3 ∨ m = 4) (hl : d.od.lock = some q) : cmdCommit q m d = cmdCommitGo m d := by
  refine (if_neg (by omega)).trans ((if_neg (by simp [hc, hf])).trans ((if_neg (by simp [hl])).trans ?_))
  rcases hm with rfl | rfl | rfl <;> rfl

end

theorem cmdCommitGo_checks {m : Nat} {d : Device} (h : d.od.state = .editing ∨ d.od.state = .refused)
    (ht : m ≠ 4 ∨ d.commitTimeOk = true) : cmdCommitGo m d = (Abort.ok, startCheck m (d.onOd fun x => { x with
      lastStaged := d.now, commitT := if m = 4 then d.commitTimeNow else x.commitT })) := by
  have hno : ¬ (m = 4 ∧ (!d.commitTimeOk) = true) := by
    rintro ⟨h4, hn⟩
    rcases ht with ht | ht
    · exact ht h4
    · simp [ht] at hn
  have hs : d.od.state ≠ .checked := by rcases h with h | h <;> simp [h]
  unfold cmdCommitGo
  rcases h with h | h <;> rw [h] <;> exact (if_neg hno).trans (if_neg hs)

theorem cmdCommitGo_range {d : Device} (h : d.od.state = .editing ∨ d.od.state = .refused) (ht : d.commitTimeOk = false) :
    cmdCommitGo 4 d = (Abort.range, d) := by
  unfold cmdCommitGo
  rcases h with h | h <;> rw [h] <;> exact if_pos (by simp [ht])

theorem withdrawOwn_law (d : Device) : (withdrawOwn d).ctl = d.ctl ∧ (withdrawOwn d).od.inForce = d.od.inForce := by
  unfold withdrawOwn
  split <;> exact ⟨rfl, rfl⟩

/-- The shadow set is discarded, the set in force stays (R395). -/
theorem cancelCommit_law (d : Device) : (cancelCommit d).od.state = .cancelled ∧ (cancelCommit d).od.shadow = none
    ∧ (cancelCommit d).od.lock = none ∧ (cancelCommit d).od.inForce = d.od.inForce ∧ (cancelCommit d).ctl = d.ctl := by
  obtain ⟨hctl, hset⟩ := withdrawOwn_law d
  exact ⟨rfl, rfl, rfl, hset, hctl⟩

/-- A path whose writes are taken is not in FAULT where FAULT refuses them (R20). -/
theorem Device.ne_fault_of_takes {d : Device} {q : Path} {lvl : ObjLevel} (h : d.takes q lvl false) : d.ctl.state ≠ .fault := by
  intro hs
  have ht := h.2
  simp only [Device.turnedAway, hs, Bool.not_false, and_self, if_true] at ht
  split at ht
  · cases ht
  · split at ht
    · cases ht
    · split at ht <;> cases ht

theorem touchPath_commitTimeNow (q : Path) (d : Device) : (touchPath q d).commitTimeNow = d.commitTimeNow := rfl

theorem touchPath_commitTimeOk (q : Path) (d : Device) : (touchPath q d).commitTimeOk = d.commitTimeOk := rfl

section
variable {q : Path} {s : State} (h : s.dev.takes q .b false) (hc : s.dev.ctl.state ≠ .calibrating)
  (hs : s.dev.od.state = .editing ∨ s.dev.od.state = .refused) (hl : s.dev.od.lock = some q)
include h hc hs hl

theorem writeCommit_check : writeCommit q 1 s = s.onDev fun d => answer q Abort.ok []
    (startCheck 0 ((touchPath q d).onOd fun x => { x with lastStaged := d.now })) := by
  have hf := Device.ne_fault_of_takes h
  refine (hostWrite_devCmd h (g := fun d => startCheck 0 (d.onOd fun x => { x with lastStaged := d.now }))
    (cmdCommit_check (d := touchPath q s.dev) hc hf hs hl)).trans ?_
  simp only [State.onDev, Device.now, touchPath_ctl]

theorem writeCommit_go {m : Nat} (hm : m = 2 ∨ m = 3 ∨ m = 4) (ht : m ≠ 4 ∨ s.dev.commitTimeOk = true) :
    writeCommit q m s = s.onDev fun d => answer q Abort.ok [] (startCheck m ((touchPath q d).onOd fun x => { x with
      lastStaged := d.now, commitT := if m = 4 then d.commitTimeNow else x.commitT })) := by
  have hf := Device.ne_fault_of_takes h
  have hcmd := (cmdCommit_go (d := touchPath q s.dev) hc hf hm hl).trans
    (cmdCommitGo_checks (d := touchPath q s.dev) hs (by rwa [touchPath_commitTimeOk]))
  refine (hostWrite_devCmd h (g := fun d => startCheck m (d.onOd fun x => { x with
    lastStaged := d.now, commitT := if m = 4 then d.commitTimeNow else x.commitT })) hcmd).trans ?_
  simp only [State.onDev, touchPath_commitTimeNow, Device.now, touchPath_ctl]

theorem writeCommit_range (ht : s.dev.commitTimeOk = false) : writeCommit q 4 s = s.onDev fun d =>
    answer q Abort.range [] (touchPath q d) := by
  have hf := Device.ne_fault_of_takes h
  exact hostWrite_devCmd_refused h ((cmdCommit_go (d := touchPath q s.dev) hc hf (by decide) hl).trans
    (cmdCommitGo_range hs (by rwa [touchPath_commitTimeOk])))

end

/-! ## Checking, loading and the commit tick (R397 to R399, R404) -/

theorem checkDone_passes {d : Device} (ha : d.od.after = 0) (h : firstFailing allRules d.ruleView = 0) : checkDone d =
    matchPartner (d.onOd fun x => { x with state := .checked, rule := 0, shadowId := settingsIdOf d.stagedSet }) := by
  unfold checkDone
  rw [h]
  exact if_pos ha

theorem checkDone_pends {d : Device} (ha : d.od.after ≠ 0) (h : firstFailing allRules d.ruleView = 0) :
    checkDone d = pendCommit d.od.after d := by
  unfold checkDone
  rw [h]
  exact if_neg ha

theorem checkDone_refuses {d : Device} (h : firstFailing allRules d.ruleView ≠ 0) :
    checkDone d = refuseCommit (firstFailing allRules d.ruleView) d := by
  unfold checkDone
  split
  · next h0 => exact absurd h0 h
  · rfl

theorem commitLoaded_noStage {d : Device} (h : profileStages (changedKeys d.od.inForce d.stagedSet d.od.staged) = []) :
    commitLoaded d = { d with od := { d.od with loaded := true } } := by
  have he : d.each (profileStages (changedKeys d.od.inForce d.stagedSet d.od.staged)) (loadBanks d.stagedSet) = d := by
    rw [h]
    rfl
  exact congrArg (Device.onOd fun x => { x with loaded := true }) he

/-- The object dictionary without the paths. -/
def ObjDict.offPaths (x : ObjDict) : ObjDict := { x with paths := [] }

/-- A device differs from another in its object dictionary by the paths at most. -/
def SameOd (d e : Device) : Prop := e.od.offPaths = d.od.offPaths

theorem SameOd.trans {a b c : Device} (h : SameOd a b) (h' : SameOd b c) : SameOd a c := Eq.trans h' h

theorem SameOd.each (f : α → Device → Device) (h : ∀ a d, SameOd d (f a d)) (l : List α) (d : Device) : SameOd d (d.each l f) :=
  Device.each_keeps (fun x => x.od.offPaths) f h l d

theorem SameOd.ite {c : Prop} [Decidable c] {f : Device} {d : Device} (h : SameOd d f) : SameOd d (if c then f else d) := by
  split
  · exact h
  · rfl

theorem sameOd_of_od {d e : Device} (h : e.od = d.od) : SameOd d e := congrArg ObjDict.offPaths h

theorem sameOd_answer (q : Path) (c : W32) (l : List Byte) (d : Device) : SameOd d (answer q c l d) := by
  unfold answer
  exact SameOd.trans (b := d.onPath q fun x => { x with last := [(c, l)] }) rfl (sameOd_of_od (by simp))

theorem each_onIsland_od (f : Nat → Island → Island) (l : List Nat) (d : Device) :
    (d.each l fun i => Device.onIsland i (f i)).od = d.od :=
  Device.each_keeps (·.od) (fun i => Device.onIsland i (f i)) (fun _ _ => rfl) l d

theorem sameOd_switchBank (sg : StageGroup) (d : Device) : SameOd d (switchBank sg d) :=
  (sameOd_of_od (each_onIsland_od _ _ d)).trans (sameOd_of_od (each_onIsland_od _ _ _))

theorem sameOd_doridPortRestart (n : Nat) (d : Device) : SameOd d (doridPortRestart n d) :=
  sameOd_of_od (Device.each_keeps (·.od) (fun c => Device.onConn c fun x => { x with started := false }) (fun _ _ => rfl) _ d)

theorem sameOd_restartCan (p : CanPort) (d : Device) : SameOd d (restartCan p d) := by
  unfold restartCan
  split
  · rfl
  · extract_lets x y z
    have hx : SameOd d x := rfl
    have hy : SameOd x y := by cases p <;> rfl
    have hz : SameOd y z := sameOd_of_od (by simp [z])
    exact ((hx.trans hy).trans hz).trans (sameOd_doridPortRestart _ z)

theorem sameOd_restartEth (d : Device) : SameOd d (restartEth d) := by
  have h : SameOd d (bumpEpoch 3 false (bumpEpoch 3 true (dropTransfers isHokuith d))) := rfl
  exact h.trans (sameOd_doridPortRestart 3 _)

theorem sameOd_isoClaim (d : Device) : SameOd d (isoClaim d) := by
  unfold isoClaim sendClaim
  exact sameOd_of_od (by simp)

theorem sameOd_restartRing (n : Nat) (d : Device) : SameOd d (restartRing n d) := by
  unfold restartRing
  split <;> rfl

/-- What a change of settings does to the blocks leaves the object dictionary but for transfers dropped. -/
theorem sameOd_commitEffects (keys : List Nat) (d : Device) : SameOd d (commitEffects keys d) := by
  unfold commitEffects
  extract_lets d1 d2 d3 d4 d5 d6 d7 n d8 d9 d10
  have h1 : SameOd d d1 := SameOd.each switchBank sameOd_switchBank _ d
  have h2 : SameOd d1 d2 := SameOd.each wheelAfresh (fun _ _ => rfl) _ d1
  have h3 : SameOd d2 d3 := SameOd.each (fun m => Device.onMchan m fun c => { c with fineSettle := fineN d2.cfg m }) (fun _ _ => rfl) _ d2
  have h4 : SameOd d3 d4 := SameOd.each (fun k => Device.onSlot k fun x => { x with coefGen := addWrap 8 x.coefGen 1 })
    (fun _ _ => rfl) _ d3
  have h5 : SameOd d4 d5 := SameOd.each slotSync (fun _ _ => rfl) _ d4
  have h6 : SameOd d5 d6 := SameOd.each restartCan sameOd_restartCan _ d5
  have h7 : SameOd d6 d7 := (sameOd_restartEth d6).ite
  have h8 : SameOd d7 d8 := SameOd.ite rfl
  have h9 : SameOd d8 d9 := (sameOd_isoClaim d8).ite
  have h10 : SameOd d9 d10 := SameOd.each restartRing sameOd_restartRing _ d9
  have hall : SameOd d d10 :=
    ((((((((h1.trans h2).trans h3).trans h4).trans h5).trans h6).trans h7).trans h8).trans h9).trans h10
  exact hall.trans (SameOd.ite rfl)

/-- The whole set goes in force, and the beat goes on with its own (R13, R398). -/
theorem applySet_law (d : Device) : (applySet d).od.state = .done ∧ (applySet d).od.inForce = d.stagedSet
    ∧ (applySet d).od.shadow = none ∧ (applySet d).od.lock = none ∧ (applySet d).od.lastCommit = d.nextTick
    ∧ (applySet d).od.storeDue = some d.now ∧ (applySet d).od.inBeat = d.od.inBeat := by
  unfold applySet
  extract_lets new keys late x y
  have hy : y.od = x.od := Device.each_keeps (·.od) (holdFilter new) (fun _ _ => rfl) _ x
  have hx : x.od.state = .done ∧ x.od.inForce = d.stagedSet ∧ x.od.shadow = none ∧ x.od.lock = none
      ∧ x.od.lastCommit = d.nextTick ∧ x.od.storeDue = some d.now ∧ x.od.inBeat = d.od.inBeat :=
    ⟨rfl, rfl, rfl, rfl, rfl, rfl, rfl⟩
  clear_value x y
  obtain ⟨h1, h2, h3, h4, h5, h6, h7⟩ := hx
  have he : (commitEffects keys (y.onOd fun z => { z with inBeat := new })).od.offPaths = ({ x.od with inBeat := new }).offPaths := by
    rw [← hy]
    exact sameOd_commitEffects keys _
  exact ⟨(congrArg (·.state) he).trans h1, (congrArg (·.inForce) he).trans h2, (congrArg (·.shadow) he).trans h3,
    (congrArg (·.lock) he).trans h4, (congrArg (·.lastCommit) he).trans h5, (congrArg (·.storeDue) he).trans h6,
    (congrArg (·.inBeat) hy).trans h7⟩

theorem commitApply_suppressed {d : Device} (hf : d.forcedAt 0x0F01 = true) (hm : d.od.mode = 4) : commitApply d =
    matchPartner (d.onOd fun x => { x with state := .checked, loading := false, loaded := false, compareT := none }) :=
  if_pos ⟨hf, hm⟩

section
variable {d : Device} (hf : d.forcedAt 0x0F01 = false ∨ d.od.mode ≠ 4)
include hf

theorem commitApply_applies (h : firstFailing instantRules d.ruleView = 0) : commitApply d = applySet d := by
  unfold commitApply
  rw [if_neg (by rintro ⟨h1, h2⟩; rcases hf with hf | hf <;> simp_all), h]
  rfl

theorem commitApply_refuses (h : firstFailing instantRules d.ruleView ≠ 0) :
    commitApply d = refuseCommit (firstFailing instantRules d.ruleView) d := by
  unfold commitApply
  rw [if_neg (by rintro ⟨h1, h2⟩; rcases hf with hf | hf <;> simp_all)]
  split
  · next h0 => exact absurd h0 h
  · rfl

end

/-! ## The lock, the pair and the store (R395, R402, R403, R439) -/

/-- The announcement of the partner, and the match with the commit pending here (R402). -/
theorem announceRx_announce (u : Nanos) (w : W32) (d : Device) : (announceRx (.announce u w) d).od.announced = some (u, w)
    ∧ ((announceRx (.announce u w) d).od.partnerMatch = true ↔
      d.od.state = .pending ∧ d.od.mode = 4 ∧ d.od.commitT = u ∧ d.od.shadowId = w) := by
  refine ⟨rfl, ?_⟩
  show (d.od.state == .pending && d.od.mode == 4 && some (u, w) == some (d.od.commitT, d.od.shadowId)) = true ↔ _
  simp only [Bool.and_eq_true, beq_iff_eq, Option.some.injEq, Prod.mk.injEq, and_assoc, eq_comm (a := u),
    eq_comm (a := w)]

theorem losePartner_identityLost (d : Device) : (losePartner d).ctl.identityLost = d.ctl.identityLost := by
  unfold losePartner
  extract_lets c n g x
  have hx : x.ctl.identityLost = d.ctl.identityLost := rfl
  split
  · rw [loseRunning, (raise_low_frame .partnerLost .module Nat.one_lt_two _).2.1]
  · exact hx

section
variable {t : Nat} {d : Device}

theorem identityCompare_same (h : d.lastFrame.settingsId = d.settingsId) : identityCompare t d = d.onOd fun y => { y with
    announced := y.announced.filter (fun e => e.1 != t), compareT := y.compareT.filter (· != t) } := by
  exact congrArg (Device.onOd fun y => { y with
    announced := y.announced.filter (fun e => e.1 != t), compareT := y.compareT.filter (· != t) }) (if_pos h)

variable (h : d.lastFrame.settingsId ≠ d.settingsId)
include h

theorem identityCompare_parted : identityCompare t d = (identityParted t d.lastFrame.settingsId d).onOd fun y => { y with
    announced := y.announced.filter (fun e => e.1 != t), compareT := y.compareT.filter (· != t) } := by
  exact congrArg (Device.onOd fun y => { y with
    announced := y.announced.filter (fun e => e.1 != t), compareT := y.compareT.filter (· != t) }) (if_neg h)

/-- The side that announced nothing of the kind reports the miss in RUN (R403). -/
theorem identityCompare_missed (ha : d.od.announced = some (t, d.lastFrame.settingsId)) (hr : d.ctl.state = .run) :
    (identityCompare t d).hasFault .commitMissed .module 2 ∧ (identityCompare t d).od.announced = none := by
  have hp : identityParted t d.lastFrame.settingsId d = raise .commitMissed .module 2 d := (if_pos ha).trans (if_pos hr)
  rw [identityCompare_parted h, hp]
  refine ⟨raise_hasFault _ _ _ _ (by decide), ?_⟩
  show ((raise .commitMissed .module 2 d).od.announced).filter (fun e => e.1 != t) = none
  rw [(raise_frame ..).2.2.2.2.2.1, ha]
  simp

theorem identityCompare_idle (ha : d.od.announced = some (t, d.lastFrame.settingsId)) (hr : d.ctl.state ≠ .run) :
    identityCompare t d = d.onOd fun y => { y with
      announced := y.announced.filter (fun e => e.1 != t), compareT := y.compareT.filter (· != t) } := by
  have hp : identityParted t d.lastFrame.settingsId d = d := (if_pos ha).trans (if_neg hr)
  rw [identityCompare_parted h, hp]

/-- The side whose commit happened counts its partner as lost (R403). -/
theorem identityCompare_lost (ha : d.od.announced ≠ some (t, d.lastFrame.settingsId)) (hc : d.od.compareT = some t) :
    (identityCompare t d).ctl.partnerPresent = false ∧ (identityCompare t d).ctl.identityLost = true
      ∧ (identityCompare t d).od.compareT = none := by
  have hp : identityParted t d.lastFrame.settingsId d = losePartner { d with ctl := { d.ctl with identityLost := true } } :=
    (if_neg ha).trans (if_pos hc)
  rw [identityCompare_parted h, hp]
  refine ⟨(losePartner_ctl _).1, losePartner_identityLost _, ?_⟩
  show ((losePartner { d with ctl := { d.ctl with identityLost := true } }).od.compareT).filter (· != t) = none
  rw [losePartner_od]
  simp [hc]

end

/-- The set in force goes into the older copy (R439). -/
theorem storeWrite_law (d : Device) : (storeWrite d).od.storeDue = none ∧ (storeWrite d).cfg = d.cfg
    ∧ ((storeWrite d).flash.copy0 = d.flash.copy0 ∨ (storeWrite d).flash.copy1 = d.flash.copy1)
    ∧ (d.flash.copy0.valid = true → d.flash.copy1.valid = true → d.flash.copy1.seq < d.flash.copy0.seq →
      (storeWrite d).flash.copy0 = d.flash.copy0 ∧ (storeWrite d).flash.copy1.entries = d.storeEntries
        ∧ (storeWrite d).flash.copy1.valid = true ∧ (storeWrite d).flash.copy1.seq = (d.flash.copy0.seq + 1) % 2 ^ 32) := by
  unfold storeWrite
  extract_lets f newer seq c
  have hnew : d.flash.copy0.valid = true → d.flash.copy1.valid = true → d.flash.copy1.seq < d.flash.copy0.seq →
      newer = true := fun h0 h1 hs => by simp [newer, f, h0, hs]
  have hseq : newer = true → c.seq = (d.flash.copy0.seq + 1) % 2 ^ 32 := fun h => by simp [c, seq, h, f, addWrap]
  have hc : c.entries = d.storeEntries ∧ c.valid = true := ⟨rfl, rfl⟩
  clear_value newer c
  refine ⟨rfl, rfl, ?_, fun h0 h1 hs => ?_⟩
  · cases newer
    · exact .inr rfl
    · exact .inl rfl
  · have h := hnew h0 h1 hs
    subst h
    exact ⟨rfl, hc.1, hc.2, hseq rfl⟩

end Sys2Proof.Machine

/-! ## The statement -/

open Sys2Proof Sys2Proof.Machine

/-- Settles O49: the holder of the lock checks, commits and discards its set; the check and the commit tick put the whole set
in force or refuse it; the pair and the store follow. -/
theorem commitCommands : Obligations.CommitCommands := by
  unfold Obligations.CommitCommands
  refine ⟨fun q s h hc hs hl => ?commands, fun q s h hc hs hl => ?discard, fun q s h hc hs hl => ?held,
    fun s hs ha hr => ?passes, fun s hs hr => ?refuses,
    fun s hs ha hr => (congrArg Host.Outcome.next (if_pos hs)).trans (next_onDev (checkDone_pends ha hr)),
    fun s hs => congrArg Host.Outcome.next (if_neg hs),
    fun s hd hs ha => (congrArg Host.Outcome.next (if_pos hd)).trans (next_onDev (if_pos ⟨hs, ha⟩)), fun s hd hs hm => ?load,
    fun s hd => congrArg Host.Outcome.next (if_neg (by simp [hd])), fun s hs hl => congrArg Host.Outcome.next (if_pos ⟨hs, hl⟩),
    fun s h => congrArg Host.Outcome.next (if_neg ?notLoading), fun d h => commitLoaded_noStage h,
    fun s hs hl hd hf hr => ?applies, fun s hs hl hd hf hr => (congrArg Host.Outcome.next (if_pos ⟨hs, hl, hd⟩)).trans
      (next_onDev (commitApply_refuses hf hr)), fun s hs hl hd hf hm => ?suppressed,
    fun s h => congrArg Host.Outcome.next (if_neg ?notDue), fun s hs hm hl => ⟨fun ht => ?late, fun ht => ?inTime⟩,
    fun s h => congrArg Host.Outcome.next (if_neg ?notWaiting), fun late s hs hl => ?timeout, fun late s h => ?noTimeout,
    fun u w s hp hu => ?announce, fun u s hp hu => ⟨_, congrArg Host.Outcome.next (if_pos ⟨hp, hu⟩), rfl, rfl, rfl, rfl⟩,
    fun m s h => congrArg Host.Outcome.next (if_neg ?noLink), fun T s hp hq hT => ?compare, fun s h => ?noCompare,
    fun u s hu => ?store, fun s hu => congrArg Host.Outcome.next (if_neg (by simp [hu]))⟩
  case commands =>
    exact ⟨congrArg Host.Outcome.next (writeCommit_check h hc hs hl),
      congrArg Host.Outcome.next (writeCommit_go h hc hs hl (m := 2) (by decide) (.inl (by decide))),
      congrArg Host.Outcome.next (writeCommit_go h hc hs hl (m := 3) (by decide) (.inl (by decide))),
      fun ht => congrArg Host.Outcome.next (writeCommit_go h hc hs hl (m := 4) (by decide) (.inr ht)),
      fun ht => congrArg Host.Outcome.next (writeCommit_range h hc hs hl ht)⟩
  case discard =>
    have hf := Device.ne_fault_of_takes h
    obtain ⟨h1, h2, h3, h4, h5⟩ := cancelCommit_law (touchPath q s.dev)
    refine ⟨_, congrArg Host.Outcome.next (hostWrite_devCmd h (cmdCommit_discard (d := touchPath q s.dev) hc hf hs hl)),
      rfl, rfl, ?_⟩
    have ha := sameOd_answer q Abort.ok [] (cancelCommit (touchPath q s.dev))
    exact ⟨(congrArg (·.state) ha).trans h1, (congrArg (·.shadow) ha).trans h2, (congrArg (·.lock) ha).trans h3,
      (congrArg (·.inForce) ha).trans h4, (answer_frame ..).1.trans h5⟩
  case held =>
    have hf := Device.ne_fault_of_takes h
    have hall {code : Nat} (h0 : code ≠ 0) (h5 : code ≤ 5) : writeCommit q code s =
        s.onDev fun d => answer q Abort.shadowHeld [] (touchPath q d) :=
      hostWrite_devCmd_refused h (cmdCommit_held (d := touchPath q s.dev) hc hf hs hl h0 h5)
    exact ⟨congrArg Host.Outcome.next (hall (by decide) (by decide)), congrArg Host.Outcome.next (hall (by decide) (by decide)),
      congrArg Host.Outcome.next (hall (by decide) (by decide)), congrArg Host.Outcome.next (hall (by decide) (by decide)),
      congrArg Host.Outcome.next (hall (by decide) (by decide))⟩
  case passes =>
    exact ⟨{ s with dev := matchPartner (s.dev.onOd fun x => { x with
      state := .checked, rule := 0, shadowId := settingsIdOf s.dev.stagedSet }) },
      (congrArg Host.Outcome.next (if_pos hs)).trans (next_of_dev (checkDone_passes ha hr)), rfl, rfl, rfl, rfl, rfl, rfl⟩
  case refuses =>
    exact ⟨{ s with dev := refuseCommit (firstFailing allRules s.dev.ruleView) s.dev },
      (congrArg Host.Outcome.next (if_pos hs)).trans (next_of_dev (checkDone_refuses hr)),
      rfl, rfl, rfl, rfl, rfl, rfl, rfl, rfl⟩
  case load =>
    refine (congrArg Host.Outcome.next (if_pos hd)).trans (next_onDev ?_)
    exact (if_neg fun h => by simp [hs] at h).trans (if_pos ⟨hs, hm⟩)
  case notLoading =>
    rintro ⟨hs, hl⟩
    rcases h with h | h
    · exact h hs
    · exact Bool.eq_false_iff.mp h hl
  case applies =>
    obtain ⟨h1, h2, h3, h4, h5, h6, h7⟩ := applySet_law s.dev
    refine ⟨{ s with dev := applySet s.dev }, (congrArg Host.Outcome.next (if_pos ⟨hs, hl, hd⟩)).trans
      (next_onDev (commitApply_applies hf hr)), rfl, rfl, ?_⟩
    dsimp only
    exact ⟨h1, h2, h3, h4, h5, h6, h7⟩
  case suppressed =>
    exact ⟨{ s with dev := matchPartner (s.dev.onOd fun x => { x with
      state := .checked, loading := false, loaded := false, compareT := none }) },
      (congrArg Host.Outcome.next (if_pos ⟨hs, hl, hd⟩)).trans (next_of_dev (commitApply_suppressed hf hm)),
      rfl, rfl, rfl, rfl, rfl, rfl, rfl⟩
  case notDue =>
    rintro ⟨hs, hl, hd⟩
    rcases h with h | h | h
    · exact h hs
    · exact Bool.eq_false_iff.mp h hl
    · exact Bool.eq_false_iff.mp h hd
  case late => exact congrArg Host.Outcome.next (if_pos ⟨hs, hm, by simp [hl], ht⟩)
  case inTime => exact congrArg Host.Outcome.next (if_neg fun h => absurd h.2.2.2 (Nat.not_le.mpr ht))
  case notWaiting =>
    rintro ⟨hs, hm, hl, -⟩
    rcases h with h | h | h
    · exact h hs
    · exact h hm
    · simp [h] at hl
  case timeout =>
    refine congrArg Host.Outcome.next ((if_neg (by simp [hl])).trans ?_)
    rcases hs with hs | hs | hs <;> rw [hs]
  case noTimeout =>
    refine congrArg Host.Outcome.next ?_
    rcases h with h | h | h
    · rw [h]
      exact ite_self s
    · rw [h]
      exact ite_self s
    · exact if_pos (by simp [h])
  case announce =>
    obtain ⟨h1, h2⟩ := announceRx_announce u w s.dev
    exact ⟨{ s with dev := announceRx (.announce u w) s.dev }, congrArg Host.Outcome.next (if_pos ⟨hp, hu⟩), rfl, rfl, rfl, h1, h2⟩
  case noLink =>
    rintro ⟨hp, hu⟩
    rcases h with h | h
    · exact Bool.eq_false_iff.mp h hp
    · exact Bool.eq_false_iff.mp h hu
  case compare =>
    have hrun : exec .commitIdentityCompare s = .next (s.onDev (identityCompare T)) := by
      refine congrArg Host.Outcome.next ((if_pos ⟨hp, hq⟩).trans ?_)
      rw [hT]
    intro done
    refine ⟨fun hi => ?_, fun hi ha hr => ?_, fun hi ha hr => ?_, fun hi ha hc => ?_⟩
    · exact hrun.trans (next_onDev (identityCompare_same hi))
    · exact ⟨_, hrun, identityCompare_missed hi ha hr⟩
    · exact hrun.trans (next_onDev (identityCompare_idle hi ha hr))
    · exact ⟨_, hrun, identityCompare_lost hi ha hc⟩
  case noCompare =>
    refine congrArg Host.Outcome.next ?_
    rcases h with h | h | h
    · exact if_neg (by simp [h])
    · exact if_neg (by simp [h])
    · rw [h]
      exact ite_self s
  case store =>
    obtain ⟨h1, h2, h3, h4⟩ := storeWrite_law s.dev
    refine ⟨{ s with dev := storeWrite s.dev }, congrArg Host.Outcome.next (if_pos (by simp [hu])), rfl, rfl, ?_⟩
    dsimp only
    exact ⟨h1, h2, h3, h4⟩
end

section
/-!
PROOFS of the statement about keys, sessions, lock-out and the event queue (chapter 15).
-/

namespace Sys2Proof.Machine

/-- A write that is taken does what its command does, and is answered with its code. -/
theorem hostWrite_runs {q : Path} {lvl : ObjLevel} {inFault : Bool} {f : State → W32 × State} {s t : State} {c : W32}
    (h : s.dev.takes q lvl inFault) (hf : f (s.touched q) = (c, t)) :
    hostWrite q lvl inFault f s = { t with dev := answer q c [] t.dev } := by
  rw [hostWrite_takes h]
  have hf' : f { s with dev := touchPath q s.dev } = (c, t) := hf
  rw [hf']

/-- A command that acts on the device alone. -/
theorem hostWrite_runs_onDev {q : Path} {lvl : ObjLevel} {inFault : Bool} {f : State → W32 × State} {s : State} {c : W32}
    {g : Device → Device} (h : s.dev.takes q lvl inFault) (hf : f (s.touched q) = (c, (s.touched q).onDev g)) :
    hostWrite q lvl inFault f s = s.onDev fun d => answer q c [] (g (touchPath q d)) := hostWrite_runs h hf

theorem hostRead_runs {q : Path} {lvl : ObjLevel} {f : State → W32 × List Byte × State} {s t : State} {c : W32} {l : List Byte}
    (h : s.dev.takes q lvl true) (hf : f (s.touched q) = (c, l, t)) :
    hostRead q lvl f s = { t with dev := answer q c l t.dev } := by
  rw [hostRead_takes h]
  have hf' : f { s with dev := touchPath q s.dev } = (c, l, t) := hf
  rw [hf']

theorem path_of_od {d e : Device} (h : e.od = d.od) (q : Path) : e.path q = d.path q := by
  rw [Device.path, h]
  rfl

theorem touchPath_path (q : Path) (d : Device) : (touchPath q d).path q =
    { d.path q with session := (d.path q).session.map fun ss => { ss with lastUse := d.now } } := Device.onPath_path q _ d

theorem answer_path (q : Path) (c : W32) (l : List Byte) (d : Device) :
    (answer q c l d).path q = { d.path q with last := [(c, l)] } := by
  refine Eq.trans (path_of_od (d := d.onPath q fun x => { x with last := [(c, l)] }) ?_ q) (Device.onPath_path q _ d)
  unfold answer
  simp

theorem recentFailures_touchPath (q : Path) (d : Device) : (touchPath q d).recentFailures q = d.recentFailures q := by
  unfold Device.recentFailures
  rw [touchPath_path]
  rfl

/-! ## Keys (R390, R443) -/

theorem cmdKeyProvision_burns {l : List Byte} {s : State} (hl : l.length = 33) (hk : leNat (l.take 1) ≤ 3)
    (hb : s.dev.comm.burning = none) (hp : s.otp.provisioned.getLsbD (leNat (l.take 1)) = false)
    (hr : s.otp.revoked.getLsbD (leNat (l.take 1)) = false) (hf : s.otp.fusesOk = true) (ho : s.otp.keysOk = true) :
    cmdKeyProvision l s = (Abort.ok, { s with otp := { s.otp with
      keys := s.otp.keys.modify (leNat (l.take 1)) fun x => x ||| BitVec.ofNat 256 (leNat (l.drop 1))
      provisioned := s.otp.provisioned ||| BitVec.ofNat 4 (2 ^ leNat (l.take 1)) } }) :=
  (if_neg (not_not.mpr hl)).trans ((if_neg (Nat.not_lt.mpr hk)).trans ((if_neg (by simp [hb])).trans
    ((if_neg (by simp only [hp, hr]; decide)).trans (if_pos (by simp [hf, ho])))))

theorem cmdKeyProvision_used {l : List Byte} {s : State} (hl : l.length = 33) (hk : leNat (l.take 1) ≤ 3)
    (hb : s.dev.comm.burning = none)
    (hu : s.otp.provisioned.getLsbD (leNat (l.take 1)) = true ∨ s.otp.revoked.getLsbD (leNat (l.take 1)) = true) :
    cmdKeyProvision l s = (Abort.state, s) :=
  (if_neg (not_not.mpr hl)).trans ((if_neg (Nat.not_lt.mpr hk)).trans ((if_neg (by simp [hb])).trans
    (if_pos (Bool.or_eq_true_iff.mpr hu))))

theorem cmdKeyRevoke_burns {k : Nat} {s : State} (hk : k ≤ 3) (hb : s.dev.comm.burning = none) (hf : s.otp.fusesOk = true)
    (ho : s.otp.keysOk = true) : cmdKeyRevoke k s = (Abort.ok, { s with otp := { s.otp with
      keys := s.otp.keys.modify k fun _ => BitVec.allOnes 256, revoked := s.otp.revoked ||| BitVec.ofNat 4 (2 ^ k) } }) :=
  (if_neg (Nat.not_lt.mpr hk)).trans ((if_neg (by simp [hb])).trans (if_pos (by simp [hf, ho])))

/-- A store that fails the check before a burn takes no burn (R445). -/
theorem cmdKeyRevoke_refused {k : Nat} {s : State} (hk : k ≤ 3) (hb : s.dev.comm.burning = none)
    (h : s.otp.fusesOk = false ∨ s.otp.keysOk = false) :
    cmdKeyRevoke k s = (Abort.state, s.onDev (raise .otpIntegrity .module 4)) :=
  (if_neg (Nat.not_lt.mpr hk)).trans ((if_neg (by simp [hb])).trans (if_neg (by rcases h with h | h <;> simp [h])))

/-! ## Openings and lock-out (R390, R391) -/

section
variable {q : Path} {l : List Byte} {s : State} (hl : l.length = 18) (hk : leNat (l.take 1) ≤ 3)
  (h1 : 1 ≤ leNat ((l.drop 1).take 1)) (h2 : leNat ((l.drop 1).take 1) ≤ 2)
include hl hk h1 h2

theorem cmdSessOpen_away (h : q = .canc ∨ (s.dev.path q).lockedOut = true) : cmdSessOpen q l s = (Abort.access, s) :=
  (if_neg (not_not.mpr hl)).trans ((if_neg (by omega)).trans (if_pos h))

variable (h : ¬ (q = .canc ∨ (s.dev.path q).lockedOut = true))
include h

theorem cmdSessOpen_fails (hm : s.mayOpen (leNat (l.take 1)) (leNat ((l.drop 1).take 1)) = false) :
    cmdSessOpen q l s = ((openFails q s.dev).1, { s with dev := (openFails q s.dev).2 }) :=
  (if_neg (not_not.mpr hl)).trans ((if_neg (by omega)).trans ((if_neg h).trans (if_pos (by rw [hm]; rfl))))

/-- A challenge is issued for the slot and the level asked for (R390, step 1). -/
theorem cmdSessOpen_issues (hm : s.mayOpen (leNat (l.take 1)) (leNat ((l.drop 1).take 1)) = true) : ∃ c : Challenge,
    cmdSessOpen q l s = (Abort.ok, s.onDev fun d => d.draw.draw.onPath q fun x => { x with challenge := some c })
      ∧ c.slot = leNat (l.take 1) ∧ c.level = leNat ((l.drop 1).take 1) ∧ c.nh = l.drop 2 ∧ c.handle ≠ 0
      ∧ c.nm.length = 16 ∧ c.time = s.dev.now := by
  refine ⟨_, (if_neg (not_not.mpr hl)).trans ((if_neg (by omega)).trans ((if_neg h).trans (if_neg (by rw [hm]; decide)))),
    rfl, rfl, rfl, fun h0 => ?_, padTo_length 16 _, rfl⟩
  have hz : (1 + Config.freeNat (s.dev.fresh + 1) % 4294967295) % 2 ^ 32 = 0 := congrArg BitVec.toNat h0
  omega

end

/-- The device with the failure of an opening noted, before the lock-out is judged. -/
def openingFailed (q : Path) (d : Device) : Device :=
  d.onPath q fun x => { x with challenge := none, failures := d.recentFailures q ++ [d.now] }

theorem openFails_eq (q : Path) (d : Device) : openFails q d = (Abort.access, lockOut q (openingFailed q d)) := rfl

theorem openingFailed_touchPath (q : Path) (d : Device) : openingFailed q (touchPath q d) =
    (touchPath q d).onPath q fun x => { x with challenge := none, failures := d.recentFailures q ++ [d.now] } := by
  unfold openingFailed
  rw [recentFailures_touchPath]
  rfl

/-- A lock-out leaves the session and the failures of its path, and ends its challenge. -/
theorem lockOut_path (q : Path) (d : Device) : ((lockOut q d).path q).session = (d.path q).session
    ∧ ((lockOut q d).path q).failures = (d.path q).failures
    ∧ ((d.path q).challenge = none → ((lockOut q d).path q).challenge = none) := by
  unfold lockOut
  split
  · rw [path_of_od (raise_frame ..).2.2.2.2.2.1, Device.onPath_path]
    exact ⟨rfl, rfl, fun _ => rfl⟩
  · exact ⟨rfl, rfl, id⟩

/-- Three failures within 60 s lock the path out and report it (R391). -/
theorem lockOut_law {q : Path} {d : Device} (h : 3 ≤ (d.recentFailures q).length ∨ d.forced 0x0F02 q.num = true) :
    (lockOut q d).ctl = d.ctl ∧ ((lockOut q d).path q).lockedOut = true ∧ ((lockOut q d).path q).lockedAt = d.now
      ∧ ((lockOut q d).path q).challenge = none ∧ (lockOut q d).hasFault .sessLockout .module 0 := by
  have he : lockOut q d = raise .sessLockout .module 0 (d.onPath q fun x => { x with
    lockedOut := true, lockedAt := d.now, challenge := none }) := if_pos h
  rw [he, path_of_od (raise_frame ..).2.2.2.2.2.1, Device.onPath_path]
  exact ⟨(raise_low_frame _ _ Nat.zero_lt_two _).2.1, rfl, rfl, rfl, raise_hasFault _ _ _ _ (by decide)⟩

theorem lockOut_none {q : Path} {d : Device} (h : (d.recentFailures q).length < 3) (hf : d.forced 0x0F02 q.num = false) :
    lockOut q d = d := if_neg (by rintro (h' | h') <;> [omega; simp [hf] at h'])

/-- The end of the last lock-out clears the fault (R391). -/
theorem lockoutEnd_law {q : Path} {d : Device} (h : ∀ e ∈ d.od.paths, e.2.lockedOut = true → e.1 = q) :
    (lockoutEnd q d).ctl = d.ctl ∧ ((lockoutEnd q d).path q).lockedOut = false ∧ ((lockoutEnd q d).path q).failures = []
      ∧ (lockoutEnd q d).activeAt .sessLockout .module = false := by
  unfold lockoutEnd
  extract_lets x
  have hx : x.ctl = d.ctl ∧ x.path q = { d.path q with lockedOut := false, failures := [] } :=
    ⟨rfl, Device.onPath_path q _ d⟩
  have hno : ¬ (x.od.paths.any fun e => e.2.lockedOut) = true := by
    intro hany
    obtain ⟨e, he, hl⟩ := List.any_eq_true.mp hany
    simp only [x, Device.onPath] at he
    by_cases hq : (d.od.paths.any fun e => e.1 == q) = true
    · rw [if_pos hq] at he
      obtain ⟨e', he', rfl⟩ := List.mem_map.mp he
      split at hl
      · cases hl
      · next hne => exact hne (beq_iff_eq.mpr (h e' he' hl))
    · rw [if_neg hq] at he
      rcases List.mem_append.mp he with he | he
      · exact hq (List.any_eq_true.mpr ⟨e, he, beq_iff_eq.mpr (h e he hl)⟩)
      · cases List.mem_singleton.mp he
        cases hl
  clear_value x
  rw [if_neg hno]
  refine ⟨(clearFault_frame ..).1.trans hx.1, ?_, ?_, clearFault_activeAt ..⟩
  · rw [path_of_od (d := x) (by simp), hx.2]
  · rw [path_of_od (d := x) (by simp), hx.2]

/-! ## Sessions (R390, R392) -/

theorem cmdSessProof_opens {q : Path} {l : List Byte} {c : Challenge} {s : State} (hl : l.length = 32)
    (hc : (s.dev.path q).challenge = some c) (hm : s.mayOpen c.slot c.level = true)
    (hp : l = c.ph (s.otp.keyBytes c.slot) (Cfg.nodeNumber s.dev.cfg)) :
    cmdSessProof q l s = (Abort.ok, s.onDev (openSession q c (s.otp.keyBytes c.slot))) := by
  unfold cmdSessProof
  rw [if_neg (not_not.mpr hl), hc]
  exact if_pos (by simp [hm, ← hp])

theorem cmdSessProof_fails {q : Path} {l : List Byte} {c : Challenge} {s : State} (hl : l.length = 32)
    (hc : (s.dev.path q).challenge = some c) (hp : l ≠ c.ph (s.otp.keyBytes c.slot) (Cfg.nodeNumber s.dev.cfg)) :
    cmdSessProof q l s = (Abort.access, { s with dev := lockOut q (openingFailed q s.dev) }) := by
  unfold cmdSessProof
  rw [if_neg (not_not.mpr hl), hc]
  exact if_neg (by simp [hp])

theorem openSession_law (q : Path) (c : Challenge) (key : List Byte) (d : Device) : (openSession q c key d).ctl = d.ctl
    ∧ ((openSession q c key d).path q).session = some
      { level := c.level, slot := c.slot, handle := c.handle, key := c.sk key, lastUse := d.now }
    ∧ ((openSession q c key d).path q).challenge = none := by
  unfold openSession
  extract_lets node
  rw [Device.onPath_path]
  exact ⟨rfl, rfl, rfl⟩

/-- A closed session withdraws the injections its path armed, and no other (R392, R429). -/
theorem closeSession_inj (q : Path) (d : Device) : (∀ e ∈ (closeSession q d).inj.active, e.path ≠ q)
    ∧ ∀ e ∈ d.inj.active, e.path ≠ q → e ∈ (closeSession q d).inj.active := by
  have he : (closeSession q d).inj.active = d.inj.active.filter fun i => i.path != q := rfl
  rw [he]
  exact ⟨fun e h => bne_iff_ne.mp (List.mem_filter.mp h).2, fun e h hq => List.mem_filter.mpr ⟨h, bne_iff_ne.mpr hq⟩⟩

/-! ## Events (R394) -/

theorem popEvent_cons {e : Event} {rest : List Event} {s : State} (h : s.dev.faults.events = e :: rest) : popEvent s =
    (Abort.ok, e.bytes, s.onDev fun d => { d with faults := { d.faults with
      events := rest, attnHeld := d.faults.attnHeld && !rest.isEmpty } }) := by
  unfold popEvent
  rw [h]

theorem popEvent_nil {s : State} (h : s.dev.faults.events = []) : popEvent s = (Abort.noData, [], s) := by
  unfold popEvent
  rw [h]

theorem pushEvent_room {e : Event} {d : Device} (h : d.faults.events.length < 64) : pushEvent e d =
    { d with faults := { d.faults with
      events := d.faults.events ++ [{ e with lostBefore := d.faults.lostFlag }], lostFlag := false } } := if_pos h

theorem pushEvent_full {e : Event} {d : Device} (h : 64 ≤ d.faults.events.length) : pushEvent e d =
    { d with faults := { d.faults with lost := addWrap 32 d.faults.lost 1, lostFlag := true } } := if_neg (Nat.not_lt.mpr h)

theorem Event.bytes_length (e : Event) : e.bytes.length = 16 := by
  simp only [Event.bytes, List.length_append, leBytes_length]

end Sys2Proof.Machine

/-! ## The statement -/

open Sys2Proof Sys2Proof.Machine

/-- Settles O50: keys are burned into free slots of a good store, an opening goes from challenge to proof or counts as a failure,
sessions and lock-outs end, and events leave in order. -/
theorem sessionsAndEvents : Obligations.SessionsAndEvents := by
  unfold Obligations.SessionsAndEvents
  refine ⟨fun q l s h hl hk hb hp hr hf ho => ?provision, fun q l s h hl hk hb hu => ?used, fun q k s h hk hb hf ho => ?revoke,
    fun q k s h hk hb ho => ?revokeRefused, fun q l s h hl hk h1 h2 hq hlo hm => ?opening,
    fun q l s h hl hk h1 h2 ha => ?away, fun q l s h hl hk h1 h2 hq hlo hm => ?openingFails,
    fun q l c s h hl hc hm hp => ?proof, fun q l c s h hl hc hp hs => ?badProof,
    fun q s h => congrArg Host.Outcome.next (hostWrite_devCmd h rfl),
    fun q d => ⟨closeSession_path q d, closeSession_inj q d⟩, fun q late c s hc => ⟨fun ht => ?lapse, fun ht => ?noLapse⟩,
    fun q late s hc => congrArg Host.Outcome.next (if_neg (by simp [hc, lasted])),
    fun q late x s hx => ⟨fun ht => ?idle, fun ht => ?inUse⟩,
    fun q late s hx => congrArg Host.Outcome.next (if_neg (by simp [Device.sessionOver, hx, lasted])),
    fun q s ho hlo hf => ?lockout, fun q s h => ?noLockout, fun q s hlo ht hall => ?lockoutEnd,
    fun q s h => congrArg Host.Outcome.next (if_neg ?stillOut), fun q e rest s h he => ?pop, fun q s h he => ?popNone,
    fun e d => ⟨fun hr => ?push, fun hf => ?pushFull⟩, Event.bytes_length⟩
  case provision =>
    exact ⟨_, congrArg Host.Outcome.next (hostWrite_runs h (cmdKeyProvision_burns (s := s.touched q) hl hk hb hp hr hf ho)),
      rfl, rfl, rfl⟩
  case used =>
    exact congrArg Host.Outcome.next (hostWrite_runs h (cmdKeyProvision_used (s := s.touched q) hl hk hb hu))
  case revoke =>
    exact ⟨_, congrArg Host.Outcome.next (hostWrite_runs h (cmdKeyRevoke_burns (s := s.touched q) hk hb hf ho)), rfl, rfl, rfl⟩
  case revokeRefused =>
    exact congrArg Host.Outcome.next (hostWrite_runs h (cmdKeyRevoke_refused (s := s.touched q) hk hb ho))
  case opening =>
    have hfree : ¬ (q = .canc ∨ ((s.touched q).dev.path q).lockedOut = true) := by
      rw [State.touched, touchPath_path]
      simp [hq, hlo]
    obtain ⟨c, hc, hslot, hlevel, hnh, hhandle, hnm, htime⟩ := cmdSessOpen_issues (s := s.touched q) hl hk h1 h2 hfree hm
    refine ⟨_, c, congrArg Host.Outcome.next (hostWrite_runs_onDev h hc), State.onDev_pending .., State.onDev_otp .., ?_, hslot, hlevel, hnh, hhandle, hnm, htime, ?_⟩
    · rw [State.onDev_dev, answer_path, Device.onPath_path]
    · rw [State.onDev_dev, (answer_frame ..).1, (answer_frame ..).2.1]
      simp
  case away =>
    refine congrArg Host.Outcome.next (hostWrite_runs h (cmdSessOpen_away (s := s.touched q) hl hk h1 h2 ?_))
    rw [State.touched, touchPath_path]
    exact ha
  case openingFails =>
    have hfree : ¬ (q = .canc ∨ ((s.touched q).dev.path q).lockedOut = true) := by
      rw [State.touched, touchPath_path]
      simp [hq, hlo]
    have hrun := cmdSessOpen_fails (s := s.touched q) hl hk h1 h2 hfree hm
    rw [openFails_eq] at hrun
    refine (congrArg Host.Outcome.next (hostWrite_runs h hrun)).trans ?_
    rw [State.touched, openingFailed_touchPath]
    rfl
  case proof =>
    have hc' : ((s.touched q).dev.path q).challenge = some c := by
      rw [State.touched, touchPath_path]
      exact hc
    obtain ⟨hctl, hsession, hchallenge⟩ := openSession_law q c (s.otp.keyBytes c.slot) (touchPath q s.dev)
    have hrun := hostWrite_runs_onDev h (cmdSessProof_opens (s := s.touched q) hl hc' hm hp)
    refine ⟨_, { level := c.level, slot := c.slot, handle := c.handle, key := c.sk (s.otp.keyBytes c.slot)
                 lastUse := s.dev.now }, congrArg Host.Outcome.next hrun, State.onDev_pending .., State.onDev_otp .., ?_⟩
    rw [State.onDev_dev, answer_path, (answer_frame ..).1]
    exact ⟨hsession, rfl, rfl, rfl, rfl, hchallenge, hctl⟩
  case badProof =>
    have hc' : ((s.touched q).dev.path q).challenge = some c := by
      rw [State.touched, touchPath_path]
      exact hc
    obtain ⟨h1, h2, h3⟩ := lockOut_path q (openingFailed q (touchPath q s.dev))
    have hpath : (openingFailed q (touchPath q s.dev)).path q = { (touchPath q s.dev).path q with
        challenge := none, failures := s.dev.recentFailures q ++ [s.dev.now] } := by
      rw [openingFailed_touchPath, Device.onPath_path]
    refine ⟨_, congrArg Host.Outcome.next (hostWrite_runs h (cmdSessProof_fails (s := s.touched q) hl hc' hp)), ?_⟩
    rw [answer_path]
    refine ⟨h1.trans ?_, h3 (congrArg (·.challenge) hpath), h2.trans (congrArg (·.failures) hpath), rfl⟩
    rw [hpath, touchPath_path, hs]
    rfl
  case lapse => exact congrArg Host.Outcome.next (if_pos (lasted_of_le (by rw [hc]; rfl) ht))
  case noLapse =>
    refine congrArg Host.Outcome.next (if_neg ?_)
    rw [hc]
    exact fun h => absurd (of_decide_eq_true h) (Nat.not_le.mpr ht)
  case idle => exact congrArg Host.Outcome.next (if_pos (lasted_of_le (by rw [hx]; rfl) ht))
  case inUse =>
    refine congrArg Host.Outcome.next (if_neg ?_)
    unfold Device.sessionOver
    rw [hx]
    exact fun h => absurd (of_decide_eq_true h) (Nat.not_le.mpr ht)
  case lockout =>
    obtain ⟨hctl, hout, hat, hch, hfault⟩ := lockOut_law hf
    refine ⟨{ s with dev := lockOut q s.dev }, congrArg Host.Outcome.next (if_neg (by simp [ho, hlo])), rfl, rfl, ?_⟩
    dsimp only
    exact ⟨hctl, hout, hat, hch, hfault⟩
  case noLockout =>
    refine congrArg Host.Outcome.next ?_
    rcases h with h | h | ⟨h, hf⟩
    · exact if_pos (.inl h)
    · exact if_pos (.inr h)
    · rw [State.onDev_eq_self (lockOut_none h hf), ite_self]
  case lockoutEnd =>
    obtain ⟨hctl, hout, hfail, hfault⟩ := lockoutEnd_law hall
    refine ⟨{ s with dev := lockoutEnd q s.dev }, congrArg Host.Outcome.next (if_pos ⟨hlo, ht⟩), rfl, rfl, ?_⟩
    dsimp only
    exact ⟨hctl, hout, hfail, hfault⟩
  case stillOut =>
    rintro ⟨hlo, ht⟩
    rcases h with h | h
    · exact Bool.eq_false_iff.mp h hlo
    · exact absurd ht (Nat.not_le.mpr h)
  case pop =>
    exact congrArg Host.Outcome.next (hostRead_runs h (popEvent_cons (s := s.touched q) he))
  case popNone =>
    exact congrArg Host.Outcome.next (hostRead_runs h (popEvent_nil (s := s.touched q) he))
  case push =>
    rw [pushEvent_room hr]
    exact ⟨rfl, rfl, rfl⟩
  case pushFull =>
    rw [pushEvent_full hf]
    exact ⟨rfl, rfl, rfl⟩
end

section
/-!
PROOFS of the statement about crossings, arbitration, the timebase and error injection (chapter 16).
-/

namespace Sys2Proof.Machine

/-! ## Crossings (R408 to R413) -/

theorem Device.onXing_xing {x : Nat} (f : Crossing → Crossing) {d : Device} (h : x < d.cross.xing.length) :
    (d.onXing x f).xing x = f (d.xing x) := by
  simp [Device.xing, Device.onXing, List.getD_eq_getElem?_getD, h]

theorem Device.onXing_xing_ne {x y : Nat} (f : Crossing → Crossing) (d : Device) (h : y ≠ x) :
    (d.onXing x f).xing y = d.xing y := by
  simp [Device.xing, Device.onXing, List.getD_eq_getElem?_getD, h.symm]

/-- Words that stand in a crossing leave its phase, also where there is no such crossing. -/
theorem xingHold_phase (x : Nat) (down up : List Nat) (d : Device) : ((xingHold x down up d).xing x).phase = (d.xing x).phase := by
  by_cases h : x < d.cross.xing.length
  · exact congrArg (·.phase) (Device.onXing_xing _ h)
  · have hl (e : Device) (he : ¬ x < e.cross.xing.length) : e.xing x = {} := by
      simp [Device.xing, List.getD_eq_getElem?_getD, List.getElem?_eq_none (Nat.not_lt.mp he)]
    rw [hl d h, hl _ (by simpa [xingHold, Device.onXing] using h)]

section
variable {x : Nat} {edge : Bool} {d : Device}

theorem xingTimeout_idle (h : (d.xing x).phase = .timedOut ∨ (d.xing x).phase = .holding) : xingTimeout x edge d = d := by
  unfold xingTimeout
  rcases h with h | h <;> rw [h]

variable (h1 : (d.xing x).phase ≠ .timedOut) (h2 : (d.xing x).phase ≠ .holding)
include h1 h2

theorem xingTimeout_fails (hs : d.ctl.state.inService = true) : xingTimeout x edge d = xingFail x edge d := by
  unfold xingTimeout
  split
  · next h => exact absurd h h1
  · next h => exact absurd h h2
  · exact if_pos hs

theorem xingTimeout_holds (hs : d.ctl.state.inService = false) :
    xingTimeout x edge d = d.onXing x fun y => { y with phase := .holding, since := some d.now } := by
  unfold xingTimeout
  split
  · next h => exact absurd h h1
  · next h => exact absurd h h2
  · exact if_neg (by simp [hs])

end

/-- Behind a crossing of a CAN port: the port is off and its block absent (R411). -/
theorem xingEffect_can {x : Nat} (d : Device) (h : x = 1 ∨ x = 2 ∨ x = 3) : xingEffect x d =
    raise .xingTimeout (canScope (canPortOf (x - 1))) 0 (bumpEpoch (x - 1) true (dropTransfers (onCanPort (canPortOf (x - 1)))
      (d.onCan (canPortOf (x - 1)) fun y => { y with conf := 3 }))) := by
  rcases h with rfl | rfl | rfl <;> rfl

theorem xingEffect_can_law {x : Nat} (d : Device) (h : x = 1 ∨ x = 2 ∨ x = 3) : (xingEffect x d).ctl = d.ctl
    ∧ ((xingEffect x d).canPort (canPortOf (x - 1))).conf = 3
    ∧ (xingEffect x d).hasFault .xingTimeout (canScope (canPortOf (x - 1))) 0 := by
  rw [xingEffect_can d h]
  generalize canPortOf (x - 1) = p
  refine ⟨?_, ?_, raise_hasFault _ _ _ _ (by decide)⟩
  · rw [(raise_low_frame .xingTimeout (canScope p) Nat.zero_lt_two _).2.1]
    exact Device.onCan_ctl ..
  · rw [raise_low_canPort _ _ Nat.zero_lt_two]
    exact congrArg (·.conf) (Device.onCan_same ..)

theorem xingEffect_guy_law (d : Device) : (xingEffect 5 d).net.guy.up = false ∧ (xingEffect 5 d).net.guy.out = []
    ∧ (xingEffect 5 d).hasFault .xingTimeout (.net .eth2) 0 := by
  have hnet := raise_low_noQueues .xingTimeout (.net .eth2) Nat.zero_lt_two (bumpEpoch 4 true (d.onGuy fun g => { g with
    up := false, absent := g.absent + g.out.length, out := [], dorid := none }))
  exact ⟨congrArg (·.guy.up) hnet, congrArg (·.guy.out) hnet, raise_hasFault _ _ _ _ (by decide)⟩

theorem xingEffect_eth_law (d : Device) : (xingEffect 4 d).net.eth1Up = false
    ∧ (xingEffect 4 d).hasFault .eth1Link (.net .eth1) 0 := by
  obtain ⟨-, hup, hfault, -⟩ := eth1Link_law (raise .xingTimeout (.net .eth1) 0 (bumpEpoch 3 true (dropTransfers isHokuith d)))
  exact ⟨hup, hfault⟩

/-- Behind a crossing of the modulators: the modulator has failed (R176). -/
theorem xingEffect_mod {x : Nat} {d : Device} (h : 6 ≤ x) (hm : (d.mchan (x - 6)).modFail = false) :
    xingEffect x d = modFail (x - 6) d :=
  match x, h with
  | _ + 6, _ => if_neg (by simpa using hm)

theorem modFail_hasFault (m : Nat) (d : Device) : ∃ r : Nat, (modFail m d).hasFault .modFail (.channel m) r :=
  ⟨_, raiseActs_hasFault _ _ _ _ _ (by decide)⟩

/-- A resync completes for the block behind a crossing: what was held goes on, what is of an earlier epoch is discarded (R410). -/
theorem crossingResync_eq {x b : Nat} (d : Device) (h : xingBlock x = some b) : crossingResync x d =
    let u := fun n => discardStale b n
      (d.onXing x fun y => { y with phase := .running, since := none, toClock := [], toFabric := [] })
    match (d.xing x).phase with
    | .timedOut => xingRestart x (u ((d.xing x).toClock.length + (d.xing x).toFabric.length))
    | .holding => u 0
    | _ => xingReset x (u ((d.xing x).toClock.length + (d.xing x).toFabric.length)) := by
  unfold crossingResync
  rw [h]
  cases hp : (d.xing x).phase <;> simp [hp]

theorem crossingResync_timebase (d : Device) : crossingResync 0 d =
    d.onXing 0 fun y => { y with phase := .running, since := none, toClock := [], toFabric := [] } := by
  unfold crossingResync
  cases hp : (d.xing 0).phase <;> simp [hp, xingBlock, xingRestart, xingReset]

/-! ## The timebase (R414) -/

theorem applySto_frame (p : PortId) (d : Device) : (applySto p d).cross = d.cross ∧ (applySto p d).bist = d.bist := by
  have hline : (lineAssert p d).cross = d.cross ∧ (lineAssert p d).bist = d.bist := by
    obtain ⟨-, -, -, -, -, -, hcross, hbist, -⟩ := raise_frame .safetySto (.port p) 3 (stoPresets p d)
    rw [lineAssert_eq, hcross, hbist]
    unfold stoPresets
    exact ⟨Device.each_keeps (·.cross) (fun i => Device.onIsland i (Island.enterPreset p.stage d.now)) (fun _ _ => rfl) _ _,
      Device.each_keeps (·.bist) (fun i => Device.onIsland i (Island.enterPreset p.stage d.now)) (fun _ _ => rfl) _ _⟩
  have hsafe (f : PortSafety → PortSafety) (e : Device) : (e.onPsafe p f).cross = e.cross ∧ (e.onPsafe p f).bist = e.bist := by
    cases p <;> exact ⟨rfl, rfl⟩
  unfold applySto
  extract_lets x y
  have hy : y.cross = d.cross ∧ y.bist = d.bist := by
    simp only [y]
    split
    · exact hline
    · exact ⟨rfl, rfl⟩
  clear_value y
  split
  · exact ⟨(hsafe _ y).1.trans hy.1, (hsafe _ y).2.trans hy.2⟩
  · split
    · have hrel : (lineRelease p d).cross = d.cross ∧ (lineRelease p d).bist = d.bist := by
        simp [lineRelease, Device.onSafety]
      exact ⟨(hsafe _ _).1.trans hrel.1, (hsafe _ _).2.trans hrel.2⟩
    · exact ⟨rfl, rfl⟩

theorem stoWanted_of_wdog {d : Device} (p : PortId) (h : d.safety.wdogLines = true) : d.stoWanted p = true := by
  simp [Device.stoWanted, h]

/-- The watchdog's lines hold both ports in STO (R414). -/
theorem each_applySto_of_wdog {d : Device} (h : d.safety.wdogLines = true) (p : PortId) :
    ((d.each ports applySto).psafe p).sto = true := by
  have hpa := portOnly_applySto .a d
  have hb := applySto_wanted (stoWanted_of_wdog .b (hpa.lines.1.trans h))
  rw [Device.each_ports]
  cases p with
  | a => exact (congrArg (·.sto) ((portOnly_applySto .b _).other .a (by decide))).trans (applySto_wanted (stoWanted_of_wdog .a h)).sto
  | b => exact hb.sto

theorem each_applySto_lines (d : Device) : (d.each ports applySto).safety.wdogLines = d.safety.wdogLines := by
  rw [Device.each_ports]
  exact (portOnly_applySto .b _).lines.1.trans (portOnly_applySto .a d).lines.1

/-- The timebase stops: the watchdog asserts both lines (R414). -/
theorem timebaseFail_law (d : Device) : (timebaseFail d).cross.timebaseStopped = true
    ∧ (timebaseFail d).safety.wdogLines = true ∧ (∀ p : PortId, ((timebaseFail d).psafe p).sto = true)
    ∧ (timebaseFail d).bist.synthOk = false := by
  unfold timebaseFail
  extract_lets c b x y
  have hy : y.cross.timebaseStopped = true ∧ y.safety.wdogLines = true ∧ y.bist.synthOk = false := ⟨rfl, rfl, rfl⟩
  clear_value y
  obtain ⟨h1, h2, h3⟩ := hy
  have hcross := Device.each_keeps (·.cross) applySto (fun p e => (applySto_frame p e).1) ports y
  have hbist := Device.each_keeps (·.bist) applySto (fun p e => (applySto_frame p e).2) ports y
  exact ⟨(congrArg (·.timebaseStopped) hcross).trans h1, (each_applySto_lines y).trans h2, each_applySto_of_wdog h2,
    (congrArg (·.synthOk) hbist).trans h3⟩

theorem timebaseRuns_law (d : Device) : (timebaseRuns d).hasFault .timebaseFail .module 4
    ∧ (timebaseRuns d).cross.timebaseStopped = false ∧ (timebaseRuns d).cross.runsAgain = d.now := by
  unfold timebaseRuns
  extract_lets x y c
  refine ⟨raise_hasFault _ _ _ _ (by decide), ?_, ?_⟩ <;> rw [(raise_frame ..).2.2.2.2.2.2.1]
  rfl

/-! ## Error injection (R427 to R429) -/

theorem touchPath_named (q : Path) (d : Device) : ((touchPath q d).path q).injPoint = (d.path q).injPoint
    ∧ ((touchPath q d).path q).injArg = (d.path q).injArg ∧ ((touchPath q d).path q).injValue = (d.path q).injValue
    ∧ ((touchPath q d).path q).injDuration = (d.path q).injDuration := by
  rw [touchPath_path]
  exact ⟨rfl, rfl, rfl, rfl⟩

/-- The active injections but the one a path has named. -/
def Device.otherInj (d : Device) (x : PathState) : List Injection :=
  d.inj.active.filter fun i => !(i.point == x.injPoint && i.arg == x.injArg)

/-- The injection a path has named is armed, and what its point does at once (R428, Table 16.6). -/
def injArmed (q : Path) (x : PathState) (d : Device) : Device :=
  let i : Injection := { path := q, point := x.injPoint, arg := x.injArg, value := x.injValue, duration := x.injDuration
                         armedAt := d.now }
  let u := d.onInj fun y => { y with
    active := d.otherInj x ++ [i], point := x.injPoint, hits := 0, refusedS := false, count := addWrap 32 y.count 1 }
  if x.injPoint = 0x1004 then injRestart x.injArg u else if x.injPoint = 0x0D03 then raise .otpBurnFail .module 0 u else u

section
variable {q : Path} {d : Device} (hc : d.ctl.state ≠ .calibrating)
include hc

theorem cmdInjArm_unknown (h : injPoints.contains (d.path q).injPoint = false) : cmdInjArm q d = (Abort.range, d) :=
  (if_neg hc).trans (if_pos (by rw [h]; rfl))

theorem cmdInjArm_refused (h : injPoints.contains (d.path q).injPoint = true)
    (hs : injPointsS.contains (d.path q).injPoint = true) (hr : d.refusesS q = true) :
    cmdInjArm q d = (Abort.access, d.onInj fun y => { y with refusedS := true }) :=
  (if_neg hc).trans ((if_neg (by rw [h]; decide)).trans (if_pos ⟨hs, hr⟩))

variable (h : injPoints.contains (d.path q).injPoint = true)
  (hs : injPointsS.contains (d.path q).injPoint = true → d.refusesS q = false)
include h hs

theorem cmdInjArm_full (hn : 8 ≤ (d.otherInj (d.path q)).length) : cmdInjArm q d = (Abort.busy, d) :=
  (if_neg hc).trans ((if_neg (by rw [h]; decide)).trans
    ((if_neg fun hr => Bool.eq_false_iff.mp (hs hr.1) hr.2).trans (if_pos hn)))

theorem cmdInjArm_arms (hn : (d.otherInj (d.path q)).length < 8) :
    cmdInjArm q d = (Abort.ok, injArmed q (d.path q) d) :=
  (if_neg hc).trans ((if_neg (by rw [h]; decide)).trans
    ((if_neg fun hr => Bool.eq_false_iff.mp (hs hr.1) hr.2).trans (if_neg (Nat.not_le.mpr hn))))

end

/-- What is armed depends on the point, argument, value and duration of the path alone. -/
theorem injArmed_touchPath (q : Path) (d e : Device) : injArmed q ((touchPath q d).path q) e = injArmed q (d.path q) e := by
  obtain ⟨h1, h2, h3, h4⟩ := touchPath_named q d
  simp only [injArmed, Device.otherInj, h1, h2, h3, h4]

theorem otherInj_touchPath (q : Path) (d : Device) : (touchPath q d).otherInj ((touchPath q d).path q) = d.otherInj (d.path q) := by
  obtain ⟨h1, h2, -, -⟩ := touchPath_named q d
  simp only [Device.otherInj, h1, h2]
  rfl

/-! ## Arbitration (R418, R419, Table 16.3) -/

/-- The requesters of one rank, in the order of the requests. -/
theorem mem_ranked {reqs : List (Nat × Nat)} {r n : Nat} :
    n ∈ (reqs.filter fun w => w.1 == r).map Prod.snd ↔ (r, n) ∈ reqs := by
  constructor
  · intro h
    obtain ⟨⟨r', n'⟩, hw, rfl⟩ := List.mem_map.mp h
    obtain ⟨hm, he⟩ := List.mem_filter.mp hw
    rw [← eq_of_beq he]
    exact hm
  · exact fun h => List.mem_map.mpr ⟨(r, n), List.mem_filter.mpr ⟨h, beq_self_eq_true r⟩, rfl⟩

/-- The candidates of a rank: those after the requester it served last, or all where none comes after it. -/
def arbTurn (served : List (Nat × Nat)) (r : Nat) (ns : List Nat) : List Nat :=
  let after := match served.lookup r with
    | some k => ns.filter fun n => decide (k < n)
    | none => []
  if after.isEmpty then ns else after

theorem arbTurn_eq_nil {served : List (Nat × Nat)} {r : Nat} {ns : List Nat} (h : arbTurn served r ns = []) : ns = [] := by
  unfold arbTurn at h
  extract_lets after at h
  split at h
  · exact h
  · next hn => exact absurd (List.isEmpty_iff.mpr h) hn

theorem arbTurn_subset {served : List (Nat × Nat)} {r n : Nat} {ns : List Nat} (h : n ∈ arbTurn served r ns) : n ∈ ns := by
  unfold arbTurn at h
  extract_lets after at h
  have ha : n ∈ after → n ∈ ns := fun hn => by
    simp only [after] at hn
    split at hn
    · exact List.mem_of_mem_filter hn
    · cases hn
  split at h
  · exact h
  · exact ha h

/-- Where a requester after the last one served waits, the turn is with those after it. -/
theorem mem_arbTurn_after {served : List (Nat × Nat)} {r k m : Nat} {ns : List Nat} (hk : served.lookup r = some k) (hm : m ∈ ns)
    (hlt : k < m) (n : Nat) : n ∈ arbTurn served r ns ↔ n ∈ ns ∧ k < n := by
  have hmem : m ∈ ns.filter fun n => decide (k < n) := List.mem_filter.mpr ⟨hm, decide_eq_true hlt⟩
  unfold arbTurn
  rw [hk]
  dsimp only
  rw [if_neg fun he => by simp [List.isEmpty_iff.mp he] at hmem, List.mem_filter, decide_eq_true_eq]

/-- Where none after the last one served waits, the turn is with all. -/
theorem arbTurn_all {served : List (Nat × Nat)} {r : Nat} {ns : List Nat}
    (h : ∀ k m : Nat, served.lookup r = some k → m ∈ ns → m ≤ k) : arbTurn served r ns = ns := by
  unfold arbTurn
  cases hk : served.lookup r with
  | none => rfl
  | some k =>
    have he : (ns.filter fun n => decide (k < n)) = [] :=
      List.filter_eq_nil_iff.mpr fun m hm => by simpa using h k m hk hm
    dsimp only
    rw [he]
    rfl

theorem arbNext_eq (served reqs : List (Nat × Nat)) : arbNext served reqs = match (reqs.map Prod.fst).min? with
    | none => none
    | some r => (arbTurn served r ((reqs.filter fun w => w.1 == r).map Prod.snd)).min?.map fun n => (r, n) := rfl

theorem arbNext_eq_none (served reqs : List (Nat × Nat)) : arbNext served reqs = none ↔ reqs = [] := by
  rw [arbNext_eq]
  cases hr : (reqs.map Prod.fst).min? with
  | none => simpa using hr
  | some r =>
    obtain ⟨⟨r', n⟩, hw, rfl⟩ := List.mem_map.mp (List.min?_eq_some_iff.mp hr).1
    have hne : reqs ≠ [] := List.ne_nil_of_mem hw
    simp only [Option.map_eq_none_iff, List.min?_eq_none_iff, hne, iff_false]
    exact fun h => List.ne_nil_of_mem (mem_ranked.mpr hw) (arbTurn_eq_nil h)

/-- Of the requests that wait, one of the highest rank is served, and of them the least whose turn it is (R419). -/
theorem arbNext_eq_some {served reqs : List (Nat × Nat)} {r n : Nat} (h : arbNext served reqs = some (r, n)) :
    (∀ w ∈ reqs, r ≤ w.1) ∧ n ∈ arbTurn served r ((reqs.filter fun w => w.1 == r).map Prod.snd)
      ∧ ∀ m ∈ arbTurn served r ((reqs.filter fun w => w.1 == r).map Prod.snd), n ≤ m := by
  rw [arbNext_eq] at h
  split at h
  · cases h
  · next r' hr =>
    obtain ⟨n', hn, he⟩ := Option.map_eq_some_iff.mp h
    cases he
    exact ⟨fun w hw => (List.min?_eq_some_iff.mp hr).2 _ (List.mem_map_of_mem hw), List.min?_eq_some_iff.mp hn⟩

theorem arbServed_same (r n : Nat) (served : List (Nat × Nat)) : (arbServed (r, n) served).lookup r = some n := by
  simp [arbServed]

theorem arbServed_ne {r r' n : Nat} (served : List (Nat × Nat)) (h : r' ≠ r) :
    (arbServed (r, n) served).lookup r' = served.lookup r' := by
  unfold arbServed
  rw [lookup_step, if_neg (by simp [h])]
  induction served with
  | nil => rfl
  | cons e t ih =>
    by_cases he : e.1 = r
    · rw [List.filter_cons_of_neg (by simp [he]), ih, lookup_step, if_neg (by simp [he, h])]
    · rw [List.filter_cons_of_pos (by simp [he]), lookup_step, lookup_step, ih]

theorem cryptoAsk_free (w : Nat × Nat) {d : Device} (h : d.cross.crypto.holder = none) : cryptoAsk w d =
    { d with cross := { d.cross with crypto := { d.cross.crypto with
      holder := some w, served := arbServed w d.cross.crypto.served } } } := if_pos (by simp [h])

theorem cryptoAsk_held (w : Nat × Nat) {h : Nat × Nat} {d : Device} (hh : d.cross.crypto.holder = some h) : cryptoAsk w d =
    countRetry 0x10 1 { d with cross := { d.cross with crypto := { d.cross.crypto with
      waiting := d.cross.crypto.waiting ++ [w] } } } := if_neg (by simp [hh])

theorem countRetry_getD (d : Device) : (countRetry 0x10 1 d).cross.retry.getD 15 0 =
    if 15 < d.cross.retry.length then (d.cross.retry.getD 15 0 + 1) % 2 ^ 16 else 0 := by
  have he : (countRetry 0x10 1 d).cross.retry = d.cross.retry.modify 15 fun x => addWrap 16 x 1 := rfl
  rw [he, List.getD_eq_getElem?_getD, List.getElem?_modify_eq]
  split
  · next h =>
    rw [List.getElem?_eq_getElem h, List.getD_eq_getElem _ _ h]
    rfl
  · next h =>
    rw [List.getElem?_eq_none (Nat.not_lt.mp h)]
    rfl

theorem cryptoFree_holder (w : Nat × Nat) {d : Device} (h : d.cross.crypto.holder = some w) :
    (cryptoFree w d).cross.crypto.holder = arbNext d.cross.crypto.served (d.cross.crypto.waiting.filter fun e => e != w) := by
  unfold cryptoFree
  extract_lets c rest
  rw [if_neg (by simp [c, h])]
  split
  · next he => exact he.symm
  · next n he => exact he.symm

/-- The setting write that has its turn goes into the next frame (R54, R419). -/
theorem serve_head {x : Island} {r n : Nat} {v : SettingWrite} {rest : List (Nat × Nat × SettingWrite)} (hl : x.link = 2)
    (hc : x.credits ≠ 0) (hw : x.writes = (r, n, v) :: rest)
    (ha : arbNext x.served (x.writes.map fun w => (w.1, w.2.1)) = some (r, n)) (hr : ∀ w ∈ rest, (w.1, w.2.1) ≠ (r, n)) :
    x.serve = { x.setting v with writes := rest, served := arbServed (r, n) x.served } := by
  unfold Island.serve
  rw [if_neg (by simp [hl, hc]), ha]
  have hfind : x.writes.find? (fun w => w.1 == r && w.2.1 == n) = some (r, n, v) := by
    rw [hw]
    exact List.find?_cons_of_pos (by simp)
  have hfilter : (x.writes.filter fun w => !(w.1 == r && w.2.1 == n)) = rest := by
    rw [hw, List.filter_cons_of_neg (by simp)]
    refine List.filter_eq_self.mpr fun w hwr => ?_
    have hne : ¬ (w.1 = r ∧ w.2.1 = n) := fun h => hr w hwr (Prod.ext h.1 h.2)
    simpa using not_and_or.mp hne
  dsimp only
  rw [hfind, hfilter]

theorem serve_idle {x : Island} (h : x.link ≠ 2 ∨ x.credits = 0 ∨ x.writes = []) : x.serve = x := by
  unfold Island.serve
  by_cases h0 : x.link ≠ 2 ∨ x.credits = 0
  · exact if_pos h0
  · have hw : x.writes = [] := by tauto
    rw [if_neg h0, hw]
    rfl

end Sys2Proof.Machine

/-! ## The statement -/

open Sys2Proof Sys2Proof.Machine

/-- Settles O51: a crossing holds, times out or resyncs by its phase, the timebase stops and runs again, an injection is armed
and withdrawn, and an arbiter serves by rank and turn. -/
theorem crossings : Obligations.Crossings := by
  unfold Obligations.Crossings
  refine ⟨fun x edge down up s hs h1 h2 hx => ?can, fun x edge down up s ho hs h1 h2 => ?holds,
    fun x edge down up s h ho => ?idle, fun x edge down up s hs h1 h2 => ?fails, fun x down up d hx => ?words,
    fun x edge d hx => ?failed, fun x s => ⟨fun hp hl => congrArg Host.Outcome.next (if_pos ⟨hp, hl⟩), fun h => ?notHeld⟩,
    fun x down up b s ho hb => ?resync, fun down up s ho => ?resyncTimebase, fun x edge down up s ho => ?off,
    fun s hs h1 h2 => ?timebase, fun s ho hs hp => ?timebaseHolds, fun s h => ?runs,
    fun s h => congrArg Host.Outcome.next (if_neg (by simp [h])), fun s ha hs => ⟨fun ht => ?lock, fun ht => ?noLock⟩,
    fun s h => congrArg Host.Outcome.next (if_neg ?notLocked), fun q s h hc => ?arm, fun q s h hc => ?withdraw,
    fun q s h hc => ?calibrating, fun k i s hi => ⟨fun ht => ?ends, fun ht => ?lasts⟩, fun k s hk => ?noInj,
    arbNext_eq_none, fun served reqs r n h => ?next, fun r n served => ⟨arbServed_same r n served, fun r' => arbServed_ne served⟩,
    fun w d h => ?askFree, fun w h d hh => ?askHeld, fun w d h => cryptoFree_holder w h,
    fun x r n v rest hl hc hw ha hr => serve_head hl hc hw ha hr, fun x h => serve_idle h⟩
  case can =>
    intro p
    have hrun := xingTimeout_fails (x := x) (edge := edge) (d := xingHold x down up s.dev) (by rwa [xingHold_phase])
      (by rwa [xingHold_phase]) hs
    obtain ⟨hctl, hconf, hfault⟩ := xingEffect_can_law (x := x) ((xingHold x down up s.dev).onXing x fun y => { y with
      phase := .timedOut, timeouts := addSat 15 y.timeouts 1, late := if edge then addSat 15 y.late 1 else y.late
      since := none }) hx
    refine ⟨{ s with dev := xingFail x edge (xingHold x down up s.dev) },
      (congrArg Host.Outcome.next (if_neg fun h => by simp [h, ModState.inService] at hs)).trans (next_of_dev hrun), rfl, rfl, ?_⟩
    dsimp only
    exact ⟨hctl, hconf, hfault⟩
  case holds =>
    refine (congrArg Host.Outcome.next (if_neg ho)).trans (next_onDev ?_)
    exact xingTimeout_holds (by rwa [xingHold_phase]) (by rwa [xingHold_phase]) hs
  case idle =>
    refine (congrArg Host.Outcome.next (if_neg ho)).trans (next_onDev ?_)
    exact xingTimeout_idle (by rwa [xingHold_phase])
  case fails =>
    have hrun := xingTimeout_fails (x := x) (edge := edge) (d := xingHold x down up s.dev) (by rwa [xingHold_phase])
      (by rwa [xingHold_phase]) hs
    refine ⟨_, (congrArg Host.Outcome.next (if_neg fun h => by simp [h, ModState.inService] at hs)).trans (next_onDev hrun), rfl,
      fun hx => ?_, fun hx => ?_, fun hx => ?_, fun hx hm => ?_⟩ <;> rw [State.onDev_dev, xingFail]
    · rw [hx]
      exact (timebaseFail_law _).1
    · rw [hx]
      exact xingEffect_eth_law _
    · rw [hx]
      exact xingEffect_guy_law _
    · rw [xingEffect_mod hx]
      · exact modFail_hasFault _ _
      · exact hm
  case words =>
    intro word
    have he := Device.onXing_xing (fun y => { y with
      toClock := (y.toClock ++ down.map word).take 8, toFabric := (y.toFabric ++ up.map word).take 8 }) hx
    exact ⟨congrArg (·.toClock) he, congrArg (·.toFabric) he, congrArg (·.phase) he,
      fun y hy => Device.onXing_xing_ne _ d hy⟩
  case failed =>
    intro y
    have he := Device.onXing_xing (fun y => { y with
      phase := .timedOut, timeouts := addSat 15 y.timeouts 1, late := if edge then addSat 15 y.late 1 else y.late
      since := none }) hx
    refine ⟨rfl, congrArg (·.phase) he, congrArg (·.timeouts) he, fun hedge => (congrArg (·.late) he).trans ?_⟩
    exact if_pos hedge
  case notHeld =>
    refine congrArg Host.Outcome.next (if_neg ?_)
    rintro ⟨hp, hl⟩
    rcases h with h | h
    · exact h hp
    · exact Bool.eq_false_iff.mp h hl
  case resync =>
    intro h old u
    have hrun : exec (.crossingResync x down up) s = .next { s with dev := crossingResync x h } :=
      congrArg Host.Outcome.next (if_neg ho)
    rw [hrun, crossingResync_eq h hb]
    refine ⟨fun hp => ?_, fun hp => ?_, fun hp => ?_⟩ <;> simp only [hp] <;> rfl
  case resyncTimebase =>
    exact (congrArg Host.Outcome.next (if_neg ho)).trans (next_onDev (crossingResync_timebase _))
  case off =>
    exact ⟨congrArg Host.Outcome.next (if_pos ho), congrArg Host.Outcome.next (if_pos ho), congrArg Host.Outcome.next (if_pos ho)⟩
  case timebase =>
    obtain ⟨hstop, hlines, hsto, hsynth⟩ := timebaseFail_law (s.dev.onXing 0 fun y => { y with
      phase := .timedOut, timeouts := addSat 15 y.timeouts 1, late := y.late, since := none })
    refine ⟨{ s with dev := xingFail 0 false s.dev },
      (congrArg Host.Outcome.next (if_neg fun h => by simp [h, ModState.inService] at hs)).trans
        (next_of_dev (xingTimeout_fails h1 h2 hs)), rfl, rfl, ?_⟩
    dsimp only
    exact ⟨hstop, hlines, hsto, hsynth⟩
  case timebaseHolds =>
    exact (congrArg Host.Outcome.next (if_neg ho)).trans
      (next_onDev (xingTimeout_holds (by simp [hp]) (by simp [hp]) hs))
  case runs =>
    obtain ⟨hfault, hstop, hagain⟩ := timebaseRuns_law s.dev
    refine ⟨{ s with dev := timebaseRuns s.dev }, congrArg Host.Outcome.next (if_pos h), rfl, rfl, ?_⟩
    dsimp only
    exact ⟨hfault, hstop, hagain⟩
  case lock => exact congrArg Host.Outcome.next (if_pos ⟨ha, by simp [hs], ht⟩)
  case noLock => exact congrArg Host.Outcome.next (if_neg fun h => absurd h.2.2 (Nat.not_le.mpr ht))
  case notLocked =>
    rintro ⟨ha, hs, -⟩
    rcases h with h | h
    · exact Bool.eq_false_iff.mp h ha
    · simp [h] at hs
  case arm =>
    intro x rest
    obtain ⟨hp, -, -, -⟩ := touchPath_named q s.dev
    have hc' : (touchPath q s.dev).ctl.state ≠ .calibrating := hc
    refine ⟨fun hk => ?_, fun hk hS hr => ?_, fun hk hS hn => ?_, fun hk hS hn => ?_⟩
    · exact congrArg Host.Outcome.next (hostWrite_devCmd_refused h (cmdInjArm_unknown hc' (by rwa [hp])))
    · exact congrArg Host.Outcome.next (hostWrite_devCmd h (g := fun d => d.onInj fun y => { y with refusedS := true })
        (cmdInjArm_refused hc' (by rwa [hp]) (by rwa [hp]) hr))
    · exact congrArg Host.Outcome.next (hostWrite_devCmd_refused h
        (cmdInjArm_full hc' (by rwa [hp]) (by rw [hp]; exact hS) (by rw [otherInj_touchPath]; exact hn)))
    · have harm := cmdInjArm_arms (q := q) hc' (by rwa [hp]) (by rw [hp]; exact hS) (by rw [otherInj_touchPath]; exact hn)
      rw [injArmed_touchPath] at harm
      refine (congrArg Host.Outcome.next (hostWrite_devCmd h (g := injArmed q x) harm)).trans (next_onDev ?_)
      have hrest : (touchPath q s.dev).otherInj x = rest := rfl
      unfold injArmed
      rw [hrest]
      rfl
  case withdraw =>
    have hc' : (touchPath q s.dev).ctl.state ≠ .calibrating := hc
    obtain ⟨hp, ha, -, -⟩ := touchPath_named q s.dev
    have hone : cmdInjWithdraw q (touchPath q s.dev) = (Abort.ok, (touchPath q s.dev).onInj fun y => { y with
        active := y.active.filter fun i => !(i.point == (s.dev.path q).injPoint && i.arg == (s.dev.path q).injArg) }) := by
      rw [← hp, ← ha]
      exact if_neg hc'
    exact ⟨congrArg Host.Outcome.next (hostWrite_devCmd h (g := fun d => d.onInj fun y => { y with
        active := y.active.filter fun i => !(i.point == (s.dev.path q).injPoint && i.arg == (s.dev.path q).injArg) }) hone),
      congrArg Host.Outcome.next (hostWrite_devCmd h (g := fun d => d.onInj fun y => { y with active := [] }) (if_neg hc'))⟩
  case calibrating =>
    have hc' : (touchPath q s.dev).ctl.state = .calibrating := hc
    exact ⟨congrArg Host.Outcome.next (hostWrite_devCmd_refused h (if_pos hc')),
      congrArg Host.Outcome.next (hostWrite_devCmd_refused h (if_pos hc')),
      congrArg Host.Outcome.next (hostWrite_devCmd_refused h (if_pos hc'))⟩
  case ends =>
    refine congrArg Host.Outcome.next ?_
    rw [hi]
    exact if_pos ht
  case lasts =>
    refine congrArg Host.Outcome.next ?_
    rw [hi]
    exact if_neg (Nat.not_le.mpr ht)
  case noInj =>
    refine congrArg Host.Outcome.next ?_
    rw [List.getElem?_eq_none hk]
  case next =>
    obtain ⟨hr, hn, hmin⟩ := arbNext_eq_some h
    refine ⟨mem_ranked.mp (arbTurn_subset hn), hr, fun k m hk hm hlt => ?_, fun hall m hm => hmin m ?_⟩
    · have hturn := mem_arbTurn_after hk (mem_ranked.mpr hm) hlt
      exact ⟨((hturn n).mp hn).2, hmin m ((hturn m).mpr ⟨mem_ranked.mpr hm, hlt⟩)⟩
    · rw [arbTurn_all fun k m hk hm => hall k m hk (mem_ranked.mp hm)]
      exact mem_ranked.mpr hm
  case askFree =>
    rw [cryptoAsk_free w h]
    exact ⟨rfl, rfl⟩
  case askHeld =>
    rw [cryptoAsk_held w hh]
    exact ⟨hh, rfl, countRetry_getD _⟩
end

section
/-!
PROOFS of the passes of self-test and their slices (R421 to R426).
-/

namespace Sys2Proof.Machine

/-! ## The start of a pass (R425) -/

/-- A pass starts with no slice done; where a condition fails it starts deferred, counted, with its causes. -/
theorem bistPassStart_law (d : Device) : bistPassStart d = { d with bist := (bistPassStart d).bist }
    ∧ (bistPassStart d).bist.progress = 0 ∧ (bistPassStart d).bist.done = []
    ∧ (bistPassStart d).bist.passStart = some d.now
    ∧ (d.bistReady → (bistPassStart d).bist.passState = 1 ∧ (bistPassStart d).bist.deferCount = d.bist.deferCount)
    ∧ (d.bistReady = false → (bistPassStart d).bist.passState = 3
      ∧ (bistPassStart d).bist.deferCount = addWrap 32 d.bist.deferCount 1
      ∧ ((bistPassStart d).bist.deferCore ↔ d.ctl.coreSupplyOk = false)
      ∧ ((bistPassStart d).bist.deferClock ↔ d.clockGood = false)
      ∧ ((bistPassStart d).bist.deferLogic ↔ d.logicGood = false)) := by
  unfold bistPassStart
  extract_lets x
  have hready : x.bistReady = d.bistReady := rfl
  rw [hready]
  split
  · next h => exact ⟨rfl, rfl, rfl, rfl, fun _ => ⟨rfl, rfl⟩, fun h' => absurd (h.symm.trans h') (by decide)⟩
  · next h =>
    refine ⟨rfl, rfl, rfl, rfl, fun h' => absurd h' h, fun _ => ⟨rfl, rfl, ?_, ?_, ?_⟩⟩
    · exact Iff.of_eq (Bool.not_eq_true' _)
    · exact Iff.of_eq (Bool.not_eq_true' _)
    · exact Iff.of_eq (Bool.not_eq_true' _)

theorem passDue_iff (d : Device) : d.passDue ↔ d.bist.passState = 0
    ∧ ∀ u : Nanos, d.bist.passStart = some u → u + ms (Cfg.bistPeriod d.cfg) ≤ d.now := by
  unfold Device.passDue
  cases h : d.bist.passStart <;> simp

theorem bistReady_iff (d : Device) :
    d.bistReady ↔ d.ctl.coreSupplyOk ∧ d.clockGood ∧ d.logicGood ∧ d.forcedAt 0x1003 = false := by
  simp [Device.bistReady, and_assoc]

/-! ## The run of a slice (R421, R425) -/

section
variable {t k : Nat} {f : Device → Device} {s : State}

/-- Outside a pass, and in the states without self-test, no slice runs. -/
theorem bistRun_idle (h : s.dev.ctl.state.selfTests = false ∨ s.dev.bist.passState = 0) : bistRun t k f s = s := by
  unfold bistRun
  obtain h | h := h
  · exact if_neg (by simp [h])
  · have hslice : bistSlice t k f s.dev = s.dev := if_pos (.inl h)
    rw [State.onDev_eq_self hslice, ite_self]

theorem bistRun_deferred (ht : s.dev.ctl.state.selfTests) (hp : s.dev.bist.passState ≠ 0) (hr : s.dev.bistReady = false)
    (hd : s.dev.bist.done = []) : bistRun t k f s = s.onDev bistDefer := by
  refine (if_pos ht).trans (congrArg (fun d => { s with dev := d }) ?_)
  exact (if_neg (by simp [hp, hd])).trans (if_pos (by simp [hr]))

theorem bistRun_ready (ht : s.dev.ctl.state.selfTests) (hp : s.dev.bist.passState ≠ 0) (hr : s.dev.bistReady)
    (hd : s.dev.bist.done.contains (t, k) = false) : bistRun t k f s = { s with dev := bistDone t k (f s.dev) } := by
  refine (if_pos ht).trans (congrArg (fun d => { s with dev := d }) ?_)
  exact (if_neg (by rw [hd]; simp [hp])).trans (if_neg (by simp [hr]))

end

/-! ## The books of a pass -/

/-- A slice carried out that is not the last of its pass adds one to it. -/
theorem bistDone_counts {t k : Nat} {d : Device} (hp : d.bist.passState ≠ 0) (hd : d.bist.done.contains (t, k) = false)
    (hn : d.bist.progress + 1 < passTotal) : bistDone t k d = d.onBist fun x => { x with
      done := x.done ++ [(t, k)], progress := x.progress + 1, deferCore := false, deferClock := false, deferLogic := false
      passState := if x.passState = 3 then 1 else x.passState } := by
  unfold bistDone
  rw [if_neg (by rw [hd]; simp [hp])]
  exact if_neg (Nat.not_le.mpr hn)

theorem bistPassDone_keeps (d : Device) : (bistPassDone d).safety = d.safety
    ∧ (bistPassDone d).bist.guyBar = d.bist.guyBar ∧ (bistPassDone d).ctl = d.ctl := by
  simp [bistPassDone, Device.onBist]

/-- The books of a pass touch neither the safety core nor what a guy-line slice bars. -/
theorem bistDone_keeps (t k : Nat) (d : Device) : (bistDone t k d).safety = d.safety
    ∧ (bistDone t k d).bist.guyBar = d.bist.guyBar := by
  unfold bistDone
  split
  · exact ⟨rfl, rfl⟩
  · extract_lets x
    split
    · exact ⟨(bistPassDone_keeps x).1, (bistPassDone_keeps x).2.1⟩
    · exact ⟨rfl, rfl⟩

/-- The end of a pass ends BIST_OVERDUE alone. -/
theorem bistDone_hasFault {t k : Nat} {g : FaultName} {sc : Scope} {r : Nat} {d : Device} (hg : g ≠ .bistOverdue)
    (h : d.hasFault g sc r) : (bistDone t k d).hasFault g sc r := by
  unfold bistDone
  split
  · exact h
  · extract_lets x
    split
    · exact clearFault_keeps_hasFault _ hg h
    · exact h

/-! ## The verdict of a slice (R426) -/

theorem bistVerdict_fails (t k : Nat) (scope : Nat → Scope) (onFail onClear : Device → Device) (d : Device) :
    bistVerdict t k false scope onFail onClear d = onFail (bistFailed t k d) := if_neg (by simp)

theorem Device.injected_of_injectedAt {d : Device} {p : Nat} (h : d.injectedAt p = []) (k : Nat) : d.injected p k = [] := by
  simp only [Device.injectedAt, List.filter_eq_nil_iff, Bool.and_eq_true] at h
  simp only [Device.injected, List.filter_eq_nil_iff, Bool.and_eq_true]
  exact fun i hi hpk => h i hi ⟨hpk.1.1, hpk.2⟩

theorem bistPassed_of_nil {d : Device} (t k : Nat) (h : d.bist.failing = []) : bistPassed t k d = d := by
  simp only [bistPassed, Device.onBist, h, List.filter_nil]
  rw [← h]

/-- A slice that passes where none is failing ends the fault of its scope. -/
theorem bistVerdict_passes {t k : Nat} {scope : Nat → Scope} {onFail onClear : Device → Device} {d : Device}
    (hf : d.bist.failing = []) (hi : d.injectedAt 0x1002 = []) :
    bistVerdict t k true scope onFail onClear d = onClear d := by
  unfold bistVerdict
  rw [Device.injected_of_injectedAt hi, if_pos (by simp [injPicks]), bistPassed_of_nil _ _ hf]
  exact if_neg (by simp [hf])

theorem clearFault_of_none {d : Device} (f : FaultName) (sc : Scope) (h : d.faults.active = []) : clearFault f sc d = d := by
  have he : d.entry? f sc = none := by
    unfold Device.entry?
    rw [h]
    rfl
  unfold clearFault
  rw [he]

/-- A charge in band leaves the verdict of a GATE slice to the read-back. -/
theorem bistGate_inBand (g : Nat) (pass : Bool) (d : Device) :
    bistGate g true pass d = bistVerdict 6 g pass (fun k => .stage (stageOfChan k))
      (raise .bistGate (.stage (stageOfChan g)) 3) (clearFault .bistGate (.stage (stageOfChan g))) d := rfl

/-! ## A slice of a pass without a failure -/

/-- What a slice that has passed leaves: it is recorded done, nothing fails and no fault is active. -/
def SlicePassed (s : State) (t : State) (e : Nat × Nat) : Prop := t.pending = s.pending ∧ t.otp = s.otp
  ∧ t.dev.bist.done = s.dev.bist.done ++ [e] ∧ t.dev.bist.progress = s.dev.bist.progress + 1 ∧ t.dev.bist.failing = []
  ∧ t.dev.faults.active = []

/-- A pass of self-test runs with no failing slice, no fault and no injected failure, short of its last slice. -/
structure CleanPass (s : State) : Prop where
  tests : s.dev.ctl.state.selfTests
  pass : s.dev.bist.passState ≠ 0
  ready : s.dev.bistReady
  failing : s.dev.bist.failing = []
  progress : s.dev.bist.progress + 1 < passTotal
  faults : s.dev.faults.active = []
  inj : s.dev.injectedAt 0x1002 = []

theorem CleanPass.slice {s : State} (h : CleanPass s) {t k : Nat} {f : Device → Device}
    (hd : s.dev.bist.done.contains (t, k) = false) (hf : f s.dev = s.dev) :
    ∃ u, bistRun t k f s = u ∧ SlicePassed s u (t, k) := by
  rw [bistRun_ready h.tests h.pass h.ready hd, hf, bistDone_counts h.pass hd h.progress]
  exact ⟨_, rfl, rfl, rfl, rfl, rfl, h.failing, h.faults⟩

/-- A slice that passes in a clean pass changes nothing but the books. -/
theorem CleanPass.verdict {s : State} (h : CleanPass s) (t k : Nat) (scope : Nat → Scope) (onFail : Device → Device)
    (f : FaultName) (sc : Scope) : bistVerdict t k true scope onFail (clearFault f sc) s.dev = s.dev :=
  (bistVerdict_passes h.failing h.inj).trans (clearFault_of_none f sc h.faults)

/-- The GUY slice that passes also ends the bar on the pair. -/
theorem CleanPass.guySlice {s : State} (h : CleanPass s) {l : Nat} (hd : s.dev.bist.done.contains (3, l) = false) :
    ∃ u, bistRun 3 l (bistGuy l true) s = u ∧ SlicePassed s u (3, l) := by
  rw [bistRun_ready h.tests h.pass h.ready hd]
  unfold bistGuy
  rw [bistVerdict_passes h.failing h.inj]
  rw [clearFault_of_none (d := s.dev.onBist fun x => { x with guyBar := false }) _ _ h.faults,
    bistDone_counts (d := s.dev.onBist fun x => { x with guyBar := false }) h.pass hd h.progress]
  exact ⟨_, rfl, rfl, rfl, rfl, rfl, h.failing, h.faults⟩

/-! ## A slice that fails (R426, Table 16.7) -/

/-- A pass of self-test runs and takes slices. -/
structure PassRuns (s : State) : Prop where
  tests : s.dev.ctl.state.selfTests
  pass : s.dev.bist.passState ≠ 0
  ready : s.dev.bistReady

/-- The slice that fails leaves its fault active, also where it is the last of its pass. -/
theorem PassRuns.faulty {s : State} (h : PassRuns s) {t k : Nat} {f : Device → Device} {g : FaultName} {sc : Scope} {r : Nat}
    (hg : g ≠ .bistOverdue) (hd : s.dev.bist.done.contains (t, k) = false) (hf : (f s.dev).hasFault g sc r) :
    ∃ u, bistRun t k f s = u ∧ u.pending = s.pending ∧ u.otp = s.otp ∧ u.dev.hasFault g sc r := by
  rw [bistRun_ready h.tests h.pass h.ready hd]
  exact ⟨_, rfl, rfl, rfl, bistDone_hasFault hg hf⟩

/-- The verdict on a failure raises the fault of the slice. -/
theorem bistVerdict_hasFault {t k : Nat} {scope : Nat → Scope} {onFail onClear : Device → Device} {g : FaultName}
    {sc : Scope} {r : Nat} (hf : ∀ d, (onFail d).hasFault g sc r) (d : Device) :
    (bistVerdict t k false scope onFail onClear d).hasFault g sc r := by
  rw [bistVerdict_fails]
  exact hf _

theorem bistWarp_hasFault (i : Nat) (d : Device) : (bistWarp i false d).hasFault .bistWarp (linkScope i) 3 :=
  bistVerdict_hasFault (fun _ => raise_hasFault _ _ _ _ (by decide)) d

theorem bistGate_hasFault (g : Nat) (d : Device) :
    (bistGate g true false d).hasFault .bistGate (.stage (stageOfChan g)) 3 := by
  rw [bistGate_inBand]
  exact bistVerdict_hasFault (fun _ => raise_hasFault _ _ _ _ (by decide)) d

theorem bistPinFail_hasFault (n : Nat) (d : Device) :
    (bistPinFail n d).hasFault .bistPin (.pin n) (if pinGroup n = none then 0 else 3) := by
  unfold bistPinFail
  split
  · next g hg =>
    rw [if_neg (by simp [hg])]
    exact raiseActs_hasFault _ _ _ _ _ (by decide)
  · next hg =>
    rw [if_pos hg]
    exact raise_hasFault _ _ _ _ (by decide)

theorem bistPin_hasFault (t n : Nat) (d : Device) :
    (bistPin t n false d).hasFault .bistPin (.pin n) (if pinGroup n = none then 0 else 3) :=
  bistVerdict_hasFault (bistPinFail_hasFault n) d

/-- What holds of the state before the safety core applies STO to a port holds after it, if the line and the records of the
port keep it. -/
theorem applySto_preserves {P : Device → Prop} {p : PortId} (ha : ∀ d, P d → P (lineAssert p d))
    (hr : ∀ d, P d → P (lineRelease p d)) (hp : ∀ g d, P d → P (d.onPsafe p g)) {d : Device} (h : P d) :
    P (applySto p d) := by
  unfold applySto
  extract_lets x y
  have hy : P y := by
    unfold y
    split
    · exact ha d h
    · exact h
  clear_value y
  split
  · exact hp _ _ hy
  · split
    · exact hp _ _ (hr d h)
    · exact h

/-- STO of a port ends no fault but its own, at its reaction. -/
theorem applySto_keeps_hasFault {p : PortId} {g : FaultName} {sc : Scope} {r : Nat} {d : Device} (hg : g ≠ .safetySto)
    (hn : g ≠ .proofTest) (h : d.hasFault g sc r) : (applySto p d).hasFault g sc r := by
  refine applySto_preserves (P := fun d => d.hasFault g sc r) (fun d hd => ?_) (fun d hd => clearFault_keeps_hasFault _ hg hd)
    (fun f d hd => Device.hasFault_of_faults (Device.onPsafe_faults p f d) hd) h
  obtain ⟨e, he, hname, hscope, hre⟩ := Device.hasFault_of_faults (stoPresets_faults p d) hd
  rw [lineAssert_eq]
  exact ⟨e, raise_mem 3 he (by rwa [hname]) (.inl (by rwa [hname])), hname, hscope, hre⟩

theorem applySto_guySto (p : PortId) (d : Device) : (applySto p d).safety.guySto = d.safety.guySto := by
  refine applySto_preserves (P := fun e => e.safety.guySto = d.safety.guySto) (fun e he => ?_) (fun e he => ?_)
    (fun f e he => ?_) rfl
  · rw [lineAssert_eq, raise_safetySto_safety, stoPresets_safety]
    cases p <;> exact he
  · have hs : (lineRelease p e).safety.guySto = e.safety.guySto := by
      cases p <;> simp only [lineRelease, clearFault_frame, Device.onSafety]
    exact hs.trans he
  · cases p <;> exact he

/-- A failed GUY slice raises its fault on both ports and bars the pair; on line 3 the safety core takes it (R424). -/
theorem bistGuyFail_law (l : Nat) (d : Device) : (bistGuyFail l d).hasFault .bistGuy .bothPorts 3
    ∧ (bistGuyFail l d).bist.guyBar = true ∧ (l = 3 → (bistGuyFail l d).safety.guySto = true) := by
  unfold bistGuyFail
  extract_lets run x c z y
  have hy : y.hasFault .bistGuy .bothPorts 3 := raise_hasFault _ _ _ _ (by decide)
  have hbar : y.bist.guyBar = true := by
    obtain ⟨-, -, -, -, -, -, -, hbist, -⟩ := raise_frame .bistGuy .bothPorts 3 z
    exact congrArg (·.guyBar) hbist
  clear_value y
  split
  · refine ⟨Device.each_preserves (P := fun e => e.hasFault .bistGuy .bothPorts 3)
      (fun p e he => applySto_keeps_hasFault (by decide) (by decide) he) _ hy, ?_, fun _ => ?_⟩
    · exact (congrArg (·.guyBar) (Device.each_keeps (·.bist) applySto (fun p e => (applySto_frame p e).2) ports
        (y.onSafety fun x => { x with guySto := true }))).trans hbar
    · exact Device.each_keeps (·.safety.guySto) applySto applySto_guySto ports _
  · next hl => exact ⟨hy, hbar, fun h => absurd h hl⟩

theorem Device.pairOkOut_of_guyBar {d : Device} (h : d.bist.guyBar = true) : d.pairOkOut = false := by
  simp [Device.pairOkOut, h]

/-! ## GATE slices (R423) -/

section
variable {g : Fin 512} {s : State}

theorem exec_bistGateSlice_placed (band pass : Bool) (hs : s.dev.gateSkipped g = false) (hp : s.dev.gatePlaced g) :
    exec (.bistGateSlice g band pass) s = .next (bistRun 6 g (bistGate g band pass) s) :=
  congrArg Host.Outcome.next ((if_neg (by simp [hs])).trans (if_pos hp))

theorem exec_bistGateSlice_unplaced (band pass : Bool) (hs : s.dev.gateSkipped g = false) (hp : s.dev.gatePlaced g = false) :
    exec (.bistGateSlice g band pass) s = .next s :=
  congrArg Host.Outcome.next ((if_neg (by simp [hs])).trans (if_neg (by simp [hp])))

theorem exec_bistGateSlice_idle (band pass : Bool)
    (h : s.dev.ctl.state.selfTests = false ∨ s.dev.bist.passState = 0) : exec (.bistGateSlice g band pass) s = .next s := by
  refine congrArg Host.Outcome.next ?_
  rw [bistRun_idle h, bistRun_idle h, ite_self, ite_self]

/-- A skipped GATE slice counts as carried out. -/
theorem bistGateSlice_skips {band pass : Bool} (hk : s.dev.gateSkipped g) (ht : s.dev.ctl.state.selfTests)
    (hp : s.dev.bist.passState ≠ 0) (hr : s.dev.bistReady) (hd : s.dev.bist.done.contains (6, g.val) = false)
    (hn : s.dev.bist.progress + 1 < passTotal) : ∃ t, exec (.bistGateSlice g band pass) s = .next t
      ∧ t.pending = s.pending ∧ t.otp = s.otp ∧ t.dev = { s.dev with bist := t.dev.bist }
      ∧ t.dev.bist.skipCount = addWrap 32 s.dev.bist.skipCount 1
      ∧ t.dev.bist.done = s.dev.bist.done ++ [(6, g.val)] ∧ t.dev.bist.progress = s.dev.bist.progress + 1 := by
  have hrun := bistRun_ready (f := fun d => d.onBist fun x => { x with skipCount := addWrap 32 x.skipCount 1 }) ht hp hr hd
  rw [bistDone_counts (d := s.dev.onBist fun x => { x with skipCount := addWrap 32 x.skipCount 1 }) hp hd hn] at hrun
  exact ⟨_, congrArg Host.Outcome.next ((if_pos hk).trans hrun), rfl, rfl, rfl, rfl, rfl, rfl⟩

end

/-- The slice of an enable pin or an output outside the lists does nothing. -/
theorem exec_bistPin_idle {s : State} (m n : Nat) (pass : Bool)
    (h : s.dev.ctl.state.selfTests = false ∨ s.dev.bist.passState = 0) :
    exec (.bistPinInSlice m pass) s = .next s ∧ exec (.bistPinOutSlice n pass) s = .next s := by
  refine ⟨congrArg Host.Outcome.next ?_, congrArg Host.Outcome.next ?_⟩ <;> rw [bistRun_idle h, ite_self]

end Sys2Proof.Machine

/-! ## The statement -/

open Sys2Proof Sys2Proof.Machine

/-- Settles O52: each clause is the law of its row, with the run of a slice and the books of a pass said once. -/
theorem selfTestSlices : Obligations.SelfTestSlices := by
  unfold Obligations.SelfTestSlices
  refine ⟨fun s ht hd => ?start, fun s h => ?notStart, fun d => ⟨bistReady_iff d, passDue_iff d⟩,
    fun i l g m n c pass band s ht hp hr hd hm hn hs hpl => ?deferred, fun s ht hp hr => ?fails,
    fun s ht hp hr hf hn ha hi => ?passes, fun g band pass s => exec_bistGateSlice_unplaced band pass,
    fun g band pass s => bistGateSlice_skips, fun t k pass scope onFail onClear d hi => if_neg (by simp [hi]),
    fun i l g m n c pass band s h => ?idle, fun s => ?overdue, fun s hp hl => ?fault, fun s h => ?noFault⟩
  case start =>
    obtain ⟨hdev, hprog, hdone, hstart, hready, hdefer⟩ := bistPassStart_law s.dev
    exact ⟨s.onDev bistPassStart, congrArg Host.Outcome.next (if_pos ⟨ht, hd⟩), rfl, rfl, hdev, hprog, hdone, hstart, hready, hdefer⟩
  case notStart =>
    refine congrArg Host.Outcome.next (if_neg fun hc => ?_)
    obtain h | h := h
    · exact absurd (h.symm.trans hc.1) (by decide)
    · exact absurd (h.symm.trans hc.2) (by decide)
  case deferred =>
    have hrun {t k : Nat} {f : Device → Device} : bistRun t k f s = s.onDev bistDefer := bistRun_deferred ht hp hr hd
    exact ⟨congrArg Host.Outcome.next hrun, congrArg Host.Outcome.next hrun, congrArg Host.Outcome.next hrun,
      congrArg Host.Outcome.next ((if_pos hm).trans hrun), congrArg Host.Outcome.next ((if_pos hn).trans hrun),
      (exec_bistGateSlice_placed band pass hs hpl).trans (congrArg Host.Outcome.next hrun)⟩
  case fails =>
    have h : PassRuns s := ⟨ht, hp, hr⟩
    refine ⟨fun i hd => ?_, fun l hd => ?_, fun l hd => ?_, fun n hn hd => ?_, fun n hn hd => ?_, fun g hd hs hpl => ?_⟩
    · obtain ⟨u, hu, hlaw⟩ := h.faulty (by decide) hd (bistWarp_hasFault i s.dev)
      exact ⟨u, congrArg Host.Outcome.next hu, hlaw⟩
    · obtain ⟨u, hu, hlaw⟩ := h.faulty (by decide) hd (bistVerdict_hasFault (t := 2) (k := l) (scope := fun _ => .module)
        (onClear := clearFault .bistFabric .module) (fun d => raise_hasFault .bistFabric .module 4 d (by decide)) s.dev)
      exact ⟨u, congrArg Host.Outcome.next hu, hlaw⟩
    · obtain ⟨hfault, hbar, hsto⟩ := bistGuyFail_law l (bistFailed 3 l s.dev)
      obtain ⟨hsafety, hguy⟩ := bistDone_keeps 3 l (bistGuyFail l (bistFailed 3 l s.dev))
      have hrun : bistRun 3 l (bistGuy l false) s = { s with dev := bistDone 3 l (bistGuyFail l (bistFailed 3 l s.dev)) } := by
        rw [bistRun_ready ht hp hr hd]
        exact congrArg (fun d => { s with dev := bistDone 3 l d }) (bistVerdict_fails ..)
      exact ⟨_, congrArg Host.Outcome.next hrun, rfl, rfl, bistDone_hasFault (by decide) hfault, hguy.trans hbar,
        Device.pairOkOut_of_guyBar (hguy.trans hbar), fun hl => (congrArg (·.guySto) hsafety).trans (hsto hl)⟩
    · obtain ⟨u, hu, hlaw⟩ := h.faulty (by decide) hd (bistPin_hasFault 4 n s.dev)
      exact ⟨u, congrArg Host.Outcome.next ((if_pos hn).trans hu), hlaw⟩
    · obtain ⟨u, hu, hlaw⟩ := h.faulty (by decide) hd (bistPin_hasFault 5 n s.dev)
      exact ⟨u, congrArg Host.Outcome.next ((if_pos hn).trans hu), hlaw⟩
    · obtain ⟨u, hu, hlaw⟩ := h.faulty (by decide) hd (bistGate_hasFault g s.dev)
      exact ⟨u, (exec_bistGateSlice_placed true false hs hpl).trans (congrArg Host.Outcome.next hu), hlaw⟩
  case passes =>
    have h : CleanPass s := ⟨ht, hp, hr, hf, hn, ha, hi⟩
    refine ⟨fun i hd => ?_, fun l hd => ?_, fun l hd => ?_, fun n hn hd => ?_, fun n hn hd => ?_, fun g hd hs hpl => ?_⟩
    · obtain ⟨u, hu, hlaw⟩ := h.slice (f := bistWarp i true) hd (h.verdict ..)
      exact ⟨u, congrArg Host.Outcome.next hu, hlaw⟩
    · obtain ⟨u, hu, hlaw⟩ := h.slice (f := bistVerdict 2 l true (fun _ => .module) (raise .bistFabric .module 4)
        (clearFault .bistFabric .module)) hd (h.verdict ..)
      exact ⟨u, congrArg Host.Outcome.next hu, hlaw⟩
    · obtain ⟨u, hu, hlaw⟩ := h.guySlice hd
      exact ⟨u, congrArg Host.Outcome.next hu, hlaw⟩
    · obtain ⟨u, hu, hlaw⟩ := h.slice (f := bistPin 4 n true) hd (h.verdict ..)
      exact ⟨u, congrArg Host.Outcome.next ((if_pos hn).trans hu), hlaw⟩
    · obtain ⟨u, hu, hlaw⟩ := h.slice (f := bistPin 5 n true) hd (h.verdict ..)
      exact ⟨u, congrArg Host.Outcome.next ((if_pos hn).trans hu), hlaw⟩
    · obtain ⟨u, hu, hlaw⟩ := h.slice (f := bistGate g true true) hd ((bistGate_inBand ..).trans (h.verdict ..))
      exact ⟨u, (exec_bistGateSlice_placed true true hs hpl).trans (congrArg Host.Outcome.next hu), hlaw⟩
  case idle =>
    obtain ⟨hin, hout⟩ := exec_bistPin_idle m n pass h
    exact ⟨congrArg Host.Outcome.next (bistRun_idle h), congrArg Host.Outcome.next (bistRun_idle h),
      congrArg Host.Outcome.next (bistRun_idle h), hin, hout, exec_bistGateSlice_idle band pass h⟩
  case overdue =>
    refine ⟨fun hp hl => congrArg Host.Outcome.next (if_pos ⟨hp, hl⟩), fun h => congrArg Host.Outcome.next (if_neg fun hc => ?_)⟩
    obtain h | h := h
    · exact hc.1 h
    · exact absurd (h.symm.trans hc.2) (by decide)
  case fault =>
    exact ⟨_, congrArg Host.Outcome.next (if_pos ⟨hp, hl⟩), rfl, rfl, raise_hasFault _ _ _ _ (by decide)⟩
  case noFault =>
    refine congrArg Host.Outcome.next (if_neg fun hc => ?_)
    obtain h | h := h
    · exact h hc.1
    · exact absurd (h.symm.trans hc.2) (by decide)
end

section
/-!
PROOFS of a start: the OTP checks, the milestones, the firmware bank, the record in force, AUTO_READY (R433 to R452).
-/

namespace Sys2Proof.Machine

/-! ## FAULT (R400) -/

theorem withdrawOwn_boot (d : Device) : (withdrawOwn d).boot = d.boot := by
  unfold withdrawOwn
  split <;> rfl

/-- The passage to FAULT, whatever commit it cancels. -/
theorem enterFault_law (d : Device) : (enterFault d).ctl.state = .fault ∧ (enterFault d).boot = d.boot := by
  unfold enterFault
  extract_lets x
  have hx : x.ctl.state = .fault ∧ x.boot = d.boot := by simp [x]
  clear_value x
  split
  · obtain ⟨-, -, -, -, hctl⟩ := cancelCommit_law x
    exact ⟨(congrArg (·.state) hctl).trans hx.1, (withdrawOwn_boot x).trans hx.2⟩
  · exact hx

/-! ## The OTP checks (R445, R446) -/

theorem Otp.fusesOk_iff (o : Otp) : o.fusesOk ↔ o.fusesLegal := by
  simp only [Otp.fusesOk, Otp.fusesLegal, List.all_eq_true, List.mem_range]
  exact forall₂_congr fun k _ => by cases o.fuses.getLsbD k <;> simp

theorem Otp.keysOk_iff (o : Otp) : o.keysOk ↔ o.keysLegal := by
  have hmem (k : Nat) : k ∈ [0, 1, 2, 3] ↔ k < 4 := by
    simp only [List.mem_cons, List.not_mem_nil, or_false]
    omega
  simp only [Otp.keysOk, Otp.keysLegal, List.all_eq_true, hmem]
  exact forall₂_congr fun k _ => by cases o.revoked.getLsbD k <;> simp

/-- The record in force is the last valid one. -/
theorem Otp.inForce_law {o : Otp} {g : Nat} {r : OtpRecord} (h : o.inForce = some (g, r)) :
    1 ≤ g ∧ g ≤ 8 ∧ o.records.getD (g - 1) {} = r ∧ r.valid
      ∧ ∀ k : Nat, g ≤ k → k < 8 → (o.records.getD k {}).valid = false := by
  obtain ⟨k, hk, heq⟩ := Option.map_eq_some_iff.mp h
  obtain ⟨rfl, rfl⟩ := Prod.mk.inj heq
  obtain ⟨hvalid, before, after, hlist, hnone⟩ := List.find?_eq_some_iff_append.mp hk
  have hmem (j : Nat) : j ∈ before ++ k :: after ↔ j < 8 := by rw [← hlist]; simp
  have hdesc : (before ++ k :: after).Pairwise (· > ·) := by rw [← hlist]; decide
  obtain ⟨-, htail, -⟩ := List.pairwise_append.mp hdesc
  have hafter : ∀ j ∈ after, j < k := (List.pairwise_cons.mp htail).1
  refine ⟨Nat.succ_pos k, (hmem k).mp (by simp), rfl, hvalid, fun j hj hj8 => ?_⟩
  have hin := (hmem j).mpr hj8
  simp only [List.mem_append, List.mem_cons] at hin
  obtain hin | rfl | hin := hin
  · simpa using hnone j hin
  · omega
  · exact absurd (hafter j hin) (by omega)

/-! ## The milestones (R433, R437) -/

theorem testTime_of_trained {d : Device} (hs : d.boot.synthLocked = true) (hn : d.untrained = 0) : d.testTime = true := by
  simp [Device.testTime, hs, hn]

theorem startupTest_passes {d : Device} (hn : d.untrained = 0) : startupTest true d = { d with
    boot := { d.boot with scPassed := true, untrained := 0 }, safety := { d.safety with sc := .uncommissioned } } := by
  unfold startupTest
  extract_lets n
  exact if_pos (by simp [n, hn])

theorem startupTest_fails {good : Bool} {d : Device} (h : good = false ∨ d.untrained ≠ 0) :
    (startupTest good d).ctl.state = .fault ∧ (startupTest good d).boot.untrained = d.untrained := by
  unfold startupTest
  extract_lets n
  have hno : ¬ (good && n == 0) = true := by obtain h | h := h <;> simp [n, h]
  rw [if_neg hno]
  obtain ⟨hstate, hboot⟩ := enterFault_law (d.onBoot fun x => { x with untrained := n })
  exact ⟨hstate, congrArg (·.untrained) hboot⟩

/-! ## The firmware bank (R450) -/

/-- Writing the bank record changes its two copies alone. -/
theorem Firmware.saveRecord_frame (x : Firmware) : x.saveRecord.active = x.active ∧ x.saveRecord.next = x.next
    ∧ x.saveRecord.trialStarted = x.trialStarted ∧ x.saveRecord.bank0 = x.bank0 ∧ x.saveRecord.bank1 = x.bank1 := by
  unfold Firmware.saveRecord
  extract_lets r
  split <;> exact ⟨rfl, rfl, rfl, rfl, rfl⟩

theorem Firmware.saveRecord_bank (x : Firmware) (b : Bool) : x.saveRecord.bank b = x.bank b := by
  obtain ⟨-, -, -, h0, h1⟩ := x.saveRecord_frame
  unfold Firmware.bank
  rw [h0, h1]

section
variable {o : Otp} {d : Device}

/-- The trial bank is tried (R450). -/
theorem bankSelect_tries {b : Bool} (hn : d.fw.loadRecord.next = some b) (hs : d.fw.loadRecord.trialStarted = false)
    (hg : bankGood o (d.fw.bank b)) : bankSelect o d = { d with
      fw := ({ d.fw.loadRecord with trialStarted := true } : Firmware).saveRecord.run b
      boot := { d.boot with bankRuns := true, trialRun := true } } := by
  have htry : d.fw.loadRecord.tryNext o = some b := by
    simp only [Firmware.tryNext, hn]
    exact if_pos (by rw [hs]; exact hg)
  unfold bankSelect
  extract_lets x
  rw [show x.tryNext o = some b from htry]

/-- The record once a trial has been given up. -/
def Firmware.afterTrial (x : Firmware) : Firmware :=
  if x.next.isSome then ({ x with next := none, trialStarted := false } : Firmware).saveRecord else x

theorem Firmware.afterTrial_frame (x : Firmware) : x.afterTrial.active = x.active ∧ ∀ b, x.afterTrial.bank b = x.bank b := by
  unfold Firmware.afterTrial
  split
  · exact ⟨(Firmware.saveRecord_frame _).1, Firmware.saveRecord_bank _⟩
  · exact ⟨rfl, fun _ => rfl⟩

/-- The choice between the ACTIVE bank and the other one (R450). -/
def runBank (o : Otp) (x : Firmware) (d : Device) : Device :=
  if bankGood o (x.bank x.active) then { d with fw := x.run x.active, boot := { d.boot with bankRuns := true } }
  else if bankGood o (x.bank !x.active) then
    { d with fw := ({ x with active := !x.active } : Firmware).saveRecord.run (!x.active)
             boot := { d.boot with bankRuns := true, bankFallback := true } }
  else enterFault { d with fw := x, boot := { d.boot with noBank := true } }

/-- The device of a start whose bank record names a trial that has failed, or none. -/
def Device.trialOver (d : Device) : Device :=
  d.onBoot fun y => { y with trialFail := y.trialFail || d.fw.loadRecord.next.isSome }

/-- No bank is tried: the ACTIVE bank runs, else the other, else none (R450). -/
theorem bankSelect_untried (h : d.fw.loadRecord.tryNext o = none) :
    bankSelect o d = runBank o d.fw.loadRecord.afterTrial d.trialOver := by
  unfold bankSelect
  extract_lets x
  rw [show x.tryNext o = none from h]
  rfl

theorem tryNext_of_none (h : d.fw.loadRecord.next = none) : d.fw.loadRecord.tryNext o = none := by
  simp [Firmware.tryNext, h]

theorem tryNext_of_failed {b : Bool} (hn : d.fw.loadRecord.next = some b)
    (h : d.fw.loadRecord.trialStarted ∨ bankGood o (d.fw.bank b) = false) : d.fw.loadRecord.tryNext o = none := by
  simp only [Firmware.tryNext, hn]
  refine if_neg ?_
  rw [show d.fw.loadRecord.bank b = d.fw.bank b from rfl]
  obtain h | h := h <;> simp [h]

theorem afterTrial_of_none (h : d.fw.loadRecord.next = none) : d.fw.loadRecord.afterTrial = d.fw.loadRecord :=
  if_neg (by simp [h])

theorem afterTrial_of_some {b : Bool} (h : d.fw.loadRecord.next = some b) :
    d.fw.loadRecord.afterTrial.next = none ∧ d.fw.loadRecord.afterTrial.trialStarted = false := by
  unfold Firmware.afterTrial
  rw [if_pos (by simp [h])]
  obtain ⟨-, hnext, hstarted, -⟩ :=
    Firmware.saveRecord_frame { d.fw.loadRecord with next := none, trialStarted := false }
  exact ⟨hnext, hstarted⟩

theorem bankSelect_none (h : ∀ b : Bool, bankGood o (d.fw.bank b) = false) :
    (bankSelect o d).ctl.state = .fault ∧ (bankSelect o d).boot.noBank = true := by
  have htry : d.fw.loadRecord.tryNext o = none := by
    cases hn : d.fw.loadRecord.next with
    | none => exact tryNext_of_none hn
    | some b => exact tryNext_of_failed hn (.inr (h b))
  obtain ⟨-, hbank⟩ := d.fw.loadRecord.afterTrial_frame
  have hbad (b : Bool) : ¬ bankGood o (d.fw.loadRecord.afterTrial.bank b) = true := by
    rw [hbank]
    exact Bool.eq_false_iff.mp (h b)
  rw [bankSelect_untried htry, show runBank o _ d.trialOver = _ from (if_neg (hbad _)).trans (if_neg (hbad _))]
  obtain ⟨hstate, hboot⟩ := enterFault_law { d.trialOver with
    fw := d.fw.loadRecord.afterTrial, boot := { d.trialOver.boot with noBank := true } }
  exact ⟨hstate, congrArg (·.noBank) hboot⟩

end

/-! ## The firmware starts (R435, R438, R439, R444, R452) -/

/-- What STO of a port leaves of the stores. -/
def Device.stores (d : Device) : Comm × Boot × Flash := (d.comm, d.boot, d.flash)

theorem reactOne_port_comm (l : Bool) (p : PortId) (d : Device) : (reactOne l (.port p, 3) d).comm = d.comm :=
  (Device.each_keeps (·.comm) (stageOff l) (fun sg x => by simp) _ _).trans (by simp)

/-- A report with F3 at a port leaves commissioning alone. -/
theorem raise_port_comm (f : FaultName) (p : PortId) (d : Device) : (raise f (.port p) 3 d).comm = d.comm := by
  simp only [raise, raiseActs]
  split
  · split
    · simp only [List.filter_cons, List.filter_nil]
      split <;> simp [Device.each, reactOne_port_comm]
    · simp [Device.each, reactOne_port_comm]
  · simp [Device.each, reactOne_port_comm]

theorem raise_port_stores (f : FaultName) (p : PortId) (d : Device) : (raise f (.port p) 3 d).stores = d.stores := by
  obtain ⟨-, -, -, -, -, -, -, -, hboot, -, hflash, -⟩ := raise_frame f (.port p) 3 d
  exact Prod.ext (raise_port_comm f p d) (Prod.ext hboot hflash)

theorem clearFault_stores (f : FaultName) (sc : Scope) (d : Device) : (clearFault f sc d).stores = d.stores := by
  simp [Device.stores]

theorem Device.onPsafe_stores (p : PortId) (f : PortSafety → PortSafety) (d : Device) : (d.onPsafe p f).stores = d.stores := by
  cases p <;> rfl

theorem applySto_stores (p : PortId) (d : Device) : (applySto p d).stores = d.stores := by
  refine applySto_preserves (P := fun e => e.stores = d.stores) (fun e he => ?_) (fun e he => ?_)
    (fun f e he => (Device.onPsafe_stores p f e).trans he) rfl
  · have hpresets : (stoPresets p e).stores = e.stores :=
      Device.each_keeps Device.stores (fun i => Device.onIsland i (Island.enterPreset p.stage e.now)) (fun _ _ => rfl) _ _
    rw [lineAssert_eq, raise_port_stores, hpresets, he]
  · exact (clearFault_stores _ _ _).trans he

theorem applyDemands_stores (p : PortId) (d : Device) : (applyDemands p d).stores = d.stores :=
  (Device.onPsafe_stores p _ _).trans ((Device.onPsafe_stores p _ _).trans (applySto_stores p d))

/-- The safety core starts with an image, and the module keeps its state and its stores. -/
theorem safetyStart_law (image : Settings) (d : Device) : (safetyStart image d).ctl = d.ctl
    ∧ (safetyStart image d).stores = d.stores ∧ (safetyStart image d).safety.image = image := by
  unfold safetyStart
  extract_lets x
  have ha := portOnly_applyDemands .a x
  have hb := portOnly_applyDemands .b (applyDemands .a x)
  exact ⟨hb.ctl.trans ha.ctl, (applyDemands_stores .b _).trans (applyDemands_stores .a x), hb.image.trans ha.image⟩

theorem loadSettings_law (d : Device) : (loadSettings d).ctl = d.ctl ∧ (loadSettings d).comm = d.comm
    ∧ (loadSettings d).flash = d.flash ∧ (loadSettings d).boot.fwStarted = d.boot.fwStarted := by
  unfold loadSettings
  split <;> exact ⟨rfl, rfl, rfl, rfl⟩

/-- What the loading of the record in force does to the module. -/
structure RecordLoaded (o : Otp) (d e : Device) : Prop where
  ctl : e.ctl = d.ctl
  flash : e.flash = d.flash
  started : e.boot.fwStarted = d.boot.fwStarted
  none : o.inForce = none → e.boot.noRecord = true ∧ e.comm.generation = d.comm.generation
  some : ∀ g r, o.inForce = some (g, r) → e.comm.generation = g ∧ e.comm.check = r.check ∧ e.safety.image = r.image

theorem loadRecord_law (o : Otp) (d : Device) : RecordLoaded o d (loadRecord o d) := by
  unfold loadRecord
  split
  · next h => exact ⟨rfl, rfl, rfl, fun _ => ⟨rfl, rfl⟩, fun g r hg => absurd hg (by simp [h])⟩
  · next g r h =>
    extract_lets above x y
    obtain ⟨hctl, hstores, himage⟩ := safetyStart_law r.image (y.onComm fun z => { z with check := r.check, generation := g })
    refine ⟨hctl, congrArg (·.2.2) hstores, congrArg (·.2.1.fwStarted) hstores, fun hn => absurd hn (by simp [h]),
      fun g' r' hg => ?_⟩
    rw [h] at hg
    cases hg
    exact ⟨congrArg (·.1.generation) hstores, congrArg (·.1.check) hstores, himage⟩

/-- What the later steps of a start leave alone. -/
def Device.startCore (d : Device) : ModuleCtl × Comm × Boot × Safety := (d.ctl, d.comm, d.boot, d.safety)

theorem loadDiagnostics_startCore {d : Device} (h : d.flash.dieMap = []) : (loadDiagnostics d).startCore = d.startCore := by
  unfold loadDiagnostics
  rw [h]
  rfl

theorem txEnqueue_startCore (f : TxFrame) (d : Device) : (txEnqueue f d).startCore = d.startCore := by
  simp [Device.startCore]

theorem sendHeartbeat_startCore (onB : Bool) (st : Nat) (d : Device) : (sendHeartbeat onB st d).startCore = d.startCore := by
  unfold sendHeartbeat
  extract_lets i
  split
  · rfl
  · exact txEnqueue_startCore _ d

theorem isoClaim_startCore (d : Device) : (isoClaim d).startCore = d.startCore := by
  unfold isoClaim
  extract_lets a
  exact (txEnqueue_startCore _ _).trans (by simp [Device.startCore])

/-- A CAN port starts unless its crossing has timed out. -/
def startPort (p : CanPort) (d : Device) : Device :=
  if (d.xing (p.num + 1)).phase = .timedOut then d else d.onCan p fun x => { x with conf := 0, nmt := 127 }

theorem startPort_startCore (p : CanPort) (d : Device) : (startPort p d).startCore = d.startCore := by
  unfold startPort
  split
  · rfl
  · cases p <;> rfl

theorem startPorts_startCore (d : Device) : (startPorts d).startCore = d.startCore := by
  unfold startPorts
  extract_lets x y
  have hx : x.startCore = d.startCore := Device.each_keeps Device.startCore startPort startPort_startCore _ d
  have hy : y.startCore = d.startCore :=
    (sendHeartbeat_startCore ..).trans ((sendHeartbeat_startCore ..).trans hx)
  clear_value y
  split
  · exact (isoClaim_startCore y).trans hy
  · exact hy

theorem slotSyncs_startCore (l : List Nat) (d : Device) : (d.each l slotSync).startCore = d.startCore :=
  Device.each_keeps Device.startCore slotSync (fun _ _ => rfl) l d

theorem each_onConn_startCore (f : Nat → Device → DoridConn → DoridConn) (l : List Nat) (d : Device) :
    (d.each l fun c d => d.onConn c (f c d)).startCore = d.startCore :=
  Device.each_keeps Device.startCore (fun c d => d.onConn c (f c d)) (fun _ _ => rfl) l d

theorem doridStart_startCore (d : Device) : (doridStart d).startCore = d.startCore := by
  unfold doridStart
  rw [each_onConn_startCore]

/-- The calibration that follows a start, with what it leaves of the start's record. -/
theorem calibrates_law (d : Device) : (calStart (setState .calibrating d)).ctl.state = .calibrating
    ∧ (calStart (setState .calibrating d)).boot = d.boot
    ∧ (calStart (setState .calibrating d)).safety = d.safety
    ∧ (calStart (setState .calibrating d)).comm = (setState .calibrating d).comm := by
  refine ⟨by rw [calStart_ctl, setState_state], ?_, ?_, ?_⟩ <;> unfold calStart <;> dsimp only <;> split <;> simp

/-- Leaving BOOT ends no proof test, so commissioning stays. -/
theorem setState_comm_of_boot (m : ModState) {d : Device} (h : d.ctl.state = .boot) : (setState m d).comm = d.comm := by
  unfold setState
  exact (congrArg Device.comm (if_neg (by simp [h]))).trans
    ((ite_keeps (·.comm) (fun x => { x with chg := { x.chg with lostHold := false } }) _ _ rfl).trans
      ((ite_keeps (·.comm) (fun x => { x with inj := { x.inj with active := [] } }) _ _ rfl).trans
        ((ite_keeps (·.comm) (fun x => { x with gates := { x.gates with retestState := 3 } }) _ _ rfl).trans
          ((ite_keeps (·.comm) chainStop _ _ (by simp)).trans (ite_keeps (·.comm) chargeIdle _ _ (by simp))))))

/-- The steps of FW_START between the diagnostics and the CAN ports. -/
def startIdentity (idMatch : Bool) (d : Device) : Device :=
  let d := { d with ctl := { d.ctl with lead := Cfg.pairPosition d.cfg != 2 } }
  d.onBoot fun x => { x with idStatus := if idMatch then 1 else 2, idFail := !idMatch }

/-- FW_START after the record in force has been loaded. -/
def fwStartAfter (idMatch : Bool) (d : Device) : Device :=
  startPorts (startIdentity idMatch (doridStart ((loadDiagnostics d).each (List.range 32) slotSync)))

theorem fwStart_eq (o : Otp) (idMatch : Bool) (d : Device) : fwStart o idMatch d =
    let e := fwStartAfter idMatch (loadRecord o (loadSettings (d.onBoot fun x => { x with fwStarted := true })))
    if e.ctl.state = .boot then calStart (setState .calibrating e) else e := by
  dsimp only [fwStart, fwStartAfter, startIdentity]

theorem startIdentity_law {d e : Device} (idMatch : Bool) (h : e.startCore = d.startCore) :
    (startIdentity idMatch e).ctl.state = d.ctl.state ∧ (startIdentity idMatch e).comm = d.comm
    ∧ (startIdentity idMatch e).safety = d.safety
    ∧ (startIdentity idMatch e).boot = { d.boot with idStatus := if idMatch then 1 else 2, idFail := !idMatch } :=
  ⟨congrArg (·.1.state) h, congrArg (·.2.1) h, congrArg (·.2.2.2) h,
    congrArg (fun c => ({ c.2.2.1 with idStatus := if idMatch then 1 else 2, idFail := !idMatch } : Boot)) h⟩

theorem fwStartAfter_law (idMatch : Bool) {d : Device} (hm : d.flash.dieMap = []) :
    (fwStartAfter idMatch d).ctl.state = d.ctl.state
    ∧ (fwStartAfter idMatch d).comm = d.comm ∧ (fwStartAfter idMatch d).safety = d.safety
    ∧ (fwStartAfter idMatch d).boot = { d.boot with idStatus := if idMatch then 1 else 2, idFail := !idMatch } := by
  have hcore : (doridStart ((loadDiagnostics d).each (List.range 32) slotSync)).startCore = d.startCore := by
    rw [doridStart_startCore, slotSyncs_startCore, loadDiagnostics_startCore hm]
  unfold fwStartAfter
  generalize doridStart ((loadDiagnostics d).each (List.range 32) slotSync) = e at hcore ⊢
  obtain ⟨hstate, hcomm, hsafety, hboot⟩ := startIdentity_law idMatch hcore
  have hports := startPorts_startCore (startIdentity idMatch e)
  generalize startIdentity idMatch e = f at hports hstate hcomm hsafety hboot ⊢
  generalize startPorts f = g at hports ⊢
  exact ⟨(congrArg (·.1.state) hports).trans hstate, (congrArg (·.2.1) hports).trans hcomm,
    (congrArg (·.2.2.2) hports).trans hsafety, (congrArg (·.2.2.1) hports).trans hboot⟩

/-- A start in BOOT loads the record in force and passes to CALIBRATING. -/
theorem fwStart_law (o : Otp) (idMatch : Bool) {d : Device} (hs : d.ctl.state = .boot) (hm : d.flash.dieMap = []) :
    (fwStart o idMatch d).ctl.state = .calibrating ∧ (fwStart o idMatch d).boot.fwStarted = true
      ∧ (fwStart o idMatch d).boot.idStatus = (if idMatch then 1 else 2) ∧ (fwStart o idMatch d).boot.idFail = !idMatch
      ∧ (o.inForce = none → (fwStart o idMatch d).boot.noRecord = true
        ∧ (fwStart o idMatch d).comm.generation = d.comm.generation)
      ∧ ∀ g r, o.inForce = some (g, r) → (fwStart o idMatch d).comm.generation = g
        ∧ (fwStart o idMatch d).comm.check = r.check ∧ (fwStart o idMatch d).safety.image = r.image := by
  obtain ⟨hctl, hcomm, hflash, hstarted⟩ := loadSettings_law (d.onBoot fun x => { x with fwStarted := true })
  have hrec := loadRecord_law o (loadSettings (d.onBoot fun x => { x with fwStarted := true }))
  obtain ⟨hstate, hcomm', hsafety, hboot⟩ := fwStartAfter_law idMatch
    ((congrArg (·.dieMap) (hrec.flash.trans hflash)).trans hm)
  rw [fwStart_eq]
  generalize loadSettings (d.onBoot fun x => { x with fwStarted := true }) = a at hctl hcomm hflash hstarted hrec hstate hcomm' hsafety hboot ⊢
  generalize loadRecord o a = b at hrec hstate hcomm' hsafety hboot ⊢
  generalize fwStartAfter idMatch b = e at hstate hcomm' hsafety hboot ⊢
  have hbstate : e.ctl.state = .boot :=
    hstate.trans ((congrArg (·.state) (hrec.ctl.trans hctl)).trans hs)
  obtain ⟨h1, h2, h3, h4⟩ := calibrates_law e
  dsimp only
  rw [if_pos hbstate, h1, h2, h3, h4, setState_comm_of_boot _ hbstate, hcomm', hsafety, hboot]
  refine ⟨rfl, hrec.started.trans hstarted, rfl, rfl, fun hn => ?_, hrec.some⟩
  obtain ⟨hno, hgen⟩ := hrec.none hn
  exact ⟨hno, hgen.trans (congrArg (·.generation) hcomm)⟩

/-! ## AUTO_READY (R434) -/

theorem cmdReady_ready {d : Device} (hs : d.ctl.state = .standby) (hr : d.readyOk) (hc : d.meas.calState ≠ 1) :
    cmdReady d = (Abort.ok, setState .ready d) :=
  (if_neg hc).trans (if_pos ⟨hs, hr⟩)

/-- The first arrival in READY from STANDBY. -/
theorem setState_ready_ctl {d : Device} (hs : d.ctl.state = .standby) :
    (setState .ready d).ctl = { d.ctl with state := .ready, firstStandbyDone := true } := by
  rw [setState_ctl, hs]
  simp

end Sys2Proof.Machine

/-! ## The statement -/

open Sys2Proof Sys2Proof.Machine

/-- Settles O53: each clause is the law of its row; FW_START step by step, with what the later steps leave alone. -/
theorem startUp : Obligations.StartUp := by
  unfold Obligations.StartUp
  refine ⟨fun factory s hs ho => ⟨fun hg => ?otpGood, fun hb => ?otpBad⟩, fun factory s h => ?otpIdle,
    fun o => ⟨o.fusesOk_iff, o.keysOk_iff⟩, fun s hs hl => ?synth, fun s h => ?synthIdle, fun s hs hsc hl hn => ?testGood,
    fun good s hs hsc ht h => ?testBad, fun good s h => ?testIdle, fun s hs ho hb => ?bank, fun s h => ?bankIdle,
    fun same s hs hf hp hb hm => ?start, fun same s h => ?startIdle, fun o g r h => Otp.inForce_law h,
    fun s ha hs hf hr hc => ?ready, fun s h => ?readyIdle, fun factory record s h0 h1 => ⟨fun hg hf => ?whole, fun h => ?broken⟩,
    fun factory record s h => congrArg Host.Outcome.next (if_pos h)⟩
  case otpGood =>
    refine (congrArg Host.Outcome.next (if_pos ⟨hs, by simp [ho]⟩)).trans (next_onDev ?_)
    exact if_pos hg
  case otpBad =>
    obtain ⟨hstate, hboot⟩ := enterFault_law { s.dev with ctl := { s.dev.ctl with coreSupplyOk := true } }
    refine ⟨{ s with dev := enterFault { s.dev with ctl := { s.dev.ctl with coreSupplyOk := true } } }, ?_, rfl, rfl,
      hstate, (congrArg (·.otpDone) hboot).trans ho⟩
    exact (congrArg Host.Outcome.next (if_pos ⟨hs, by simp [ho]⟩)).trans (next_of_dev (if_neg (Bool.eq_false_iff.mp hb)))
  case otpIdle =>
    refine congrArg Host.Outcome.next (if_neg fun hc => ?_)
    obtain h | h := h
    · exact absurd (h.symm.trans hc.1) (by decide)
    · simp [h] at hc
  case synth => exact congrArg Host.Outcome.next (if_pos ⟨hs, by simp [hl]⟩)
  case synthIdle =>
    refine congrArg Host.Outcome.next (if_neg fun hc => ?_)
    obtain h | h := h
    · exact absurd (h.symm.trans hc.1) (by decide)
    · simp [h] at hc
  case testGood =>
    exact (congrArg Host.Outcome.next (if_pos ⟨hs, hsc, testTime_of_trained hl hn⟩)).trans
      (next_onDev (startupTest_passes hn))
  case testBad =>
    exact ⟨s.onDev (startupTest good), congrArg Host.Outcome.next (if_pos ⟨hs, hsc, ht⟩), rfl, rfl, startupTest_fails h⟩
  case testIdle =>
    refine congrArg Host.Outcome.next (if_neg fun hc => ?_)
    obtain ⟨hs, hsc, ht⟩ := hc
    obtain h | h | h := h
    · exact absurd (h.symm.trans hs) (by decide)
    · exact h hsc
    · exact absurd (h.symm.trans ht) (by decide)
  case bank =>
    intro r
    have hexec : exec .fwBankSelect s = .next (s.onDev (bankSelect s.otp)) :=
      congrArg Host.Outcome.next (if_pos ⟨hs, ho, by simp [hb]⟩)
    rw [hexec]
    refine ⟨fun b hn hst hg => ?_, fun hn hg => ?_, fun hn hg ho => ?_, fun b hn hf hg => ?_, fun hno => ?_⟩
    · refine ⟨_, next_of_dev (bankSelect_tries hn hst hg), rfl, rfl, rfl, rfl, rfl, rfl, ?_⟩
      obtain ⟨hactive, hnext, hstarted, -⟩ :=
        Firmware.saveRecord_frame { s.dev.fw.loadRecord with trialStarted := true }
      refine ⟨?_, hactive, hnext.trans hn, hstarted⟩
      simp only [Firmware.run, hnext]
      rw [show s.dev.fw.loadRecord.next = some b from hn]
      simp
    · have hsel := bankSelect_untried (tryNext_of_none (o := s.otp) hn)
      rw [afterTrial_of_none hn] at hsel
      refine ⟨_, next_of_dev (hsel.trans (if_pos hg)), rfl, rfl, rfl, rfl, rfl, rfl, ?_, rfl, rfl⟩
      simp [Device.trialOver, Device.onBoot, show s.dev.fw.loadRecord.next = none from hn]
    · have hsel := bankSelect_untried (tryNext_of_none (o := s.otp) hn)
      rw [afterTrial_of_none hn] at hsel
      refine ⟨_, next_of_dev (hsel.trans ((if_neg (Bool.eq_false_iff.mp hg)).trans (if_pos ho))), rfl, rfl, rfl, rfl, ?_, rfl⟩
      exact (Firmware.saveRecord_frame _).1
    · obtain ⟨hnext, hstarted⟩ := afterTrial_of_some hn
      obtain ⟨hactive, hbank⟩ := s.dev.fw.loadRecord.afterTrial_frame
      have hsel := (bankSelect_untried (tryNext_of_failed hn hf)).trans (if_pos (by rw [hactive, hbank]; exact hg))
      refine ⟨_, next_of_dev hsel, rfl, rfl, rfl, hactive, hnext, hstarted, ?_⟩
      simp [Device.trialOver, Device.onBoot, show s.dev.fw.loadRecord.next = some b from hn]
    · exact ⟨_, rfl, rfl, rfl, bankSelect_none hno⟩
  case bankIdle =>
    refine congrArg Host.Outcome.next (if_neg fun hc => ?_)
    obtain ⟨hs, ho, hb⟩ := hc
    obtain h | h | h := h
    · exact absurd (h.symm.trans hs) (by decide)
    · exact absurd (h.symm.trans ho) (by decide)
    · simp [h] at hb
  case start =>
    have hstart : s.dev.starting = true := by simp [Device.starting, hs, hf]
    refine ⟨s.onDev (fwStart s.otp same), congrArg Host.Outcome.next (if_pos ⟨hstart, hp, hb⟩),
      State.onDev_pending .., State.onDev_otp .., ?_⟩
    rw [State.onDev_dev]
    exact fwStart_law s.otp same hs hm
  case startIdle =>
    refine congrArg Host.Outcome.next (if_neg fun hc => ?_)
    obtain ⟨hs, hp, hb⟩ := hc
    obtain h | h | h := h
    · exact absurd (h.symm.trans hs) (by decide)
    · exact absurd (h.symm.trans hp) (by decide)
    · exact absurd (h.symm.trans hb) (by decide)
  case ready =>
    refine ⟨s.onDev (setState .ready), ?_, rfl, rfl, setState_ready_ctl hs⟩
    exact (congrArg Host.Outcome.next (if_pos ⟨ha, hs, by simp [hf]⟩)).trans
      (next_onDev (congrArg Prod.snd (cmdReady_ready hs hr hc)))
  case readyIdle =>
    refine congrArg Host.Outcome.next (if_neg fun hc => ?_)
    obtain ⟨ha, hs, hf⟩ := hc
    obtain h | h | h := h
    · exact h hs
    · simp [h] at hf
    · exact absurd (h.symm.trans ha) (by decide)
  case whole =>
    exact congrArg Host.Outcome.next ((if_neg (not_or.mpr ⟨h0, h1⟩)).trans (if_pos (by rw [hg, hf]; rfl)))
  case broken =>
    refine ⟨_, congrArg Host.Outcome.next ((if_neg (not_or.mpr ⟨h0, h1⟩)).trans (if_neg ?_)), rfl, rfl,
      raise_hasFault _ _ _ _ (by decide)⟩
    obtain h | h := h
    · rw [h]
      simp
    · simp [h]
end

section
/-!
PROOFS of firmware update, anti-rollback and attestation (R446, R447, R449, R451, R453).
-/

namespace Sys2Proof.Machine

/-! ## The crypto engine beside the firmware (Table 16.3) -/

theorem cryptoFree_frame (w : Nat × Nat) (d : Device) : (cryptoFree w d).fw = d.fw ∧ (cryptoFree w d).boot = d.boot := by
  unfold cryptoFree
  extract_lets c rest
  split
  · exact ⟨rfl, rfl⟩
  · split <;> exact ⟨rfl, rfl⟩

theorem cryptoAsk_holder (w : Nat × Nat) {d : Device} (h : d.cross.crypto.holder = none) :
    (cryptoAsk w d).cross.crypto.holder = some w := by rw [cryptoAsk_free w h]

theorem cryptoAsk_boot (w : Nat × Nat) (d : Device) : (cryptoAsk w d).boot = d.boot := by
  unfold cryptoAsk
  extract_lets c
  split <;> rfl

/-! ## FW_CMD (R451) -/

theorem devCmd_runs {f : Device → W32 × Device} {g : Device → Device} {c : W32} {s : State} (h : f s.dev = (c, g s.dev)) :
    devCmd f s = (c, s.onDev g) := by
  simp only [devCmd, h]
  rfl

section
variable {q : Path} {s : State} (h : s.dev.takes q .v false)
include h

/-- A command of FW_CMD outside STANDBY is refused. -/
theorem writeFw_refused (hs : s.dev.ctl.state ≠ .standby) {code : Nat} (h0 : code ≠ 0) (h5 : code ≤ 5) (steps : Nat)
    (burned : Bool) : writeFw q code steps burned s = s.onDev fun d => answer q Abort.state [] (touchPath q d) :=
  hostWrite_runs_onDev (g := id) h ((if_neg (by omega)).trans (if_pos hs))

variable (hs : s.dev.ctl.state = .standby)
include hs

theorem writeFw_open : writeFw q 1 0 true s = s.onDev fun d => answer q Abort.ok []
    ((cryptoFree (3, 0) (touchPath q d)).onFw fun x => { x with state := .erasing, result := 0, written := [], buffer := [] }) :=
  hostWrite_runs_onDev (g := fun d => (cryptoFree (3, 0) d).onFw fun x =>
    { x with state := .erasing, result := 0, written := [], buffer := [] }) h
    ((if_neg (by decide)).trans (if_neg (not_not.mpr hs)))

theorem writeFw_abandon : writeFw q 5 0 true s = s.onDev fun d => answer q Abort.ok []
    ((cryptoFree (3, 0) (touchPath q d)).onFw fun x =>
      let y : Firmware := { x with state := .idle, next := none, buffer := [] }
      if x.next.isSome then y.saveRecord else y) :=
  hostWrite_runs_onDev (g := fun d => (cryptoFree (3, 0) d).onFw fun x =>
      let y : Firmware := { x with state := .idle, next := none, buffer := [] }
      if x.next.isSome then y.saveRecord else y) h
    ((if_neg (by decide)).trans (if_neg (not_not.mpr hs)))

/-- FW_CMD 0x02 and 0x03 run on the device as their commands say. -/
theorem writeFw_verify {c : W32} {g : Device → Device} (hf : cmdFwVerify (touchPath q s.dev) = (c, g (touchPath q s.dev))) :
    writeFw q 2 0 true s = s.onDev fun d => answer q c [] (g (touchPath q d)) :=
  hostWrite_runs_onDev h ((if_neg (by decide)).trans ((if_neg (not_not.mpr hs)).trans (devCmd_runs hf)))

theorem writeFw_select {c : W32} {g : Device → Device} (hf : cmdFwSelect (touchPath q s.dev) = (c, g (touchPath q s.dev))) :
    writeFw q 3 0 true s = s.onDev fun d => answer q c [] (g (touchPath q d)) :=
  hostWrite_runs_onDev h ((if_neg (by decide)).trans ((if_neg (not_not.mpr hs)).trans (devCmd_runs hf)))

/-- FW_CMD 0x04 goes through the checks before a burn (R445). -/
theorem writeFw_accept {steps : Nat} {burned : Bool} {c : W32} {t : State} (hf : s.otp.fusesOk) (hk : s.otp.keysOk)
    (ha : cmdFwAccept steps burned (s.touched q) = (c, t)) :
    writeFw q 4 steps burned s = { t with dev := answer q c [] t.dev } :=
  hostWrite_runs h ((if_neg (by decide)).trans ((if_neg (not_not.mpr hs)).trans
    ((if_pos (by simp [State.touched, hf, hk])).trans ha)))

theorem writeFw_accept_broken (steps : Nat) (burned : Bool) (hb : s.otp.fusesOk = false ∨ s.otp.keysOk = false) :
    writeFw q 4 steps burned s = s.onDev fun d =>
      answer q Abort.state [] (raise .otpIntegrity .module 4 (touchPath q d)) :=
  hostWrite_runs_onDev h ((if_neg (by decide)).trans ((if_neg (not_not.mpr hs)).trans
    (if_neg (by obtain hb | hb := hb <;> simp [State.touched, hb]))))

end

theorem cmdFwVerify_receiving {d : Device} (h : d.fw.state = .receiving) : cmdFwVerify d = (Abort.ok,
    if d.fw.complete then cryptoAsk (3, 0) (d.onFw fun x => { x with state := .verifying })
    else d.onFw fun x => { x with state := .failed, result := 9 }) := by
  refine (if_neg (not_not.mpr h)).trans ?_
  split <;> rfl

/-! ## Anti-rollback (R446, R447) -/

section
variable {s : State} {steps : Nat}

/-- The bank is accepted once its fuses are burned. -/
theorem cmdFwAccept_done (h : (s.dev.fw.bank s.dev.fw.running).secVer ≤ 128)
    (hn : (s.dev.fw.bank s.dev.fw.running).secVer - s.otp.arCount ≤ steps) : cmdFwAccept steps true s = (Abort.ok, { s with
      otp := Otp.revokeKey (s.dev.fw.bank s.dev.fw.running)
        (s.otp.burnFuses (s.otp.arCount + ((s.dev.fw.bank s.dev.fw.running).secVer - s.otp.arCount)))
      dev := s.dev.onFw fun y => { y with trial := false, result := 0 } }) := by
  unfold cmdFwAccept
  extract_lets x result need t
  rw [if_neg (Nat.not_lt.mpr h), if_neg (by simp), if_neg (Nat.not_lt.mpr hn)]
  have hmin : min steps need = need := Nat.min_eq_right hn
  simp only [t, result, State.onDev, hmin]
  rfl

/-- Where the burning stops short, the bank stays on trial. -/
theorem cmdFwAccept_short (burned : Bool) (h : (s.dev.fw.bank s.dev.fw.running).secVer ≤ 128)
    (hn : steps < (s.dev.fw.bank s.dev.fw.running).secVer - s.otp.arCount) : cmdFwAccept steps burned s = (Abort.ok, { s with
      otp := s.otp.burnFuses (s.otp.arCount + steps)
      dev := if burned then s.dev else s.dev.onFw fun y => { y with result := 10 } }) := by
  unfold cmdFwAccept
  extract_lets x result need t
  have hmin : min steps need = steps := Nat.min_eq_left (Nat.le_of_lt hn)
  rw [if_neg (Nat.not_lt.mpr h)]
  cases burned with
  | false =>
    rw [if_pos (by decide)]
    simp only [t, result, State.onDev, hmin]
    rfl
  | true =>
    rw [if_neg (by decide), if_pos hn]
    simp only [t, hmin]
    rfl

end

theorem Otp.getLsbD_burnFuses (o : Otp) (n : Nat) {k : Nat} (hk : k < 128) :
    (o.burnFuses n).fuses.getLsbD k = (o.fuses.getLsbD k || decide (k < n)) := by
  simp only [Otp.burnFuses, BitVec.getLsbD_or, BitVec.getLsbD_ofNat, Nat.testBit_two_pow_sub_one, hk, decide_true,
    Bool.true_and]

/-- Below a burned fuse all are burned. -/
theorem Otp.burned_below {o : Otp} (h : o.fusesLegal) {k : Nat} (hk : k < 128) (hb : o.fuses.getLsbD k = true) :
    ∀ j ≤ k, o.fuses.getLsbD j = true := by
  induction k with
  | zero => exact fun j hj => Nat.le_zero.mp hj ▸ hb
  | succ k ih =>
    intro j hj
    obtain hj | rfl := Nat.le_succ_iff.mp hj
    · exact ih (by omega) (h k (by omega) hb) j hj
    · exact hb

/-- The fuses burned are those below the counter (R446). -/
theorem Otp.lt_arCount_of_burned {o : Otp} (h : o.fusesLegal) {k : Nat} (hk : k < 128) (hb : o.fuses.getLsbD k = true) :
    k < o.arCount := by
  have hall : (List.range (k + 1)).filter (fun f => o.fuses.getLsbD f) = List.range (k + 1) :=
    List.filter_eq_self.mpr fun j hj => o.burned_below h hk hb j (Nat.lt_succ_iff.mp (List.mem_range.mp hj))
  have hsub := ((List.range_sublist.mpr (show k + 1 ≤ 128 by omega)).filter fun f => o.fuses.getLsbD f).length_le
  rwa [hall, List.length_range] at hsub

theorem length_filter_range_lt {n m : Nat} (h : n ≤ m) : ((List.range m).filter fun f => decide (f < n)).length = n := by
  obtain ⟨r, rfl⟩ := Nat.exists_eq_add_of_le h
  rw [List.range_add, List.filter_append, List.filter_eq_self.mpr (by simp), List.filter_eq_nil_iff.mpr (by simp),
    List.append_nil, List.length_range]

/-- The counter reads the number of the fuses asked for. -/
theorem Otp.arCount_burnFuses {o : Otp} {n : Nat} (h : o.fusesLegal) (ha : o.arCount ≤ n) (hn : n ≤ 128) :
    (o.burnFuses n).arCount = n := by
  have hbits : ∀ k ∈ List.range 128, (o.burnFuses n).fuses.getLsbD k = decide (k < n) := by
    intro k hk
    rw [o.getLsbD_burnFuses n (List.mem_range.mp hk), Bool.or_eq_right_iff_imp]
    exact fun hb => decide_eq_true (Nat.lt_of_lt_of_le (Otp.lt_arCount_of_burned h (List.mem_range.mp hk) hb) ha)
  unfold Otp.arCount
  rw [List.filter_congr hbits]
  exact length_filter_range_lt hn

/-! ## The banks and their record (R450, R451) -/

/-- The record saved is the one that serves at the next start. -/
theorem Firmware.loadRecord_saveRecord {x : Firmware} (h : max x.rec0.seq x.rec1.seq + 1 < 2 ^ 32) :
    x.saveRecord.loadRecord.active = x.active ∧ x.saveRecord.loadRecord.next = x.next
      ∧ x.saveRecord.loadRecord.trialStarted = x.trialStarted := by
  have hseq : addWrap 32 (max x.rec0.seq x.rec1.seq) 1 = max x.rec0.seq x.rec1.seq + 1 := Nat.mod_eq_of_lt h
  unfold Firmware.saveRecord Firmware.loadRecord
  rw [hseq]
  by_cases hr : x.rec0.seq ≤ x.rec1.seq
  · rw [if_pos hr]
    dsimp only
    rw [if_neg (by omega)]
    exact ⟨rfl, rfl, rfl⟩
  · rw [if_neg hr]
    dsimp only
    rw [if_pos (by omega)]
    exact ⟨rfl, rfl, rfl⟩

theorem Firmware.onOther_bank (x : Firmware) (f : Bank → Bank) : (x.onOther f).bank x.active = x.bank x.active
    ∧ (x.onOther f).bank (!x.active) = f (x.bank !x.active) := by
  cases h : x.active <;> simp [Firmware.onOther, Firmware.bank, h]

theorem Firmware.onOther_frame (x : Firmware) (f : Bank → Bank) : (x.onOther f).active = x.active
    ∧ (x.onOther f).written = x.written := by
  unfold Firmware.onOther
  split <;> exact ⟨rfl, rfl⟩

/-- What the flash takes from the write buffer leaves the bank with its buffer as it was. -/
theorem Firmware.flushed_take {x : Firmware} {c : Nat × List Byte} {rest : List (Nat × List Byte)} (h : x.buffer = c :: rest) :
    ({ x.onOther fun b => { b with chunks := b.chunks ++ [c] } with buffer := rest } : Firmware).flushed = x.flushed := by
  cases ha : x.active <;> simp [Firmware.flushed, Firmware.other, Firmware.onOther, Firmware.bank, ha, h]

/-- The write buffer empties into the other bank alone (R451). -/
theorem fwBeat_law (d : Device) : (d.fw.buffer = [] → fwBeat d = d) ∧ (fwBeat d).fw.written = d.fw.written
    ∧ (fwBeat d).fw.flushed = d.fw.flushed ∧ (fwBeat d).fw.bank d.fw.active = d.fw.bank d.fw.active := by
  unfold fwBeat
  split
  · exact ⟨fun _ => rfl, rfl, rfl, rfl⟩
  · next c rest hb =>
    refine ⟨fun h => absurd (hb.symm.trans h) (by simp), ?_⟩
    split
    · exact ⟨(Firmware.onOther_frame ..).2, Firmware.flushed_take hb, (Firmware.onOther_bank ..).1⟩
    · exact ⟨rfl, rfl, rfl⟩

/-! ## The checks of a verification (R449) -/

theorem bankGood_eq_false {o : Otp} {x : Bank} (h : x.result o ≠ 0) : bankGood o x = false := by
  simpa [bankGood] using h

/-- A bank older than the counter or signed with a revoked key does not verify. -/
theorem Bank.result_of_revoked {o : Otp} {x : Bank} (h : x.secVer < o.arCount ∨ o.fwRevoked.getLsbD x.keyId = true) :
    x.result o ≠ 0 := by
  intro hz
  unfold Bank.result at hz
  split_ifs at hz with _ hv hr <;> simp_all

/-- An image for other hardware, with an unknown key, a wrong digest or a wrong signature does not verify. -/
theorem Bank.result_of_bad {o : Otp} {x : Bank} (hf : x.factory = false) (h : x.field 8 4 ≠ 0x1560 ∨ 1 < x.keyId
    ∨ Config.shake256 (x.bytes 256 x.bodyLen) 512 ≠ x.bytes 32 64
    ∨ Config.slhVerify (Config.firmwareKey x.keyId) (signedWith fwContext (x.bytes 0 256))
        (x.bytes (256 + x.bodyLen) 29792) = false) : x.result o ≠ 0 := by
  intro hz
  unfold Bank.result at hz
  split_ifs at hz <;> simp_all

/-! ## FW_CHUNK (R451) -/

section
variable {l : List Byte} {d : Device} (hl : l.length = 1024)
include hl

theorem cmdFwChunk_state (h : d.ctl.state ≠ .standby ∨ d.fw.state ≠ .receiving) : cmdFwChunk l d = (Abort.state, d) :=
  (if_neg (not_not.mpr hl)).trans (if_pos h)

variable (hs : d.ctl.state = .standby) (hr : d.fw.state = .receiving)
include hs hr

theorem cmdFwChunk_range (h : d.current 0x901002 0 % 1024 ≠ 0 ∨ 8388608 ≤ d.current 0x901002 0) :
    cmdFwChunk l d = (Abort.range, d) :=
  (if_neg (not_not.mpr hl)).trans ((if_neg (by simp [hs, hr])).trans (if_pos h))

variable (hm : d.current 0x901002 0 % 1024 = 0) (ho : d.current 0x901002 0 < 8388608)
  (hw : d.fw.written.contains (d.current 0x901002 0 / 1024) = false)
include hm ho hw

theorem cmdFwChunk_busy (h : 16 ≤ d.fw.buffer.length) : cmdFwChunk l d = (Abort.busy, d) :=
  (if_neg (not_not.mpr hl)).trans ((if_neg (by simp [hs, hr])).trans ((if_neg (by omega)).trans
    ((if_neg (Bool.eq_false_iff.mp hw)).trans (if_pos h))))

theorem cmdFwChunk_taken (h : d.fw.buffer.length < 16) : cmdFwChunk l d =
    (Abort.ok, pushLive 0x901002 (d.current 0x901002 0 + 1024) (d.onFw fun x => { x with
      buffer := x.buffer ++ [(d.current 0x901002 0 / 1024, l)], written := x.written ++ [d.current 0x901002 0 / 1024] })) :=
  (if_neg (not_not.mpr hl)).trans ((if_neg (by simp [hs, hr])).trans ((if_neg (by omega)).trans
    ((if_neg (Bool.eq_false_iff.mp hw)).trans (if_neg (Nat.not_le.mpr h)))))

end

/-! ## Attestation (R453) -/

theorem State.quoteBank_length (s : State) (x : Bank) : (s.quoteBank x).length = 40 := by
  simp [State.quoteBank, padTo_length]

theorem State.quoteFields_length (s : State) {l : List Byte} (h : l.length = 32) : (s.quoteFields l).length = 176 := by
  have htext : (ascii "NYMQ").length = 4 := by decide
  simp [State.quoteFields, State.quoteBank_length, padTo_length, h, htext]

/-- The signing of a quote starts: its fields are latched. -/
def signStart (nonce latched : List Byte) (d : Device) : Device :=
  cryptoAsk (2, 0) { d with boot := { d.boot with attest := 1, nonce, latched, quote := [] } }

theorem cmdAttest_starts {l : List Byte} {s : State} (hl : l.length = 32) (hi : s.dev.boot.idStatus = 1)
    (ha : s.dev.boot.attest ≠ 1) : cmdAttest l s = (Abort.ok, s.onDev (signStart l (s.quoteFields l))) :=
  (if_neg (not_not.mpr hl)).trans ((if_neg (not_not.mpr hi)).trans (if_neg ha))

theorem signStart_law (nonce latched : List Byte) (d : Device) : (signStart nonce latched d).boot =
      { d.boot with attest := 1, nonce, latched, quote := [] }
    ∧ (d.cross.crypto.holder = none → (signStart nonce latched d).cross.crypto.holder = some (2, 0)) :=
  ⟨cryptoAsk_boot _ _, fun h => cryptoAsk_holder (2, 0) (d := { d with
    boot := { d.boot with attest := 1, nonce, latched, quote := [] } }) h⟩

theorem quoteReady_boot (d : Device) : (quoteReady d).boot = { d.boot with
    attest := 2
    quote := d.boot.latched ++ padTo 17088 (Config.slhSign (signedWith (ascii "NYM-AQ") d.boot.latched)) } :=
  (cryptoFree_frame _ _).2

end Sys2Proof.Machine

/-! ## The statement -/

open Sys2Proof Sys2Proof.Machine

/-- Settles O54: each clause is the law of its row; the counter reads the fuses asked for because legal fuses have no gap. -/
theorem firmwareUpdate : Obligations.FirmwareUpdate := by
  unfold Obligations.FirmwareUpdate
  refine ⟨fun q s h hs => ?commands, fun q steps burned s h hs => ?refused, fun q steps s h hs => ?accepts,
    fun q steps burned s h hs => ?short,
    fun q steps burned s h hs hb => congrArg Host.Outcome.next (writeFw_accept_broken h hs steps burned hb),
    fun x hx => Firmware.loadRecord_saveRecord hx, fun o n k hk => o.getLsbD_burnFuses n hk,
    fun o n hl ha hn => Otp.arCount_burnFuses hl ha hn,
    fun s => ⟨fun h => congrArg Host.Outcome.next (if_pos h), fun h => congrArg Host.Outcome.next (if_neg h)⟩,
    fun x f => x.onOther_bank f, fun q l s h hl => ?chunk, fwBeat_law, fun s hv hb hh => ?verified, fun s h => ?notVerified,
    fun o x h => bankGood_eq_false (Bank.result_of_revoked h), fun o x hf h => bankGood_eq_false (Bank.result_of_bad hf h),
    fun q l s h hl hi ha => ?attest, fun q l s h hl => ⟨fun hi => ?attestState, fun hi ha => ?attestBusy⟩,
    fun s l hl => s.quoteFields_length hl, fun s ha hl => ?quote, fun s h => congrArg Host.Outcome.next (if_neg h)⟩
  case commands =>
    refine ⟨congrArg Host.Outcome.next (writeFw_open h hs), congrArg Host.Outcome.next (writeFw_abandon h hs),
      fun hr => congrArg Host.Outcome.next ?_, fun hr => congrArg Host.Outcome.next ?_,
      fun hv => congrArg Host.Outcome.next ?_, fun hv => congrArg Host.Outcome.next ?_⟩
    · exact writeFw_verify h hs (g := fun d => if s.dev.fw.complete then
        cryptoAsk (3, 0) (d.onFw fun x => { x with state := .verifying })
        else d.onFw fun x => { x with state := .failed, result := 9 }) (cmdFwVerify_receiving hr)
    · exact writeFw_verify h hs (g := id) (if_pos hr)
    · exact writeFw_select h hs (g := fun d => d.onFw fun x =>
        ({ x with state := .selected, next := some !x.active, trialStarted := false } : Firmware).saveRecord)
        (if_neg (not_not.mpr hv))
    · exact writeFw_select h hs (g := id) (if_pos hv)
  case refused =>
    exact ⟨congrArg Host.Outcome.next (writeFw_refused h hs (by decide) (by decide) 0 true),
      congrArg Host.Outcome.next (writeFw_refused h hs (by decide) (by decide) 0 true),
      congrArg Host.Outcome.next (writeFw_refused h hs (by decide) (by decide) 0 true),
      congrArg Host.Outcome.next (writeFw_refused h hs (by decide) (by decide) 0 true),
      congrArg Host.Outcome.next (writeFw_refused h hs (by decide) (by decide) steps burned)⟩
  case accepts =>
    intro x hf hk hx hn
    exact congrArg Host.Outcome.next (writeFw_accept h hs hf hk (cmdFwAccept_done (s := s.touched q) hx hn))
  case short =>
    intro x hf hk hx hn
    refine ⟨_, congrArg Host.Outcome.next (writeFw_accept h hs hf hk (cmdFwAccept_short burned (s := s.touched q) hx hn)),
      rfl, rfl, ?_⟩
    cases burned with
    | false => simp [State.touched, Device.onFw]
    | true => simp [State.touched]
  case chunk =>
    intro off
    refine ⟨fun hs hr hm ho hw hb => congrArg Host.Outcome.next ?_, fun hs => congrArg Host.Outcome.next ?_,
      fun hs hr ho => congrArg Host.Outcome.next ?_, fun hs hr hm ho hw hb => congrArg Host.Outcome.next ?_⟩
    · exact hostWrite_devCmd (g := fun d => pushLive 0x901002 (off + 1024) (d.onFw fun x =>
        { x with buffer := x.buffer ++ [(off / 1024, l)], written := x.written ++ [off / 1024] })) h
        (cmdFwChunk_taken hl hs hr hm ho hw hb)
    · exact hostWrite_devCmd_refused h (cmdFwChunk_state hl hs)
    · exact hostWrite_devCmd_refused h (cmdFwChunk_range hl hs hr ho)
    · exact hostWrite_devCmd_refused h (cmdFwChunk_busy hl hs hr hm ho hw hb)
  case verified =>
    refine (congrArg Host.Outcome.next (if_pos ⟨hv, hb, hh⟩)).trans (next_onDev ?_)
    simp only [fwVerified, Device.onFw, (cryptoFree_frame _ _).1]
  case notVerified =>
    refine congrArg Host.Outcome.next (if_neg fun hc => ?_)
    obtain ⟨hv, hb, hh⟩ := hc
    obtain h | h | h := h
    · exact h hv
    · exact h hb
    · exact h hh
  case attest =>
    have hrun := hostWrite_runs_onDev h (cmdAttest_starts (s := s.touched q) hl hi ha)
    obtain ⟨hboot, hholder⟩ := signStart_law l ((s.touched q).quoteFields l) (touchPath q s.dev)
    refine ⟨_, congrArg Host.Outcome.next hrun, rfl, rfl, ?_⟩
    simp only [State.onDev_dev, answer_frame, hboot]
    exact ⟨trivial, trivial, rfl, hholder⟩
  case attestState =>
    exact congrArg Host.Outcome.next (hostWrite_runs_onDev (g := id) h ((if_neg (not_not.mpr hl)).trans (if_pos hi)))
  case attestBusy =>
    exact congrArg Host.Outcome.next (hostWrite_runs_onDev (g := id) h
      ((if_neg (not_not.mpr hl)).trans ((if_neg (not_not.mpr hi)).trans (if_pos ha))))
  case quote =>
    refine ⟨s.onDev quoteReady, congrArg Host.Outcome.next (if_pos ha), rfl, rfl, ?_⟩
    rw [State.onDev_dev, quoteReady_boot]
    refine ⟨rfl, ?_, ?_⟩
    · simp [hl, padTo_length]
    · simp [← hl]
end
